-- ==== Sys2Proof/Word.lean ====
section
/-! DEFINITION. The plainest types: bytes, words, and the sparse table that every keyed piece of state uses. -/

namespace Sys2Proof

/-- One byte. -/
abbrev Byte := BitVec 8

/-- One 32-bit register word of BAR0. -/
abbrev Word := BitVec 32

/-- A sparse table keyed by a number, held as a list with strictly rising keys (the canonical form of `AMap.wf`). -/
abbrev AMap (α : Type) := List (Nat × α)

/-- A byte memory: the listed bytes; an unlisted address reads as zero (assumption log 8). -/
abbrev Mem := List (Nat × BitVec 8)

end Sys2Proof
end

