-- ==== Sys2Proof/Syntax.lean ====
section
/-! DEFINITION. The commands of the block: one constructor per row of the operation table, with the operands each carries, and
the records that operands are made of. -/

namespace Sys2Proof

/-- The four ring kinds (Table 14-1). -/
inductive RingKind where
  | cmd | cpl | ev | ex
  deriving DecidableEq, Repr

/-- Which in-flight command a command row is: its command ring and the slot it was fetched from. -/
structure CmdRef where
  ring : Nat
  slot : Nat
  deriving DecidableEq, Repr

/-- A descriptor as the fetch finds it in host memory (Table 14-3): opcode, TAG, the BARRIER and NO_IRQ flags, whether its
INDIRECT address and length and its 64-byte aligned fields keep R306, and whether reading its block meets a PCIe error. -/
structure Descriptor where
  opcode : Nat
  tag : Nat
  barrier : Bool
  noIrq : Bool
  blockOk : Bool
  readError : Bool
  deriving DecidableEq, Repr

/-- An authorisation blob (Table 18-4): its fields, the digest of its signer's keys (bytes 96 to 2,791), whether both
signatures verify, and the AUTH_ADDR it is read from. -/
structure AuthBlob where
  kind : Nat
  target : Nat
  signer : Nat
  deviceId : Nat
  nonce : Nat
  notAfter : Nat
  ownerDigest : Nat
  keysDigest : Nat
  signed : Bool
  host : Nat
  deriving DecidableEq, Repr

/-- Which path a register access or a keeper-flash sequence came by (R11, R419). -/
inductive Path where
  | pcie | mgmt
  deriving DecidableEq, Repr

/-- One component entry of a package manifest with the image it names (Table 21-2): `image` is what the package carries at OFFSET, `digest`
the SHA-384 of the plaintext; IV is a big-endian number, TAG and DIGEST little-endian ones. -/
structure Component where
  type : Nat
  svn : Nat
  offset : Nat
  iv : Nat
  tag : Nat
  digest : Nat
  image : List Byte
  deriving DecidableEq, Repr

/-- A firmware package (Table 21-2): `length` is its LENGTH, `keysDigest` the SHA-384 of its two public keys, and `signed` says whether both
signatures verify under them (R437). -/
structure Package where
  magic : Nat
  version : Nat
  flags : Nat
  imageSvn : Nat
  fuseEpoch : Nat
  count : Nat
  schema : Nat
  length : Nat
  components : List Component
  keysDigest : Nat
  signed : Bool
  deriving DecidableEq, Repr

/-- A Cerga request packet as it arrives at a port (R88, Table 5-1). `fragment` and `options` say what its IPv4 header carries,
`extension` that its IPv6 header has extension headers, `lengthOk` that its UDP and IP lengths agree, `sumOk` that its UDP checksum is
zero or verifies; `src` is the source address and source port; `prio` the priority of an 802.1Q tag; `port` is 4 × port + sub-port;
`ce` says it carries CE, `queued` how many bytes of other traffic its port's ingress buffer holds ahead of it; `frame` its bytes at the
MAC (R322); `keyx` the space key of the key extension and `data` the payload, both as the ciphertext decrypts under the stream key;
`arrive` the MAC's timestamp; `tag` the 16-byte GCM tag, as a little-endian number (R89). -/
structure CergaPacket where
  port : Nat
  ipv6 : Bool
  fragment : Bool
  options : Bool
  extension : Bool
  lengthOk : Bool
  sumOk : Bool
  udpPort : Nat
  ver : Nat
  src : Nat
  dscp : Nat
  prio : Option Nat
  ce : Bool
  queued : Nat
  frame : Nat
  last : Bool
  keyx : Option Nat
  epoch : Nat
  queue : Nat
  seq : Nat
  incarnation : Nat
  xmit : Nat
  addr : Nat
  len : Nat
  offset : Nat
  data : List Byte
  arrive : Nat
  tag : Nat
  deriving DecidableEq, Repr

/-- A RoCEv2 request packet as it arrives (R120 to R122): its UDP destination port, whether its IPv4 header checksum and its ICRC
verify, BTH fields, the RETH or AtomicETH fields (`va`, `rkey`, `dmaLen`, `swapAdd`, `compare`), its payload, its DSCP and 802.1Q
priority, the CE mark, and the bytes of other traffic that its port's ingress buffer holds ahead of it. -/
structure RocePacket where
  port : Nat
  ipv6 : Bool
  udpPort : Nat
  ipSumOk : Bool
  icrcOk : Bool
  dscp : Nat
  prio : Option Nat
  ce : Bool
  queued : Nat
  frame : Nat
  srcIp : Nat
  qpn : Nat
  bth : Nat
  psn : Nat
  ackReq : Bool
  va : Nat
  rkey : Nat
  dmaLen : Nat
  swapAdd : Nat
  compare : Nat
  data : List Byte
  deriving DecidableEq, Repr

/-- The 32-byte prefix of a mirror record (Table 8-4): pair-local address, the source's QUEUE_ID, QPN or ring, its SEQ, PSN or
descriptor index, PD, KIND of Table 4-3, FLAGS and EPOCH; bit 0 of FLAGS says that the record is an atomic's. -/
structure MirrorPrefix where
  addr : Nat
  queue : Nat
  seq : Nat
  pd : Nat
  kind : Nat
  flags : Nat
  epoch : Nat
  deriving DecidableEq, Repr

/-- What the training of one DRAM channel found (Table 11-3): modules present (`type` 1 RDIMM, 2 MRDIMM; 0 none), two modules per
channel, the channel's capacity in GiB, ranks, row bits, the highest data rate every module supports in MT/s, and the cause of
Table 11-5 with its lane where a step failed (0 = passed); `spare` is the least number of spare rows left in a bank group. -/
structure DramReport where
  channel : Nat
  type : Nat
  dpc2 : Bool
  gib : Nat
  ranks : Nat
  rowBits : Nat
  rate : Nat
  cause : Nat
  lane : Nat
  spare : Nat
  deriving DecidableEq, Repr

/-- What the flash start found on one channel (Table 12-4, steps 1 to 3): number of dies, raw die capacity in GiB, the highest rate
every die supports in MT/s, rated endurance, blocks per die, and the cause of FLASH_CH_n_STATUS with its lane (0 = passed). -/
structure FlashReport where
  channel : Nat
  dies : Nat
  gib : Nat
  rate : Nat
  rated : Nat
  blocks : Nat
  cause : Nat
  lane : Nat
  deriving DecidableEq, Repr

/-- The logical 4 KiB page of a codeword (R268): a pair-local page of the image, a page of a tile of an object, or system data. -/
inductive FlashPage where
  | image (page : Nat)
  | shelf (object tile page : Nat)
  | system (n : Nat)
  deriving DecidableEq, Repr

/-- A place in flash: channel, die, and block of the die. -/
structure FlashBlock where
  channel : Nat
  die : Nat
  block : Nat
  deriving DecidableEq, Repr

/-- What a scrubber finds where it reads (R297): a DRAM chunk by media address, a word of an SRAM row by macro and row with what it
holds (kind: 0 ETT, 1 region, 2 PD, 3 binding, 4 queue record, 11 lock, 12 tile-directory entry; a cached context, 5 Cerga and 6 QP changed
since it was fetched, 7 and 8 not changed; 10 packet in a reorder store, 13 packet in a MAC buffer, each by its place among those held;
any other kind is a memory that recovers by itself), a word of a near-cache line by line number with its macro and row, or a byte of a
gather entry with its macro and row. -/
inductive ScrubPlace where
  | dram (addr : Nat)
  | sram (macro_ row kind index : Nat)
  | near (macro_ row line : Nat)
  | gather (macro_ row entry byte : Nat)
  deriving DecidableEq, Repr

/-- QP_MODIFY's parameters, in the order of Table 6-4 after QPN and STATE. -/
structure QpParams where
  maxRd : Nat
  minRnr : Nat
  tclass : Nat
  dqpn : Nat
  psn : Nat
  dip : Nat
  flow : Nat
  hop : Nat
  deriving DecidableEq, Repr

/-- The parameters of a CIPHER_OP (Table 17-9); `data` is host memory from IN_ADDR, `iv` the IV_TWEAK field. -/
structure CipherParams where
  mode : Nat
  first : Bool
  last : Bool
  slot : Nat
  context : Nat
  len : Nat
  aad : Nat
  input : Nat
  out : Nat
  iv : Nat
  data : List Byte
  deriving DecidableEq, Repr

/-- The straps as the keeper samples them before it releases the core die (R451). -/
structure Straps where
  roleSel : Nat
  pairSide : Nat
  bootSel : Nat
  deriving DecidableEq, Repr

/-- What goes with a Quench: the straps sampled before it, and what it reports in LIFE_QUENCH (R392), its duration and the SRAM rows, by
macro and row, that did not read zero. -/
structure QuenchReport where
  straps : Straps
  micros : Nat
  bad : List (Nat × Nat)
  deriving DecidableEq, Repr

/-- A domain message as it arrives, but for its body (R337, Table 16-2): what R88 judges of its IP and UDP headers, source address and UDP
destination port, the header's fields, and the GCM tag as a little-endian number. The body's fields are the row's other operands, as the
ciphertext decrypts under the domain key. -/
structure DomainHeader where
  ipv6 : Bool
  fragment : Bool
  options : Bool
  extension : Bool
  lengthOk : Bool
  sumOk : Bool
  src : Nat
  udpPort : Nat
  ver : Nat
  srcPair : Nat
  srcSide : Nat
  counter : Nat
  tokenEpoch : Nat
  msgId : Nat
  sendTime : Nat
  tag : Nat
  deriving DecidableEq, Repr

/-- One region entry of a DIR_UPDATE (Table 16-5): ACTION 0 for a region that is there, 1 for one that is gone (assumption log 35);
`base` is pair-local. -/
structure DirChange where
  action : Nat
  region : Nat
  base : Nat
  size : Nat
  flags : Nat
  deriving DecidableEq, Repr


/-- The commands: every row of spec/opcode_table.json. A docstring names the row's rule and says what each operand is. -/
inductive Instr where
  /-- R2. A write to a register field that has no row of its own stores the value under its access code; partial writes are
  ignored under R463. -/
  | registerWrite (off v : Nat) (full : Bool)
  /-- R464. A read of the _LO half of a 64-bit RO pair captures the whole value for the next _HI read from the same path. -/
  | counterPairCapture (p : Path) (off : Nat)
  /-- R473. A write to PORT_n_CTRL enables a port or changes its rate; the pace target is recomputed and admission opening follows
  R25. -/
  | portCtrlWrite (n v : Nat)
  /-- R25. After a rate raise or a port enable, admission on the port opens once MIN_MHZ reaches the new target or 10 ms have
  passed. -/
  | portAdmissionOpen (n : Nat)
  /-- R470. A write of 0x0000_A55A to GLOBAL_RESET sets RESET_ARMED for 1 ms. -/
  | globalResetArm
  /-- R470. A write of 0x0000_5AA5 while RESET_ARMED is set starts a save with trigger 3. -/
  | globalResetFire
  /-- R470. RESET_ARMED clears when 1 ms passes without the second write. -/
  | resetArmExpiry
  /-- R469. A write to a service address field takes effect at once, and the holder announces the new address. -/
  | svcAddressWrite (off v : Nat)
  /-- R215. A write of 0 to NEAR_CTRL.ENABLE while the cache is ENABLED enters DISABLING and starts the flush. -/
  | nearCacheDisable (maxLockWays : Nat)
  /-- R215. A write of 1 to NEAR_CTRL.ENABLE enables the cache, after DISABLED is reached, and reloads the lock ranges. -/
  | nearCacheEnable (maxLockWays : Nat)
  /-- R224. A write to TIER_STAGE.STAGE_GIB grows the stage partition at once, or shrinks it by evicting unreferenced tiles. -/
  | tierStageWrite (v : Nat)
  /-- R303. Setting CFG.ENABLE latches the base, size and binding of a ring; the ring goes to ERROR if the base is misaligned. -/
  | ringEnable (k : RingKind) (n : Nat)
  /-- R318. Clearing CFG.ENABLE discards unfetched descriptors and drains the ring to DISABLED. -/
  | ringDisable (k : RingKind) (n : Nat)
  /-- R304. A doorbell write of a new command-ring tail makes descriptors available for fetch. -/
  | cmdTail (n v : Nat)
  /-- R304. A doorbell write of a new completion-ring head releases entries and may restart the coalescing timer. -/
  | cplHead (n v : Nat)
  /-- R304. A doorbell write of a new event-ring head releases entries, so that held event records can be written. -/
  | evHead (m v : Nat)
  /-- R304. A doorbell write of a new export-ring head releases entries, so that held export records can be written. -/
  | exHead (k v : Nat)
  /-- R417. A write of 1 to KEEPER_CTRL.COMMIT stores every RW field of KEEPER_WIN in keeper flash. -/
  | keeperCommit (p : Path) (v : Nat)
  /-- R420. A window sequence programs one word of keeper flash. -/
  | wordProgram (p : Path) (off word : Nat)
  /-- R420. A window sequence programs up to 16 words of one 64-byte line of keeper flash. -/
  | bufferProgram (p : Path) (off : Nat) (words : List Nat)
  /-- R423. A window sequence erases one keeper flash sector, using the STARTED and DONE erase flags. -/
  | sectorErase (p : Path) (off : Nat)
  /-- R420. A write of 0xF0 to the window ends a sequence silently. -/
  | abort (p : Path)
  /-- R420. A gap of more than 10 ms between the writes of a window sequence ends it with ERROR SEQUENCE. -/
  | sequenceGapTimeout (p : Path)
  /-- R429. A write of a SEQ to KEEPER_LOG_SEL places that record in KEEPER_LOG_DATA, or sets NOT_FOUND. -/
  | logRecordSelect (p : Path) (q : Nat)
  /-- R311. The H9 fetches pending descriptors from the enabled command rings in round robin, within the command and completion
  limits. -/
  | descriptorFetch (n : Nat) (ds : List Descriptor) (error : Bool)
  /-- R313. When a command ends, its completion is written after journaling, application to the standby and its event records. -/
  | commandCompletion (r : CmdRef)
  /-- R314. COAL.US expires on a ring the H9 writes, and the ring signals its MSI-X vector. -/
  | coalescingTimer (k : RingKind) (n : Nat)
  /-- R316. A PCIe Function Level Reset disables all rings and resets the RING, DOORBELL and MSIX blocks. -/
  | functionLevelReset
  /-- R318. Loss of the PCIe link disables all rings; accepted commands finish without completion entries. -/
  | pcieLinkDown
  /-- R57. Command that allocates a region with the lowest FREE ID, its DRAM and its ETT entries, and zero-fills it. -/
  | regionCreate (r : CmdRef) (base size flags object key peer : Nat)
  /-- R40. Command that grows or shrinks a WRITABLE region while keeping its base. -/
  | regionResize (r : CmdRef) (region newSize peer : Nat)
  /-- R55. Command that drains and removes a region with all its bindings. -/
  | regionDestroy (r : CmdRef) (region : Nat)
  /-- R38. Command that sets or clears MIRRORED and PIN_NEAR on a region. -/
  | regionSetFlags (r : CmdRef) (region set clear peer : Nat)
  /-- R47. Command that makes a PD IN_USE with space key 0. -/
  | pdCreate (r : CmdRef) (pd : Nat)
  /-- R56. Command that removes a PD's bindings and frees it, unless queues or QPs belong to it. -/
  | pdDestroy (r : CmdRef) (pd : Nat)
  /-- R51. Command that grants a PD RO or RW access to a region. -/
  | pdBindRegion (r : CmdRef) (pd region access : Nat)
  /-- R55. Command that removes a binding; it completes after the drain of the operations admitted under it. -/
  | pdUnbindRegion (r : CmdRef) (pd region : Nat)
  /-- R50. Command that replaces a PD's space key, with an optional grace period for the previous key. -/
  | spacekeySet (r : CmdRef) (pd key grace : Nat)
  /-- R93. Command that creates a queue record with its GEN, PD and key slot. -/
  | queueCreate (r : CmdRef) (id pd key : Nat)
  /-- R118. Command that stops admission for a queue, discards its unadmitted packets and completes after the drain. -/
  | queueDestroy (r : CmdRef) (id : Nat)
  /-- R123. Command that creates a RoCEv2 QP in INIT under a PD. -/
  | qpCreate (r : CmdRef) (num pd : Nat)
  /-- R123. Command that moves a QP to INIT, RTR, RTS or ERR and sets its connection parameters. -/
  | qpModify (r : CmdRef) (num state : Nat) (p : QpParams)
  /-- R124. Command that stops a QP's admission and frees the QP after the drain. -/
  | qpDestroy (r : CmdRef) (num : Nat)
  /-- R364. Command that fills an empty key slot from GENERATE, REGISTERS or WRAPPED. -/
  | keyCommit (r : CmdRef) (id type source flags wrapId blob : Nat)
  /-- R367. Command that destroys a key slot, optionally with a cascade, and re-wraps the key table under a new table key. -/
  | keyDestroy (r : CmdRef) (id flags : Nat)
  /-- R373. Command that applies a HOST slot to host memory with XTS, GCM or CMAC. -/
  | cipherOp (r : CmdRef) (params : CipherParams)
  /-- R374. Command that writes a cipher context to host memory, wrapped or in clear. -/
  | contextSave (r : CmdRef) (context form addr : Nat)
  /-- R374. Command that loads a saved cipher context record into a context. -/
  | contextRestore (r : CmdRef) (context form addr : Nat) (record : List Byte)
  /-- R219. Command that creates a shelf object in LOADING with its tile size, key and owner. -/
  | shelfObjectCreate (r : CmdRef) (id tileCode flags key size owner tag : Nat)
  /-- R223. Command that copies one piece of an object from host memory into the shelf area of flash. -/
  | shelfObjectLoad (r : CmdRef) (id flags off host : Nat) (data : List Byte)
  /-- R222. Command that moves an unmapped object to DROPPING and releases its flash blocks. -/
  | shelfObjectDrop (r : CmdRef) (id : Nat)
  /-- R229. Command that loads a prefetch schedule and its cursors for an object. -/
  | scheduleLoad (r : CmdRef) (id flags lookahead object pd cursors entries host : Nat) (list : List Nat)
  /-- R239. Command that drops a schedule and the references held by its cursors. -/
  | scheduleDrop (r : CmdRef) (id : Nat)
  /-- R210. Command that makes a range of a PIN_NEAR region resident and locks its lines in the near cache. -/
  | cacheLock (r : CmdRef) (region off len : Nat)
  /-- R212. Command that removes a lock-table range and clears LOCK on the lines no other range covers. -/
  | cacheUnlock (r : CmdRef) (region off len : Nat)
  /-- R214. Command that writes back and invalidates every line of a range; locked lines become locked-empty. -/
  | cacheRangeInvalidate (r : CmdRef) (region off len : Nat)
  /-- R319. Command that creates or closes a metering account. -/
  | accountCreate (r : CmdRef) (account mode tenant : Nat)
  /-- R320. Command that gives a PD or a WRITABLE region an account. -/
  | accountBind (r : CmdRef) (kind target account : Nat)
  /-- R327. Command that sends the records of a range of accounts to an export ring. -/
  | meterExportSetup (r : CmdRef) (ring flags first last : Nat)
  /-- R331. Command that sets a PD's operation and byte token buckets and refills both of them. -/
  | shaperSet (r : CmdRef) (pd opsRate opsBurst bytesRate burstKib : Nat)
  /-- R161. Command that binds an H9 to its peer and pairing key, or unpairs it. -/
  | twinPair (r : CmdRef) (peer keyId home flags : Nat)
  /-- R199. Command that yields the token at the active, or forces it to the standby with FORCE_STALE. -/
  | twinSwitch (r : CmdRef) (mode tag : Nat)
  /-- R199. Command that starts a DIVERGED or FULL resync. -/
  | twinResync (r : CmdRef) (mode : Nat)
  /-- R348. Command that joins a worker to a domain, founds a domain or sets the witness workers. -/
  | domainJoin (r : CmdRef) (mode keyId managerIp w0 w1 w2 peerRole : Nat)
  /-- R349. Command that removes a pair from the domain, as LEAVE or as EVICT. -/
  | domainLeave (r : CmdRef) (mode pair : Nat)
  /-- R441. Command that copies a package into a free slot, verifies it and sets the slot STAGED. -/
  | fwStage (r : CmdRef) (host length : Nat) (p : Package)
  /-- R441. Command that sets a slot TRIAL and starts a save with trigger 3. -/
  | fwActivate (r : CmdRef) (slot : Nat)
  /-- R441. Command that raises the floors, blows fuses and makes the running TRIAL slot COMMITTED. -/
  | fwCommit (r : CmdRef)
  /-- R383. Command that requests a life-cycle or debug change with a signed authorisation. -/
  | lifecycleRequest (r : CmdRef) (kind target len : Nat) (b : AuthBlob)
  /-- R393. Command that writes a signed Hallmark report binding a challenge to host memory. -/
  | hallmarkIssue (r : CmdRef) (challenge host : Nat)
  /-- R310. Command that copies ETT entries or the DRAM error log to host memory. -/
  | diagRead (r : CmdRef) (space index count host : Nat)
  /-- R84. Command that copies ledger records to host memory and optionally releases them. -/
  | ledgerRead (r : CmdRef) (host start count flags : Nat)
  /-- R87. Command that reads a region into host memory under a PD and its space key. -/
  | memopRead (r : CmdRef) (pd key addr len host : Nat)
  /-- R87. Command that writes host memory into a region under a PD and its space key. -/
  | memopWrite (r : CmdRef) (pd key addr len host : Nat) (data : List Byte)
  /-- R158. Command that starts a save with trigger 6, ending in P3 KEEP or in a restart. -/
  | saveNow (r : CmdRef) (action tag : Nat)
  /-- R389. Command that enters P1, P2 or P3 KEEP. -/
  | quiesce (r : CmdRef) (level flags : Nat)
  /-- R389. Command that leaves P1 or P2 and returns to P0. -/
  | resume (r : CmdRef) (mask : Nat)
  /-- R414. Mailbox operation that reads a PACE, LIFE or KEEPER_WIN register. -/
  | mboxRead (seq off : Nat)
  /-- R414. Mailbox operation that writes a PACE, LIFE or KEEPER_WIN register. -/
  | mboxWrite (seq off v : Nat)
  /-- R414. Mailbox operation that starts a full start from P3 KEEP, OFF or LOCKOUT. -/
  | wake (seq : Nat) (imageOk : Bool)
  /-- R414. Mailbox operation that returns KEEPER_STATUS, KEEPER_FEED_STATUS and LIFE_STATE. -/
  | mboxStatus (seq : Nat)
  /-- R429. Mailbox operation that returns up to three keeper log records. -/
  | eventRead (seq start count : Nat)
  /-- R415. Mailbox operation that writes words of an authorisation blob into the keeper staging buffer. -/
  | authChunk (seq off : Nat) (words : List Nat)
  /-- R414. Mailbox operation that verifies the staged blob and requests a life-cycle or debug change. -/
  | lifecycleSubmit (seq kind target len : Nat) (signed : Bool)
  /-- R64. Cerga READ request, taken through the receive steps, admitted and served from the near cache or DRAM. -/
  | read (p : CergaPacket)
  /-- R108. Cerga WRITE packet, first or later, classed, admitted or placed, and mirrored where the region is MIRRORED. -/
  | write (p : CergaPacket)
  /-- R62. Cerga 8-byte compare-and-swap executed in the near cache. -/
  | cas8 (p : CergaPacket)
  /-- R62. Cerga 16-byte compare-and-swap executed in the near cache. -/
  | cas16 (p : CergaPacket)
  /-- R62. Cerga 8-byte fetch-and-add executed in the near cache. -/
  | fadd8 (p : CergaPacket)
  /-- R73. Cerga FENCE of scope STREAM or PD, which holds later operations until earlier ones are durable. -/
  | fence (p : CergaPacket)
  /-- R231. Cerga read of a shelf region that may move a consumer cursor. -/
  | shelfRead (p : CergaPacket)
  /-- R232. Cerga request that moves a cursor along its schedule. -/
  | scheduleAdvance (p : CergaPacket)
  /-- R113. Cerga request that lists or releases the asking stream's ledger records. -/
  | ledgerQuery (p : CergaPacket)
  /-- R114. Cerga request for a Hallmark report bound to a challenge. -/
  | hallmark (p : CergaPacket)
  /-- R115. Cerga request that returns the arrival timestamp and time status. -/
  | timeQuery (p : CergaPacket)
  /-- R102. Cerga packet with opcode 0x40 that advances RESP_ACK and frees result-cache entries. -/
  | clientAcknowledgement (p : CergaPacket)
  /-- R103. ACK_DELAY_NS passes after a new packet that no ACK covers, and an ACK is sent. -/
  | ackDelayTimer (index : Nat)
  /-- R109. The assembly timer of a multi-packet operation expires, and the operation ends PARTIAL. -/
  | assemblyTimerExpiry (tag : Nat)
  /-- R96. A stream idle for LAPSE_S with nothing pending lapses, and its window and result cache are freed. -/
  | streamLapse (index : Nat)
  /-- R99. A packet held for in-order admission is processed once CUM reaches it. -/
  | heldPacketAdmission (queue seq : Nat)
  /-- R97. A queue context fetched from DRAM arrives, and the waiting packet proceeds. -/
  | contextFetchComplete (index : Nat)
  /-- R76. No operation tag frees within 100 µs of a request reaching admission, and the request completes BUSY. -/
  | tagWaitTimeout (queue seq : Nat)
  /-- R84. 900 s after the pair returns to service, unreleased ledger records are released. -/
  | ledgerReleaseTimeout
  /-- R130. RoCEv2 RDMA WRITE packet (First, Middle, Last or Only), classed by PSN and placed. -/
  | rdmaWrite (p : RocePacket)
  /-- R127. RoCEv2 RDMA READ Request, classed by PSN and answered with read responses. -/
  | rdmaReadRequest (p : RocePacket)
  /-- R63. RoCEv2 ATOMIC CmpSwap, handled as CAS8. -/
  | cmpswap (p : RocePacket)
  /-- R63. RoCEv2 ATOMIC FetchAdd, handled as FADD8. -/
  | fetchadd (p : RocePacket)
  /-- R121. A RoCEv2 packet with a SEND, response or unknown opcode is NAKed Invalid Request or dropped and counted. -/
  | roceUnsupportedOpcode (p : RocePacket)
  /-- R121. A received RoCEv2 CNP is counted and otherwise ignored. -/
  | cnp (p : RocePacket)
  /-- R126. A QP context fetched from DRAM arrives, and the parked packets are replayed in order. -/
  | qpContextFetchComplete (index : Nat)
  /-- R132. The next packet of an admitted RDMA WRITE does not arrive within ASSEMBLY_US; the write ends PARTIAL and the QP goes
  to ERR. -/
  | roceAssemblyTimeout (tag : Nat)
  /-- R69. An operation reaches its end, its response is sent in stream order, and its tag is freed. -/
  | operationCompletion (tag : Nat)
  /-- R41. Zero-fill of a new region or a grow ends, and the region becomes ACTIVE. -/
  | zeroFillComplete (region : Nat)
  /-- R55. The last operation admitted under a removed access completes, and the removing command may complete. -/
  | drainComplete (place : Nat)
  /-- R55. DRAIN_MS after a removing command's acceptance, the operations still running are cut PARTIAL. -/
  | drainLimit (place : Nat)
  /-- R50. The grace period of a previous space key ends, and the key stops matching. -/
  | gracePeriodEnd (pd : Nat)
  /-- R26. Every 100 µs the keeper compares MIN_MHZ with TARGET_MHZ, adjusts VDD_CORE and recomputes the admission fraction F. -/
  | loopPeriod (answered : Bool)
  /-- R22. Each 40 µs count of a pace monitor yields a reading, which is checked for plausibility. -/
  | paceMonitorSample (n mhz : Nat)
  /-- R28. Once per second the keeper retries AVSBus after an AVS fault. -/
  | avsRetry (answered : Bool)
  /-- R136. An accepted write is applied from the gather buffer to the near cache or to DRAM. -/
  | gatherApply (entry : Nat)
  /-- R138. The durability unit reads the oldest dirty page, encrypts it and queues its program into the image log. -/
  | writeBackIssue (tagOk : Bool)
  /-- R144. Every 10 s, after a test, or on a die loss, the dirty budget is recomputed. -/
  | budgetRecomputation (mv : Nat)
  /-- R147. d has stayed 2 points below a stage threshold for 1 ms, and the stage falls. -/
  | stageFallTimer
  /-- R148. In HOLD, the head write is admitted once D plus its new pages stays below 98 % of the budget. -/
  | holdAdmission
  /-- R148. A write not admitted within HOLD_US completes BUSY. -/
  | holdTimeout (queue seq : Nat)
  /-- R503. A 2 MiB unit whose pages have all been clean for 10 s has its running dirty map bit cleared. -/
  | dirtyMapClear (unit : Nat)
  /-- R155. The hold-up bank reaches V_floor before the save ends, and the save is recorded incomplete. -/
  | bankAtFloor
  /-- R152. A step of the hard-wired save sequence ends at its bound or on completion, and the next step begins. -/
  | saveStepComplete
  /-- R151. Save step 9 ends, and the action after the save is taken: shut-down, P3 KEEP, or Quench and restart. -/
  | saveSequenceEnd (mv : Nat) (q : QuenchReport)
  /-- R145. INTERVAL_H passes; the test budget is computed and governs the stages. -/
  | holdupTestDue
  /-- R410. Once D is at or below the test budget and the bank is steady, V0 is measured and the test load is connected. -/
  | holdupTestStart (v0 : Nat)
  /-- R410. 100 µs after the load is connected, V1 is read and the ESR is computed. -/
  | holdupTestV1Read (v1 : Nat)
  /-- R410. V_bank reaches V_end; the load is removed and C is computed. -/
  | holdupTestVEnd (mv : Nat)
  /-- R410. TEST_MAX_S passes before V_end, and the test is aborted. -/
  | holdupTestTimeout
  /-- R410. The bank has recharged to within 1 % of V0, and the budget is recomputed. -/
  | holdupRechargeDone (mv : Nat)
  /-- R146. 10 min after an aborted test, the test is tried again. -/
  | holdupTestRetry
  /-- R146. No valid test for 2 × INTERVAL_H, so C is taken as 0. -/
  | holdupStaleTimer
  /-- R411. Every 60 s the keeper pulses HOLDUP_TEST_EN for 20 µs and updates the tracked ESR. -/
  | esrPulse (v0 v1 : Nat)
  /-- R169. Loss of signal leaves fewer than 8 Braze lanes, and the link is declared DOWN. -/
  | brazeLossOfSignal
  /-- R169. No Braze frame passes its tag check for DEAD_US, and the link is declared DOWN. -/
  | brazeDeadTimeout
  /-- R163. Braze training ends with a width chosen, IDENT checked and link keys derived; the link is UP. -/
  | brazeTrainingComplete (lanes : Nat)
  /-- R163. The 1 s or 10 s retry timer of a DOWN or MISCABLED link expires, and training starts again. -/
  | brazeTrainingRetry
  /-- R167. A Braze frame arrives and is checked for its tag and its FRAME_SEQ order before its items are applied. -/
  | brazeFrame (dir credit tokenEpoch seq : Nat) (cipher tag : List Byte)
  /-- R170. Braze item carrying a mirror record, accepted by the standby in MSN order into its gather buffer. -/
  | mirror (queue msn recordLen : Nat) (epochEnd : Bool) (p : MirrorPrefix) (data : List Byte)
  /-- R171. Braze item carrying further data of a cut-through mirror record. -/
  | mirrorCont (queue msn offset : Nat) (epochEnd : Bool) (data : List Byte)
  /-- R172. Braze item that ends an unfinishable cut-through record; the standby discards it. -/
  | dropRemainder (queue msn : Nat)
  /-- R174. Braze item reporting the highest MSN the standby accepted per queue; mirrored writes reach their durability point. -/
  | mirrorAck (msns : List Nat)
  /-- R117. Braze item carrying stream openings, SEQ ranges, atomic responses and RESP_ACK advances to the standby. -/
  | streamState (fields : List Nat)
  /-- R57. Braze item carrying a management command for the standby to apply. -/
  | command (number opcode : Nat) (params : List Nat)
  /-- R176. Braze item renewing the holder's lease; the standby answers LEASE_ACK at once. -/
  | leaseRenew (sentAt : Nat)
  /-- R176. Braze item acknowledging a renewal, which moves the holder's lease end. -/
  | leaseAck (sentAt : Nat)
  /-- R169. Braze item reporting the peer's stage, d, SYNC, feed state, save step, ACCEPTING and F. -/
  | status (stage d sync feedA feedB saveStep : Nat) (accepting : Bool) (fraction : Nat)
  /-- R184. Braze item carrying a twin's CMAC for an Assay epoch, compared with the local value. -/
  | assayDigest (queue last count mac : Nat)
  /-- R185. Braze item carrying a sampled read for the standby to compare. -/
  | shadow (addr len lastQueue lastMsn mac : Nat)
  /-- R186. Braze item with the tie-break results per page, which decide Table 8-6. -/
  | verdict (results : List (Nat × Bool))
  /-- R188. Braze item that starts the standby's part of a yield: accept up to the final MSNs, answer and record the new epoch. -/
  | handover (msns : List Nat) (epoch leaseLeft : Nat) (save : Bool)
  /-- R188. Braze item confirming the handover; the old active lowers TWIN_TOKEN_IND and the new active opens admission. -/
  | handoverAck (epoch : Nat)
  /-- R194. Braze item carrying one 2 MiB resync unit, applied at the standby. -/
  | resyncData (unit : Nat) (page : Option Nat) (msns poison : List Nat) (data : List Byte)
  /-- R195. Braze item that starts a resync, acknowledges a unit, completes the resync or requests a revert. -/
  | resyncCtrl (kind value : Nat)
  /-- R236. Braze item that requests or carries shelf tile data between the twins. -/
  | tile (kind : Nat) (fields : List Nat) (data : List Byte)
  /-- R167. Braze item naming the expected FRAME_SEQ; the sender resends from that frame. -/
  | replay (expected : Nat)
  /-- R164. Braze item with the peer's identity, side, pair and epochs, checked for miscabling. -/
  | ident (identity side pair tokenEpoch linkEpoch : Nat)
  /-- R169. Every 100 µs each twin sends a STATUS item. -/
  | statusSendTimer
  /-- R176. Every L/5 the holder sends LEASE_RENEW. -/
  | leaseRenewTimer
  /-- R177. Every L/5 while the link is DOWN, the holder sends a witness renewal to the manager. -/
  | witnessRenewTimer
  /-- R178. Every L/5 a twin without a valid lease sends a grant request. -/
  | grantRequestTimer
  /-- R180. The holder's lease ends without renewal, and the holder stops admission. -/
  | leaseEnd
  /-- R176. At T_r + L + G the standby counts the lease as expired. -/
  | leaseViewExpiry
  /-- R171. 20 ns after its first item, a packed mirror frame is sent. -/
  | mirrorFrameTimer
  /-- R174. A mirror record waits 500 µs for its acknowledgement, and the twin counts as unable to accept. -/
  | mirrorAckTimeout
  /-- R184. After 65,536 records or 100 µs, the active closes an Assay epoch on a queue. -/
  | assayEpochClose (queue : Nat)
  /-- R188. The bound of yield step 2 ends; operations still running end PARTIAL and HANDOVER is sent. -/
  | yieldDrainBound
  /-- R194. The active sends the next marked 2 MiB unit as RESYNC_DATA in the link space left over by the mirror. -/
  | resyncUnitSend
  /-- R196. The home standby has been CURRENT with the link UP for REVERT_S, and it sends a revert request. -/
  | revertTimer
  /-- R238. Every 1 ms the active sends cursor positions to the standby. -/
  | cursorSyncTimer
  /-- R206. The DRAM fill of a near-cache miss arrives; merged writes are applied and the line is installed. -/
  | nearFillComplete (bank : Nat) (ue : Bool)
  /-- R215. The DISABLING flush has invalidated every line, and the cache reads DISABLED. -/
  | nearFlushComplete
  /-- R225. A page of a filling tile is staged; waiting reads are served, and the tile becomes STAGED when all its pages are in.
  -/
  | tileFillProgress (o k : Nat) (tagOk : Bool)
  /-- R234. A tier engine starts a lookahead fill for the nearest unfilled window entry when stage space allows. -/
  | lookaheadFill
  /-- R227. A tile's near-cache lines are invalidated and its stage is freed; the tile returns to SHELF. -/
  | tileEvictionComplete (o k : Nat)
  /-- R236. Recovery of a failed shelf codeword ends by parity, by the twin, or with poison marks. -/
  | tileRecoveryComplete (o k : Nat) (parity : Bool)
  /-- R253. A bank's refresh interval expires, and a same-bank refresh is issued. -/
  | refreshDue (ch bank : Nat)
  /-- R255. Every 10 ms the module thermal sensors are read; refresh rate, throttle and thermal channel-out follow. -/
  | dramSensorRead (ch : Nat) (temp : Option Nat)
  /-- R256. A channel request that has waited AGE_US is raised above every port. -/
  | dramRequestAged (bank : Nat)
  /-- R257. A soft post-package repair ends, the row data is written back, and the bank's accesses resume. -/
  | spprComplete (ch rank bank row : Nat)
  /-- R259. A command fails CA parity; it is retried, and after 3 failures the channel is taken out. -/
  | caParityError (ch retries : Nat)
  /-- R251. DRAM training of all channels ends; the start continues with the state blocks and the restore phase. -/
  | dramTrainingComplete (rs : List DramReport)
  /-- R264. Flash lane test, parameter pages and bus training end; channels that fail are taken out. -/
  | flashTrainingComplete (rs : List FlashReport)
  /-- R452. Journal replay, erase redo and the erased pool end, the tables are rebuilt, and the cipher tests run. -/
  | journalReplayComplete (ok : Bool) (failed : List FlashBlock) (erased mask : Nat) (ledgerOk : Bool)
  /-- R271. A flash read returns, and each codeword is decoded through the steps of Table 12-3. -/
  | flashReadComplete (page : FlashPage) (step : Nat)
  /-- R273. A flash program ends, each codeword is verified, and the written pages are mapped and made clean. -/
  | flashProgramComplete (b : FlashBlock) (pages : List Nat) (micros : Nat) (ok : Bool)
  /-- R278. A flash erase verifies, and ERASE_DONE is committed. -/
  | flashEraseComplete (b : FlashBlock) (ok : Bool)
  /-- R280. A flash die fails to answer within 50 ms and is taken out; the rebuild starts. -/
  | dieCommandTimeout (ch die : Nat) (bus : Bool)
  /-- R280. Every valid codeword of the lost dies has been rebuilt from parity. -/
  | flashRebuildComplete
  /-- R268. Reclaim copies the valid codewords of the emptiest block forward and erases the block. -/
  | reclaim (b : FlashBlock) (bytes : Nat)
  /-- R275. Planish moves the least erased closed blocks into the most erased free blocks when the spread is too wide. -/
  | planish (least most : FlashBlock) (bytes : Nat)
  /-- R276. Anneal patrol-reads closed blocks and relocates the aged or marginal ones. -/
  | anneal (b : FlashBlock) (bytes : Nat) (pages : List FlashPage)
  /-- R277. Committed journal entries are written from the gather journal area to both system copies. -/
  | journalFlush
  /-- R277. Every 60 s a checkpoint of the flash map is written. -/
  | journalCheckpoint
  /-- R297. A scrubber reads the next words of its memory, corrects them and creates poison where they cannot be corrected. -/
  | scrub (memory pct : Nat) (finding : Option ScrubPlace) (ue : Bool)
  /-- R287. An uncorrectable table entry has been reloaded from the flash journal, and waiting checks resume. -/
  | tableReloadComplete (kind entry : Nat) (ok : Bool)
  /-- R294. A poisoned chunk of a clean page or a staged tile has been rewritten from flash, and its mark is cleared. -/
  | poisonRepairComplete (l : Nat) (ok : Bool)
  /-- R350. A whole TAI second begins: PTP_PPS_OUT rises, residency is sampled, and a window closes at a minute boundary. -/
  | taiSecond
  /-- R325. SETTLE_S after a window's end, the operations still running are charged and the window's export records are written.
  -/
  | settleLimit
  /-- R330. Both token buckets of a PD reach 0 or more, and the head shaped request is released to admission. -/
  | shaperRelease (pd : Nat)
  /-- R340. Domain message renewing a holder's lease, which the witness confirms or refuses. -/
  | witnessRenew (h : DomainHeader) (leaseMs : Nat)
  /-- R177. Domain message confirming a renewal or a registration; it moves the lease end. -/
  | confirm (h : DomainHeader) (sendTime : Nat)
  /-- R177. Domain message refusing a request with a reason; a refused renewal stops the holder. -/
  | refuse (h : DomainHeader) (reason registered : Nat)
  /-- R178. Domain message asking the witness for the token, optionally with FORCE. -/
  | grantRequest (h : DomainHeader) (flags : Nat)
  /-- R189. Domain message granting a new token epoch to the requester. -/
  | grant (h : DomainHeader) (epoch : Nat)
  /-- R179. Domain message asking the witness for the SINGLE_RUNNING mark. -/
  | markRequest (h : DomainHeader)
  /-- R179. Domain message granting the mark; waiting mirrored writes complete DEGRADED. -/
  | markGrant (h : DomainHeader)
  /-- R179. Domain message clearing the SINGLE_RUNNING mark after a resync. -/
  | markClear (h : DomainHeader)
  /-- R340. Domain message registering an epoch reached by a yield or a grant. -/
  | epochRegister (h : DomainHeader) (epoch side : Nat)
  /-- R340. Domain message from a standby reporting its SYNC state to the witness. -/
  | statusReport (h : DomainHeader) (sync : Nat)
  /-- R345. Domain message with region changes, applied to the directory in DIR_SEQ order. -/
  | dirUpdate (h : DomainHeader) (seq : Nat) (entries : List DirChange)
  /-- R346. Domain message acknowledging the highest DIR_SEQ applied, with FULL and UNLISTED. -/
  | dirAck (h : DomainHeader) (applied : Nat) (full : Bool) (unlisted : Nat)
  /-- R347. Domain message carrying a PD or queue command, with wrapped keys, for a worker to apply. -/
  | push (h : DomainHeader) (seq opcode : Nat) (params : List Nat)
  /-- R347. Domain message with a worker's result for a push. -/
  | pushAck (h : DomainHeader) (seq status detail : Nat)
  /-- R348. Domain message asking the manager to join a worker pair. -/
  | join (h : DomainHeader) (digestA digestB roleA roleB flags : Nat) (service : List Nat)
  /-- R348. Domain message accepting a join, with the directory version and the catch-up count. -/
  | joinAck (h : DomainHeader) (version count : Nat)
  /-- R349. Domain message removing a worker pair from the domain. -/
  | leave (h : DomainHeader)
  /-- R329. Domain message carrying an export record for aggregation at the manager. -/
  | meterRecord (h : DomainHeader) (fields : List Nat)
  /-- R338. An unanswered domain request is sent again every 500 µs. -/
  | domainResendTimer
  /-- R340. Every 100 ms the standby sends STATUS_REPORT. -/
  | statusReportTimer
  /-- R339. No authenticated answer from the manager for UNREACH_MS, so the manager counts as unreachable. -/
  | managerReachTimeout
  /-- R341. A witness's provisional grant lapses L + G after the last request it answered. -/
  | provisionalGrantLapse (pair : Nat)
  /-- R348. The manager cannot be reached for 10 s, and DOMAIN_JOIN completes PEER_UNREACHABLE. -/
  | joinTimeout
  /-- R329. AGG_WAIT_S after a window's end, the manager writes the KIND 2 aggregate records. -/
  | aggWaitTimer (tenant start : Nat)
  /-- R350. A PTP message is received and time-stamped; the time unit slews or steps. -/
  | ptpMessage (domain : Nat) (ahead : Bool) (offset uncertainty utc : Nat) (leap : Bool)
  /-- R489. A filtered rising edge on PTP_PPS_IN sets the phase when SOURCE is PPS. -/
  | ppsInEdge (uncertainty : Nat)
  /-- R358. A cipher cluster fault switches the cluster off and spreads its sources over the other clusters. -/
  | clusterFault (cluster : Nat) (tags : List Nat) (hosts : List (CmdRef × Nat))
  /-- R367. The keeper finishes erasing the sector holding the old table key, and OLD_PENDING clears. -/
  | oldTableKeyErased
  /-- R385. DBG1 reaches NOT_AFTER or 7 days, and a debug change to DBG0 starts. -/
  | debugExpiry
  /-- R388. Ingress stays below 80 % of the paced rate for PACED_ENTER_S, and the H9 enters P1. -/
  | pacedEntryTimer
  /-- R388. Ingress over 100 µs exceeds 90 % of the paced rate, and the H9 leaves automatic P1. -/
  | pacedExit
  /-- R449. VK_3V3 rises; the keeper runs its flash start and verifies its firmware and the life-cycle state. -/
  | powerOn (fwOk mismatch : Bool)
  /-- R400. All rails of a power-up step have stayed in their windows for 1 ms; the next step starts, or the core die is released
  to Quench. -/
  | powerUpStepEnd (q : QuenchReport)
  /-- R400. A rail is not in its window RAMP_MS after its command, and power-up fails. -/
  | rampTimeout (n : Nat)
  /-- R401. 10 s after a failed power-up it is retried; after three failures the keeper enters LOCKOUT. -/
  | powerUpRetry
  /-- R402. A rail stays outside its window for 50 µs in service, and READ_VOUT is checked. -/
  | railWindowFault (n mv : Nat)
  /-- R402. A rail is still out of window 5 ms after the fault, and a save with action P3 KEEP starts. -/
  | railFaultHold (n : Nat)
  /-- R402. Every 1 ms a rail with a faulty sense pair is monitored by READ_VOUT. -/
  | readVoutPoll (n mv : Nat)
  /-- R403. A rail beyond a hard limit for 20 µs is cut with the later rails, and no save runs. -/
  | railHardLimitBreach (n : Nat)
  /-- R404. The rails of a shut-down step have discharged, and the next lower step starts, down to OFF. -/
  | shutdownStepEnd
  /-- R404. A rail is still above 10 % at its DISCH_MS, is recorded failed, and the shut-down moves on. -/
  | dischargeTimer (n : Nat)
  /-- R406. A feed stays below UV_DV for 20 µs and becomes LOST; its EN goes low, and a save starts if both are lost. -/
  | feedLoss (a : Bool)
  /-- R406. A feed has stayed above OK_DV for the return time and becomes OK. -/
  | feedOk (a : Bool)
  /-- R398. PMBUS_ALERT_N falls; the keeper finds the alerting slave and records its status. -/
  | pmbusAlert (n : Nat) (status : Option Nat)
  /-- R409. The restart hold after OFF ends; power-up starts if a feed is OK and START_V is met. -/
  | restartHoldEnd
  /-- R409. The bank has not reached START_V within 600 s, and power-up starts anyway. -/
  | startVTimeout
  /-- R413. VK_3V3 stays below 3.00 V for 2 µs; the keeper stops its circuits and writes one record. -/
  | keeperSupplyLow (mv : Nat)
  /-- R421. A keeper flash program or erase ends and is verified at margin, with retries and retirement. -/
  | keeperFlashOpComplete (retries : Nat) (ok : Bool)
  /-- R426. The keeper writes a pending record from its RAM ring to the log head within its rate. -/
  | keeperLogAppend
  /-- R427. 1 s after the last repeat, or every 60 s during a flood, a repeat count is written into a slot. -/
  | repeatSlotTimer
  /-- R424. A released log sector is erased in the background and returns to the free pool. -/
  | logSectorErase (retries : Nat) (ok : Bool)
  /-- R436. A management core's 1 s watchdog expires, and that core restarts alone. -/
  | watchdogExpiry (core : Nat) (cmds : List CmdRef)
  /-- R442. Management and helper images are loaded, the settings are applied, LOCK and MGMT_READY are set. -/
  | firmwareLoadComplete (loads : List Nat) (migrated : List (Nat × Nat))
  /-- R442. A TRIAL slot does not reach MGMT_READY within TRIAL_TIMEOUT_S; it is REJECTED and the COMMITTED slot starts. -/
  | trialTimeout (q : QuenchReport)
  /-- R454. A 2 MiB unit is restored from the flash image into DRAM, on demand first and otherwise in order. -/
  | restoreUnit (bad : List Nat) (twinOk : Bool)
  /-- R455. An operation waits WAIT_US for its unit to be restored and completes RESTORING. -/
  | restoreWaitTimeout (tag : Nat)
  /-- R460. A page requested from the twin during restore does not arrive within 10 s and is restored poisoned. -/
  | twinPageTimeout (page : Nat)
  /-- R450. A filtered asserting edge on RESET_N starts a save with trigger 2, or a wake in OFF. -/
  | resetNAssert (q : QuenchReport)
  /-- R490. THERM_TRIP_N asserted from outside is accepted, and a thermal save with trigger 7 starts. -/
  | thermTripNAssert (temp : Nat)
  /-- R490. A core sensor reads 115 °C or more; the H9 drives THERM_TRIP_N and starts a thermal save. -/
  | junctionOvertemp (temp : Nat)
  /-- R490. A sensor reads 125 °C or more, or the thermal save runs past 5 s, and every rail is cut. -/
  | hardCutCondition (temp : Nat)
  /-- R490. In OFF, the keeper sensors read below 70 °C, and the H9 releases THERM_TRIP_N. -/
  | thermTripRelease (temp : Nat)
  /-- R489. An input stays active past its stuck time and is latched STUCK and masked. -/
  | inputStuckTimer (code : Nat)
  /-- R489. A STUCK or CHATTERING input has been quiet long enough and is unmasked. -/
  | inputUnmask (code : Nat)
  /-- R492. A sideband output reads back against its driven level for 100 µs, and the action of Table 25-4 follows. -/
  | outputReadbackMismatch (code : Nat) (readsHigh : Bool)
  /-- R494. A reference clock shows no edge for 1 µs, and the loss action of Table 25-6 follows. -/
  | refclkLost (code : Nat)
  /-- R494. A reference clock shows 1 ms of valid edges and counts as regained. -/
  | refclkRegained (code : Nat)
  /-- R473. An Ethernet port's LINK state changes. -/
  | linkStateChange (n sub link lanes : Nat) (reversed : Bool) (polarity : Nat)
  /-- R469. An ARP request or Neighbor Solicitation for a port's own address or the service address is answered. -/
  | arpRequest (port : Nat) (ipv6 : Bool) (addr : Nat)
  /-- R482. WINDOW_MS passes for a source with pending repeats, and an UPDATE record is closed. -/
  | repeatWindowExpiry (src : Nat)
  /-- R483. At the end of a second of the unstepped count, the SUMMARY record of a folded source is closed. -/
  | stormSecondEnd (src : Nat)
  /-- R406. A LOST or ABSENT feed rises above OK_DV and enters RETURNING, which starts its return timer. -/
  | feedReturning (a : Bool)
  /-- R412. A feed, hold-up or rail sense input reads below -0.2 V and is taken as REVERSED. -/
  | senseInputReversed (input : Nat)
  /-- R409. After the restart hold, V_bank reaches START_V while a feed is OK, and power-up starts. -/
  | holdupBankAtStartV (mv : Nat)
  /-- R413. VK_3V3 rises above 3.10 V before the brown-out, and the keeper resumes its circuits. -/
  | keeperSupplyRecovered (mv : Nat)
  /-- R490. The THERM_TRIP_N ball reads high again in OFF, so the waiting start may begin power-up. -/
  | thermTripNReleased
  /-- R425. Every 0.1 h with VK_3V3 present, the OP_HOURS_10 counter advances and a counter record is queued. -/
  | opHoursTick
  /-- R350. 100 ms after each TAI second, PTP_PPS_OUT falls. -/
  | ptpPpsOutFall
  /-- R436. A management core meets an uncorrectable error in its memory, and that core alone restarts from the verified image. -/
  | mgmtCoreMemoryUe (core bank row : Nat) (cmds : List CmdRef)
  /-- R405. During shut-down a rail of a lower step falls below its window early, and every higher rail still on is commanded off
  at once. -/
  | shutdownRailCollapse (n : Nat)
  /-- R493. In SMBus mode the management bus is held low for 25 ms, and the H9 releases it. -/
  | mgmtBusHeldLow
  deriving DecidableEq, Repr

end Sys2Proof
end

