-- ==== Sys2Proof/WellFormed.lean ====
section
/-! DEFINITION. Well-formed commands: every number that a command carries fits the field it stands for. -/

namespace Sys2Proof

/-- A number and the width in bits of the field that carries it. -/
abbrev Operand := Nat × Nat

/-- The fields of a `CmdRef`. -/
def CmdRef.fields (x : CmdRef) : List Operand :=
  [(x.ring, 6), (x.slot, 16)]

/-- The fields of a `AuthBlob`. -/
def AuthBlob.fields (x : AuthBlob) : List Operand :=
  [(x.kind, 32), (x.target, 32), (x.signer, 32), (x.deviceId, 64), (x.nonce, 256), (x.notAfter, 64), (x.ownerDigest, 384), (x.keysDigest, 384), (x.host, 64)]

/-- The fields of a `Component`. -/
def Component.fields (x : Component) : List Operand :=
  [(x.type, 8), (x.svn, 32), (x.offset, 32), (x.iv, 96), (x.tag, 128), (x.digest, 384)]

/-- The fields of a `Package`. -/
def Package.fields (x : Package) : List Operand :=
  [(x.magic, 32), (x.version, 16), (x.flags, 16), (x.imageSvn, 32), (x.fuseEpoch, 8), (x.count, 8), (x.schema, 16), (x.length, 32)]
    ++ (x.components.map Component.fields).flatten

/-- The fields of a `Descriptor`. -/
def Descriptor.fields (x : Descriptor) : List Operand :=
  [(x.opcode, 16), (x.tag, 64)]

/-- The fields of a `CergaPacket`. -/
def CergaPacket.fields (x : CergaPacket) : List Operand :=
  [(x.port, 6), (x.udpPort, 16), (x.ver, 4), (x.dscp, 6), (x.prio.getD 0, 3), (x.frame, 14), (x.keyx.getD 0, 64), (x.epoch, 16),
   (x.queue, 32), (x.seq, 32), (x.incarnation, 16), (x.xmit, 16), (x.addr, 64), (x.len, 32), (x.offset, 32), (x.arrive, 64), (x.tag, 128)]

/-- The fields of a `RocePacket`. -/
def RocePacket.fields (x : RocePacket) : List Operand :=
  [(x.port, 6), (x.udpPort, 16), (x.dscp, 6), (x.prio.getD 0, 3), (x.frame, 14), (x.srcIp, 128), (x.qpn, 24), (x.bth, 8), (x.psn, 24), (x.va, 64), (x.rkey, 32), (x.dmaLen, 32), (x.swapAdd, 64), (x.compare, 64)]

/-- The fields of a `MirrorPrefix`. -/
def MirrorPrefix.fields (x : MirrorPrefix) : List Operand :=
  [(x.addr, 64), (x.queue, 32), (x.seq, 64), (x.pd, 16), (x.kind, 8), (x.flags, 16), (x.epoch, 32)]

/-- The fields of a `DramReport`. -/
def DramReport.fields (x : DramReport) : List Operand :=
  [(x.channel, 4), (x.type, 2), (x.ranks, 3), (x.cause, 4)]

/-- The fields of a `FlashReport`. -/
def FlashReport.fields (x : FlashReport) : List Operand :=
  [(x.channel, 5), (x.dies, 5), (x.cause, 4)]

/-- The fields of a `FlashBlock`. -/
def FlashBlock.fields (x : FlashBlock) : List Operand :=
  [(x.channel, 5), (x.die, 4), (x.block, 20)]

/-- The fields of a `ScrubPlace`: 8,192 macros of 4,096 rows (R298). -/
def ScrubPlace.fields : ScrubPlace → List Operand
  | .dram a => [(a, 44)]
  | .sram m row kind i => [(m, 13), (row, 12), (kind, 8), (i, 64)]
  | .near m row l => [(m, 13), (row, 12), (l, 38)]
  | .gather m row entry byte => [(m, 13), (row, 12), (entry, 64), (byte, 13)]

/-- The fields of a `QpParams`. -/
def QpParams.fields (x : QpParams) : List Operand :=
  [(x.maxRd, 8), (x.minRnr, 8), (x.tclass, 8), (x.dqpn, 24), (x.psn, 24), (x.dip, 128), (x.flow, 32), (x.hop, 8)]

/-- The fields of a `CipherParams`. -/
def CipherParams.fields (x : CipherParams) : List Operand :=
  [(x.mode, 8), (x.slot, 16), (x.context, 16), (x.len, 32), (x.aad, 32), (x.input, 64), (x.out, 64), (x.iv, 128)]

/-- The fields of a `QuenchReport`. -/
def QuenchReport.fields (x : QuenchReport) : List Operand :=
  [(x.straps.roleSel, 2), (x.straps.pairSide, 1), (x.straps.bootSel, 1), (x.micros, 32)]

/-- The fields of a `DomainHeader`. -/
def DomainHeader.fields (x : DomainHeader) : List Operand :=
  [(x.src, 128), (x.udpPort, 16), (x.ver, 4), (x.srcPair, 13), (x.srcSide, 1), (x.counter, 64), (x.tokenEpoch, 32), (x.msgId, 32),
    (x.sendTime, 64), (x.tag, 128)]

/-- The fields of a `DirChange`. -/
def DirChange.fields (x : DirChange) : List Operand :=
  [(x.action, 8), (x.region, 18), (x.base, 51), (x.size, 64), (x.flags, 16)]

/-- The fields a command carries. -/
def Instr.fields (i : Instr) : List Operand :=
  match i with
  | .registerWrite off v _ => [(off, 32), (v, 32)]
  | .counterPairCapture _ off => [(off, 32)]
  | .portCtrlWrite n v => [(n, 8), (v, 32)]
  | .portAdmissionOpen n => [(n, 8)]
  | .globalResetArm => []
  | .globalResetFire => []
  | .resetArmExpiry => []
  | .svcAddressWrite off v => [(off, 32), (v, 32)]
  | .nearCacheDisable maxLockWays => [(maxLockWays, 4)]
  | .nearCacheEnable maxLockWays => [(maxLockWays, 4)]
  | .tierStageWrite v => [(v, 32)]
  | .ringEnable _ n => [(n, 8)]
  | .ringDisable _ n => [(n, 8)]
  | .cmdTail n v => [(n, 8), (v, 32)]
  | .cplHead n v => [(n, 8), (v, 32)]
  | .evHead m v => [(m, 8), (v, 32)]
  | .exHead k v => [(k, 8), (v, 32)]
  | .keeperCommit _ v => [(v, 32)]
  | .wordProgram _ off word => [(off, 32), (word, 32)]
  | .bufferProgram _ off words => [(off, 32)] ++ words.map (fun x => (x, 32))
  | .sectorErase _ off => [(off, 32)]
  | .abort _ => []
  | .sequenceGapTimeout _ => []
  | .logRecordSelect _ q => [(q, 32)]
  | .descriptorFetch n ds _ => [(n, 8)] ++ (ds.map Descriptor.fields).flatten
  | .commandCompletion r => CmdRef.fields r
  | .coalescingTimer _ n => [(n, 8)]
  | .functionLevelReset => []
  | .pcieLinkDown => []
  | .regionCreate r base size flags object key peer => [(base, 64), (size, 64), (flags, 32), (object, 32), (key, 64), (peer, 64)] ++ CmdRef.fields r
  | .regionResize r region newSize peer => [(region, 32), (newSize, 64), (peer, 64)] ++ CmdRef.fields r
  | .regionDestroy r region => [(region, 32)] ++ CmdRef.fields r
  | .regionSetFlags r region set clear peer => [(region, 32), (set, 8), (clear, 8), (peer, 64)] ++ CmdRef.fields r
  | .pdCreate r pd => [(pd, 32)] ++ CmdRef.fields r
  | .pdDestroy r pd => [(pd, 32)] ++ CmdRef.fields r
  | .pdBindRegion r pd region access => [(pd, 32), (region, 32), (access, 8)] ++ CmdRef.fields r
  | .pdUnbindRegion r pd region => [(pd, 32), (region, 32)] ++ CmdRef.fields r
  | .spacekeySet r pd key grace => [(pd, 32), (key, 64), (grace, 32)] ++ CmdRef.fields r
  | .queueCreate r id pd key => [(id, 32), (pd, 32), (key, 64)] ++ CmdRef.fields r
  | .queueDestroy r id => [(id, 32)] ++ CmdRef.fields r
  | .qpCreate r num pd => [(num, 32), (pd, 32)] ++ CmdRef.fields r
  | .qpModify r num state p => [(num, 32), (state, 8)] ++ CmdRef.fields r ++ QpParams.fields p
  | .qpDestroy r num => [(num, 32)] ++ CmdRef.fields r
  | .keyCommit r id type source flags wrapId blob => [(id, 32), (type, 8), (source, 8), (flags, 32), (wrapId, 16), (blob, 384)] ++ CmdRef.fields r
  | .keyDestroy r id flags => [(id, 32), (flags, 32)] ++ CmdRef.fields r
  | .cipherOp r params => CmdRef.fields r ++ CipherParams.fields params
  | .contextSave r context form addr => [(context, 32), (form, 8), (addr, 64)] ++ CmdRef.fields r
  | .contextRestore r context form addr _ => [(context, 32), (addr, 64), (form, 8)] ++ CmdRef.fields r
  | .shelfObjectCreate r id tileCode flags key size owner tag => [(id, 32), (tileCode, 8), (flags, 32), (key, 64), (size, 64), (owner, 16), (tag, 64)] ++ CmdRef.fields r
  | .shelfObjectLoad r id flags off host _ => [(id, 32), (host, 64), (flags, 32), (off, 32)] ++ CmdRef.fields r
  | .shelfObjectDrop r id => [(id, 32)] ++ CmdRef.fields r
  | .scheduleLoad r id flags lookahead object pd cursors entries host list => [(id, 32), (host, 64), (flags, 32), (lookahead, 16), (object, 32), (pd, 32), (cursors, 16), (entries, 32)] ++ CmdRef.fields r ++ list.map (fun x => (x, 64))
  | .scheduleDrop r id => [(id, 32)] ++ CmdRef.fields r
  | .cacheLock r region off len => [(region, 32), (off, 32), (len, 64)] ++ CmdRef.fields r
  | .cacheUnlock r region off len => [(region, 32), (off, 32), (len, 64)] ++ CmdRef.fields r
  | .cacheRangeInvalidate r region off len => [(region, 32), (off, 32), (len, 64)] ++ CmdRef.fields r
  | .accountCreate r account mode tenant => [(account, 32), (mode, 8), (tenant, 64)] ++ CmdRef.fields r
  | .accountBind r kind target account => [(kind, 32), (target, 64), (account, 32)] ++ CmdRef.fields r
  | .meterExportSetup r ring flags first last => [(ring, 8), (flags, 32), (first, 32), (last, 64)] ++ CmdRef.fields r
  | .shaperSet r pd opsRate opsBurst bytesRate burstKib => [(pd, 32), (opsRate, 32), (opsBurst, 32), (bytesRate, 64), (burstKib, 32)] ++ CmdRef.fields r
  | .twinPair r peer keyId home flags => [(peer, 64), (keyId, 16), (home, 8), (flags, 32)] ++ CmdRef.fields r
  | .twinSwitch r mode tag => [(mode, 8), (tag, 64)] ++ CmdRef.fields r
  | .twinResync r mode => [(mode, 8)] ++ CmdRef.fields r
  | .domainJoin r mode keyId managerIp w0 w1 w2 peerRole => [(mode, 8), (keyId, 16), (managerIp, 128), (w0, 16), (w1, 16), (w2, 16), (peerRole, 2)] ++ CmdRef.fields r
  | .domainLeave r mode pair => [(mode, 8), (pair, 32)] ++ CmdRef.fields r
  | .fwStage r host length p => [(host, 64), (length, 32)] ++ CmdRef.fields r ++ Package.fields p
  | .fwActivate r slot => [(slot, 8)] ++ CmdRef.fields r
  | .fwCommit r => CmdRef.fields r
  | .lifecycleRequest r kind target len b => [(kind, 32), (target, 64), (len, 64)] ++ CmdRef.fields r ++ AuthBlob.fields b
  | .hallmarkIssue r challenge host => [(challenge, 256), (host, 64)] ++ CmdRef.fields r
  | .diagRead r space index count host => [(space, 8), (index, 32), (count, 32), (host, 64)] ++ CmdRef.fields r
  | .ledgerRead r host start count flags => [(host, 64), (start, 64), (count, 32), (flags, 32)] ++ CmdRef.fields r
  | .memopRead r pd key addr len host => [(pd, 32), (key, 64), (addr, 64), (len, 64), (host, 64)] ++ CmdRef.fields r
  | .memopWrite r pd key addr len host _ => [(pd, 32), (key, 64), (addr, 64), (len, 64), (host, 64)] ++ CmdRef.fields r
  | .saveNow r action tag => [(action, 8), (tag, 64)] ++ CmdRef.fields r
  | .quiesce r level flags => [(level, 8), (flags, 32)] ++ CmdRef.fields r
  | .resume r mask => [(mask, 32)] ++ CmdRef.fields r
  | .mboxRead seq off => [(seq, 64), (off, 32)]
  | .mboxWrite seq off v => [(seq, 64), (off, 32), (v, 32)]
  | .wake seq _ => [(seq, 64)]
  | .mboxStatus seq => [(seq, 64)]
  | .eventRead seq start count => [(seq, 64), (start, 64), (count, 32)]
  | .authChunk seq off words => [(seq, 64), (off, 32)] ++ words.map (fun x => (x, 32))
  | .lifecycleSubmit seq kind target len _ => [(seq, 64), (kind, 32), (target, 64), (len, 64)]
  | .read p => CergaPacket.fields p
  | .write p => CergaPacket.fields p
  | .cas8 p => CergaPacket.fields p
  | .cas16 p => CergaPacket.fields p
  | .fadd8 p => CergaPacket.fields p
  | .fence p => CergaPacket.fields p
  | .shelfRead p => CergaPacket.fields p
  | .scheduleAdvance p => CergaPacket.fields p
  | .ledgerQuery p => CergaPacket.fields p
  | .hallmark p => CergaPacket.fields p
  | .timeQuery p => CergaPacket.fields p
  | .clientAcknowledgement p => CergaPacket.fields p
  | .ackDelayTimer index => [(index, 32)]
  | .assemblyTimerExpiry tag => [(tag, 64)]
  | .streamLapse index => [(index, 32)]
  | .heldPacketAdmission queue seq => [(queue, 32), (seq, 64)]
  | .contextFetchComplete index => [(index, 32)]
  | .tagWaitTimeout queue seq => [(queue, 32), (seq, 64)]
  | .ledgerReleaseTimeout => []
  | .rdmaWrite p => RocePacket.fields p
  | .rdmaReadRequest p => RocePacket.fields p
  | .cmpswap p => RocePacket.fields p
  | .fetchadd p => RocePacket.fields p
  | .roceUnsupportedOpcode p => RocePacket.fields p
  | .cnp p => RocePacket.fields p
  | .qpContextFetchComplete index => [(index, 32)]
  | .roceAssemblyTimeout tag => [(tag, 64)]
  | .operationCompletion tag => [(tag, 64)]
  | .zeroFillComplete region => [(region, 32)]
  | .drainComplete place => [(place, 32)]
  | .drainLimit place => [(place, 32)]
  | .gracePeriodEnd pd => [(pd, 32)]
  | .loopPeriod _ => []
  | .paceMonitorSample n mhz => [(n, 8), (mhz, 16)]
  | .avsRetry _ => []
  | .gatherApply entry => [(entry, 64)]
  | .writeBackIssue _ => []
  | .budgetRecomputation mv => [(mv, 32)]
  | .stageFallTimer => []
  | .holdAdmission => []
  | .holdTimeout queue seq => [(queue, 32), (seq, 64)]
  | .dirtyMapClear unit => [(unit, 32)]
  | .bankAtFloor => []
  | .saveStepComplete => []
  | .saveSequenceEnd mv q => [(mv, 32)] ++ QuenchReport.fields q
  | .holdupTestDue => []
  | .holdupTestStart v0 => [(v0, 32)]
  | .holdupTestV1Read v1 => [(v1, 32)]
  | .holdupTestVEnd mv => [(mv, 32)]
  | .holdupTestTimeout => []
  | .holdupRechargeDone mv => [(mv, 32)]
  | .holdupTestRetry => []
  | .holdupStaleTimer => []
  | .esrPulse v0 v1 => [(v0, 32), (v1, 32)]
  | .brazeLossOfSignal => []
  | .brazeDeadTimeout => []
  | .brazeTrainingComplete lanes => [(lanes, 8)]
  | .brazeTrainingRetry => []
  | .brazeFrame dir credit tokenEpoch seq _ _ => [(dir, 1), (credit, 11), (tokenEpoch, 32), (seq, 64)]
  | .mirror queue msn recordLen _ p _ => [(queue, 5), (msn, 32), (recordLen, 16)] ++ MirrorPrefix.fields p
  | .mirrorCont queue msn offset _ _ => [(queue, 5), (msn, 32), (offset, 32)]
  | .dropRemainder queue msn => [(queue, 5), (msn, 32)]
  | .mirrorAck msns => msns.map (fun x => (x, 32))
  | .streamState fields => fields.map (fun x => (x, 64))
  | .command number opcode params => [(number, 32), (opcode, 16)] ++ params.map (fun x => (x, 384))
  | .leaseRenew sentAt => [(sentAt, 64)]
  | .leaseAck sentAt => [(sentAt, 64)]
  | .status stage d sync feedA feedB saveStep _ fraction => [(stage, 2), (d, 32), (sync, 2), (feedA, 3), (feedB, 3), (saveStep, 4), (fraction, 16)]
  | .assayDigest queue last count mac => [(queue, 5), (last, 32), (count, 32), (mac, 128)]
  | .shadow addr len lastQueue lastMsn mac => [(addr, 64), (len, 32), (lastQueue, 5), (lastMsn, 32), (mac, 128)]
  | .verdict _ => []
  | .handover msns epoch leaseLeft _ => [(epoch, 32), (leaseLeft, 64)] ++ msns.map (fun x => (x, 32))
  | .handoverAck epoch => [(epoch, 32)]
  | .resyncData unit _ msns _ _ => [(unit, 32)] ++ msns.map (fun x => (x, 32))
  | .resyncCtrl kind value => [(kind, 32), (value, 64)]
  | .tile kind fields _ => [(kind, 32)] ++ fields.map (fun x => (x, 64))
  | .replay expected => [(expected, 64)]
  | .ident identity side pair tokenEpoch linkEpoch => [(identity, 384), (side, 1), (pair, 32), (tokenEpoch, 32), (linkEpoch, 32)]
  | .statusSendTimer => []
  | .leaseRenewTimer => []
  | .witnessRenewTimer => []
  | .grantRequestTimer => []
  | .leaseEnd => []
  | .leaseViewExpiry => []
  | .mirrorFrameTimer => []
  | .mirrorAckTimeout => []
  | .assayEpochClose queue => [(queue, 32)]
  | .yieldDrainBound => []
  | .resyncUnitSend => []
  | .revertTimer => []
  | .cursorSyncTimer => []
  | .nearFillComplete bank _ => [(bank, 16)]
  | .nearFlushComplete => []
  | .tileFillProgress o k _ => [(o, 32), (k, 8)]
  | .lookaheadFill => []
  | .tileEvictionComplete o k => [(o, 32), (k, 8)]
  | .tileRecoveryComplete o k _ => [(o, 32), (k, 8)]
  | .refreshDue ch bank => [(ch, 8), (bank, 16)]
  | .dramSensorRead ch _ => [(ch, 8)]
  | .dramRequestAged bank => [(bank, 16)]
  | .spprComplete ch rank bank row => [(ch, 8), (rank, 4), (bank, 16), (row, 32)]
  | .caParityError ch retries => [(ch, 8), (retries, 8)]
  | .dramTrainingComplete rs => (rs.map DramReport.fields).flatten
  | .flashTrainingComplete rs => (rs.map FlashReport.fields).flatten
  | .journalReplayComplete _ failed erased mask _ => [(erased, 64), (mask, 32)] ++ (failed.map FlashBlock.fields).flatten
  | .flashReadComplete _ step => [(step, 4)]
  | .flashProgramComplete b pages micros _ => [(micros, 32)] ++ FlashBlock.fields b ++ pages.map (fun x => (x, 32))
  | .flashEraseComplete b _ => FlashBlock.fields b
  | .dieCommandTimeout ch die _ => [(ch, 8), (die, 4)]
  | .flashRebuildComplete => []
  | .reclaim b bytes => [(bytes, 64)] ++ FlashBlock.fields b
  | .planish least most bytes => [(bytes, 64)] ++ FlashBlock.fields least ++ FlashBlock.fields most
  | .anneal b bytes _ => [(bytes, 64)] ++ FlashBlock.fields b
  | .journalFlush => []
  | .journalCheckpoint => []
  | .scrub memory pct p _ => [(memory, 8), (pct, 7)] ++ ((p.map ScrubPlace.fields).getD [])
  | .tableReloadComplete kind entry _ => [(kind, 32), (entry, 64)]
  | .poisonRepairComplete l _ => [(l, 64)]
  | .taiSecond => []
  | .settleLimit => []
  | .shaperRelease pd => [(pd, 32)]
  | .witnessRenew h leaseMs => [(leaseMs, 16)] ++ DomainHeader.fields h
  | .confirm h sendTime => [(sendTime, 64)] ++ DomainHeader.fields h
  | .refuse h reason registered => [(reason, 8), (registered, 32)] ++ DomainHeader.fields h
  | .grantRequest h flags => [(flags, 8)] ++ DomainHeader.fields h
  | .grant h epoch => [(epoch, 32)] ++ DomainHeader.fields h
  | .markRequest h => DomainHeader.fields h
  | .markGrant h => DomainHeader.fields h
  | .markClear h => DomainHeader.fields h
  | .epochRegister h epoch side => [(epoch, 32), (side, 1)] ++ DomainHeader.fields h
  | .statusReport h sync => [(sync, 2)] ++ DomainHeader.fields h
  | .dirUpdate h seq entries => [(seq, 64)] ++ DomainHeader.fields h ++ (entries.map DirChange.fields).flatten
  | .dirAck h applied _ unlisted => [(applied, 64), (unlisted, 32)] ++ DomainHeader.fields h
  | .push h seq opcode params => [(seq, 64), (opcode, 16)] ++ DomainHeader.fields h ++ params.map (fun x => (x, 384))
  | .pushAck h seq statusV detail => [(seq, 64), (statusV, 8), (detail, 8)] ++ DomainHeader.fields h
  | .join h digestA digestB roleA roleB flags service => [(digestA, 256), (digestB, 256), (roleA, 8), (roleB, 8), (flags, 8)] ++ DomainHeader.fields h ++ service.map (fun x => (x, 64))
  | .joinAck h version count => [(version, 64), (count, 32)] ++ DomainHeader.fields h
  | .leave h => DomainHeader.fields h
  | .meterRecord h fields => DomainHeader.fields h ++ fields.map (fun x => (x, 128))
  | .domainResendTimer => []
  | .statusReportTimer => []
  | .managerReachTimeout => []
  | .provisionalGrantLapse pair => [(pair, 32)]
  | .joinTimeout => []
  | .aggWaitTimer tenant start => [(tenant, 64), (start, 64)]
  | .ptpMessage domain _ offset uncertainty utc _ => [(domain, 8), (offset, 16), (uncertainty, 64), (utc, 16)]
  | .ppsInEdge uncertainty => [(uncertainty, 64)]
  | .clusterFault cluster _ _ => [(cluster, 3)]
  | .oldTableKeyErased => []
  | .debugExpiry => []
  | .pacedEntryTimer => []
  | .pacedExit => []
  | .powerOn _ _ => []
  | .powerUpStepEnd q => QuenchReport.fields q
  | .rampTimeout n => [(n, 8)]
  | .powerUpRetry => []
  | .railWindowFault n mv => [(n, 8), (mv, 32)]
  | .railFaultHold n => [(n, 8)]
  | .readVoutPoll n mv => [(n, 8), (mv, 32)]
  | .railHardLimitBreach n => [(n, 8)]
  | .shutdownStepEnd => []
  | .dischargeTimer n => [(n, 8)]
  | .feedLoss _ => []
  | .feedOk _ => []
  | .pmbusAlert n statusV => [(n, 8), (statusV.getD 0, 16)]
  | .restartHoldEnd => []
  | .startVTimeout => []
  | .keeperSupplyLow mv => [(mv, 32)]
  | .keeperFlashOpComplete retries _ => [(retries, 8)]
  | .keeperLogAppend => []
  | .repeatSlotTimer => []
  | .logSectorErase retries _ => [(retries, 8)]
  | .watchdogExpiry core cmds => [(core, 4)] ++ (cmds.map CmdRef.fields).flatten
  | .firmwareLoadComplete loads _ => loads.map (fun x => (x, 32))
  | .trialTimeout q => QuenchReport.fields q
  | .restoreUnit _ _ => []
  | .restoreWaitTimeout tag => [(tag, 64)]
  | .twinPageTimeout page => [(page, 40)]
  | .resetNAssert q => QuenchReport.fields q
  | .thermTripNAssert temp => [(temp, 16)]
  | .junctionOvertemp temp => [(temp, 16)]
  | .hardCutCondition temp => [(temp, 16)]
  | .thermTripRelease temp => [(temp, 16)]
  | .inputStuckTimer code => [(code, 8)]
  | .inputUnmask code => [(code, 8)]
  | .outputReadbackMismatch code _ => [(code, 8)]
  | .refclkLost code => [(code, 8)]
  | .refclkRegained code => [(code, 8)]
  | .linkStateChange n sub link lanes _ polarity => [(n, 8), (sub, 2), (link, 2), (lanes, 8), (polarity, 32)]
  | .arpRequest port _ addr => [(port, 6), (addr, 64)]
  | .repeatWindowExpiry src => [(src, 8)]
  | .stormSecondEnd src => [(src, 8)]
  | .feedReturning _ => []
  | .senseInputReversed input => [(input, 8)]
  | .holdupBankAtStartV mv => [(mv, 32)]
  | .keeperSupplyRecovered mv => [(mv, 32)]
  | .thermTripNReleased => []
  | .opHoursTick => []
  | .ptpPpsOutFall => []
  | .mgmtCoreMemoryUe core bank row cmds => [(core, 4), (bank, 16), (row, 32)] ++ (cmds.map CmdRef.fields).flatten
  | .shutdownRailCollapse n => [(n, 8)]
  | .mgmtBusHeldLow => []

/-- A field that its number fits. -/
def Operand.fits (f : Operand) : Bool := decide (f.1 < 2 ^ f.2)

/-- A command all of whose numbers fit. -/
def Instr.wf (i : Instr) : Bool := i.fields.all Operand.fits

end Sys2Proof
end

