-- ==== Sys2Proof/Decode.lean ====
section
/-! DEFINITION. The command that a word spells. The block takes commands and not words: no row of the operation table has bits, so no
word spells one. -/

namespace Sys2Proof

/-- The command that the bits of a row spell: none, for every width and every word (assumption log 3). -/
def decodeTableWord (_nbits _w : Nat) : Option Instr := none

end Sys2Proof
end

