-- ==== Sys2Proof/Config.lean ====
section
/-! DEFINITION. What one implementation or one part fixes, and the free values that the spec leaves open. None has a body that
Lean could evaluate: a statement about one of them holds whatever it is. -/

namespace Sys2Proof.Config

/-- A value the spec leaves open, fresh at every use: the machine applies it to its counter `free` and advances the counter
(assumption log 6). -/
opaque freeValue : Nat → Nat

/-- A cryptographic result named by a label and its inputs, as a number: the AES-256 block function and its inverse, SHA-384, signatures, and
keys whose derivation the spec leaves open (assumption log 6). -/
opaque crypto : Nat → List Nat → Nat

/-- The 256-bit fuse root key in keeper OTP (Table 17-2). -/
opaque fuseRootKey : Nat

/-- The 256-bit firmware root key in keeper OTP (R438). -/
opaque firmwareRootKey : Nat

/-- The public halves of the device identity key pairs, the 97 bytes of ECDSA P-384 and the 2,592 bytes of ML-DSA-87, each as a
little-endian number. They are derived from the unique device secret in keeper fuses (R393). -/
opaque identityKeys : Nat × Nat

/-- The SHA-384 digest of Lisigor's signing keys held in keeper ROM (R382). -/
opaque lisigorDigest : Nat

/-- The base of this device's 64 own MAC addresses, from the calibration row (Table 23-3). -/
opaque ownMac : Nat

/-- Spare rows of an SRAM macro that factory repairs have used (R298). -/
opaque factorySpares : Nat → Nat

/-- Factory repairs held in fuses (INTEG_REPAIR.FACTORY). -/
opaque factoryRepairs : Nat

end Sys2Proof.Config
end

