-- ==== Sys2Proof/Machine/Maps.lean ====
section
/-! DEFINITION. Operations on sparse tables and byte memories: lookup, ordered insertion, removal, and the canonical form. -/

namespace Sys2Proof

/-- The value stored under key `k`. -/
def AMap.get? {α : Type} : AMap α → Nat → Option α
  | [], _ => none
  | (k, v) :: m, i => if k = i then some v else AMap.get? m i

/-- Stores `v` under `i`, keeping the keys strictly rising. -/
def AMap.set {α : Type} : AMap α → Nat → α → AMap α
  | [], i, v => [(i, v)]
  | (k, w) :: m, i, v =>
    if i < k then (i, v) :: (k, w) :: m
    else if i = k then (i, v) :: m
    else (k, w) :: AMap.set m i v

/-- Removes key `i`. -/
def AMap.del {α : Type} : AMap α → Nat → AMap α
  | [], _ => []
  | (k, w) :: m, i => if k = i then AMap.del m i else (k, w) :: AMap.del m i

/-- Every key of the rest is above `k`. -/
def AMap.above {α : Type} (k : Nat) : AMap α → Bool
  | [] => true
  | (j, _) :: _ => decide (k < j)

/-- The canonical form: strictly rising keys. -/
def AMap.wf {α : Type} : AMap α → Bool
  | [] => true
  | (k, _) :: m => AMap.above k m && AMap.wf m

/-- Changes the entry under `i`, if there is one. -/
def AMap.upd {α : Type} (m : AMap α) (i : Nat) (f : α → α) : AMap α :=
  match m.get? i with
  | some v => m.set i (f v)
  | none => m

/-- Whether key `i` is present. -/
def AMap.has {α : Type} (m : AMap α) (i : Nat) : Bool := (m.get? i).isSome

/-- The lowest key at or above `i`, counting up to `n` keys, that is absent. -/
def AMap.free {α : Type} (m : AMap α) : Nat → Nat → Option Nat
  | _, 0 => none
  | i, n + 1 => if m.has i then AMap.free m (i + 1) n else some i

/-- A byte of a memory; an unlisted address reads as zero. -/
def Mem.read (m : Mem) (a : Nat) : Byte := (AMap.get? m a).getD 0

/-- Writes one byte; writing zero removes the entry, so that equal memories are equal lists. -/
def Mem.write (m : Mem) (a : Nat) (b : Byte) : Mem :=
  if b = 0 then AMap.del m a else AMap.set m a b

/-- The canonical form of a memory: rising addresses, and no entry that reads as an unlisted one does. -/
def Mem.wf (m : Mem) : Bool := AMap.wf m && m.all (fun c => decide (c.2 ≠ 0))

/-- `n` bytes from address `a` upward. -/
def Mem.readN (m : Mem) : Nat → Nat → List Byte
  | _, 0 => []
  | a, n + 1 => Mem.read m a :: Mem.readN m (a + 1) n

/-- Writes a run of bytes from address `a` upward. -/
def Mem.writeN (m : Mem) : Nat → List Byte → Mem
  | _, [] => m
  | a, b :: bs => Mem.writeN (Mem.write m a b) (a + 1) bs

/-- Little-endian bytes as a number. -/
def leNat : List Byte → Nat
  | [] => 0
  | b :: bs => b.toNat + 256 * leNat bs

/-- The `n` low bytes of a number, little-endian. -/
def leBytes : Nat → Nat → List Byte
  | 0, _ => []
  | n + 1, v => BitVec.ofNat 8 v :: leBytes n (v / 256)

/-- Values packed one after the other, little-endian: each pair is a size in bytes and a value. -/
def pack : List (Nat × Nat) → Nat
  | [] => 0
  | (n, v) :: r => v % 2 ^ (8 * n) + 2 ^ (8 * n) * pack r

/-- Quotient rounded up. -/
def ceilDiv (a b : Nat) : Nat := (a + b - 1) / b

/-- `v` moved to the nearest end of the interval from `lo` to `hi`. -/
def clampTo (lo hi v : Nat) : Nat := if v < lo then lo else if hi < v then hi else v

/-- The first `n` of an increasing count from `i`. -/
def rangeFrom : Nat → Nat → List Nat
  | _, 0 => []
  | i, n + 1 => i :: rangeFrom (i + 1) n

end Sys2Proof
end

