-- ==== Sys2Proof/Machine/Ciphers.lean ====
section
/-! DEFINITION. The standards that Crucible follows, over one open block function: CMAC (SP 800-38B), the counter-mode KDF of R92 (SP
800-108r1), GCM (SP 800-38D), XTS (IEEE 1619) and AES-KW (SP 800-38F). A key is the number whose little-endian bytes are the key's bytes
in order (R363); the block function itself has no body (assumption log 6). -/

namespace Sys2Proof.Machine

open Sys2Proof

/-! ### Bytes and blocks -/

/-- The `n` low bytes of a number, big-endian. -/
def beBytes (n v : Nat) : List Byte := (leBytes n v).reverse

/-- Big-endian bytes as a number. -/
def beNat (b : List Byte) : Nat := leNat b.reverse

def xorBytes (a b : List Byte) : List Byte := (a.zip b).map (fun p => p.1 ^^^ p.2)

/-- Bytes filled up with zeros to a multiple of 16. -/
def pad16 (b : List Byte) : List Byte := b ++ List.replicate ((16 - b.length % 16) % 16) 0

/-- The bytes of a label (every label of the spec is ASCII). -/
def labelBytes (l : String) : List Byte := l.toList.map (fun c => BitVec.ofNat 8 c.toNat)

/-- AES-256 of one block, and its inverse. -/
def aesBlock (key : Nat) (b : List Byte) : List Byte := leBytes 16 (Config.crypto 30 [key, leNat b])
@[inherit_doc aesBlock] def aesInverse (key : Nat) (b : List Byte) : List Byte := leBytes 16 (Config.crypto 31 [key, leNat b])

/-- The blocks of a message whose length is a multiple of 16; `n` is their number. -/
def blocks16 : Nat → List Byte → List (List Byte)
  | 0, _ => []
  | n + 1, b => b.take 16 :: blocks16 n (b.drop 16)

/-- The SHA-384 of a message, as a little-endian number. -/
def sha384 (b : List Byte) : Nat := Config.crypto 1 (b.map BitVec.toNat)

/-- Bytes 680 to 3,375 of Table 18-8: the device identity's public keys. -/
def identityBytes : List Byte := leBytes 97 Config.identityKeys.1 ++ leBytes 7 0 ++ leBytes 2592 Config.identityKeys.2

/-- The 48-byte identity digest of this device (R393); GLOBAL_DEVICE_ID shows its first 8 bytes. -/
def identityDigest : Nat := sha384 identityBytes

/-! ### CRC-32 -/

/-- One step of CRC-32 (reflected, polynomial 0xEDB88320). -/
def crcBit (c : BitVec 32) : BitVec 32 := if c.getLsbD 0 then (c >>> 1) ^^^ 0xEDB88320#32 else c >>> 1

/-- CRC-32 over bytes (assumption log 23). -/
def crc32 (bs : List Byte) : Nat :=
  let c := bs.foldl (fun c b => crcBit (crcBit (crcBit (crcBit (crcBit (crcBit (crcBit (crcBit (c ^^^ b.setWidth 32)))))))))
    0xFFFFFFFF#32
  (c ^^^ 0xFFFFFFFF#32).toNat

/-! ### CMAC and the KDF -/

/-- Doubling in GF(2^128) as CMAC's subkeys use it. -/
def cmacDouble (v : Nat) : Nat := if 2 ^ 127 ≤ v then (v * 2 % 2 ^ 128) ^^^ 0x87 else v * 2

/-- The two subkeys. -/
def cmacSubkeys (key : Nat) : List Byte × List Byte :=
  let l := beNat (aesBlock key (List.replicate 16 0))
  (beBytes 16 (cmacDouble l), beBytes 16 (cmacDouble (cmacDouble l)))

/-- Chains blocks onto a CMAC state. -/
def cmacChain (key : Nat) (acc : List Byte) (bs : List (List Byte)) : List Byte :=
  bs.foldl (fun c b => aesBlock key (xorBytes c b)) acc

/-- Ends a CMAC: `acc` is the state over the blocks before the last, `tail` the last 0 to 16 bytes. -/
def cmacFinish (key : Nat) (acc tail : List Byte) : List Byte :=
  let (k1, k2) := cmacSubkeys key
  let last := if tail.length = 16 then xorBytes tail k1 else xorBytes (pad16 (tail ++ [0x80])) k2
  aesBlock key (xorBytes acc last)

/-- Bytes of a message that CMAC chains before its last block. -/
def cmacBody (n : Nat) : Nat := (n - 1) / 16 * 16

/-- AES-256-CMAC, 16 bytes. -/
def cmac (key : Nat) (msg : List Byte) : List Byte :=
  let n := cmacBody msg.length
  cmacFinish key (cmacChain key (List.replicate 16 0) (blocks16 (n / 16) msg)) (msg.drop n)

/-- The KDF of R92: PRF block `i` is counter, label, a zero byte, context and output length in bits; integers are big-endian
(assumption log 178). -/
def kdf (key : Nat) (label : String) (context : List Byte) (bits : Nat) : List Byte :=
  ((rangeFrom 1 (bits / 128)).map (fun i =>
    cmac key (beBytes 4 i ++ labelBytes label ++ [0] ++ context ++ beBytes 4 bits))).flatten

/-- A 256-bit key from the KDF. -/
def kdfKey (key : Nat) (label : String) (context : List Byte) : Nat := leNat (kdf key label context 256)

/-! ### GCM -/

/-- The initialisation vector of `iv` (96 bits) with block counter `n`. -/
def gcmCounter (iv n : Nat) : List Byte := beBytes 12 iv ++ beBytes 4 n

/-- Multiplies in GF(2^128) with GCM's bit order: `i` bits of `x` are left, from the most significant. -/
def ghashMul (x : Nat) : Nat → Nat → Nat → Nat
  | 0, z, _ => z
  | i + 1, z, v =>
    ghashMul x i (if x.testBit i then z ^^^ v else z) (if v % 2 = 1 then (v / 2) ^^^ (0xE1 * 2 ^ 120) else v / 2)

/-- GHASH continued from `acc` over data of a whole number of blocks. -/
def ghash (h acc : Nat) (d : List Byte) : Nat :=
  (blocks16 (d.length / 16) d).foldl (fun y b => ghashMul (y ^^^ beNat b) 128 0 h) acc

def gcmHashKey (key : Nat) : Nat := beNat (aesBlock key (List.replicate 16 0))

/-- GCM's counter mode over `d` from block counter `n` on; encryption and decryption alike. -/
def gcmCrypt (key iv n : Nat) (d : List Byte) : List Byte :=
  xorBytes d ((rangeFrom n (ceilDiv d.length 16)).map (fun i => aesBlock key (gcmCounter iv i))).flatten

/-- The last GHASH block: lengths in bits. -/
def gcmLengths (aad text : Nat) : List Byte := beBytes 8 (8 * aad) ++ beBytes 8 (8 * text)

/-- The tag that ends a GHASH state. -/
def gcmSeal (key iv acc aad text : Nat) : List Byte :=
  xorBytes (beBytes 16 (ghash (gcmHashKey key) acc (gcmLengths aad text))) (aesBlock key (gcmCounter iv 1))

/-- GCM's 16-byte tag over additional data and ciphertext. -/
def gcmTag (key iv : Nat) (aad cipher : List Byte) : List Byte :=
  gcmSeal key iv (ghash (gcmHashKey key) 0 (pad16 aad ++ pad16 cipher)) aad.length cipher.length

/-! ### XTS -/

/-- Multiplies a tweak by x (IEEE 1619). -/
def xtsDouble (v : Nat) : Nat := if 2 ^ 127 ≤ v then (v * 2 % 2 ^ 128) ^^^ 0x87 else v * 2

/-- One block under its tweak value. -/
def xtsBlock (block : Nat → List Byte → List Byte) (data t : Nat) (b : List Byte) : List Byte :=
  xorBytes (block data (xorBytes b (leBytes 16 t))) (leBytes 16 t)

/-- Whole blocks from tweak value `t` on, with the tweak value that follows. -/
def xtsBlocks (block : Nat → List Byte → List Byte) (data t : Nat) (bs : List (List Byte)) : List Byte × Nat :=
  bs.foldl (fun (x : List Byte × Nat) b => (x.1 ++ xtsBlock block data x.2 b, xtsDouble x.2)) ([], t)

/-- XTS over a data unit of at least 16 bytes: `data` and `tweakKey` are the two keys, `tweak` the number of the unit; the block function
is AES or its inverse. An incomplete last block steals from the one before it, whose tweak value and its own are taken in the other order
for decryption (IEEE 1619). -/
def xts (enc : Bool) (data tweakKey tweak : Nat) (d : List Byte) : List Byte :=
  let block := if enc then aesBlock else aesInverse
  let t := leNat (aesBlock tweakKey (leBytes 16 tweak))
  let m := d.length / 16
  if d.length % 16 = 0 then (xtsBlocks block data t (blocks16 m d)).1
  else
    let (head, t1) := xtsBlocks block data t (blocks16 (m - 1) d)
    let (first, second) := if enc then (t1, xtsDouble t1) else (xtsDouble t1, t1)
    let c := xtsBlock block data first ((d.drop (16 * (m - 1))).take 16)
    let tail := d.drop (16 * m)
    head ++ xtsBlock block data second (tail ++ c.drop tail.length) ++ c.take tail.length

/-! ### AES-KW -/

/-- One step of the wrapping: `a` is the integrity register, `r` the 8-byte semiblocks, `t` the step's number. -/
def wrapStep (key : Nat) (x : List Byte × List (List Byte)) (t : Nat) : List Byte × List (List Byte) :=
  let i := (t - 1) % x.2.length
  let b := aesBlock key (x.1 ++ x.2.getD i [])
  (beBytes 8 (beNat (b.take 8) ^^^ t), x.2.set i (b.drop 8))

/-- AES-KW of a plaintext of whole semiblocks: 8 bytes longer than the plaintext. -/
def keyWrap (key : Nat) (d : List Byte) : List Byte :=
  let n := d.length / 8
  let r := (rangeFrom 0 n).map (fun i => (d.drop (8 * i)).take 8)
  let x := (rangeFrom 1 (6 * n)).foldl (wrapStep key) (List.replicate 8 0xA6, r)
  x.1 ++ x.2.flatten

/-- AES-KW undone: the plaintext where the integrity register ends at its value, none otherwise. -/
def keyUnwrap (key : Nat) (d : List Byte) : Option (List Byte) :=
  let n := d.length / 8 - 1
  let r := (rangeFrom 1 n).map (fun i => (d.drop (8 * i)).take 8)
  let x := (rangeFrom 1 (6 * n)).reverse.foldl (fun (x : List Byte × List (List Byte)) t =>
    let i := (t - 1) % n
    let b := aesInverse key (beBytes 8 (beNat x.1 ^^^ t) ++ x.2.getD i [])
    (b.take 8, x.2.set i (b.drop 8))) (d.take 8, r)
  if x.1 = List.replicate 8 0xA6 then some x.2.flatten else none

end Sys2Proof.Machine
end

