-- ==== Sys2Proof/Machine/RegMap.lean ====
section
/-! DEFINITION. The register map of BAR0: every field of every register of the block tables (Table 23-12), with its offset,
bits, access code, value after reset and clamp, and the event sources of Table 24-2 that the route registers are keyed by. -/

namespace Sys2Proof

/-! ### Event sources (Table 24-2) -/

/-- PORT.LINK_CHANGE, severity 1 (Table 24-2). -/
def Ev.PORT_LINK_CHANGE : Nat := 0x00
/-- CERGA.AUTH_FAIL_ALARM, severity 2 (Table 24-2). -/
def Ev.CERGA_AUTH_FAIL_ALARM : Nat := 0x10
/-- CERGA.REORDER_FULL, severity 1 (Table 24-2). -/
def Ev.CERGA_REORDER_FULL : Nat := 0x11
/-- CERGA.ASSEMBLY_CUT, severity 1 (Table 24-2). -/
def Ev.CERGA_ASSEMBLY_CUT : Nat := 0x12
/-- ROCE.PARK_OVERFLOW, severity 1 (Table 24-2). -/
def Ev.ROCE_PARK_OVERFLOW : Nat := 0x20
/-- ROCE.QP_ERROR, severity 1 (Table 24-2). -/
def Ev.ROCE_QP_ERROR : Nat := 0x21
/-- MEMOP.POISON_DELIVERED, severity 2 (Table 24-2). -/
def Ev.MEMOP_POISON_DELIVERED : Nat := 0x30
/-- MEMOP.OP_FAULT, severity 2 (Table 24-2). -/
def Ev.MEMOP_OP_FAULT : Nat := 0x31
/-- MEMOP.LEDGER_DISCARDED, severity 2 (Table 24-2). -/
def Ev.MEMOP_LEDGER_DISCARDED : Nat := 0x32
/-- MEMOP.LEDGER_WRITTEN, severity 1 (Table 24-2). -/
def Ev.MEMOP_LEDGER_WRITTEN : Nat := 0x33
/-- MEMOP.LEDGER_PRESENTED, severity 1 (Table 24-2). -/
def Ev.MEMOP_LEDGER_PRESENTED : Nat := 0x34
/-- MEMOP.OBJECT_READY, severity 0 (Table 24-2). -/
def Ev.MEMOP_OBJECT_READY : Nat := 0x35
/-- MEMOP.LOOKAHEAD_SHORT, severity 1 (Table 24-2). -/
def Ev.MEMOP_LOOKAHEAD_SHORT : Nat := 0x36
/-- NEAR.DISABLED, severity 1 (Table 24-2). -/
def Ev.NEAR_DISABLED : Nat := 0x40
/-- DRAM.POPULATION_MISMATCH, severity 2 (Table 24-2). -/
def Ev.DRAM_POPULATION_MISMATCH : Nat := 0x50
/-- DRAM.CAPACITY_SHORT, severity 3 (Table 24-2). -/
def Ev.DRAM_CAPACITY_SHORT : Nat := 0x51
/-- DRAM.TRAINING_FAIL, severity 2 (Table 24-2). -/
def Ev.DRAM_TRAINING_FAIL : Nat := 0x52
/-- DRAM.CHANNEL_OUT, severity 3 (Table 24-2). -/
def Ev.DRAM_CHANNEL_OUT : Nat := 0x53
/-- DRAM.THERMAL, severity 2 (Table 24-2). -/
def Ev.DRAM_THERMAL : Nat := 0x54
/-- DRAM.PPR_APPLIED, severity 1 (Table 24-2). -/
def Ev.DRAM_PPR_APPLIED : Nat := 0x55
/-- DRAM.PPR_EXHAUSTED, severity 2 (Table 24-2). -/
def Ev.DRAM_PPR_EXHAUSTED : Nat := 0x56
/-- DRAM.UE, severity 2 (Table 24-2). -/
def Ev.DRAM_UE : Nat := 0x57
/-- FLASH.CAPACITY_SHORT, severity 3 (Table 24-2). -/
def Ev.FLASH_CAPACITY_SHORT : Nat := 0x60
/-- FLASH.ERASED_LOW, severity 2 (Table 24-2). -/
def Ev.FLASH_ERASED_LOW : Nat := 0x61
/-- FLASH.UNCORRECTABLE, severity 2 (Table 24-2). -/
def Ev.FLASH_UNCORRECTABLE : Nat := 0x62
/-- FLASH.BLOCK_RETIRED, severity 1 (Table 24-2). -/
def Ev.FLASH_BLOCK_RETIRED : Nat := 0x63
/-- FLASH.ERASE_REDONE, severity 1 (Table 24-2). -/
def Ev.FLASH_ERASE_REDONE : Nat := 0x64
/-- FLASH.JOURNAL_LOST, severity 3 (Table 24-2). -/
def Ev.FLASH_JOURNAL_LOST : Nat := 0x65
/-- FLASH.TRAINING_FAIL, severity 2 (Table 24-2). -/
def Ev.FLASH_TRAINING_FAIL : Nat := 0x66
/-- FLASH.CHANNEL_OUT, severity 3 (Table 24-2). -/
def Ev.FLASH_CHANNEL_OUT : Nat := 0x67
/-- FLASH.DIE_OUT, severity 2 (Table 24-2). -/
def Ev.FLASH_DIE_OUT : Nat := 0x68
/-- FLASH.REBUILD_DONE, severity 1 (Table 24-2). -/
def Ev.FLASH_REBUILD_DONE : Nat := 0x69
/-- FLASH.ENDURANCE_WARN, severity 2 (Table 24-2). -/
def Ev.FLASH_ENDURANCE_WARN : Nat := 0x6A
/-- FLASH.SPARES_LOW, severity 2 (Table 24-2). -/
def Ev.FLASH_SPARES_LOW : Nat := 0x6B
/-- FLASH.SPARES_EXHAUSTED, severity 3 (Table 24-2). -/
def Ev.FLASH_SPARES_EXHAUSTED : Nat := 0x6C
/-- FLASH.WORN_OUT, severity 3 (Table 24-2). -/
def Ev.FLASH_WORN_OUT : Nat := 0x6D
/-- INTEGRITY.TILE_RECOVERED, severity 1 (Table 24-2). -/
def Ev.INTEGRITY_TILE_RECOVERED : Nat := 0x70
/-- INTEGRITY.TILE_POISONED, severity 2 (Table 24-2). -/
def Ev.INTEGRITY_TILE_POISONED : Nat := 0x71
/-- INTEGRITY.OBJECT_DAMAGED, severity 2 (Table 24-2). -/
def Ev.INTEGRITY_OBJECT_DAMAGED : Nat := 0x72
/-- INTEGRITY.GATHER_UE, severity 3 (Table 24-2). -/
def Ev.INTEGRITY_GATHER_UE : Nat := 0x73
/-- INTEGRITY.TABLE_RELOAD, severity 1 (Table 24-2). -/
def Ev.INTEGRITY_TABLE_RELOAD : Nat := 0x74
/-- INTEGRITY.SRAM_UE, severity 3 (Table 24-2). -/
def Ev.INTEGRITY_SRAM_UE : Nat := 0x75
/-- INTEGRITY.TAG_MISMATCH, severity 2 (Table 24-2). -/
def Ev.INTEGRITY_TAG_MISMATCH : Nat := 0x76
/-- INTEGRITY.POISON_CREATED, severity 2 (Table 24-2). -/
def Ev.INTEGRITY_POISON_CREATED : Nat := 0x77
/-- INTEGRITY.SRAM_REPAIRED, severity 1 (Table 24-2). -/
def Ev.INTEGRITY_SRAM_REPAIRED : Nat := 0x78
/-- INTEGRITY.REPAIR_EXHAUSTED, severity 2 (Table 24-2). -/
def Ev.INTEGRITY_REPAIR_EXHAUSTED : Nat := 0x79
/-- DURABILITY.BUDGET_SHRINK, severity 1 (Table 24-2). -/
def Ev.DURABILITY_BUDGET_SHRINK : Nat := 0x80
/-- DURABILITY.BUDGET_LOW, severity 2 (Table 24-2). -/
def Ev.DURABILITY_BUDGET_LOW : Nat := 0x81
/-- DURABILITY.HEADROOM_LOW, severity 2 (Table 24-2). -/
def Ev.DURABILITY_HEADROOM_LOW : Nat := 0x82
/-- DURABILITY.HOLDUP_TEST_FAIL, severity 2 (Table 24-2). -/
def Ev.DURABILITY_HOLDUP_TEST_FAIL : Nat := 0x83
/-- DURABILITY.HOLDUP_STALE, severity 3 (Table 24-2). -/
def Ev.DURABILITY_HOLDUP_STALE : Nat := 0x84
/-- DURABILITY.STAGE_CHANGE, severity 0 (Table 24-2). -/
def Ev.DURABILITY_STAGE_CHANGE : Nat := 0x85
/-- DURABILITY.OVER_BUDGET, severity 2 (Table 24-2). -/
def Ev.DURABILITY_OVER_BUDGET : Nat := 0x86
/-- DURABILITY.SAVE_START, severity 2 (Table 24-2). -/
def Ev.DURABILITY_SAVE_START : Nat := 0x87
/-- DURABILITY.SAVE_END, severity 1 (Table 24-2). -/
def Ev.DURABILITY_SAVE_END : Nat := 0x88
/-- DURABILITY.SAVE_INCOMPLETE, severity 3 (Table 24-2). -/
def Ev.DURABILITY_SAVE_INCOMPLETE : Nat := 0x89
/-- DURABILITY.LEDGER_LOST, severity 3 (Table 24-2). -/
def Ev.DURABILITY_LEDGER_LOST : Nat := 0x8A
/-- DURABILITY.RESTORE_START, severity 1 (Table 24-2). -/
def Ev.DURABILITY_RESTORE_START : Nat := 0x8B
/-- DURABILITY.RESTORE_DONE, severity 1 (Table 24-2). -/
def Ev.DURABILITY_RESTORE_DONE : Nat := 0x8C
/-- TWIN.BRAZE_UP, severity 1 (Table 24-2). -/
def Ev.TWIN_BRAZE_UP : Nat := 0x90
/-- TWIN.BRAZE_DOWN, severity 2 (Table 24-2). -/
def Ev.TWIN_BRAZE_DOWN : Nat := 0x91
/-- TWIN.BRAZE_WIDTH, severity 2 (Table 24-2). -/
def Ev.TWIN_BRAZE_WIDTH : Nat := 0x92
/-- TWIN.BRAZE_MISCABLED, severity 3 (Table 24-2). -/
def Ev.TWIN_BRAZE_MISCABLED : Nat := 0x93
/-- TWIN.GRANT_REFUSED, severity 1 (Table 24-2). -/
def Ev.TWIN_GRANT_REFUSED : Nat := 0x94
/-- TWIN.SINGLE_RUNNING, severity 2 (Table 24-2). -/
def Ev.TWIN_SINGLE_RUNNING : Nat := 0x95
/-- TWIN.ASSAY_MISMATCH, severity 2 (Table 24-2). -/
def Ev.TWIN_ASSAY_MISMATCH : Nat := 0x96
/-- TWIN.ASSAY_BOTH_PASS, severity 2 (Table 24-2). -/
def Ev.TWIN_ASSAY_BOTH_PASS : Nat := 0x97
/-- TWIN.ASSAY_BOTH_FAIL, severity 3 (Table 24-2). -/
def Ev.TWIN_ASSAY_BOTH_FAIL : Nat := 0x98
/-- TWIN.SWITCH_OVER, severity 2 (Table 24-2). -/
def Ev.TWIN_SWITCH_OVER : Nat := 0x99
/-- TWIN.LEDGER_SUPERSEDED, severity 1 (Table 24-2). -/
def Ev.TWIN_LEDGER_SUPERSEDED : Nat := 0x9A
/-- TWIN.RESYNC_START, severity 1 (Table 24-2). -/
def Ev.TWIN_RESYNC_START : Nat := 0x9B
/-- TWIN.RESYNC_DONE, severity 1 (Table 24-2). -/
def Ev.TWIN_RESYNC_DONE : Nat := 0x9C
/-- TWIN.REVERT, severity 1 (Table 24-2). -/
def Ev.TWIN_REVERT : Nat := 0x9D
/-- TWIN.PEER_FEED, severity 2 (Table 24-2). -/
def Ev.TWIN_PEER_FEED : Nat := 0x9E
/-- DOMAIN.STRAP_INVALID, severity 3 (Table 24-2). -/
def Ev.DOMAIN_STRAP_INVALID : Nat := 0xA0
/-- DOMAIN.MANAGER_UNREACHABLE, severity 2 (Table 24-2). -/
def Ev.DOMAIN_MANAGER_UNREACHABLE : Nat := 0xA1
/-- DOMAIN.MANAGER_REACHABLE, severity 1 (Table 24-2). -/
def Ev.DOMAIN_MANAGER_REACHABLE : Nat := 0xA2
/-- DOMAIN.PUSH_REFUSED, severity 2 (Table 24-2). -/
def Ev.DOMAIN_PUSH_REFUSED : Nat := 0xA3
/-- DOMAIN.JOINED, severity 1 (Table 24-2). -/
def Ev.DOMAIN_JOINED : Nat := 0xA4
/-- DOMAIN.LEFT, severity 1 (Table 24-2). -/
def Ev.DOMAIN_LEFT : Nat := 0xA5
/-- DOMAIN.TIME_STEP, severity 2 (Table 24-2). -/
def Ev.DOMAIN_TIME_STEP : Nat := 0xA6
/-- DOMAIN.TIME_DISAGREE, severity 2 (Table 24-2). -/
def Ev.DOMAIN_TIME_DISAGREE : Nat := 0xA7
/-- DOMAIN.AGG_DROPPED, severity 2 (Table 24-2). -/
def Ev.DOMAIN_AGG_DROPPED : Nat := 0xA8
/-- DOMAIN.DIRECTORY_FULL, severity 2 (Table 24-2). -/
def Ev.DOMAIN_DIRECTORY_FULL : Nat := 0xA9
/-- METER.TIME_UNSYNCED, severity 2 (Table 24-2). -/
def Ev.METER_TIME_UNSYNCED : Nat := 0xB0
/-- METER.TIME_STEP, severity 1 (Table 24-2). -/
def Ev.METER_TIME_STEP : Nat := 0xB1
/-- METER.EXPORT_HELD, severity 1 (Table 24-2). -/
def Ev.METER_EXPORT_HELD : Nat := 0xB2
/-- METER.EXPORT_MERGED, severity 2 (Table 24-2). -/
def Ev.METER_EXPORT_MERGED : Nat := 0xB3
/-- CIPHER.CLUSTER_FAULT, severity 3 (Table 24-2). -/
def Ev.CIPHER_CLUSTER_FAULT : Nat := 0xC0
/-- CIPHER.SELFTEST_FAIL, severity 3 (Table 24-2). -/
def Ev.CIPHER_SELFTEST_FAIL : Nat := 0xC1
/-- CIPHER.KEY_DESTROYED, severity 1 (Table 24-2). -/
def Ev.CIPHER_KEY_DESTROYED : Nat := 0xC2
/-- CIPHER.LIMIT_DENIED, severity 1 (Table 24-2). -/
def Ev.CIPHER_LIMIT_DENIED : Nat := 0xC3
/-- SECURITY.SPACE_KEY_ALARM, severity 2 (Table 24-2). -/
def Ev.SECURITY_SPACE_KEY_ALARM : Nat := 0xD0
/-- SECURITY.LIFECYCLE_MISMATCH, severity 3 (Table 24-2). -/
def Ev.SECURITY_LIFECYCLE_MISMATCH : Nat := 0xD1
/-- SECURITY.LIFECYCLE_CHANGE, severity 2 (Table 24-2). -/
def Ev.SECURITY_LIFECYCLE_CHANGE : Nat := 0xD2
/-- SECURITY.AUTH_FAIL, severity 2 (Table 24-2). -/
def Ev.SECURITY_AUTH_FAIL : Nat := 0xD3
/-- SECURITY.DEBUG_CHANGE, severity 2 (Table 24-2). -/
def Ev.SECURITY_DEBUG_CHANGE : Nat := 0xD4
/-- SECURITY.HALLMARK_ISSUED, severity 0 (Table 24-2). -/
def Ev.SECURITY_HALLMARK_ISSUED : Nat := 0xD5
/-- POWER.PMBUS_FAULT, severity 2 (Table 24-2). -/
def Ev.POWER_PMBUS_FAULT : Nat := 0xE0
/-- POWER.SEQ_ABORT, severity 3 (Table 24-2). -/
def Ev.POWER_SEQ_ABORT : Nat := 0xE1
/-- POWER.RAIL_FAULT, severity 2 (Table 24-2). -/
def Ev.POWER_RAIL_FAULT : Nat := 0xE2
/-- POWER.SENSE_FAULT, severity 2 (Table 24-2). -/
def Ev.POWER_SENSE_FAULT : Nat := 0xE3
/-- POWER.RAIL_HARD_LIMIT, severity 3 (Table 24-2). -/
def Ev.POWER_RAIL_HARD_LIMIT : Nat := 0xE4
/-- POWER.DISCHARGE_TIMEOUT, severity 2 (Table 24-2). -/
def Ev.POWER_DISCHARGE_TIMEOUT : Nat := 0xE5
/-- POWER.FEED_LOST, severity 2 (Table 24-2). -/
def Ev.POWER_FEED_LOST : Nat := 0xE6
/-- POWER.FEED_RESTORED, severity 1 (Table 24-2). -/
def Ev.POWER_FEED_RESTORED : Nat := 0xE7
/-- POWER.HOLDUP_TEST_DONE, severity 0 (Table 24-2). -/
def Ev.POWER_HOLDUP_TEST_DONE : Nat := 0xE8
/-- POWER.SENSE_REVERSED, severity 3 (Table 24-2). -/
def Ev.POWER_SENSE_REVERSED : Nat := 0xE9
/-- POWER.KEEPER_SUPPLY_LOST, severity 3 (Table 24-2). -/
def Ev.POWER_KEEPER_SUPPLY_LOST : Nat := 0xEA
/-- POWER.STATE_CHANGE, severity 1 (Table 24-2). -/
def Ev.POWER_STATE_CHANGE : Nat := 0xEB
/-- POWER.INPUT_STUCK, severity 2 (Table 24-2). -/
def Ev.POWER_INPUT_STUCK : Nat := 0xEC
/-- POWER.INPUT_CHATTERING, severity 2 (Table 24-2). -/
def Ev.POWER_INPUT_CHATTERING : Nat := 0xED
/-- POWER.THERMAL_TRIP, severity 3 (Table 24-2). -/
def Ev.POWER_THERMAL_TRIP : Nat := 0xEE
/-- FIRMWARE_PACE.MONITOR_FAULT, severity 2 (Table 24-2). -/
def Ev.FIRMWARE_PACE_MONITOR_FAULT : Nat := 0xF0
/-- FIRMWARE_PACE.AVS_FAULT, severity 3 (Table 24-2). -/
def Ev.FIRMWARE_PACE_AVS_FAULT : Nat := 0xF1
/-- FIRMWARE_PACE.PACE_SHORT, severity 1 (Table 24-2). -/
def Ev.FIRMWARE_PACE_PACE_SHORT : Nat := 0xF2
/-- FIRMWARE_PACE.AT_CEILING, severity 2 (Table 24-2). -/
def Ev.FIRMWARE_PACE_AT_CEILING : Nat := 0xF3
/-- FIRMWARE_PACE.RING_ERROR, severity 2 (Table 24-2). -/
def Ev.FIRMWARE_PACE_RING_ERROR : Nat := 0xF4
/-- FIRMWARE_PACE.COMMAND_ORPHANED, severity 2 (Table 24-2). -/
def Ev.FIRMWARE_PACE_COMMAND_ORPHANED : Nat := 0xF5
/-- FIRMWARE_PACE.KFLASH_ERASE_REDONE, severity 1 (Table 24-2). -/
def Ev.FIRMWARE_PACE_KFLASH_ERASE_REDONE : Nat := 0xF6
/-- FIRMWARE_PACE.KFLASH_WEAR, severity 2 (Table 24-2). -/
def Ev.FIRMWARE_PACE_KFLASH_WEAR : Nat := 0xF7
/-- FIRMWARE_PACE.KFLASH_RETIRED, severity 1 (Table 24-2). -/
def Ev.FIRMWARE_PACE_KFLASH_RETIRED : Nat := 0xF8
/-- FIRMWARE_PACE.KFLASH_SPARES_LOW, severity 3 (Table 24-2). -/
def Ev.FIRMWARE_PACE_KFLASH_SPARES_LOW : Nat := 0xF9
/-- FIRMWARE_PACE.MGMT_CORE_RESTART, severity 2 (Table 24-2). -/
def Ev.FIRMWARE_PACE_MGMT_CORE_RESTART : Nat := 0xFA
/-- FIRMWARE_PACE.FW_REVERTED, severity 2 (Table 24-2). -/
def Ev.FIRMWARE_PACE_FW_REVERTED : Nat := 0xFB
/-- FIRMWARE_PACE.SETTINGS_BAD, severity 2 (Table 24-2). -/
def Ev.FIRMWARE_PACE_SETTINGS_BAD : Nat := 0xFC
/-- FIRMWARE_PACE.RECOVERY_MODE, severity 3 (Table 24-2). -/
def Ev.FIRMWARE_PACE_RECOVERY_MODE : Nat := 0xFD
/-- FIRMWARE_PACE.SETTINGS_MIGRATED, severity 1 (Table 24-2). -/
def Ev.FIRMWARE_PACE_SETTINGS_MIGRATED : Nat := 0xFE
/-- FIRMWARE_PACE.STRAP_CHANGED, severity 2 (Table 24-2). -/
def Ev.FIRMWARE_PACE_STRAP_CHANGED : Nat := 0xFF

/-- The severity of each listed source (Table 24-2, R477): pairs of source and code. -/
def severityTable : List (Nat × Nat) :=
  [(0x00, 1), (0x10, 2), (0x11, 1), (0x12, 1), (0x20, 1), (0x21, 1), (0x30, 2), (0x31, 2), (0x32, 2), (0x33, 1), (0x34, 1), (0x35, 0), (0x36, 1), (0x40, 1), (0x50, 2), (0x51, 3), (0x52, 2), (0x53, 3), (0x54, 2), (0x55, 1)] ++
  [(0x56, 2), (0x57, 2), (0x60, 3), (0x61, 2), (0x62, 2), (0x63, 1), (0x64, 1), (0x65, 3), (0x66, 2), (0x67, 3), (0x68, 2), (0x69, 1), (0x6A, 2), (0x6B, 2), (0x6C, 3), (0x6D, 3), (0x70, 1), (0x71, 2), (0x72, 2), (0x73, 3)] ++
  [(0x74, 1), (0x75, 3), (0x76, 2), (0x77, 2), (0x78, 1), (0x79, 2), (0x80, 1), (0x81, 2), (0x82, 2), (0x83, 2), (0x84, 3), (0x85, 0), (0x86, 2), (0x87, 2), (0x88, 1), (0x89, 3), (0x8A, 3), (0x8B, 1), (0x8C, 1), (0x90, 1)] ++
  [(0x91, 2), (0x92, 2), (0x93, 3), (0x94, 1), (0x95, 2), (0x96, 2), (0x97, 2), (0x98, 3), (0x99, 2), (0x9A, 1), (0x9B, 1), (0x9C, 1), (0x9D, 1), (0x9E, 2), (0xA0, 3), (0xA1, 2), (0xA2, 1), (0xA3, 2), (0xA4, 1), (0xA5, 1)] ++
  [(0xA6, 2), (0xA7, 2), (0xA8, 2), (0xA9, 2), (0xB0, 2), (0xB1, 1), (0xB2, 1), (0xB3, 2), (0xC0, 3), (0xC1, 3), (0xC2, 1), (0xC3, 1), (0xD0, 2), (0xD1, 3), (0xD2, 2), (0xD3, 2), (0xD4, 2), (0xD5, 0), (0xE0, 2), (0xE1, 3)] ++
  [(0xE2, 2), (0xE3, 2), (0xE4, 3), (0xE5, 2), (0xE6, 2), (0xE7, 1), (0xE8, 0), (0xE9, 3), (0xEA, 3), (0xEB, 1), (0xEC, 2), (0xED, 2), (0xEE, 3), (0xF0, 2), (0xF1, 3), (0xF2, 1), (0xF3, 2), (0xF4, 2), (0xF5, 2), (0xF6, 1)] ++
  [(0xF7, 2), (0xF8, 1), (0xF9, 3), (0xFA, 2), (0xFB, 2), (0xFC, 2), (0xFD, 3), (0xFE, 1), (0xFF, 2)]

/-- Whether Table 24-2 lists source `s`; an ID not listed is reserved and never raised (R476). -/
def isListedSource (s : Nat) : Bool := AMap.has severityTable s

/-- The fixed severity of a source (R477). -/
def severityOf (s : Nat) : Nat := (AMap.get? severityTable s).getD 0

/-! ### Fields -/

/-- Access codes of R2. -/
inductive Acc where
  | ro | rw | wo | w1c
  deriving DecidableEq, Repr

/-- What R6 does to a value written outside a field's range: `clamp` takes the nearest bound, `codes` replaces an undefined
code by the field's default, `zeroOr` permits 0 beside a range, and `atLeast k` takes its lower bound from field `k` of the
same register (R6, and the Meaning column of the field). -/
inductive Fix where
  | none
  | clamp (lo hi : Nat)
  | codes (max dflt : Nat)
  | zeroOr (lo hi : Nat)
  | atLeast (which lo hi : Nat)
  deriving DecidableEq, Repr

/-- One field of a register, or of each register of a series: BAR0 offset, stride and length of the series, low bit, width
(64 for a _LO/_HI pair), access code, value after reset, and the R6 rule for writes. -/
structure Fld where
  off : Nat
  stride : Nat
  count : Nat
  lo : Nat
  width : Nat
  acc : Acc
  reset : Nat → Nat
  fix : Fix

/-- The key under which instance `n` of a field is held in the register file; instances count modulo the length of the series, so
that the keys of different fields never meet. -/
def Fld.key (f : Fld) (n : Nat) : Nat := (f.off + f.stride * (n % f.count)) * 64 + f.lo

/-- Power-up step of rail `n` (Table 19-1); a board rail starts at 5, the lowest step it may take (assumption log 21). -/
def railStepDefault (n : Nat) : Nat := [1, 1, 2, 3, 4, 4, 4, 4, 5, 5, 6, 6].getD n 5

/-- Nominal voltage of rail `n` in mV (Table 19-1); VDD_CORE stands at the 0.76 V that R400 sets before step 3. -/
def railNominalDefault (n : Nat) : Nat :=
  [1800, 3300, 750, 760, 750, 1200, 750, 750, 1100, 1200, 2500, 12000].getD n 0

namespace R

/-! ### Block GLOBAL -/

/-- Part LSG-H9612 -/
def GLOBAL_ID_PART : Fld := ⟨0x0, 0, 1, 16, 16, .ro, fun _ => 38418, .none⟩
/-- Hjelsyn H9 -/
def GLOBAL_ID_FAMILY : Fld := ⟨0x0, 0, 1, 0, 16, .ro, fun _ => 18489, .none⟩
/-- Silicon stepping, per R1 -/
def GLOBAL_REV_STEPPING : Fld := ⟨0x4, 0, 1, 24, 8, .ro, fun _ => 176, .none⟩
/-- First 8 bytes of the identity digest; byte 0 in _LO bits 7:0 -/
def GLOBAL_DEVICE_ID_DIGEST : Fld := ⟨0x8, 0, 1, 0, 64, .ro, fun _ => 0, .none⟩
/-- ROLE_SEL[1:0] as latched under R451 -/
def GLOBAL_STRAPS_ROLE_SEL : Fld := ⟨0x10, 0, 1, 30, 2, .ro, fun _ => 0, .none⟩
/-- As latched -/
def GLOBAL_STRAPS_PAIR_SIDE : Fld := ⟨0x10, 0, 1, 29, 1, .ro, fun _ => 0, .none⟩
/-- As latched -/
def GLOBAL_STRAPS_BOOT_SEL : Fld := ⟨0x10, 0, 1, 28, 1, .ro, fun _ => 0, .none⟩
/-- ROLE_SEL latched at the previous start -/
def GLOBAL_STRAPS_PREV_ROLE_SEL : Fld := ⟨0x10, 0, 1, 26, 2, .ro, fun _ => 0, .none⟩
/-- PAIR_SIDE latched at the previous start -/
def GLOBAL_STRAPS_PREV_PAIR_SIDE : Fld := ⟨0x10, 0, 1, 25, 1, .ro, fun _ => 0, .none⟩
/-- 1 if FIRMWARE_PACE.STRAP_CHANGED was raised at this start -/
def GLOBAL_STRAPS_CHANGED : Fld := ⟨0x10, 0, 1, 24, 1, .ro, fun _ => 0, .none⟩
/-- Pair number taken at this start under R336 -/
def GLOBAL_STRAPS_PAIR : Fld := ⟨0x10, 0, 1, 0, 13, .ro, fun _ => 0, .none⟩
/-- Set at step 5 of Table 21-4 -/
def GLOBAL_STATUS_MGMT_READY : Fld := ⟨0x14, 0, 1, 31, 1, .ro, fun _ => 0, .none⟩
/-- 1 while GLOBAL_INTERLOCK reads 0 -/
def GLOBAL_STATUS_SERVING : Fld := ⟨0x14, 0, 1, 30, 1, .ro, fun _ => 0, .none⟩
/-- 1 from save step 1 until the save ends -/
def GLOBAL_STATUS_SAVE_ACTIVE : Fld := ⟨0x14, 0, 1, 29, 1, .ro, fun _ => 0, .none⟩
/-- Code of Table 18-6 -/
def GLOBAL_STATUS_POWER : Fld := ⟨0x14, 0, 1, 26, 3, .ro, fun _ => 0, .none⟩
/-- Per R470 -/
def GLOBAL_STATUS_RESET_ARMED : Fld := ⟨0x14, 0, 1, 25, 1, .ro, fun _ => 0, .none⟩
/-- A partial write was ignored under R463 -/
def GLOBAL_STATUS_ACCESS_ERR : Fld := ⟨0x14, 0, 1, 24, 1, .w1c, fun _ => 0, .none⟩
/-- No enabled port has LINK UP -/
def GLOBAL_INTERLOCK_NO_PORT : Fld := ⟨0x18, 0, 1, 8, 1, .ro, fun _ => 1, .none⟩
/-- CERGA_CTRL.ENABLE and ROCE_CTRL.ENABLE are both 0 -/
def GLOBAL_INTERLOCK_TRANSPORTS_OFF : Fld := ⟨0x18, 0, 1, 7, 1, .ro, fun _ => 1, .none⟩
/-- Power state P2 -/
def GLOBAL_INTERLOCK_QUIESCED : Fld := ⟨0x18, 0, 1, 6, 1, .ro, fun _ => 0, .none⟩
/-- A save runs -/
def GLOBAL_INTERLOCK_SAVE : Fld := ⟨0x18, 0, 1, 5, 1, .ro, fun _ => 0, .none⟩
/-- DUR_RESTORE_STATUS.PHASE reads FAILED; the code is in FAIL_CODE -/
def GLOBAL_INTERLOCK_START_FAILED : Fld := ⟨0x18, 0, 1, 4, 1, .ro, fun _ => 0, .none⟩
/-- Step 11 of Table 22-2 has not begun -/
def GLOBAL_INTERLOCK_STARTING : Fld := ⟨0x18, 0, 1, 3, 1, .ro, fun _ => 1, .none⟩
/-- Check 2 of Table 3-4 fails -/
def GLOBAL_INTERLOCK_NO_TOKEN : Fld := ⟨0x18, 0, 1, 2, 1, .ro, fun _ => 1, .none⟩
/-- Debug level DBG2 -/
def GLOBAL_INTERLOCK_DEBUG : Fld := ⟨0x18, 0, 1, 1, 1, .ro, fun _ => 0, .none⟩
/-- Life cycle other than IN_SERVICE -/
def GLOBAL_INTERLOCK_LIFECYCLE : Fld := ⟨0x18, 0, 1, 0, 1, .ro, fun _ => 0, .none⟩
/-- Per R470 -/
def GLOBAL_RESET_KEY : Fld := ⟨0x1C, 0, 1, 0, 32, .wo, fun _ => 0, .none⟩
/-- For the driver; the H9 does not interpret it -/
def GLOBAL_SCRATCH_VALUE : Fld := ⟨0x20, 0, 1, 0, 32, .rw, fun _ => 0, .none⟩
/-- Service MAC bytes 2 to 5, byte 2 in bits 31:24 -/
def GLOBAL_SVC_MAC_LO_MAC : Fld := ⟨0x30, 0, 1, 0, 32, .rw, fun _ => 0, .none⟩
/-- Service MAC bytes 0 and 1, byte 0 in bits 15:8 -/
def GLOBAL_SVC_MAC_HI_MAC : Fld := ⟨0x34, 0, 1, 0, 16, .rw, fun _ => 0, .none⟩
/-- Service IPv4 address, first octet in bits 31:24 -/
def GLOBAL_SVC_IP4_ADDR : Fld := ⟨0x38, 0, 1, 0, 32, .rw, fun _ => 0, .none⟩
/-- Service IPv6 bytes 4n to 4n + 3, byte 4n in bits 31:24 -/
def GLOBAL_SVC_IP6_ADDR : Fld := ⟨0x40, 4, 4, 0, 32, .rw, fun _ => 0, .none⟩
/-- Base of this H9's 64 own MAC addresses, laid out as GLOBAL_SVC_MAC -/
def GLOBAL_OWN_MAC_LO_MAC : Fld := ⟨0x50, 0, 1, 0, 32, .ro, fun _ => 0, .none⟩
/-- Base of this H9's 64 own MAC addresses, laid out as GLOBAL_SVC_MAC -/
def GLOBAL_OWN_MAC_HI_MAC : Fld := ⟨0x54, 0, 1, 0, 16, .ro, fun _ => 0, .none⟩
/-- This H9's own IPv4 address -/
def GLOBAL_OWN_IP4_ADDR : Fld := ⟨0x58, 0, 1, 0, 32, .rw, fun _ => 0, .none⟩
/-- This H9's own IPv6 address, as GLOBAL_SVC_IP6_n -/
def GLOBAL_OWN_IP6_ADDR : Fld := ⟨0x60, 4, 4, 0, 32, .rw, fun _ => 0, .none⟩

/-- Every field of block GLOBAL (register map of its chapter). -/
def fieldsGLOBAL : List Fld :=
  [GLOBAL_ID_PART, GLOBAL_ID_FAMILY, GLOBAL_REV_STEPPING, GLOBAL_DEVICE_ID_DIGEST, GLOBAL_STRAPS_ROLE_SEL, GLOBAL_STRAPS_PAIR_SIDE, GLOBAL_STRAPS_BOOT_SEL, GLOBAL_STRAPS_PREV_ROLE_SEL, GLOBAL_STRAPS_PREV_PAIR_SIDE, GLOBAL_STRAPS_CHANGED, GLOBAL_STRAPS_PAIR, GLOBAL_STATUS_MGMT_READY, GLOBAL_STATUS_SERVING, GLOBAL_STATUS_SAVE_ACTIVE, GLOBAL_STATUS_POWER, GLOBAL_STATUS_RESET_ARMED, GLOBAL_STATUS_ACCESS_ERR, GLOBAL_INTERLOCK_NO_PORT, GLOBAL_INTERLOCK_TRANSPORTS_OFF, GLOBAL_INTERLOCK_QUIESCED] ++
  [GLOBAL_INTERLOCK_SAVE, GLOBAL_INTERLOCK_START_FAILED, GLOBAL_INTERLOCK_STARTING, GLOBAL_INTERLOCK_NO_TOKEN, GLOBAL_INTERLOCK_DEBUG, GLOBAL_INTERLOCK_LIFECYCLE, GLOBAL_RESET_KEY, GLOBAL_SCRATCH_VALUE, GLOBAL_SVC_MAC_LO_MAC, GLOBAL_SVC_MAC_HI_MAC, GLOBAL_SVC_IP4_ADDR, GLOBAL_SVC_IP6_ADDR, GLOBAL_OWN_MAC_LO_MAC, GLOBAL_OWN_MAC_HI_MAC, GLOBAL_OWN_IP4_ADDR, GLOBAL_OWN_IP6_ADDR]

/-! ### Block RING -/

/-- Ring base in host memory; must be 4 KiB aligned under R303 -/
def RING_CMD_BASE_ADDR : Fld := ⟨0x10000, 32, 64, 0, 64, .rw, fun _ => 0, .none⟩
/-- Ring base in host memory; must be 4 KiB aligned under R303 -/
def RING_CPL_BASE_ADDR : Fld := ⟨0x10800, 32, 64, 0, 64, .rw, fun _ => 0, .none⟩
/-- Ring base in host memory; must be 4 KiB aligned under R303 -/
def RING_EV_BASE_ADDR : Fld := ⟨0x11000, 32, 8, 0, 64, .rw, fun _ => 0, .none⟩
/-- Ring base in host memory; must be 4 KiB aligned under R303 -/
def RING_EX_BASE_ADDR : Fld := ⟨0x11100, 32, 4, 0, 64, .rw, fun _ => 0, .none⟩
/-- R303 -/
def RING_CMD_CFG_ENABLE : Fld := ⟨0x10008, 32, 64, 31, 1, .rw, fun _ => 0, .none⟩
/-- R303 -/
def RING_CPL_CFG_ENABLE : Fld := ⟨0x10808, 32, 64, 31, 1, .rw, fun _ => 0, .none⟩
/-- R303 -/
def RING_EV_CFG_ENABLE : Fld := ⟨0x11008, 32, 8, 31, 1, .rw, fun _ => 0, .none⟩
/-- R303 -/
def RING_EX_CFG_ENABLE : Fld := ⟨0x11108, 32, 4, 31, 1, .rw, fun _ => 0, .none⟩
/-- Entries = 2^SIZE_LOG2; 4 to 16, clamped -/
def RING_CMD_CFG_SIZE_LOG2 : Fld := ⟨0x10008, 32, 64, 16, 5, .rw, fun _ => 4, .clamp 4 16⟩
/-- Entries = 2^SIZE_LOG2; 4 to 16, clamped -/
def RING_CPL_CFG_SIZE_LOG2 : Fld := ⟨0x10808, 32, 64, 16, 5, .rw, fun _ => 4, .clamp 4 16⟩
/-- Entries = 2^SIZE_LOG2; 4 to 16, clamped -/
def RING_EV_CFG_SIZE_LOG2 : Fld := ⟨0x11008, 32, 8, 16, 5, .rw, fun _ => 4, .clamp 4 16⟩
/-- Entries = 2^SIZE_LOG2; 4 to 16, clamped -/
def RING_EX_CFG_SIZE_LOG2 : Fld := ⟨0x11108, 32, 4, 16, 5, .rw, fun _ => 4, .clamp 4 16⟩
/-- Rings the H9 writes: MSI-X vector under R314 -/
def RING_CPL_CFG_VECTOR : Fld := ⟨0x10808, 32, 64, 0, 11, .rw, fun n => n, .none⟩
/-- Rings the H9 writes: MSI-X vector under R314 -/
def RING_EV_CFG_VECTOR : Fld := ⟨0x11008, 32, 8, 0, 11, .rw, fun m => 64 + m, .none⟩
/-- Rings the H9 writes: MSI-X vector under R314 -/
def RING_EX_CFG_VECTOR : Fld := ⟨0x11108, 32, 4, 0, 11, .rw, fun x => 72 + x, .none⟩
/-- Completion ring for this command ring -/
def RING_CMD_CFG_CPL_RING : Fld := ⟨0x10008, 32, 64, 0, 6, .rw, fun n => n, .none⟩
/-- R314; 1 to 255, clamped -/
def RING_CPL_COAL_COUNT : Fld := ⟨0x1080C, 32, 64, 16, 8, .rw, fun _ => 1, .clamp 1 255⟩
/-- R314; 1 to 255, clamped -/
def RING_EV_COAL_COUNT : Fld := ⟨0x1100C, 32, 8, 16, 8, .rw, fun _ => 1, .clamp 1 255⟩
/-- R314; 1 to 255, clamped -/
def RING_EX_COAL_COUNT : Fld := ⟨0x1110C, 32, 4, 16, 8, .rw, fun _ => 1, .clamp 1 255⟩
/-- R314; 0 to 1,000, clamped -/
def RING_CPL_COAL_US : Fld := ⟨0x1080C, 32, 64, 0, 10, .rw, fun _ => 0, .clamp 0 1000⟩
/-- R314; 0 to 1,000, clamped -/
def RING_EV_COAL_US : Fld := ⟨0x1100C, 32, 8, 0, 10, .rw, fun _ => 0, .clamp 0 1000⟩
/-- R314; 0 to 1,000, clamped -/
def RING_EX_COAL_US : Fld := ⟨0x1110C, 32, 4, 0, 10, .rw, fun _ => 0, .clamp 0 1000⟩
/-- 0 DISABLED, 1 ENABLED, 2 DRAINING, 3 ERROR -/
def RING_CMD_STATUS_STATE : Fld := ⟨0x10010, 32, 64, 30, 2, .ro, fun _ => 0, .none⟩
/-- 0 DISABLED, 1 ENABLED, 2 DRAINING, 3 ERROR -/
def RING_CPL_STATUS_STATE : Fld := ⟨0x10810, 32, 64, 30, 2, .ro, fun _ => 0, .none⟩
/-- 0 DISABLED, 1 ENABLED, 2 DRAINING, 3 ERROR -/
def RING_EV_STATUS_STATE : Fld := ⟨0x11010, 32, 8, 30, 2, .ro, fun _ => 0, .none⟩
/-- 0 DISABLED, 1 ENABLED, 2 DRAINING, 3 ERROR -/
def RING_EX_STATUS_STATE : Fld := ⟨0x11110, 32, 4, 30, 2, .ro, fun _ => 0, .none⟩
/-- Doorbell ignored under R305 -/
def RING_CMD_STATUS_DB_ERR : Fld := ⟨0x10010, 32, 64, 29, 1, .w1c, fun _ => 0, .none⟩
/-- Doorbell ignored under R305 -/
def RING_CPL_STATUS_DB_ERR : Fld := ⟨0x10810, 32, 64, 29, 1, .w1c, fun _ => 0, .none⟩
/-- Doorbell ignored under R305 -/
def RING_EV_STATUS_DB_ERR : Fld := ⟨0x11010, 32, 8, 29, 1, .w1c, fun _ => 0, .none⟩
/-- Doorbell ignored under R305 -/
def RING_EX_STATUS_DB_ERR : Fld := ⟨0x11110, 32, 4, 29, 1, .w1c, fun _ => 0, .none⟩
/-- Command ring: next fetch. Other rings: next entry the H9 writes -/
def RING_CMD_PTRS_H9_INDEX : Fld := ⟨0x10014, 32, 64, 16, 16, .ro, fun _ => 0, .none⟩
/-- Command ring: next fetch. Other rings: next entry the H9 writes -/
def RING_CPL_PTRS_H9_INDEX : Fld := ⟨0x10814, 32, 64, 16, 16, .ro, fun _ => 0, .none⟩
/-- Command ring: next fetch. Other rings: next entry the H9 writes -/
def RING_EV_PTRS_H9_INDEX : Fld := ⟨0x11014, 32, 8, 16, 16, .ro, fun _ => 0, .none⟩
/-- Command ring: next fetch. Other rings: next entry the H9 writes -/
def RING_EX_PTRS_H9_INDEX : Fld := ⟨0x11114, 32, 4, 16, 16, .ro, fun _ => 0, .none⟩
/-- Last doorbell value accepted: tail of a command ring, head of any other ring -/
def RING_CMD_PTRS_HOST_INDEX : Fld := ⟨0x10014, 32, 64, 0, 16, .ro, fun _ => 0, .none⟩
/-- Last doorbell value accepted: tail of a command ring, head of any other ring -/
def RING_CPL_PTRS_HOST_INDEX : Fld := ⟨0x10814, 32, 64, 0, 16, .ro, fun _ => 0, .none⟩
/-- Last doorbell value accepted: tail of a command ring, head of any other ring -/
def RING_EV_PTRS_HOST_INDEX : Fld := ⟨0x11014, 32, 8, 0, 16, .ro, fun _ => 0, .none⟩
/-- Last doorbell value accepted: tail of a command ring, head of any other ring -/
def RING_EX_PTRS_HOST_INDEX : Fld := ⟨0x11114, 32, 4, 0, 16, .ro, fun _ => 0, .none⟩
/-- Management clamps since power-on under R315 -/
def RING_CLAMPS_COUNT : Fld := ⟨0x11200, 0, 1, 0, 64, .ro, fun _ => 0, .none⟩

/-- Every field of block RING (register map of its chapter). -/
def fieldsRING : List Fld :=
  [RING_CMD_BASE_ADDR, RING_CPL_BASE_ADDR, RING_EV_BASE_ADDR, RING_EX_BASE_ADDR, RING_CMD_CFG_ENABLE, RING_CPL_CFG_ENABLE, RING_EV_CFG_ENABLE, RING_EX_CFG_ENABLE, RING_CMD_CFG_SIZE_LOG2, RING_CPL_CFG_SIZE_LOG2, RING_EV_CFG_SIZE_LOG2, RING_EX_CFG_SIZE_LOG2, RING_CPL_CFG_VECTOR, RING_EV_CFG_VECTOR, RING_EX_CFG_VECTOR, RING_CMD_CFG_CPL_RING, RING_CPL_COAL_COUNT, RING_EV_COAL_COUNT, RING_EX_COAL_COUNT, RING_CPL_COAL_US] ++
  [RING_EV_COAL_US, RING_EX_COAL_US, RING_CMD_STATUS_STATE, RING_CPL_STATUS_STATE, RING_EV_STATUS_STATE, RING_EX_STATUS_STATE, RING_CMD_STATUS_DB_ERR, RING_CPL_STATUS_DB_ERR, RING_EV_STATUS_DB_ERR, RING_EX_STATUS_DB_ERR, RING_CMD_PTRS_H9_INDEX, RING_CPL_PTRS_H9_INDEX, RING_EV_PTRS_H9_INDEX, RING_EX_PTRS_H9_INDEX, RING_CMD_PTRS_HOST_INDEX, RING_CPL_PTRS_HOST_INDEX, RING_EV_PTRS_HOST_INDEX, RING_EX_PTRS_HOST_INDEX, RING_CLAMPS_COUNT]

/-! ### Block PACE -/

/-- Target pace in MHz, per R24 -/
def PACE_REQUIRED_TARGET_MHZ : Fld := ⟨0x80008, 0, 1, 16, 16, .ro, fun _ => 0, .none⟩
/-- Required pace in MHz, per R24 -/
def PACE_REQUIRED_REQUIRED_MHZ : Fld := ⟨0x80008, 0, 1, 0, 16, .ro, fun _ => 0, .none⟩
/-- F × 1,024 -/
def PACE_ADMIT_FRACTION : Fld := ⟨0x8000C, 0, 1, 0, 11, .ro, fun _ => 1024, .none⟩
/-- Monitor giving the controlling reading -/
def PACE_MIN_MIN_INDEX : Fld := ⟨0x80010, 0, 1, 16, 6, .ro, fun _ => 0, .none⟩
/-- Controlling reading in MHz -/
def PACE_MIN_MIN_MHZ : Fld := ⟨0x80010, 0, 1, 0, 16, .ro, fun _ => 0, .none⟩
/-- Count of loop periods with F < 1 since power-on -/
def PACE_THROTTLE_PERIODS : Fld := ⟨0x80014, 0, 1, 0, 64, .ro, fun _ => 0, .none⟩
/-- 1 while excluded under R22 -/
def PACE_MON_EXCLUDED : Fld := ⟨0x80100, 4, 64, 31, 1, .ro, fun _ => 0, .none⟩
/-- Last reading in MHz -/
def PACE_MON_RATE_MHZ : Fld := ⟨0x80100, 4, 64, 0, 16, .ro, fun _ => 0, .none⟩
/-- Ceiling in mV; 550 to 850, clamped -/
def PACE_CTRL_VMAX_MV : Fld := ⟨0x80000, 0, 1, 16, 10, .rw, fun _ => 850, .clamp 550 850⟩
/-- Margin in %; 8 to 20, clamped -/
def PACE_CTRL_MARGIN_PCT : Fld := ⟨0x80000, 0, 1, 8, 8, .rw, fun _ => 8, .clamp 8 20⟩
/-- Share of C used in P1, in %; 10 to 100, clamped -/
def PACE_CTRL_PACED_PCT : Fld := ⟨0x80000, 0, 1, 0, 7, .rw, fun _ => 50, .clamp 10 100⟩
/-- Last VDD_CORE setting in mV -/
def PACE_STATUS_VDD_MV : Fld := ⟨0x80004, 0, 1, 16, 10, .ro, fun _ => 0, .none⟩
/-- 1 while F < 1 -/
def PACE_STATUS_THROTTLE : Fld := ⟨0x80004, 0, 1, 15, 1, .ro, fun _ => 0, .none⟩
/-- 1 while VDD_CORE is at the effective ceiling -/
def PACE_STATUS_AT_CEILING : Fld := ⟨0x80004, 0, 1, 14, 1, .ro, fun _ => 0, .none⟩
/-- 0 while FIRMWARE_PACE.AVS_FAULT stands -/
def PACE_STATUS_AVS_OK : Fld := ⟨0x80004, 0, 1, 13, 1, .ro, fun _ => 0, .none⟩
/-- Count of monitors not excluded -/
def PACE_STATUS_VALID_MONITORS : Fld := ⟨0x80004, 0, 1, 0, 7, .ro, fun _ => 0, .none⟩

/-- Every field of block PACE (register map of its chapter). -/
def fieldsPACE : List Fld :=
  [PACE_REQUIRED_TARGET_MHZ, PACE_REQUIRED_REQUIRED_MHZ, PACE_ADMIT_FRACTION, PACE_MIN_MIN_INDEX, PACE_MIN_MIN_MHZ, PACE_THROTTLE_PERIODS, PACE_MON_EXCLUDED, PACE_MON_RATE_MHZ, PACE_CTRL_VMAX_MV, PACE_CTRL_MARGIN_PCT, PACE_CTRL_PACED_PCT, PACE_STATUS_VDD_MV, PACE_STATUS_THROTTLE, PACE_STATUS_AT_CEILING, PACE_STATUS_AVS_OK, PACE_STATUS_VALID_MONITORS]

/-! ### Block PORT -/

/-- 1 = the port trains and carries traffic -/
def PORT_CTRL_ENABLE : Fld := ⟨0x90000, 4096, 16, 31, 1, .rw, fun _ => 0, .none⟩
/-- 0 1 × 800G, 1 2 × 400G, 2 4 × 200G; 3 taken as 0 -/
def PORT_CTRL_BREAKOUT : Fld := ⟨0x90000, 4096, 16, 29, 2, .rw, fun _ => 0, .codes 2 0⟩
/-- 0 800GBASE-CR4, 1 800GBASE-KR4, 2 800GAUI-4 C2M; 3 taken as 0 -/
def PORT_CTRL_MEDIA : Fld := ⟨0x90000, 4096, 16, 27, 2, .rw, fun _ => 0, .codes 2 0⟩
/-- Low-latency FEC mode; ignored unless MEDIA is 0 -/
def PORT_CTRL_FEC_LL : Fld := ⟨0x90000, 4096, 16, 26, 1, .rw, fun _ => 0, .none⟩
/-- Configured rate in Gbit/s, shared equally by the sub-ports; 100 to 800, clamped -/
def PORT_CTRL_RATE_GBPS : Fld := ⟨0x90000, 4096, 16, 0, 10, .rw, fun _ => 800, .clamp 100 800⟩
/-- Bit p = PFC per IEEE 802.1Qbb on priority p -/
def PORT_PFC_PFC_EN : Fld := ⟨0x90004, 4096, 16, 16, 8, .rw, fun _ => 255, .none⟩
/-- Ingress threshold in KiB for pause, or for drop on priorities without PFC; 64 to 768, clamped -/
def PORT_PFC_THRESH_KB : Fld := ⟨0x90004, 4096, 16, 0, 10, .rw, fun _ => 768, .clamp 64 768⟩
/-- Frames the H9 originates carry an IEEE 802.1Q tag -/
def PORT_VLAN_TAG : Fld := ⟨0x90008, 4096, 16, 31, 1, .rw, fun _ => 0, .none⟩
/-- Priority of originated frames -/
def PORT_VLAN_PCP : Fld := ⟨0x90008, 4096, 16, 12, 3, .rw, fun _ => 0, .none⟩
/-- VLAN of originated frames; 1 to 4,094, clamped -/
def PORT_VLAN_VID : Fld := ⟨0x90008, 4096, 16, 0, 12, .rw, fun _ => 1, .clamp 1 4094⟩
/-- 0 DOWN, 1 TRAINING, 2 UP; held under R190 -/
def PORT_STATUS_LINK : Fld := ⟨0x9000C, 4096, 16, 30, 2, .ro, fun _ => 0, .none⟩
/-- Bit i = lane 4n + i locked -/
def PORT_STATUS_LANES_UP : Fld := ⟨0x9000C, 4096, 16, 26, 4, .ro, fun _ => 0, .none⟩
/-- Lane order reversal found and corrected -/
def PORT_STATUS_REVERSED : Fld := ⟨0x9000C, 4096, 16, 25, 1, .ro, fun _ => 0, .none⟩
/-- Bit i = inversion on lane 4n + i found and corrected -/
def PORT_STATUS_POLARITY : Fld := ⟨0x9000C, 4096, 16, 21, 4, .ro, fun _ => 0, .none⟩
/-- Count since power-on (64-bit pair). -/
def PORT_RX_FRAMES : Fld := ⟨0x90020, 4096, 16, 0, 64, .ro, fun _ => 0, .none⟩
/-- Count since power-on (64-bit pair). -/
def PORT_TX_FRAMES : Fld := ⟨0x90028, 4096, 16, 0, 64, .ro, fun _ => 0, .none⟩
/-- Count since power-on (64-bit pair). -/
def PORT_RX_DROPS : Fld := ⟨0x90030, 4096, 16, 0, 64, .ro, fun _ => 0, .none⟩
/-- Count since power-on (64-bit pair). -/
def PORT_SRC_FILTERED : Fld := ⟨0x90038, 4096, 16, 0, 64, .ro, fun _ => 0, .none⟩
/-- Count since power-on (64-bit pair). -/
def PORT_PFC_TX : Fld := ⟨0x90040, 4096, 16, 0, 64, .ro, fun _ => 0, .none⟩
/-- Count since power-on (64-bit pair). -/
def PORT_FEC_UNCORR : Fld := ⟨0x90048, 4096, 16, 0, 64, .ro, fun _ => 0, .none⟩

/-- Every field of block PORT (register map of its chapter). -/
def fieldsPORT : List Fld :=
  [PORT_CTRL_ENABLE, PORT_CTRL_BREAKOUT, PORT_CTRL_MEDIA, PORT_CTRL_FEC_LL, PORT_CTRL_RATE_GBPS, PORT_PFC_PFC_EN, PORT_PFC_THRESH_KB, PORT_VLAN_TAG, PORT_VLAN_PCP, PORT_VLAN_VID, PORT_STATUS_LINK, PORT_STATUS_LANES_UP, PORT_STATUS_REVERSED, PORT_STATUS_POLARITY, PORT_RX_FRAMES, PORT_TX_FRAMES, PORT_RX_DROPS, PORT_SRC_FILTERED, PORT_PFC_TX, PORT_FEC_UNCORR]

/-! ### Block CERGA -/

/-- Destination port, 49,372 -/
def CERGA_CTRL_UDP_PORT : Fld := ⟨0xA0000, 0, 1, 16, 16, .rw, fun _ => 49372, .none⟩
/-- Accept Cerga over IPv6 -/
def CERGA_CTRL_IPV6 : Fld := ⟨0xA0000, 0, 1, 2, 1, .rw, fun _ => 1, .none⟩
/-- Accept Cerga over IPv4 -/
def CERGA_CTRL_IPV4 : Fld := ⟨0xA0000, 0, 1, 1, 1, .rw, fun _ => 1, .none⟩
/-- 0 = Cerga packets dropped uncounted -/
def CERGA_CTRL_ENABLE : Fld := ⟨0xA0000, 0, 1, 0, 1, .rw, fun _ => 0, .none⟩
/-- Idle time of R96 in s; 1 to 3,600, clamped -/
def CERGA_TIMEOUTS_LAPSE_S : Fld := ⟨0xA0004, 0, 1, 20, 12, .rw, fun _ => 60, .clamp 1 3600⟩
/-- Assembly time of R109 in µs; 100 to 1,000,000, clamped -/
def CERGA_TIMEOUTS_ASSEMBLY_US : Fld := ⟨0xA0004, 0, 1, 0, 20, .rw, fun _ => 2000, .clamp 100 1000000⟩
/-- Packets per ACK; 1 to 255, clamped -/
def CERGA_ACK_ACK_EVERY : Fld := ⟨0xA0008, 0, 1, 24, 8, .rw, fun _ => 16, .clamp 1 255⟩
/-- ACK delay in ns; 100 to 10,000, clamped -/
def CERGA_ACK_ACK_DELAY_NS : Fld := ⟨0xA0008, 0, 1, 0, 16, .rw, fun _ => 2000, .clamp 100 10000⟩
/-- Credit ceiling of R107; 1 to 1,024, clamped -/
def CERGA_CREDIT_MAX_PKTS : Fld := ⟨0xA000C, 0, 1, 16, 11, .rw, fun _ => 256, .clamp 1 1024⟩
/-- ECN threshold in KiB; 16 to 768, clamped -/
def CERGA_CREDIT_MARK_KB : Fld := ⟨0xA000C, 0, 1, 0, 10, .rw, fun _ => 384, .clamp 16 768⟩
/-- Streams in state OPEN -/
def CERGA_STATUS_OPEN_STREAMS : Fld := ⟨0xA0010, 0, 1, 0, 23, .ro, fun _ => 0, .none⟩
/-- Contexts in the context cache -/
def CERGA_CACHE_CACHED : Fld := ⟨0xA0014, 0, 1, 0, 17, .ro, fun _ => 0, .none⟩
/-- Current incarnation of R95 -/
def CERGA_INCARNATION_VALUE : Fld := ⟨0xA0018, 0, 1, 0, 16, .ro, fun _ => 0, .none⟩
/-- Tag failures per second before CERGA.AUTH_FAIL_ALARM; 1 to 65,535, clamped -/
def CERGA_ALARM_AUTH_ALARM : Fld := ⟨0xA001C, 0, 1, 0, 16, .rw, fun _ => 100, .clamp 1 65535⟩
/-- Count since power-on (64-bit pair). -/
def CERGA_RX_PKTS : Fld := ⟨0xA0020, 0, 1, 0, 64, .ro, fun _ => 0, .none⟩
/-- Count since power-on (64-bit pair). -/
def CERGA_DROP_AUTH : Fld := ⟨0xA0028, 0, 1, 0, 64, .ro, fun _ => 0, .none⟩
/-- Count since power-on (64-bit pair). -/
def CERGA_DROP_MALFORMED : Fld := ⟨0xA0030, 0, 1, 0, 64, .ro, fun _ => 0, .none⟩
/-- Count since power-on (64-bit pair). -/
def CERGA_DROP_QUEUE : Fld := ⟨0xA0038, 0, 1, 0, 64, .ro, fun _ => 0, .none⟩
/-- Count since power-on (64-bit pair). -/
def CERGA_DROP_WINDOW : Fld := ⟨0xA0040, 0, 1, 0, 64, .ro, fun _ => 0, .none⟩
/-- Count since power-on (64-bit pair). -/
def CERGA_DUPLICATES : Fld := ⟨0xA0048, 0, 1, 0, 64, .ro, fun _ => 0, .none⟩
/-- Count since power-on (64-bit pair). -/
def CERGA_CTX_MISS : Fld := ⟨0xA0050, 0, 1, 0, 64, .ro, fun _ => 0, .none⟩
/-- Count since power-on (64-bit pair). -/
def CERGA_LAPSES : Fld := ⟨0xA0058, 0, 1, 0, 64, .ro, fun _ => 0, .none⟩
/-- Count since power-on (64-bit pair). -/
def CERGA_STREAM_RESETS : Fld := ⟨0xA0060, 0, 1, 0, 64, .ro, fun _ => 0, .none⟩
/-- Count since power-on (64-bit pair). -/
def CERGA_ASSEMBLY_CUTS : Fld := ⟨0xA0068, 0, 1, 0, 64, .ro, fun _ => 0, .none⟩

/-- Every field of block CERGA (register map of its chapter). -/
def fieldsCERGA : List Fld :=
  [CERGA_CTRL_UDP_PORT, CERGA_CTRL_IPV6, CERGA_CTRL_IPV4, CERGA_CTRL_ENABLE, CERGA_TIMEOUTS_LAPSE_S, CERGA_TIMEOUTS_ASSEMBLY_US, CERGA_ACK_ACK_EVERY, CERGA_ACK_ACK_DELAY_NS, CERGA_CREDIT_MAX_PKTS, CERGA_CREDIT_MARK_KB, CERGA_STATUS_OPEN_STREAMS, CERGA_CACHE_CACHED, CERGA_INCARNATION_VALUE, CERGA_ALARM_AUTH_ALARM, CERGA_RX_PKTS, CERGA_DROP_AUTH, CERGA_DROP_MALFORMED, CERGA_DROP_QUEUE, CERGA_DROP_WINDOW, CERGA_DUPLICATES] ++
  [CERGA_CTX_MISS, CERGA_LAPSES, CERGA_STREAM_RESETS, CERGA_ASSEMBLY_CUTS]

/-! ### Block ROCE -/

/-- Time of R132 in µs; 100 to 1,000,000, clamped -/
def ROCE_CTRL_ASSEMBLY_US : Fld := ⟨0xB0000, 0, 1, 12, 20, .rw, fun _ => 2000, .clamp 100 1000000⟩
/-- Accept RoCEv2 over IPv6 -/
def ROCE_CTRL_IPV6 : Fld := ⟨0xB0000, 0, 1, 2, 1, .rw, fun _ => 1, .none⟩
/-- Accept RoCEv2 over IPv4 -/
def ROCE_CTRL_IPV4 : Fld := ⟨0xB0000, 0, 1, 1, 1, .rw, fun _ => 1, .none⟩
/-- 0 = RoCEv2 packets dropped uncounted -/
def ROCE_CTRL_ENABLE : Fld := ⟨0xB0000, 0, 1, 0, 1, .rw, fun _ => 0, .none⟩
/-- Buffer threshold in KiB; 16 to 768, clamped -/
def ROCE_CNP_MARK_KB : Fld := ⟨0xB0004, 0, 1, 16, 10, .rw, fun _ => 384, .clamp 16 768⟩
/-- Least CNP spacing per QP in µs; 1 to 1,000, clamped -/
def ROCE_CNP_INTERVAL_US : Fld := ⟨0xB0004, 0, 1, 0, 10, .rw, fun _ => 50, .clamp 1 1000⟩
/-- Contexts in the cache; 16,384 shown as 0x4000 -/
def ROCE_CACHE_CACHED : Fld := ⟨0xB0008, 0, 1, 0, 15, .ro, fun _ => 0, .none⟩
/-- Packets parked now -/
def ROCE_PARKED_COUNT : Fld := ⟨0xB000C, 0, 1, 0, 13, .ro, fun _ => 0, .none⟩
/-- QP of the last non-DONE result -/
def ROCE_LAST_NAK_QPN : Fld := ⟨0xB0010, 0, 1, 8, 24, .ro, fun _ => 0, .none⟩
/-- Its status from Table 4-2 -/
def ROCE_LAST_NAK_STATUS : Fld := ⟨0xB0010, 0, 1, 0, 8, .ro, fun _ => 0, .none⟩
/-- Count since power-on (64-bit pair). -/
def ROCE_RX_PKTS : Fld := ⟨0xB0018, 0, 1, 0, 64, .ro, fun _ => 0, .none⟩
/-- Count since power-on (64-bit pair). -/
def ROCE_DROP_ICRC : Fld := ⟨0xB0020, 0, 1, 0, 64, .ro, fun _ => 0, .none⟩
/-- Count since power-on (64-bit pair). -/
def ROCE_DROP_QP : Fld := ⟨0xB0028, 0, 1, 0, 64, .ro, fun _ => 0, .none⟩
/-- Count since power-on (64-bit pair). -/
def ROCE_DROP_OPCODE : Fld := ⟨0xB0030, 0, 1, 0, 64, .ro, fun _ => 0, .none⟩
/-- Count since power-on (64-bit pair). -/
def ROCE_PSN_NAKS : Fld := ⟨0xB0038, 0, 1, 0, 64, .ro, fun _ => 0, .none⟩
/-- Count since power-on (64-bit pair). -/
def ROCE_DUPLICATES : Fld := ⟨0xB0040, 0, 1, 0, 64, .ro, fun _ => 0, .none⟩
/-- Count since power-on (64-bit pair). -/
def ROCE_CTX_MISS : Fld := ⟨0xB0048, 0, 1, 0, 64, .ro, fun _ => 0, .none⟩
/-- Count since power-on (64-bit pair). -/
def ROCE_PARK_DROPS : Fld := ⟨0xB0050, 0, 1, 0, 64, .ro, fun _ => 0, .none⟩
/-- Count since power-on (64-bit pair). -/
def ROCE_CNP_TX : Fld := ⟨0xB0058, 0, 1, 0, 64, .ro, fun _ => 0, .none⟩
/-- Count since power-on (64-bit pair). -/
def ROCE_CNP_RX : Fld := ⟨0xB0060, 0, 1, 0, 64, .ro, fun _ => 0, .none⟩

/-- Every field of block ROCE (register map of its chapter). -/
def fieldsROCE : List Fld :=
  [ROCE_CTRL_ASSEMBLY_US, ROCE_CTRL_IPV6, ROCE_CTRL_IPV4, ROCE_CTRL_ENABLE, ROCE_CNP_MARK_KB, ROCE_CNP_INTERVAL_US, ROCE_CACHE_CACHED, ROCE_PARKED_COUNT, ROCE_LAST_NAK_QPN, ROCE_LAST_NAK_STATUS, ROCE_RX_PKTS, ROCE_DROP_ICRC, ROCE_DROP_QP, ROCE_DROP_OPCODE, ROCE_PSN_NAKS, ROCE_DUPLICATES, ROCE_CTX_MISS, ROCE_PARK_DROPS, ROCE_CNP_TX, ROCE_CNP_RX]

/-! ### Block PROT -/

/-- DENIED_KEY results per second before SECURITY.SPACE_KEY_ALARM; 1 to 65,535, clamped -/
def PROT_CTRL_KEY_ALARM : Fld := ⟨0xC0000, 0, 1, 16, 16, .rw, fun _ => 1000, .clamp 1 65535⟩
/-- Drain limit of R55 in ms; 1 to 10,000, clamped -/
def PROT_CTRL_DRAIN_MS : Fld := ⟨0xC0000, 0, 1, 0, 14, .rw, fun _ => 1000, .clamp 1 10000⟩
/-- Regions not FREE -/
def PROT_REGIONS_USED : Fld := ⟨0xC0004, 0, 1, 0, 19, .ro, fun _ => 0, .none⟩
/-- PDs IN_USE -/
def PROT_PDS_USED : Fld := ⟨0xC0008, 0, 1, 0, 17, .ro, fun _ => 0, .none⟩
/-- Valid ETT entries -/
def PROT_ETT_USED : Fld := ⟨0xC000C, 0, 1, 0, 21, .ro, fun _ => 0, .none⟩
/-- Bindings in use; 524,288 is shown as 0x8_0000 with bit 19 set -/
def PROT_BIND_USED : Fld := ⟨0xC0010, 0, 1, 0, 20, .ro, fun _ => 0, .none⟩
/-- Writable tier allocated, in 2 MiB units -/
def PROT_WRITABLE_USED_2M : Fld := ⟨0xC0014, 0, 1, 0, 23, .ro, fun _ => 0, .none⟩
/-- Longest free writable run, in 2 MiB units -/
def PROT_FREE_RUN_LARGEST_2M : Fld := ⟨0xC0018, 0, 1, 0, 23, .ro, fun _ => 0, .none⟩
/-- DENIED_PROTECTION results since power-on -/
def PROT_DENY_PROT_COUNT : Fld := ⟨0xC0020, 0, 1, 0, 64, .ro, fun _ => 0, .none⟩
/-- DENIED_KEY results since power-on -/
def PROT_DENY_KEY_COUNT : Fld := ⟨0xC0028, 0, 1, 0, 64, .ro, fun _ => 0, .none⟩
/-- PD of the last denial -/
def PROT_LAST_DENY_PD : Fld := ⟨0xC0030, 0, 1, 16, 16, .ro, fun _ => 0, .none⟩
/-- Status code of the last denial -/
def PROT_LAST_DENY_STATUS : Fld := ⟨0xC0030, 0, 1, 8, 8, .ro, fun _ => 0, .none⟩
/-- Check number from Table 3-4 -/
def PROT_LAST_DENY_CHECK : Fld := ⟨0xC0030, 0, 1, 0, 4, .ro, fun _ => 0, .none⟩
/-- 1 if the lookup reached a region -/
def PROT_LAST_DENY_REGION_VALID : Fld := ⟨0xC0034, 0, 1, 31, 1, .ro, fun _ => 0, .none⟩
/-- Region of the last denial -/
def PROT_LAST_DENY_REGION_REGION_ID : Fld := ⟨0xC0034, 0, 1, 0, 18, .ro, fun _ => 0, .none⟩

/-- Every field of block PROT (register map of its chapter). -/
def fieldsPROT : List Fld :=
  [PROT_CTRL_KEY_ALARM, PROT_CTRL_DRAIN_MS, PROT_REGIONS_USED, PROT_PDS_USED, PROT_ETT_USED, PROT_BIND_USED, PROT_WRITABLE_USED_2M, PROT_FREE_RUN_LARGEST_2M, PROT_DENY_PROT_COUNT, PROT_DENY_KEY_COUNT, PROT_LAST_DENY_PD, PROT_LAST_DENY_STATUS, PROT_LAST_DENY_CHECK, PROT_LAST_DENY_REGION_VALID, PROT_LAST_DENY_REGION_REGION_ID]

/-! ### Block NEAR -/

/-- Lock limit per set of R209; 0 to 12, clamped -/
def NEAR_CTRL_MAX_LOCK_WAYS : Fld := ⟨0xD0000, 0, 1, 8, 4, .rw, fun _ => 12, .clamp 0 12⟩
/-- Write 0 or 1. Read 0 DISABLED, 1 ENABLED, 2 DISABLING -/
def NEAR_CTRL_ENABLE : Fld := ⟨0xD0000, 0, 1, 0, 2, .rw, fun _ => 1, .none⟩
/-- 1 while a CACHE_RANGE_INVALIDATE runs -/
def NEAR_STATUS_INVAL_ACTIVE : Fld := ⟨0xD0004, 0, 1, 14, 1, .ro, fun _ => 0, .none⟩
/-- 1 while lock ranges load under R210 -/
def NEAR_STATUS_LOAD_ACTIVE : Fld := ⟨0xD0004, 0, 1, 13, 1, .ro, fun _ => 0, .none⟩
/-- Lock-table ranges in use; 0 to 4,096 -/
def NEAR_STATUS_LOCK_ENTRIES : Fld := ⟨0xD0004, 0, 1, 0, 13, .ro, fun _ => 0, .none⟩
/-- Ways with LOCK set, full or empty -/
def NEAR_LOCKED_WAYS : Fld := ⟨0xD0008, 0, 1, 0, 21, .ro, fun _ => 0, .none⟩
/-- Locked-empty ways -/
def NEAR_LOCKED_EMPTY_WAYS : Fld := ⟨0xD000C, 0, 1, 0, 21, .ro, fun _ => 0, .none⟩
/-- DIRTY lines in ways and victim caches -/
def NEAR_DIRTY_LINES : Fld := ⟨0xD0010, 0, 1, 0, 22, .ro, fun _ => 0, .none⟩
/-- Lines left to flush during DISABLING -/
def NEAR_FLUSH_LEFT_LINES : Fld := ⟨0xD0014, 0, 1, 0, 22, .ro, fun _ => 0, .none⟩
/-- Count since power-on (64-bit pair). -/
def NEAR_HITS : Fld := ⟨0xD0020, 0, 1, 0, 64, .ro, fun _ => 0, .none⟩
/-- Count since power-on (64-bit pair). -/
def NEAR_VICTIM_HITS : Fld := ⟨0xD0028, 0, 1, 0, 64, .ro, fun _ => 0, .none⟩
/-- Count since power-on (64-bit pair). -/
def NEAR_MISSES : Fld := ⟨0xD0030, 0, 1, 0, 64, .ro, fun _ => 0, .none⟩
/-- Count since power-on (64-bit pair). -/
def NEAR_MISS_WAITS : Fld := ⟨0xD0038, 0, 1, 0, 64, .ro, fun _ => 0, .none⟩
/-- Count since power-on (64-bit pair). -/
def NEAR_BYPASS_READS : Fld := ⟨0xD0040, 0, 1, 0, 64, .ro, fun _ => 0, .none⟩
/-- Count since power-on (64-bit pair). -/
def NEAR_EVICT_WB : Fld := ⟨0xD0048, 0, 1, 0, 64, .ro, fun _ => 0, .none⟩
/-- Count since power-on (64-bit pair). -/
def NEAR_ATOMICS : Fld := ⟨0xD0050, 0, 1, 0, 64, .ro, fun _ => 0, .none⟩

/-- Every field of block NEAR (register map of its chapter). -/
def fieldsNEAR : List Fld :=
  [NEAR_CTRL_MAX_LOCK_WAYS, NEAR_CTRL_ENABLE, NEAR_STATUS_INVAL_ACTIVE, NEAR_STATUS_LOAD_ACTIVE, NEAR_STATUS_LOCK_ENTRIES, NEAR_LOCKED_WAYS, NEAR_LOCKED_EMPTY_WAYS, NEAR_DIRTY_LINES, NEAR_FLUSH_LEFT_LINES, NEAR_HITS, NEAR_VICTIM_HITS, NEAR_MISSES, NEAR_MISS_WAITS, NEAR_BYPASS_READS, NEAR_EVICT_WB, NEAR_ATOMICS]

/-! ### Block DUR -/

/-- DERATE in %; 50 to 95, clamped -/
def DUR_CTRL_DERATE_PCT : Fld := ⟨0xE0000, 0, 1, 16, 7, .rw, fun _ => 80, .clamp 50 95⟩
/-- CEILING in GiB; 0 to 256, clamped -/
def DUR_CTRL_CEILING_GIB : Fld := ⟨0xE0000, 0, 1, 0, 9, .rw, fun _ => 256, .clamp 0 256⟩
/-- Stage 1 threshold; 25 to 85, clamped -/
def DUR_THRESH_ELEVATE_PCT : Fld := ⟨0xE0004, 0, 1, 25, 7, .rw, fun _ => 50, .clamp 25 85⟩
/-- Stage 2 threshold; ELEVATE_PCT to 88, clamped -/
def DUR_THRESH_NEAR_PCT : Fld := ⟨0xE0004, 0, 1, 18, 7, .rw, fun _ => 75, .atLeast 0 25 88⟩
/-- Wait of R148 in µs; 100 to 100,000, clamped -/
def DUR_THRESH_HOLD_US : Fld := ⟨0xE0004, 0, 1, 0, 17, .rw, fun _ => 1000, .clamp 100 100000⟩
/-- DURABILITY.BUDGET_LOW threshold; 0 to 256, clamped -/
def DUR_LOW_LOW_GIB : Fld := ⟨0xE0008, 0, 1, 0, 9, .rw, fun _ => 16, .clamp 0 256⟩
/-- Stage 0 write-back share in %; 10 to 90, clamped -/
def DUR_WB_BG_PCT : Fld := ⟨0xE000C, 0, 1, 0, 7, .rw, fun _ => 40, .clamp 10 90⟩
/-- EFF in %; 70 to 95, clamped -/
def DUR_HOLDUP_EFF_PCT : Fld := ⟨0xE0010, 0, 1, 25, 7, .rw, fun _ => 85, .clamp 70 95⟩
/-- V_CUT in units of 0.1 V; 50 to 2,047, clamped -/
def DUR_HOLDUP_VCUT_DV : Fld := ⟨0xE0010, 0, 1, 14, 11, .rw, fun _ => 2047, .clamp 50 2047⟩
/-- Board save load in W; 0 to 16,383 -/
def DUR_HOLDUP_BOARD_W : Fld := ⟨0xE0010, 0, 1, 0, 14, .rw, fun _ => 0, .none⟩
/-- Hold-up test interval in h; 1 to 168, clamped -/
def DUR_TEST_INTERVAL_H : Fld := ⟨0xE0014, 0, 1, 16, 8, .rw, fun _ => 24, .clamp 1 168⟩
/-- Minutes since the last valid test; saturates at 65,535 -/
def DUR_TEST_AGE_MIN : Fld := ⟨0xE0014, 0, 1, 0, 16, .ro, fun _ => 0, .none⟩
/-- Code from Table 7-3 -/
def DUR_STATUS_STAGE : Fld := ⟨0xE0018, 0, 1, 29, 3, .ro, fun _ => 0, .none⟩
/-- Step of Table 7-5 in progress; 0 when none -/
def DUR_STATUS_SAVE_STEP : Fld := ⟨0xE0018, 0, 1, 25, 4, .ro, fun _ => 0, .none⟩
/-- 1 while R149 applies -/
def DUR_STATUS_OVER_BUDGET : Fld := ⟨0xE0018, 0, 1, 24, 1, .ro, fun _ => 0, .none⟩
/-- 1 while the test budget of R145 governs -/
def DUR_STATUS_TEST_ACTIVE : Fld := ⟨0xE0018, 0, 1, 23, 1, .ro, fun _ => 0, .none⟩
/-- 1 while a condition of Table 7-2 stands -/
def DUR_STATUS_INPUT_STALE : Fld := ⟨0xE0018, 0, 1, 22, 1, .ro, fun _ => 0, .none⟩
/-- Test budget in GiB -/
def DUR_BUDGET_TEST_GIB : Fld := ⟨0xE001C, 0, 1, 16, 9, .ro, fun _ => 0, .none⟩
/-- Budget in GiB -/
def DUR_BUDGET_BUDGET_GIB : Fld := ⟨0xE001C, 0, 1, 0, 9, .ro, fun _ => 0, .none⟩
/-- D in 4 KiB pages -/
def DUR_DIRTY_PAGES : Fld := ⟨0xE0020, 0, 1, 0, 27, .ro, fun _ => 0, .none⟩
/-- Highest D of the last 24 h in 4 KiB pages -/
def DUR_PEAK_PAGES : Fld := ⟨0xE0024, 0, 1, 0, 27, .ro, fun _ => 0, .none⟩
/-- E_usable in J -/
def DUR_E_E_USABLE_J : Fld := ⟨0xE0028, 0, 1, 16, 16, .ro, fun _ => 0, .none⟩
/-- E_reserve in J -/
def DUR_E_E_RESERVE_J : Fld := ⟨0xE0028, 0, 1, 0, 16, .ro, fun _ => 0, .none⟩
/-- P_save in W -/
def DUR_P_P_SAVE_W : Fld := ⟨0xE002C, 0, 1, 16, 16, .ro, fun _ => 0, .none⟩
/-- P_MEAS in W -/
def DUR_P_P_MEAS_W : Fld := ⟨0xE002C, 0, 1, 0, 16, .ro, fun _ => 0, .none⟩
/-- B_program in units of 0.1 GB/s -/
def DUR_B_B_PROGRAM : Fld := ⟨0xE0030, 0, 1, 0, 12, .ro, fun _ => 0, .none⟩
/-- C from the last valid test in mF -/
def DUR_BANK_C_MF : Fld := ⟨0xE0034, 0, 1, 16, 16, .ro, fun _ => 0, .none⟩
/-- ESR in units of 10 µΩ -/
def DUR_BANK_ESR_10UOHM : Fld := ⟨0xE0034, 0, 1, 0, 16, .ro, fun _ => 0, .none⟩
/-- V_bank in mV -/
def DUR_BANK_V_VBANK_MV : Fld := ⟨0xE0038, 0, 1, 0, 16, .ro, fun _ => 0, .none⟩
/-- Code from Table 7-4 -/
def DUR_LAST_SAVE_TRIGGER : Fld := ⟨0xE003C, 0, 1, 28, 4, .ro, fun _ => 0, .none⟩
/-- 0 complete, 1 SAVE_INCOMPLETE, 2 LEDGER_LOST -/
def DUR_LAST_SAVE_RESULT : Fld := ⟨0xE003C, 0, 1, 26, 2, .ro, fun _ => 0, .none⟩
/-- Duration in ms -/
def DUR_LAST_SAVE_DURATION_MS : Fld := ⟨0xE003C, 0, 1, 0, 20, .ro, fun _ => 0, .none⟩
/-- SAVE_SEQ of the last save, from the journal -/
def DUR_SAVE_SEQ_VALUE : Fld := ⟨0xE0040, 0, 1, 0, 32, .ro, fun _ => 0, .none⟩
/-- Bytes written back since power-on -/
def DUR_WB_BYTES_COUNT : Fld := ⟨0xE0048, 0, 1, 0, 64, .ro, fun _ => 0, .none⟩
/-- Writes answered BUSY under R148 -/
def DUR_HOLD_BUSY_COUNT : Fld := ⟨0xE0050, 0, 1, 0, 64, .ro, fun _ => 0, .none⟩
/-- Milliseconds spent in stage 3 or 4 -/
def DUR_THROTTLE_MS_COUNT : Fld := ⟨0xE0058, 0, 1, 0, 64, .ro, fun _ => 0, .none⟩
/-- Wait of R455 in µs; 100 to 100,000, clamped -/
def DUR_RESTORE_CTRL_WAIT_US : Fld := ⟨0xE0060, 0, 1, 0, 17, .rw, fun _ => 1000, .clamp 100 100000⟩
/-- 0 NONE, 1 STARTING, 2 WINDOW, 3 RESYNC, 4 DONE, 5 FAILED -/
def DUR_RESTORE_STATUS_PHASE : Fld := ⟨0xE0064, 0, 1, 29, 3, .ro, fun _ => 0, .none⟩
/-- Code of Table 22-3; 0 none -/
def DUR_RESTORE_STATUS_FAIL_CODE : Fld := ⟨0xE0064, 0, 1, 26, 3, .ro, fun _ => 0, .none⟩
/-- 1 if extents were reallocated under R454 -/
def DUR_RESTORE_STATUS_REALLOCATED : Fld := ⟨0xE0064, 0, 1, 25, 1, .ro, fun _ => 0, .none⟩
/-- 2 MiB units still to restore -/
def DUR_RESTORE_LEFT_UNITS : Fld := ⟨0xE0068, 0, 1, 0, 23, .ro, fun _ => 0, .none⟩
/-- From the end of Quench to the first admission, in ms -/
def DUR_START_TIME_WINDOW_MS : Fld := ⟨0xE006C, 0, 1, 0, 20, .ro, fun _ => 0, .none⟩
/-- Count since power-on (64-bit pair). -/
def DUR_RESTORE_POISONED : Fld := ⟨0xE0070, 0, 1, 0, 64, .ro, fun _ => 0, .none⟩
/-- Count since power-on (64-bit pair). -/
def DUR_DEMAND : Fld := ⟨0xE0078, 0, 1, 0, 64, .ro, fun _ => 0, .none⟩
/-- Count since power-on (64-bit pair). -/
def DUR_RESTORING : Fld := ⟨0xE0080, 0, 1, 0, 64, .ro, fun _ => 0, .none⟩

/-- Every field of block DUR (register map of its chapter). -/
def fieldsDUR : List Fld :=
  [DUR_CTRL_DERATE_PCT, DUR_CTRL_CEILING_GIB, DUR_THRESH_ELEVATE_PCT, DUR_THRESH_NEAR_PCT, DUR_THRESH_HOLD_US, DUR_LOW_LOW_GIB, DUR_WB_BG_PCT, DUR_HOLDUP_EFF_PCT, DUR_HOLDUP_VCUT_DV, DUR_HOLDUP_BOARD_W, DUR_TEST_INTERVAL_H, DUR_TEST_AGE_MIN, DUR_STATUS_STAGE, DUR_STATUS_SAVE_STEP, DUR_STATUS_OVER_BUDGET, DUR_STATUS_TEST_ACTIVE, DUR_STATUS_INPUT_STALE, DUR_BUDGET_TEST_GIB, DUR_BUDGET_BUDGET_GIB, DUR_DIRTY_PAGES] ++
  [DUR_PEAK_PAGES, DUR_E_E_USABLE_J, DUR_E_E_RESERVE_J, DUR_P_P_SAVE_W, DUR_P_P_MEAS_W, DUR_B_B_PROGRAM, DUR_BANK_C_MF, DUR_BANK_ESR_10UOHM, DUR_BANK_V_VBANK_MV, DUR_LAST_SAVE_TRIGGER, DUR_LAST_SAVE_RESULT, DUR_LAST_SAVE_DURATION_MS, DUR_SAVE_SEQ_VALUE, DUR_WB_BYTES_COUNT, DUR_HOLD_BUSY_COUNT, DUR_THROTTLE_MS_COUNT, DUR_RESTORE_CTRL_WAIT_US, DUR_RESTORE_STATUS_PHASE, DUR_RESTORE_STATUS_FAIL_CODE, DUR_RESTORE_STATUS_REALLOCATED] ++
  [DUR_RESTORE_LEFT_UNITS, DUR_START_TIME_WINDOW_MS, DUR_RESTORE_POISONED, DUR_DEMAND, DUR_RESTORING]

/-! ### Block TWIN -/

/-- L in ms; 10 to 500, clamped -/
def TWIN_CTRL_LEASE_MS : Fld := ⟨0xF0000, 0, 1, 23, 9, .rw, fun _ => 50, .clamp 10 500⟩
/-- Link dead time of R169 in µs; 300 to 10,000, clamped -/
def TWIN_CTRL_DEAD_US : Fld := ⟨0xF0000, 0, 1, 9, 14, .rw, fun _ => 1000, .clamp 300 10000⟩
/-- Revert hold-off in s; 0 disables; 30 to 86,400, clamped -/
def TWIN_REVERT_REVERT_S : Fld := ⟨0xF0004, 0, 1, 0, 17, .rw, fun _ => 300, .zeroOr 30 86400⟩
/-- Sampled read comparison on -/
def TWIN_ASSAY_SHADOW_EN : Fld := ⟨0xF0008, 0, 1, 8, 1, .rw, fun _ => 1, .none⟩
/-- k of R185; 4 to 20, clamped -/
def TWIN_ASSAY_SAMPLE_K : Fld := ⟨0xF0008, 0, 1, 0, 5, .rw, fun _ => 12, .clamp 4 20⟩
/-- Cut-through threshold in bytes; 256 to 8,192, clamped -/
def TWIN_MIRROR_CUT_BYTES : Fld := ⟨0xF000C, 0, 1, 0, 14, .rw, fun _ => 1024, .clamp 256 8192⟩
/-- Resync ceiling in GB/s; 10 to 400, clamped -/
def TWIN_RESYNC_CFG_MAX_GBPS : Fld := ⟨0xF0010, 0, 1, 0, 9, .rw, fun _ => 400, .clamp 10 400⟩
/-- 0 UNPAIRED, 1 ACTIVE, 2 STANDBY, 3 SWITCHING, 4 WAITING (holder without lease) -/
def TWIN_STATUS_ROLE : Fld := ⟨0xF0014, 0, 1, 29, 3, .ro, fun _ => 0, .none⟩
/-- 0 DOWN, 1 TRAINING, 2 UP, 3 MISCABLED -/
def TWIN_STATUS_LINK : Fld := ⟨0xF0014, 0, 1, 26, 3, .ro, fun _ => 0, .none⟩
/-- Lanes in use: 0, 8, 12 or 16 -/
def TWIN_STATUS_LANES : Fld := ⟨0xF0014, 0, 1, 21, 5, .ro, fun _ => 0, .none⟩
/-- Standby's copy: 0 CURRENT, 1 STALE, 2 RESYNCING -/
def TWIN_STATUS_SYNC : Fld := ⟨0xF0014, 0, 1, 18, 3, .ro, fun _ => 1, .none⟩
/-- Mark of R179 held -/
def TWIN_STATUS_SINGLE_RUNNING : Fld := ⟨0xF0014, 0, 1, 17, 1, .ro, fun _ => 0, .none⟩
/-- Lease held by witness renewals -/
def TWIN_STATUS_WITNESS_ONLY : Fld := ⟨0xF0014, 0, 1, 16, 1, .ro, fun _ => 0, .none⟩
/-- This twin is the home side -/
def TWIN_STATUS_HOME : Fld := ⟨0xF0014, 0, 1, 15, 1, .ro, fun _ => 0, .none⟩
/-- Per R196 -/
def TWIN_STATUS_REVERT_SUPPRESSED : Fld := ⟨0xF0014, 0, 1, 14, 1, .ro, fun _ => 0, .none⟩
/-- Peer runs on one feed -/
def TWIN_STATUS_PEER_FEED_SINGLE : Fld := ⟨0xF0014, 0, 1, 13, 1, .ro, fun _ => 0, .none⟩
/-- Peer's stage code from Table 7-3 -/
def TWIN_STATUS_PEER_STAGE : Fld := ⟨0xF0014, 0, 1, 10, 3, .ro, fun _ => 0, .none⟩
/-- PAIR_SIDE as sampled -/
def TWIN_STATUS_SIDE : Fld := ⟨0xF0014, 0, 1, 9, 1, .ro, fun _ => 0, .none⟩
/-- Current epoch known to this twin -/
def TWIN_TOKEN_EPOCH_VALUE : Fld := ⟨0xF0018, 0, 1, 0, 32, .ro, fun _ => 0, .none⟩
/-- Lease left at the holder, or until expiry at the standby, in units of 100 µs -/
def TWIN_LEASE_LEFT_100US : Fld := ⟨0xF001C, 0, 1, 0, 16, .ro, fun _ => 0, .none⟩
/-- Code from Table 8-7 -/
def TWIN_LAST_SWITCH_CAUSE : Fld := ⟨0xF0020, 0, 1, 28, 4, .ro, fun _ => 0, .none⟩
/-- Gap in µs -/
def TWIN_LAST_SWITCH_GAP_US : Fld := ⟨0xF0020, 0, 1, 0, 20, .ro, fun _ => 0, .none⟩
/-- 2 MiB units still to send -/
def TWIN_RESYNC_LEFT_UNITS : Fld := ⟨0xF0024, 0, 1, 0, 23, .ro, fun _ => 0, .none⟩
/-- LINK_EPOCH in use -/
def TWIN_LINK_EPOCH_VALUE : Fld := ⟨0xF0028, 0, 1, 0, 31, .ro, fun _ => 0, .none⟩
/-- Count since power-on (64-bit pair). -/
def TWIN_DEGRADED_WRITES : Fld := ⟨0xF0030, 0, 1, 0, 64, .ro, fun _ => 0, .none⟩
/-- Count since power-on (64-bit pair). -/
def TWIN_DIGEST_MISMATCH : Fld := ⟨0xF0038, 0, 1, 0, 64, .ro, fun _ => 0, .none⟩
/-- Count since power-on (64-bit pair). -/
def TWIN_SHADOW_MISMATCH : Fld := ⟨0xF0040, 0, 1, 0, 64, .ro, fun _ => 0, .none⟩
/-- Count since power-on (64-bit pair). -/
def TWIN_SHADOW_SKIP : Fld := ⟨0xF0048, 0, 1, 0, 64, .ro, fun _ => 0, .none⟩
/-- Count since power-on (64-bit pair). -/
def TWIN_SWITCHOVERS : Fld := ⟨0xF0050, 0, 1, 0, 64, .ro, fun _ => 0, .none⟩
/-- Count since power-on (64-bit pair). -/
def TWIN_GAP_DROPS : Fld := ⟨0xF0058, 0, 1, 0, 64, .ro, fun _ => 0, .none⟩
/-- Count since power-on (64-bit pair). -/
def TWIN_BRAZE_AUTH_FAIL : Fld := ⟨0xF0060, 0, 1, 0, 64, .ro, fun _ => 0, .none⟩
/-- Count since power-on (64-bit pair). -/
def TWIN_BRAZE_REPLAYS : Fld := ⟨0xF0068, 0, 1, 0, 64, .ro, fun _ => 0, .none⟩
/-- Count since power-on (64-bit pair). -/
def TWIN_RESYNC_BYTES : Fld := ⟨0xF0070, 0, 1, 0, 64, .ro, fun _ => 0, .none⟩

/-- Every field of block TWIN (register map of its chapter). -/
def fieldsTWIN : List Fld :=
  [TWIN_CTRL_LEASE_MS, TWIN_CTRL_DEAD_US, TWIN_REVERT_REVERT_S, TWIN_ASSAY_SHADOW_EN, TWIN_ASSAY_SAMPLE_K, TWIN_MIRROR_CUT_BYTES, TWIN_RESYNC_CFG_MAX_GBPS, TWIN_STATUS_ROLE, TWIN_STATUS_LINK, TWIN_STATUS_LANES, TWIN_STATUS_SYNC, TWIN_STATUS_SINGLE_RUNNING, TWIN_STATUS_WITNESS_ONLY, TWIN_STATUS_HOME, TWIN_STATUS_REVERT_SUPPRESSED, TWIN_STATUS_PEER_FEED_SINGLE, TWIN_STATUS_PEER_STAGE, TWIN_STATUS_SIDE, TWIN_TOKEN_EPOCH_VALUE, TWIN_LEASE_LEFT_100US] ++
  [TWIN_LAST_SWITCH_CAUSE, TWIN_LAST_SWITCH_GAP_US, TWIN_RESYNC_LEFT_UNITS, TWIN_LINK_EPOCH_VALUE, TWIN_DEGRADED_WRITES, TWIN_DIGEST_MISMATCH, TWIN_SHADOW_MISMATCH, TWIN_SHADOW_SKIP, TWIN_SWITCHOVERS, TWIN_GAP_DROPS, TWIN_BRAZE_AUTH_FAIL, TWIN_BRAZE_REPLAYS, TWIN_RESYNC_BYTES]

/-! ### Block TIER -/

/-- Load share of R223 in %; 5 to 60, clamped -/
def TIER_CTRL_LOAD_PCT : Fld := ⟨0x100000, 0, 1, 16, 8, .rw, fun _ => 20, .clamp 5 60⟩
/-- Step 2 of R236 enabled -/
def TIER_CTRL_TWIN_RECOVER : Fld := ⟨0x100000, 0, 1, 0, 1, .rw, fun _ => 1, .none⟩
/-- Stage partition in GiB, clamped per R224 -/
def TIER_STAGE_STAGE_GIB : Fld := ⟨0x100004, 0, 1, 0, 14, .rw, fun _ => 2, .none⟩
/-- 1 while a shrink waits -/
def TIER_STATUS_RESIZING : Fld := ⟨0x100008, 0, 1, 14, 1, .ro, fun _ => 0, .none⟩
/-- Stage partition now held -/
def TIER_STATUS_ACTUAL_GIB : Fld := ⟨0x100008, 0, 1, 0, 14, .ro, fun _ => 0, .none⟩
/-- Tiles not in SHELF -/
def TIER_STAGED_TILES : Fld := ⟨0x10000C, 0, 1, 0, 21, .ro, fun _ => 0, .none⟩
/-- Stage occupied, in 64 KiB units -/
def TIER_STAGE_USED_UNITS_64K : Fld := ⟨0x100010, 0, 1, 0, 28, .ro, fun _ => 0, .none⟩
/-- Tiles with count above 0 -/
def TIER_REFERENCED_TILES : Fld := ⟨0x100014, 0, 1, 0, 21, .ro, fun _ => 0, .none⟩
/-- Objects not FREE -/
def TIER_OBJECTS_USED : Fld := ⟨0x100018, 0, 1, 0, 19, .ro, fun _ => 0, .none⟩
/-- Cursors in use -/
def TIER_SCHED_CURSORS : Fld := ⟨0x10001C, 0, 1, 15, 17, .ro, fun _ => 0, .none⟩
/-- Schedules loaded -/
def TIER_SCHED_SCHEDULES : Fld := ⟨0x10001C, 0, 1, 0, 13, .ro, fun _ => 0, .none⟩
/-- Schedule entries in use -/
def TIER_ENTRIES_USED : Fld := ⟨0x100020, 0, 1, 0, 25, .ro, fun _ => 0, .none⟩
/-- Count since power-on (64-bit pair). -/
def TIER_FILLS : Fld := ⟨0x100030, 0, 1, 0, 64, .ro, fun _ => 0, .none⟩
/-- Count since power-on (64-bit pair). -/
def TIER_DEMAND_FILLS : Fld := ⟨0x100038, 0, 1, 0, 64, .ro, fun _ => 0, .none⟩
/-- Count since power-on (64-bit pair). -/
def TIER_EVICTIONS : Fld := ⟨0x100040, 0, 1, 0, 64, .ro, fun _ => 0, .none⟩
/-- Count since power-on (64-bit pair). -/
def TIER_DEFERRED_EVICTS : Fld := ⟨0x100048, 0, 1, 0, 64, .ro, fun _ => 0, .none⟩
/-- Count since power-on (64-bit pair). -/
def TIER_PARITY_RECOVERIES : Fld := ⟨0x100050, 0, 1, 0, 64, .ro, fun _ => 0, .none⟩
/-- Count since power-on (64-bit pair). -/
def TIER_TWIN_RECOVERIES : Fld := ⟨0x100058, 0, 1, 0, 64, .ro, fun _ => 0, .none⟩
/-- Count since power-on (64-bit pair). -/
def TIER_POISONED_TILES : Fld := ⟨0x100060, 0, 1, 0, 64, .ro, fun _ => 0, .none⟩
/-- Count since power-on (64-bit pair). -/
def TIER_LOOKAHEAD_SHORT : Fld := ⟨0x100068, 0, 1, 0, 64, .ro, fun _ => 0, .none⟩
/-- Count since power-on (64-bit pair). -/
def TIER_OFF_SCHEDULE : Fld := ⟨0x100070, 0, 1, 0, 64, .ro, fun _ => 0, .none⟩

/-- Every field of block TIER (register map of its chapter). -/
def fieldsTIER : List Fld :=
  [TIER_CTRL_LOAD_PCT, TIER_CTRL_TWIN_RECOVER, TIER_STAGE_STAGE_GIB, TIER_STATUS_RESIZING, TIER_STATUS_ACTUAL_GIB, TIER_STAGED_TILES, TIER_STAGE_USED_UNITS_64K, TIER_REFERENCED_TILES, TIER_OBJECTS_USED, TIER_SCHED_CURSORS, TIER_SCHED_SCHEDULES, TIER_ENTRIES_USED, TIER_FILLS, TIER_DEMAND_FILLS, TIER_EVICTIONS, TIER_DEFERRED_EVICTS, TIER_PARITY_RECOVERIES, TIER_TWIN_RECOVERIES, TIER_POISONED_TILES, TIER_LOOKAHEAD_SHORT] ++
  [TIER_OFF_SCHEDULE]

/-! ### Block DRAM -/

/-- 0 4,400, 1 4,800, 2 5,600, 3 6,400, 4 8,800, 5 12,800 MT/s; codes above 5 mean no cap -/
def DRAM_CTRL_SPEED_CAP : Fld := ⟨0x110000, 0, 1, 24, 4, .rw, fun _ => 15, .none⟩
/-- Errors per second of R259; 1 to 255, clamped -/
def DRAM_CTRL_UE_OUT_LIMIT : Fld := ⟨0x110000, 0, 1, 16, 8, .rw, fun _ => 16, .clamp 1 255⟩
/-- Correctable errors per row in 24 h of R257; 1 to 255, clamped -/
def DRAM_CTRL_CE_PPR_LIMIT : Fld := ⟨0x110000, 0, 1, 8, 8, .rw, fun _ => 8, .clamp 1 255⟩
/-- Hard repair at start enabled -/
def DRAM_CTRL_HPPR_EN : Fld := ⟨0x110000, 0, 1, 1, 1, .rw, fun _ => 1, .none⟩
/-- Soft repair at run time enabled -/
def DRAM_CTRL_SPPR_EN : Fld := ⟨0x110000, 0, 1, 0, 1, .rw, fun _ => 1, .none⟩
/-- G: 0 256 B, 1 4 KiB, 2 64 KiB, 3 2 MiB; applied at next start -/
def DRAM_INTERLEAVE_GRAIN : Fld := ⟨0x110004, 0, 1, 0, 2, .rw, fun _ => 1, .none⟩
/-- Priority of port n of Table 11-4 in bits 3n + 2 : 3n -/
def DRAM_PRIO_PORTS : Fld := ⟨0x110008, 0, 1, 0, 21, .rw, fun _ => 350455, .none⟩
/-- Age limit of R256 in µs; 2 to 10,000, clamped -/
def DRAM_AGE_AGE_US : Fld := ⟨0x11000C, 0, 1, 0, 16, .rw, fun _ => 20, .clamp 2 10000⟩
/-- Interval in % of JEDEC tREFI; 25 to 100, clamped -/
def DRAM_REFRESH_TREFI_PCT : Fld := ⟨0x110010, 0, 1, 8, 8, .rw, fun _ => 100, .clamp 25 100⟩
/-- Throttle threshold of R255 in °C; 80 to 100, clamped -/
def DRAM_REFRESH_THROTTLE_C : Fld := ⟨0x110010, 0, 1, 0, 8, .rw, fun _ => 95, .clamp 80 100⟩
/-- N, channels in service -/
def DRAM_STATUS_IN_SERVICE : Fld := ⟨0x110014, 0, 1, 27, 5, .ro, fun _ => 0, .none⟩
/-- Channels with modules -/
def DRAM_STATUS_POPULATED : Fld := ⟨0x110014, 0, 1, 22, 5, .ro, fun _ => 0, .none⟩
/-- 0 none, 1 RDIMM, 2 MRDIMM -/
def DRAM_STATUS_TYPE : Fld := ⟨0x110014, 0, 1, 20, 2, .ro, fun _ => 0, .none⟩
/-- 1 = two modules per channel -/
def DRAM_STATUS_DPC2 : Fld := ⟨0x110014, 0, 1, 19, 1, .ro, fun _ => 0, .none⟩
/-- Data rate in MT/s -/
def DRAM_STATUS_MTS : Fld := ⟨0x110014, 0, 1, 0, 16, .ro, fun _ => 0, .none⟩
/-- Width of ROW in Table 11-2 -/
def DRAM_CAPACITY_ROW_BITS : Fld := ⟨0x110018, 0, 1, 19, 5, .ro, fun _ => 0, .none⟩
/-- Ranks per channel -/
def DRAM_CAPACITY_RANKS : Fld := ⟨0x110018, 0, 1, 14, 5, .ro, fun _ => 0, .none⟩
/-- Capacity of the channels in service in GiB -/
def DRAM_CAPACITY_TOTAL_GIB : Fld := ⟨0x110018, 0, 1, 0, 14, .ro, fun _ => 0, .none⟩
/-- Media address of the last uncorrectable error -/
def DRAM_UE_LOG_ADDR_ADDRESS : Fld := ⟨0x110020, 0, 1, 0, 64, .ro, fun _ => 0, .none⟩
/-- Channel -/
def DRAM_UE_LOG_LOC_CHANNEL : Fld := ⟨0x110028, 0, 1, 27, 5, .ro, fun _ => 0, .none⟩
/-- Rank -/
def DRAM_UE_LOG_LOC_RANK : Fld := ⟨0x110028, 0, 1, 24, 3, .ro, fun _ => 0, .none⟩
/-- Bank after XOR -/
def DRAM_UE_LOG_LOC_BANK : Fld := ⟨0x110028, 0, 1, 19, 5, .ro, fun _ => 0, .none⟩
/-- Row, low 17 bits -/
def DRAM_UE_LOG_LOC_ROW : Fld := ⟨0x110028, 0, 1, 2, 17, .ro, fun _ => 0, .none⟩
/-- Sub-channel -/
def DRAM_UE_LOG_LOC_SUBCH : Fld := ⟨0x110028, 0, 1, 1, 1, .ro, fun _ => 0, .none⟩
/-- 1 once an error is logged -/
def DRAM_UE_LOG_LOC_VALID : Fld := ⟨0x110028, 0, 1, 0, 1, .ro, fun _ => 0, .none⟩
/-- TAI nanoseconds at the error -/
def DRAM_UE_LOG_TIME_TAI_NS : Fld := ⟨0x11002C, 0, 1, 0, 64, .ro, fun _ => 0, .none⟩
/-- 0 ABSENT, 1 TRAINING, 2 IN_SERVICE, 3 OUT, 4 SELF_REFRESH -/
def DRAM_CH_STATUS_STATE : Fld := ⟨0x110100, 4, 24, 29, 3, .ro, fun _ => 0, .none⟩
/-- Code from Table 11-5; 0 none -/
def DRAM_CH_STATUS_OUT_CAUSE : Fld := ⟨0x110100, 4, 24, 25, 4, .ro, fun _ => 0, .none⟩
/-- Faulty lane under R252 -/
def DRAM_CH_STATUS_LANE : Fld := ⟨0x110100, 4, 24, 16, 9, .ro, fun _ => 0, .none⟩
/-- Hottest module sensor in °C -/
def DRAM_CH_STATUS_TEMP_C : Fld := ⟨0x110100, 4, 24, 8, 8, .ro, fun _ => 0, .none⟩
/-- Least spare rows left in any bank group; 15 means 15 or more -/
def DRAM_CH_STATUS_PPR_LEFT : Fld := ⟨0x110100, 4, 24, 4, 4, .ro, fun _ => 0, .none⟩
/-- Correctable errors since power-on; saturates -/
def DRAM_CH_CE_COUNT : Fld := ⟨0x110180, 4, 24, 0, 32, .ro, fun _ => 0, .none⟩
/-- Count since power-on (64-bit pair). -/
def DRAM_UE : Fld := ⟨0x110038, 0, 1, 0, 64, .ro, fun _ => 0, .none⟩
/-- Count since power-on (64-bit pair). -/
def DRAM_CE : Fld := ⟨0x110040, 0, 1, 0, 64, .ro, fun _ => 0, .none⟩
/-- Count since power-on (64-bit pair). -/
def DRAM_PPR : Fld := ⟨0x110048, 0, 1, 0, 64, .ro, fun _ => 0, .none⟩

/-- Every field of block DRAM (register map of its chapter). -/
def fieldsDRAM : List Fld :=
  [DRAM_CTRL_SPEED_CAP, DRAM_CTRL_UE_OUT_LIMIT, DRAM_CTRL_CE_PPR_LIMIT, DRAM_CTRL_HPPR_EN, DRAM_CTRL_SPPR_EN, DRAM_INTERLEAVE_GRAIN, DRAM_PRIO_PORTS, DRAM_AGE_AGE_US, DRAM_REFRESH_TREFI_PCT, DRAM_REFRESH_THROTTLE_C, DRAM_STATUS_IN_SERVICE, DRAM_STATUS_POPULATED, DRAM_STATUS_TYPE, DRAM_STATUS_DPC2, DRAM_STATUS_MTS, DRAM_CAPACITY_ROW_BITS, DRAM_CAPACITY_RANKS, DRAM_CAPACITY_TOTAL_GIB, DRAM_UE_LOG_ADDR_ADDRESS, DRAM_UE_LOG_LOC_CHANNEL] ++
  [DRAM_UE_LOG_LOC_RANK, DRAM_UE_LOG_LOC_BANK, DRAM_UE_LOG_LOC_ROW, DRAM_UE_LOG_LOC_SUBCH, DRAM_UE_LOG_LOC_VALID, DRAM_UE_LOG_TIME_TAI_NS, DRAM_CH_STATUS_STATE, DRAM_CH_STATUS_OUT_CAUSE, DRAM_CH_STATUS_LANE, DRAM_CH_STATUS_TEMP_C, DRAM_CH_STATUS_PPR_LEFT, DRAM_CH_CE_COUNT, DRAM_UE, DRAM_CE, DRAM_PPR]

/-! ### Block FLASH -/

/-- 0 2,400, 1 2,800, 2 3,200, 3 3,600 MT/s; codes above 3 mean no cap -/
def FLASH_CTRL_SPEED_CAP : Fld := ⟨0x130000, 0, 1, 28, 4, .rw, fun _ => 15, .none⟩
/-- Period of R276 in days; 7 to 180, clamped -/
def FLASH_CTRL_ANNEAL_DAYS : Fld := ⟨0x130000, 0, 1, 20, 8, .rw, fun _ => 90, .clamp 7 180⟩
/-- Spread of R275 in units of 10 cycles; 5 to 100, clamped -/
def FLASH_CTRL_PLANISH_SPREAD_10 : Fld := ⟨0x130000, 0, 1, 12, 8, .rw, fun _ => 20, .clamp 5 100⟩
/-- Planish share of program bandwidth in %; 1 to 20, clamped -/
def FLASH_CTRL_PLANISH_PCT : Fld := ⟨0x130000, 0, 1, 5, 7, .rw, fun _ => 5, .clamp 1 20⟩
/-- Patrol read of R276 on -/
def FLASH_CTRL_PATROL_EN : Fld := ⟨0x130000, 0, 1, 0, 1, .rw, fun _ => 1, .none⟩
/-- Channels in service -/
def FLASH_STATUS_IN_SERVICE : Fld := ⟨0x130004, 0, 1, 26, 6, .ro, fun _ => 0, .none⟩
/-- Dies in service -/
def FLASH_STATUS_DIES : Fld := ⟨0x130004, 0, 1, 16, 10, .ro, fun _ => 0, .none⟩
/-- 0 STARTING, 1 SERVING, 2 REBUILDING, 3 WORN_OUT, 4 CAPACITY_SHORT -/
def FLASH_STATUS_STATE : Fld := ⟨0x130004, 0, 1, 13, 3, .ro, fun _ => 0, .none⟩
/-- Bus rate in MT/s -/
def FLASH_STATUS_MTS : Fld := ⟨0x130004, 0, 1, 0, 12, .ro, fun _ => 0, .none⟩
/-- U in GiB -/
def FLASH_USER_GIB : Fld := ⟨0x130008, 0, 1, 0, 17, .ro, fun _ => 0, .none⟩
/-- Durability image area in GiB -/
def FLASH_IMAGE_GIB : Fld := ⟨0x13000C, 0, 1, 0, 16, .ro, fun _ => 0, .none⟩
/-- Shelf area not held by objects, in GiB -/
def FLASH_SHELF_FREE_GIB : Fld := ⟨0x130010, 0, 1, 0, 17, .ro, fun _ => 0, .none⟩
/-- Log reserve in GiB -/
def FLASH_RESERVE_GIB : Fld := ⟨0x130014, 0, 1, 0, 17, .ro, fun _ => 0, .none⟩
/-- Erased pool in GiB of payload -/
def FLASH_ERASED_GIB : Fld := ⟨0x130018, 0, 1, 0, 17, .ro, fun _ => 0, .none⟩
/-- Spare pool left in % of its initial size -/
def FLASH_SPARES_PCT : Fld := ⟨0x13001C, 0, 1, 0, 7, .ro, fun _ => 0, .none⟩
/-- Highest erase count of any block -/
def FLASH_WEAR_MAX_PE : Fld := ⟨0x130020, 0, 1, 16, 16, .ro, fun _ => 0, .none⟩
/-- Mean erase count -/
def FLASH_WEAR_MEAN_PE : Fld := ⟨0x130020, 0, 1, 0, 16, .ro, fun _ => 0, .none⟩
/-- Rated endurance from the parameter page -/
def FLASH_RATED_RATED_PE : Fld := ⟨0x130024, 0, 1, 0, 16, .ro, fun _ => 0, .none⟩
/-- Data still to rebuild under R280 -/
def FLASH_REBUILD_LEFT_GIB : Fld := ⟨0x130028, 0, 1, 0, 17, .ro, fun _ => 0, .none⟩
/-- 0 ABSENT, 1 TRAINING, 2 IN_SERVICE, 3 OUT -/
def FLASH_CH_STATUS_STATE : Fld := ⟨0x130100, 4, 32, 29, 3, .ro, fun _ => 0, .none⟩
/-- 1 OPEN, 2 SHORT_GND, 3 SHORT_VDD, 4 BRIDGE, 5 TRAINING_MARGIN, 6 POPULATION_MISMATCH, 7 DIES_FAILED, 8 BUS_TIMEOUT; 0 none -/
def FLASH_CH_STATUS_OUT_CAUSE : Fld := ⟨0x130100, 4, 32, 25, 4, .ro, fun _ => 0, .none⟩
/-- Faulty lane under step 1 of Table 12-4 -/
def FLASH_CH_STATUS_LANE : Fld := ⟨0x130100, 4, 32, 16, 9, .ro, fun _ => 0, .none⟩
/-- Bit i set = die i out -/
def FLASH_CH_STATUS_DIES_OUT : Fld := ⟨0x130100, 4, 32, 0, 16, .ro, fun _ => 0, .none⟩
/-- Mean multi-plane program time of the channel's dies over the last 10 s under R142, in µs -/
def FLASH_CH_PROG_TPROG_US : Fld := ⟨0x130180, 4, 32, 0, 16, .ro, fun _ => 0, .none⟩
/-- Count since power-on (64-bit pair). -/
def FLASH_SOFT_DECODES : Fld := ⟨0x130030, 0, 1, 0, 64, .ro, fun _ => 0, .none⟩
/-- Count since power-on (64-bit pair). -/
def FLASH_PARITY_REBUILDS : Fld := ⟨0x130038, 0, 1, 0, 64, .ro, fun _ => 0, .none⟩
/-- Count since power-on (64-bit pair). -/
def FLASH_UNCORRECTABLE : Fld := ⟨0x130040, 0, 1, 0, 64, .ro, fun _ => 0, .none⟩
/-- Count since power-on (64-bit pair). -/
def FLASH_RETIRED_BLOCKS : Fld := ⟨0x130048, 0, 1, 0, 64, .ro, fun _ => 0, .none⟩
/-- Count since power-on (64-bit pair). -/
def FLASH_ERASES_REDONE : Fld := ⟨0x130050, 0, 1, 0, 64, .ro, fun _ => 0, .none⟩
/-- Count since power-on (64-bit pair). -/
def FLASH_ANNEAL_BYTES : Fld := ⟨0x130058, 0, 1, 0, 64, .ro, fun _ => 0, .none⟩
/-- Count since power-on (64-bit pair). -/
def FLASH_PLANISH_BYTES : Fld := ⟨0x130060, 0, 1, 0, 64, .ro, fun _ => 0, .none⟩
/-- Count since power-on (64-bit pair). -/
def FLASH_RECLAIM_BYTES : Fld := ⟨0x130068, 0, 1, 0, 64, .ro, fun _ => 0, .none⟩

/-- Every field of block FLASH (register map of its chapter). -/
def fieldsFLASH : List Fld :=
  [FLASH_CTRL_SPEED_CAP, FLASH_CTRL_ANNEAL_DAYS, FLASH_CTRL_PLANISH_SPREAD_10, FLASH_CTRL_PLANISH_PCT, FLASH_CTRL_PATROL_EN, FLASH_STATUS_IN_SERVICE, FLASH_STATUS_DIES, FLASH_STATUS_STATE, FLASH_STATUS_MTS, FLASH_USER_GIB, FLASH_IMAGE_GIB, FLASH_SHELF_FREE_GIB, FLASH_RESERVE_GIB, FLASH_ERASED_GIB, FLASH_SPARES_PCT, FLASH_WEAR_MAX_PE, FLASH_WEAR_MEAN_PE, FLASH_RATED_RATED_PE, FLASH_REBUILD_LEFT_GIB, FLASH_CH_STATUS_STATE] ++
  [FLASH_CH_STATUS_OUT_CAUSE, FLASH_CH_STATUS_LANE, FLASH_CH_STATUS_DIES_OUT, FLASH_CH_PROG_TPROG_US, FLASH_SOFT_DECODES, FLASH_PARITY_REBUILDS, FLASH_UNCORRECTABLE, FLASH_RETIRED_BLOCKS, FLASH_ERASES_REDONE, FLASH_ANNEAL_BYTES, FLASH_PLANISH_BYTES, FLASH_RECLAIM_BYTES]

/-! ### Block INTEG -/

/-- Corrections per row in 24 h before field repair; 1 to 255, clamped -/
def INTEG_CTRL_CE_REPAIR_LIMIT : Fld := ⟨0x140000, 0, 1, 24, 8, .rw, fun _ => 4, .clamp 1 255⟩
/-- DRAM scrub period in h; 1 to 168, clamped -/
def INTEG_SCRUB_DRAM_H : Fld := ⟨0x140004, 0, 1, 24, 8, .rw, fun _ => 24, .clamp 1 168⟩
/-- SRAM scrub period in s; 1 to 255, clamped -/
def INTEG_SCRUB_SRAM_S : Fld := ⟨0x140004, 0, 1, 16, 8, .rw, fun _ => 10, .clamp 1 255⟩
/-- Progress of the DRAM pass in % -/
def INTEG_SCRUB_STATUS_DRAM_PCT : Fld := ⟨0x140008, 0, 1, 25, 7, .ro, fun _ => 0, .none⟩
/-- Progress of the SRAM pass in % -/
def INTEG_SCRUB_STATUS_SRAM_PCT : Fld := ⟨0x140008, 0, 1, 18, 7, .ro, fun _ => 0, .none⟩
/-- DRAM passes completed; saturates -/
def INTEG_SCRUB_STATUS_DRAM_PASSES : Fld := ⟨0x140008, 0, 1, 0, 16, .ro, fun _ => 0, .none⟩
/-- Factory repairs in fuses -/
def INTEG_REPAIR_FACTORY : Fld := ⟨0x14000C, 0, 1, 20, 12, .ro, fun _ => 0, .none⟩
/-- Field entries in use; 0 to 2,048 -/
def INTEG_REPAIR_FIELD : Fld := ⟨0x14000C, 0, 1, 8, 12, .ro, fun _ => 0, .none⟩
/-- Repairs queued for the next start; saturates at 255 -/
def INTEG_REPAIR_PENDING : Fld := ⟨0x14000C, 0, 1, 0, 8, .ro, fun _ => 0, .none⟩
/-- 1 once an SRAM error is logged -/
def INTEG_LAST_SRAM_VALID : Fld := ⟨0x140010, 0, 1, 31, 1, .ro, fun _ => 0, .none⟩
/-- 1 if the last error was uncorrectable -/
def INTEG_LAST_SRAM_UNCORRECTABLE : Fld := ⟨0x140010, 0, 1, 30, 1, .ro, fun _ => 0, .none⟩
/-- Macro of the last error -/
def INTEG_LAST_SRAM_MACRO : Fld := ⟨0x140010, 0, 1, 17, 13, .ro, fun _ => 0, .none⟩
/-- Row of the last error -/
def INTEG_LAST_SRAM_ROW : Fld := ⟨0x140010, 0, 1, 4, 13, .ro, fun _ => 0, .none⟩
/-- Tags held; equals DUR_DIRTY.PAGES -/
def INTEG_TAGSTORE_PAGES : Fld := ⟨0x140014, 0, 1, 0, 27, .ro, fun _ => 0, .none⟩
/-- 0 unused, 1 row, 2 column, 3 retired -/
def INTEG_REPAIR_KIND : Fld := ⟨0x141000, 4, 2048, 30, 2, .ro, fun _ => 0, .none⟩
/-- Macro 0 to 8,191 -/
def INTEG_REPAIR_MACRO : Fld := ⟨0x141000, 4, 2048, 17, 13, .ro, fun _ => 0, .none⟩
/-- Spare used: rows 0 to 7, columns 0 to 1 -/
def INTEG_REPAIR_SPARE : Fld := ⟨0x141000, 4, 2048, 13, 4, .ro, fun _ => 0, .none⟩
/-- Failing row or column -/
def INTEG_REPAIR_ADDRESS : Fld := ⟨0x141000, 4, 2048, 0, 13, .ro, fun _ => 0, .none⟩
/-- Count since power-on (64-bit pair). -/
def INTEG_SRAM_CE : Fld := ⟨0x140020, 0, 1, 0, 64, .ro, fun _ => 0, .none⟩
/-- Count since power-on (64-bit pair). -/
def INTEG_SRAM_UE : Fld := ⟨0x140028, 0, 1, 0, 64, .ro, fun _ => 0, .none⟩
/-- Count since power-on (64-bit pair). -/
def INTEG_GATHER_UE : Fld := ⟨0x140030, 0, 1, 0, 64, .ro, fun _ => 0, .none⟩
/-- Count since power-on (64-bit pair). -/
def INTEG_TABLE_RELOADS : Fld := ⟨0x140038, 0, 1, 0, 64, .ro, fun _ => 0, .none⟩
/-- Count since power-on (64-bit pair). -/
def INTEG_TAG_MISMATCH : Fld := ⟨0x140040, 0, 1, 0, 64, .ro, fun _ => 0, .none⟩
/-- Count since power-on (64-bit pair). -/
def INTEG_POISON_CREATED : Fld := ⟨0x140048, 0, 1, 0, 64, .ro, fun _ => 0, .none⟩

/-- Every field of block INTEG (register map of its chapter). -/
def fieldsINTEG : List Fld :=
  [INTEG_CTRL_CE_REPAIR_LIMIT, INTEG_SCRUB_DRAM_H, INTEG_SCRUB_SRAM_S, INTEG_SCRUB_STATUS_DRAM_PCT, INTEG_SCRUB_STATUS_SRAM_PCT, INTEG_SCRUB_STATUS_DRAM_PASSES, INTEG_REPAIR_FACTORY, INTEG_REPAIR_FIELD, INTEG_REPAIR_PENDING, INTEG_LAST_SRAM_VALID, INTEG_LAST_SRAM_UNCORRECTABLE, INTEG_LAST_SRAM_MACRO, INTEG_LAST_SRAM_ROW, INTEG_TAGSTORE_PAGES, INTEG_REPAIR_KIND, INTEG_REPAIR_MACRO, INTEG_REPAIR_SPARE, INTEG_REPAIR_ADDRESS, INTEG_SRAM_CE, INTEG_SRAM_UE] ++
  [INTEG_GATHER_UE, INTEG_TABLE_RELOADS, INTEG_TAG_MISMATCH, INTEG_POISON_CREATED]

/-! ### Block DOMAIN -/

/-- Destination port, 49,373 -/
def DOMAIN_CTRL_UDP_PORT : Fld := ⟨0x150000, 0, 1, 16, 16, .rw, fun _ => 49373, .none⟩
/-- Time of R339 in ms; 10 to 255, clamped -/
def DOMAIN_CTRL_UNREACH_MS : Fld := ⟨0x150000, 0, 1, 8, 8, .rw, fun _ => 30, .clamp 10 255⟩
/-- 0 = domain messages dropped uncounted -/
def DOMAIN_CTRL_ENABLE : Fld := ⟨0x150000, 0, 1, 0, 1, .rw, fun _ => 0, .none⟩
/-- Worker pair number; 1 to 8,191, clamped; applied at next start -/
def DOMAIN_PAIR_PAIR : Fld := ⟨0x150004, 0, 1, 0, 13, .rw, fun _ => 1, .clamp 1 8191⟩
/-- Strap code of Table 16-1 -/
def DOMAIN_STATUS_ROLE : Fld := ⟨0x150008, 0, 1, 30, 2, .ro, fun _ => 0, .none⟩
/-- 0 UNJOINED, 1 JOINING, 2 MEMBER, 3 LEAVING -/
def DOMAIN_STATUS_STATE : Fld := ⟨0x150008, 0, 1, 27, 3, .ro, fun _ => 0, .none⟩
/-- Per R339 -/
def DOMAIN_STATUS_MGR_REACHABLE : Fld := ⟨0x150008, 0, 1, 26, 1, .ro, fun _ => 0, .none⟩
/-- Manager pair: witnesses reachable and joined -/
def DOMAIN_STATUS_WITNESSES_OK : Fld := ⟨0x150008, 0, 1, 24, 2, .ro, fun _ => 0, .none⟩
/-- This pair is a named witness -/
def DOMAIN_STATUS_WITNESS : Fld := ⟨0x150008, 0, 1, 23, 1, .ro, fun _ => 0, .none⟩
/-- Worker: changes not acknowledged -/
def DOMAIN_BACKLOG_OUTBOX : Fld := ⟨0x15000C, 0, 1, 16, 16, .ro, fun _ => 0, .none⟩
/-- Manager: members with pushes pending -/
def DOMAIN_BACKLOG_PAIRS_BEHIND : Fld := ⟨0x15000C, 0, 1, 0, 16, .ro, fun _ => 0, .none⟩
/-- Bytes 4n to 4n + 3 of the manager address -/
def DOMAIN_MGR_IP_ADDR : Fld := ⟨0x150010, 4, 4, 0, 32, .rw, fun _ => 0, .none⟩
/-- Directory version last acknowledged or written -/
def DOMAIN_DIR_VERSION_VERSION : Fld := ⟨0x150020, 0, 1, 0, 64, .ro, fun _ => 0, .none⟩
/-- 0 PTP, 1 PPS, 2 FREE_RUN; 3 taken as 0 -/
def DOMAIN_TIME_CTRL_SOURCE : Fld := ⟨0x150030, 0, 1, 30, 2, .rw, fun _ => 0, .codes 2 0⟩
/-- 0 to 127, clamped -/
def DOMAIN_TIME_CTRL_PTP_DOMAIN : Fld := ⟨0x150030, 0, 1, 22, 8, .rw, fun _ => 0, .clamp 0 127⟩
/-- Sync interval 2^−SYNC_EXP s; 0 to 7, clamped -/
def DOMAIN_TIME_CTRL_SYNC_EXP : Fld := ⟨0x150030, 0, 1, 18, 4, .rw, fun _ => 4, .clamp 0 7⟩
/-- Threshold of R351 in ns; 100 to 100,000, clamped -/
def DOMAIN_TIME_CTRL_SYNC_NS : Fld := ⟨0x150030, 0, 1, 0, 18, .rw, fun _ => 1000, .clamp 100 100000⟩
/-- 10 to 50,000, clamped -/
def DOMAIN_TIME_LIMITS_HOLDOVER_PPB : Fld := ⟨0x150034, 0, 1, 16, 16, .rw, fun _ => 1000, .clamp 10 50000⟩
/-- Step threshold in µs; 10 to 65,535, clamped -/
def DOMAIN_TIME_LIMITS_STEP_US : Fld := ⟨0x150034, 0, 1, 0, 16, .rw, fun _ => 1000, .clamp 10 65535⟩
/-- Per R351 -/
def DOMAIN_TIME_STATUS_SYNCED : Fld := ⟨0x150038, 0, 1, 31, 1, .ro, fun _ => 0, .none⟩
/-- Leap announced -/
def DOMAIN_TIME_STATUS_LEAP_PENDING : Fld := ⟨0x150038, 0, 1, 30, 1, .ro, fun _ => 0, .none⟩
/-- TAI − UTC in s -/
def DOMAIN_TIME_STATUS_TAI_UTC_S : Fld := ⟨0x150038, 0, 1, 0, 8, .ro, fun _ => 0, .none⟩
/-- Estimated offset bound in ns; saturates -/
def DOMAIN_TIME_UNCERT_UNCERTAINTY_NS : Fld := ⟨0x15003C, 0, 1, 0, 32, .ro, fun _ => 4294967295, .none⟩
/-- Last measured offset from the master, two's complement -/
def DOMAIN_TIME_OFFSET_OFFSET_NS : Fld := ⟨0x150040, 0, 1, 0, 32, .ro, fun _ => 0, .none⟩
/-- Count since power-on (64-bit pair). -/
def DOMAIN_TX_MSGS : Fld := ⟨0x150048, 0, 1, 0, 64, .ro, fun _ => 0, .none⟩
/-- Count since power-on (64-bit pair). -/
def DOMAIN_RX_MSGS : Fld := ⟨0x150050, 0, 1, 0, 64, .ro, fun _ => 0, .none⟩
/-- Count since power-on (64-bit pair). -/
def DOMAIN_DROP_AUTH : Fld := ⟨0x150058, 0, 1, 0, 64, .ro, fun _ => 0, .none⟩
/-- Count since power-on (64-bit pair). -/
def DOMAIN_RETRIES : Fld := ⟨0x150060, 0, 1, 0, 64, .ro, fun _ => 0, .none⟩
/-- Count since power-on (64-bit pair). -/
def DOMAIN_TIME_STEPS : Fld := ⟨0x150068, 0, 1, 0, 64, .ro, fun _ => 0, .none⟩

/-- Every field of block DOMAIN (register map of its chapter). -/
def fieldsDOMAIN : List Fld :=
  [DOMAIN_CTRL_UDP_PORT, DOMAIN_CTRL_UNREACH_MS, DOMAIN_CTRL_ENABLE, DOMAIN_PAIR_PAIR, DOMAIN_STATUS_ROLE, DOMAIN_STATUS_STATE, DOMAIN_STATUS_MGR_REACHABLE, DOMAIN_STATUS_WITNESSES_OK, DOMAIN_STATUS_WITNESS, DOMAIN_BACKLOG_OUTBOX, DOMAIN_BACKLOG_PAIRS_BEHIND, DOMAIN_MGR_IP_ADDR, DOMAIN_DIR_VERSION_VERSION, DOMAIN_TIME_CTRL_SOURCE, DOMAIN_TIME_CTRL_PTP_DOMAIN, DOMAIN_TIME_CTRL_SYNC_EXP, DOMAIN_TIME_CTRL_SYNC_NS, DOMAIN_TIME_LIMITS_HOLDOVER_PPB, DOMAIN_TIME_LIMITS_STEP_US, DOMAIN_TIME_STATUS_SYNCED] ++
  [DOMAIN_TIME_STATUS_LEAP_PENDING, DOMAIN_TIME_STATUS_TAI_UTC_S, DOMAIN_TIME_UNCERT_UNCERTAINTY_NS, DOMAIN_TIME_OFFSET_OFFSET_NS, DOMAIN_TX_MSGS, DOMAIN_RX_MSGS, DOMAIN_DROP_AUTH, DOMAIN_RETRIES, DOMAIN_TIME_STEPS]

/-! ### Block METER -/

/-- Wait of R329 in s; 10 to 120, clamped -/
def METER_CTRL_AGG_WAIT_S : Fld := ⟨0x160000, 0, 1, 16, 8, .rw, fun _ => 30, .clamp 10 120⟩
/-- Settle limit of R325 in s; 1 to 30, clamped -/
def METER_CTRL_SETTLE_S : Fld := ⟨0x160000, 0, 1, 0, 8, .rw, fun _ => 5, .clamp 1 30⟩
/-- 1 while windows close on an unsynced time unit -/
def METER_STATUS_UNSYNCED : Fld := ⟨0x160004, 0, 1, 31, 1, .ro, fun _ => 0, .none⟩
/-- 1 while a closed window is unsettled -/
def METER_STATUS_SETTLING : Fld := ⟨0x160004, 0, 1, 30, 1, .ro, fun _ => 0, .none⟩
/-- Accounts IN_USE, account 0 included -/
def METER_ACCOUNTS_USED : Fld := ⟨0x160008, 0, 1, 0, 17, .ro, fun _ => 1, .none⟩
/-- Records held under R328 -/
def METER_HELD_RECORDS : Fld := ⟨0x16000C, 0, 1, 0, 18, .ro, fun _ => 0, .none⟩
/-- Account shown by METER_PEEK -/
def METER_PEEK_SEL_ACCOUNT : Fld := ⟨0x160010, 0, 1, 0, 16, .rw, fun _ => 0, .none⟩
/-- WINDOW_START of the last settled window -/
def METER_PEEK_WINDOW_START : Fld := ⟨0x160018, 0, 1, 0, 64, .ro, fun _ => 0, .none⟩
/-- Counter n of Table 15-1 for the selected account in that window -/
def METER_PEEK_COUNT : Fld := ⟨0x160100, 8, 16, 0, 64, .ro, fun _ => 0, .none⟩
/-- Count since power-on (64-bit pair). -/
def METER_RECORDS : Fld := ⟨0x160020, 0, 1, 0, 64, .ro, fun _ => 0, .none⟩
/-- Count since power-on (64-bit pair). -/
def METER_LATE_OPS : Fld := ⟨0x160028, 0, 1, 0, 64, .ro, fun _ => 0, .none⟩
/-- Count since power-on (64-bit pair). -/
def METER_MERGED : Fld := ⟨0x160030, 0, 1, 0, 64, .ro, fun _ => 0, .none⟩

/-- Every field of block METER (register map of its chapter). -/
def fieldsMETER : List Fld :=
  [METER_CTRL_AGG_WAIT_S, METER_CTRL_SETTLE_S, METER_STATUS_UNSYNCED, METER_STATUS_SETTLING, METER_ACCOUNTS_USED, METER_HELD_RECORDS, METER_PEEK_SEL_ACCOUNT, METER_PEEK_WINDOW_START, METER_PEEK_COUNT, METER_RECORDS, METER_LATE_OPS, METER_MERGED]

/-! ### Block CIPHER -/

/-- Level of Table 17-1; 0 clamped to 1 in IN_SERVICE -/
def CIPHER_CTRL_DUMMY_LEVEL : Fld := ⟨0x170000, 0, 1, 1, 2, .rw, fun _ => 2, .none⟩
/-- Byte rotation of R372 on -/
def CIPHER_CTRL_SHUFFLE : Fld := ⟨0x170000, 0, 1, 0, 1, .rw, fun _ => 1, .none⟩
/-- Bit c = cluster c in service -/
def CIPHER_STATUS_CLUSTERS_OK : Fld := ⟨0x170004, 0, 1, 24, 8, .ro, fun _ => 0, .none⟩
/-- Contexts in use; 0 to 256 -/
def CIPHER_STATUS_CONTEXTS : Fld := ⟨0x170004, 0, 1, 15, 9, .ro, fun _ => 0, .none⟩
/-- Key store rebuilt under R359 -/
def CIPHER_STATUS_START_DONE : Fld := ⟨0x170004, 0, 1, 14, 1, .ro, fun _ => 0, .none⟩
/-- Bit n = CIPHER_KEY_n written since last cleared -/
def CIPHER_KEY_WORDS_WRITTEN : Fld := ⟨0x170008, 0, 1, 0, 8, .ro, fun _ => 0, .none⟩
/-- Committed slots -/
def CIPHER_SLOTS_USED : Fld := ⟨0x17000C, 0, 1, 0, 17, .ro, fun _ => 0, .none⟩
/-- 1 until step 6 of Table 17-4 ends -/
def CIPHER_TABLE_OLD_PENDING : Fld := ⟨0x170010, 0, 1, 31, 1, .ro, fun _ => 0, .none⟩
/-- Table key generation g -/
def CIPHER_TABLE_GEN : Fld := ⟨0x170010, 0, 1, 0, 31, .ro, fun _ => 0, .none⟩
/-- Key bytes 4n to 4n + 3 under R363 -/
def CIPHER_KEY_KEY : Fld := ⟨0x170020, 4, 8, 0, 32, .wo, fun _ => 0, .none⟩
/-- Count since power-on (64-bit pair). -/
def CIPHER_LIMIT_DENIALS : Fld := ⟨0x170040, 0, 1, 0, 64, .ro, fun _ => 0, .none⟩
/-- Count since power-on (64-bit pair). -/
def CIPHER_HOST_TAG_FAIL : Fld := ⟨0x170048, 0, 1, 0, 64, .ro, fun _ => 0, .none⟩
/-- Count since power-on (64-bit pair). -/
def CIPHER_CLUSTER_FAULTS : Fld := ⟨0x170050, 0, 1, 0, 64, .ro, fun _ => 0, .none⟩

/-- Every field of block CIPHER (register map of its chapter). -/
def fieldsCIPHER : List Fld :=
  [CIPHER_CTRL_DUMMY_LEVEL, CIPHER_CTRL_SHUFFLE, CIPHER_STATUS_CLUSTERS_OK, CIPHER_STATUS_CONTEXTS, CIPHER_STATUS_START_DONE, CIPHER_KEY_WORDS_WRITTEN, CIPHER_SLOTS_USED, CIPHER_TABLE_OLD_PENDING, CIPHER_TABLE_GEN, CIPHER_KEY_KEY, CIPHER_LIMIT_DENIALS, CIPHER_HOST_TAG_FAIL, CIPHER_CLUSTER_FAULTS]

/-! ### Block LIFE -/

/-- Code of Table 18-1 -/
def LIFE_STATE_LIFECYCLE : Fld := ⟨0x180000, 0, 1, 29, 3, .ro, fun _ => 0, .none⟩
/-- Level 0 to 2 -/
def LIFE_STATE_DEBUG : Fld := ⟨0x180000, 0, 1, 27, 2, .ro, fun _ => 0, .none⟩
/-- Code of Table 18-6 -/
def LIFE_STATE_POWER : Fld := ⟨0x180000, 0, 1, 24, 3, .ro, fun _ => 0, .none⟩
/-- Unblown fuses -/
def LIFE_STATE_TRANSITIONS_LEFT : Fld := ⟨0x180000, 0, 1, 18, 6, .ro, fun _ => 32, .none⟩
/-- 1 while a request waits under R386 -/
def LIFE_STATE_DEFERRED : Fld := ⟨0x180000, 0, 1, 17, 1, .ro, fun _ => 0, .none⟩
/-- 1 while the erase sweep runs -/
def LIFE_STATE_ERASE_SWEEP : Fld := ⟨0x180000, 0, 1, 16, 1, .ro, fun _ => 0, .none⟩
/-- Time of R388 in s; 1 to 255, clamped -/
def LIFE_POWER_PACED_ENTER_S : Fld := ⟨0x180004, 0, 1, 1, 8, .rw, fun _ => 10, .clamp 1 255⟩
/-- Automatic P1 on -/
def LIFE_POWER_AUTO_PACED : Fld := ⟨0x180004, 0, 1, 0, 1, .rw, fun _ => 0, .none⟩
/-- Rows queued at the last Quench; saturates -/
def LIFE_QUENCH_BAD_ROWS : Fld := ⟨0x180008, 0, 1, 20, 12, .ro, fun _ => 0, .none⟩
/-- Last Quench in µs -/
def LIFE_QUENCH_DURATION_US : Fld := ⟨0x180008, 0, 1, 0, 20, .ro, fun _ => 0, .none⟩
/-- Last refusal reason; 0 if accepted -/
def LIFE_AUTH_STATUS_REASON : Fld := ⟨0x18000C, 0, 1, 24, 8, .ro, fun _ => 0, .none⟩
/-- Nonce bytes 4n to 4n + 3 -/
def LIFE_NONCE_NONCE : Fld := ⟨0x180010, 4, 4, 0, 32, .ro, fun _ => 0, .none⟩
/-- End of DBG1; 0 when none -/
def LIFE_DEBUG_EXPIRY_TAI_S : Fld := ⟨0x180020, 0, 1, 0, 64, .ro, fun _ => 0, .none⟩
/-- Owner digest bytes 4n to 4n + 3 -/
def LIFE_OWNER_DIGEST : Fld := ⟨0x180030, 4, 12, 0, 32, .ro, fun _ => 0, .none⟩
/-- Count since power-on (64-bit pair). -/
def LIFE_AUTH_FAIL : Fld := ⟨0x180060, 0, 1, 0, 64, .ro, fun _ => 0, .none⟩

/-- Every field of block LIFE (register map of its chapter). -/
def fieldsLIFE : List Fld :=
  [LIFE_STATE_LIFECYCLE, LIFE_STATE_DEBUG, LIFE_STATE_POWER, LIFE_STATE_TRANSITIONS_LEFT, LIFE_STATE_DEFERRED, LIFE_STATE_ERASE_SWEEP, LIFE_POWER_PACED_ENTER_S, LIFE_POWER_AUTO_PACED, LIFE_QUENCH_BAD_ROWS, LIFE_QUENCH_DURATION_US, LIFE_AUTH_STATUS_REASON, LIFE_NONCE_NONCE, LIFE_DEBUG_EXPIRY_TAI_S, LIFE_OWNER_DIGEST, LIFE_AUTH_FAIL]

/-! ### Block KEEPER -/

/-- 1 = store the RW fields -/
def KEEPER_CTRL_COMMIT : Fld := ⟨0x190000, 0, 1, 31, 1, .wo, fun _ => 0, .none⟩
/-- Hold of R409 in units of 100 ms; 1 to 255, clamped -/
def KEEPER_CTRL_RESTART_HOLD_100MS : Fld := ⟨0x190000, 0, 1, 16, 8, .rw, fun _ => 5, .clamp 1 255⟩
/-- Return time of R406 in units of 10 ms; 1 to 255, clamped -/
def KEEPER_CTRL_RETURN_10MS : Fld := ⟨0x190000, 0, 1, 8, 8, .rw, fun _ => 10, .clamp 1 255⟩
/-- 0 OFF, 1 POWERING_UP, 2 ON, 3 SAVE, 4 SHUTTING_DOWN, 5 HOLD, 6 LOCKOUT -/
def KEEPER_STATUS_SEQ_STATE : Fld := ⟨0x190004, 0, 1, 28, 4, .ro, fun _ => 0, .none⟩
/-- Step in progress; 0 when none -/
def KEEPER_STATUS_SEQ_STEP : Fld := ⟨0x190004, 0, 1, 25, 3, .ro, fun _ => 0, .none⟩
/-- Consecutive failed power-ups -/
def KEEPER_STATUS_RETRIES : Fld := ⟨0x190004, 0, 1, 23, 2, .ro, fun _ => 0, .none⟩
/-- 1 while VK_3V3 is below 3.00 V -/
def KEEPER_STATUS_VK_LOW : Fld := ⟨0x190004, 0, 1, 22, 1, .ro, fun _ => 0, .none⟩
/-- VK_3V3 in mV -/
def KEEPER_STATUS_VK_MV : Fld := ⟨0x190004, 0, 1, 0, 14, .ro, fun _ => 0, .none⟩
/-- 0 SHARED, 1 PRIMARY_A, 2 PRIMARY_B; 3 taken as 0 -/
def KEEPER_FEED_CFG_MODE : Fld := ⟨0x190008, 0, 1, 30, 2, .rw, fun _ => 0, .codes 2 0⟩
/-- Return to the primary under R407 -/
def KEEPER_FEED_CFG_REVERT : Fld := ⟨0x190008, 0, 1, 29, 1, .rw, fun _ => 1, .none⟩
/-- Loss threshold in 0.1 V; 1 to 2,047, clamped -/
def KEEPER_FEED_CFG_UV_DV : Fld := ⟨0x190008, 0, 1, 16, 11, .rw, fun _ => 400, .clamp 1 2047⟩
/-- Return threshold in 0.1 V; UV_DV to 2,047, clamped -/
def KEEPER_FEED_CFG_OK_DV : Fld := ⟨0x190008, 0, 1, 5, 11, .rw, fun _ => 440, .atLeast 1 1 2047⟩
/-- 0 ABSENT, 1 OK, 2 LOST, 3 RETURNING, 4 REVERSED -/
def KEEPER_FEED_STATUS_A_STATE : Fld := ⟨0x19000C, 0, 1, 29, 3, .ro, fun _ => 0, .none⟩
/-- FEED_A_EN as read back -/
def KEEPER_FEED_STATUS_A_EN : Fld := ⟨0x19000C, 0, 1, 28, 1, .ro, fun _ => 0, .none⟩
/-- As A_STATE -/
def KEEPER_FEED_STATUS_B_STATE : Fld := ⟨0x19000C, 0, 1, 25, 3, .ro, fun _ => 0, .none⟩
/-- FEED_B_EN as read back -/
def KEEPER_FEED_STATUS_B_EN : Fld := ⟨0x19000C, 0, 1, 24, 1, .ro, fun _ => 0, .none⟩
/-- Feed losses since power-on; saturates -/
def KEEPER_FEED_STATUS_LOSSES : Fld := ⟨0x19000C, 0, 1, 16, 8, .ro, fun _ => 0, .none⟩
/-- Feed A in 0.1 V, two's complement -/
def KEEPER_FEED_V_A_DV : Fld := ⟨0x190010, 0, 1, 16, 16, .ro, fun _ => 0, .none⟩
/-- Feed B in 0.1 V, two's complement -/
def KEEPER_FEED_V_B_DV : Fld := ⟨0x190010, 0, 1, 0, 16, .ro, fun _ => 0, .none⟩
/-- Feed divider ratio × 16; 0 = unset -/
def KEEPER_SENSE_DIV_FEED_DIV16 : Fld := ⟨0x190014, 0, 1, 16, 16, .rw, fun _ => 0, .none⟩
/-- Bank divider ratio × 16; 0 = unset, V_bank taken as 0 -/
def KEEPER_SENSE_DIV_HOLDUP_DIV16 : Fld := ⟨0x190014, 0, 1, 0, 16, .rw, fun _ => 0, .none⟩
/-- R_test in mΩ; 0 = tests and pulses off -/
def KEEPER_HOLDUP_CFG_RTEST_MOHM : Fld := ⟨0x190018, 0, 1, 16, 16, .rw, fun _ => 0, .none⟩
/-- Step 4 limit of Table 19-2 in s; 1 to 255, clamped -/
def KEEPER_HOLDUP_CFG_TEST_MAX_S : Fld := ⟨0x190018, 0, 1, 8, 8, .rw, fun _ => 30, .clamp 1 255⟩
/-- Start threshold of R409 in V; 0 = none -/
def KEEPER_HOLDUP_CFG_START_V : Fld := ⟨0x190018, 0, 1, 0, 8, .rw, fun _ => 0, .none⟩
/-- 0 IDLE, 1 WAITING, 2 DISCHARGING, 3 RECHARGING -/
def KEEPER_HOLDUP_STATUS_TEST_STATE : Fld := ⟨0x19001C, 0, 1, 29, 3, .ro, fun _ => 0, .none⟩
/-- 0 none, 1 valid, 2 aborted by feed, 3 aborted by save, 4 timeout, 5 implausible -/
def KEEPER_HOLDUP_STATUS_LAST_RESULT : Fld := ⟨0x19001C, 0, 1, 26, 3, .ro, fun _ => 0, .none⟩
/-- 1 while ESR tracking is available -/
def KEEPER_HOLDUP_STATUS_TRACK_OK : Fld := ⟨0x19001C, 0, 1, 25, 1, .ro, fun _ => 0, .none⟩
/-- Tracked ESR in units of 10 µΩ -/
def KEEPER_HOLDUP_STATUS_TRACK_ESR_10UOHM : Fld := ⟨0x19001C, 0, 1, 0, 16, .ro, fun _ => 0, .none⟩
/-- Bit n = rail n failed since the last power-up began -/
def KEEPER_RAIL_FAILED_MASK : Fld := ⟨0x190020, 0, 1, 0, 16, .ro, fun _ => 0, .none⟩
/-- 1 I3C Basic, 0 SMBus -/
def KEEPER_MBOX_CFG_I3C : Fld := ⟨0x190024, 0, 1, 31, 1, .rw, fun _ => 0, .none⟩
/-- 7-bit address; 0x08 to 0x77, clamped -/
def KEEPER_MBOX_CFG_STATIC_ADDR : Fld := ⟨0x190024, 0, 1, 24, 7, .rw, fun _ => 82, .clamp 8 119⟩
/-- Address of the switching slave -/
def KEEPER_RAIL_CFG_PMBUS_ADDR : Fld := ⟨0x190100, 16, 16, 25, 7, .rw, fun _ => 0, .none⟩
/-- PMBus page -/
def KEEPER_RAIL_CFG_PAGE : Fld := ⟨0x190100, 16, 16, 21, 4, .rw, fun _ => 0, .none⟩
/-- n ≥ 12: 5 to 7, clamped -/
def KEEPER_RAIL_CFG_STEP : Fld := ⟨0x190100, 16, 16, 18, 3, .rw, railStepDefault, .clamp 5 7⟩
/-- Window in %; 2 to 10, clamped -/
def KEEPER_RAIL_CFG_WINDOW_PCT : Fld := ⟨0x190100, 16, 16, 14, 4, .rw, fun _ => 5, .clamp 2 10⟩
/-- n ≥ 12: 0 to 15,000, clamped; 0 = unused -/
def KEEPER_RAIL_CFG_NOMINAL_MV : Fld := ⟨0x190100, 16, 16, 0, 14, .rw, railNominalDefault, .clamp 0 15000⟩
/-- Ramp limit of R400 in ms; 1 to 255, clamped -/
def KEEPER_RAIL_TIME_RAMP_MS : Fld := ⟨0x190104, 16, 16, 24, 8, .rw, fun _ => 20, .clamp 1 255⟩
/-- Discharge limit of R404 in ms; 5 to 4,095, clamped -/
def KEEPER_RAIL_TIME_DISCH_MS : Fld := ⟨0x190104, 16, 16, 12, 12, .rw, fun _ => 50, .clamp 5 4095⟩
/-- 0 OFF, 1 RAMPING, 2 GOOD, 3 OUT_OF_WINDOW, 4 FAILED, 5 DISCHARGING, 6 REVERSED, 7 UNUSED -/
def KEEPER_RAIL_STATUS_STATE : Fld := ⟨0x190108, 16, 16, 29, 3, .ro, fun _ => 0, .none⟩
/-- 1 while monitored by READ_VOUT under R402 -/
def KEEPER_RAIL_STATUS_SENSE_FAULT : Fld := ⟨0x190108, 16, 16, 28, 1, .ro, fun _ => 0, .none⟩
/-- 0 none, 1 RAMP_TIMEOUT, 2 WINDOW, 3 HARD_LIMIT, 4 DISCHARGE_TIMEOUT, 5 PMBUS, 6 REVERSED -/
def KEEPER_RAIL_STATUS_LAST_FAULT : Fld := ⟨0x190108, 16, 16, 24, 4, .ro, fun _ => 0, .none⟩
/-- Last reading in mV, two's complement -/
def KEEPER_RAIL_STATUS_READ_MV : Fld := ⟨0x190108, 16, 16, 0, 16, .ro, fun _ => 0, .none⟩
/-- 32 KiB page in the window; per path under R419 -/
def KEEPER_FLASH_PAGE_PAGE : Fld := ⟨0x190028, 0, 1, 0, 9, .rw, fun _ => 0, .none⟩
/-- 1 while this path's operation runs -/
def KEEPER_FLASH_STATUS_BUSY : Fld := ⟨0x19002C, 0, 1, 31, 1, .ro, fun _ => 0, .none⟩
/-- 0 none, 1 word program, 2 buffer program, 3 erase -/
def KEEPER_FLASH_STATUS_OP : Fld := ⟨0x19002C, 0, 1, 28, 3, .ro, fun _ => 0, .none⟩
/-- Last result: 0 none, 1 PROTECTED, 2 SEQUENCE, 3 NOT_ERASED, 4 VERIFY, 5 BUSY; cleared when a sequence is accepted -/
def KEEPER_FLASH_STATUS_ERROR : Fld := ⟨0x19002C, 0, 1, 24, 4, .ro, fun _ => 0, .none⟩
/-- Settings blob slot in use -/
def KEEPER_FLASH_STATUS_SETTINGS_LIVE : Fld := ⟨0x19002C, 0, 1, 23, 1, .ro, fun _ => 0, .none⟩
/-- Mean retries per operation × 16, under R431 -/
def KEEPER_FLASH_WEAR_RETRY_MEAN_16 : Fld := ⟨0x190030, 0, 1, 24, 8, .ro, fun _ => 0, .none⟩
/-- Sectors in the log pool -/
def KEEPER_FLASH_WEAR_LOG_POOL : Fld := ⟨0x190030, 0, 1, 16, 8, .ro, fun _ => 64, .none⟩
/-- Area spares left -/
def KEEPER_FLASH_WEAR_AREA_SPARES : Fld := ⟨0x190030, 0, 1, 8, 8, .ro, fun _ => 21, .none⟩
/-- Sectors retired; saturates -/
def KEEPER_FLASH_WEAR_RETIRED : Fld := ⟨0x190030, 0, 1, 0, 8, .ro, fun _ => 0, .none⟩
/-- Highest erase count of any sector; saturates -/
def KEEPER_FLASH_CYCLES_MAX_ERASES : Fld := ⟨0x190034, 0, 1, 0, 17, .ro, fun _ => 0, .none⟩
/-- Records per second of R428; 1 to 100, clamped -/
def KEEPER_LOG_CFG_RATE : Fld := ⟨0x190038, 0, 1, 24, 8, .rw, fun _ => 20, .clamp 1 100⟩
/-- Least severity recorded, per *Event sources* -/
def KEEPER_LOG_CFG_MIN_SEV : Fld := ⟨0x190038, 0, 1, 0, 2, .rw, fun _ => 1, .none⟩
/-- Newest valid record -/
def KEEPER_LOG_HEAD_SEQ : Fld := ⟨0x19003C, 0, 1, 0, 32, .ro, fun _ => 0, .none⟩
/-- Oldest record in the window -/
def KEEPER_LOG_TAIL_SEQ : Fld := ⟨0x190040, 0, 1, 0, 32, .ro, fun _ => 0, .none⟩
/-- Record to read under R429 -/
def KEEPER_LOG_SEL_SEQ : Fld := ⟨0x190044, 0, 1, 0, 32, .rw, fun _ => 0, .none⟩
/-- 0 IDLE, 1 BUSY, 2 READY, 3 NOT_FOUND -/
def KEEPER_LOG_STATUS_STATE : Fld := ⟨0x190048, 0, 1, 30, 2, .ro, fun _ => 0, .none⟩
/-- Records dropped since power-on; saturates -/
def KEEPER_LOG_STATUS_DROPPED : Fld := ⟨0x190048, 0, 1, 0, 16, .ro, fun _ => 0, .none⟩
/-- Bytes 4n to 4n + 3 of the selected record -/
def KEEPER_LOG_DATA_DATA : Fld := ⟨0x190080, 4, 16, 0, 32, .ro, fun _ => 0, .none⟩

/-- Every field of block KEEPER (register map of its chapter). -/
def fieldsKEEPER : List Fld :=
  [KEEPER_CTRL_COMMIT, KEEPER_CTRL_RESTART_HOLD_100MS, KEEPER_CTRL_RETURN_10MS, KEEPER_STATUS_SEQ_STATE, KEEPER_STATUS_SEQ_STEP, KEEPER_STATUS_RETRIES, KEEPER_STATUS_VK_LOW, KEEPER_STATUS_VK_MV, KEEPER_FEED_CFG_MODE, KEEPER_FEED_CFG_REVERT, KEEPER_FEED_CFG_UV_DV, KEEPER_FEED_CFG_OK_DV, KEEPER_FEED_STATUS_A_STATE, KEEPER_FEED_STATUS_A_EN, KEEPER_FEED_STATUS_B_STATE, KEEPER_FEED_STATUS_B_EN, KEEPER_FEED_STATUS_LOSSES, KEEPER_FEED_V_A_DV, KEEPER_FEED_V_B_DV, KEEPER_SENSE_DIV_FEED_DIV16] ++
  [KEEPER_SENSE_DIV_HOLDUP_DIV16, KEEPER_HOLDUP_CFG_RTEST_MOHM, KEEPER_HOLDUP_CFG_TEST_MAX_S, KEEPER_HOLDUP_CFG_START_V, KEEPER_HOLDUP_STATUS_TEST_STATE, KEEPER_HOLDUP_STATUS_LAST_RESULT, KEEPER_HOLDUP_STATUS_TRACK_OK, KEEPER_HOLDUP_STATUS_TRACK_ESR_10UOHM, KEEPER_RAIL_FAILED_MASK, KEEPER_MBOX_CFG_I3C, KEEPER_MBOX_CFG_STATIC_ADDR, KEEPER_RAIL_CFG_PMBUS_ADDR, KEEPER_RAIL_CFG_PAGE, KEEPER_RAIL_CFG_STEP, KEEPER_RAIL_CFG_WINDOW_PCT, KEEPER_RAIL_CFG_NOMINAL_MV, KEEPER_RAIL_TIME_RAMP_MS, KEEPER_RAIL_TIME_DISCH_MS, KEEPER_RAIL_STATUS_STATE, KEEPER_RAIL_STATUS_SENSE_FAULT] ++
  [KEEPER_RAIL_STATUS_LAST_FAULT, KEEPER_RAIL_STATUS_READ_MV, KEEPER_FLASH_PAGE_PAGE, KEEPER_FLASH_STATUS_BUSY, KEEPER_FLASH_STATUS_OP, KEEPER_FLASH_STATUS_ERROR, KEEPER_FLASH_STATUS_SETTINGS_LIVE, KEEPER_FLASH_WEAR_RETRY_MEAN_16, KEEPER_FLASH_WEAR_LOG_POOL, KEEPER_FLASH_WEAR_AREA_SPARES, KEEPER_FLASH_WEAR_RETIRED, KEEPER_FLASH_CYCLES_MAX_ERASES, KEEPER_LOG_CFG_RATE, KEEPER_LOG_CFG_MIN_SEV, KEEPER_LOG_HEAD_SEQ, KEEPER_LOG_TAIL_SEQ, KEEPER_LOG_SEL_SEQ, KEEPER_LOG_STATUS_STATE, KEEPER_LOG_STATUS_DROPPED, KEEPER_LOG_DATA_DATA]

/-! ### Block FW -/

/-- Code of Table 21-3 -/
def FW_STATUS_SLOT_A : Fld := ⟨0x1A0000, 0, 1, 29, 3, .ro, fun _ => 0, .none⟩
/-- Code of Table 21-3 -/
def FW_STATUS_SLOT_B : Fld := ⟨0x1A0000, 0, 1, 26, 3, .ro, fun _ => 0, .none⟩
/-- 0 A, 1 B -/
def FW_STATUS_RUN_SLOT : Fld := ⟨0x1A0000, 0, 1, 25, 1, .ro, fun _ => 0, .none⟩
/-- Per R443 -/
def FW_STATUS_RECOVERY : Fld := ⟨0x1A0000, 0, 1, 24, 1, .ro, fun _ => 0, .none⟩
/-- A TEST package runs -/
def FW_STATUS_TEST_IMAGE : Fld := ⟨0x1A0000, 0, 1, 23, 1, .ro, fun _ => 0, .none⟩
/-- Bit c = management core c running -/
def FW_STATUS_CORES_OK : Fld := ⟨0x1A0000, 0, 1, 19, 4, .ro, fun _ => 0, .none⟩
/-- IMAGE_SVN of the running package -/
def FW_RUN_IMAGE_SVN : Fld := ⟨0x1A0004, 0, 1, 0, 32, .ro, fun _ => 0, .none⟩
/-- Fuse epoch, 0 to 64 -/
def FW_OTP_EPOCH : Fld := ⟨0x1A0008, 0, 1, 0, 7, .ro, fun _ => 0, .none⟩
/-- SCHEMA of the live blob -/
def FW_SETTINGS_SCHEMA : Fld := ⟨0x1A000C, 0, 1, 16, 16, .ro, fun _ => 0, .none⟩
/-- Live settings slot -/
def FW_SETTINGS_LIVE_SLOT : Fld := ⟨0x1A000C, 0, 1, 15, 1, .ro, fun _ => 0, .none⟩
/-- 1 until FW_COMMIT releases the old blob -/
def FW_SETTINGS_OLD_KEPT : Fld := ⟨0x1A000C, 0, 1, 14, 1, .ro, fun _ => 0, .none⟩
/-- Last refusal or load failure reason -/
def FW_LAST_ERROR_REASON : Fld := ⟨0x1A0010, 0, 1, 24, 8, .ro, fun _ => 0, .none⟩
/-- Type of Table 21-1 -/
def FW_LAST_ERROR_COMPONENT : Fld := ⟨0x1A0010, 0, 1, 20, 4, .ro, fun _ => 0, .none⟩
/-- Loader port locked under R435 -/
def FW_CTRL_LOCK : Fld := ⟨0x1A0014, 0, 1, 31, 1, .ro, fun _ => 0, .none⟩
/-- Limit of R442 in s; 10 to 300, clamped -/
def FW_CTRL_TRIAL_TIMEOUT_S : Fld := ⟨0x1A0014, 0, 1, 0, 16, .rw, fun _ => 30, .clamp 10 300⟩
/-- Floor of type n -/
def FW_FLOOR_SVN : Fld := ⟨0x1A0024, 4, 5, 0, 32, .ro, fun _ => 0, .none⟩
/-- SVN of type n running -/
def FW_RUN_SVN_SVN : Fld := ⟨0x1A0044, 4, 5, 0, 32, .ro, fun _ => 0, .none⟩
/-- Count since power-on (64-bit pair). -/
def FW_CORE_RESTARTS : Fld := ⟨0x1A0060, 0, 1, 0, 64, .ro, fun _ => 0, .none⟩
/-- Count since power-on (64-bit pair). -/
def FW_REVERTS : Fld := ⟨0x1A0068, 0, 1, 0, 64, .ro, fun _ => 0, .none⟩

/-- Every field of block FW (register map of its chapter). -/
def fieldsFW : List Fld :=
  [FW_STATUS_SLOT_A, FW_STATUS_SLOT_B, FW_STATUS_RUN_SLOT, FW_STATUS_RECOVERY, FW_STATUS_TEST_IMAGE, FW_STATUS_CORES_OK, FW_RUN_IMAGE_SVN, FW_OTP_EPOCH, FW_SETTINGS_SCHEMA, FW_SETTINGS_LIVE_SLOT, FW_SETTINGS_OLD_KEPT, FW_LAST_ERROR_REASON, FW_LAST_ERROR_COMPONENT, FW_CTRL_LOCK, FW_CTRL_TRIAL_TIMEOUT_S, FW_FLOOR_SVN, FW_RUN_SVN_SVN, FW_CORE_RESTARTS, FW_REVERTS]

/-! ### Block EVENT -/

/-- Distinct records per source per second before repeat counting, as *Event sources* applies it; 1 to 1,000, clamped -/
def EVENT_STORM_LIMIT_PER_S : Fld := ⟨0x1B0000, 0, 1, 16, 16, .rw, fun _ => 100, .clamp 1 1000⟩
/-- Repeat window of *Event sources*; 10 to 60,000, clamped -/
def EVENT_STORM_WINDOW_MS : Fld := ⟨0x1B0000, 0, 1, 0, 16, .rw, fun _ => 1000, .clamp 10 60000⟩
/-- Records the hub holds unwritten; saturates -/
def EVENT_STATUS_HELD : Fld := ⟨0x1B0004, 0, 1, 16, 16, .ro, fun _ => 0, .none⟩
/-- Bit m = event ring m full -/
def EVENT_STATUS_FULL : Fld := ⟨0x1B0004, 0, 1, 8, 8, .ro, fun _ => 0, .none⟩
/-- 1 once an event is raised -/
def EVENT_LAST_VALID : Fld := ⟨0x1B0008, 0, 1, 31, 1, .ro, fun _ => 0, .none⟩
/-- Ring it was routed to -/
def EVENT_LAST_RING : Fld := ⟨0x1B0008, 0, 1, 16, 3, .ro, fun _ => 0, .none⟩
/-- Code of *Event sources* -/
def EVENT_LAST_SEVERITY : Fld := ⟨0x1B0008, 0, 1, 8, 2, .ro, fun _ => 0, .none⟩
/-- Source ID, group × 16 + index -/
def EVENT_LAST_SOURCE : Fld := ⟨0x1B0008, 0, 1, 0, 8, .ro, fun _ => 0, .none⟩
/-- Occurrences since power-on, repeats included -/
def EVENT_RAISED_COUNT : Fld := ⟨0x1B0010, 0, 1, 0, 64, .ro, fun _ => 0, .none⟩
/-- Occurrences folded into repeat counts -/
def EVENT_REPEATS_COUNT : Fld := ⟨0x1B0018, 0, 1, 0, 64, .ro, fun _ => 0, .none⟩
/-- 1 = source s is written to no event ring -/
def EVENT_ROUTE_OFF : Fld := ⟨0x1B0100, 4, 256, 31, 1, .rw, fun s => if isListedSource s then 0 else 1, .none⟩
/-- Event ring for source s -/
def EVENT_ROUTE_RING : Fld := ⟨0x1B0100, 4, 256, 0, 3, .rw, fun s => if isListedSource s then s / 32 else 0, .none⟩

/-- Every field of block EVENT (register map of its chapter). -/
def fieldsEVENT : List Fld :=
  [EVENT_STORM_LIMIT_PER_S, EVENT_STORM_WINDOW_MS, EVENT_STATUS_HELD, EVENT_STATUS_FULL, EVENT_LAST_VALID, EVENT_LAST_RING, EVENT_LAST_SEVERITY, EVENT_LAST_SOURCE, EVENT_RAISED_COUNT, EVENT_REPEATS_COUNT, EVENT_ROUTE_OFF, EVENT_ROUTE_RING]

/-- Every field of every register of BAR0 (Table 23-12). -/
def allFields : List Fld :=
  fieldsGLOBAL ++ fieldsRING ++ fieldsPACE ++ fieldsPORT ++ fieldsCERGA ++ fieldsROCE ++ fieldsPROT ++ fieldsNEAR ++ fieldsDUR ++ fieldsTWIN ++ fieldsTIER ++ fieldsDRAM ++ fieldsFLASH ++ fieldsINTEG ++ fieldsDOMAIN ++ fieldsMETER ++ fieldsCIPHER ++ fieldsLIFE ++ fieldsKEEPER ++ fieldsFW ++ fieldsEVENT

end R

end Sys2Proof
end

