-- ==== Sys2Proof/Machine/State.lean ====
section
/-! DEFINITION. The state of one H9: plain data, one record per unit, and the queue of commands that wait. Registers of BAR0
live in the register file `regs`, keyed by field; a field that is not listed stands at its value after reset. -/

namespace Sys2Proof.Machine

/-! ### Time, event hub, rings -/

/-- The time unit (R350, R351): the unstepped count and TAI, both in ns; the last TAI second that has begun, holdover, whether the
keeper's own clock stands in for REFCLK_TIME (R494), when PTP_PPS_OUT falls, the last pulse of PTP_PPS_IN, whether the unit has synchronised since the start,
since when UNCERTAINTY_NS has been at or below SYNC_NS, and when the source last gave the time. -/
structure TimeUnit where
  count : Nat
  tai : Nat
  second : Nat
  holdover : Bool
  onDdrClock : Bool
  pulseEnd : Option Nat
  lastPps : Option Nat
  stepped : Bool
  goodSince : Option Nat
  lastSync : Option Nat
  deriving DecidableEq, Repr

/-- An event record as the hub closes it (Table 24-3); `id` orders closings, `ring` is filled in when it is written. -/
structure EventRecord where
  id : Nat
  source : Nat
  severity : Nat
  update : Bool
  summary : Bool
  overflow : Bool
  keeper : Bool
  timeValid : Bool
  alt : Bool
  times : Nat
  tai : Nat
  detail : Nat
  seq : Nat
  phase : Bool
  deriving DecidableEq, Repr

/-- What the hub keeps per source (R482, R483): the previous occurrence, the pending repeats, and the second's fold. -/
structure SourceTrack where
  prev : Option (Nat × Bool × Nat)
  pending : Nat
  pendingDetail : Nat
  pendingAlt : Bool
  pendingTai : Nat
  pendingValid : Bool
  lastRecord : Nat
  second : Nat
  inSecond : Nat
  folded : Nat
  foldDetail : Nat
  foldAlt : Bool
  foldTai : Nat
  foldValid : Bool
  byKeeper : Bool
  deriving DecidableEq, Repr

/-- The event hub (R481 to R485): tracks by source, records held in closing order (fold slots carry `overflow`), and the
next closing number. -/
structure Hub where
  tracks : AMap SourceTrack
  held : List EventRecord
  nextId : Nat
  deriving DecidableEq, Repr

/-- What a ring has beside its registers (R304, R314, R318): the pass phase, entries since the last signal, the running
coalescing timer, the record sequence, and an ENABLE stored while DRAINING. -/
structure RingUnit where
  phase : Bool
  fresh : Nat
  timer : Option Nat
  seq : Nat
  stored : Bool
  deriving DecidableEq, Repr

/-- One MSI-X table entry (R472), and when and for which ring its last message left (R314). -/
structure MsixEntry where
  addr : Nat
  data : Nat
  masked : Bool
  pending : Bool
  sent : Option (Nat × Nat)
  deriving DecidableEq, Repr

/-- A completion entry (Table 14-4); `result` is RESULT as a little-endian number. -/
structure Completion where
  tag : Nat
  opcode : Nat
  status : Nat
  detail : Nat
  sqHead : Nat
  sqRing : Nat
  result : Nat
  phase : Bool
  deriving DecidableEq, Repr

/-- How far a fetched command has come: fetched, accepted and running, or ended with its completion still to be written. -/
inductive CmdPhase where
  | fetched | running | ended
  deriving DecidableEq, Repr

/-- A fetched command (R311 to R313): its number, place, descriptor fields, progress, outcome, the event records
it waits for, whether its ring is gone, the mirror record (queue 0 to 31 and MSN, as one number) it waits for, and the PD, address and
length of a MEMOP (R83). -/
structure Cmd where
  id : Nat
  ring : Nat
  slot : Nat
  opcode : Nat
  tag : Nat
  barrier : Bool
  noIrq : Bool
  phase : CmdPhase
  status : Nat
  detail : Nat
  result : Nat
  events : List Nat
  orphan : Bool
  mirror : Option Nat
  range : Nat × Nat × Nat
  deriving DecidableEq, Repr

/-! ### Keeper -/

/-- One rail of Table 19-1 as the keeper runs it: commanded on, when it was last commanded, and when it left its window. -/
structure Rail where
  on : Bool
  commandedAt : Nat
  faultAt : Option Nat
  deriving DecidableEq, Repr

/-- What the keeper holds of one feed beside KEEPER_FEED_STATUS: the end of its return time, whether it was ever OK (R406), and an EN that
does not follow its drive (Table 25-4). -/
structure Feed where
  returnEnd : Option Nat
  wasOk : Bool
  badEn : Bool
  deriving DecidableEq, Repr

/-- The hold-up test and ESR tracking (Table 19-2, R411). Voltages in mV, ESR in units of 10 µΩ, times in ns; `pulses` are the last
valid ones, `stale` says that HOLDUP_STALE stands for want of a valid test, `stopped` that HOLDUP_TEST_EN is stuck high (Table 25-4). -/
structure HoldupTest where
  v0 : Nat
  v1 : Nat
  v1At : Nat
  esr : Nat
  lastValid : Option Nat
  nextDue : Nat
  retryAt : Option Nat
  pulses : List Nat
  lastPulse : Nat
  lastGood : Nat
  stale : Bool
  stopped : Bool
  deriving DecidableEq, Repr

/-- The strongest action after a save (Table 7-4, Table 7-6). -/
inductive SaveAction where
  | keep | restart | shutdown
  deriving DecidableEq, Repr

/-- A life-cycle or debug change that waits for a save, or for the end of one that runs (R380, R385, R386). -/
structure Change where
  debug : Bool
  target : Nat
  owner : Nat
  expiry : Nat
  deriving DecidableEq, Repr

/-- Keeper flash operation kinds (Table 20-2). -/
inductive KOpKind where
  | word | buffer | erase
  deriving DecidableEq, Repr

/-- A keeper-flash operation that runs or waits (R422). -/
structure KOp where
  path : Path
  kind : KOpKind
  addr : Nat
  words : List Nat
  deriving DecidableEq, Repr

/-- The sequence state of one path (R419, R420): its page, the writes of the sequence so far, and its last write. -/
structure WindowPath where
  page : Nat
  writes : List (Nat × Nat)
  lastWrite : Nat
  busy : Bool
  op : Nat
  error : Nat
  deriving DecidableEq, Repr

/-- A keeper-flash sector: erase count, entries used and completed in its flag row (R423), and whether it is retired. -/
structure Sector where
  erases : Nat
  started : Nat
  done : Nat
  retired : Bool
  deriving DecidableEq, Repr

/-- A keeper log record (Table 20-4). -/
structure LogRecord where
  seq : Nat
  kind : Nat
  severity : Nat
  source : Nat
  opHours : Nat
  cycles : Nat
  tai : Nat
  time : Nat
  continued : Bool
  fromCore : Bool
  onHoldup : Bool
  repeatBase : Nat
  detail : Nat
  slots : List Nat
  deriving DecidableEq, Repr

/-- The flood of repeats behind the newest event record (R427). -/
structure LogFlood where
  source : Nat
  detail : Nat
  severity : Nat
  fromCore : Bool
  last : Nat
  base : Nat
  count : Nat
  unwritten : Bool
  lastSlot : Nat
  deriving DecidableEq, Repr

/-- Keeper flash and its log (R418 to R433). `words` lists the words that are not erased, by word number. -/
structure KFlash where
  words : AMap Nat
  sectors : AMap Sector
  ops : List KOp
  pcie : WindowPath
  mgmt : WindowPath
  log : List LogRecord
  ram : List LogRecord
  flood : Option LogFlood
  nextSeq : Nat
  tokens : Nat
  tokensAt : Nat
  counters : AMap Nat
  retries : List Nat
  settings : AMap Nat
  pendingErase : List Nat
  logSectors : List Nat
  warned : Bool
  romRecovery : Bool
  deriving DecidableEq, Repr

/-- Coded sideband inputs of Table 25-2. -/
structure SideInput where
  active : Bool
  since : Nat
  stuck : Bool
  chattering : Bool
  recent : List Nat
  deriving DecidableEq, Repr

/-- The keeper die beside its registers. -/
structure Keeper where
  rails : AMap Rail
  feedA : Feed
  feedB : Feed
  feedHold : Bool
  onSecondary : Bool
  holdup : HoldupTest
  retryAt : Option Nat
  holdEnd : Option Nat
  waitStart : Bool
  hourAt : Nat
  mismatch : Bool
  abortShutdown : Bool
  startVEnd : Option Nat
  keepAfter : Bool
  powered : Bool
  stopped : Bool
  fifoOut : List Nat
  staging : Mem
  mboxI3c : Bool
  mboxAddr : Nat
  thermDriven : Bool
  thermInput : Bool
  thermAt : Option Nat
  outputs : AMap Bool
  inputs : AMap SideInput
  clocksLost : List Nat
  vddMv : Nat
  flash : KFlash
  prevStraps : Option (Nat × Nat)
  ownerDigest : Nat
  deferred : Option Change
  debugEnd : Option Nat
  testEnd : Option Nat
  railCfg : AMap Nat
  indFault : Option Bool
  deriving DecidableEq, Repr

/-! ### Firmware and start -/

/-- A settings blob (R444): schema, sequence, and entries of offset and value. -/
structure Settings where
  schema : Nat
  seq : Nat
  entries : List (Nat × Nat)
  deriving DecidableEq, Repr

/-- Firmware slots, settings slots and core supervision (R436, R440 to R444). -/
structure Firmware where
  slotA : Option Package
  slotB : Option Package
  measured : List (Nat × Nat)
  coreRestarts : List Nat
  trialEnd : Option Nat
  deriving DecidableEq, Repr

/-- How far a start has come (Table 22-2): its step, when Quench ended, what has ended, whether the ledger's CMAC verified, the channels of the previous
start, the pair-local units still to restore in order, whether admission has been opened and the ledger presented, the pair-local pages whose
write-back the journal does not confirm, and those asked of the twin with their deadlines. -/
structure Start where
  step : Nat
  quenchEnd : Nat
  dramDone : Bool
  fwDone : Bool
  tablesDone : Bool
  keysDone : Bool
  ledgerOk : Bool
  prevChannels : List Nat
  units : List Nat
  admitted : Bool
  presented : Bool
  lost : List Nat
  twinPages : AMap Nat
  deriving DecidableEq, Repr

/-- A ledger record (Table 4-3). -/
structure LedgerRecord where
  kind : Nat
  status : Nat
  opcode : Nat
  pd : Nat
  pair : Nat
  queue : Nat
  seq : Nat
  addr : Nat
  len : Nat
  bytes : Nat
  bitmap : Nat
  shift : Nat
  mirrored : Bool
  confirmed : Bool
  resultValid : Bool
  released : Bool
  detail : Nat
  result : Nat
  deriving DecidableEq, Repr

/-- The save sequence (Table 7-5): whether it runs, its step, trigger, action, start time, the power it runs on, the change
and firmware action it carries, the save intent it wrote, the bank's voltage when it began, and the ledger records collected so far. -/
structure Save where
  active : Bool
  step : Nat
  trigger : Nat
  action : SaveAction
  startedAt : Nat
  onBank : Bool
  change : Option Change
  activate : Option Nat
  intent : List Nat
  intentWritten : Bool
  lastStep : Nat
  incomplete : Bool
  bankMv : Nat
  records : List LedgerRecord
  deriving DecidableEq, Repr

/-! ### Protection unit -/

/-- States of a region that is not FREE (Table 3-2). -/
inductive RegionState where
  | creating | active | resizing | destroying
  deriving DecidableEq, Repr

/-- A region record (R36 to R40, R183): sizes in bytes, `newSize` while RESIZING, flags, shelf object, tenant key slot,
metering account, and the owner side of a region that is not MIRRORED. -/
structure Region where
  state : RegionState
  base : Nat
  size : Nat
  newSize : Nat
  writable : Bool
  mirrored : Bool
  shelf : Bool
  scheduled : Bool
  pinNear : Bool
  object : Nat
  key : Nat
  account : Nat
  owner : Nat
  deriving DecidableEq, Repr

/-- An ETT entry (Table 3-3); base, length and target in 2 MiB units; the target is a DRAM media address or an offset into
`object`. -/
structure Extent where
  base : Nat
  len : Nat
  region : Nat
  shelf : Bool
  object : Nat
  target : Nat
  deriving DecidableEq, Repr

/-- A PD that is IN_USE (R47, R50): current key, previous key in its grace period, metering account. -/
structure Pd where
  key : Nat
  prev : Option Nat
  account : Nat
  deriving DecidableEq, Repr

/-- What a removing command removes once its drain has ended (R55, R56, R118, R124, R134). -/
inductive Removal where
  | unbind (pd region : Nat)
  | region (region : Nat)
  | shrink (region : Nat)
  | pd (pd : Nat)
  | queue (index : Nat)
  | qp (index : Nat)
  | qpInit (index : Nat)
  | key (slot : Nat)
  deriving DecidableEq, Repr

/-- A removal that waits for the operations admitted under the removed access, by operation number, until its drain limit (R55):
for a command of this H9, or for a push at a worker (R347). `all` keeps every operation it began with: data of theirs that no gather
buffer has accepted yet holds the removal back too. -/
structure Drain where
  cmd : Option Nat
  push : Option Nat
  removal : Removal
  ops : List Nat
  all : List Nat
  limit : Nat
  deriving DecidableEq, Repr

/-- A management command that a standby applies in order (R57), or that the active replays at a resync (R193): its opcode and
its parameters as numbers. -/
structure MirrorCommand where
  opcode : Nat
  params : List Nat
  deriving DecidableEq, Repr

/-! ### Operations -/

/-- Where a request came from: a Cerga stream, a RoCEv2 QP, or a command ring's MEMOP. -/
inductive Source where
  | cerga (index : Nat) (epoch : Nat)
  | roce (qp : Nat)
  | host (ring cmd : Nat)
  deriving DecidableEq, Repr

/-- A request as it reaches admission: opcode of Table 5-7, sequence (SEQ, first PSN or descriptor index), PD, presented key
and its width, domain address, length, the first packet's data, further fields by opcode (`arg`: fence scope, TILE, RoCEv2
opcode, host address), the cursor of a shelf request, arrival, frame bytes, clamps, and the port and sub-port it came by. -/
structure Request where
  src : Source
  opcode : Nat
  seq : Nat
  pd : Nat
  key : Nat
  keyBits : Nat
  addr : Nat
  len : Nat
  data : List Byte
  arg : Nat
  cursor : Option Nat
  arrived : Nat
  frame : Nat
  clamps : Nat
  port : Nat
  deriving DecidableEq, Repr

/-- Where a request waits on its way to admission: in the shaper (R331), behind a FENCE (R73), for a tag (R76), in HOLD (R148), or
for a table entry that is being reloaded (R287). -/
inductive WaitStage where
  | shaper | fence | tag | hold | reload
  deriving DecidableEq, Repr

/-- A request that waits for admission. -/
structure Waiter where
  req : Request
  stage : WaitStage
  since : Nat
  deriving DecidableEq, Repr

/-- An admitted operation under its tag: its number in admission order, request, region, what of it has been placed, what it
waits for (lines being filled, units being restored, tiles being staged, a tie-break), its outcome, its metering
assignment, what a shelf read has delivered so far with its poisoned chunks, and the bytes of a write that have arrived and are not yet
placed, by offset. -/
structure Op where
  id : Nat
  tag : Nat
  req : Request
  pd : Nat
  region : Option Nat
  mirrored : Bool
  shelf : Bool
  placed : List (Nat × Nat)
  arrived : Bool
  placedEnd : Option Nat
  lines : List Nat
  units : List Nat
  tiles : List (Nat × Nat)
  restoreEnd : Option Nat
  status : Option Nat
  value : Option Nat
  issued : Bool
  executed : Bool
  degraded : Bool
  poisoned : Bool
  progress : Nat
  account : Nat
  window : Nat
  late : Bool
  responded : Bool
  buffer : List Byte
  marks : List Nat
  held : List (Nat × List Byte)
  deriving DecidableEq, Repr

/-- A write gather buffer entry (R15, R136): the operation and its source, at a standby the record it came as (queue and MSN), DRAM media address and pair-local address, bytes, PD, the mirror record it waits for (queue and MSN), whether it still waits for the twin or the
mark (R179), whether an atomic wrote it, and the chunks (media address / 64) whose bytes an uncorrectable error took after the
acknowledgement, which are poisoned when the entry is applied (R286). -/
structure Gather where
  id : Nat
  op : Option Nat
  src : Option Source
  origin : Option (Nat × Nat)
  media : Nat
  addr : Nat
  data : List Byte
  pd : Nat
  record : Option (Nat × Nat)
  stuck : Bool
  atomic : Bool
  lost : List Nat
  deriving DecidableEq, Repr

/-! ### Near cache -/

/-- Line states other than INVALID (Table 9-2); a locked way without a line is `empty`. -/
inductive LineState where
  | empty | filling | clean | dirty | atomic
  deriving DecidableEq, Repr

/-- A line in a way or in a victim cache: line number (media address / 64), state, LOCK, POISON, and its bytes. -/
structure Line where
  line : Nat
  state : LineState
  lock : Bool
  poison : Bool
  data : List Byte
  deriving DecidableEq, Repr

/-- A bank's miss register (R206): the line, the way it fills, the merged bytes, and the request to its DRAM channel: since when it
waits, and whether its age has raised it above every port (R256). -/
structure Miss where
  line : Nat
  way : Option Nat
  merged : List (Nat × Byte)
  since : Nat
  aged : Bool
  deriving DecidableEq, Repr

/-- A lock-table range (R209, R210). -/
structure LockRange where
  region : Nat
  offset : Nat
  len : Nat
  deriving DecidableEq, Repr

/-- The near cache: ways by (bank × 128 + set) × 16 + way, tree pseudo-LRU bits by set, victim caches by bank (oldest
first), miss registers by bank, the lock table, whether ENABLE was written while DISABLING (R215), and the CACHE_LOCK commands that
wait for tiles, each with its lock-table index and whether it is a re-pin (R211), with no command for a range that is reloaded (R210), and ways retired until the next start (R298). -/
structure Near where
  ways : AMap Line
  lru : AMap Nat
  victims : AMap (List Line)
  misses : AMap Miss
  locks : AMap LockRange
  reenable : Bool
  loading : List (Option Nat × Nat × Bool)
  retired : List Nat
  deriving DecidableEq, Repr

/-! ### Durability unit -/

/-- The PD of data that no PD wrote: the directory's stream and what comes from the twin (R323). -/
def noPd : Nat := 65536

/-- A dirty page of DRAM (R137, R138): its age, the PD whose write made it dirty, and the flash program in progress: whether it
has been read for write-back, whether a write came after the read, the bytes and poisoned chunks as read, and the integrity tag that the
tag store holds (R291). -/
structure DirtyPage where
  since : Nat
  pd : Nat
  reading : Bool
  again : Bool
  snapshot : List Byte
  marks : List Nat
  tag : Nat
  deriving DecidableEq, Repr

/-- A unit of the running dirty map (R503): set, and since when all its pages have been clean. -/
structure MapUnit where
  clean : Option Nat
  deriving DecidableEq, Repr

/-- The durability unit: dirty pages by media page, the previous budget inputs, peaks of D over 24 h, since when d is 2 points
below each stage's threshold, dirty-map
units, the start of throttling, and the program means per die. -/
structure Durability where
  dirty : AMap DirtyPage
  prevInputs : Nat × Nat × Nat
  peaks : List (Nat × Nat)
  below : AMap Nat
  map : AMap MapUnit
  throttleFrom : Option Nat
  nextBudget : Nat
  dieMeans : AMap Nat
  savedMeans : AMap Nat
  senseLost : Bool
  deriving DecidableEq, Repr

/-- The ledger of the last save (R82 to R86, R156, R192). -/
structure Ledger where
  records : List LedgerRecord
  saveSeq : Nat
  lost : Bool
  presented : Bool
  superseded : Bool
  releaseAt : Option Nat
  deriving DecidableEq, Repr

/-! ### Cerga -/

/-- A queue record (R93): GEN, PD, key slot, and its state: in use, or leaving under a QUEUE_DESTROY (R118). -/
structure QueueRec where
  gen : Nat
  pd : Nat
  key : Nat
  leaving : Bool
  deriving DecidableEq, Repr

/-- Stream states (Table 5-4). -/
inductive StreamState where
  | none | open | lapsed
  deriving DecidableEq, Repr

/-- A result-cache entry (R101); of an atomic also its address and PD, which its ledger record needs (R117). -/
structure CachedResult where
  seq : Nat
  opcode : Nat
  status : Nat
  payload : List Byte
  op : Option Nat
  addr : Nat
  pd : Nat
  deriving DecidableEq, Repr

/-- Where a stream's packets come from, for replies (R88): port and sub-port, address with port, DSCP and 802.1Q priority. -/
structure Reply where
  port : Nat
  ipv6 : Bool
  src : Nat
  dscp : Nat
  prio : Option Nat
  deriving DecidableEq, Repr

/-- A stream's context (R91, R92, R97, R98, R101 to R103): `key` is the stream key of the open epoch, `map` lists the received SEQs at
or above CUM, `high` the highest received, `nonces` the vector counter of each epoch answered in this incarnation, `uncovered` the new
packets that no ACK or response covers yet, each with the end of its ACK delay, and `carried` the SEQs at or above RESP_ACK that the
mirror stream has carried (R117). -/
structure Stream where
  state : StreamState
  epoch : Nat
  key : Option Nat
  cum : Nat
  map : List Nat
  high : Option Nat
  respAck : Nat
  nonces : AMap Nat
  cache : List CachedResult
  uncovered : List (Nat × Nat)
  sinceAck : Nat
  ece : Bool
  lastAt : Nat
  reply : Reply
  carried : List Nat
  deriving DecidableEq, Repr

/-- A Cerga request packet that waits in the reorder store or for its context, with its opcode. -/
structure HeldPacket where
  opcode : Nat
  packet : CergaPacket
  at_ : Nat
  deriving DecidableEq, Repr

/-- The Cerga unit: queue records, the GEN last destroyed at each index since power-on, stream contexts, the context cache and each
engine's lookaside of it (least recent first, R97), packets that wait for a context and in the reorder stores, the SAVE_SEQ the incarnation was formed from, and the second of the tag-failure alarm with its count and whether it was raised
(R89). -/
structure Cerga where
  queues : AMap QueueRec
  destroyed : AMap Nat
  streams : AMap Stream
  cache : List Nat
  lookaside : AMap (List Nat)
  fetching : List HeldPacket
  held : List HeldPacket
  base : Nat
  alarmSecond : Nat
  alarmCount : Nat
  alarmed : Bool
  deriving DecidableEq, Repr

/-! ### RoCEv2 -/

/-- States of a QP that is not FREE (Table 6-3). -/
inductive QpState where
  | init | rtr | rts | err
  deriving DecidableEq, Repr

/-- A saved atomic result (R128). -/
structure QpResult where
  psn : Nat
  bth : Nat
  value : Nat
  deriving DecidableEq, Repr

/-- A QP's answer that waits for its turn among the responses of earlier operations (R129): PSN, the port it leaves by, AETH syndrome, and the
status that takes the QP to ERR once it leaves. -/
structure OwedReply where
  psn : Nat
  port : Nat
  syndrome : Nat
  fatal : Option Nat
  deriving DecidableEq, Repr

/-- A QP context (R123 to R132). `write` is the RDMA WRITE whose further packets are expected, by first PSN and offset so far;
`acks` the duplicate writes to acknowledge once earlier writes are durable; `retry` the first PSN and packets of requests that an
RNR NAK asked for again; `port` where its newest packet arrived; `owed` the NAKs that wait behind earlier operations. -/
structure Qp where
  state : QpState
  pd : Nat
  epsn : Nat
  naked : Bool
  results : List QpResult
  maxRd : Nat
  minRnr : Nat
  tclass : Nat
  dqpn : Nat
  dip : Nat
  flow : Nat
  hop : Nat
  cnpAt : Option Nat
  port : Nat
  write : Option (Nat × Nat)
  acks : List Nat
  retry : List (Nat × Nat)
  owed : List OwedReply
  deriving DecidableEq, Repr

/-- The RoCEv2 unit: QPs by index, the context cache (least recent first), parked packets in arrival order,
and the responder states that the last save wrote, as bytes by QP index (R133). -/
structure Roce where
  qps : AMap Qp
  cache : List Nat
  parked : List RocePacket
  saved : AMap (List Byte)
  deriving DecidableEq, Repr

/-! ### Twin unit -/

/-- A Braze item (Table 8-3): type of Table 8-4, header fields, and its body. -/
structure BrazeItem where
  type : Nat
  queue : Nat
  cut : Bool
  epochEnd : Bool
  msn : Nat
  recordLen : Nat
  offset : Nat
  body : List Byte
  deriving DecidableEq, Repr

/-- A Braze frame as it was sent (Table 8-2, R166): the header fields, its items, and the encrypted body with its tag. -/
structure BrazeFrame where
  dir : Nat
  credit : Nat
  tokenEpoch : Nat
  seq : Nat
  items : List BrazeItem
  cipher : List Byte
  tag : List Byte
  deriving DecidableEq, Repr

/-- A mirror record sent and not yet acknowledged. -/
structure SentRecord where
  queue : Nat
  msn : Nat
  at_ : Nat
  deriving DecidableEq, Repr

/-- A COMMAND item that the standby has not reported yet (R57): its number, the command that waits for the report, and what it carried. -/
structure SentCommand where
  number : Nat
  cmd : Option Nat
  command : MirrorCommand
  deriving DecidableEq, Repr

/-- The part of a cut-through record that is still to be sent (R171): queue, MSN, offset in the record, bytes, and whether it ends an
Assay epoch. -/
structure CutRecord where
  queue : Nat
  msn : Nat
  offset : Nat
  data : List Byte
  epochEnd : Bool
  deriving DecidableEq, Repr

/-- A sampled read that waits at the standby for its LAST_WRITE (R185). -/
structure ShadowRead where
  addr : Nat
  len : Nat
  queue : Nat
  msn : Nat
  mac : Nat
  deriving DecidableEq, Repr

/-- A HANDOVER that the standby has not answered yet (R188). -/
structure PendingHandover where
  msns : List Nat
  epoch : Nat
  leaseLeft : Nat
  arrivedAt : Nat
  save : Bool
  deriving DecidableEq, Repr

/-- A record that the standby has not accepted yet: it is still receiving it, or an earlier MSN is missing (R170, R171). A `len` of 0 is an
MSN that counts as used (R172); `dropped` are the units that a resync has replaced since, whose part of the record is discarded (R194). -/
structure PartialRecord where
  queue : Nat
  msn : Nat
  len : Nat
  prefix_ : MirrorPrefix
  pieces : List (Nat × List Byte)
  epochEnd : Bool
  dropped : List Nat
  deriving DecidableEq, Repr

/-- An Assay epoch of a queue (R184): records so far, the CMAC state over their whole blocks with the bytes that follow, its pages, and when
it opened. -/
structure AssayEpoch where
  count : Nat
  acc : List Byte
  tail : List Byte
  pages : List Nat
  openedAt : Nat
  deriving DecidableEq, Repr

/-- A closed Assay epoch whose digest waits for the peer's, or is kept for its page list (R184). -/
structure AssayClosed where
  queue : Nat
  last : Nat
  count : Nat
  mac : Nat
  pages : List Nat
  deriving DecidableEq, Repr

/-- A running tie-break (R186): pages in question, own results and the peer's. -/
structure TieBreak where
  pages : List Nat
  mine : List (Nat × Bool)
  peers : List (Nat × Bool)
  deriving DecidableEq, Repr

/-- A yield in progress at the old active, or the takeover at the new one (Table 8-8). -/
structure Yield where
  cause : Nat
  step : Nat
  startedAt : Nat
  cmd : Option Nat
  tag : Nat
  bound : Nat
  deriving DecidableEq, Repr

/-- A resync in progress at the active (R193 to R195): FULL or DIVERGED, the number of the replayed COMMAND whose report it waits for, units
sent and not acknowledged, and the time before which MAX_GBPS lets no further unit go. -/
structure Resync where
  full : Bool
  replaying : Option Nat
  unacked : List Nat
  nextAt : Nat
  deriving DecidableEq, Repr

/-- A request packet held in the ingress buffers during a switch-over gap (R188, R191). -/
inductive Arrival where
  | cerga (opcode : Nat) (p : CergaPacket)
  | roce (p : RocePacket)
  deriving DecidableEq, Repr

/-- What the peer reports in STATUS (R169). -/
structure PeerStatus where
  d : Nat
  stage : Nat
  sync : Nat
  feedA : Nat
  feedB : Nat
  saveStep : Nat
  accepting : Bool
  fraction : Nat
  deriving DecidableEq, Repr

/-- The twin unit: the pairing with its derived keys (R166), token and lease, MSNs and records under way (R170 to R174), frames and replay
(R165, R167), commands and resync (R57, R193 to R195), Assay (R184 to R186), and the yield (R188). `credit` counts the bytes of received
frames not yet returned; `opening` says that a new holder waits for the old active, or for the registration of its epoch, to open
admission (R188, R198); `refused` is the reason the standby
last gave for a replayed command (R57); `announce` the times of announcements still to send (R190). -/
structure Twin where
  peer : Option Nat
  peerDigest : Nat
  pairKey : Nat
  holder : Bool
  recorded : Bool
  leaseEnd : Option Nat
  viewEnd : Option Nat
  lastRenewSeen : Option Nat
  sent : AMap Nat
  acked : AMap Nat
  accepted : AMap Nat
  unacked : List SentRecord
  commands : List SentCommand
  nextCommand : Nat
  cut : List CutRecord
  frame : List BrazeItem
  frameAt : Option Nat
  txSeq : Nat
  rxSeq : Nat
  replayBuf : List BrazeFrame
  credit : Nat
  txKey : Nat
  rxKey : Nat
  assayKey : Nat
  discarding : Bool
  replays : List Nat
  lastFrame : Nat
  partials : List PartialRecord
  diverged : List Nat
  localCommands : List MirrorCommand
  resync : Option Resync
  assayOpen : AMap AssayEpoch
  assayMine : List AssayClosed
  assayPeer : List (Nat × Nat × Nat × Nat)
  recent : List (Nat × Nat × Nat × Nat)
  shadows : List ShadowRead
  tie : Option TieBreak
  copying : List Nat
  yield : Option Yield
  handover : Option PendingHandover
  opening : Bool
  refused : Nat
  announce : List Nat
  stopped : Bool
  homeSince : Option Nat
  peerStatus : PeerStatus
  trainAt : Option Nat
  statusAt : Nat
  renewAt : Nat
  witnessAt : Nat
  grantAt : Nat
  cursorAt : Nat
  reads : Nat
  forcing : Option Nat
  ident : Option (List Nat)
  resyncDue : Bool
  unanswered : Bool
  ingress : List Arrival
  width : Nat
  forceTag : Nat
  quiesceAfter : Bool
  deriving DecidableEq, Repr

/-! ### Shelf -/

/-- States of an object that is not FREE (Table 10-2). -/
inductive ObjectState where
  | loading | ready | damaged | dropping
  deriving DecidableEq, Repr

/-- A shelf object (R219 to R222): tile size, HEADER, key slot, payload size, owner, tag, loaded tiles, LOAD_GEN of the reloaded
tiles, poisoned tiles, and whether the twin has a copy. -/
structure Object where
  state : ObjectState
  tileCode : Nat
  header : Bool
  key : Nat
  size : Nat
  owner : Nat
  userTag : Nat
  loaded : List Nat
  gens : AMap Nat
  poisoned : List Nat
  twinCopy : Bool
  deriving DecidableEq, Repr

/-- Tile states other than SHELF (Table 10-3). -/
inductive TileState where
  | filling | recovering | staged | evicting
  deriving DecidableEq, Repr

/-- A tile in stage (R225): object, index, state, the pages of its slot staged so far, the page a reader wants first, the pages
being recovered, its 64 KiB units of stage, POISONED, RECOVERED, its LOAD_GEN, when it was last read, whether an EVICT_BEHIND
cursor released it, and whether a RELOAD has replaced it in flash. -/
structure Tile where
  object : Nat
  index : Nat
  state : TileState
  pages : List Nat
  want : Nat
  recovering : List Nat
  units : List Nat
  poisoned : Bool
  recovered : Bool
  gen : Nat
  lastRead : Nat
  behind : Bool
  stale : Bool
  deriving DecidableEq, Repr

/-- A prefetch schedule with its cursors (R229, R230). -/
structure Schedule where
  object : Nat
  entries : List Nat
  wrap : Bool
  behind : Bool
  lookahead : Nat
  pd : Nat
  first : Nat
  positions : List Nat
  deriving DecidableEq, Repr

/-- The tier engines: objects, tiles in stage, schedules, 2 MiB units of stage, payload bytes in flash by object, and the pages asked of
the twin (object, tile, page). -/
structure Shelf where
  objects : AMap Object
  tiles : List Tile
  schedules : AMap Schedule
  stage : List Nat
  bytes : AMap Mem
  asked : List (Nat × Nat × Nat)
  deriving DecidableEq, Repr

/-! ### Metering -/

/-- A metering account IN_USE (R319). -/
structure Account where
  tenant : Nat
  closing : Bool
  deriving DecidableEq, Repr

/-- The charges of one account in one window: counters of Table 15-1 by number, and operations charged late. -/
structure Charges where
  counters : AMap Nat
  late : Nat
  deriving DecidableEq, Repr

/-- A metering window (R324): its number, its start in TAI seconds, flags of Table 15-2, samples taken, when it closed, and charges by
account. -/
structure Window where
  id : Nat
  start : Nat
  flags : Nat
  samples : Nat
  ended : Option Nat
  charges : AMap Charges
  deriving DecidableEq, Repr

/-- An export record (Table 15-2) before it has a SEQ and a phase; `seq` is filled in when it is written. -/
structure ExportRecord where
  kind : Nat
  flags : Nat
  account : Nat
  pair : Nat
  start : Nat
  tenant : Nat
  device : Nat
  seq : Nat
  late : Nat
  samples : Nat
  windows : Nat
  counters : AMap Nat
  mac : Nat
  phase : Bool
  deriving DecidableEq, Repr

/-- The set-up of one export ring (Table 15-4). -/
structure ExportSetup where
  enable : Bool
  skipIdle : Bool
  aggregate : Bool
  sink : Bool
  first : Nat
  last : Nat
  deriving DecidableEq, Repr

/-- A PD's two token buckets (R330): rates per second, bursts, and levels times 10^9, as of `at_`. -/
structure Shaper where
  opsRate : Nat
  opsBurst : Nat
  bytesRate : Nat
  bytesBurst : Nat
  ops : Int
  bytes : Int
  at_ : Nat
  deriving DecidableEq, Repr

/-- A domain aggregate that the manager sums until it is written (R329), with the FLAGS of its contributions. -/
structure Aggregate where
  tenant : Nat
  start : Nat
  counters : AMap Nat
  records : Nat
  late : Nat
  flags : Nat
  deriving DecidableEq, Repr

/-- The metering unit; `seqs` is the next SEQ of each export ring. -/
structure Meter where
  accounts : AMap Account
  current : Window
  settling : Option Window
  last : Option Window
  setups : AMap ExportSetup
  held : List (Nat × ExportRecord)
  aggregates : List Aggregate
  shapers : AMap Shaper
  seqs : AMap Nat
  deriving DecidableEq, Repr

/-- The protection unit's tables, running drains, the commands that fill a region with zeros, the grace periods that start when a
command's completion is posted (command, PD, ns), the ends of those that run by PD, and the second of the key alarm with its count and whether it was raised (R54). -/
structure Prot where
  regions : AMap Region
  extents : List Extent
  pds : AMap Pd
  bindings : AMap Bool
  drains : List Drain
  alarmSecond : Nat
  alarmCount : Nat
  alarmed : Bool
  creating : AMap Nat
  grace : List (Nat × Nat × Nat)
  graceEnds : AMap Nat
  deriving DecidableEq, Repr

/-- The request engines: admitted operations in admission order, the next operation and gather entry numbers, and requests that
wait for admission. -/
structure Engines where
  ops : List Op
  nextOp : Nat
  waiting : List Waiter
  gather : List Gather
  nextEntry : Nat
  deriving DecidableEq, Repr

/-! ### Memories -/

/-- Byte memories: DRAM by media address (as plaintext), the flash image by pair-local address (the page the journal maps), and the
poison marks of both by 64-byte chunk number, each with its cause (Table 13-3). -/
structure Memories where
  dram : Mem
  dramPoison : AMap Nat
  image : Mem
  imagePoison : AMap Nat
  deriving DecidableEq, Repr

/-! ### Premor domain -/

/-- A domain request that awaits its answer (R338): type, destination pair, MSG_ID, body fields, when it was last and first sent,
the command that waits for it, and for the manager pair the witnesses that confirmed and refused (R341). -/
structure DomainRequest where
  type : Nat
  dst : Nat
  msgId : Nat
  fields : List Nat
  sentAt : Nat
  firstAt : Nat
  cmd : Option Nat
  confirmed : List Nat
  refused : List Nat
  deriving DecidableEq, Repr

/-- A domain message as it is sent (R337, Table 16-2): its destination pair, address and UDP port, its header's fields, the body's fields,
the encrypted body and the tag. -/
structure DomainOut where
  type : Nat
  dst : Nat
  ip : Nat
  port : Nat
  pair : Nat
  side : Nat
  counter : Nat
  epoch : Nat
  msgId : Nat
  sendTime : Nat
  fields : List Nat
  cipher : List Byte
  tag : List Byte
  deriving DecidableEq, Repr

/-- An answer to one twin of a pair: its type, the pair and side that asked, the address it goes to, its MSG_ID, the epoch and the body's
fields (R338). -/
structure DomainAnswer where
  type : Nat
  dst : Nat
  side : Nat
  ip : Nat
  msgId : Nat
  epoch : Nat
  fields : List Nat
  deriving DecidableEq, Repr

/-- A witness record (R340, R341): registered epoch and holder side, mark, last confirmed renewal with its LEASE_MS, the standby's
last reported SYNC, and a provisional grant with its side and end. -/
structure WitnessRec where
  epoch : Nat
  side : Nat
  mark : Bool
  lastConfirm : Option Nat
  lease : Nat
  sync : Nat
  provisional : Option (Nat × Nat)
  deriving DecidableEq, Repr

/-- A region entry of the directory (Table 16-5). -/
structure DirEntry where
  region : Nat
  base : Nat
  size : Nat
  flags : Nat
  deriving DecidableEq, Repr

/-- A member pair in the directory's pair table (R343): identity digests, service address fields of Table 16-4 (CERGA_PORT, IPv6, IPv4,
MAC), the regions it reported by ID, the highest DIR_SEQ applied, the last PUSH_SEQ made and acknowledged, when an authenticated
message from it last arrived, and LEAVING. -/
structure Member where
  digestA : Nat
  digestB : Nat
  service : List Nat
  regions : AMap DirEntry
  applied : Nat
  pushSeq : Nat
  acked : Nat
  lastHeard : Nat
  leaving : Bool
  deriving DecidableEq, Repr

/-- A push that a member pair has not acknowledged (R347). -/
structure Push where
  pair : Nat
  seq : Nat
  opcode : Nat
  params : List Nat
  cmd : Option Nat
  sent : Bool
  deriving DecidableEq, Repr

/-- The domain unit; `pushing` is the answer owed to a push that drains at a worker, `joinLeft` the catch-up
pushes a JOIN still waits for, `joinOldIp` the manager address before it, `reportAt` when the next STATUS_REPORT is due, `waiting`
the answers that wait for their mirror record (MSN of queue 0), `registered` the witnesses that hold the current epoch. -/
structure Domain where
  counter : Nat
  nextMsg : Nat
  requests : List DomainRequest
  answered : List DomainAnswer
  witnesses : List Nat
  registered : List Nat
  records : AMap WitnessRec
  members : AMap Member
  version : Nat
  heldRegions : List (Nat × Nat)
  outbox : List (Nat × Nat × DirEntry)
  dirSeq : Nat
  dirFull : Bool
  unlisted : Nat
  pushes : List Push
  lastPush : Nat
  pushResults : List (Nat × Nat)
  lastAnswer : Option Nat
  joinCmd : Option Nat
  joinAt : Option Nat
  leaveCmd : Option Nat
  domainKey : Nat
  newWitnesses : List Nat
  pushing : Option DomainAnswer
  joinLeft : Option Nat
  joinOldIp : List Nat
  reportAt : Nat
  waiting : List (Nat × DomainAnswer)
  deriving DecidableEq, Repr

/-! ### Crucible -/

/-- A committed key slot (R361, R362): type of Table 17-3, EXPORTABLE, the key, its generation, DESTROYING, the counter of
GCM_ENC (R369), and for a TENANT slot the two XTS key pairs, data key in the low 256 bits and tweak key above (R368). -/
structure KeySlot where
  type : Nat
  exportable : Bool
  key : Nat
  gen : Nat
  destroying : Bool
  counter : Nat
  xtsDram : Nat
  xtsFlash : Nat
  deriving DecidableEq, Repr

/-- A CIPHER_OP context (R373, Table 17-7): mode of Table 17-9, slot and its generation, bytes and AAD bytes processed,
initialisation vector as a big-endian number, the next block counter, the 16 bytes of the GHASH or CMAC accumulator, and an incomplete
block. -/
structure CipherContext where
  mode : Nat
  slot : Nat
  gen : Nat
  bytes : Nat
  aad : Nat
  iv : Nat
  block : Nat
  acc : List Byte
  part : List Byte
  deriving DecidableEq, Repr

/-- Crucible (R356 to R374): the media root key (0 = none), the media key with its XTS key pairs as slot 0 has them, the ephemeral DRAM key,
the table key, the slots, the next slot generation, contexts, and the old table keys that the keeper is still to erase. -/
structure Crucible where
  mediaRoot : Nat
  mediaKey : Nat
  mediaDram : Nat
  mediaFlash : Nat
  dramKey : Nat
  tableKey : Nat
  slots : AMap KeySlot
  nextGen : Nat
  contexts : AMap CipherContext
  erasing : List Nat
  deriving DecidableEq, Repr
/-! ### Pace and ports -/

/-- A pace monitor that has been read: it is held out as implausible, and its consecutive plausible readings since (R22). -/
structure Monitor where
  out : Bool
  plausible : Nat
  deriving DecidableEq, Repr

/-- The voltage loop (R22 to R30): monitors, consecutive periods at 1.04 of the target and at F = 1 after a shortfall, whether
PACE_SHORT, the event AT_CEILING and the event for too few monitors stand, AVSBus failures in a row, the next AVS retry, and the PACE_CTRL fields
(VMAX_MV, MARGIN_PCT, PACED_PCT) with the configured rate C of R24 that stand for the rest of a save (R26, R466). -/
structure Pace where
  monitors : AMap Monitor
  above : Nat
  fullFor : Nat
  short : Bool
  ceiling : Bool
  few : Bool
  avsFails : Nat
  retryAt : Option Nat
  held : Option (Nat × Nat × Nat × Nat)
  automatic : Bool
  deriving DecidableEq, Repr

/-- A port beside its registers (R25, R469, R473): BREAKOUT, MEDIA and FEC_LL as read at the last enable, LINK by sub-port, the end of
the wait for admission with the target it waits for, link changes that are reported after a gap, and the bytes of other traffic that
its ingress buffer held when the newest request packet arrived. -/
structure Port where
  queued : Nat
  breakout : Nat
  media : Nat
  fecLl : Nat
  links : AMap Nat
  opensAt : Option Nat
  target : Nat
  unreported : List (Nat × Nat)
  deriving DecidableEq, Repr

/-- The ports and the request packets that their ingress buffers hold (R25, R29, R331), in arrival order. -/
structure Ports where
  port : AMap Port
  waiting : List Arrival
  deriving DecidableEq, Repr

/-! ### DRAM, flash and SRAM -/

/-- A DRAM channel in service (R253, R255, R257): its interval follows the range above 85 °C, its column commands are halved, when its
sensors last answered, whether DRAM.THERMAL for their silence stands, the least number of spare rows at the start, and spare rows
used by rank and bank group. -/
structure DramChannel where
  hot : Bool
  throttled : Bool
  answered : Nat
  silent : Bool
  spare : Nat
  used : AMap Nat
  deriving DecidableEq, Repr

/-- An entry of the log of uncorrectable errors (R258): media address, the fields of DRAM_UE_LOG_LOC, and TAI. -/
structure DramError where
  addr : Nat
  loc : Nat
  tai : Nat
  deriving DecidableEq, Repr

/-- The DRAM unit: channels in service at this start in the order R245 counts them, the grain in use, the capacity of one channel,
last refresh by bank, correctable errors of the last 24 h by row, rows under soft repair and whether a save waits, the hPPR queue, the error log, and
uncorrectable errors of the last second by channel. -/
structure Dram where
  channels : AMap DramChannel
  order : List Nat
  grain : Nat
  gib : Nat
  refreshed : AMap Nat
  rows : AMap (List Nat)
  repairing : List Nat
  hppr : List Nat
  log : List DramError
  ueTimes : AMap (List Nat)
  deriving DecidableEq, Repr

/-- A flash die (R142, R272, R280): times of its failures of the last hour, the program times of the last 10 s with their stamps, and how
often reads have suspended the erase that it has begun. -/
structure FlashDie where
  failures : List Nat
  programs : List (Nat × Nat)
  suspended : Nat
  deriving DecidableEq, Repr

/-- A block of the log: its erase count, whether ERASE_OPEN stands without ERASE_DONE, whether it is retired, and the multi-plane programs
it has taken since its erase (R278, R279). -/
structure BlockState where
  erases : Nat
  eraseOpen : Bool
  retired : Bool
  programs : Nat
  deriving DecidableEq, Repr

/-- What the metadata of a logical page's codeword holds beside its address (R266): the key slot and slot generation its payload is encrypted
under (R368), the integrity tag, and the log sequence; `place` is the block it was programmed into, where a command has named it. -/
structure Codeword where
  key : Nat
  gen : Nat
  tag : Nat
  seq : Nat
  place : Option Nat
  deriving DecidableEq, Repr

/-- The flash unit: dies by channel × 16 + die, dies per channel, raw die capacity in GiB, blocks per die, blocks of the log, erased
pool and log reserve in bytes of payload, spare blocks left and at the beginning, logical pages whose codeword is
lost, pages decoded at steps 3 and 4 with the end of Anneal's 10 s, entries in the journal area, the last checkpoint, and whether a program waits at
the floor, which warnings stand, the blocks the sweep of a return has erased, the codeword that the journal maps each logical page address to
(R268) with the next log sequence, the parity groups of 16 dies with the hot spares left over (R267), and blocks that a save has failed to
program and that retire after it (Table 12-5). -/
structure Flash where
  dies : AMap FlashDie
  perChannel : Nat
  dieGib : Nat
  blocksPerDie : Nat
  blocks : AMap BlockState
  erased : Nat
  reserve : Nat
  spares : Nat
  sparesAtFirst : Nat
  lost : List FlashPage
  relocate : List (FlashPage × Nat)
  journal : Nat
  checkpointAt : Nat
  waiting : Bool
  lowSpares : Bool
  enduranceWarned : Bool
  wornOut : Bool
  swept : List Nat
  codewords : AMap Codeword
  logSeq : Nat
  groups : List (List Nat)
  spareDies : List Nat
  failed : List Nat
  deriving DecidableEq, Repr

/-- What an allocating memory or the near cache no longer uses (R298): the memory (0 gather buffer, 1 Cerga and 2 QP context cache, 4 near
cache, 16 + n reorder store of engine n), the row or the way, and whether that outlasts the next start. -/
structure RowOff where
  memory : Nat
  row : Nat
  lasting : Bool
  deriving DecidableEq, Repr

/-- The integrity unit: correctable errors of the last 24 h by SRAM row, table entries that are being reloaded (kind and index), DRAM chunks
under the repair of R294, table entries whose reload failed (R287), and what field repair has taken out of use (R298). -/
structure Integ where
  rows : AMap (List Nat)
  reloading : List (Nat × Nat)
  fixing : List Nat
  failed : List (Nat × Nat)
  off : List RowOff
  deriving DecidableEq, Repr


/-! ### What the chip sends -/

/-- An entry of a ring that the H9 writes. -/
inductive RingEntry where
  | completion (c : Completion)
  | event (e : EventRecord)
  | export_ (e : ExportRecord)
  deriving DecidableEq, Repr

/-- A packet to a Cerga client (R88, Table 5-2): destination, source UDP port, whether the UDP checksum is computed, ECN codepoint,
header fields with `nonce` as R91 builds it, the payload, and the ciphertext and tag that it travels as (R89). -/
structure CergaReply where
  dest : Reply
  srcPort : Nat
  summed : Bool
  ecn : Nat
  opcode : Nat
  epoch : Nat
  queue : Nat
  seq : Nat
  incarnation : Nat
  status : Nat
  credit : Nat
  nonce : Nat
  info : Nat
  last : Bool
  ece : Bool
  payload : List Byte
  cipher : List Byte
  tag : List Byte
  deriving DecidableEq, Repr

/-- A packet to a RoCEv2 requester (R124, R130): destination, BTH opcode, PSN, AETH syndrome where it has one, payload. -/
structure RoceReply where
  dip : Nat
  dqpn : Nat
  tclass : Nat
  flow : Nat
  hop : Nat
  port : Nat
  bth : Nat
  psn : Nat
  syndrome : Option Nat
  payload : List Byte
  deriving DecidableEq, Repr

/-- Everything the chip sends to the outside, in order. -/
inductive Out where
  | ringEntry (kind : RingKind) (ring index : Nat) (entry : RingEntry)
  | msix (vector addr data : Nat)
  | hostWrite (addr : Nat) (bytes : List Byte)
  | pmbusOperation (rail : Nat) (on : Bool)
  | avsVoltage (mv : Nat)
  | announce (port : Nat) (ipv6 : Bool) (vlan : Option (Nat × Nat))
  | arpReply (port mac addr : Nat)
  | mgmtBusReleased
  | pfcPause (port prio : Nat)
  | cerga (r : CergaReply)
  | roce (r : RoceReply)
  | domain (m : DomainOut)
  | ptpAnnounce (domain clockClass utc : Nat) (leap : Bool)
  | brazeFrame (f : BrazeFrame)
  | brazeIdent (digest side pair tokenEpoch linkEpoch : Nat)
  deriving DecidableEq, Repr

/-- What DBG1's metadata trace holds (Table 18-5): a packet's header and address, an operation's PD and status, a command descriptor. -/
inductive TraceItem where
  | packet (port opcode source seq addr len : Nat)
  | status (pd opcode status : Nat)
  | command (ring opcode tag : Nat)
  deriving DecidableEq, Repr

/-! ### How a step may stop -/

/-- Faults of a step. The block has none: every command has an effect or changes nothing, so this type is empty and no step
can fault (safe: nothing is cut short). -/
inductive Fault where
  deriving DecidableEq, Repr

/-- Refusals of a step. -/
inductive Refusal where
  /-- A command that the model does not give a meaning; raised by `exec`'s refused arms only. Safe: the machine stops. -/
  | notModelled (mnemonic : String)
  deriving DecidableEq, Repr

/-! ### The whole -/

/-- Everything one H9 holds. `regs` is the register file, keyed by `Fld.key`; `captures` the upper halves R464 holds per
path; `out` what the chip has sent, oldest first; `free` counts the free values used; `pending` is the queue of commands. -/
structure State where
  regs : AMap Nat
  captures : AMap Nat
  keyRegs : AMap Nat
  time : TimeUnit
  hub : Hub
  rings : AMap RingUnit
  msix : AMap MsixEntry
  cmds : List Cmd
  nextCmd : Nat
  rrNext : Nat
  armedEnd : Option Nat
  keeper : Keeper
  fw : Firmware
  start : Start
  save : Save
  prot : Prot
  eng : Engines
  near : Near
  dur : Durability
  ledger : Ledger
  cerga : Cerga
  roce : Roce
  twin : Twin
  shelf : Shelf
  meter : Meter
  mem : Memories
  domain : Domain
  crypt : Crucible
  out : List Out
  pace : Pace
  ports : Ports
  dram : Dram
  flash : Flash
  integ : Integ
  trace : List TraceItem
  free : Nat
  pending : List Instr
  deriving DecidableEq, Repr

/-! ### Reset (assumption logs 1 and 2)

The state before VK_3V3 rises (R449). The register file lists nothing: each register stands at its value after reset. -/

/-- The part of the reset state that `TimeUnit` holds. -/
def TimeUnit.reset : TimeUnit :=
  { count := 0, tai := 0, second := 0, holdover := false, onDdrClock := false, pulseEnd := none, lastPps := none, stepped :=
    false, goodSince := none, lastSync := none }

/-- The part of the reset state that `Hub` holds. -/
def Hub.reset : Hub :=
  { tracks := [], held := [], nextId := 0 }

/-- The part of the reset state that `Feed` holds. -/
def Feed.reset : Feed :=
  { returnEnd := none, wasOk := false, badEn := false }

/-- The part of the reset state that `HoldupTest` holds. -/
def HoldupTest.reset : HoldupTest :=
  { v0 := 0, v1 := 0, v1At := 0, esr := 0, lastValid := none, nextDue := 0, retryAt := none, pulses := [], lastPulse := 0,
    lastGood := 0, stale := false, stopped := false }

/-- The part of the reset state that `WindowPath` holds. -/
def WindowPath.reset : WindowPath :=
  { page := 0, writes := [], lastWrite := 0, busy := false, op := 0, error := 0 }

/-- The part of the reset state that `KFlash` holds. -/
def KFlash.reset : KFlash :=
  { words := [], sectors := [], ops := [], pcie := WindowPath.reset, mgmt := WindowPath.reset, log := [], ram := [], flood :=
    none, nextSeq := 0, tokens := 256000000000, tokensAt := 0, counters := [], retries := [], settings := [], pendingErase :=
    [], logSectors := [], warned := false, romRecovery := false }

/-- The part of the reset state that `Keeper` holds. -/
def Keeper.reset : Keeper :=
  { rails := [], feedA := Feed.reset, feedB := Feed.reset, feedHold := false, onSecondary := false, holdup :=
    HoldupTest.reset, retryAt := none, holdEnd := none, waitStart := false, hourAt := 0, mismatch := false, abortShutdown :=
    false, startVEnd := none, keepAfter := false, powered := false, stopped := false, fifoOut := [], staging := [], mboxI3c :=
    false, mboxAddr := 0, thermDriven := false, thermInput := false, thermAt := none, outputs := [], inputs := [], clocksLost
    := [], vddMv := 760, flash := KFlash.reset, prevStraps := none, ownerDigest := 0, deferred := none,
    debugEnd := none, testEnd := none, railCfg := [], indFault := none }

/-- The part of the reset state that `Firmware` holds. -/
def Firmware.reset : Firmware :=
  { slotA := none, slotB := none, measured := [], coreRestarts := [], trialEnd := none }

/-- The part of the reset state that `Start` holds. -/
def Start.reset : Start :=
  { step := 0, quenchEnd := 0, dramDone := false, fwDone := false, tablesDone := false, keysDone := false, ledgerOk := false,
    prevChannels := [], units := [], admitted := false, presented := false, lost := [], twinPages := [] }

/-- The part of the reset state that `Save` holds. -/
def Save.reset : Save :=
  { active := false, step := 0, trigger := 0, action := .keep, startedAt := 0, onBank := false, change := none, activate :=
    none, intent := [], intentWritten := false, lastStep := 0, incomplete := false, bankMv := 0, records := [] }

/-- The part of the reset state that `Prot` holds. -/
def Prot.reset : Prot :=
  { regions := [], extents := [], pds := [], bindings := [], drains := [], alarmSecond := 0, alarmCount := 0, alarmed := false, creating := [],
    grace := [], graceEnds := [] }

/-- The part of the reset state that `Engines` holds. -/
def Engines.reset : Engines :=
  { ops := [], nextOp := 0, waiting := [], gather := [], nextEntry := 0 }

/-- The part of the reset state that `Near` holds. -/
def Near.reset : Near :=
  { ways := [], lru := [], victims := [], misses := [], locks := [], reenable := false, loading := [], retired := [] }

/-- The part of the reset state that `Durability` holds. -/
def Durability.reset : Durability :=
  { dirty := [], prevInputs := (0, 0, 0), peaks := [], below := [], map := [], throttleFrom := none, nextBudget := 0
    dieMeans := [], savedMeans := [], senseLost := false }

/-- The part of the reset state that `Ledger` holds. -/
def Ledger.reset : Ledger :=
  { records := [], saveSeq := 0, lost := false, presented := false, superseded := false, releaseAt := none }

/-- The part of the reset state that `Cerga` holds. -/
def Cerga.reset : Cerga :=
  { queues := [], destroyed := [], streams := [], cache := [], lookaside := [], fetching := [], held := [], base := 0, alarmSecond := 0,
    alarmCount := 0, alarmed := false }

/-- The part of the reset state that `Roce` holds. -/
def Roce.reset : Roce :=
  { qps := [], cache := [], parked := [], saved := [] }

/-- The part of the reset state that `PeerStatus` holds. -/
def PeerStatus.reset : PeerStatus :=
  { d := 0, stage := 0, sync := 1, feedA := 0, feedB := 0, saveStep := 0, accepting := false, fraction := 0 }

/-- The part of the reset state that `Twin` holds. -/
def Twin.reset : Twin :=
  { peer := none, peerDigest := 0, pairKey := 0, holder := false, recorded := false, leaseEnd := none, viewEnd := none, lastRenewSeen := none,
    sent := [], acked := [], accepted := [], unacked := [], commands := [], nextCommand := 0, cut := [], frame := [], frameAt := none,
    txSeq := 0, rxSeq := 0, replayBuf := [], credit := 0, txKey := 0, rxKey := 0, assayKey := 0, discarding := false, replays := [], lastFrame := 0, partials := [], diverged := [], localCommands := [], resync :=
    none, assayOpen := [], assayMine := [], assayPeer := [], recent := [], shadows := [], tie := none, copying := [], yield := none, handover := none,
    opening := false, refused := 0, announce := [], stopped := false, homeSince := none, peerStatus := PeerStatus.reset, trainAt := none, statusAt := 0, renewAt := 0, witnessAt := 0,
    grantAt := 0, cursorAt := 0, reads := 0, forcing := none, ident := none, resyncDue := false, unanswered := false, ingress
    := [], width := 0, forceTag := 0, quiesceAfter := false }

/-- The part of the reset state that `Shelf` holds. -/
def Shelf.reset : Shelf :=
  { objects := [], tiles := [], schedules := [], stage := [], bytes := [], asked := [] }

/-- The part of the reset state that `Window` holds. -/
def Window.reset : Window :=
  { id := 0, start := 0, flags := 0, samples := 0, ended := none, charges := [] }

/-- The part of the reset state that `Meter` holds. -/
def Meter.reset : Meter :=
  { accounts := [], current := Window.reset, settling := none, last := none, setups := [], held := [], aggregates := [],
    shapers := [], seqs := [] }

/-- The part of the reset state that `Memories` holds. -/
def Memories.reset : Memories :=
  { dram := [], dramPoison := [], image := [], imagePoison := [] }

/-- The part of the reset state that `Domain` holds. -/
def Domain.reset : Domain :=
  { counter := 0, nextMsg := 1, requests := [], answered := [], witnesses := [], registered := [], records := [], members :=
    [], version := 0, heldRegions := [], outbox := [], dirSeq := 0, dirFull := false, unlisted := 0, pushes := [], lastPush :=
    0, pushResults := [], lastAnswer := none, joinCmd := none, joinAt := none, leaveCmd := none, domainKey := 0, newWitnesses
    := [], pushing := none, joinLeft := none, joinOldIp := [], reportAt := 0, waiting := [] }

/-- The part of the reset state that `Crucible` holds. -/
def Crucible.reset : Crucible :=
  { mediaRoot := 0, mediaKey := 0, mediaDram := 0, mediaFlash := 0, dramKey := 0, tableKey := 0, slots := [], nextGen := 1, contexts := [], erasing := [] }

/-- The part of the reset state that `Pace` holds. -/
def Pace.reset : Pace :=
  { monitors := [], above := 0, fullFor := 0, short := false, ceiling := false, few := false, avsFails := 0, retryAt := none,
    held := none, automatic := false }

/-- The part of the reset state that `Ports` holds. -/
def Ports.reset : Ports :=
  { port := [], waiting := [] }

/-- The part of the reset state that `Dram` holds. -/
def Dram.reset : Dram :=
  { channels := [], order := [], grain := 0, gib := 0, refreshed := [], rows := [], repairing := [], hppr := [], log := [],
    ueTimes := [] }

/-- The part of the reset state that `Flash` holds. -/
def Flash.reset : Flash :=
  { dies := [], perChannel := 0, dieGib := 0, blocksPerDie := 0, blocks := [], erased := 0, reserve := 0, spares := 0,
    sparesAtFirst := 0, lost := [], relocate := [], journal := 0, checkpointAt := 0, waiting := false, lowSpares := false,
    enduranceWarned := false, wornOut := false, swept := [], codewords := [], logSeq := 0, groups := [], spareDies := [], failed := [] }

/-- The part of the reset state that `Integ` holds. -/
def Integ.reset : Integ :=
  { rows := [], reloading := [], fixing := [], failed := [], off := [] }

/-- The H9 before its keeper has power: every register stands at its value after reset, nothing is stored or configured, and no command waits. -/
def State.reset : State :=
  { regs := [], captures := [], keyRegs := [], time := TimeUnit.reset, hub := Hub.reset, rings := [], msix := [], cmds := [],
    nextCmd := 0, rrNext := 0, armedEnd := none, keeper := Keeper.reset, fw := Firmware.reset, start := Start.reset, save :=
    Save.reset, prot := Prot.reset, eng := Engines.reset, near := Near.reset, dur := Durability.reset, ledger := Ledger.reset,
    cerga := Cerga.reset, roce := Roce.reset, twin := Twin.reset, shelf := Shelf.reset, meter := Meter.reset, mem :=
    Memories.reset, domain := Domain.reset, crypt := Crucible.reset, out := [], pace := Pace.reset, ports := Ports.reset, dram
    := Dram.reset, flash := Flash.reset, integ := Integ.reset, trace := [], free := 0, pending := [] }


end Sys2Proof.Machine
end

