-- ==== Sys2Proof/Machine/Ops.lean ====
section
/-! DEFINITION. The named operations every meaning is built from: register fields, free values, output, the event hub with its
repeats and storm limits, and the rings the H9 writes. -/

namespace Sys2Proof.Machine

open Sys2Proof

/-! ### Register fields -/

/-- Field `f` of instance `n` of its series. -/
def State.rdN (s : State) (f : Fld) (n : Nat) : Nat := (AMap.get? s.regs (f.key n)).getD (f.reset n)

/-- Field `f` of a register that stands alone. -/
def State.rd (s : State) (f : Fld) : Nat := s.rdN f 0

/-- Whether a one-bit field is set. -/
def State.on (s : State) (f : Fld) : Bool := s.rdN f 0 == 1

/-- Stores `v`, cut to the field's width; the value after reset is stored by leaving the field unlisted. -/
def State.wrN (s : State) (f : Fld) (n v : Nat) : State :=
  let v := v % 2 ^ f.width
  if v = f.reset n then { s with regs := AMap.del s.regs (f.key n) }
  else { s with regs := AMap.set s.regs (f.key n) v }

/-- `wrN` for a register that stands alone. -/
def State.wr (s : State) (f : Fld) (v : Nat) : State := s.wrN f 0 v

/-- Sets or clears a one-bit field. -/
def State.flag (s : State) (f : Fld) (b : Bool) : State := s.wrN f 0 (if b then 1 else 0)

/-- Adds `k` to a counter, modulo its width. -/
def State.bump (s : State) (f : Fld) (k : Nat) : State := s.wrN f 0 (s.rdN f 0 + k)

/-- Adds `k` to a counter that saturates at the width of its field. -/
def State.bumpSat (s : State) (f : Fld) (n k : Nat) : State := s.wrN f n (min (2 ^ f.width - 1) (s.rdN f n + k))

/-- The value a field is written with, cut to its width: a value outside the range moves under R6. `lower` is the value of
the field that an `atLeast` bound refers to. -/
def Fld.fixed (f : Fld) (lower v : Nat) : Nat :=
  match f.fix with
  | .none => v
  | .clamp lo hi => clampTo lo hi v
  | .codes mx d => if mx < v then d else v
  | .zeroOr lo hi => if v = 0 then 0 else clampTo lo hi v
  | .atLeast _ lo hi => clampTo (max lo lower) hi v

/-! ### Free values, output, time -/

/-- A fresh free value of `bits` bits (assumption log 6). -/
def State.fresh (s : State) (bits : Nat) : Nat × State :=
  (Config.freeValue s.free % 2 ^ bits, { s with free := s.free + 1 })

/-- Sends something to the outside. -/
def State.send (s : State) (o : Out) : State := { s with out := s.out ++ [o] }

/-- The unstepped count in ns (R351). -/
def State.now (s : State) : Nat := s.time.count

/-- Nanoseconds in a microsecond, a millisecond and a second. -/
def us (n : Nat) : Nat := n * 1000
@[inherit_doc us] def ms (n : Nat) : Nat := n * 1000000
@[inherit_doc us] def sec (n : Nat) : Nat := n * 1000000000

/-- Whether a deadline has been reached; `none` has not. -/
def due (now : Nat) : Option Nat → Bool
  | some t => decide (t ≤ now)
  | none => false

/-- The time unit gives valid TAI: SYNCED, or holdover (R480). -/
def State.timeValid (s : State) : Bool := s.on R.DOMAIN_TIME_STATUS_SYNCED || s.time.holdover

/-- TAI nanoseconds for a record, or 0 where the time is not valid (R480). -/
def State.taiStamp (s : State) : Nat := if s.timeValid then s.time.tai else 0

/-! ### Power and life-cycle codes -/

/-- The core die is powered: the keeper's sequencer is ON or in SAVE (R9). -/
def State.coreOn (s : State) : Bool :=
  s.rd R.KEEPER_STATUS_SEQ_STATE == 2 || s.rd R.KEEPER_STATUS_SEQ_STATE == 3

/-- The life-cycle state is IN_SERVICE (Table 18-1). -/
def State.inService (s : State) : Bool := s.rd R.LIFE_STATE_LIFECYCLE == 2

/-- Adds to DBG1's trace buffer of 4 MiB, which keeps the newest 65,536 items of 64 bytes (R384, assumption log 204). -/
def State.note (s : State) (x : TraceItem) : State :=
  if s.rd R.LIFE_STATE_DEBUG = 1 then { s with trace := (s.trace ++ [x]).drop (s.trace.length + 1 - 65536) } else s

/-! ### Keeper log intake (R427, R428) -/

/-- Packs DETAIL as R480 lays it out: each value in its number of bytes, in order. -/
def detailOf (vs : List (Nat × Nat)) : Nat := pack vs

/-- DETAIL of an event a command raised: the values in bytes 0 to 3, the TAG in bytes 4 to 11 (R480). -/
def detailTag (vs : List (Nat × Nat)) (tag : Nat) : Nat := pack vs % 2 ^ 32 + 2 ^ 32 * (tag % 2 ^ 64)

/-- The TIME code of a log record (Table 20-4). -/
def State.logTime (s : State) : Nat := if s.on R.DOMAIN_TIME_STATUS_SYNCED then 1 else if s.time.tai = 0 then 0 else 2

/-- A new record for the keeper log, before it has a SEQ. -/
def State.newLogRecord (s : State) (kind source sev detail base : Nat) (cont core : Bool) : LogRecord :=
  { seq := 0, kind, severity := sev, source, opHours := (AMap.get? s.keeper.flash.counters 1).getD 0,
    cycles := (AMap.get? s.keeper.flash.counters 2).getD 0, tai := if s.logTime = 0 then 0 else s.time.tai,
    time := s.logTime, continued := cont, fromCore := core, onHoldup := false, repeatBase := base, detail, slots := [] }

/-- Puts a record in the RAM ring of 256; an event that finds it full is dropped and counted (R428). A counter record is not
subject to the limit (R428). -/
def State.queueLog (s : State) (r : LogRecord) : State :=
  if r.kind = 1 && decide (256 ≤ s.keeper.flash.ram.length) then
    let c := (AMap.get? s.keeper.flash.counters 8).getD 0 + 1
    { s.bumpSat R.KEEPER_LOG_STATUS_DROPPED 0 1 with keeper.flash.counters := AMap.set s.keeper.flash.counters 8 c }
  else { s with keeper.flash.ram := s.keeper.flash.ram ++ [r] }

/-- Sets a counter of Table 20-3 and queues its record of KIND 2 (R425). -/
def State.setCounter (s : State) (id v : Nat) : State :=
  let s := { s with keeper.flash.counters := AMap.set s.keeper.flash.counters id v }
  s.queueLog (s.newLogRecord 2 id 0 v 0 false false)

/-- The value of a counter of Table 20-3. -/
def State.counter (s : State) (id : Nat) : Nat := (AMap.get? s.keeper.flash.counters id).getD 0

/-- The keeper takes one occurrence of an event: a repeat of the newest event record within 10 s is only counted, anything
else becomes a new record (R427), unless the RAM ring is full (R428). -/
def State.keeperLog (s : State) (source sev detail : Nat) (core : Bool) : State :=
  let detail := detail % 2 ^ 96
  let fresh (s : State) : State :=
    let full := decide (256 ≤ s.keeper.flash.ram.length)
    let s := s.queueLog (s.newLogRecord 1 source sev detail 1 false core)
    if full then s else
      { s with keeper.flash.flood := some ⟨source, detail, sev, core, s.now, 1, 0, false, s.now⟩ }
  match s.keeper.flash.flood with
  | some f =>
    if f.source = source ∧ f.detail = detail ∧ s.now ≤ f.last + sec 10 then
      { s with keeper.flash.flood := some { f with last := s.now, count := f.count + 1, unwritten := true } }
    else fresh s
  | none => fresh s

/-! ### Rings the H9 writes (R304, R314) -/

/-- The number under which a ring's unit state is held. -/
def ringKey (k : RingKind) (n : Nat) : Nat :=
  (match k with | .cmd => 0 | .cpl => 64 | .ev => 128 | .ex => 192) + n

/-- How many rings of a kind there are (Table 14-1). -/
def ringCount : RingKind → Nat
  | .cmd => 64 | .cpl => 64 | .ev => 8 | .ex => 4

/-- Unit state of a ring that has not been used. -/
def ringIdle : RingUnit := ⟨true, 0, none, 0, false⟩

def State.ringUnit (s : State) (k : RingKind) (n : Nat) : RingUnit := (AMap.get? s.rings (ringKey k n)).getD ringIdle

def State.setRingUnit (s : State) (k : RingKind) (n : Nat) (u : RingUnit) : State :=
  { s with rings := AMap.set s.rings (ringKey k n) u }

/-- RING_k_STATUS.STATE by kind (Table 23-5). -/
def fState : RingKind → Fld
  | .cmd => R.RING_CMD_STATUS_STATE | .cpl => R.RING_CPL_STATUS_STATE
  | .ev => R.RING_EV_STATUS_STATE | .ex => R.RING_EX_STATUS_STATE
def fDbErr : RingKind → Fld
  | .cmd => R.RING_CMD_STATUS_DB_ERR | .cpl => R.RING_CPL_STATUS_DB_ERR
  | .ev => R.RING_EV_STATUS_DB_ERR | .ex => R.RING_EX_STATUS_DB_ERR
def fEnable : RingKind → Fld
  | .cmd => R.RING_CMD_CFG_ENABLE | .cpl => R.RING_CPL_CFG_ENABLE
  | .ev => R.RING_EV_CFG_ENABLE | .ex => R.RING_EX_CFG_ENABLE
def fSize : RingKind → Fld
  | .cmd => R.RING_CMD_CFG_SIZE_LOG2 | .cpl => R.RING_CPL_CFG_SIZE_LOG2
  | .ev => R.RING_EV_CFG_SIZE_LOG2 | .ex => R.RING_EX_CFG_SIZE_LOG2
def fBase : RingKind → Fld
  | .cmd => R.RING_CMD_BASE_ADDR | .cpl => R.RING_CPL_BASE_ADDR
  | .ev => R.RING_EV_BASE_ADDR | .ex => R.RING_EX_BASE_ADDR
def fH9Index : RingKind → Fld
  | .cmd => R.RING_CMD_PTRS_H9_INDEX | .cpl => R.RING_CPL_PTRS_H9_INDEX
  | .ev => R.RING_EV_PTRS_H9_INDEX | .ex => R.RING_EX_PTRS_H9_INDEX
def fHostIndex : RingKind → Fld
  | .cmd => R.RING_CMD_PTRS_HOST_INDEX | .cpl => R.RING_CPL_PTRS_HOST_INDEX
  | .ev => R.RING_EV_PTRS_HOST_INDEX | .ex => R.RING_EX_PTRS_HOST_INDEX
/-- VECTOR; a command ring has none, and its field is not used. -/
def fVector : RingKind → Fld
  | .ev => R.RING_EV_CFG_VECTOR | .ex => R.RING_EX_CFG_VECTOR | _ => R.RING_CPL_CFG_VECTOR
def fCoalCount : RingKind → Fld
  | .ev => R.RING_EV_COAL_COUNT | .ex => R.RING_EX_COAL_COUNT | _ => R.RING_CPL_COAL_COUNT
def fCoalUs : RingKind → Fld
  | .ev => R.RING_EV_COAL_US | .ex => R.RING_EX_COAL_US | _ => R.RING_CPL_COAL_US

/-- Entries of a ring: 2^SIZE_LOG2. -/
def State.ringSize (s : State) (k : RingKind) (n : Nat) : Nat := 2 ^ s.rdN (fSize k) n

/-- A ring the H9 writes is full when its tail is one entry behind the host's head (R304). -/
def State.ringFull (s : State) (k : RingKind) (n : Nat) : Bool :=
  (s.rdN (fH9Index k) n + 1) % s.ringSize k n == s.rdN (fHostIndex k) n

/-- Entries the H9 may still write before the ring is full. -/
def State.ringRoom (s : State) (k : RingKind) (n : Nat) : Nat :=
  (s.rdN (fHostIndex k) n + s.ringSize k n - s.rdN (fH9Index k) n - 1) % s.ringSize k n

/-- STATE codes: 0 DISABLED, 1 ENABLED, 2 DRAINING, 3 ERROR. -/
def State.ringState (s : State) (k : RingKind) (n : Nat) : Nat := s.rdN (fState k) n

/-- Sends a vector's message for ring `ring`, or sets its pending bit while it is masked; one message serves the signals of every other
ring on the vector within 1 µs (R314, R472). -/
def State.signalVector (s : State) (v ring : Nat) : State :=
  let e := (AMap.get? s.msix v).getD ⟨0, 0, true, false, none⟩
  let served : Bool := match e.sent with
    | some (t, r) => decide (s.now < t + us 1) && r != ring
    | none => false
  if e.masked then { s with msix := AMap.set s.msix v { e with pending := true } }
  else if served then s
  else ({ s with msix := AMap.set s.msix v { e with sent := some (s.now, ring) } }).send (.msix v e.addr e.data)

/-- A ring signals: the count and the timer start again (R314). -/
def State.signalRing (s : State) (k : RingKind) (n : Nat) : State :=
  (s.setRingUnit k n { s.ringUnit k n with fresh := 0, timer := none }).signalVector (s.rdN (fVector k) n) (ringKey k n)

/-- Writes one entry at the ring's tail with the phase of the pass, advances the tail, and applies the coalescing of R314. A
`quiet` entry (NO_IRQ) neither counts nor starts the timer. -/
def State.ringWrite (s : State) (k : RingKind) (n : Nat) (quiet : Bool) (mk : Bool → RingEntry) : State :=
  let u := s.ringUnit k n
  let i := s.rdN (fH9Index k) n
  let j := (i + 1) % s.ringSize k n
  let s := (s.send (.ringEntry k n i (mk u.phase))).wrN (fH9Index k) n j
  let u := { u with phase := if j = 0 then !u.phase else u.phase }
  if quiet then s.setRingUnit k n u
  else
    let u := { u with fresh := u.fresh + 1, timer := some (u.timer.getD (s.now + us (s.rdN (fCoalUs k) n))) }
    let s := s.setRingUnit k n u
    if s.rdN (fCoalCount k) n ≤ u.fresh || s.rdN (fCoalUs k) n == 0 then s.signalRing k n else s

/-! ### The event hub (R481 to R485) -/

/-- A source that has raised nothing yet. -/
def trackIdle : SourceTrack := ⟨none, 0, 0, false, 0, false, 0, 0, 0, 0, 0, false, 0, false, false⟩

def State.track (s : State) (src : Nat) : SourceTrack := (AMap.get? s.hub.tracks src).getD trackIdle

def State.setTrack (s : State) (src : Nat) (t : SourceTrack) : State :=
  { s with hub.tracks := AMap.set s.hub.tracks src t }

/-- Whether a record of this source may be written now: its ring is ENABLED and not full, and no record for that ring is held
before it (R481, R484). -/
def State.eventRingOpen (s : State) (src : Nat) : Bool :=
  let m := s.rdN R.EVENT_ROUTE_RING src
  s.ringState .ev m == 1 && !s.ringFull .ev m

/-- Writes a record to its event ring with the ring's next SEQ (R481). -/
def State.writeEvent (s : State) (r : EventRecord) : State :=
  let m := s.rdN R.EVENT_ROUTE_RING r.source
  let u := s.ringUnit .ev m
  let s := s.setRingUnit .ev m { u with seq := (u.seq + 1) % 65536 }
  s.ringWrite .ev m false (fun p => .event { r with seq := u.seq, phase := p })

/-- Puts a record with the held ones, or into its source's fold slot when 4,096 are held (R484). -/
def State.holdEvent (s : State) (r : EventRecord) : State :=
  if (s.hub.held.filter (fun e => !e.overflow)).length < 4096 then { s with hub.held := s.hub.held ++ [r] }
  else if s.hub.held.any (fun e => e.overflow && e.source == r.source) then
    let s := s.bump R.EVENT_REPEATS_COUNT (if r.update || r.summary then 0 else 1)
    { s with hub.held := s.hub.held.map (fun e =>
        if e.overflow && e.source == r.source then { e with times := e.times + r.times } else e) }
  else { s with hub.held := s.hub.held ++ [{ r with overflow := true }] }

/-- Writes every held record whose ring takes it, in closing order per ring (R474, R481, R484); a source routed OFF is
written to no ring. -/
def State.drainHub (s : State) : State :=
  s.hub.held.foldl (fun s r =>
    let s := { s with hub.held := s.hub.held.drop 1 }
    if s.rdN R.EVENT_ROUTE_OFF r.source == 1 then s
    else if s.eventRingOpen r.source then s.writeEvent r
    else { s with hub.held := s.hub.held ++ [r] }) s

/-- SAVE_START and SAVE_END are always recorded by the keeper, beside the relay (R152, R428). -/
def loggedApart (src : Nat) : Bool := src == Ev.DURABILITY_SAVE_START || src == Ev.DURABILITY_SAVE_END

/-- Closes a record: it gets the next closing number, goes to the keeper where its severity reaches MIN_SEV (R485), and is
written or held. -/
def State.closeEvent (s : State) (r : EventRecord) : State :=
  let r := { r with id := s.hub.nextId }
  let s := { s with hub.nextId := s.hub.nextId + 1 }
  let s := if s.rd R.KEEPER_LOG_CFG_MIN_SEV ≤ r.severity && !r.keeper && !loggedApart r.source then
      s.keeperLog r.source r.severity r.detail true else s
  if s.rdN R.EVENT_ROUTE_OFF r.source == 1 then s
  else if s.eventRingOpen r.source &&
      !(s.hub.held.any (fun e => s.rdN R.EVENT_ROUTE_RING e.source == s.rdN R.EVENT_ROUTE_RING r.source)) then s.writeEvent r
  else s.holdEvent r

/-- A record of source `src` as it stands before closing. -/
def State.eventOf (s : State) (src detail : Nat) (alt keeper : Bool) : EventRecord :=
  { id := 0, source := src, severity := severityOf src, update := false, summary := false, overflow := false, keeper,
    timeValid := s.timeValid, alt, times := 1, tai := s.taiStamp, detail, seq := 0, phase := false }

/-- Closes the UPDATE record of a source's pending repeats (R482). -/
def State.closePending (s : State) (src : Nat) : State :=
  let t := s.track src
  if t.pending = 0 then s
  else
    let r := { s.eventOf src t.pendingDetail t.pendingAlt t.byKeeper with
      update := true, times := t.pending, tai := t.pendingTai, timeValid := t.pendingValid }
    (s.setTrack src { t with pending := 0, lastRecord := s.now }).closeEvent r

/-- Closes the SUMMARY record of a source's folded second (R483). -/
def State.closeFold (s : State) (src : Nat) : State :=
  let t := s.track src
  if t.folded = 0 then s
  else
    let r := { s.eventOf src t.foldDetail t.foldAlt t.byKeeper with
      summary := true, times := t.folded, tai := t.foldTai, timeValid := t.foldValid }
    (s.setTrack src { t with folded := 0, lastRecord := s.now }).closeEvent r

/-- The end of a second: the SUMMARY record of a folded source, and then the UPDATE record of its pending repeats (R483, R486). -/
def State.closeSecond (s : State) (src : Nat) : State :=
  if (s.track src).folded = 0 then s else (s.closeFold src).closePending src

/-- The second of R483 that the count stands in. -/
def State.secondNow (s : State) : Nat := s.now / sec 1

/-- The hub runs until save step 4 has switched its island off (R486). -/
def State.hubOn (s : State) : Bool := !(s.save.active && decide (4 < s.save.step))

/-- One occurrence of a source reaches the hub: it is counted, folded as a repeat (R482), folded into the second's SUMMARY
(R483), or closed as a record of its own. `cmd` says that a command raised it. -/
def State.hubOccur (s : State) (src detail : Nat) (alt keeper cmd : Bool) : State :=
  let s := (s.bump R.EVENT_RAISED_COUNT 1).wr R.EVENT_LAST_VALID 1
  let s := ((s.wr R.EVENT_LAST_RING (s.rdN R.EVENT_ROUTE_RING src)).wr R.EVENT_LAST_SEVERITY (severityOf src)).wr
    R.EVENT_LAST_SOURCE src
  let s := if (s.track src).second = s.secondNow then s
    else let s := s.closeSecond src; s.setTrack src { s.track src with second := s.secondNow, inSecond := 0 }
  let t := s.track src
  let win := ms (s.rd R.EVENT_STORM_WINDOW_MS)
  let isRepeat := !cmd && (match t.prev with
    | some (d, a, at') => d == detail && a == alt && decide (s.now ≤ at' + win)
    | none => false)
  let seen (s : State) : State := s.setTrack src { s.track src with prev := some (detail, alt, s.now), byKeeper := keeper }
  if isRepeat then
    let s := (s.bump R.EVENT_REPEATS_COUNT 1).setTrack src
      { t with pending := t.pending + 1, pendingDetail := detail, pendingAlt := alt
               pendingTai := if t.pending = 0 then s.taiStamp else t.pendingTai
               pendingValid := if t.pending = 0 then s.timeValid else t.pendingValid }
    let s := seen s
    if t.lastRecord + win ≤ s.now then s.closePending src else s
  else
    let s := seen (if cmd then s else s.closePending src)
    let t := s.track src
    if !cmd && decide (s.rd R.EVENT_STORM_LIMIT_PER_S ≤ t.inSecond) then
      (s.bump R.EVENT_REPEATS_COUNT 1).setTrack src
        { t with folded := t.folded + 1, foldDetail := detail, foldAlt := alt
                 foldTai := if t.folded = 0 then s.taiStamp else t.foldTai
                 foldValid := if t.folded = 0 then s.timeValid else t.foldValid }
    else
      (s.setTrack src { t with inSecond := t.inSecond + 1, lastRecord := s.now }).closeEvent
        (s.eventOf src detail alt keeper)

/-- One occurrence of a source: it goes to the hub, or, where the hub is off, to the keeper's log alone (R152, R486, assumption log
208). -/
def State.occur (s : State) (src detail : Nat) (alt keeper cmd : Bool) : State :=
  if s.hubOn then s.hubOccur src detail alt keeper cmd
  else if s.rd R.KEEPER_LOG_CFG_MIN_SEV ≤ severityOf src && !keeper && !loggedApart src then
    s.keeperLog src (severityOf src) detail true
  else s

/-- The core raises an event that no command raised. -/
def State.raise (s : State) (src : Nat) (vs : List (Nat × Nat)) : State :=
  if s.coreOn then s.occur src (detailOf vs) false false false else s

/-- The keeper raises an event: always into its own log, and into the hub with KEEPER set while the core die is powered
(R428, R485). -/
def State.raiseKeeper (s : State) (src : Nat) (vs : List (Nat × Nat)) : State :=
  let s := s.keeperLog src (severityOf src) (detailOf vs) false
  if s.coreOn then s.occur src (detailOf vs) false true false else s

/-- A command raises an event: a record of its own at once, with the TAG in DETAIL (R480, R481). -/
def State.raiseTag (s : State) (src : Nat) (vs : List (Nat × Nat)) (tag : Nat) : State :=
  if s.coreOn then s.occur src (detailTag vs tag) false false true else s

end Sys2Proof.Machine
end

