-- ==== Sys2Proof/Machine/Commands.lean ====
section
/-! DEFINITION. Management commands: opcodes, statuses and refusal reasons, acceptance in ring order, the life-cycle and power
gates, and how a command ends. -/

namespace Sys2Proof.Machine

open Sys2Proof

/-! ### Codes -/

/-- Completion status codes (Table 4-2). -/
def St.DONE : Nat := 0x00
def St.PARTIAL : Nat := 0x01
def St.POISON_RETURNED : Nat := 0x02
def St.DEGRADED : Nat := 0x03
def St.DENIED_PROTECTION : Nat := 0x10
def St.DENIED_KEY : Nat := 0x11
def St.DENIED_LIFECYCLE : Nat := 0x12
def St.DENIED_CIPHER_LIMIT : Nat := 0x13
def St.BUSY : Nat := 0x20
def St.NOT_ACTIVE : Nat := 0x21
def St.RESTORING : Nat := 0x22
def St.FAULT_INTERNAL : Nat := 0x30
def St.ABORTED_RESET : Nat := 0x31

/-- Refusal reasons (Table 3-7 and the chapters that extend it). -/
def Why.NO_CAPACITY : Nat := 0x01
def Why.ETT_FULL : Nat := 0x02
def Why.TABLE_FULL : Nat := 0x03
def Why.BAD_ADDRESS : Nat := 0x04
def Why.BAD_FLAGS : Nat := 0x05
def Why.NOT_FOUND : Nat := 0x06
def Why.IN_USE : Nat := 0x07
def Why.BAD_ACCESS : Nat := 0x08
def Why.BUSY_REGION : Nat := 0x09
def Why.PEER_UNREACHABLE : Nat := 0x0A
def Why.NOT_CURRENT : Nat := 0x0B
def Why.WRONG_ROLE : Nat := 0x0C
def Why.PEER_REACHABLE : Nat := 0x0D
def Why.LOCK_LIMIT : Nat := 0x0E
def Why.NOT_PIN_NEAR : Nat := 0x0F
def Why.CACHE_OFF : Nat := 0x10
def Why.OBJECT_MAPPED : Nat := 0x11
def Why.BAD_TILE : Nat := 0x12
def Why.NOT_READY : Nat := 0x13
def Why.BAD_OPCODE : Nat := 0x14
def Why.BAD_PARAM : Nat := 0x15
def Why.PAIR_TAKEN : Nat := 0x16
def Why.BAD_KEY : Nat := 0x17
def Why.KEY_IN_USE : Nat := 0x18
def Why.TAG_MISMATCH : Nat := 0x19
def Why.AUTH_FAIL : Nat := 0x1A
def Why.BAD_TRANSITION : Nat := 0x1B
def Why.BAD_IMAGE : Nat := 0x1C
def Why.ROLLBACK : Nat := 0x1D
def Why.NOT_STAGED : Nat := 0x1E
def Why.TRIAL_PENDING : Nat := 0x1F
def Why.DIRECTORY_FULL : Nat := 0x20

/-- Command opcodes (Table 14-6). -/
def definedOpcodes : List Nat :=
  [0x0101, 0x0102, 0x0103, 0x0104, 0x0105, 0x0106, 0x0107, 0x0108, 0x0109, 0x0201, 0x0202, 0x0203, 0x0204, 0x0205] ++
  [0x0301, 0x0302, 0x0303, 0x0304, 0x0305, 0x0401, 0x0402, 0x0403, 0x0404, 0x0405, 0x0501, 0x0502, 0x0503] ++
  [0x0601, 0x0602, 0x0603, 0x0604, 0x0701, 0x0702, 0x0703, 0x0704, 0x0705, 0x0801, 0x0802, 0x0803, 0x0804, 0x0805] ++
  [0x0901, 0x0902, 0x0903, 0x0904, 0x0905, 0x0906, 0x0907]

/-- Commands that BLANK and RETURNED permit (Table 18-3). -/
def blankOpcodes : List Nat := [0x0804, 0x0805, 0x0801, 0x0802, 0x0803, 0x0901, 0x0902, 0x0905, 0x0906, 0x0907]

/-- Commands that run in P2 (R389). -/
def p2Opcodes : List Nat := [0x0804, 0x0805, 0x0907, 0x0905, 0x0906, 0x0901, 0x0902, 0x0801]

/-- Commands that do not complete BUSY before step 8 of a start has ended (R460). -/
def earlyOpcodes : List Nat := [0x0902, 0x0901, 0x0801, 0x0905]

/-- Commands that recovery executes (R443). -/
def recoveryOpcodes : List Nat := [0x0801, 0x0802, 0x0901, 0x0902]

/-- Commands with a life-cycle state that permits them (Table 18-1, Table 18-3). -/
def lifecyclePermits (lc opcode : Nat) : Bool :=
  if lc = 2 then true
  else if lc = 1 then opcode != 0x0903 && opcode != 0x0904
  else if lc = 4 then false
  else blankOpcodes.contains opcode

/-! ### Ending -/

/-- Changes one in-flight command. -/
def State.updCmd (s : State) (id : Nat) (f : Cmd → Cmd) : State :=
  { s with cmds := s.cmds.map (fun c => if c.id = id then f c else c) }

/-- The grace period of a previous space key runs from the posting of the SPACEKEY_SET's completion (R50); where its
ring is gone, from its end (DESIGN CHOICE, assumption log 168). -/
def State.startGrace (s : State) (cmd : Nat) : State :=
  match s.prot.grace.find? (fun e => e.1 == cmd) with
  | none => s
  | some e =>
    { s with prot.graceEnds := AMap.set s.prot.graceEnds e.2.1 (s.now + e.2.2)
             prot.grace := s.prot.grace.filter (fun x => x.1 != cmd) }

/-- Ends a command with its outcome; one whose ring is gone raises COMMAND_ORPHANED with TAG and STATUS and leaves no entry
(R318). -/
def State.endCmd (s : State) (id status detail result : Nat) : State :=
  match s.cmds.find? (fun c => c.id == id) with
  | none => s
  | some c =>
    if c.orphan then
      ({ s.startGrace id with cmds := s.cmds.filter (fun c => c.id != id) }).raiseTag Ev.FIRMWARE_PACE_COMMAND_ORPHANED [(1, status)] c.tag
    else s.updCmd id (fun c => { c with phase := .ended, status, detail, result })

/-- Refuses a command: DENIED_PROTECTION with a reason, nothing changed (R58). -/
def State.refuse (s : State) (id reason : Nat) : State := s.endCmd id St.DENIED_PROTECTION reason 0

/-- Ends a command with a status and no returned values. -/
def State.finish (s : State) (id status : Nat) : State := s.endCmd id status 0 0

/-- A command raises an event, and its completion waits for the record (R313, R481). -/
def State.cmdEvent (s : State) (c : Cmd) (src : Nat) (vs : List (Nat × Nat)) : State :=
  let s := s.raiseTag src vs c.tag
  s.updCmd c.id (fun k => { k with events := k.events ++ [s.hub.nextId - 1] })

/-- Counts clamps of a command that is not denied (R8, R315). -/
def State.clamped (s : State) (k : Nat) : State := if k = 0 then s else s.bump R.RING_CLAMPS_COUNT k

/-- 1 when a field was moved into its range, for the clamp counter. -/
def moved (a b : Nat) : Nat := if a = b then 0 else 1

/-! ### Acceptance (R312) and the gates -/

/-- On one ring commands are accepted in ring order; a barrier waits for every earlier command and holds every later one.
Commands whose ring is gone (R318) belong to no ring. -/
def State.acceptable (s : State) (c : Cmd) : Bool :=
  let earlier := s.cmds.filter (fun d => d.ring == c.ring && decide (d.id < c.id) && !d.orphan)
  earlier.all (fun d => d.phase != .fetched && !d.barrier) && (!c.barrier || earlier.isEmpty)

/-- The gate every command passes at acceptance: in P2 and before step 8 of a start the commands that do not run complete
BUSY (R389, R460), recovery executes four commands only (R443; BUSY otherwise, assumption log 22), and the life-cycle state
must permit the command (Table 18-3). -/
def State.gate (s : State) (opcode : Nat) : Option Nat :=
  if s.rd R.LIFE_STATE_POWER == 2 && !p2Opcodes.contains opcode then some St.BUSY
  else if s.on R.FW_STATUS_RECOVERY && !recoveryOpcodes.contains opcode then some St.BUSY
  else if !lifecyclePermits (s.rd R.LIFE_STATE_LIFECYCLE) opcode then some St.DENIED_LIFECYCLE
  else if !s.start.tablesDone && !earlyOpcodes.contains opcode && !s.on R.FW_STATUS_RECOVERY
      && (s.rd R.LIFE_STATE_LIFECYCLE == 2 || s.rd R.LIFE_STATE_LIFECYCLE == 1 || !blankOpcodes.contains opcode)
  then some St.BUSY
  else none

/-- Runs the body of a command row on the fetched command it names: nothing happens unless that command is in flight with
this opcode, next to be accepted, the core runs and no save has begun (R311, R312, R318). The body ends the command or leaves
it running. -/
def State.command (s : State) (r : CmdRef) (opcode : Nat) (body : Cmd → State → State) : State :=
  match s.cmds.find? (fun c => c.ring == r.ring && c.slot == r.slot && c.phase == .fetched) with
  | none => s
  | some c =>
    if c.opcode == opcode && s.coreOn && !s.save.active && s.acceptable c then
      match s.gate opcode with
      | some st => (s.updCmd c.id (fun c => { c with phase := .running })).finish c.id st
      | none => body c (s.updCmd c.id (fun c => { c with phase := .running }))
    else s

end Sys2Proof.Machine
end

