-- ==== Sys2Proof/Machine/DramMap.lean ====
section
/-! DEFINITION. From a DRAM media address to its channel, rank, bank and row, and whether that place can be reached (R245, R246,
R257, R259). -/

namespace Sys2Proof.Machine

open Sys2Proof

/-- G in bytes for a code of DRAM_INTERLEAVE.GRAIN. -/
def grainBytes (code : Nat) : Nat := if code = 0 then 256 else if code = 1 then 4096 else if code = 2 then 65536 else 0x200000

/-- The number of channels that this start counted. -/
def State.channelCount (s : State) : Nat := max 1 s.dram.order.length

/-- The physical channel of a media address: channels in service at the start, in ascending order, are counted from 0. -/
def State.channelOf (s : State) (a : Nat) : Nat := s.dram.order.getD (a / grainBytes s.dram.grain % s.channelCount) 0

/-- The channel address C of R245. -/
def State.channelAddr (s : State) (a : Nat) : Nat :=
  let g := grainBytes s.dram.grain
  a / g / s.channelCount * g + a % g

/-- Bank of Table 11-2: C[18:14] XOR C[23:19]. -/
def bankOf (c : Nat) : Nat := (c / 2 ^ 14 % 32) ^^^ (c / 2 ^ 19 % 32)

/-- Row and rank; ROW_BITS moves the rank. -/
def State.rowOf (s : State) (c : Nat) : Nat := c / 2 ^ 19 % 2 ^ s.rd R.DRAM_CAPACITY_ROW_BITS
@[inherit_doc State.rowOf] def State.rankOf (s : State) (c : Nat) : Nat := c / 2 ^ (19 + s.rd R.DRAM_CAPACITY_ROW_BITS) % 8

/-- A row of a bank as one number: channel, rank, bank, row. -/
def rowKey (ch rank bank row : Nat) : Nat := ((ch * 8 + rank) * 32 + bank) * 2 ^ 20 + row

def State.rowKeyOf (s : State) (a : Nat) : Nat :=
  let c := s.channelAddr a
  rowKey (s.channelOf a) (s.rankOf c) (bankOf c) (s.rowOf c)

/-- The channel of a media address has been taken out (R259). -/
def State.channelGone (s : State) (a : Nat) : Bool := s.rdN R.DRAM_CH_STATUS_STATE (s.channelOf a) == 3

/-- A soft repair runs in the bank of a media address (R257). -/
def State.bankBusy (s : State) (a : Nat) : Bool := s.dram.repairing.any (fun k => k / 2 ^ 20 == s.rowKeyOf a / 2 ^ 20)

/-- The 64-byte lines that a run of media bytes touches. -/
def linesOf (m n : Nat) : List Nat := if n = 0 then [] else rangeFrom (m / 64) ((m + n - 1) / 64 + 1 - m / 64)

/-- Some line of a run lies on a channel that is out, or in a bank under repair. -/
def State.runGone (s : State) (m n : Nat) : Bool := (linesOf m n).any (fun l => s.channelGone (l * 64))
@[inherit_doc State.runGone] def State.runBusy (s : State) (m n : Nat) : Bool := (linesOf m n).any (fun l => s.bankBusy (l * 64))

end Sys2Proof.Machine
end

