-- ==== Sys2Proof/Machine/Prot.lean ====
section
/-! DEFINITION. The protection unit: units and runs of DRAM, the ETT, regions, PDs and bindings, and the admission checks of
Table 3-4 (R36 to R56). -/

namespace Sys2Proof.Machine

open Sys2Proof

/-- 2 MiB, 4 KiB, 64 KiB, 1 GiB, in bytes; and the pair-local space of R36. -/
def unit2M : Nat := 0x200000
@[inherit_doc unit2M] def page4K : Nat := 4096
@[inherit_doc unit2M] def unit64K : Nat := 0x10000
@[inherit_doc unit2M] def gib : Nat := 0x40000000
@[inherit_doc unit2M] def pairSpace : Nat := 2 ^ 51

/-- The system reserve of R19, in 2 MiB units. -/
def reserveUnits : Nat := 2048

/-- The largest extent (R43), in 2 MiB units. -/
def maxExtent : Nat := 131072

/-- The pair number taken at this start (R336, GLOBAL_STRAPS.PAIR). -/
def State.pairNo (s : State) : Nat := s.rd R.GLOBAL_STRAPS_PAIR

/-- The side this twin is strapped to (R160). -/
def State.side (s : State) : Nat := s.rd R.TWIN_STATUS_SIDE

/-! ### DRAM units (R19, R44) -/

/-- The media address space, N times the capacity of one channel, in 2 MiB units (R245). -/
def State.dramUnits (s : State) : Nat := s.dram.order.length * s.dram.gib * 512

/-- DRAM taken by the writable tier, in 2 MiB units. -/
def State.writableUnits (s : State) : Nat :=
  ((s.prot.extents.filter (fun e => !e.shelf)).map (·.len)).sum

/-- Units left before the writable tier, the stage partition and the system reserve fill populated DRAM (R19). -/
def State.unitsLeft (s : State) : Nat := s.dramUnits - (s.writableUnits + s.shelf.stage.length + reserveUnits)

/-- Inserts an interval into a list that is sorted by start. -/
def insertRun (r : Nat × Nat) : List (Nat × Nat) → List (Nat × Nat)
  | [] => [r]
  | x :: xs => if r.1 ≤ x.1 then r :: x :: xs else x :: insertRun r xs

/-- The gaps between sorted intervals, from `lo` up to `hi`: pairs of start and length. -/
def gapsBetween : List (Nat × Nat) → Nat → Nat → List (Nat × Nat)
  | [], lo, hi => if lo < hi then [(lo, hi - lo)] else []
  | (a, n) :: xs, lo, hi =>
    (if lo < a ∧ lo < hi then [(lo, min a hi - lo)] else []) ++ gapsBetween xs (max lo (a + n)) hi

/-- Free runs of DRAM in media order; the system reserve holds the top (assumption log 30). -/
def State.freeRuns (s : State) : List (Nat × Nat) :=
  let used := ((s.prot.extents.filter (fun e => !e.shelf)).map (fun e => (e.target, e.len))) ++ s.shelf.stage.map (fun u => (u, 1))
  gapsBetween (used.foldl (fun l r => insertRun r l) []) 0 (s.dramUnits - reserveUnits)

/-- The longest run first. -/
def longestFirst : List (Nat × Nat) → List (Nat × Nat)
  | [] => []
  | x :: xs => go x (longestFirst xs)
where
  go (r : Nat × Nat) : List (Nat × Nat) → List (Nat × Nat)
    | [] => [r]
    | y :: ys => if y.2 ≤ r.2 then r :: y :: ys else y :: go r ys

/-- Takes `n` units from runs in order. -/
def takeRuns : List (Nat × Nat) → Nat → List (Nat × Nat)
  | _, 0 => []
  | [], _ + 1 => []
  | (a, m) :: rs, n + 1 => if n + 1 ≤ m then [(a, n + 1)] else (a, m) :: takeRuns rs (n + 1 - m)

/-- Cuts a run into extents of at most 256 GiB; `fuel` is the number of pieces it may need. -/
def cutRun : Nat → Nat × Nat → List (Nat × Nat)
  | 0, _ => []
  | fuel + 1, (a, n) =>
    if n = 0 then [] else if n ≤ maxExtent then [(a, n)] else (a, maxExtent) :: cutRun fuel (a + maxExtent, n - maxExtent)

/-- The runs R44 chooses for `n` units: the smallest run that holds them all, otherwise runs in descending length.
Among runs of equal length the one at the lowest media address is taken (DESIGN CHOICE, assumption log 169). -/
def State.chooseRuns (s : State) (n : Nat) : List (Nat × Nat) :=
  let fit := (s.freeRuns.filter (fun r => decide (n ≤ r.2))).foldl (fun b r => match b with
    | none => some r
    | some x => if r.2 < x.2 then some r else some x) none
  let runs := match fit with
    | some r => [(r.1, n)]
    | none => takeRuns (longestFirst s.freeRuns) n
  (runs.map (fun r => cutRun (r.2 / maxExtent + 1) r)).flatten

/-- Gives extents their pair-local bases, in order from unit `b`. -/
def placeExtents (region : Nat) : Nat → List (Nat × Nat) → List Extent
  | _, [] => []
  | b, (a, n) :: rs => ⟨b, n, region, false, 0, a⟩ :: placeExtents region (b + n) rs

/-- The extents of `n` units over object `o` from offset unit `off` (R43): pieces of 256 GiB. -/
def shelfExtents (region o : Nat) : Nat → Nat → Nat → Nat → List Extent
  | 0, _, _, _ => []
  | fuel + 1, b, off, n =>
    if n = 0 then [] else if n ≤ maxExtent then [⟨b, n, region, true, o, off⟩]
    else ⟨b, maxExtent, region, true, o, off⟩ :: shelfExtents region o fuel (b + maxExtent) (off + maxExtent) (n - maxExtent)

/-- Inserts an extent in ascending base order (R45). -/
def insertExtent (e : Extent) : List Extent → List Extent
  | [] => [e]
  | x :: xs => if e.base < x.base then e :: x :: xs else x :: insertExtent e xs

def State.addExtents (s : State) (es : List Extent) : State :=
  { s with prot.extents := es.foldl (fun l e => insertExtent e l) s.prot.extents }

/-- The outcome of R44's allocation of `n` units at pair-local unit `b`: the extents, or the reason of Table 3-7. -/
def State.allocate (s : State) (region b n : Nat) : Except Nat (List Extent) :=
  if s.unitsLeft < n then .error Why.NO_CAPACITY
  else
    let es := placeExtents region b (s.chooseRuns n)
    if 1048576 < s.prot.extents.length + es.length then .error Why.ETT_FULL else .ok es

/-! ### Lookups -/

/-- The ETT lookup of R45 for a pair-local byte address. -/
def State.lookup (s : State) (a : Nat) : Option Extent :=
  s.prot.extents.find? (fun e => decide (e.base * unit2M ≤ a ∧ a < (e.base + e.len) * unit2M))

/-- The DRAM media address of a pair-local byte of a WRITABLE region. -/
def State.media? (s : State) (a : Nat) : Option Nat :=
  match s.lookup a with
  | some e => if e.shelf then none else some (e.target * unit2M + (a - e.base * unit2M))
  | none => none

/-- The pair-local address of a DRAM media byte of the writable tier. -/
def State.localOf (s : State) (m : Nat) : Option Nat :=
  ((s.prot.extents.find? (fun e => !e.shelf && decide (e.target * unit2M ≤ m ∧ m < (e.target + e.len) * unit2M))).map
    (fun e => e.base * unit2M + (m - e.target * unit2M)))

def State.region? (s : State) (r : Nat) : Option Region := AMap.get? s.prot.regions r
def State.setRegion (s : State) (r : Nat) (x : Region) : State :=
  { s with prot.regions := AMap.set s.prot.regions r x }

/-- The binding table's key of a PD and a region. -/
def bindKey (pd r : Nat) : Nat := pd * 262144 + r

/-- The client directory: region 0 of a manager pair that has founded its domain (R343). -/
def State.isDirectory (s : State) (r : Nat) : Bool :=
  r == 0 && s.rd R.DOMAIN_STATUS_ROLE == 2 && s.rd R.DOMAIN_STATUS_STATE == 2

/-- A binding's access, true for RW; every PD of a manager pair is bound RO to the client directory (R343). A binding that is being
removed grants nothing any more (R55). -/
def State.binding? (s : State) (pd r : Nat) : Option Bool :=
  if s.prot.drains.any (fun d => d.removal == .unbind pd r || d.removal == .pd pd) then none
  else if s.isDirectory r then some false else AMap.get? s.prot.bindings (bindKey pd r)

/-- Media pieces (address and length) of a pair-local range of a WRITABLE region; `fuel` bounds the number of extents. -/
def State.pieces (s : State) : Nat → Nat → Nat → List (Nat × Nat)
  | 0, _, _ => []
  | fuel + 1, a, n =>
    if n = 0 then [] else
    match s.lookup a with
    | none => []
    | some e =>
      let k := min n ((e.base + e.len) * unit2M - a)
      (e.target * unit2M + (a - e.base * unit2M), k) :: s.pieces fuel (a + k) (n - k)

/-- `pieces` with the fuel a range of `n` bytes can need. -/
def State.mediaPieces (s : State) (a n : Nat) : List (Nat × Nat) := s.pieces (n / unit2M + 2) a n

/-! ### The checks of Table 3-4 -/

/-- Whether a presented key matches PD `n` (check 4, R48, R50); RoCEv2 presents 32 bits (R49). A grace period without an end waits for its
command's completion. -/
def State.keyMatches (s : State) (n : Nat) (pd : Pd) (key bits : Nat) : Bool :=
  let low (k : Nat) : Nat := k % 2 ^ bits
  let now := key != 0 && pd.key != 0 && low pd.key == key
  let before := match pd.prev with
    | some k => key != 0 && k != 0 && low k == key &&
        (match AMap.get? s.prot.graceEnds n with | some e => decide (s.now < e) | none => true)
    | none => false
  now || before

/-- Opcodes of Table 5-7 that Table 3-5 marks as not address-checked: FENCE, LEDGER_QUERY, HALLMARK, TIME_QUERY. -/
def unaddressed (opcode : Nat) : Bool := [6, 9, 10, 11].contains opcode

/-- The bytes an opcode may read or write: an atomic's alignment (R61). -/
def misaligned (opcode addr : Nat) : Bool :=
  ((opcode == 3 || opcode == 5) && addr % 8 != 0) || (opcode == 4 && addr % 16 != 0)

/-- Table 3-5 by binding, true for RW, and region. -/
def permitted (opcode : Nat) (rw : Bool) (r : Region) : Bool :=
  if opcode = 1 then true
  else if opcode = 2 ∨ opcode = 3 ∨ opcode = 4 ∨ opcode = 5 then rw && r.writable
  else if opcode = 7 ∨ opcode = 8 then r.shelf
  else false

/-- The schedule that holds a cursor number. -/
def State.cursorSchedule (s : State) (c : Nat) : Option (Nat × Schedule) :=
  s.shelf.schedules.find? (fun e => decide (e.2.first ≤ c ∧ c < e.2.first + e.2.positions.length))

/-- A denial or refusal by a check: the check, the status, and the region the lookup reached. -/
structure Denial where
  check : Nat
  status : Nat
  region : Option Nat
  deriving DecidableEq, Repr

/-- The region of a record whose data only the other side holds (R183). -/
def State.remoteRegion (s : State) (a : Nat) : Option Nat :=
  (s.prot.regions.find? (fun e => e.2.writable && !e.2.mirrored && e.2.owner != s.side
    && decide (e.2.base ≤ a ∧ a < e.2.base + e.2.size))).map (·.1)

/-- Checks 3 to 10 for an address-checked request, with R233 after check 9. -/
def State.addressChecks (s : State) (q : Request) (hostAddr : Option Nat) : Except Denial Nat :=
  let a := q.addr % pairSpace
  let hit := match s.lookup a with
    | some e => some e.region
    | none => s.remoteRegion a
  match hit with
  | none => .error ⟨5, St.DENIED_PROTECTION, none⟩
  | some id =>
    let bad (k : Nat) : Except Denial Nat := .error ⟨k, St.DENIED_PROTECTION, some id⟩
    match s.region? id with
    | none => bad 6
    | some r =>
      let stateOk := match r.state with
        | .active => true
        | .resizing => decide (a + q.len ≤ r.base + min r.size r.newSize ∧ a < r.base + min r.size r.newSize)
        | _ => false
      if !stateOk then bad 6
      else match s.binding? q.pd id with
      | none => bad 7
      | some rw =>
        if !permitted q.opcode rw r then bad 8
        else if misaligned q.opcode a || (q.opcode == 2 && decide (gib < q.len)) || decide (r.base + r.size < a + q.len) then
          bad 9
        else
          let cursorBad := (q.opcode == 7 || q.opcode == 8) && (match q.cursor with
            | none => false
            | some c => match s.cursorSchedule c with
              | some (_, sc) => sc.object != r.object || sc.pd != q.pd
              | none => true)
          if cursorBad then bad 9
          else match hostAddr with
            | some h => if h % 64 = 0 then .ok id else bad 10
            | none => .ok id

/-- The admission checks of R52, in order; `token` says whether this H9 holds the token with a valid lease. The answer is the
region of an address-checked request. -/
def State.checks (s : State) (token : Bool) (q : Request) (hostAddr : Option Nat) : Except Denial (Option Nat) :=
  if !s.inService then .error ⟨1, St.DENIED_LIFECYCLE, none⟩
  else if !token then .error ⟨2, St.NOT_ACTIVE, none⟩
  else if !unaddressed q.opcode && q.addr / pairSpace != s.pairNo then .error ⟨3, St.DENIED_PROTECTION, none⟩
  else match AMap.get? s.prot.pds q.pd with
    | none => .error ⟨4, St.DENIED_KEY, none⟩
    | some pd =>
      if !s.keyMatches q.pd pd q.key q.keyBits then .error ⟨4, St.DENIED_KEY, none⟩
      else if unaddressed q.opcode then .ok none
      else match s.addressChecks q hostAddr with
        | .ok r => .ok (some r)
        | .error d => .error d

/-- Counts and records a denial (R54); more than KEY_ALARM denials by key in a second raise the alarm once for it. -/
def State.recordDenial (s : State) (pd : Nat) (d : Denial) : State :=
  if d.status < 0x10 || 0x12 < d.status then s
  else
    let s := ((s.wr R.PROT_LAST_DENY_PD pd).wr R.PROT_LAST_DENY_STATUS d.status).wr R.PROT_LAST_DENY_CHECK d.check
    let s := match d.region with
      | some r => (s.wr R.PROT_LAST_DENY_REGION_VALID 1).wr R.PROT_LAST_DENY_REGION_REGION_ID r
      | none => (s.wr R.PROT_LAST_DENY_REGION_VALID 0).wr R.PROT_LAST_DENY_REGION_REGION_ID 0
    if d.status = St.DENIED_PROTECTION then s.bump R.PROT_DENY_PROT_COUNT 1
    else if d.status = St.DENIED_KEY then
      let s := s.bump R.PROT_DENY_KEY_COUNT 1
      let n := if s.prot.alarmSecond = s.secondNow then s.prot.alarmCount + 1 else 1
      let past := s.prot.alarmSecond == s.secondNow && s.prot.alarmed
      let alarm := decide (s.rd R.PROT_CTRL_KEY_ALARM < n) && !past
      let s := { s with prot.alarmSecond := s.secondNow, prot.alarmCount := n, prot.alarmed := past || alarm }
      if alarm then s.raise Ev.SECURITY_SPACE_KEY_ALARM [(2, pd)] else s
    else s

/-! ### Table views (Table 3-9) -/

/-- Refreshes the usage registers of the PROT block. -/
def State.protViews (s : State) : State :=
  let s := (s.wr R.PROT_REGIONS_USED s.prot.regions.length).wr R.PROT_PDS_USED s.prot.pds.length
  let s := (s.wr R.PROT_ETT_USED s.prot.extents.length).wr R.PROT_BIND_USED s.prot.bindings.length
  (s.wr R.PROT_WRITABLE_USED_2M s.writableUnits).wr R.PROT_FREE_RUN_LARGEST_2M ((s.freeRuns.map (·.2)).foldl max 0)

end Sys2Proof.Machine
end

