-- ==== Sys2Proof/Machine/AtRest.lean ====
section
/-! DEFINITION. Data at rest: the media key and the XTS key pairs (R360, R368), integrity tags (R290, R291), and the bytes that stand in
DRAM and in a flash codeword (R13, R266). The memories of State hold plaintext; these definitions say what the balls carry (assumption
log 189). -/

namespace Sys2Proof.Machine

open Sys2Proof

/-! ### Keys (R360, R368) -/

/-- The media key: the KDF of the media root key (Table 17-2). -/
def mediaKeyOf (root : Nat) : Nat := kdfKey root "MEDIA" (beBytes 4 0)

/-- The XTS key pair of a slot for DRAM under an ephemeral DRAM key, data key in the low 256 bits (R368). -/
def xtsDramOf (id key dramKey : Nat) : Nat := leNat (kdf key "XTS-DRAM" (beBytes 2 id ++ leBytes 32 dramKey) 512)

/-- The XTS key pair of a slot for flash (R368). -/
def xtsFlashOf (id key gen : Nat) : Nat := leNat (kdf key "XTS-FLASH" (beBytes 2 id ++ beBytes 4 gen) 512)

/-- The key store derives the XTS key pairs of every TENANT slot (type 1) and of slot 0 anew (R362, R368); slot 0 has generation 0. -/
def State.deriveXts (s : State) : State :=
  let f (e : Nat × KeySlot) : Nat × KeySlot :=
    (e.1, if e.2.type = 1 then
      { e.2 with xtsDram := xtsDramOf e.1 e.2.key s.crypt.dramKey, xtsFlash := xtsFlashOf e.1 e.2.key e.2.gen } else e.2)
  let m := mediaKeyOf s.crypt.mediaRoot
  { s with crypt := { s.crypt with slots := s.crypt.slots.map f, mediaKey := m, mediaDram := xtsDramOf 0 m s.crypt.dramKey
                                   mediaFlash := xtsFlashOf 0 m 0 } }

/-- The DRAM key pair and the flash key pair of a slot; slot 0 has the media key's. -/
def State.dramPair (s : State) (slot : Nat) : Nat :=
  if slot = 0 then s.crypt.mediaDram else ((AMap.get? s.crypt.slots slot).map (·.xtsDram)).getD 0
@[inherit_doc State.dramPair] def State.flashPair (s : State) (slot : Nat) : Nat :=
  if slot = 0 then s.crypt.mediaFlash else ((AMap.get? s.crypt.slots slot).map (·.xtsFlash)).getD 0

/-- XTS of a data unit under a key pair. -/
def xtsPair (enc : Bool) (pair tweak : Nat) (d : List Byte) : List Byte := xts enc (pair % 2 ^ 256) (pair / 2 ^ 256) tweak d

/-! ### Keys at rest (R360, R362) -/

/-- A slot's 64-byte entry in the key table: key, TYPE, FLAGS, slot number and generation wrapped under the table key, then zeros. -/
def State.tableEntry (s : State) (id : Nat) (k : KeySlot) : List Byte :=
  keyWrap s.crypt.tableKey (leBytes 32 k.key ++ leBytes 1 k.type ++ leBytes 1 (if k.exportable then 1 else 0) ++ leBytes 2 id ++ leBytes 4 k.gen)
    ++ List.replicate 16 0

/-- What stands in the key area of keeper flash: the media root key and the table key, each wrapped under the fuse root key (Table 17-2). -/
def State.keyArea (s : State) : List Byte :=
  keyWrap Config.fuseRootKey (leBytes 32 s.crypt.mediaRoot) ++ keyWrap Config.fuseRootKey (leBytes 32 s.crypt.tableKey)

/-- A new table key; the keeper is still to erase the old one (R367). -/
def State.newTableKey (s : State) : State :=
  let (k, s) := s.fresh 256
  { s with crypt.tableKey := k, crypt.erasing := s.crypt.erasing ++ [s.crypt.tableKey] }

/-! ### DRAM (R13, R368) -/

/-- The key slot of a DRAM media address: that of the region it belongs to, or of the object staged there; system data has slot 0. -/
def State.mediaSlot (s : State) (m : Nat) : Nat :=
  match s.localOf m with
  | some a => ((s.lookup a).bind (fun e => (s.region? e.region).map (·.key))).getD 0
  | none => match s.shelf.tiles.find? (fun t => t.units.contains (m / unit64K)) with
    | some t => ((AMap.get? s.shelf.objects t.object).map (·.key)).getD 0
    | none => 0

/-- The 64 bytes that stand in DRAM for chunk `l`: XTS under the slot's DRAM pair, with the media address A[43:6] as tweak. -/
def State.dramCells (s : State) (l : Nat) : List Byte :=
  xtsPair true (s.dramPair (s.mediaSlot (l * 64))) (l % 2 ^ 38) (Mem.readN s.mem.dram (l * 64) 64)

/-! ### Integrity tags (R290) -/

/-- K and H of R290; the spec does not say how they come from the media key, so the derivation is open (assumption log 190). -/
def State.tagKey (s : State) : Nat := Config.crypto 32 [s.crypt.mediaKey]
@[inherit_doc State.tagKey] def State.tagHash (s : State) : Nat := Config.crypto 33 [s.crypt.mediaKey] % 2 ^ 128

/-- A chunk's term: GHASH of its plaintext, and AES of P[50:12] and the chunk's number, padded with zeros. -/
def State.tagTerm (s : State) (p c : Nat) (d : List Byte) : Nat :=
  ghash s.tagHash 0 d ^^^ beNat (aesBlock s.tagKey (beBytes 16 ((p % 2 ^ 51 / page4K * 64 + c) * 2 ^ 83)))

/-- The tag of the 4 KiB page at pair-local `p`: the low 64 bits of the XOR of its 64 terms. -/
def State.pageTag (s : State) (p : Nat) (d : List Byte) : Nat :=
  ((rangeFrom 0 64).foldl (fun t c => t ^^^ s.tagTerm p c ((d.drop (64 * c)).take 64)) 0) % 2 ^ 64

/-! ### Codewords (R266, R268) -/

/-- The 64-bit logical page address of R266; the spec does not lay it out (assumption log 191, with the CRC-32 of R266). -/
def FlashPage.address : FlashPage → Nat
  | .image p => p
  | .shelf o t p => 2 ^ 62 + o * 2 ^ 45 + t * 2 ^ 16 + p
  | .system n => 2 ^ 63 + n

/-- The key slot of a logical page: the region's, the object's, or slot 0 for system data (R266). -/
def State.pageSlot (s : State) : FlashPage → Nat
  | .image p => ((s.lookup (p * page4K)).bind (fun e => (s.region? e.region).map (·.key))).getD 0
  | .shelf o _ _ => ((AMap.get? s.shelf.objects o).map (·.key)).getD 0
  | .system _ => 0

/-- Payload and metadata of a codeword as they are programmed: 4,096 bytes of ciphertext, the logical page address, the tag, the log
sequence, and the CRC-32 over payload and metadata; the 528 bytes of LDPC parity follow from a code that the spec does not give. -/
def State.codewordBytes (s : State) (page : FlashPage) (w : Codeword) (plain : List Byte) : List Byte :=
  let a := FlashPage.address page
  let body := xtsPair true (s.flashPair w.key) a plain ++ leBytes 8 a ++ leBytes 8 w.tag ++ leBytes 4 w.seq
  body ++ leBytes 4 (crc32 body)

/-- A logical page is programmed anew under its key with a tag; the journal maps it to the new codeword (R266, R268). Into which block it
goes is not known but from the completion of the program. -/
def State.programPage (s : State) (page : FlashPage) (tag : Nat) : State :=
  let slot := s.pageSlot page
  let gen := ((AMap.get? s.crypt.slots slot).map (·.gen)).getD 0
  { s with flash.codewords := AMap.set s.flash.codewords (FlashPage.address page) ⟨slot, gen, tag, s.flash.logSeq, none⟩
           flash.logSeq := (s.flash.logSeq + 1) % 2 ^ 32 }

/-- A page's codeword has been written anew, with the page's integrity tag in its metadata (R266, R291). -/
def State.codewordWritten (s : State) (page : FlashPage) (tag : Nat) : State :=
  { s.programPage page tag with flash.lost := s.flash.lost.filter (· != page), flash.relocate := s.flash.relocate.filter (fun e => e.1 != page) }

end Sys2Proof.Machine
end

