-- ==== Sys2Proof/Machine/KeyStore.lean ====
section
/-! DEFINITION. The key store: slots and who may name them, root keys, and what their destruction takes with it (R360 to R362,
R379). -/

namespace Sys2Proof.Machine

open Sys2Proof

/-- Slot types (Table 17-3). -/
def Slot.TENANT : Nat := 1
def Slot.QUEUE : Nat := 2
def Slot.PAIRING : Nat := 3
def Slot.DOMAIN : Nat := 4
def Slot.METER : Nat := 5
def Slot.HOST : Nat := 6

/-- The slot a KEY_ID names: committed, not DESTROYING, and of the type given (R361). -/
def State.keySlot? (s : State) (id type : Nat) : Option KeySlot :=
  match AMap.get? s.crypt.slots id with
  | some k => if id != 0 && !k.destroying && k.type == type then some k else none
  | none => none

def State.keyOk (s : State) (id type : Nat) : Bool := (s.keySlot? id type).isSome

/-- The meter key: the lowest-numbered METER slot (Table 17-3). -/
def State.meterKey (s : State) : Option Nat :=
  (s.crypt.slots.find? (fun e => e.2.type == Slot.METER && !e.2.destroying)).map (·.2.key)

/-- Refreshes the views of the CIPHER block. -/
def State.keyViews (s : State) : State :=
  (s.wr R.CIPHER_SLOTS_USED s.crypt.slots.length).wr R.CIPHER_STATUS_CONTEXTS s.crypt.contexts.length

/-- Fills a slot (R364); EXPORTABLE holds for HOST slots only, and a TENANT slot gets its XTS key pairs (R368). -/
def State.commitSlot (s : State) (id type : Nat) (exportable : Bool) (key : Nat) : State :=
  let tenant := type == Slot.TENANT
  let k : KeySlot :=
    { type, exportable := exportable && type == Slot.HOST, key, gen := s.crypt.nextGen, destroying := false, counter := 0
      xtsDram := if tenant then xtsDramOf id key s.crypt.dramKey else 0
      xtsFlash := if tenant then xtsFlashOf id key s.crypt.nextGen else 0 }
  { s with crypt.slots := AMap.set s.crypt.slots id k, crypt.nextGen := s.crypt.nextGen + 1 }.keyViews

/-- The tables a formatted flash holds: everything that R42 keeps under the media root key is empty (R379). Pairing and
membership name key slots and go with them (assumption log 34). -/
def State.eraseMedia (s : State) : State :=
  let s := { s with prot := { s.prot with regions := [], extents := [], pds := [], bindings := [], drains := [], creating := [], grace := [] } }
  let s := { s with near.locks := [], near.loading := [], dur.dirty := [], dur.map := [], start.lost := [], start.units := [], start.twinPages := [] }
  let s := { s with ledger := ⟨[], s.ledger.saveSeq, false, false, false, none⟩ }
  let s := { s with cerga.queues := [], cerga.destroyed := [], cerga.streams := [], cerga.cache := [], cerga.lookaside := [], roce.qps := [], roce.cache := [], roce.saved := [] }
  let s := { s with shelf := { s.shelf with objects := [], tiles := [], schedules := [], stage := [], bytes := [] } }
  let s := { s with meter.accounts := [], meter.shapers := [], meter.setups := [] }
  let s := { s with mem := ⟨[], [], [], []⟩, flash.codewords := [] }
  let s := { s with twin.peer := none, twin.pairKey := 0, twin.diverged := [], twin.localCommands := [] }
  let s := { s with domain := { s.domain with members := [], records := [], outbox := [], pushes := [], requests := [] } }
  let s := (s.wr R.DOMAIN_STATUS_STATE 0).wr R.DOMAIN_STATUS_WITNESS 0
  { s with crypt.slots := [], crypt.contexts := [], crypt.erasing := [] }.keyViews.protViews

/-- Entry to PROVISIONED: a new media root key and table key, and a formatted flash (Table 18-2). -/
def State.newRootKeys (s : State) : State :=
  let (k, s) := s.fresh 256
  let (t, s) := s.fresh 256
  let s := { s.eraseMedia with crypt.mediaRoot := k, crypt.tableKey := t }.deriveXts
  (s.wr R.CIPHER_TABLE_GEN (s.rd R.CIPHER_TABLE_GEN + 1)).wr R.CIPHER_TABLE_OLD_PENDING 0

/-- The media root key and the table key are destroyed: nothing in flash can be decrypted (Table 18-2). -/
def State.destroyRootKeys (s : State) : State := { s.eraseMedia with crypt := { s.eraseMedia.crypt with mediaRoot := 0, mediaKey := 0, mediaDram := 0, mediaFlash := 0, tableKey := 0 } }

end Sys2Proof.Machine
end

