-- ==== Sys2Proof/Machine/DomainWire.lean ====
section
/-! DEFINITION. Domain messages as they travel: header, body, initialisation vector and tag (R337, Tables 16-2 and 16-3), the export record's
bytes (Table 15-2), and wrapped keys (R365, R366). -/

namespace Sys2Proof.Machine

open Sys2Proof

/-! ### Wrapped keys (R365) -/

/-- The 40 bytes inside a WRAPPED blob. -/
def wrappedPlain (key type flags slot : Nat) : List Byte :=
  leBytes 32 key ++ leBytes 1 type ++ leBytes 1 flags ++ leBytes 2 slot ++ leBytes 4 0

/-- The 48-byte blob, as a big-endian number. -/
def wrapKey (wrapping key type flags slot : Nat) : Nat := beNat (keyWrap wrapping (wrappedPlain key type flags slot))

/-- The key inside a blob that unwraps and says what R365 asks of it: this TYPE, FLAGS and KEY_ID, reserved bytes 0, and a key that is not
all zeros. Of FLAGS only EXPORTABLE counts (R3). -/
def unwrapKey (wrapping blob type flags slot : Nat) : Option Nat :=
  match keyUnwrap wrapping (beBytes 48 blob) with
  | none => none
  | some d =>
    let key := leNat (d.take 32)
    let said := (leNat ((d.drop 33).take 1)) % 2
    if (d.drop 32).take 1 = leBytes 1 type ∧ said = flags % 2 ∧ d.drop 34 = leBytes 2 slot ++ leBytes 4 0 ∧ key ≠ 0 then some key else none

/-! ### Bodies (Table 16-3) -/

/-- Bytes 0 to 191 of an export record, over which its MAC is made, from the fields up to WINDOWS and the 16 counters (Table 15-2). -/
def exportBytes (f : List Nat) : List Byte :=
  let i (k : Nat) : Nat := f.getD k 0
  leBytes 2 (i 0) ++ leBytes 2 (i 1) ++ leBytes 2 (i 2) ++ leBytes 2 (i 3) ++ leBytes 8 (i 4) ++ leBytes 8 (i 5) ++ leBytes 8 (i 6)
    ++ leBytes 4 (i 7) ++ leBytes 4 (i 8) ++ leBytes 2 (i 9) ++ leBytes 2 (i 10) ++ leBytes 20 0
    ++ ((rangeFrom 11 16).map (fun k => leBytes 8 (i k))).flatten

/-- The whole record: MAC at 192 and PHASE, from fields 27 and 28. -/
def exportRecordBytes (f : List Nat) : List Byte :=
  exportBytes f ++ leBytes 16 (f.getD 27 0) ++ leBytes 47 0 ++ leBytes 1 (f.getD 28 0 * 128)

/-- The region entries of a DIR_UPDATE: an ACTION byte before each 32-byte entry of Table 16-5; `n` is their number. -/
def dirEntries : Nat → List Nat → List Byte
  | 0, _ => []
  | n + 1, f =>
    let i (k : Nat) : Nat := f.getD k 0
    leBytes 1 (i 0) ++ leBytes 8 (i 1) ++ leBytes 8 (i 2) ++ leBytes 4 (i 3) ++ leBytes 2 (i 4) ++ leBytes 2 (i 5) ++ leBytes 8 0
      ++ dirEntries n (f.drop 6)

/-- The widths in bytes of a body's fields; FULL, reserved and UNLISTED of DIR_ACK are bytes 8 to 15. -/
def bodyWidths (type : Nat) : List Nat :=
  match type with
  | 0x01 => [2]
  | 0x02 => [8]
  | 0x03 => [1, 4]
  | 0x04 => [1]
  | 0x05 => [4]
  | 0x09 => [4, 1]
  | 0x0A => [1]
  | 0x0C => [8, 1, 7]
  | 0x0D => [8, 2, 8, 8, 8, 48]
  | 0x0E => [8, 1, 1]
  | 0x0F => [32, 32, 1, 1, 1]
  | 0x10 => [8, 4]
  | _ => []

/-- A message's body. Fields outside the tables of the spec's own layout are big-endian, as the header is (assumption log 200). -/
def domainBody (type : Nat) (f : List Nat) : List Byte :=
  if type = 0x0B then beBytes 8 (f.headD 0) ++ dirEntries (f.length / 6) (f.drop 1)
  else if type = 0x12 then exportRecordBytes f
  else (((bodyWidths type).zip f).map (fun (p : Nat × Nat) => beBytes p.1 p.2)).flatten

/-! ### Protection (R337) -/

/-- The 32-byte header of Table 16-2 with VER 1. -/
def domainHeader (type len pair side counter epoch msgId sendTime : Nat) : List Byte :=
  beBytes 4 (2 ^ 28 + type % 256 * 2 ^ 20 + len % 2 ^ 16) ++ beBytes 4 (pair % 8192 * 2 ^ 19 + side % 2 * 2 ^ 18) ++ beBytes 8 counter
    ++ beBytes 4 epoch ++ beBytes 4 msgId ++ beBytes 8 sendTime

/-- The initialisation vector: SRC_PAIR, SRC_SIDE, COUNTER. -/
def domainVector (pair side counter : Nat) : Nat := pair % 8192 * 2 ^ 83 + side % 2 * 2 ^ 82 + counter % 2 ^ 64

/-- The value in the domain key slot of DOMAIN_JOIN. -/
def State.domainSlotKey (s : State) : Nat := ((AMap.get? s.crypt.slots s.domain.domainKey).map (·.key)).getD 0

/-- The domain key: the KDF of R92 with a context of 32 zero bits. -/
def State.domainMessageKey (s : State) : Nat := kdfKey s.domainSlotKey "PREMOR-DOMAIN" (List.replicate 4 0)

/-- The tag that a message with this header must carry, as a little-endian number. -/
def State.domainTag (s : State) (type : Nat) (h : DomainHeader) (f : List Nat) : Nat :=
  let key := s.domainMessageKey
  let iv := domainVector h.srcPair h.srcSide h.counter
  let body := domainBody type f
  leNat (gcmTag key iv (domainHeader type body.length h.srcPair h.srcSide h.counter h.tokenEpoch h.msgId h.sendTime) (gcmCrypt key iv 2 body))

/-- The IP and UDP checks of R88, and VER. -/
def DomainHeader.intact (h : DomainHeader) : Bool :=
  (if h.ipv6 then !h.extension else !h.fragment && !h.options) && h.lengthOk && h.sumOk && h.ver == 1

/-- A manager IP register set as one 128-bit address, byte 0 lowest. -/
def State.managerIp (s : State) : Nat := ((rangeFrom 0 4).map (fun n => s.rdN R.DOMAIN_MGR_IP_ADDR n * 2 ^ (32 * n))).sum

/-- The service address of a pair: DOMAIN_MGR_IP for pair 0, else that of its pair entry, IPv6 before IPv4 (assumption log 200). -/
def State.domainIp (s : State) (dst : Nat) : Nat :=
  match AMap.get? s.domain.members dst with
  | some m => if dst = 0 then s.managerIp else if m.service.getD 1 0 ≠ 0 then m.service.getD 1 0 else m.service.getD 2 0
  | none => s.managerIp

end Sys2Proof.Machine
end

