-- ==== Sys2Proof/Machine/Braze.lean ====
section
/-! DEFINITION. Sending on the Braze link and to the domain, and the token and lease predicates that admission and the mirror
stream rest on (R165 to R181, R337, R338). -/

namespace Sys2Proof.Machine

open Sys2Proof

/-! ### Roles, token and lease -/

/-- L of R176, in ns. -/
def State.leaseL (s : State) : Nat := ms (s.rd R.TWIN_CTRL_LEASE_MS)
/-- G of R176: 1 ms + L/100. -/
def State.leaseG (s : State) : Nat := ms 1 + s.leaseL / 100

def State.paired (s : State) : Bool := s.twin.peer.isSome

/-- ROLE_SEL codes of Table 16-1: 1 WORKER, 2 MANAGER, anything else STANDALONE. -/
def State.roleStrap (s : State) : Nat := s.rd R.DOMAIN_STATUS_ROLE

/-- The pair has a witness: a joined worker, or a manager pair with at least two joined witnesses (R336, R342). -/
def State.hasWitness (s : State) : Bool :=
  s.paired && ((s.roleStrap == 1 && (s.rd R.DOMAIN_STATUS_STATE == 2 || s.rd R.DOMAIN_STATUS_STATE == 3))
    || (s.roleStrap == 2 && decide (2 ≤ (s.domain.witnesses.filter (fun w => AMap.has s.domain.members w)).length)))

/-- Seven clusters of Crucible are in service; with fewer the H9 neither takes the token nor serves (R359). -/
def State.mayServe (s : State) : Bool :=
  decide (7 ≤ ((rangeFrom 0 8).filter (fun c => (s.rd R.CIPHER_STATUS_CLUSTERS_OK).testBit c)).length)

/-- The link is UP. -/
def State.linkUp (s : State) : Bool := s.rd R.TWIN_STATUS_LINK == 2

/-- A lease that has not ended; an unpaired H9 needs none, nor does the holder of a STANDALONE pair whose link is DOWN, at a start once
training has failed (R161, R181, R460). -/
def State.leaseValid (s : State) : Bool :=
  !s.paired || (!s.hasWitness && !s.linkUp && (s.start.presented || s.rd R.TWIN_STATUS_LINK != 1)) || (match s.twin.leaseEnd with
    | some t => decide (s.now < t)
    | none => false)

/-- This H9 holds the token, its lease is valid, and it has opened admission under it (check 2 of Table 3-4, R175, R188). -/
def State.isActive (s : State) : Bool := s.twin.holder && !s.twin.stopped && !s.twin.opening && s.leaseValid

/-- Admission is open: the H9 holds the token, its tables are rebuilt, and neither a save nor a yield past step 1 stops it
(R152, R188, R455). -/
def State.serving (s : State) : Bool := s.isActive && s.start.admitted && !s.save.active && s.twin.yield.isNone

/-- SYNC of TWIN_STATUS: 0 CURRENT. -/
def State.standbyCurrent (s : State) : Bool :=
  s.paired && s.linkUp && s.rd R.TWIN_STATUS_SYNC == 0 && (!s.twin.holder || s.twin.peerStatus.accepting)

/-- R174: the twin accepts records while the link is UP, its STATUS shows ACCEPTING, and no record has waited 500 µs for its
acknowledgement. -/
def State.twinAccepts (s : State) : Bool :=
  s.paired && s.linkUp && s.twin.peerStatus.accepting && s.twin.unacked.all (fun r => decide (s.now < r.at_ + us 500))

/-- TWIN_STATUS.ROLE: 0 UNPAIRED, 1 ACTIVE, 2 STANDBY, 3 SWITCHING, 4 WAITING. -/
def State.twinRole (s : State) : Nat :=
  if !s.paired then 0 else if s.twin.yield.isSome then 3 else if s.twin.holder then (if s.leaseValid && !s.twin.stopped then 1 else 4)
  else 2

/-! ### Frames (R165 to R168) -/

/-- An item outside the queues: its MSN is 0 (Table 8-3). -/
def plainItem (type : Nat) (body : List Byte) : BrazeItem := ⟨type, 0, false, false, 0, 0, 0, body⟩

/-- The 16-byte item header with the body: Table 8-3, words big-endian as those of the frame header (assumption log 192). -/
def BrazeItem.bytes (i : BrazeItem) : List Byte :=
  beBytes 4 (i.type * 2 ^ 24 + i.queue % 32 * 2 ^ 19 + (if i.cut then 2 ^ 18 else 0) + (if i.epochEnd then 2 ^ 17 else 0) + i.body.length % 2 ^ 16)
    ++ beBytes 4 i.msn ++ beBytes 4 i.recordLen ++ beBytes 4 i.offset ++ i.body

/-- Bytes an item takes in a frame's body. -/
def BrazeItem.size (i : BrazeItem) : Nat := 16 + i.body.length

/-- The items of a frame, as bytes of its body. -/
def frameSize (l : List BrazeItem) : Nat := (l.map BrazeItem.size).sum

/-- A frame's body: its items, filled up with zeros to a multiple of 16. -/
def frameBody (l : List BrazeItem) : List Byte := pad16 (l.map BrazeItem.bytes).flatten

/-- The 16-byte frame header of Table 8-2, with VER 1. -/
def frameHeader (dir credit len epoch seq : Nat) : List Byte :=
  beBytes 4 (2 ^ 28 + dir % 2 * 2 ^ 27 + credit % 2048 * 2 ^ 16 + len % 2 ^ 16) ++ beBytes 4 epoch ++ beBytes 8 seq

/-- The initialisation vector of R166: DIR, LINK_EPOCH, FRAME_SEQ. -/
def frameVector (dir linkEpoch seq : Nat) : Nat := dir % 2 * 2 ^ 95 + linkEpoch % 2 ^ 31 * 2 ^ 64 + seq % 2 ^ 64

/-- The tag of a frame: GCM over the encrypted body with the header as additional data (R166). -/
def frameTag (key linkEpoch dir credit epoch seq : Nat) (cipher : List Byte) : List Byte :=
  gcmTag key (frameVector dir linkEpoch seq) (frameHeader dir credit cipher.length epoch seq) cipher

/-- The value of the pairing key. -/
def State.pairingKey (s : State) : Nat := ((AMap.get? s.crypt.slots s.twin.pairKey).map (·.key)).getD 0

/-- A key derived from the pairing key: the KDF of R92 with LINK_EPOCH and DIR as context (R166). -/
def State.pairDerived (s : State) (label : String) (linkEpoch dir : Nat) : Nat :=
  kdfKey s.pairingKey label (beBytes 4 linkEpoch ++ beBytes 1 dir)

/-- Step 5 of Table 8-1: the key of each direction under the new LINK_EPOCH, and the Assay key, which both twins derive with DIR 0
(assumption log 193). -/
def State.deriveLinkKeys (s : State) : State :=
  let e := s.rd R.TWIN_LINK_EPOCH_VALUE
  { s with twin.txKey := s.pairDerived "BRAZE-LINK" e s.side, twin.rxKey := s.pairDerived "BRAZE-LINK" e (1 - s.side)
           twin.assayKey := s.pairDerived "BRAZE-ASSAY" 0 0 }

/-- Keeps the newest frames that fit the 256 KiB replay store (R167). -/
def trimReplay : List BrazeFrame → List BrazeFrame
  | [] => []
  | f :: r => if 262144 < ((f :: r).map (fun x => 32 + x.cipher.length)).sum then trimReplay r else f :: r

/-- Sends the frame being packed with the next FRAME_SEQ, encrypted and with its tag; CREDIT returns what has been received since the last
frame (R165 to R167, assumption log 194). -/
def State.flushFrame (s : State) : State :=
  if s.twin.frame.isEmpty then s
  else
    let seq := s.twin.txSeq
    let link := s.rd R.TWIN_LINK_EPOCH_VALUE
    let epoch := s.rd R.TWIN_TOKEN_EPOCH_VALUE
    let credit := min 2047 (s.twin.credit / 256)
    let cipher := gcmCrypt s.twin.txKey (frameVector s.side link seq) 2 (frameBody s.twin.frame)
    let f : BrazeFrame := { dir := s.side, credit, tokenEpoch := epoch, seq, items := s.twin.frame, cipher
                            tag := frameTag s.twin.txKey link s.side credit epoch seq cipher }
    { s.send (.brazeFrame f) with
      twin.frame := [], twin.frameAt := none, twin.txSeq := seq + 1, twin.credit := s.twin.credit - credit * 256
      twin.replayBuf := trimReplay (s.twin.replayBuf ++ [f]) }

/-- Puts an item into the frame being packed; a full frame leaves first (R171). -/
def State.packItem (s : State) (i : BrazeItem) : State :=
  let s := if 4096 < frameSize s.twin.frame + i.size then s.flushFrame else s
  { s with twin.frame := s.twin.frame ++ [i], twin.frameAt := some (s.twin.frameAt.getD (s.now + 20)) }

/-- An item whose body is too long for one frame goes in pieces, each with the item's header, its own ITEM_LEN and PIECE_OFFSET; the item's
row at the receiver stands for the whole of it (assumption log 192). -/
def BrazeItem.pieces (i : BrazeItem) : Nat → Nat → List Byte → List BrazeItem
  | 0, _, _ => []
  | fuel + 1, off, d =>
    let first := { i with offset := i.offset + off, body := d.take 4080 }
    if d.length ≤ 4080 then [first] else first :: BrazeItem.pieces i fuel (off + 4080) (d.drop 4080)

/-- Sends an item that does not wait to be packed; nothing is sent while the link is not UP. -/
def State.sendItem (s : State) (i : BrazeItem) : State :=
  if s.linkUp then ((BrazeItem.pieces i (i.body.length / 4080 + 1) 0 i.body).foldl State.packItem s).flushFrame else s

/-! ### Item bodies (Table 8-4)

The table gives the MIRROR prefix, the MIRROR_ACK, the lease items and the digest their sizes; the other fields' widths, and the byte order
of all of them, are the model's (assumption log 192). -/

/-- Numbers in 8 bytes each. -/
def wide (l : List Nat) : List Byte := (l.map (beBytes 8)).flatten

/-- A number in as many bytes as it needs, after a byte that counts them. -/
def countedBytes (v : Nat) : List Byte :=
  let n := if v = 0 then 0 else Nat.log2 v / 8 + 1
  BitVec.ofNat 8 n :: beBytes n v

/-- Types 0x04 to 0x0E, 0x10, 0x11 and 0x12 by their fields. -/
def ackBody (msns : List Nat) : List Byte := (msns.map (beBytes 4)).flatten
@[inherit_doc ackBody] def streamBody (fields : List Nat) : List Byte := (fields.map countedBytes).flatten
@[inherit_doc ackBody] def commandBody (number opcode : Nat) (params : List Nat) : List Byte :=
  beBytes 4 number ++ beBytes 2 opcode ++ (params.map countedBytes).flatten
@[inherit_doc ackBody] def digestBody (last count : Nat) (mac : List Byte) : List Byte := beBytes 4 last ++ beBytes 4 count ++ mac
@[inherit_doc ackBody] def shadowBody (addr len queue msn : Nat) (mac : List Byte) : List Byte :=
  beBytes 8 addr ++ beBytes 4 len ++ beBytes 1 queue ++ beBytes 4 msn ++ mac
@[inherit_doc ackBody] def verdictBody (results : List (Nat × Bool)) : List Byte :=
  (results.map (fun r => beBytes 8 r.1 ++ beBytes 1 (if r.2 then 1 else 0))).flatten
@[inherit_doc ackBody] def handoverBody (msns : List Nat) (epoch lease : Nat) (save : Bool) : List Byte :=
  ackBody msns ++ beBytes 4 epoch ++ beBytes 8 lease ++ beBytes 1 (if save then 1 else 0)
@[inherit_doc ackBody] def ctrlItem (kind value : Nat) : BrazeItem := plainItem 0x10 (beBytes 1 kind ++ beBytes 8 value)
@[inherit_doc ackBody] def tileItem (kind : Nat) (fields : List Nat) (data : List Byte) : BrazeItem :=
  plainItem 0x11 (beBytes 1 kind ++ wide fields ++ data)

/-- STREAM_STATE at the active (R117, R133). -/
def State.sendStreamState (s : State) (fields : List Nat) : State := s.sendItem (plainItem 5 (streamBody fields))

/-- IDENT leaves when training reaches step 4 of Table 8-1: before the link keys exist, so outside the frames (assumption log 195). -/
def State.startTraining (s : State) : State :=
  let s := { s.wr R.TWIN_STATUS_LINK 1 with twin.trainAt := none, twin.ident := none }
  s.send (.brazeIdent identityDigest s.side s.pairNo (s.rd R.TWIN_TOKEN_EPOCH_VALUE) (s.rd R.TWIN_LINK_EPOCH_VALUE))

/-! ### Mirror records (R170, R171, R184) -/

/-- A record's 32-byte prefix. -/
def prefixBytes (p : MirrorPrefix) : List Byte :=
  beBytes 8 p.addr ++ beBytes 4 p.queue ++ beBytes 4 p.seq ++ beBytes 2 p.pd ++ beBytes 1 p.kind ++ beBytes 1 p.flags ++ beBytes 2 p.epoch
    ++ List.replicate 10 0

/-- Data of a record after its first piece, as MIRROR_CONT items that fill a frame each. -/
def contItems (q msn : Nat) (cut epochEnd : Bool) : Nat → Nat → List Byte → List BrazeItem
  | 0, _, _ => []
  | fuel + 1, off, d =>
    if d.isEmpty then [] else
    ⟨2, q, cut, epochEnd, msn, 0, off, d.take 4080⟩ :: contItems q msn cut epochEnd fuel (off + 4080) (d.drop 4080)

/-- Adds bytes to a CMAC that is being computed: whole blocks are chained while more follows (R184). -/
def AssayEpoch.absorb (e : AssayEpoch) (key : Nat) (d : List Byte) : AssayEpoch :=
  let all := e.tail ++ d
  let n := cmacBody all.length
  { e with acc := cmacChain key e.acc (blocks16 (n / 16) all), tail := all.drop n }

/-- The CMAC of an epoch's records so far. -/
def AssayEpoch.mac (e : AssayEpoch) (key : Nat) : Nat := beNat (cmacFinish key e.acc e.tail)

/-- An epoch without a record. -/
def assayEmpty (now : Nat) : AssayEpoch := ⟨0, List.replicate 16 0, [], [], now⟩

/-- The 4 KiB pages of a range. -/
def pagesOfRange (a n : Nat) : List Nat := if n = 0 then [] else rangeFrom (a / page4K) ((a + n - 1) / page4K + 1 - a / page4K)

/-- Adds a record to a queue's running Assay epoch (R184): the CMAC grows over prefix and data, and the record's pages join the list. -/
def State.assayRecord (s : State) (q : Nat) (p : MirrorPrefix) (data : List Byte) : State :=
  let e := (AMap.get? s.twin.assayOpen q).getD (assayEmpty s.now)
  let new := (pagesOfRange p.addr data.length).filter (fun pg => !e.pages.contains pg)
  let e := { e with count := e.count + 1, pages := e.pages ++ new, openedAt := if e.count = 0 then s.now else e.openedAt }
  { s with twin.assayOpen := AMap.set s.twin.assayOpen q (AssayEpoch.absorb e s.twin.assayKey (prefixBytes p ++ data)) }

/-- Keeps the newest four closed epochs of a queue. -/
def keepFour (q : Nat) (l : List AssayClosed) : List AssayClosed :=
  let n := (l.filter (fun e => e.queue == q)).length
  match l with
  | [] => []
  | e :: r => if e.queue = q ∧ 4 < n then r else e :: keepFour q r

/-- Closes a queue's open epoch here: its value goes to the peer as ASSAY_DIGEST. -/
def State.closeAssay (s : State) (q last : Nat) : State :=
  match AMap.get? s.twin.assayOpen q with
  | none => s
  | some e =>
    if e.count = 0 then s
    else
      let c : AssayClosed := ⟨q, last, e.count, AssayEpoch.mac e s.twin.assayKey, e.pages⟩
      let s := { s with twin.assayOpen := AMap.del s.twin.assayOpen q, twin.assayMine := keepFour q (s.twin.assayMine ++ [c]) }
      s.sendItem { plainItem 0x0A (digestBody last e.count (beBytes 16 c.mac)) with queue := q }

/-- A record touches pages: the filter of R185 holds those of the last 200 µs. -/
def State.noteWrites (s : State) (q msn a n : Nat) : State :=
  let kept := s.twin.recent.filter (fun x => decide (s.now ≤ x.2.2.2 + us 200))
  { s with twin.recent := kept ++ (pagesOfRange a n).map (fun pg => (pg, q, msn, s.now)) }

/-- Sends what is left of the cut-through records (R171). -/
def State.pumpCut (s : State) : State :=
  let cut := s.twin.cut
  (cut.map (fun r => contItems r.queue r.msn true r.epochEnd (r.data.length / 4080 + 1) r.offset r.data)).flatten.foldl
    State.sendItem { s with twin.cut := [] }

/-- The stream is flushed (R173): the data of every cut-through record stands in the gather buffer, so it is finished. -/
def State.flushStream (s : State) : State := s.flushFrame.pumpCut

/-- Sends one mirror record on a queue and answers its MSN (R170). A record below CUT_BYTES is packed, in as many items as its frames need;
of a longer one the prefix and the first 256 bytes go at once and the rest follows (R171). The 65,536th record of an Assay epoch carries
EPOCH_END, and the epoch is closed with it (R184). -/
def State.sendRecord (s : State) (q : Nat) (p : MirrorPrefix) (data : List Byte) : Nat × State :=
  let msn := (AMap.get? s.twin.sent q).getD 0 + 1
  let s := { s with twin.sent := AMap.set s.twin.sent q msn }
  let s := (s.assayRecord q p data).noteWrites q msn p.addr data.length
  let last := ((AMap.get? s.twin.assayOpen q).map (fun e => decide (65536 ≤ e.count))).getD false
  let len := 32 + data.length
  let s := { s with twin.unacked := s.twin.unacked ++ [(⟨q, msn, s.now⟩ : SentRecord)] }
  if data.length < s.rd R.TWIN_MIRROR_CUT_BYTES then
    let s := s.packItem ⟨1, q, false, last, msn, len, 0, prefixBytes p ++ data.take 4048⟩
    let s := (contItems q msn false last (data.length / 4080 + 1) 4080 (data.drop 4048)).foldl State.packItem s
    (msn, if last then s.closeAssay q msn else s)
  else
    let s := s.sendItem ⟨1, q, true, last, msn, len, 0, prefixBytes p ++ data.take 256⟩
    let s := { s with twin.cut := s.twin.cut ++ [(⟨q, msn, 288, data.drop 256, last⟩ : CutRecord)] }
    (msn, if last then s.closeAssay q msn else s)

/-- DROP_REMAINDER: a cut-through record whose data is lost is ended (R172). -/
def State.dropRemainder (s : State) (q msn : Nat) : State :=
  if s.twin.cut.any (fun r => r.queue == q && r.msn == msn) then
    { s with twin.cut := s.twin.cut.filter (fun r => !(r.queue == q && r.msn == msn)) }.sendItem ⟨3, q, true, false, msn, 0, 0, []⟩
  else s

/-- Marks units of the divergence map (R193), in ascending order without repeats. -/
def insertNat (u : Nat) : List Nat → List Nat
  | [] => [u]
  | x :: xs => if u < x then u :: x :: xs else if u = x then x :: xs else x :: insertNat u xs

def State.markUnits (s : State) (us : List Nat) : State :=
  { s with twin.diverged := us.foldl (fun l u => insertNat u l) s.twin.diverged }

/-- The pair-local 2 MiB units of a range. -/
def unitsOf (a n : Nat) : List Nat := if n = 0 then [] else rangeFrom (a / unit2M) ((a + n - 1) / unit2M + 1 - a / unit2M)

/-- What a COMMAND item carries for a command: the key of KEY_COMMIT goes wrapped, with the plaintext of R365, under a key derived as in
R166 with label BRAZE-KEYS (R366). -/
def State.wireParams (s : State) (m : MirrorCommand) : List Nat :=
  if m.opcode = 0x0301 then
    let i (k : Nat) : Nat := m.params.getD k 0
    [i 0, i 1, i 2, wrapKey (s.pairDerived "BRAZE-KEYS" (s.rd R.TWIN_LINK_EPOCH_VALUE) s.side) (i 3) (i 1) (i 2) (i 0)]
  else m.params

/-- Sends a COMMAND item; the standby reports its number back (R57, assumption log 31). -/
def State.sendCommand (s : State) (cmd : Option Nat) (m : MirrorCommand) : State :=
  let n := s.twin.nextCommand + 1
  { s with twin.nextCommand := n, twin.commands := s.twin.commands ++ [(⟨n, cmd, m⟩ : SentCommand)] }.sendItem
    (plainItem 6 (commandBody n m.opcode (s.wireParams m)))

/-- Commands go to the standby now: it accepts, and no command applied locally is still to be replayed before them (R57, R193). -/
def State.commandsFlow (s : State) : Bool := s.twinAccepts && s.twin.localCommands.isEmpty

/-- Sends a management command to the standby through the mirror stream, or keeps it for the replay of R193 where the twin
cannot accept (R57). The command's completion waits for the standby's report (assumption log 31). -/
def State.mirrorCommand (s : State) (c : Cmd) (params : List Nat) : State :=
  if !s.paired then s
  else if s.commandsFlow then
    let s := s.sendCommand (some c.id) ⟨c.opcode, params⟩
    s.updCmd c.id (fun k => { k with mirror := some s.twin.nextCommand })
  else { s with twin.localCommands := s.twin.localCommands ++ [(⟨c.opcode, params⟩ : MirrorCommand)] }

/-- The completion of a command that a standby may not take: NOT_ACTIVE (R57, R118). -/
def State.ifHolder (s : State) (c : Cmd) (f : State → State) : State :=
  if s.twin.holder then f s else s.finish c.id St.NOT_ACTIVE

/-! ### Domain messages (R337, R338) -/

/-- Sends one domain message, encrypted and with its tag under the domain key; COUNTER rises by one per message (R337). -/
def State.sendDomainTo (s : State) (ip epoch type dst msgId : Nat) (fields : List Nat) : State :=
  let s := s.bump R.DOMAIN_TX_MSGS 1
  let n := s.domain.counter
  let key := s.domainMessageKey
  let iv := domainVector s.pairNo s.side n
  let cipher := gcmCrypt key iv 2 (domainBody type fields)
  let m : DomainOut :=
    { type, dst, ip, port := s.rd R.DOMAIN_CTRL_UDP_PORT, pair := s.pairNo, side := s.side, counter := n, epoch, msgId
      sendTime := s.time.tai, fields, cipher
      tag := gcmTag key iv (domainHeader type cipher.length s.pairNo s.side n epoch msgId s.time.tai) cipher }
  { s.send (.domain m) with domain.counter := n + 1 }

/-- A message to a pair's service address, about this H9's own pair. -/
def State.sendDomain (s : State) (type dst msgId : Nat) (fields : List Nat) : State :=
  s.sendDomainTo (s.domainIp dst) (s.rd R.TWIN_TOKEN_EPOCH_VALUE) type dst msgId fields

/-- An answer to the request with this MSG_ID of one twin of a pair. -/
def DomainAnswer.answers (a : DomainAnswer) (pair side msgId : Nat) : Bool := a.dst == pair && a.side == side && a.msgId == msgId

/-- Keeps an answer for a repeated MSG_ID (R338). -/
def State.keepAnswer (s : State) (a : DomainAnswer) : State :=
  let kept := (s.domain.answered.filter (fun b => !DomainAnswer.answers b a.dst a.side a.msgId)) ++ [a]
  { s with domain.answered := kept.drop (kept.length - 65536) }

/-- Sends an answer and keeps it. -/
def State.answerDomain (s : State) (a : DomainAnswer) : State :=
  (s.keepAnswer a).sendDomainTo a.ip a.epoch a.type a.dst a.msgId a.fields

/-- The opcodes under which COMMAND items carry changes of domain records (assumption log 31). -/
def Carry.RECORD : Nat := 0xF001
@[inherit_doc Carry.RECORD] def Carry.MEMBER : Nat := 0xF002
@[inherit_doc Carry.RECORD] def Carry.NOT_MEMBER : Nat := 0xF003
@[inherit_doc Carry.RECORD] def Carry.REGION : Nat := 0xF004
@[inherit_doc Carry.RECORD] def Carry.APPLIED : Nat := 0xF005
@[inherit_doc Carry.RECORD] def Carry.DOMAIN : Nat := 0xF006
@[inherit_doc Carry.RECORD] def Carry.PUSHED : Nat := 0xF007
@[inherit_doc Carry.RECORD] def Carry.OUTBOX : Nat := 0xF008
@[inherit_doc Carry.RECORD] def Carry.LAST_PUSH : Nat := 0xF009
@[inherit_doc Carry.RECORD] def Carry.ANSWER : Nat := 0xF00A

/-- The opcode of the COMMAND item by which a standby reports a command: its number and the reason it could not be applied, or 0 (R57,
assumption log 31). -/
def Carry.REPORT : Nat := 0xF010

/-- A change that no command of a ring made goes to the standby through the mirror stream, or waits for the replay of R193
(assumption log 31). -/
def State.mirrorChange (s : State) (opcode : Nat) (params : List Nat) : State :=
  if !s.paired || !s.twin.holder then s
  else if s.commandsFlow then s.sendCommand none ⟨opcode, params⟩
  else { s with twin.localCommands := s.twin.localCommands ++ [(⟨opcode, params⟩ : MirrorCommand)] }

/-- Answers a request once the records that stand behind it have reached the standby (R340); the standby keeps the answer too. -/
def State.answerMirrored (s : State) (a : DomainAnswer) : State :=
  let s := s.mirrorChange Carry.ANSWER ([a.dst, a.side, a.msgId, a.type, a.epoch, a.ip] ++ a.fields)
  let n := s.twin.nextCommand
  if s.twin.commands.any (fun c => c.number == n) then { s with domain.waiting := s.domain.waiting ++ [((n, a) : Nat × DomainAnswer)] }
  else s.answerDomain a

/-- Sends the answers whose COMMAND items the twin has reported, or will not report any more. -/
def State.releaseAnswers (s : State) : State :=
  let open_ (n : Nat) : Bool := s.twin.commands.any (fun c => decide (c.number ≤ n))
  let go := s.domain.waiting.filter (fun w => !open_ w.1)
  go.foldl (fun s w => s.answerDomain w.2)
    { s with domain.waiting := s.domain.waiting.filter (fun w => open_ w.1) }

/-- Whom this pair's witness questions go to: the manager pair, or the three witness workers (R341). -/
def State.witnessPairs (s : State) : List Nat := if s.roleStrap = 2 then s.domain.witnesses else [0]

/-- Sends a request and keeps it until it is answered. -/
def State.sendRequest (s : State) (type : Nat) (dsts fields : List Nat) (cmd : Option Nat) : State :=
  let id := s.domain.nextMsg
  let s := { s with domain.nextMsg := id + 1 }
  dsts.foldl (fun s d =>
    let r : DomainRequest := ⟨type, d, id, fields, s.now, s.now, cmd, [], []⟩
    ({ s with domain.requests := s.domain.requests ++ [r] }).sendDomain type d id fields) s

/-- Asks for the SINGLE_RUNNING mark, or sets it locally where the pair has no witness (R179). -/
def State.wantMark (s : State) : State :=
  if s.on R.TWIN_STATUS_SINGLE_RUNNING then s
  else if !s.hasWitness then s.wr R.TWIN_STATUS_SINGLE_RUNNING 1
  else if s.domain.requests.any (fun r => r.type == 6) then s
  else s.sendRequest 6 s.witnessPairs [] none

end Sys2Proof.Machine
end

