-- ==== Sys2Proof/Machine/Charge.lean ====
section
/-! DEFINITION. Charging accounts and the token buckets of the shapers (R320 to R324, R330). -/

namespace Sys2Proof.Machine

open Sys2Proof

/-- The account of a PD; account 0 where it has none (R319, R320). -/
def State.pdAccount (s : State) (pd : Nat) : Nat := ((AMap.get? s.prot.pds pd).map (·.account)).getD 0

/-- The account of a region's residency. -/
def State.regionAccount (s : State) (r : Nat) : Nat := ((s.region? r).map (·.account)).getD 0

/-- Adds `n` to counter `i` of an account in a window. -/
def Window.add (w : Window) (account i n : Nat) : Window :=
  let c := (AMap.get? w.charges account).getD ⟨[], 0⟩
  { w with charges := AMap.set w.charges account { c with counters := AMap.set c.counters i ((AMap.get? c.counters i).getD 0 + n) } }

/-- Charges the window numbered `w`; a window that has settled takes nothing more (R324, R325). -/
def State.chargeIn (s : State) (w account i n : Nat) : State :=
  if n = 0 then s
  else if s.meter.current.id = w then { s with meter.current := Window.add s.meter.current account i n }
  else match s.meter.settling with
    | some x => if x.id = w then { s with meter.settling := some (Window.add x account i n) } else s
    | none => s

/-- Charges the window that is open (R322). -/
def State.charge (s : State) (account i n : Nat) : State := s.chargeIn s.meter.current.id account i n

/-- The state blocks of the last run stand in flash: step 7 of its save completed (R155, R332). -/
def State.blocksKept (s : State) : Bool := !s.save.incomplete || decide (8 ≤ s.save.lastStep)

/-! ### Shapers -/

/-- A bucket of R330 as it stands now: refilled at its rate up to its burst. Levels are scaled by 10^9. -/
def refill (level : Int) (perNs burst dt : Nat) : Int := min ((burst : Int) * 1000000000) (level + (perNs * dt : Nat))

def Shaper.atNow (b : Shaper) (now : Nat) : Shaper :=
  let dt := now - b.at_
  { b with ops := refill b.ops b.opsRate b.opsBurst dt
           bytes := refill b.bytes (b.bytesRate * 1000000) b.bytesBurst dt, at_ := now }

/-- Both buckets hold 0 or more; a rate of 0 switches a bucket off. -/
def Shaper.ready (b : Shaper) : Bool := (b.opsRate == 0 || decide (0 ≤ b.ops)) && (b.bytesRate == 0 || decide (0 ≤ b.bytes))

/-- Buckets start full (Table 15-3). -/
def Shaper.full (now : Nat) (b : Shaper) : Shaper :=
  { b with ops := (b.opsBurst : Int) * 1000000000, bytes := (b.bytesBurst : Int) * 1000000000, at_ := now }
@[inherit_doc Shaper.full] def State.fillBuckets (s : State) : State :=
  { s with meter.shapers := s.meter.shapers.map (fun (e : Nat × Shaper) => (e.1, Shaper.full s.now e.2)) }

/-- Both buckets of a PD are switched off (R330). -/
def State.unshaped (s : State) (pd : Nat) : Bool :=
  match AMap.get? s.meter.shapers pd with
  | some b => b.opsRate == 0 && b.bytesRate == 0
  | none => true

/-- Whether the shaper of a PD lets its next request go now. -/
def State.shaperReady (s : State) (pd : Nat) : Bool :=
  match AMap.get? s.meter.shapers pd with
  | some b => Shaper.ready (Shaper.atNow b s.now)
  | none => true

/-- A release subtracts one operation and the request's length (R330). -/
def State.shaperTake (s : State) (pd len : Nat) : State :=
  match AMap.get? s.meter.shapers pd with
  | some b =>
    let b := Shaper.atNow b s.now
    let b := { b with ops := b.ops - 1000000000, bytes := b.bytes - (len : Int) * 1000000000 }
    { s with meter.shapers := AMap.set s.meter.shapers pd b }
  | none => s

/-- Counts a clamp of a client request in the account of its PD (R6, R112). -/
def State.chargeClamps (s : State) (window account k : Nat) : State := s.chargeIn window account 15 k

end Sys2Proof.Machine
end

