-- ==== Sys2Proof/Machine/Memory.lean ====
section
/-! DEFINITION. The near cache over DRAM, poison marks, dirty pages, and the back-pressure stage (R136, R137, R147, R201 to R208,
R77). -/

namespace Sys2Proof.Machine

open Sys2Proof

/-! ### Geometry (Table 9-1) -/

/-- The bank of a line number (media address / 64): A[15:6] XOR A[25:16]. -/
def lineBank (l : Nat) : Nat := (l % 1024) ^^^ (l / 1024 % 1024)
/-- The set within the bank: A[22:16]. -/
def lineSet (l : Nat) : Nat := l / 1024 % 128
/-- The number of a line's set among all sets. -/
def setKey (l : Nat) : Nat := lineBank l * 128 + lineSet l

/-- The keys of the 16 ways of a line's set. -/
def waysOf (l : Nat) : List Nat := rangeFrom (setKey l * 16) 16

/-- The way that holds a line, whatever its state but empty. -/
def State.findWay (s : State) (l : Nat) : Option Nat :=
  (waysOf l).find? (fun w => match AMap.get? s.near.ways w with
    | some x => x.line == l && x.state != .empty
    | none => false)

def State.wayLine (s : State) (w : Nat) : Option Line := AMap.get? s.near.ways w
def State.setWay (s : State) (w : Nat) (x : Line) : State := { s with near.ways := AMap.set s.near.ways w x }

/-- The victim cache of a bank, oldest first. -/
def State.victimsOf (s : State) (b : Nat) : List Line := (AMap.get? s.near.victims b).getD []
def State.setVictims (s : State) (b : Nat) (v : List Line) : State :=
  { s with near.victims := if v.isEmpty then AMap.del s.near.victims b else AMap.set s.near.victims b v }

def State.findVictim (s : State) (l : Nat) : Option Line := (s.victimsOf (lineBank l)).find? (fun x => x.line == l)

/-- The cache allocates: NEAR_CTRL.ENABLE reads ENABLED. -/
def State.nearOn (s : State) : Bool := s.rd R.NEAR_CTRL_ENABLE == 1

/-! ### Tree pseudo-LRU (R204) -/

/-- Sets or clears bit `i` of a tree. -/
def setBit (t i : Nat) (b : Bool) : Nat := if b then t ||| 2 ^ i else t - (t &&& 2 ^ i)

/-- Follows the tree from `node` over ways `lo` to `lo + 2^d - 1` to the least recent way that is allowed. -/
def plruVictim (t : Nat) (ok : Nat → Bool) : Nat → Nat → Nat → Option Nat
  | 0, _, lo => if ok lo then some lo else none
  | d + 1, node, lo =>
    let left := plruVictim t ok d (2 * node + 1) lo
    let right := plruVictim t ok d (2 * node + 2) (lo + 2 ^ d)
    if t.testBit node then right.or left else left.or right

/-- Marks way `w` most recent: every node on its path points the other way. -/
def plruTouch (w : Nat) : Nat → Nat → Nat → Nat → Nat
  | 0, _, _, t => t
  | d + 1, node, lo, t =>
    if w < lo + 2 ^ d then plruTouch w d (2 * node + 1) lo (setBit t node true)
    else plruTouch w d (2 * node + 2) (lo + 2 ^ d) (setBit t node false)

/-- Marks a way most recent in its set. -/
def State.touch (s : State) (w : Nat) : State :=
  let k := w / 16
  { s with near.lru := AMap.set s.near.lru k (plruTouch (w % 16) 4 0 0 ((AMap.get? s.near.lru k).getD 0)) }

/-! ### DRAM and poison -/

/-- The 64 bytes of a line in DRAM. -/
def State.dramLine (s : State) (l : Nat) : List Byte := Mem.readN s.mem.dram (l * 64) 64

/-- Writes a line to DRAM with its poison mark. -/
def State.writeLine (s : State) (x : Line) : State :=
  { s with mem.dram := Mem.writeN s.mem.dram (x.line * 64) x.data
           mem.dramPoison := if x.poison then AMap.set s.mem.dramPoison x.line 1 else AMap.del s.mem.dramPoison x.line }

/-- Refreshes the line counts of the NEAR block. -/
def State.nearViews (s : State) : State :=
  let ls := s.near.ways.map (·.2)
  let vs := (s.near.victims.map (·.2)).flatten
  let s := (s.wr R.NEAR_LOCKED_WAYS (ls.filter (·.lock)).length).wr R.NEAR_LOCKED_EMPTY_WAYS
    (ls.filter (fun x => x.state == .empty)).length
  let dirty := ((ls ++ vs).filter (fun x => x.state == .dirty || x.state == .atomic)).length
  (s.wr R.NEAR_DIRTY_LINES dirty).wr R.NEAR_STATUS_LOCK_ENTRIES s.near.locks.length

/-- A displaced line enters its bank's victim cache; when that is full its oldest entry leaves, DIRTY to DRAM (R204). -/
def State.toVictim (s : State) (x : Line) : State :=
  let b := lineBank x.line
  let v := s.victimsOf b
  if v.length < 16 then s.setVictims b (v ++ [x])
  else match v with
    | [] => s.setVictims b [x]
    | o :: r =>
      let s := if o.state = .dirty then (s.writeLine o).bump R.NEAR_EVICT_WB 1 else s
      s.setVictims b (r ++ [x])

/-- The way a fill of line `l` takes (R204): an INVALID unlocked way, otherwise the least recent unlocked one that no fill or
atomic holds. -/
def State.fillWay (s : State) (l : Nat) : Option Nat :=
  match (waysOf l).find? (fun w => (s.wayLine w).isNone && !s.near.retired.contains w) with
  | some w => some w
  | none =>
    let base := setKey l * 16
    (plruVictim ((AMap.get? s.near.lru (setKey l)).getD 0) (fun w => !s.near.retired.contains (base + w) && (match s.wayLine (base + w) with
      | some x => !x.lock && x.state != .filling && x.state != .atomic
      | none => true)) 4 0 0).map (base + ·)

/-- Empties a way for another line: what it holds moves to the victim cache. -/
def State.vacate (s : State) (w : Nat) : State :=
  match s.wayLine w with
  | some x => { s with near.ways := AMap.del s.near.ways w }.toVictim x
  | none => s

/-- A recall (R205): a victim entry swaps back into its set with the line of the way it takes. -/
def State.recall (s : State) (x : Line) : State :=
  let b := lineBank x.line
  let s := (s.setVictims b ((s.victimsOf b).filter (fun y => y.line != x.line))).bump R.NEAR_VICTIM_HITS 1
  match s.fillWay x.line with
  | some w => ((s.vacate w).setWay w x).touch w
  | none => s.toVictim x

/-- Starts a fill of a line in its bank's miss register; `lock` says that the way it takes becomes locked (R206, R210). -/
def State.startFillAs (s : State) (l : Nat) (lock : Bool) : State :=
  let b := lineBank l
  match s.fillWay l with
  | some w =>
    let s := s.vacate w
    { (s.setWay w ⟨l, .filling, lock, false, []⟩).touch w with near.misses := AMap.set s.near.misses b ⟨l, some w, [], s.now, false⟩ }
  | none => { s with near.misses := AMap.set s.near.misses b ⟨l, none, [], s.now, false⟩ }

/-- Starts the fill of an access that misses (R206). -/
def State.startFill (s : State) (l : Nat) : State := s.startFillAs l false

/-- An access that needs a line in the cache (Table 9-3): a hit is counted, a victim recalled, a miss starts a fill or waits for
the bank. The answer says whether the line is served now. While the cache does not allocate, a miss is served from DRAM. -/
def State.access (s : State) (l : Nat) : Bool × State :=
  match s.findWay l with
  | some w =>
    let busy : Bool := match s.wayLine w with
      | some x => x.state == .filling
      | none => false
    if busy then (false, s) else (true, (s.bump R.NEAR_HITS 1).touch w)
  | none =>
    match s.findVictim l with
    | some x => (true, (s.bump R.NEAR_HITS 1).recall x)
    | none =>
      let s := s.bump R.NEAR_MISSES 1
      if !s.nearOn then (true, s)
      else if AMap.has s.near.misses (lineBank l) then (false, s.bump R.NEAR_MISS_WAITS 1)
      else (false, s.startFill l)

/-- A byte of a line that is being filled: the latest of the writes merged into its miss register, or DRAM (R206). -/
def State.fillingByte (s : State) (m : Nat) : Byte :=
  match AMap.get? s.near.misses (lineBank (m / 64)) with
  | some x => x.merged.foldl (fun b p => if p.1 = m % 64 then p.2 else b) (Mem.read s.mem.dram m)
  | none => Mem.read s.mem.dram m

/-- A byte as it stands after everything applied: the line that holds it, or DRAM. -/
def State.byteAt (s : State) (m : Nat) : Byte :=
  let l := m / 64
  let inLine (x : Line) : Byte := x.data.getD (m % 64) 0
  match s.findWay l with
  | some w => match s.wayLine w with
    | some x => if x.state = .filling then s.fillingByte m else inLine x
    | none => Mem.read s.mem.dram m
  | none => match s.findVictim l with
    | some x => inLine x
    | none => Mem.read s.mem.dram m

/-- Whether a chunk is poisoned where it is newest. -/
def State.linePoison (s : State) (l : Nat) : Bool :=
  match s.findWay l with
  | some w => match s.wayLine w with
    | some x => if x.state = .filling then AMap.has s.mem.dramPoison l else x.poison
    | none => AMap.has s.mem.dramPoison l
  | none => match s.findVictim l with
    | some x => x.poison
    | none => AMap.has s.mem.dramPoison l

/-- Writes bytes over a list from offset `o`. -/
def overlay (d : List Byte) (o : Nat) : List Byte → List Byte
  | [] => d
  | b :: bs => overlay (d.set o b) (o + 1) bs

/-- Applies the part of a write that falls into one line: to the resident line, which becomes DIRTY, to a FILLING line's miss
register, or to DRAM (R136, R203, R206). `whole` says that the operation covers all 64 bytes, which clears poison (R77). -/
def State.applyLine (s : State) (l o : Nat) (bs : List Byte) (whole : Bool) : State :=
  let s := match s.findWay l with
    | some _ => s
    | none => match s.findVictim l with
      | some x => s.recall x
      | none => s
  let upd (x : Line) : Line := { x with state := .dirty, poison := x.poison && !whole, data := overlay x.data o bs }
  match s.findWay l with
  | some w => match s.wayLine w with
    | some x =>
      if x.state = .filling then
        let b := lineBank l
        let pairs := (rangeFrom o bs.length).zip bs
        { s with near.misses := AMap.upd s.near.misses b (fun m => { m with merged := m.merged ++ pairs })
                 mem.dramPoison := if whole then AMap.del s.mem.dramPoison l else s.mem.dramPoison }
      else s.setWay w (upd x)
    | none => s
  | none => match s.findVictim l with
    | some x => s.setVictims (lineBank l) ((s.victimsOf (lineBank l)).map (fun y => if y.line = l then upd x else y))
    | none =>
      { s with mem.dram := Mem.writeN s.mem.dram (l * 64 + o) bs
               mem.dramPoison := if whole then AMap.del s.mem.dramPoison l else s.mem.dramPoison }

/-! ### The tag store (R291) -/

/-- The bytes of a media page as they are applied. -/
def State.pageBytes (s : State) (page : Nat) : List Byte := (rangeFrom (page * page4K) page4K).map s.byteAt

/-- The integrity tag that a media page has by its content. -/
def State.tagOf (s : State) (page : Nat) : Nat := s.pageTag ((s.localOf (page * page4K)).getD 0) (s.pageBytes page)

/-- The tag of a dirty page is computed anew. -/
def State.retagPage (s : State) (page : Nat) : State :=
  let t := s.tagOf page
  { s with dur.dirty := AMap.upd s.dur.dirty page (fun p : DirtyPage => ({ p with tag := t } : DirtyPage)) }

/-- What an apply to chunk `l` does to the tag of its page: the old chunk's term gives way to the new chunk's; a page whose marks changed
has its tag computed anew (R291, R292). `s` is the state before and `t` after the apply. -/
def State.retagChunk (s t : State) (l : Nat) : State :=
  let page := l / 64
  if s.linePoison l != t.linePoison l then t.retagPage page
  else
    let p := (s.localOf (page * page4K)).getD 0
    let term (x : State) : Nat := s.tagTerm p (l % 64) ((rangeFrom (l * 64) 64).map x.byteAt) % 2 ^ 64
    let d := term s ^^^ term t
    { t with dur.dirty := AMap.upd t.dur.dirty page (fun p : DirtyPage => ({ p with tag := p.tag ^^^ d } : DirtyPage)) }

/-- Applies a run of bytes line by line. A run holds every byte of its operation in each of its chunks (R68), so it covers a chunk whole
where its operation does (R77). -/
def State.applyBytes (s : State) : Nat → Nat → List Byte → State
  | 0, _, _ => s
  | fuel + 1, m, bs =>
    if bs.isEmpty then s else
    let l := m / 64
    let o := m % 64
    let k := 64 - o
    (s.retagChunk (s.applyLine l o (bs.take k) (decide (o = 0 ∧ 64 ≤ bs.length))) l).applyBytes fuel (m + k) (bs.drop k)

/-- Bytes at a pair-local address are merged with their pages' flash image, which the durability unit programs (R259). A chunk they cover
whole loses its mark there, and the chunks `lost` are marked (R286, R296). -/
def State.mergeImage (s : State) (a : Nat) (d : List Byte) (lost : List Nat) : State :=
  let kept := s.mem.imagePoison.filter (fun c => !decide (a ≤ c.1 * 64 ∧ c.1 * 64 + 64 ≤ a + d.length))
  let s := { s with mem.image := Mem.writeN s.mem.image a d, flash.journal := s.flash.journal + 1
                    mem.imagePoison := lost.foldl (fun p l => AMap.set p l 1) kept }
  (pagesOfRange a d.length).foldl (fun s p =>
    s.codewordWritten (.image p) (s.pageTag (p * page4K) (Mem.readN s.mem.image (p * page4K) page4K))) s

/-- A gather entry goes to the flash image. -/
def State.mergeEntry (s : State) (g : Gather) : State :=
  s.mergeImage g.addr g.data (g.lost.map (fun l => g.addr / 64 + l - g.media / 64))

/-! ### The gather buffer (R67, R136) -/

/-- Whether an entry has reached both gather buffers, or needs only this one (R15). -/
def Gather.accepted (g : Gather) : Bool := g.record.isNone && !g.stuck

/-- Requests of one stream, QP or command ring follow one another (R69, R87); two epochs of a queue are one stream. -/
def sameStream : Source → Source → Bool
  | .cerga i _, .cerga j _ => i == j
  | .roce p, .roce q => p == q
  | .host r _, .host t _ => r == t
  | _, _ => false

/-- Whether an operation still stands before its durability point: not ended, and not placed whole with every entry accepted. -/
def State.unsettled (s : State) (o : Op) : Bool :=
  o.status.isNone && (!o.arrived || !o.executed || !o.held.isEmpty || s.eng.gather.any (fun g => g.op == some o.id && !g.accepted))

/-- Opcodes that may write: WRITE, CAS8, CAS16, FADD8. -/
def mutating (opcode : Nat) : Bool := decide (2 ≤ opcode ∧ opcode ≤ 5)

/-- An entry is visible once it is accepted and every write and atomic admitted before it on its stream is durable or has ended
(R67, R69). -/
def State.entryVisible (s : State) (g : Gather) : Bool :=
  Gather.accepted g && (match g.op with
    | none => true
    | some id => match s.eng.ops.find? (fun o => o.id == id) with
      | none => true
      | some o => s.eng.ops.all (fun p => !(decide (p.id < o.id) && sameStream p.req.src o.req.src && mutating p.req.opcode && s.unsettled p)))

/-- A byte as a read sees it: visible gather entries over what is applied (R67). -/
def State.readByte (s : State) (m : Nat) : Byte :=
  s.eng.gather.foldl (fun b g =>
    if s.entryVisible g && decide (g.media ≤ m ∧ m < g.media + g.data.length) then g.data.getD (m - g.media) b else b) (s.byteAt m)

/-- What an entry does to the mark of chunk `l`: a chunk it has lost is poisoned (R286), one it covers whole is not (R296). -/
def Gather.markAfter (g : Gather) (l : Nat) (b : Bool) : Bool :=
  if g.lost.contains l then true else b && !decide (g.media ≤ l * 64 ∧ l * 64 + 64 ≤ g.media + g.data.length)

/-- Whether a chunk delivers poison: as it is applied, with what the visible entries do to its mark since. -/
def State.chunkPoison (s : State) (l : Nat) : Bool :=
  s.eng.gather.foldl (fun b g => if s.entryVisible g then Gather.markAfter g l b else b) (s.linePoison l)

/-- Bytes of a media run. -/
def State.readRun (s : State) (m n : Nat) : List Byte := (rangeFrom m n).map s.readByte

/-! ### Dirty pages, D and the stage (R137, R147) -/

/-- The budget that governs, in GiB: the test budget during a hold-up test (R145). -/
def State.budgetGib (s : State) : Nat :=
  if s.on R.DUR_STATUS_TEST_ACTIVE then s.rd R.DUR_BUDGET_TEST_GIB else s.rd R.DUR_BUDGET_BUDGET_GIB

/-- Whether d stands at or above `t` percent (R147): with a budget of 0, d counts as 100. -/
def State.dReaches (s : State) (t : Nat) : Bool :=
  if s.budgetGib = 0 then decide (t ≤ 100) else decide (t * s.budgetGib * gib ≤ 100 * (s.dur.dirty.length * page4K))

/-- d in whole percent. -/
def State.dPercent (s : State) : Nat :=
  if s.budgetGib = 0 then 100 else 100 * (s.dur.dirty.length * page4K) / (s.budgetGib * gib)

/-- The threshold of a stage (Table 7-3). -/
def State.stageAt (s : State) : Nat → Nat
  | 1 => s.rd R.DUR_THRESH_ELEVATE_PCT
  | 2 => s.rd R.DUR_THRESH_NEAR_PCT
  | 3 => 90
  | 4 => 98
  | _ => 0

def State.stage (s : State) : Nat := s.rd R.DUR_STATUS_STAGE

/-- The STATUS item of R169: stage, d, SYNC, feed states, save step, ACCEPTING, F. -/
def State.accepting (s : State) : Bool :=
  !s.twin.holder && !s.save.active && s.rd R.LIFE_STATE_POWER != 2 && s.start.tablesDone && s.rd R.TWIN_STATUS_SYNC != 1
@[inherit_doc State.accepting] def State.statusItem (s : State) : BrazeItem :=
  plainItem 9 (beBytes 1 s.stage ++ beBytes 2 s.dPercent ++ beBytes 1 (s.rd R.TWIN_STATUS_SYNC) ++ beBytes 1 (s.rd R.KEEPER_FEED_STATUS_A_STATE)
    ++ beBytes 1 (s.rd R.KEEPER_FEED_STATUS_B_STATE) ++ beBytes 1 (s.rd R.DUR_STATUS_SAVE_STEP) ++ beBytes 1 (if s.accepting then 1 else 0)
    ++ beBytes 2 (s.rd R.PACE_ADMIT_FRACTION))
@[inherit_doc State.accepting] def State.sendStatus (s : State) : State := if s.paired then s.sendItem s.statusItem else s

/-- Counts the whole milliseconds spent in stages 3 and 4 that are not counted yet (DUR_THROTTLE_MS). -/
def State.countThrottle (s : State) : State :=
  match s.dur.throttleFrom with
  | some t => { s.bump R.DUR_THROTTLE_MS_COUNT ((s.now - t) / 1000000) with dur.throttleFrom := some (s.now - (s.now - t) % 1000000) }
  | none => s

/-- Changes the stage: the event, the time spent in THROTTLE and HOLD, and a STATUS item at once (R147, R169). -/
def State.setStage (s : State) (k : Nat) : State :=
  if s.stage = k then s
  else
    let s := (s.wr R.DUR_STATUS_STAGE k).countThrottle
    let s := { s with dur.throttleFrom := if k < 3 then none else some (s.dur.throttleFrom.getD s.now) }
    (s.raise Ev.DURABILITY_STAGE_CHANGE [(1, k)]).sendStatus

/-- R149: OVER_BUDGET is raised when D passes the budget, and stands until d falls below 96. -/
def State.overViews (s : State) : State :=
  if s.on R.DUR_STATUS_OVER_BUDGET then (if s.dReaches 96 then s else s.wr R.DUR_STATUS_OVER_BUDGET 0)
  else if s.rd R.DUR_BUDGET_BUDGET_GIB * gib < s.dur.dirty.length * page4K then
    (s.wr R.DUR_STATUS_OVER_BUDGET 1).raise Ev.DURABILITY_OVER_BUDGET []
  else s

/-- Compares D with the budget (R147): the stage rises at once, the fall of each stage starts its 1 ms; DUR_DIRTY, DUR_PEAK and
INTEG_TAGSTORE follow. While D stands over a budget that fell, the stage is HOLD (R149). -/
def State.compareD (s : State) : State :=
  let top := if s.dReaches 98 || s.on R.DUR_STATUS_OVER_BUDGET then 4 else if s.dReaches 90 then 3 else if s.dReaches (s.stageAt 2) then 2
    else if s.dReaches (s.stageAt 1) then 1 else 0
  let s := if s.stage < top then s.setStage top else s
  let below := [1, 2, 3, 4].foldl (fun m k =>
    let t := s.stageAt k
    let isBelow := s.budgetGib != 0 && decide (100 * (s.dur.dirty.length * page4K) ≤ (t - 2) * s.budgetGib * gib)
    if isBelow then AMap.set m k ((AMap.get? m k).getD s.now) else AMap.del m k) s.dur.below
  let d := s.dur.dirty.length
  let old := s.rd R.DUR_DIRTY_PAGES
  let peaks := ((s.dur.peaks.filter (fun p => decide (s.now ≤ p.1 + sec 86400) && decide (old < p.2))) ++ [(s.now, old)])
  let s := { s with dur.below := below, dur.peaks := if d = old then s.dur.peaks else peaks }
  let s := ((s.wr R.DUR_DIRTY_PAGES d).wr R.INTEG_TAGSTORE_PAGES d).wr R.DUR_PEAK_PAGES
    ((s.dur.peaks.filter (fun p => decide (s.now ≤ p.1 + sec 86400))).foldl (fun m p => max m p.2) d)
  let s := s.overViews
  if s.on R.DUR_STATUS_OVER_BUDGET then s.setStage 4 else s

/-- A write into a media page is accepted: the page is dirty from now, with its tag in the tag store (R291), or stays dirty past the program in progress (R137, R138),
and the running dirty map marks its unit (R503). -/
def State.markDirty (s : State) (page pd : Nat) : State :=
  match AMap.get? s.dur.dirty page with
  | some p => if p.reading then { s with dur.dirty := AMap.set s.dur.dirty page { p with again := true, since := s.now } } else s
  | none =>
    { s with dur.dirty := AMap.set s.dur.dirty page ⟨s.now, pd, false, false, [], [], s.tagOf page⟩
             dur.map := AMap.set s.dur.map (page / 512) ⟨none⟩ }

/-- Marks every page of a media run dirty, and compares D. -/
def State.markRun (s : State) (m n pd : Nat) : State :=
  if n = 0 then s
  else ((rangeFrom (m / page4K) ((m + n - 1) / page4K + 1 - m / page4K)).foldl (fun s p => s.markDirty p pd) s).compareD

end Sys2Proof.Machine
end

