-- ==== Sys2Proof/Machine/Tiles.lean ====
section
/-! DEFINITION. Shelf tiles in stage: geometry, references, stage space, fills and evictions (R219 to R234). -/

namespace Sys2Proof.Machine

open Sys2Proof

/-- Tile sizes by TILE_CODE (Table 10-6). -/
def tileSize (code : Nat) : Nat := 0x10000 * 4 ^ code

/-- The mapped size of one tile: with HEADER a page more (R220). -/
def Object.slot (o : Object) : Nat := tileSize o.tileCode + (if o.header then page4K else 0)
/-- N, the number of tiles (R219). -/
def Object.count (o : Object) : Nat := ceilDiv o.size (tileSize o.tileCode)
/-- The mapped size (R220). -/
def Object.mapped (o : Object) : Nat := Object.count o * Object.slot o

def State.object? (s : State) (o : Nat) : Option Object := AMap.get? s.shelf.objects o
def State.setObject (s : State) (o : Nat) (x : Object) : State := { s with shelf.objects := AMap.set s.shelf.objects o x }

def State.tile? (s : State) (o k : Nat) : Option Tile := s.shelf.tiles.find? (fun t => t.object == o && t.index == k)
def State.updTile (s : State) (o k : Nat) (f : Tile → Tile) : State :=
  { s with shelf.tiles := s.shelf.tiles.map (fun t => if t.object = o ∧ t.index = k then f t else t) }

/-- The object and byte offset that a pair-local address of a SHELF region maps (R43). -/
def State.shelfOffset (s : State) (a : Nat) : Option (Nat × Nat) :=
  match s.lookup a with
  | some e => if e.shelf then some (e.object, e.target * unit2M + (a - e.base * unit2M)) else none
  | none => none

/-- The tiles a pair-local range of a SHELF region touches, in order. Bytes past the mapped size need none (R39). -/
def State.tilesOf (s : State) (a n : Nat) : List (Nat × Nat) :=
  if n = 0 then [] else
  match s.shelfOffset a with
  | none => []
  | some (o, off) => match s.object? o with
    | none => []
    | some x =>
      let last := min (off + n - 1) (Object.mapped x - 1)
      if Object.mapped x ≤ off then [] else (rangeFrom (off / Object.slot x) (last / Object.slot x + 1 - off / Object.slot x)).map (fun k => (o, k))

/-- The tiles in a cursor's lookahead window (R230). -/
def Schedule.window (c : Schedule) (p : Nat) : List Nat :=
  let n := c.entries.length
  (rangeFrom p c.lookahead).filterMap (fun i => if c.wrap then c.entries[i % n]? else c.entries[i]?)

/-- Whether a lock-table range covers a tile (R211). -/
def State.tileLocked (s : State) (o k : Nat) : Bool :=
  s.near.locks.any (fun e => match s.region? e.2.region with
    | some r => r.shelf && r.object == o && (s.tilesOf (r.base + e.2.offset) e.2.len).contains (o, k)
    | none => false)

/-- A tile's reference count (R226): cursors whose window names it, reads that deliver from it or from the tile before it, and
lock ranges. -/
def State.tileRefs (s : State) (o k : Nat) : Nat :=
  let cursors := (s.shelf.schedules.map (fun e => if e.2.object = o then
    (e.2.positions.filter (fun p => (Schedule.window e.2 p).contains k)).length else 0)).sum
  let reads := (s.eng.ops.filter (fun p => p.status.isNone && (p.tiles.take 2).contains (o, k))).length
  cursors + reads + (if s.tileLocked o k then 1 else 0)

/-- 64 KiB units of a stage of 2 MiB units. -/
def State.stageFree (s : State) : List Nat :=
  let used := (s.shelf.tiles.map (·.units)).flatten
  ((s.shelf.stage.map (fun u => rangeFrom (u * 32) 32)).flatten).filter (fun u => !used.contains u)

/-- 64 KiB units a tile occupies. -/
def Object.tileUnits (x : Object) : Nat := ceilDiv (Object.slot x) unit64K

/-- A stage copy that a RELOAD replaced is evicted as soon as it has no references (R223). -/
def State.evictStale (s : State) : State :=
  let go (t : Tile) : Tile :=
    if t.stale && t.state == .staged && s.tileRefs t.object t.index == 0 then { t with state := .evicting } else t
  { s with shelf.tiles := s.shelf.tiles.map go }

/-- The better victim of R227: released behind a cursor first, then least recently read. -/
def evictBefore (a b : Tile) : Bool := (a.behind && !b.behind) || (a.behind == b.behind && decide (a.lastRead < b.lastRead))

/-- The tile that replacement evicts next: STAGED with no reference. -/
def State.evictCandidate (s : State) : Option Tile :=
  (s.shelf.tiles.filter (fun t => t.state == .staged && s.tileRefs t.object t.index == 0)).foldl (fun b t => match b with
    | none => some t
    | some x => if evictBefore t x then some t else some x) none

/-- Starts an eviction: the tile is EVICTING until TILE_EVICTION_COMPLETE (R225). -/
def State.startEvict (s : State) (o k : Nat) : State := s.updTile o k (fun t => { t with state := .evicting })

/-- While a shrink waits, unreferenced tiles are evicted one after another (R224, Table 10-5). -/
def State.shrinkStage (s : State) : State :=
  if s.on R.TIER_STATUS_RESIZING && s.shelf.tiles.all (fun t => t.state != .evicting) then
    (match s.evictCandidate with | some t => s.startEvict t.object t.index | none => s)
  else s

/-- Refreshes the TIER views (Table 10-8). -/
def State.tierViews (s : State) : State :=
  let s := s.evictStale.shrinkStage
  let s := (s.wr R.TIER_STAGED_TILES s.shelf.tiles.length).wr R.TIER_STAGE_USED_UNITS_64K ((s.shelf.tiles.map (·.units.length)).sum)
  let s := s.wr R.TIER_REFERENCED_TILES (s.shelf.tiles.filter (fun t => decide (0 < s.tileRefs t.object t.index))).length
  let s := (s.wr R.TIER_OBJECTS_USED s.shelf.objects.length).wr R.TIER_SCHED_SCHEDULES s.shelf.schedules.length
  let s := s.wr R.TIER_SCHED_CURSORS ((s.shelf.schedules.map (·.2.positions.length)).sum)
  (s.wr R.TIER_ENTRIES_USED ((s.shelf.schedules.map (·.2.entries.length)).sum)).wr R.TIER_STATUS_ACTUAL_GIB (s.shelf.stage.length / 512)

/-- An eviction request for one tile: deferred and counted while it is filling, recovering or referenced (R227). -/
def State.evictRequest (s : State) (o k : Nat) : State :=
  match s.tile? o k with
  | some t =>
    if t.state = .evicting then s
    else if t.state = .staged ∧ s.tileRefs o k = 0 then s.startEvict o k
    else (s.updTile o k (fun t => { t with behind := true })).bump R.TIER_DEFERRED_EVICTS 1
  | none => s

/-- A fill of `need` 64 KiB units fits: into the units that are free, or, with `soon`, once the evictions that run have ended. A lookahead
or lock fill leaves the last 1 GiB of the partition to demand fills, and 1,048,576 tiles fill the stage (R224). -/
def State.tileFits (s : State) (need : Nat) (demand soon : Bool) : Bool :=
  let going := s.shelf.tiles.filter (fun t => soon && t.state == .evicting)
  let free := s.stageFree.length + (going.map (·.units.length)).sum
  decide (need ≤ (if demand then free else free - 16384) ∧ s.shelf.tiles.length - going.length < 1048576)

/-- Starts the fill of a tile that is in SHELF, or evicts towards the space it needs; a standby stages nothing (R238). The first page
staged is `want` (R228). -/
def State.startTile (s : State) (o k want : Nat) (demand : Bool) : State :=
  match s.object? o with
  | none => s
  | some x =>
    if (s.tile? o k).isSome || !s.twin.holder then s
    else if s.tileFits (Object.tileUnits x) demand false then
      let t : Tile := { object := o, index := k, state := .filling, pages := [], want, recovering := [],
                        units := s.stageFree.take (Object.tileUnits x), poisoned := false, recovered := false,
                        gen := (AMap.get? x.gens k).getD 0, lastRead := s.now, behind := false, stale := false }
      let s := { s with shelf.tiles := s.shelf.tiles ++ [t] }.bump R.TIER_FILLS 1
      if demand then s.bump R.TIER_DEMAND_FILLS 1 else s
    else if s.tileFits (Object.tileUnits x) demand true then s
    else match s.evictCandidate with
      | some t => s.startEvict t.object t.index
      | none => s

/-- A read needs a tile: an unstaged one starts a demand fill at the page of `off` in its slot, an EVICTING one returns to STAGED
(R225, R228, R239). -/
def State.demandTile (s : State) (o k off : Nat) : State :=
  match s.tile? o k with
  | some t =>
    let s := s.updTile o k (fun t => { t with lastRead := s.now })
    if t.state = .evicting then s.updTile o k (fun t => { t with state := .staged }) else s
  | none => s.startTile o k (off / page4K) true

/-- The DRAM media address of byte `off` of a tile's slot. -/
def Tile.media (t : Tile) (off : Nat) : Nat := (t.units.getD (off / unit64K) 0) * unit64K + off % unit64K

/-- A byte of a SHELF region as it is staged: its media address; none past the mapped size or where the tile is not in stage. -/
def State.shelfMedia (s : State) (a : Nat) : Option Nat :=
  match s.shelfOffset a with
  | none => none
  | some (o, off) => match s.object? o with
    | none => none
    | some x =>
      if Object.mapped x ≤ off then none
      else match s.tile? o (off / Object.slot x) with
        | some t => some (Tile.media t (off % Object.slot x))
        | none => none

/-- Whether the pages a range needs of tile (o, k) are staged. -/
def State.tileServes (s : State) (o k lo hi : Nat) : Bool :=
  match s.tile? o k with
  | some t => t.state != .evicting && (rangeFrom (lo / page4K) (hi / page4K + 1 - lo / page4K)).all (fun p => t.pages.contains p)
  | none => false

end Sys2Proof.Machine
end

