-- ==== Sys2Proof/Machine/Replies.lean ====
section
/-! DEFINITION. What the request engines send: Cerga responses, ACKs and NAKs with their credit, initialisation vector, ciphertext and
tag, and RoCEv2 responses and NAKs (R88 to R92, R101 to R111, R124, R130). -/

namespace Sys2Proof.Machine

open Sys2Proof

/-! ### Ports as the engines see them -/

/-- A port that has never been enabled. -/
def portIdle : Port := ⟨0, 0, 0, 0, [], none, 0, []⟩

def State.port (s : State) (n : Nat) : Port := (AMap.get? s.ports.port n).getD portIdle
def State.setPort (s : State) (n : Nat) (p : Port) : State := { s with ports.port := AMap.set s.ports.port n p }

/-- The port and sub-port that a packet arrives at, as 4 × port + sub-port; its bytes; its priority, from DSCP bits 5:3 where it has no
tag (R473); and the bytes of other traffic ahead of it. -/
def Arrival.port : Arrival → Nat
  | .cerga _ p => p.port
  | .roce p => p.port
@[inherit_doc Arrival.port] def Arrival.frame : Arrival → Nat
  | .cerga _ p => p.frame
  | .roce p => p.frame
@[inherit_doc Arrival.port] def Arrival.prio : Arrival → Nat
  | .cerga _ p => p.prio.getD (p.dscp / 8)
  | .roce p => p.prio.getD (p.dscp / 8)
@[inherit_doc Arrival.port] def Arrival.queued : Arrival → Nat
  | .cerga _ p => p.queued
  | .roce p => p.queued

/-- Bytes in the ingress buffer of port `n`: other traffic as it last stood, and the request packets that wait there (R25, R188, R331;
assumption log 179). -/
def State.ingressBytes (s : State) (n : Nat) : Nat :=
  (s.port n).queued + (((s.ports.waiting ++ s.twin.ingress).filter (fun a => a.port / 4 == n)).map Arrival.frame).sum

/-! ### Streams -/

/-- A stream that never opened. -/
def streamNone : Stream :=
  { state := .none, epoch := 0, key := none, cum := 0, map := [], high := none, respAck := 0, nonces := [], cache := [], uncovered := [],
    sinceAck := 0, ece := false, lastAt := 0, reply := ⟨0, false, 0, 0, none⟩, carried := [] }

def State.stream (s : State) (i : Nat) : Stream := (AMap.get? s.cerga.streams i).getD streamNone
def State.setStream (s : State) (i : Nat) (x : Stream) : State := { s with cerga.streams := AMap.set s.cerga.streams i x }
def State.updStream (s : State) (i : Nat) (f : Stream → Stream) : State := s.setStream i (f (s.stream i))

/-- How far SEQ `q` lies above `c`, modulo 2^32 (R98). -/
def seqAbove (q c : Nat) : Nat := (q + 2 ^ 32 - c % 2 ^ 32) % 2 ^ 32

/-- SEQ `q` lies in the 2^31 sequences below `c` (R98). -/
def seqBelow (q c : Nat) : Bool := decide (2 ^ 31 ≤ seqAbove q c)

/-- The queue identity of an index: GEN and INDEX (R93). -/
def State.queueId (s : State) (i : Nat) : Nat := ((AMap.get? s.cerga.queues i).map (fun q => q.gen * 2 ^ 22 + i)).getD i

/-- The stream key of a queue for an epoch at this pair, derived from the queue key (R92). -/
def State.deriveStreamKey (s : State) (i epoch : Nat) : Nat :=
  let slot := ((AMap.get? s.cerga.queues i).map (·.key)).getD 0
  kdfKey (((AMap.get? s.crypt.slots slot).map (·.key)).getD 0) "CERGA-STREAM"
    (beBytes 2 s.pairNo ++ beBytes 4 (s.queueId i) ++ beBytes 2 epoch)

/-- The stream key: the one the context holds for its open epoch, or a new derivation (R92, R116). -/
def State.streamKey (s : State) (i epoch : Nat) : Nat :=
  match (s.stream i).key with
  | some k => if (s.stream i).epoch = epoch then k else s.deriveStreamKey i epoch
  | none => s.deriveStreamKey i epoch

/-- The port's ingress buffer holds more than MARK_KB (R107). -/
def State.portCrowded (s : State) (port : Nat) : Bool :=
  decide (s.rd R.CERGA_CREDIT_MARK_KB * 1024 < s.ingressBytes (port / 4))

/-- CREDIT of R107 in packets. -/
def State.credit (s : State) (x : Stream) : Nat :=
  let h1 := match x.high with
    | some h => if seqBelow h x.cum then 0 else seqAbove h x.cum + 1
    | none => 0
  let c := max 1 (min (1024 - h1) (s.rd R.CERGA_CREDIT_MAX_PKTS * s.rd R.PACE_ADMIT_FRACTION / 1024))
  if s.portCrowded x.reply.port then max 1 (c / 2) else c

/-- The initialisation vector of R91 with counter value `n`. -/
def State.cergaNonce (s : State) (n : Nat) : Nat := 2 ^ 95 + s.side * 2 ^ 94 + s.cerga.base % 2 ^ 32 * 2 ^ 62 + n % 2 ^ 62

/-- The vector counter of an epoch: 0 until this twin first sends under it in this incarnation (R91; assumption log 180). -/
def Stream.nonce (x : Stream) (epoch : Nat) : Nat := (AMap.get? x.nonces epoch).getD 0

/-- Frame bytes of a Cerga packet from destination address through FCS (R88, R322). -/
def cergaFrame (ipv6 : Bool) (payload : Nat) : Nat := 14 + (if ipv6 then 40 else 20) + 8 + 32 + payload + 16 + 4

/-- The PD of a queue. -/
def State.queuePd (s : State) (i : Nat) : Nat := ((AMap.get? s.cerga.queues i).map (·.pd)).getD 0

/-- Counts a frame that leaves through a port, given as 4 × port + sub-port (PORT_n_TX_FRAMES). -/
def State.countTx (s : State) (p : Nat) : State := s.wrN R.PORT_TX_FRAMES (p / 4) (s.rdN R.PORT_TX_FRAMES (p / 4) + 1)

/-- The eight words of a header, big-endian. -/
def headerBytes (ws : List Nat) : List Byte := (ws.map (beBytes 4)).flatten

/-- The 32 header bytes of a target packet (Table 5-2). -/
def CergaReply.header (r : CergaReply) : List Byte :=
  headerBytes [2 ^ 28 + 2 ^ 27 + (if r.last then 2 ^ 26 else 0) + (if r.ece then 2 ^ 25 else 0) + r.opcode * 2 ^ 16 + r.epoch, r.queue, r.seq,
    r.incarnation * 2 ^ 16 + r.status * 2 ^ 8 + r.credit] ++ beBytes 12 r.nonce ++ beBytes 4 r.info

/-- The packet sealed under a stream key: ciphertext and tag (R89). -/
def CergaReply.sealed (r : CergaReply) (key : Nat) : CergaReply :=
  let c := gcmCrypt key r.nonce 2 r.payload
  { r with cipher := c, tag := gcmTag key r.nonce r.header c }

/-- Sends one packet on a stream under an epoch: the next vector, ECT(0), ECE where it is owed, and the egress charge (R88, R91, R106,
R322). -/
def State.cergaSendAs (s : State) (i epoch : Nat) (window : Nat) (opcode seq status credit info : Nat) (last : Bool)
    (payload : List Byte) : State :=
  let x := s.stream i
  let n := x.nonce epoch
  let r : CergaReply :=
    { dest := x.reply, srcPort := s.rd R.CERGA_CTRL_UDP_PORT, summed := x.reply.ipv6, ecn := 2, opcode, epoch, queue := s.queueId i, seq,
      incarnation := s.rd R.CERGA_INCARNATION_VALUE, status, credit, nonce := s.cergaNonce n, info, last, ece := x.ece, payload,
      cipher := [], tag := [] }
  let s := ((s.send (.cerga (r.sealed (s.streamKey i epoch)))).countTx x.reply.port).setStream i
    { x with nonces := AMap.set x.nonces epoch (n + 1), ece := false }
  s.chargeIn window (s.pdAccount (s.queuePd i)) 13 (cergaFrame x.reply.ipv6 payload.length)

/-- Sends one packet under the stream's epoch. -/
def State.cergaSend (s : State) (i : Nat) (window : Nat) (opcode seq status credit info : Nat) (last : Bool)
    (payload : List Byte) : State :=
  s.cergaSendAs i (s.stream i).epoch window opcode seq status credit info last payload

/-- The 128-byte map of an ACK: bit i reports SEQ CUM + i (R103). -/
def ackMap (x : Stream) : List Byte :=
  leBytes 128 (x.map.foldl (fun n q => if seqAbove q x.cum < 1024 then n ||| 2 ^ seqAbove q x.cum else n) 0)

/-- An ACK (R103): it covers every packet so far. -/
def State.cergaAck (s : State) (i : Nat) : State :=
  let x := s.stream i
  let s := s.cergaSend i s.meter.current.id 0x40 x.cum 0 0 (s.credit x) true (ackMap x)
  s.updStream i (fun x => { x with uncovered := [], sinceAck := 0 })

/-- A NAK with a reason of Table 5-6, under an epoch (R104). -/
def State.cergaNakAs (s : State) (i epoch seq reason : Nat) : State :=
  s.cergaSendAs i epoch s.meter.current.id 0x41 (s.stream i).cum reason 0 seq true []

/-- A NAK under the stream's epoch. -/
def State.cergaNak (s : State) (i seq reason : Nat) : State := s.cergaNakAs i (s.stream i).epoch seq reason

/-- CREDIT_4 of a response: units of 4 packets, 255 for 1,020 or more. -/
def State.credit4 (s : State) (x : Stream) : Nat := min 255 (s.credit x / 4)

/-- A response packet of an operation; it covers the packets of its own operation (R103). -/
def State.cergaRespond (s : State) (i window seq opcode status info : Nat) (last : Bool) (payload : List Byte) : State :=
  s.cergaSend i window (opcode ||| 0x80) seq status (s.credit4 (s.stream i)) info last payload

/-- Packets of an operation that begins at `seq` are covered by its response. -/
def State.coverResponse (s : State) (i seq packets : Nat) : State :=
  s.updStream i (fun x => { x with uncovered := x.uncovered.filter (fun q => !decide (seqAbove q.1 seq < packets)) })

/-- The progress record of R110. -/
def progressPayload (bytes shift bitmap : Nat) : List Byte := leBytes 4 bytes ++ leBytes 1 shift ++ leBytes 3 0 ++ leBytes 8 bitmap

/-- Bits of the poisoned chunks among those a packet's data touches (R111). -/
def poisonBits (marks : List Nat) (firstChunk n : Nat) : Nat :=
  (rangeFrom 0 n).foldl (fun v j => if marks.contains (firstChunk + j) then v ||| 2 ^ j else v) 0

/-- Sends a read response packet by packet: at most 127 chunks each, all but the last ending on a chunk boundary (R111). `a` is the
pair-local address of the next byte, `off` its offset. -/
def State.cergaData (s : State) (i window seq opcode status len a : Nat) (marks : List Nat) : Nat → Nat → List Byte → State
  | 0, _, _ => s
  | fuel + 1, off, d =>
    let k := min d.length (127 * 64 - a % 64)
    let chunks := if k = 0 then 0 else (a + k - 1) / 64 + 1 - a / 64
    let pay := leBytes 4 len ++ leBytes 4 0 ++ leBytes 16 (poisonBits marks (a / 64) chunks) ++ d.take k
    let last := decide (d.length ≤ k)
    let s := s.cergaRespond i window seq opcode status off last pay
    if last then s else s.cergaData i window seq opcode status len (a + k) marks fuel (off + k) (d.drop k)

/-- A result-cache entry takes its place (R101): when all 32 are taken, or kept for the `reserve` atomics that run, it replaces the
oldest write entry, and without one it is not cached (assumption log 181). -/
def State.cacheResult (s : State) (i : Nat) (e : CachedResult) (reserve : Nat) : State :=
  s.updStream i (fun x =>
    if x.cache.length + reserve < 32 then { x with cache := x.cache ++ [e] }
    else match x.cache.find? (fun c => c.opcode == 2) with
      | some o => { x with cache := x.cache.erase o ++ [e] }
      | none => x)

/-! ### RoCEv2 -/

def State.qp? (s : State) (q : Nat) : Option Qp := AMap.get? s.roce.qps q
def State.setQp (s : State) (q : Nat) (x : Qp) : State := { s with roce.qps := AMap.set s.roce.qps q x }

/-- The QPN of an index (R123). -/
def qpn (q : Nat) : Nat := q + 0x100000

/-- Frame bytes of a RoCEv2 packet: Ethernet, IPv6 (or IPv4-mapped, 20 bytes less), UDP, BTH, extension headers, ICRC, FCS. -/
def roceFrame (dip : Nat) (body : Nat) : Nat := 14 + (if dip / 2 ^ 32 = 0xFFFF then 20 else 40) + 8 + 12 + body + 4 + 4

/-- Sends one packet to a QP's requester, from the port on which its request arrived, with ECT(0) (R124, R131). -/
def State.roceSend (s : State) (q port window bth psn : Nat) (syn : Option Nat) (payload : List Byte) : State :=
  match s.qp? q with
  | none => s
  | some x =>
    let r : RoceReply :=
      { dip := x.dip, dqpn := x.dqpn, tclass := x.tclass / 4 * 4 + 2, flow := x.flow, hop := x.hop, port, bth,
        psn := psn % 2 ^ 24, syndrome := syn, payload }
    ((s.send (.roce r)).countTx port).chargeIn window (s.pdAccount x.pd) 13 (roceFrame x.dip ((if syn.isSome then 4 else 0) + payload.length))

/-- The state ERR of a QP: what it owed is gone. -/
def State.setQpErr (s : State) (q : Nat) (x : Qp) : State :=
  s.setQp q { x with state := .err, write := none, acks := [], owed := [] }

/-- The QP goes to ERR: every such transition raises the event of R130 with the QPN, PSN and status. -/
def State.qpToErr (s : State) (q psn status : Nat) : State :=
  match s.qp? q with
  | none => s
  | some x =>
    if x.state = .err then s
    else (s.setQpErr q x).raise Ev.ROCE_QP_ERROR
      [(4, qpn q), (4, psn % 2 ^ 24), (1, status)]

/-- Records the last mapping other than DONE (ROCE_LAST_NAK). -/
def State.lastNak (s : State) (q status : Nat) : State := (s.wr R.ROCE_LAST_NAK_QPN (qpn q)).wr R.ROCE_LAST_NAK_STATUS status

/-- An earlier operation of the QP still runs or waits: a NAK for PSN `psn` waits for its response (R129). -/
def State.roceBehind (s : State) (q psn : Nat) : Bool :=
  let earlier (r : Request) : Bool := r.src == .roce q && decide (2 ^ 23 ≤ (r.seq + 2 ^ 24 - psn % 2 ^ 24) % 2 ^ 24)
  s.eng.ops.any (fun o => earlier o.req && !o.responded) || s.eng.waiting.any (fun w => earlier w.req)

/-- Sends a NAK and takes the QP to ERR where it is fatal. -/
def State.roceNakNow (s : State) (q port window psn syn : Nat) (fatal : Option Nat) : State :=
  let s := s.roceSend q port window 0x11 psn (some syn) []
  match fatal with
  | some st => s.qpToErr q psn st
  | none => s

/-- Sends a NAK in PSN order: behind the responses of earlier operations it is owed until they have left (R129). -/
def State.roceNakInOrder (s : State) (q port window psn syn : Nat) (fatal : Option Nat) : State :=
  if s.roceBehind q psn then
    match s.qp? q with
    | some x => s.setQp q { x with owed := x.owed ++ [⟨psn, port, syn, fatal⟩] }
    | none => s
  else s.roceNakNow q port window psn syn fatal

/-- A NAK for a status of Table 4-2, as Table 6-5 maps it; a fatal one takes the QP to ERR. `invalid` says that the status stands
for a misaligned atomic. -/
def State.roceNak (s : State) (q port window psn status : Nat) (invalid : Bool) : State :=
  let s := s.lastNak q status
  if status = St.BUSY ∨ status = St.RESTORING then
    s.roceNakInOrder q port window psn (0x20 + ((s.qp? q).map (·.minRnr)).getD 0 % 32) none
  else if status = St.NOT_ACTIVE then s
  else
    let code := if invalid ∨ status = St.DENIED_CIPHER_LIMIT then 1
      else if status = St.DENIED_PROTECTION ∨ status = St.DENIED_KEY ∨ status = St.DENIED_LIFECYCLE then 2 else 3
    s.roceNakInOrder q port window psn (0x60 + code) (some status)

/-- The NAKs that waited and that no earlier operation precedes any more leave, in the order they were owed (R129). -/
def State.settleOwed (s : State) (q window : Nat) : Nat → State
  | 0 => s
  | fuel + 1 => match s.qp? q with
    | none => s
    | some x => match x.owed with
      | [] => s
      | r :: rest =>
        if s.roceBehind q r.psn then s
        else ((s.setQp q { x with owed := rest }).roceNakNow q r.port window r.psn r.syndrome r.fatal).settleOwed q window fuel

/-- The packets of a write or atomic that an RNR NAK asks for again are requests when they come again (assumption log 38). -/
def State.rememberRetry (s : State) (q psn n : Nat) : State :=
  match s.qp? q with
  | some x => s.setQp q { x with retry := x.retry.filter (fun r => r.1 != psn) ++ [(psn, n)] }
  | none => s

/-- NAK Invalid Request outside a status (Table 6-2, R129). -/
def State.roceInvalid (s : State) (q port psn : Nat) : State :=
  (s.lastNak q St.DENIED_PROTECTION).roceNakInOrder q port s.meter.current.id psn 0x61 (some St.DENIED_PROTECTION)

/-- RDMA READ responses of at most 4,096 bytes each, from PSN `psn`; before a packet that would hold a poisoned chunk a NAK Remote
Operational Error ends them (R78, R130). `a` is the address of the next byte. -/
def State.roceData (s : State) (q port window a : Nat) (marks : List Nat) (first : Bool) : Nat → Nat → List Byte → State
  | 0, _, _ => s
  | fuel + 1, psn, d =>
    let k := min 4096 d.length
    let bad := k != 0 && marks.any (fun c => decide (a / 64 ≤ c ∧ c ≤ (a + k - 1) / 64))
    if bad then s.roceNak q port window psn St.POISON_RETURNED false
    else
      let last := decide (d.length ≤ 4096)
      let bth := if first && last then 0x10 else if first then 0x0D else if last then 0x0F else 0x0E
      let s := s.roceSend q port window bth psn (if bth = 0x0E then none else some 0x1F) (d.take k)
      if last then s else s.roceData q port window (a + k) marks false fuel (psn + 1) (d.drop k)

end Sys2Proof.Machine
end

