-- ==== Sys2Proof/Machine/KeeperFlash.lean ====
section
/-! DEFINITION. Keeper flash: areas, window sequences, programs and erases with their flags, wear, and the rotating log
(R418 to R433). -/

namespace Sys2Proof.Machine

open Sys2Proof

/-! ### Areas and the window -/

/-- The keeper runs: VK_3V3 is present and it has not stopped its circuits under R413. -/
def State.keeperRuns (s : State) : Bool := s.keeper.powered && !s.keeper.stopped

/-- A path reaches the keeper: the management port while the keeper runs, PCIe while the core die is powered too. -/
def State.pathOpen (s : State) : Path → Bool
  | .mgmt => s.keeperRuns
  | .pcie => s.keeperRuns && s.coreOn

/-- Bytes 0 to 15 of a manifest (Table 21-2), which every image authenticates (R438). -/
def Package.head (p : Package) : List Byte :=
  leBytes 4 p.magic ++ leBytes 2 p.version ++ leBytes 2 p.flags ++ leBytes 4 p.imageSvn ++ leBytes 1 p.fuseEpoch ++ leBytes 1 p.count
    ++ leBytes 2 p.schema

/-- The 96 bytes of a COMPONENTS entry (Table 21-2). -/
def Component.entry (c : Component) : List Byte :=
  leBytes 1 c.type ++ leBytes 3 0 ++ leBytes 4 c.svn ++ leBytes 4 c.offset ++ leBytes 4 c.image.length ++ beBytes 12 c.iv ++ leBytes 16 c.tag
    ++ leBytes 48 c.digest ++ leBytes 4 0

/-- Areas whose window reads return 0 (Table 20-1): life cycle, keys, area spares. -/
def hiddenSector (n : Nat) : Bool := decide (1 ≤ n ∧ n ≤ 6) || decide (235 ≤ n)

/-- A slot of FW_STATUS reads TRIAL (Table 21-3). -/
def State.trialPending (s : State) : Bool := s.rd R.FW_STATUS_SLOT_A == 2 || s.rd R.FW_STATUS_SLOT_B == 2

/-- Whether a path's window sequences may change sector `n` (Table 20-1, R444): the settings slot that is not live while no
slot is TRIAL, and keeper firmware slot A from the management port while keeper ROM holds recovery. -/
def State.windowOpens (s : State) (p : Path) (n : Nat) : Bool :=
  let live := s.rd R.FW_SETTINGS_LIVE_SLOT
  (decide (9 ≤ n ∧ n ≤ 24) && live != 0 && !s.trialPending) || (decide (25 ≤ n ∧ n ≤ 40) && live != 1 && !s.trialPending)
    || (decide (43 ≤ n ∧ n ≤ 106) && p == .mgmt && s.keeper.flash.romRecovery)

def State.windowPath (s : State) : Path → WindowPath
  | .pcie => s.keeper.flash.pcie
  | .mgmt => s.keeper.flash.mgmt

def State.setWindowPath (s : State) (p : Path) (w : WindowPath) : State :=
  match p with
  | .pcie => { s with keeper.flash.pcie := w }
  | .mgmt => { s with keeper.flash.mgmt := w }

/-- Ends a path's sequence with an ERROR code of KEEPER_FLASH_STATUS. -/
def State.windowError (s : State) (p : Path) (code : Nat) : State :=
  s.setWindowPath p { s.windowPath p with writes := [], error := code }

/-- The word at keeper flash word number `w`; an erased word reads all ones. -/
def State.flashWord (s : State) (w : Nat) : Nat := (AMap.get? s.keeper.flash.words w).getD 0xFFFFFFFF

def State.setFlashWord (s : State) (w v : Nat) : State :=
  { s with keeper.flash.words :=
      if v = 0xFFFFFFFF then AMap.del s.keeper.flash.words w else AMap.set s.keeper.flash.words w v }

def State.sector (s : State) (n : Nat) : Sector := (AMap.get? s.keeper.flash.sectors n).getD ⟨0, 0, 0, false⟩

def State.setSector (s : State) (n : Nat) (x : Sector) : State :=
  { s with keeper.flash.sectors := AMap.set s.keeper.flash.sectors n x }

/-- Programs STARTED in the first unused flag entry; a full row of 32 is erased first (R423). -/
def State.flagStarted (s : State) (n : Nat) : State :=
  let x := s.sector n
  s.setSector n (if x.started = 32 then { x with started := 1, done := 0 } else { x with started := x.started + 1 })

/-- The operation at the front of the queue begins: an erase programs its STARTED (R423). -/
def State.beginOp (s : State) (op : KOp) : State := if op.kind = .erase then s.flagStarted (op.addr / 0x10000) else s

/-- A sequence is complete: it is accepted and its operation queued, unless its target is closed (PROTECTED) or two
operations already wait behind the running one (BUSY) (R420, R422). -/
def State.submitOp (s : State) (op : KOp) : State :=
  let p := op.path
  if !s.windowOpens p (op.addr / 0x10000) then s.windowError p 1
  else if decide (3 ≤ s.keeper.flash.ops.length) then s.windowError p 5
  else
    let code := match op.kind with | .word => 1 | .buffer => 2 | .erase => 3
    let s := s.setWindowPath p { s.windowPath p with writes := [], busy := true, op := code, error := 0 }
    let first := s.keeper.flash.ops.isEmpty
    let s := { s with keeper.flash.ops := s.keeper.flash.ops ++ [op] }
    if first then s.beginOp op else s

/-- The keeper flash address that a window offset shows on a path's page (R419). -/
def State.windowAddr (s : State) (p : Path) (off : Nat) : Nat := (s.windowPath p).page * 0x8000 + off % 0x8000

/-- WORD_PROGRAM: the four writes of its sequence (Table 20-2). -/
def execWordProgram (p : Path) (off word : Nat) (s : State) : Host.Outcome State Fault Refusal :=
  .next (if s.pathOpen p then s.submitOp ⟨p, .word, s.windowAddr p (off / 4 * 4), [word % 2 ^ 32]⟩ else s)

/-- BUFFER_PROGRAM: 1 to 16 words at ascending targets inside one 64-byte line; anything else is ERROR SEQUENCE. -/
def execBufferProgram (p : Path) (off : Nat) (words : List Nat) (s : State) : Host.Outcome State Fault Refusal :=
  .next <|
    if !s.pathOpen p then s
    else if words.isEmpty || decide (64 < off % 64 / 4 * 4 + 4 * words.length) then s.windowError p 2
    else s.submitOp ⟨p, .buffer, s.windowAddr p (off / 4 * 4), words.map (· % 2 ^ 32)⟩

/-- SECTOR_ERASE of the sector that holds the target (Table 20-2). -/
def execSectorErase (p : Path) (off : Nat) (s : State) : Host.Outcome State Fault Refusal :=
  .next (if s.pathOpen p then s.submitOp ⟨p, .erase, s.windowAddr p off / 0x10000 * 0x10000, []⟩ else s)

/-- ABORT: a write of 0xF0 ends a sequence silently (R420). -/
def execAbort (p : Path) (s : State) : Host.Outcome State Fault Refusal :=
  .next (if s.pathOpen p then s.setWindowPath p { s.windowPath p with writes := [] } else s)

/-- More than 10 ms between two writes of a sequence: ERROR SEQUENCE (R420). -/
def execSequenceGapTimeout (p : Path) (s : State) : Host.Outcome State Fault Refusal :=
  .next <|
    let w := s.windowPath p
    if s.keeperRuns && !w.writes.isEmpty && decide (w.lastWrite + ms 10 < s.now) then s.windowError p 2 else s

/-- The command byte writes that open each sequence, by window offset and value (Table 20-2). -/
def unlock : List (Nat × Nat) := [(0x0AA8, 0xAA), (0x0554, 0x55)]

/-- Whether `xs` is an initial part of `ys`. -/
def initialPart : List (Nat × Nat) → List (Nat × Nat) → Bool
  | [], _ => true
  | _, [] => false
  | x :: xs, y :: ys => x == y && initialPart xs ys

/-- What the writes of a window sequence amount to so far. -/
inductive SeqProgress where
  | partly
  | broken
  | word (off v : Nat)
  | buffer (off : Nat) (words : List Nat)
  | erase (off : Nat)
  deriving DecidableEq, Repr

/-- The words of a buffer program from its first target on; a target that is passed over keeps its word. -/
def lineWords (data : List (Nat × Nat)) : List Nat :=
  let first := (data.headD (0, 0)).1 / 4
  let last := (data.getLast?.getD (0, 0)).1 / 4
  (rangeFrom first (last + 1 - first)).map (fun w => ((data.find? (fun e => e.1 / 4 == w)).map (·.2)).getD 0xFFFFFFFF)

/-- Whether data targets ascend by words inside one 64-byte line. -/
def ascending : List (Nat × Nat) → Bool
  | (a, _) :: (b, w) :: r => decide (a < b) && a / 64 == b / 64 && ascending ((b, w) :: r)
  | _ => true

/-- Matches the writes of a sequence with Table 20-2. -/
def seqProgress (ws : List (Nat × Nat)) : SeqProgress :=
  if initialPart ws unlock then .partly
  else match ws.drop 2 with
  | (0x0AA8, 0xA0) :: r =>
    if ws.take 2 != unlock then .broken
    else match r with
      | [] => .partly
      | (o, v) :: _ => .word o v
  | (0x0AA8, 0x25) :: r =>
    if ws.take 2 != unlock then .broken
    else match r with
      | [] => .partly
      | (o, n) :: ds =>
        if o ≠ 0x0AA8 ∨ 15 < n then .broken
        else
          let data := ds.take (n + 1)
          if !ascending data then .broken
          else if ds.length ≤ n + 1 then .partly
          else if ds.drop (n + 1) == [((data.headD (0, 0)).1, 0x29)] then .buffer (data.headD (0, 0)).1 (lineWords data)
          else .broken
  | (0x0AA8, 0x80) :: r =>
    if ws.take 2 != unlock then .broken
    else if initialPart r unlock then .partly
    else if r.take 2 != unlock then .broken
    else match r.drop 2 with
      | [] => .partly
      | (o, v) :: _ => if v = 0x30 then .erase o else .broken
  | _ => .broken

/-- The next write of these is a data word of a program (Table 20-2). -/
def dataNext (ws : List (Nat × Nat)) : Bool :=
  match ws.drop 2 with
  | [(_, 0xA0)] => true
  | (_, 0x25) :: (_, n) :: ds => decide (ds.length ≤ n)
  | _ => false

/-- One write into the window: ABORT, the next write of a sequence, or ERROR SEQUENCE (R420). A data word of 0xF0 is data (assumption log
206). -/
def State.windowWrite (s : State) (p : Path) (off v : Nat) : State :=
  let w := s.windowPath p
  let late := !w.writes.isEmpty && decide (w.lastWrite + ms 10 < s.now)
  let s := if late then s.windowError p 2 else s
  let w := s.windowPath p
  if v = 0xF0 ∧ !dataNext w.writes then s.setWindowPath p { w with writes := [] }
  else
    let ws := w.writes ++ [(off, v)]
    match seqProgress ws with
    | .partly => s.setWindowPath p { w with writes := ws, lastWrite := s.now }
    | .broken => s.windowError p 2
    | .word o x => s.submitOp ⟨p, .word, s.windowAddr p o, [x]⟩
    | .buffer o xs => s.submitOp ⟨p, .buffer, s.windowAddr p o, xs⟩
    | .erase o => s.submitOp ⟨p, .erase, s.windowAddr p o / 0x10000 * 0x10000, []⟩

/-- A repeat slot word: the count and the complement of the XOR of its three bytes (Table 20-4). -/
def slotWord (n : Nat) : Nat :=
  let n := n % 2 ^ 24
  n * 256 + (255 - ((n % 256) ^^^ (n / 256 % 256) ^^^ (n / 65536)))

/-- The 64 bytes of a log record (Table 20-4). -/
def LogRecord.bytes (r : LogRecord) : List Byte :=
  let flags := (if r.continued then 1 else 0) + (if r.fromCore then 2 else 0) + (if r.onHoldup then 4 else 0)
  let front := leBytes 4 r.seq ++ leBytes 1 r.kind ++ leBytes 1 r.severity ++ leBytes 2 r.source ++ leBytes 4 r.opHours
    ++ leBytes 4 r.cycles ++ leBytes 8 r.tai ++ leBytes 1 r.time ++ leBytes 1 flags ++ leBytes 2 0 ++ leBytes 4 r.repeatBase
    ++ leBytes 12 r.detail
  let slots := (r.slots.map slotWord ++ [0xFFFFFFFF, 0xFFFFFFFF, 0xFFFFFFFF]).take 3
  front ++ leBytes 4 (crc32 front) ++ (slots.map (leBytes 4)).flatten ++ leBytes 4 0x5AA50000

/-- Sixteen little-endian words of 64 bytes. -/
def wordsOf : List Byte → Nat → List Nat
  | _, 0 => []
  | bs, n + 1 => leNat (bs.take 4) :: wordsOf (bs.drop 4) n

/-- Word `i` of stored bytes; erased beyond them. -/
def storedWordAt (bs : List Byte) (i : Nat) : Nat := leNat ((bs.drop (4 * i)).take 4 ++ List.replicate (4 - (bs.length - 4 * i)) 0xFF) % 2 ^ 32

/-- The copy of an area with two copies that was written last: the other one has been erased since (R418). -/
def State.liveCopy (s : State) (first : Nat) : Nat := if (s.sector first).erases ≤ (s.sector (first + 1)).erases then first else first + 1

/-- Word `i` of a slot's manifest sector: the fields of Table 21-2; its keys and signatures are open values. -/
def manifestWord (p : Package) (i : Nat) : Nat :=
  let head := Package.head p ++ leBytes 4 p.length ++ leBytes 12 0 ++ (p.components.map Component.entry).flatten
  if i < 128 then storedWordAt head i
  else if i < 1983 then Config.crypto 35 [i, p.keysDigest, p.imageSvn] % 2 ^ 32
  else 0xFFFFFFFF

/-- What a slot of keeper firmware shows: the encrypted image of type 1, from the slot's start. -/
def firmwareWord (p : Option Package) (i : Nat) : Nat :=
  storedWordAt ((p.bind (fun x => (x.components.find? (fun c => c.type == 1)).map (·.image))).getD []) i

/-- What word `w` of keeper flash shows where no program of the window lies. The calibration row, the form in which settings are stored,
and a log sector that waits for its erase are open values (assumption log 206). -/
def State.heldWord (s : State) (w : Nat) : Nat :=
  let n := w / 0x4000
  let i := w % 0x4000
  if n = 0 then Config.crypto 36 [w] % 2 ^ 32
  else if n = 7 ∨ n = 8 then
    if s.liveCopy 7 = n then Config.crypto 37 (i :: (s.keeper.flash.settings.map (fun e => e.1 * 2 ^ 32 + e.2))) % 2 ^ 32 else 0xFFFFFFFF
  else if n = 41 ∨ n = 42 then ((if n = 41 then s.fw.slotA else s.fw.slotB).map (fun p => manifestWord p i)).getD 0xFFFFFFFF
  else if 43 ≤ n ∧ n ≤ 106 then
    if s.keeper.flash.romRecovery || s.keeper.flash.words.any (fun e => decide (43 * 0x4000 ≤ e.1 ∧ e.1 < 107 * 0x4000)) then 0xFFFFFFFF
    else firmwareWord s.fw.slotA (w - 43 * 0x4000)
  else if 107 ≤ n ∧ n ≤ 170 then firmwareWord s.fw.slotB (w - 107 * 0x4000)
  else if s.keeper.flash.pendingErase.contains n then Config.crypto 36 [w] % 2 ^ 32
  else match s.keeper.flash.logSectors.findIdx? (· == n) with
    | some k => match s.keeper.flash.log[k * 1024 + i / 16]? with
      | some r => (wordsOf r.bytes 16).getD (i % 16) 0
      | none => 0xFFFFFFFF
    | none => 0xFFFFFFFF

/-- What a window read of word `w` shows (Table 20-1). -/
def State.shownWord (s : State) (w : Nat) : Nat :=
  if hiddenSector (w / 0x4000) then 0
  else match AMap.get? s.keeper.flash.words w with
    | some v => v
    | none => s.heldWord w

/-- A window read: all ones while the path's operation runs, 0 in a hidden area, flash data otherwise; in the middle of a
sequence it ends the sequence (R419, R420). -/
def State.windowRead (s : State) (p : Path) (off : Nat) : Nat × State :=
  let w := s.windowPath p
  let s := if w.writes.isEmpty then s else s.windowError p 2
  let a := s.windowAddr p off
  (if w.busy then 0xFFFFFFFF else s.shownWord (a / 4), s)

/-! ### Wear -/

/-- One program or erase has ended with `n` retries: RETRY_MEAN_16 over the last 256, and KFLASH_WEAR when it passes 8
(R431). -/
def State.countRetries (s : State) (n : Nat) : State :=
  let l := (s.keeper.flash.retries ++ [n])
  let l := l.drop (l.length - 256)
  let mean := 16 * l.sum / l.length
  let s := { s.wr R.KEEPER_FLASH_WEAR_RETRY_MEAN_16 (min 255 mean) with keeper.flash.retries := l }
  if decide (8 < mean) && !s.keeper.flash.warned then
    { s with keeper.flash.warned := true }.raiseKeeper Ev.FIRMWARE_PACE_KFLASH_WEAR [(1, min 255 mean)]
  else if mean ≤ 8 then { s with keeper.flash.warned := false }
  else s

/-- Retires a sector that failed: sectors 1 to 42 take an area spare, a log sector leaves the pool, and SPARES_LOW follows at
its limits (R431). -/
def State.retireSector (s : State) (n : Nat) : State :=
  let s := (s.setSector n { s.sector n with retired := true, done := (s.sector n).started }).bumpSat R.KEEPER_FLASH_WEAR_RETIRED 0 1
  let s := s.raiseKeeper Ev.FIRMWARE_PACE_KFLASH_RETIRED [(1, n)]
  if 1 ≤ n ∧ n ≤ 42 then
    let left := s.rd R.KEEPER_FLASH_WEAR_AREA_SPARES
    let s := s.wr R.KEEPER_FLASH_WEAR_AREA_SPARES (left - 1)
    if left ≤ 5 then s.raiseKeeper Ev.FIRMWARE_PACE_KFLASH_SPARES_LOW [(1, left - 1)] else s
  else if 171 ≤ n ∧ n ≤ 234 then
    let pool := s.rd R.KEEPER_FLASH_WEAR_LOG_POOL - 1
    let s := s.wr R.KEEPER_FLASH_WEAR_LOG_POOL pool
    if pool = 24 ∨ pool < 17 then
      s.raiseKeeper Ev.FIRMWARE_PACE_KFLASH_SPARES_LOW [(1, if pool < 17 then pool - 1 else pool)] else s
  else s

/-- An erase that verified is counted, and its DONE programmed (R423, KEEPER_FLASH_CYCLES). -/
def State.countErase (s : State) (n : Nat) : State :=
  let x := s.sector n
  let s := s.setSector n { x with erases := x.erases + 1, done := x.started }
  s.wr R.KEEPER_FLASH_CYCLES_MAX_ERASES (min (2 ^ 17 - 1) (max (s.rd R.KEEPER_FLASH_CYCLES_MAX_ERASES) (x.erases + 1)))

/-- Erases a sector's words and counts the erase. -/
def State.eraseSector (s : State) (n : Nat) : State :=
  let s := { s with keeper.flash.words := s.keeper.flash.words.filter (fun e => e.1 / 0x4000 != n) }
  s.countErase n

/-- The keeper writes an area of two copies, from sector `first` on: the write goes to the copy not last written, and the older one is
erased after it (R418). -/
def State.writeCopy (s : State) (first : Nat) : State :=
  let old := s.liveCopy first
  (s.flagStarted old).countErase old

/-- The keeper erases `count` sectors from `first` on. -/
def State.eraseArea (s : State) (first count : Nat) : State :=
  (rangeFrom first count).foldl (fun s n => (s.flagStarted n).eraseSector n) s

/-- Programs words upward from word number `w`; a program only clears bits (R421). -/
def State.programWords (s : State) : Nat → List Nat → State
  | _, [] => s
  | w, v :: vs => State.programWords (s.setFlashWord w (s.flashWord w &&& v)) (w + 1) vs

/-- Whether programming these words would set a bit from 0 to 1. -/
def State.wouldSet (s : State) : Nat → List Nat → Bool
  | _, [] => false
  | w, v :: vs => (s.flashWord w &&& v) != v || State.wouldSet s (w + 1) vs

/-- A keeper flash program or erase of the window ends, verified at margin with `retries` further pulses; `ok` false is a
fifth failure (R421, R423). -/
def execKeeperFlashOpComplete (retries : Nat) (ok : Bool) (s : State) : Host.Outcome State Fault Refusal :=
  .next <|
    match s.keeper.flash.ops with
    | [] => s
    | op :: rest =>
      if !s.keeperRuns then s
      else
        let n := op.addr / 0x10000
        let fin (s : State) (e : Nat) : State :=
          let s := { s.setWindowPath op.path { s.windowPath op.path with busy := false, op := 0, error := e } with
            keeper.flash.ops := rest }
          match rest with
          | next :: _ => s.beginOp next
          | [] => s
        let s := s.countRetries (min 4 retries)
        if op.kind = .erase then
          if ok then fin (s.eraseSector n) 0 else fin (s.retireSector n) 4
        else if s.wouldSet (op.addr / 4) op.words then fin s 3
        else if ok then fin (s.programWords (op.addr / 4) op.words) 0
        else fin (s.retireSector n) 4

/-! ### Settings blobs (R444) -/

/-- The first word of a settings slot. -/
def blobBase (b : Nat) : Nat := (if b = 0 then 9 else 25) * 0x4000

/-- The bytes of a settings blob (R444). -/
def Settings.bytes (x : Settings) : List Byte :=
  let body := leBytes 4 0x5347534C ++ leBytes 2 x.schema ++ leBytes 2 0 ++ leBytes 4 x.entries.length ++ leBytes 4 x.seq
    ++ (x.entries.map (fun e => leBytes 4 e.1 ++ leBytes 4 e.2)).flatten
  body ++ leBytes 4 (crc32 body)

/-- The blob that a settings slot holds: MAGIC, a count that fits and the CRC-32 agree. -/
def State.blobAt (s : State) (b : Nat) : Option Settings :=
  let w := blobBase b
  let n := s.flashWord (w + 2)
  let body := (rangeFrom w (4 + 2 * n)).map s.flashWord
  if s.flashWord w = 0x5347534C ∧ n ≤ 131069 ∧ crc32 (body.map (leBytes 4)).flatten = s.flashWord (w + 4 + 2 * n) then
    some { schema := s.flashWord (w + 1) % 2 ^ 16, seq := s.flashWord (w + 3)
           entries := (rangeFrom 0 n).map (fun i => (s.flashWord (w + 4 + 2 * i), s.flashWord (w + 5 + 2 * i))) }
  else none

/-- The keeper writes a settings blob into a slot. -/
def State.writeBlob (s : State) (b : Nat) (x : Settings) : State :=
  let bs := Settings.bytes x
  let s := s.eraseArea (if b = 0 then 9 else 25) 16
  s.programWords (blobBase b) ((rangeFrom 0 (bs.length / 4)).map (fun i => leNat ((bs.drop (4 * i)).take 4)))

/-! ### The log (R424 to R429) -/

/-- Logical sectors of the log window: 16, or the pool less one below 17 (R431). -/
def State.logWindow (s : State) : Nat := min 16 (s.rd R.KEEPER_FLASH_WEAR_LOG_POOL - 1)

/-- Log-pool sectors that are erased and free. -/
def State.freeLogSectors (s : State) : List Nat :=
  (rangeFrom 171 64).filter (fun n => !(s.sector n).retired && !s.keeper.flash.logSectors.contains n
    && !s.keeper.flash.pendingErase.contains n)

/-- The free sector with the lowest erase count (R424). -/
def State.pickLogSector (s : State) : Option Nat :=
  s.freeLogSectors.foldl (fun b n => match b with
    | none => some n
    | some m => if (s.sector n).erases < (s.sector m).erases then some n else some m) none

/-- Counters of Table 20-3 whose newest record is among the first `k` records of the log. -/
def State.countersWithin (s : State) (k : Nat) : List Nat :=
  (rangeFrom 1 8).filter (fun i =>
    (s.keeper.flash.log.take k).any (fun r => r.kind == 2 && r.source == i)
      && !(s.keeper.flash.log.drop k).any (fun r => r.kind == 2 && r.source == i)
      && !s.keeper.flash.ram.any (fun r => r.kind == 2 && r.source == i))

/-- Appends a record with the next SEQ and moves HEAD and TAIL. -/
def State.appendLog (s : State) (r : LogRecord) : State :=
  let q := s.keeper.flash.nextSeq
  let s := { s with keeper.flash.log := s.keeper.flash.log ++ [{ r with seq := q }]
                    keeper.flash.nextSeq := (q + 1) % 2 ^ 32 }
  (s.wr R.KEEPER_LOG_HEAD_SEQ q).wr R.KEEPER_LOG_TAIL_SEQ ((s.keeper.flash.log.head?.map (·.seq)).getD q)

/-- Releases the oldest logical sector once fresh copies of the counters whose newest record lies in it stand at the head (R424, R425). -/
def State.releaseTail (s : State) : State :=
  let s := (s.countersWithin 1024).foldl (fun s i => s.appendLog (s.newLogRecord 2 i 0 (s.counter i) 0 false false)) s
  let s := { s with keeper.flash.pendingErase := s.keeper.flash.pendingErase ++ s.keeper.flash.logSectors.take 1
                    keeper.flash.logSectors := s.keeper.flash.logSectors.drop 1
                    keeper.flash.log := s.keeper.flash.log.drop 1024 }
  s.wr R.KEEPER_LOG_TAIL_SEQ ((s.keeper.flash.log.head?.map (·.seq)).getD (s.rd R.KEEPER_LOG_TAIL_SEQ))

/-- Makes room at the head: a full head sector is followed by the least worn free one; the oldest logical sector is released
once fresh copies of the counters in it stand at the head (R424, R425). `none`: no erased free sector is ready, or the pool has fewer than 2
sectors (R431). -/
def State.logHead (s : State) : Option State :=
  if s.rd R.KEEPER_FLASH_WEAR_LOG_POOL < 2 then none
  else if s.keeper.flash.logSectors.length * 1024 ≤ s.keeper.flash.log.length then
    match s.pickLogSector with
    | none => none
    | some n =>
      let s := { s with keeper.flash.logSectors := s.keeper.flash.logSectors ++ [n] }
      some ((rangeFrom 0 (s.keeper.flash.logSectors.length - s.logWindow)).foldl (fun s _ => s.releaseTail) s)
  else some s

/-- Tokens of the log's rate limit, in billionths of a record: RATE a second, up to 256 records (R428). -/
def State.logTokens (s : State) : Nat :=
  min (sec 256) (s.keeper.flash.tokens + (s.now - s.keeper.flash.tokensAt) * s.rd R.KEEPER_LOG_CFG_RATE)

/-- The keeper writes the oldest record of its RAM ring to the log head; an event needs a token of the rate limit, a counter
does not (R424, R426, R428). -/
def execKeeperLogAppend (s : State) : Host.Outcome State Fault Refusal :=
  .next <|
    match s.keeper.flash.ram with
    | [] => s
    | r :: rest =>
      let t := s.logTokens
      if !s.keeperRuns || (r.kind == 1 && decide (t < sec 1)) then s
      else match s.logHead with
        | none => s
        | some s =>
          let s := { s with keeper.flash.ram := s.keeper.flash.ram.drop 1
                            keeper.flash.tokens := if r.kind = 1 then t - sec 1 else t
                            keeper.flash.tokensAt := s.now }
          s.appendLog r

/-- Changes the newest event record, in RAM or on flash. -/
def State.updNewestEvent (s : State) (f : LogRecord → LogRecord) : State :=
  let go (l : List LogRecord) : List LogRecord × Bool :=
    l.reverse.foldl (fun (acc : List LogRecord × Bool) r =>
      if !acc.2 && r.kind == 1 then (f r :: acc.1, true) else (r :: acc.1, acc.2)) ([], false)
  let a := go s.keeper.flash.ram
  if a.2 then { s with keeper.flash.ram := a.1 }
  else { s with keeper.flash.log := (go s.keeper.flash.log).1 }

/-- The newest event record. -/
def State.newestEvent (s : State) : Option LogRecord :=
  (s.keeper.flash.log ++ s.keeper.flash.ram).reverse.find? (fun r => r.kind == 1)

/-- A repeat count is written: 1 s after the last repeat, or every 60 s while repeats continue; when the slots are used up or
the count is too large, a CONTINUED record carries the total (R427). -/
def execRepeatSlotTimer (s : State) : Host.Outcome State Fault Refusal :=
  .next <|
    match s.keeper.flash.flood with
    | none => s
    | some f =>
      if s.keeperRuns && f.unwritten && (decide (f.last + sec 1 ≤ s.now) || decide (f.lastSlot + sec 60 ≤ s.now)) then
        let used := (s.newestEvent.map (·.slots.length)).getD 0
        if used < 3 ∧ f.count ≤ 16777215 then
          { s.updNewestEvent (fun r => { r with slots := r.slots ++ [f.count] }) with
            keeper.flash.flood := some { f with unwritten := false, lastSlot := s.now } }
        else
          let total := f.base + f.count
          { s.queueLog (s.newLogRecord 1 f.source f.severity f.detail total true f.fromCore) with
            keeper.flash.flood := some { f with base := total, count := 0, unwritten := false, lastSlot := s.now } }
      else s

/-- A released log sector is erased in the background, with its flags, and returns to the pool; one that fails is retired
(R423, R424, R431). -/
def execLogSectorErase (retries : Nat) (ok : Bool) (s : State) : Host.Outcome State Fault Refusal :=
  .next <|
    match s.keeper.flash.pendingErase with
    | [] => s
    | n :: rest =>
      if s.keeperRuns then
        let s := { (s.flagStarted n).countRetries (min 4 retries) with keeper.flash.pendingErase := rest }
        if ok then s.eraseSector n else s.retireSector n
      else s

/-- Puts the words of a record into KEEPER_LOG_DATA. -/
def State.showRecord (s : State) (r : LogRecord) : State :=
  ((List.range 16).zip (wordsOf r.bytes 16)).foldl (fun s e => s.wrN R.KEEPER_LOG_DATA_DATA e.1 e.2) s

/-- A SEQ written to KEEPER_LOG_SEL: READY with the record, or NOT_FOUND (R429). -/
def State.selectRecord (s : State) (q : Nat) : State :=
  let s := s.wr R.KEEPER_LOG_SEL_SEQ q
  match s.keeper.flash.log.find? (fun r => r.seq == q % 2 ^ 32) with
  | some r => (s.showRecord r).wr R.KEEPER_LOG_STATUS_STATE 2
  | none => s.wr R.KEEPER_LOG_STATUS_STATE 3

/-- LOG_RECORD_SELECT by either path (R429). -/
def execLogRecordSelect (p : Path) (q : Nat) (s : State) : Host.Outcome State Fault Refusal :=
  .next (if s.pathOpen p then s.selectRecord q else s)

/-- Every 0.1 h with VK_3V3 present, counter 1 advances (R425, Table 20-3). -/
def execOpHoursTick (s : State) : Host.Outcome State Fault Refusal :=
  .next <|
    if s.keeper.powered && decide (s.keeper.hourAt ≤ s.now) then
      { s.setCounter 1 (s.counter 1 + 1) with keeper.hourAt := s.keeper.hourAt + sec 360 }
    else s

end Sys2Proof.Machine
end

