-- ==== Sys2Proof/Machine/Reports.lean ====
section
/-! DEFINITION. What queries return: ledger records with their listing and release, the TIME_QUERY payload, and the Hallmark report
(R83 to R85, R113 to R115, R393, R394). -/

namespace Sys2Proof.Machine

open Sys2Proof

/-! ### The ledger -/

/-- The 64 bytes of Table 4-3; `showReleased` sets FLAGS bit 3 in a copy that LEDGER_READ makes of a released record. -/
def State.ledgerBytes (s : State) (r : LedgerRecord) (showReleased : Bool) : List Byte :=
  let flags := (if r.mirrored then 1 else 0) + (if r.confirmed then 2 else 0) + (if r.resultValid then 4 else 0)
    + (if showReleased && r.released then 8 else 0)
  leBytes 1 r.kind ++ leBytes 1 r.status ++ leBytes 2 r.opcode ++ leBytes 2 r.pd ++ leBytes 2 r.pair ++ leBytes 4 r.queue
    ++ leBytes 4 r.seq ++ leBytes 8 r.addr ++ leBytes 4 r.len ++ leBytes 4 r.bytes ++ leBytes 8 r.bitmap ++ leBytes 1 r.shift
    ++ leBytes 1 flags ++ leBytes 1 r.detail ++ leBytes 1 0 ++ leBytes 4 s.ledger.saveSeq ++ leBytes 16 r.result

/-- The ledger is presented to requesters: it is there, and R192 does not set it aside. -/
def State.ledgerShown (s : State) : Bool := s.ledger.presented && !s.ledger.superseded && !s.ledger.lost

/-- An unreleased record of a requester of this pair, by KIND, QUEUE and PAIR (R84, R85). -/
def State.ownRecord (s : State) (r : LedgerRecord) (kind queue : Nat) : Bool :=
  r.kind == kind && r.queue == queue && r.pair == s.pairNo && !r.released

/-- R84: the record that an arriving request matches. -/
def State.ledgerMatch (s : State) (kind queue seq : Nat) : Bool :=
  s.ledgerShown && s.ledger.records.any (fun r => s.ownRecord r kind queue && r.seq == seq)

/-- The unreleased records that a LEDGER_QUERY of a queue sees. -/
def State.ledgerOf (s : State) (queue : Nat) : List LedgerRecord :=
  if s.ledgerShown then s.ledger.records.filter (fun r => s.ownRecord r 1 queue) else []

/-- Releases the records a test names, and answers how many were released. -/
def State.releaseRecords (s : State) (p : LedgerRecord → Bool) : Nat × State :=
  let f := fun r : LedgerRecord => if p r then ({ r with released := true } : LedgerRecord) else r
  ((s.ledger.records.filter (fun r => p r && !r.released)).length, { s with ledger.records := s.ledger.records.map f })

/-- The 4-byte words of a payload. -/
def wordAt (d : List Byte) (i : Nat) : Nat := leNat ((d.drop (4 * i)).take 4)

/-- R113: the payload, INFO and effect of a LEDGER_QUERY; START counts from 0 (DESIGN CHOICE, assumption log 108); `again` says that a RELEASE is a duplicate and is not repeated. -/
def State.ledgerQuery (s : State) (queue : Nat) (d : List Byte) (again : Bool) : List Byte × Nat × State :=
  if wordAt d 0 = 1 then
    let seqs := ((rangeFrom 4 (min 16 (wordAt d 3))).map (wordAt d))
    if again then ([], 0, s)
    else
      let shown := s.ledgerShown
      let (k, s) := s.releaseRecords (fun r => shown && s.ownRecord r 1 queue && seqs.contains r.seq)
      ([], k, s)
  else
    let l := s.ledgerOf queue
    let part := (l.drop (wordAt d 1)).take (clampTo 1 128 (wordAt d 2))
    ((part.map (fun r => s.ledgerBytes r false)).flatten, l.length, s)

/-! ### Time and attestation -/

/-- The TIME_QUERY payload (Table 5-9) of a request whose first bit arrived at TAI `arrived`. -/
def State.timePayload (s : State) (arrived : Nat) : List Byte :=
  let flags := s.rd R.DOMAIN_TIME_STATUS_SYNCED + 2 * s.rd R.DOMAIN_TIME_STATUS_LEAP_PENDING
  leBytes 8 arrived ++ leBytes 4 (s.time.tai - arrived) ++ leBytes 4 (s.rd R.DOMAIN_TIME_UNCERT_UNCERTAINTY_NS) ++ leBytes 4 flags
    ++ leBytes 4 (s.rd R.DOMAIN_TIME_STATUS_TAI_UTC_S) ++ leBytes 8 0

/-- CONFIG_DIGEST of R394: the applied settings blob, then every RW field in offset order. -/
def State.configDigest (s : State) : Nat :=
  let blob := (((s.blobAt (s.rd R.FW_SETTINGS_LIVE_SLOT)).map Settings.bytes).getD []).map BitVec.toNat
  let rw := (R.allFields.filter (fun f => f.acc == .rw)).map (fun f => (rangeFrom 0 f.count).map (s.rdN f))
  Config.crypto 1 (blob ++ rw.flatten)

/-- One of the eight MEASUREMENTS entries, as the start took it (R394). -/
def State.measurement (s : State) (i : Nat) : List Byte :=
  let m := s.fw.measured.getD i (0, 0)
  leBytes 4 i ++ leBytes 4 m.1 ++ leBytes 48 m.2 ++ leBytes 8 0

/-- The Hallmark report of Table 18-8 for a challenge. Keys, digests and signatures are the opaque results of the standards the
spec names. -/
def State.hallmarkReport (s : State) (challenge : Nat) : List Byte :=
  let flags := s.rd R.DOMAIN_TIME_STATUS_SYNCED + (if s.paired then 2 else 0) + (if s.twin.holder then 4 else 0)
    + 8 * s.rd R.TWIN_STATUS_SINGLE_RUNNING
  let head := leBytes 4 12827 ++ leBytes 2 1 ++ leBytes 1 (s.rd R.LIFE_STATE_LIFECYCLE) ++ leBytes 1 (s.rd R.LIFE_STATE_DEBUG)
    ++ leBytes 2 s.pairNo ++ leBytes 1 s.roleStrap ++ leBytes 1 flags ++ leBytes 4 (s.rd R.TWIN_TOKEN_EPOCH_VALUE)
    ++ leBytes 8 s.time.tai ++ leBytes 32 challenge ++ leBytes 48 identityDigest ++ leBytes 8 (s.twin.peer.getD 0)
    ++ leBytes 48 s.configDigest ++ leBytes 4 8 ++ leBytes 4 0 ++ ((rangeFrom 0 8).map s.measurement).flatten
  let keys := identityBytes
  let endorse := leBytes 96 (Config.crypto 14 [2]) ++ leBytes 4627 (Config.crypto 14 [3]) ++ leBytes 5 0
  let body := head ++ keys ++ endorse
  body ++ leBytes 96 (Config.crypto 15 (body.map BitVec.toNat)) ++ leBytes 4627 (Config.crypto 16 (body.map BitVec.toNat))

end Sys2Proof.Machine
end

