-- ==== Sys2Proof/Machine/Exports.lean ====
section
/-! DEFINITION. Writing export records: onto a ring, or held while it is full (R327, R328). -/

namespace Sys2Proof.Machine

open Sys2Proof

/-- The fields of Table 15-2 up to WINDOWS, and the counters, as numbers. -/
def ExportRecord.fields (r : ExportRecord) : List Nat :=
  [r.kind, r.flags, r.account, r.pair, r.start, r.tenant, r.device, r.seq, r.late, r.samples, r.windows]
    ++ (rangeFrom 0 16).map (fun i => (AMap.get? r.counters i).getD 0)

/-- The ring takes records: it is ENABLED and has room. -/
def State.exportOpen (s : State) (n : Nat) : Bool := s.ringState .ex n == 1 && !s.ringFull .ex n

/-- A record's MAC: AES-CMAC over bytes 0 to 191 under the meter key; 0 where there is none (Tables 15-2 and 17-3). -/
def State.exportMac (s : State) (r : ExportRecord) : Nat :=
  match s.meterKey with
  | some k => leNat (cmac k (exportBytes (ExportRecord.fields r)))
  | none => 0

/-- Writes a record with the ring's next SEQ and its MAC. -/
def State.writeExport (s : State) (n : Nat) (r : ExportRecord) : State :=
  let q := (AMap.get? s.meter.seqs n).getD 0
  let r := { r with seq := q }
  let mac := s.exportMac r
  let s := { s with meter.seqs := AMap.set s.meter.seqs n ((q + 1) % 2 ^ 32) }.bump R.METER_RECORDS 1
  s.ringWrite .ex n false (fun p => .export_ { r with mac, phase := p })

/-- Records that may be held (R328). -/
def heldRecords : Nat := 135168

/-- Adds a record into the oldest held one of the same account on its ring: counters summed, WINDOWS increased, MERGED set. -/
def mergeExport (n : Nat) (r : ExportRecord) : List (Nat × ExportRecord) → Option (List (Nat × ExportRecord))
  | [] => none
  | h :: t =>
    if h.1 = n ∧ h.2.kind = r.kind ∧ h.2.account = r.account ∧ h.2.tenant = r.tenant then
      let m : ExportRecord := { h.2 with
        flags := h.2.flags ||| r.flags ||| 16, late := h.2.late + r.late, samples := h.2.samples + r.samples
        windows := h.2.windows + r.windows
        counters := r.counters.foldl (fun c e => AMap.set c e.1 ((AMap.get? c e.1).getD 0 + e.2)) h.2.counters }
      some ((n, m) :: t)
    else (mergeExport n r t).map (fun t => h :: t)

/-- Holds a record; with both stores full it is merged instead. With nothing to merge into it is held all the same: no charge is ever
lost (assumption log 52). -/
def State.holdExport (s : State) (n : Nat) (r : ExportRecord) : State :=
  let keep (s : State) : State :=
    let s := { s with meter.held := s.meter.held ++ [((n, r) : Nat × ExportRecord)] }
    (s.wr R.METER_HELD_RECORDS s.meter.held.length).raise Ev.METER_EXPORT_HELD [(4, s.meter.held.length)]
  if s.meter.held.length < heldRecords then keep s
  else match mergeExport n r s.meter.held with
    | some l => ({ s with meter.held := l }.bump R.METER_MERGED 1).raise Ev.METER_EXPORT_MERGED []
    | none => keep s

/-- A record for a ring: written at once, or held behind those already held for it. -/
def State.exportRecord (s : State) (n : Nat) (r : ExportRecord) : State :=
  if s.exportOpen n && s.meter.held.all (fun h => h.1 != n) then s.writeExport n r else s.holdExport n r

/-- Writes the held records of a ring, oldest first, while it takes them. -/
def State.drainExports (s : State) (n : Nat) : State :=
  let s := (s.meter.held.filter (fun h => h.1 == n)).foldl (fun s h =>
    if s.exportOpen n then { s.writeExport n h.2 with meter.held := s.meter.held.erase h } else s) s
  s.wr R.METER_HELD_RECORDS s.meter.held.length

end Sys2Proof.Machine
end

