-- ==== Sys2Proof/Machine/Windows.lean ====
section
/-! DEFINITION. Metering windows: closing, settling, their records, and domain aggregation (R324 to R329, R332). -/

namespace Sys2Proof.Machine

open Sys2Proof

/-- TAI in whole seconds. -/
def State.taiSeconds (s : State) : Nat := s.time.tai / sec 1

/-- The window that contains a TAI second, with its number. -/
def windowAt (id t : Nat) : Window := ⟨id, t / 60 * 60, 0, 0, none, []⟩

/-- METER_STATUS, with TIME_UNSYNCED once for each change of the unsynced state (R326). -/
def State.meterSync (s : State) : State :=
  let u := !s.on R.DOMAIN_TIME_STATUS_SYNCED
  let s := if s.on R.METER_STATUS_UNSYNCED = u then s
    else (s.flag R.METER_STATUS_UNSYNCED u).raise Ev.METER_TIME_UNSYNCED []
  s.flag R.METER_STATUS_SETTLING s.meter.settling.isSome

/-! ### Aggregation (R329) -/

/-- The ring on which the manager writes aggregates: the lowest whose set-up has AGG_SINK (assumption log 53). -/
def State.sinkRing (s : State) : Option Nat := (s.meter.setups.find? (fun e => e.2.enable && e.2.sink)).map (·.1)

/-- A KIND 2 record. -/
def State.aggregateRecord (s : State) (a : Aggregate) (supplement : Bool) : ExportRecord :=
  ⟨2, a.flags ||| (if supplement then 32 else 0), 0, s.pairNo, a.start, a.tenant, identityDigest % 2 ^ 64, 0, a.late, a.records,
    1, a.counters, 0, false⟩

/-- Whether the wait for a window's contributions has passed. -/
def State.aggregateDue (s : State) (start : Nat) : Bool := decide (start + 60 + s.rd R.METER_CTRL_AGG_WAIT_S ≤ s.taiSeconds)

/-- A contribution at the manager: summed by TENANT_ID and WINDOW_START, or written at once as a SUPPLEMENT where it comes late. -/
def State.addContribution (s : State) (r : ExportRecord) : State :=
  match s.sinkRing with
  | none => s
  | some n =>
    let one : Aggregate := ⟨r.tenant, r.start, r.counters, 1, r.late, r.flags⟩
    if s.aggregateDue r.start then s.exportRecord n (s.aggregateRecord one true)
    else
      let mine (a : Aggregate) : Bool := a.tenant == r.tenant && a.start == r.start
      let add (a : Aggregate) : Aggregate :=
        if mine a then
          { a with records := a.records + 1, late := a.late + r.late, flags := a.flags ||| r.flags
                   counters := r.counters.foldl (fun c e => AMap.set c e.1 ((AMap.get? c e.1).getD 0 + e.2)) a.counters }
        else a
      if s.meter.aggregates.any mine then { s with meter.aggregates := s.meter.aggregates.map add }
      else { s with meter.aggregates := s.meter.aggregates ++ [one] }

/-- Sends a copy of a record to the manager pair; a manager pair takes its own. At most 65,536 copies wait, and the oldest go
first (Table 16-7). -/
def State.aggregateCopy (s : State) (r : ExportRecord) : State :=
  if s.roleStrap = 2 then s.addContribution r
  else if s.roleStrap = 1 ∧ s.rd R.DOMAIN_STATUS_STATE ≠ 0 then
    let waiting := s.domain.requests.filter (fun q => q.type == 0x12)
    let s := match waiting.head? with
      | some q =>
        if 65536 ≤ waiting.length then { s with domain.requests := s.domain.requests.erase q }.raise Ev.DOMAIN_AGG_DROPPED [] else s
      | none => s
    s.sendRequest 0x12 [0] (ExportRecord.fields r ++ [s.exportMac r, 0]) none
  else s

/-! ### Records of a settled window (R325, R327) -/

/-- One account's record of a window. -/
def State.windowRecord (s : State) (w : Window) (account : Nat) (c : Charges) : ExportRecord :=
  ⟨1, w.flags, account, s.pairNo, w.start, ((AMap.get? s.meter.accounts account).map (·.tenant)).getD 0,
    identityDigest % 2 ^ 64, 0, c.late, w.samples, 1, c.counters, 0, false⟩

/-- The set-up whose range holds an account. -/
def State.setupOf (s : State) (account : Nat) : Option (Nat × ExportSetup) :=
  s.meter.setups.find? (fun e => e.2.enable && decide (e.2.first ≤ account ∧ account ≤ e.2.last))

/-- Exports one account's record, where an enabled range holds the account. -/
def State.exportAccount (s : State) (w : Window) (account : Nat) (c : Charges) : State :=
  match s.setupOf account with
  | none => s
  | some (n, x) =>
    if x.skipIdle && c.counters.all (fun e => e.2 == 0) then s
    else
      let r := s.windowRecord w account c
      let s := s.exportRecord n r
      if x.aggregate then s.aggregateCopy r else s

/-- An account being closed is freed after its last record (Table 15-3). -/
def State.freeAccounts (s : State) : State :=
  let used (k : Nat) : Bool := AMap.has s.meter.current.charges k
    || (match s.meter.settling with | some w => AMap.has w.charges k | none => false)
  let s := { s with meter.accounts := s.meter.accounts.filter (fun e => !(e.2.closing && !used e.1)) }
  s.wr R.METER_ACCOUNTS_USED (s.meter.accounts.length + 1)

/-- A window has settled: its records go out by account, and METER_PEEK shows it. -/
def State.settled (s : State) (w : Window) : State :=
  let s := { s with meter.last := some w }
  let s := w.charges.foldl (fun s e => s.exportAccount w e.1 e.2) s
  s.freeAccounts

/-- What an operation adds when the settle limit charges it with its full LENGTH, by counter; one that ends denied or for another try is
counted as such and moves no bytes (R321). -/
def lateCharge (o : Op) : Nat × Nat :=
  let st := o.status.getD 0
  if 0x10 ≤ st ∧ st ≤ 0x13 then (7, 1)
  else if 0x20 ≤ st ∧ st ≤ 0x22 then (8, 1)
  else if o.req.opcode = 1 ∨ o.req.opcode = 7 then (if o.shelf then 2 else 0, o.req.len)
  else if o.req.opcode = 2 then (1, o.req.len)
  else if o.req.opcode = 3 ∨ o.req.opcode = 5 then (1, 8)
  else if o.req.opcode = 4 then (1, 16)
  else (0, 0)

/-- Charges an operation that still runs at the settle limit (R325). -/
def Window.addLate (w : Window) (o : Op) : Window :=
  let (i, n) := lateCharge o
  let c := (AMap.get? w.charges o.account).getD ⟨[], 0⟩
  let counters := if n = 0 then c.counters else AMap.set c.counters i ((AMap.get? c.counters i).getD 0 + n)
  { w with charges := AMap.set w.charges o.account ⟨counters, c.late + 1⟩ }

/-- Settles the closed window; what still runs in it is charged late. -/
def State.settleWindow (s : State) : State :=
  match s.meter.settling with
  | none => s
  | some w =>
    let running (o : Op) : Bool := o.window == w.id && !o.late && !o.responded
    let late := s.eng.ops.filter running
    let w := late.foldl Window.addLate w
    let f := fun o : Op => if running o then ({ o with late := true } : Op) else o
    let s := { s with eng.ops := s.eng.ops.map f, meter.settling := none }.bump R.METER_LATE_OPS late.length
    (s.settled w).meterSync

/-- Settles the closed window once every operation of it has completed. -/
def State.settleIfDone (s : State) : State :=
  match s.meter.settling with
  | some w => if s.eng.ops.any (fun o => o.window == w.id && !o.responded) then s else s.settleWindow
  | none => s

/-- Closes the open window, with flags; the window that contains TAI opens. At most one closed window is unsettled. -/
def State.closeWindow (s : State) (flags : Nat) : State :=
  let s := s.settleWindow
  let w := s.meter.current
  let f := w.flags ||| flags ||| (if s.on R.DOMAIN_TIME_STATUS_SYNCED then 0 else 1)
  let s := { s with meter.settling := some { w with flags := f, ended := some s.now }, meter.current := windowAt (w.id + 1) s.taiSeconds }
  s.settleIfDone.meterSync

/-- The close marker stands at the window's end in the order of admissions: what comes at or after that instant finds the next window open
(R324). -/
def State.closeDue (s : State) : State := if s.meter.current.start + 60 ≤ s.taiSeconds then s.closeWindow 0 else s

/-- Sets flags of the open window: 2 STEPPED, 8 SWITCHED. -/
def State.flagWindow (s : State) (f : Nat) : State := { s with meter.current.flags := s.meter.current.flags ||| f }

/-- A time step (R326): a forward one closes the open window at once; a backward one leaves it open. -/
def State.meterStep (s : State) (forward : Bool) : State :=
  let s := (s.flagWindow 2).raise Ev.METER_TIME_STEP []
  if forward then (s.closeWindow 0).flagWindow 2 else s

end Sys2Proof.Machine
end

