-- ==== Sys2Proof/Machine/Engines.lean ====
section
/-! DEFINITION. The request engines: admission from shaper to tag, the execution of reads, writes, atomics and fences, progress
records, and the end of an operation (R59 to R81, R116, R148, R330, R455). -/

namespace Sys2Proof.Machine

open Sys2Proof

/-! ### Operations -/

def State.op? (s : State) (id : Nat) : Option Op := s.eng.ops.find? (fun o => o.id == id)
def State.updOp (s : State) (id : Nat) (f : Op → Op) : State :=
  { s with eng.ops := s.eng.ops.map (fun o => if o.id = id then f o else o) }

/-- The lowest number from `n` that is not in a list; `fuel` is one more than the list is long. -/
def lowestFree (used : List Nat) : Nat → Nat → Nat
  | 0, n => n
  | fuel + 1, n => if used.contains n then lowestFree used fuel (n + 1) else n

/-- A free operation tag of the 65,536, if any (R76). -/
def State.freeTag (s : State) : Option Nat :=
  let used := s.eng.ops.map (·.tag)
  let t := lowestFree used (used.length + 1) 0
  if t < 65536 then some t else none

/-- The engine number of R12 from its 22-bit input. -/
def engineOf (x : Nat) : Nat :=
  (x % 32) ^^^ (x / 32 % 32) ^^^ (x / 1024 % 32) ^^^ (x / 32768 % 32) ^^^ (x / 1048576 % 4)

/-- The engine, and so the mirror queue, of a source (R12, R170). -/
def engineOfSource : Source → Nat
  | .cerga i _ => engineOf i
  | .roce q => engineOf q
  | .host r _ => r % 32

/-- The KIND and the QUEUE number of a source in prefixes and ledger records (Table 4-3, Table 8-4). -/
def State.sourceKey (s : State) : Source → Nat × Nat
  | .cerga i _ => (1, s.queueId i)
  | .roce q => (2, qpn q)
  | .host r _ => (3, r)

/-! ### Progress records (R79) -/

/-- SEG_SHIFT: the smallest of 0 to 13 with at most 64 segments touched. -/
def segShift (a len : Nat) : Nat → Nat → Nat
  | 0, k => k
  | fuel + 1, k => if ceilDiv (a % (4096 * 2 ^ k) + len) (4096 * 2 ^ k) ≤ 64 then k else segShift a len fuel (k + 1)

/-- How far pieces cover from `lo` upward without a gap; `fuel` is the number of pieces. -/
def reach (ps : List (Nat × Nat)) : Nat → Nat → Nat
  | 0, lo => lo
  | fuel + 1, lo =>
    match ps.find? (fun p => decide (p.1 ≤ lo ∧ lo < p.1 + p.2)) with
    | some p => reach ps fuel (p.1 + p.2)
    | none => lo

/-- The pieces of an operation that are done: placed, and accepted where they are still in the gather buffer. -/
def State.donePieces (s : State) (o : Op) : List (Nat × Nat) :=
  let a := o.req.addr % pairSpace
  o.placed.filter (fun p => s.eng.gather.all (fun g => !(g.op == some o.id && !Gather.accepted g
    && decide (a + p.1 ≤ g.addr ∧ g.addr < a + p.1 + p.2))))

/-- BYTES_DURABLE, SEG_SHIFT and SEG_BITMAP of R79. -/
structure Progress where
  bytes : Nat
  shift : Nat
  bitmap : Nat
  deriving DecidableEq, Repr

/-- Builds the progress record of an operation at pair-local `a` of length `len` from the pieces that are done. -/
def progressOf (a len : Nat) (ps : List (Nat × Nat)) : Progress :=
  let k := segShift a len 13 0
  let sz := 4096 * 2 ^ k
  let n := ceilDiv (a % sz + len) sz
  let bit (i : Nat) : Bool :=
    let lo := max a (a / sz * sz + i * sz)
    let hi := min (a + len) (a / sz * sz + (i + 1) * sz)
    decide (hi - a ≤ reach ps (ps.length + 1) (lo - a))
  { bytes := min len (reach ps (ps.length + 1) 0), shift := k,
    bitmap := (rangeFrom 0 n).foldl (fun v i => if bit i then v ||| 2 ^ i else v) 0 }

def State.progress (s : State) (o : Op) : Progress := progressOf (o.req.addr % pairSpace) o.req.len (s.donePieces o)

/-- Bytes of the operation that lie in segments whose bit is set (R321). -/
def doneBytes (a len : Nat) (p : Progress) : Nat :=
  let sz := 4096 * 2 ^ p.shift
  ((rangeFrom 0 64).map (fun i =>
    let lo := max a (a / sz * sz + i * sz)
    let hi := min (a + len) (a / sz * sz + (i + 1) * sz)
    if p.bitmap.testBit i then hi - lo else 0)).sum

/-! ### Placing data -/

/-- Adds a unit to the divergence map where the pair runs single (R193). -/
def State.markSingle (s : State) (a n : Nat) : State :=
  if s.paired && s.on R.TWIN_STATUS_SINGLE_RUNNING then s.markUnits (unitsOf a n) else s

/-- What the twin does for a record of a MIRRORED region now (R15, R174, R179, R195): its MSN, waiting, or nothing with the
operation DEGRADED. -/
inductive MirrorFate where
  | sent (queue msn : Nat)
  | stuck
  | degraded
  deriving DecidableEq, Repr

/-- Sends the record of one packet, or decides that it waits or runs single. -/
def State.mirrorData (s : State) (src : Source) (seq pd epoch a : Nat) (data : List Byte) (atomic : Bool) :
    MirrorFate × State :=
  let q := engineOfSource src
  let (kind, num) := s.sourceKey src
  if s.twinAccepts then
    let (msn, s) := s.sendRecord q ⟨a, num, seq, pd, kind, (if atomic then 1 else 0), epoch⟩ data
    if s.twin.resync.isSome && (unitsOf a data.length).any (fun u => s.twin.diverged.contains u) then (.degraded, s)
    else (.sent q msn, s)
  else
    let s := s.wantMark
    if s.on R.TWIN_STATUS_SINGLE_RUNNING && s.isActive then (.degraded, s.markSingle a data.length) else (.stuck, s)

def sourceEpoch : Source → Nat
  | .cerga _ e => e
  | _ => 0

/-- Accepts data of an operation into the gather buffer: one entry per extent, one mirror record per packet, the pages dirty from
now (R15, R136, R137, R170). A zero-length write of a MIRRORED region stands in the buffer as an entry of no bytes until its record is
accepted, and ends DEGRADED while the region runs single (DESIGN CHOICE, assumption log 173). -/
def State.placeData (s : State) (id seq off : Nat) (data : List Byte) (atomic : Bool) : State :=
  match s.op? id with
  | none => s
  | some o =>
    let a := o.req.addr % pairSpace + off
    let (fate, s) := if o.mirrored then s.mirrorData o.req.src seq o.pd (sourceEpoch o.req.src) a data atomic
      else (MirrorFate.degraded, s)
    let s := if o.mirrored ∧ fate = .degraded then s.updOp id (fun o => { o with degraded := true }) else s
    let record := match fate with | .sent q m => some (q, m) | _ => none
    let put (x : State × Nat) (p : Nat × Nat) : State × Nat :=
      let g : Gather := { id := x.1.eng.nextEntry, op := some id, src := some o.req.src, origin := none, media := p.1, addr := a + x.2,
                          data := (data.drop x.2).take p.2, pd := o.pd, record,
                          stuck := fate == .stuck, atomic, lost := [] }
      (({ x.1 with eng.gather := x.1.eng.gather ++ [g], eng.nextEntry := x.1.eng.nextEntry + 1 }).markRun p.1 p.2 o.pd, x.2 + p.2)
    let s := ((if data.isEmpty then [(0, 0)] else s.mediaPieces a data.length).foldl put (s, 0)).1
    s.updOp id (fun o => { o with placed := o.placed ++ (if data.isEmpty then [] else [(off, data.length)]) })

/-! ### What an operation waits for -/

/-- An entry holds bytes of one of the chunks of a media run. -/
def Gather.covers (g : Gather) (m n : Nat) : Bool :=
  decide (0 < g.data.length ∧ 0 < n ∧ g.media / 64 ≤ (m + n - 1) / 64 ∧ m / 64 ≤ (g.media + g.data.length - 1) / 64)

/-- A chunk of the run holds data of another operation that is not visible yet: an atomic waits for it (R62, R67). -/
def State.blockedRun (s : State) (id m n : Nat) : Bool :=
  s.eng.gather.any (fun g => !s.entryVisible g && g.op != some id && Gather.covers g m n)

/-- A chunk of the run holds data of another operation that is not durable yet: a read waits for it (R67, R70). -/
def State.undurableRun (s : State) (id m n : Nat) : Bool :=
  s.eng.gather.any (fun g => !Gather.accepted g && g.op != some id && Gather.covers g m n)

/-- The media pieces of an operation's range, in DRAM or in stage. -/
def State.opPieces (s : State) (o : Op) : List (Nat × Nat) :=
  let a := o.req.addr % pairSpace
  if o.shelf then ((rangeFrom a o.req.len).filterMap s.shelfMedia).map (fun m => (m, 1)) else s.mediaPieces a o.req.len

/-- A chunk of the run is under the repair of R294: a read or atomic that meets it waits. -/
def State.beingFixed (s : State) (m n : Nat) : Bool := (linesOf m n).any (fun l => s.integ.fixing.contains l)

/-- A line of the run is being filled: a read that streams around the cache waits for the merged result (R206). -/
def State.fillingRun (s : State) (m n : Nat) : Bool :=
  (linesOf m n).any (fun l => match (s.findWay l).bind s.wayLine with
    | some x => x.state == .filling
    | none => false)

/-- Two operations share a chunk of the pair-local space. -/
def Op.overlaps (o p : Op) : Bool :=
  let a := o.req.addr % pairSpace
  let b := p.req.addr % pairSpace
  decide (0 < o.req.len ∧ 0 < p.req.len ∧ a / 64 ≤ (b + p.req.len - 1) / 64 ∧ b / 64 ≤ (a + o.req.len - 1) / 64)

/-- The writes and atomics admitted before `o` on its stream. -/
def State.writesBefore (s : State) (o : Op) : List Op :=
  s.eng.ops.filter (fun p => decide (p.id < o.id) && sameStream p.req.src o.req.src && mutating p.req.opcode)

/-- A write or atomic may place its data: every atomic before it on its stream has executed, and every write before it that shares a
chunk with it has placed all of its bytes, or they have ended (R69). -/
def State.mayPlace (s : State) (o : Op) : Bool :=
  (s.writesBefore o).all (fun p => p.status.isSome
    || (if p.req.opcode = 2 then !Op.overlaps o p || (p.arrived && p.executed && p.held.isEmpty) else p.executed))

/-- What a read must return of its own stream is visible: each write or atomic before it that shares a chunk with it has settled, and
so has everything before that one (R69, R70). -/
def State.ownWritesVisible (s : State) (o : Op) : Bool :=
  (s.writesBefore o).all (fun p => !Op.overlaps o p
    || (!s.unsettled p && (s.writesBefore p).all (fun q => !s.unsettled q)))

/-- Every write and atomic admitted before `o` on its stream is durable or has a status of its own (R69). -/
def State.earlierSettled (s : State) (o : Op) : Bool :=
  s.eng.ops.all (fun p => !(decide (p.id < o.id) && sameStream p.req.src o.req.src && mutating p.req.opcode && s.unsettled p))

/-- Whether a fence still covers an operation that has not completed (R73). A PD fence covers the QPs and the MEMOP streams of its PD
too (DESIGN CHOICE, assumption log 174). -/
def State.fenceWaits (s : State) (o : Op) : Bool :=
  s.eng.ops.any (fun p => decide (p.id < o.id) && !p.responded
    && (sameStream p.req.src o.req.src || (o.req.arg == 1 && p.pd == o.pd)))

/-- Pages a tie-break holds back from reads at the active (R186). -/
def State.tieHolds (s : State) (o : Op) : Bool :=
  match s.twin.tie with
  | some t => (s.opPieces o).any (fun p => t.pages.any (fun pg =>
      match s.localOf p.1 with | some a => decide (pg * page4K ≤ a + p.2 - 1 ∧ a < (pg + 1) * page4K) | none => false))
  | none => false

/-- An operation has reached its end (R69, R73, R129): it has a status of its own, or its data are there and everything it must
follow has settled. -/
def State.opReady (s : State) (o : Op) : Bool :=
  let inOrder := match o.req.src with
    | .roce _ => s.eng.ops.all (fun p => !(decide (p.id < o.id) && sameStream p.req.src o.req.src && !p.responded))
    | _ => true
  !o.responded && inOrder &&
  (match o.status with
  | some _ => !mutating o.req.opcode || s.earlierSettled o
  | none =>
    if o.req.opcode = 6 then !s.fenceWaits o
    else if mutating o.req.opcode then o.arrived && o.executed && !s.unsettled o && s.earlierSettled o
    else if o.req.opcode = 1 ∨ o.req.opcode = 7 then
      o.issued && o.lines.isEmpty && o.units.isEmpty && o.tiles.isEmpty
        && (o.shelf || (s.ownWritesVisible o && !s.tieHolds o && (s.opPieces o).all (fun p =>
              !s.undurableRun o.id p.1 p.2 && !s.beingFixed p.1 p.2 && !s.runBusy p.1 p.2 && !s.fillingRun p.1 p.2)))
    else true)

/-! ### Execution -/

/-- Gives an operation a status of its own. -/
def State.endOp (s : State) (id st : Nat) : State :=
  s.updOp id (fun o => if o.status.isNone then { o with status := some st, held := [] } else o)

/-- A line lies on a channel that was taken out, and is not resident in the near cache (R259). -/
def State.linesGone (s : State) (ls : List Nat) : Bool :=
  ls.any (fun l => s.channelGone (l * 64) && (s.findWay l).isNone && (s.findVictim l).isNone)

/-- Chunks of the operation lie on a channel that was taken out, and are not resident in the near cache (R259). -/
def State.opUnreachable (s : State) (o : Op) : Bool := s.linesGone ((s.opPieces o).map (fun p => linesOf p.1 p.2)).flatten

/-- Looks up the lines of a small read or of an atomic (Table 9-3). -/
def State.issueLines (s : State) (id : Nat) (ls : List Nat) : State :=
  let (s, wait) := ls.foldl (fun (x : State × List Nat) l =>
    let (hit, s) := x.1.access l
    (s, if hit then x.2 else x.2 ++ [l])) (s, [])
  s.updOp id (fun o => { o with issued := true, lines := wait })

/-- The number of an atomic's operand bytes (Table 4-1). -/
def atomicWidth (opcode : Nat) : Nat := if opcode = 4 then 16 else 8

/-- Executes an atomic whose chunk stands still (R62, R66, R77): a poisoned chunk returns POISON_RETURNED with an undefined
original value; a compare-and-swap that fails writes nothing. `data` holds COMPARE then SWAP, or ADDEND. -/
def State.runAtomic (s : State) (o : Op) (m : Nat) : State :=
  let w := atomicWidth o.req.opcode
  let s := s.bump R.NEAR_ATOMICS 1
  if s.chunkPoison (m / 64) then
    let (v, s) := s.fresh (8 * w)
    s.updOp o.id (fun o => { o with executed := true, arrived := true, value := some v, poisoned := true,
                                     status := some St.POISON_RETURNED })
  else
    let old := leNat (s.readRun m w)
    let new := if o.req.opcode = 5 then some ((old + leNat (o.req.data.take 8)) % 2 ^ 64)
      else if old = leNat (o.req.data.take w) then some (leNat ((o.req.data.drop w).take w)) else none
    let s := s.updOp o.id (fun o => { o with executed := true, arrived := true, value := some old })
    match new with
    | none => s
    | some v =>
      let s := match s.findWay (m / 64) with
        | some k => { s with near.ways := AMap.upd s.near.ways k (fun x => { x with state := .atomic }) }
        | none => s
      s.placeData o.id o.req.seq 0 (leBytes w v) true

/-- A read of 256 bytes or more looks up the ways and the victim caches and takes what it finds; a victim entry is recalled (R203,
R205). -/
def State.consult (s : State) (ls : List Nat) : State :=
  ls.foldl (fun s l => match s.findVictim l with | some x => s.recall x | none => s) s

/-- The distinct lines of media bytes in ascending runs, in order. -/
def linesOfBytes (ms : List Nat) : List Nat :=
  ms.foldl (fun l m => if l.getLast? = some (m / 64) then l else l ++ [m / 64]) []

/-- Looks up the lines of a tile's part once it is staged: a read under 256 bytes fills what it misses, a longer one takes what is there.
The answer says whether the part is served now (Table 9-3). -/
def State.tileLines (s : State) (o : Op) (ms : List Nat) : Bool × State :=
  if o.issued then (o.lines.isEmpty, s)
  else if 256 ≤ o.req.len then
    if ms.any (fun m => s.fillingRun m 1) then (false, s) else (true, s.consult (linesOfBytes ms))
  else
    let s := s.issueLines o.id (linesOfBytes ms)
    (((s.op? o.id).map (·.lines.isEmpty)).getD true, s)

/-- A read admitted before `o` waits for stage: the reads that find none are served in arrival order (R228). -/
def State.stageQueue (s : State) (o : Op) : Bool :=
  s.eng.ops.any (fun p => decide (p.id < o.id) && p.status.isNone && (match p.tiles with
    | (ob, k) :: _ => (s.tile? ob k).isNone
    | [] => false))

/-- Serves the head tile of a shelf read once the pages it needs are staged and their lines looked up, and moves to the next (R203, R225,
R226, R228). -/
def State.serveTile (s : State) (o : Op) : State :=
  let a := o.req.addr % pairSpace
  match o.tiles, s.shelfOffset a with
  | (ob, k) :: rest, some (_, off) =>
    match s.object? ob with
    | none => s.endOp o.id St.FAULT_INTERNAL
    | some x =>
      let slot := Object.slot x
      let lo := max off (k * slot)
      let hi := min (off + o.req.len) ((k + 1) * slot)
      let s := if (s.tile? ob k).isNone && s.stageQueue o then s else s.demandTile ob k (lo % slot)
      if s.tileServes ob k (lo - k * slot) (hi - 1 - k * slot) then
        let run := (rangeFrom (a + (lo - off)) (hi - lo)).filterMap s.shelfMedia
        if s.linesGone (linesOfBytes run) then s.endOp o.id St.FAULT_INTERNAL
        else
        let (ready, s) := s.tileLines o run
        if !ready then s
        else
        let bad := ((rangeFrom (a + (lo - off)) (hi - lo)).filter (fun b => match s.shelfMedia b with
          | some m => s.chunkPoison (m / 64)
          | none => false)).map (· / 64)
        let s := s.updOp o.id (fun o => { o with tiles := rest, issued := rest.isEmpty, buffer := o.buffer ++ run.map s.byteAt
                                                 marks := o.marks ++ bad })
        match rest with
        | (ob', k') :: _ => if (s.tile? ob' k').isNone && s.stageQueue o then s else s.demandTile ob' k' 0
        | [] => s
      else s
  | _, _ => s

/-- Enters bytes that have arrived at an offset, in order, joined to what they continue. -/
def insertPiece (off : Nat) (d : List Byte) : List (Nat × List Byte) → List (Nat × List Byte)
  | [] => [(off, d)]
  | (a, x) :: r =>
    if off + d.length = a then (off, d ++ x) :: r
    else if off < a then (off, d) :: (a, x) :: r
    else if a + x.length = off then
      match r with
      | (b, y) :: r' => if off + d.length = b then (a, x ++ d ++ y) :: r' else (a, x ++ d) :: r
      | [] => [(a, x ++ d)]
    else (a, x) :: insertPiece off d r

/-- Bytes of a packet of a write: 8,192 over Cerga and by DMA, 4,096 over RoCEv2 (R108, R122). -/
def packetSize : Source → Nat
  | .roce _ => 4096
  | _ => 8192

/-- What can be placed next of a piece at offset `off`: the bytes up to the end of its packet that make every chunk they touch whole, as
far as the operation reaches (R68, R170). The answer is their offset and number; `a` and `len` are the operation's. -/
def wholeChunks (a len k off n : Nat) : Nat × Nat :=
  let head := if off = 0 then 0 else (64 - (a + off) % 64) % 64
  let tail := if len ≤ off + n then 0 else (a + off + n) % 64
  let lo := off + head
  let stop := (a + (lo / k + 1) * k + 63) / 64 * 64 - a
  (lo, min (n - head - tail) (stop - lo))

/-- The first bytes of an operation that may be placed: offset and bytes, with what is left. -/
def Op.nextPiece (o : Op) : List (Nat × List Byte) → Option ((Nat × List Byte) × List (Nat × List Byte))
  | [] => none
  | (off, d) :: r =>
    let (lo, n) := wholeChunks (o.req.addr % pairSpace) o.req.len (packetSize o.req.src) off d.length
    if 0 < n then
      let before := d.take (lo - off)
      let after := d.drop (lo - off + n)
      let rest := (if before.isEmpty then [] else [(off, before)]) ++ (if after.isEmpty then [] else [(lo + n, after)]) ++ r
      some ((lo, (d.drop (lo - off)).take n), rest)
    else (Op.nextPiece o r).map (fun x => (x.1, (off, d) :: x.2))

/-- Bytes the write gather buffer holds, of its 16 MiB (R20). -/
def State.gatherBytes (s : State) : Nat := (s.eng.gather.map (·.data.length)).sum

/-- The rows of 64 bytes that an allocating memory no longer uses (R298). -/
def State.rowsOff (s : State) (memory : Nat) : Nat := (s.integ.off.filter (fun r => r.memory == memory)).length

/-- The write gather buffer has room for `n` more bytes. -/
def State.gatherRoom (s : State) (n : Nat) : Bool := decide (s.gatherBytes + n + 64 * s.rowsOff 0 ≤ 0x1000000)

/-- Places what has arrived of a write, packet by packet, while the gather buffer has room (R20, R68, R170). -/
def State.placeHeld (s : State) (id : Nat) : Nat → State
  | 0 => s
  | fuel + 1 =>
    match s.op? id with
    | none => s
    | some o => match Op.nextPiece o o.held with
      | none => s
      | some ((off, d), rest) =>
        if s.gatherRoom d.length then
          ((s.updOp id (fun o => { o with held := rest })).placeData id (o.req.seq + off / packetSize o.req.src) off d false).placeHeld id fuel
        else s

/-- Bounds the placements that the bytes held by an operation can need. -/
def Op.placements (o : Op) : Nat := (o.held.map (fun p => p.2.length / 64 + 2)).sum + 1

/-- An atomic may execute: its line is there, everything before it on its stream is placed, and its chunk stands still (R62, R67,
R69, R294). -/
def State.atomicReady (s : State) (o : Op) (m : Nat) : Bool :=
  o.lines.isEmpty && s.mayPlace o && !s.blockedRun o.id m (atomicWidth o.req.opcode) && !s.beingFixed m 1

/-- Takes one operation as far as it can go now. -/
def State.advanceOp (s : State) (id : Nat) : State :=
  match s.op? id with
  | none => s
  | some o =>
    if o.status.isSome || o.responded || !o.units.isEmpty then s
    else if decide (1 ≤ o.req.opcode ∧ o.req.opcode ≤ 5) && !o.shelf && !o.issued && s.opUnreachable o then
      s.endOp id St.FAULT_INTERNAL
    else if o.req.opcode = 1 ∨ o.req.opcode = 7 then
      if o.shelf then
        if o.tiles.isEmpty then s.updOp id (fun o => { o with issued := true })
        else
          let first := o.buffer.isEmpty && !o.issued && decide (256 ≤ o.req.len) && s.eng.ops.any (fun p => p.id == id && p.progress == 0)
          let s := if first then (s.bump R.NEAR_BYPASS_READS 1).updOp id (fun o => { o with progress := 1 }) else s
          s.serveTile o
      else if o.issued then s
      else if o.req.len = 0 then s.updOp id (fun o => { o with issued := true })
      else if o.req.len < 256 then s.issueLines id (((s.opPieces o).map (fun p => linesOf p.1 p.2)).flatten)
      else ((s.bump R.NEAR_BYPASS_READS 1).consult (((s.opPieces o).map (fun p => linesOf p.1 p.2)).flatten)).updOp id
          (fun o => { o with issued := true })
    else if o.req.opcode = 3 ∨ o.req.opcode = 4 ∨ o.req.opcode = 5 then
      match s.media? (o.req.addr % pairSpace) with
      | none => s
      | some m =>
        if o.executed then s
        else if !o.issued then
          let s := s.issueLines id [m / 64]
          match s.op? id with
          | some o => if s.atomicReady o m then s.runAtomic o m else s
          | none => s
        else if s.atomicReady o m then s.runAtomic o m else s
    else if o.req.opcode = 2 then
      if !s.mayPlace o then s
      else
        let s := if o.issued then s
          else
            let s := s.updOp id (fun o => { o with issued := true, executed := true })
            if o.mirrored && o.req.len == 0 then s.placeData id o.req.seq 0 [] false else s
        s.placeHeld id (Op.placements o)
    else s.updOp id (fun o => { o with issued := true, executed := true, arrived := true })

/-- Takes every operation as far as it can go, in admission order. -/
def State.advanceAll (s : State) : State := (s.eng.ops.map (·.id)).foldl State.advanceOp s

/-! ### Admission -/

/-- The packets of an operation under R108. -/
def packetCount (opcode len : Nat) : Nat := if opcode = 2 then max 1 (ceilDiv len 8192) else 1

/-- The cipher limits of a stream epoch (R370). -/
def State.cipherLimited (s : State) (q : Request) : Bool :=
  match q.src with
  | .cerga i _ => decide (0xFFFF0000 ≤ q.seq + packetCount q.opcode q.len - 1) || decide (2 ^ 40 ≤ (s.stream i).nonce (s.stream i).epoch)
  | _ => false

/-- The counter of Table 15-1 that an admitted opcode adds to. -/
def opsCounter (opcode : Nat) : Nat :=
  if opcode = 1 ∨ opcode = 7 then 3 else if opcode = 2 then 4 else if mutating opcode then 5 else 6

/-- New pages an operation can make dirty (R148). -/
def newPages (len : Nat) : Nat := ceilDiv len page4K + 1

/-- The region a request would fall into, for the wait of R148. -/
def State.targetRegion (s : State) (q : Request) : Option Region :=
  if mutating q.opcode && q.addr / pairSpace == s.pairNo then
    (s.lookup (q.addr % pairSpace)).bind (fun e => s.region? e.region)
  else none

/-- Whether a write or atomic must wait in HOLD (R147, R148); for a MIRRORED region the standby's stage counts too. -/
def State.mustHold (s : State) (q : Request) : Bool :=
  match s.targetRegion q with
  | some r =>
    r.writable && (s.stage == 4 || (r.mirrored && s.twinAccepts && s.twin.peerStatus.stage == 4))
  | none => false

/-- The test of R148 for the operation at the head of the wait. -/
def State.holdAdmits (s : State) (q : Request) : Bool :=
  match s.targetRegion q with
  | some r =>
    decide (100 * (s.dur.dirty.length + newPages q.len) * page4K < 98 * s.budgetGib * gib)
      && (!(r.mirrored && s.twinAccepts && s.twin.peerStatus.stage == 4) || decide (s.twin.peerStatus.d < 98))
  | none => true

/-- The host buffer of a MEMOP, for check 10. -/
def Request.hostAddr (q : Request) : Option Nat := match q.src with | .host _ _ => some q.arg | _ => none

/-- A HALLMARK finds one of its stream, or sixteen in all, still running (R114). -/
def State.hallmarkBusy (s : State) (q : Request) : Bool :=
  let run := s.eng.ops.filter (fun o => o.req.opcode == 10 && !o.responded && o.status.isNone)
  run.any (fun o => sameStream o.req.src q.src) || decide (16 ≤ run.length)

/-- The assembly time of a source's multi-packet writes (R109, R132). -/
def State.assemblyTime (s : State) : Source → Nat
  | .roce _ => us (s.rd R.ROCE_CTRL_ASSEMBLY_US)
  | _ => us (s.rd R.CERGA_TIMEOUTS_ASSEMBLY_US)

/-- An opcode of Table 5-7 that is an atomic. -/
def atomicOp (opcode : Nat) : Bool := decide (3 ≤ opcode ∧ opcode ≤ 5)

/-- Atomics of a source's stream that have no response yet. -/
def State.runningAtomics (s : State) (src : Source) : Nat :=
  (s.eng.ops.filter (fun o => sameStream o.req.src src && atomicOp o.req.opcode && !o.responded)).length

/-- A new atomic finds all 32 entries of its stream's result cache taken, or spoken for, by atomics (R101): those that run count with those
whose entry stands (DESIGN CHOICE, assumption log 181). -/
def State.cacheFull (s : State) (q : Request) : Bool :=
  match q.src with
  | .cerga i _ =>
    let held := ((s.stream i).cache.filter (fun c : CachedResult => atomicOp c.opcode)).length
    atomicOp q.opcode && decide (32 ≤ held + s.runningAtomics q.src)
  | _ => false

/-- The table entries that the admission checks of a request need. Kinds: 0 ETT, 1 region, 2 PD, 3 binding, 4 queue record. -/
def State.entriesOf (s : State) (q : Request) : List (Nat × Nat) :=
  let queue := match q.src with | .cerga i _ => [(4, i)] | _ => []
  let table := match s.lookup (q.addr % pairSpace) with
    | some e => [(0, e.base), (1, e.region), (3, bindKey q.pd e.region)]
    | none => []
  (2, q.pd) :: (queue ++ table)

/-- One of them is being reloaded, or its reload has failed (R287). -/
def State.reloadWaits (s : State) (q : Request) : Bool := (s.entriesOf q).any (fun e => s.integ.reloading.contains e)
@[inherit_doc State.reloadWaits] def State.entryFailed (s : State) (q : Request) : Bool :=
  (s.entriesOf q).any (fun e => s.integ.failed.contains e)

/-- Admits a request: the checks of R52, the cipher limits, the owner side of R183, the restore wait of R455, and the start of its
work. `full` says that the first packet is the whole operation. A request that fails is an operation with that status. -/
def State.admitRequest (s : State) (q : Request) (full : Bool) : State :=
  match s.freeTag with
  | none => { s with eng.waiting := s.eng.waiting ++ [⟨q, .tag, s.now⟩] }
  | some tag =>
    let s := s.closeDue
    let id := s.eng.nextOp
    let verdict : Except Denial (Option Nat) :=
      match s.checks s.isActive q (Request.hostAddr q) with
      | .error d => .error d
      | .ok r => if s.cipherLimited q then .error ⟨0, St.DENIED_CIPHER_LIMIT, r⟩ else .ok r
    let region := match verdict with | .ok r => r | .error _ => none
    let reg := region.bind s.region?
    let account := s.pdAccount q.pd
    let window := s.meter.current.id
    let status := match verdict with
      | .error d => some d.status
      | .ok _ => match reg with
        | some r => if !r.mirrored && r.writable && r.owner != s.side then some St.RESTORING else none
        | none => none
    let status := if status.isNone && s.entryFailed q then some St.FAULT_INTERNAL else status
    let status := if status.isNone && s.cacheFull q then some St.BUSY else status
    let status := if status.isNone && q.opcode == 10 && s.hallmarkBusy q then some St.BUSY else status
    let a := q.addr % pairSpace
    let writable := (reg.map (·.writable)).getD false
    let units := if status.isNone && writable then (unitsOf a q.len).filter (fun u => s.start.units.contains u) else []
    let shelf := (reg.map (·.shelf)).getD false
    let o : Op :=
      { id, tag, req := q, pd := q.pd, region, mirrored := (reg.map (·.mirrored)).getD false, shelf, placed := [],
        arrived := full, placedEnd := if full then none else some (s.now + s.assemblyTime q.src), lines := [], units,
        tiles := if shelf && status.isNone && (q.opcode == 1 || q.opcode == 7) then s.tilesOf a q.len else [],
        restoreEnd := if units.isEmpty then none else some (s.now + us (s.rd R.DUR_RESTORE_CTRL_WAIT_US)),
        status, held := if q.opcode == 2 && status.isNone && !q.data.isEmpty then [(0, q.data)] else [], value := none, issued := false, executed := false, degraded := false, poisoned := false, progress := 0, account,
        window, late := false, responded := false, buffer := [], marks := [] }
    let s := { s with eng.ops := s.eng.ops ++ [o], eng.nextOp := id + 1 }
    let s := match verdict with
      | .error d =>
        if d.status = St.DENIED_CIPHER_LIMIT then (s.bump R.CIPHER_LIMIT_DENIALS 1).raise Ev.CIPHER_LIMIT_DENIED []
        else s.recordDenial q.pd d
      | .ok _ => s
    let denied := match status with | some st => decide (0x10 ≤ st ∧ st ≤ 0x13) | none => false
    let s := if status.isNone then (s.chargeIn window account (opsCounter q.opcode) 1) else s
    let s := if denied then s else s.chargeClamps window account q.clamps
    let s := if denied then s.charge account 12 q.frame else s.chargeIn window account 12 q.frame
    let s := if units.isEmpty then s else
      { s.bump R.DUR_DEMAND units.length with start.units := units ++ s.start.units.filter (fun u => !units.contains u) }
    s.advanceOp id

/-- A FENCE of the same stream that has not completed holds a later request back (R73). -/
def State.fenced (s : State) (q : Request) : Bool :=
  s.eng.ops.any (fun o => o.req.opcode == 6 && !o.responded && sameStream o.req.src q.src)

/-- The whole of an operation is in its first packet. -/
def Request.isFull (q : Request) : Bool := q.opcode != 2 || decide (q.len ≤ q.data.length)


/-- Takes a request from a stage of its way to admission (R73, R76, R148, R287, R330). -/
def State.tryAdmit (s : State) (q : Request) (shaped : Bool) : State :=
  let wait (st : WaitStage) (s : State) : State := { s with eng.waiting := s.eng.waiting ++ [⟨q, st, s.now⟩] }
  let host := match q.src with | .host _ _ => true | _ => false
  if !shaped && !host && !s.shaperReady q.pd then wait .shaper s
  else
    let s := if shaped || host then s else s.shaperTake q.pd q.len
    if s.fenced q then wait .fence s
    else if s.reloadWaits q then wait .reload s
    else if s.freeTag.isNone then wait .tag s
    else if s.mustHold q then wait .hold s
    else s.admitRequest q (Request.isFull q)

/-- A request reaches admission in stream order: behind an earlier one of its stream that waits, it waits too (R69, R331). -/
def State.submit (s : State) (q : Request) : State :=
  if s.eng.waiting.any (fun w => sameStream w.req.src q.src) then
    { s with eng.waiting := s.eng.waiting ++ [⟨q, .shaper, s.now⟩] }
  else s.tryAdmit q false

/-- Removes the first waiter equal to `w`. -/
def State.dropWaiter (s : State) (w : Waiter) : State := { s with eng.waiting := s.eng.waiting.erase w }

/-- Waiters that no earlier request of their stream precedes. -/
def headWaiters : List Waiter → List Source → List Waiter
  | [], _ => []
  | w :: ws, seen => if seen.any (fun x => sameStream x w.req.src) then headWaiters ws seen
    else w :: headWaiters ws (w.req.src :: seen)

/-- Moves waiters on whose fence has completed or for which a tag is free, and those that only stood behind an earlier request of their
stream and are not shaped, while admission runs (R152, R188, R330). Shaped and held requests have rows of their own. -/
def State.moveWaiters (s : State) : State :=
  if s.save.active || s.twin.yield.isSome then s else
  (headWaiters s.eng.waiting []).foldl (fun s w =>
    let ready := match w.stage with
      | .fence => !s.fenced w.req
      | .tag => s.freeTag.isSome
      | .reload => !s.reloadWaits w.req
      | .shaper => s.unshaped w.req.pd || (match w.req.src with | .host _ _ => true | _ => false)
      | .hold => false
    if ready then (s.dropWaiter w).tryAdmit w.req true else s) s

/-! ### Completion -/

/-- The final status (R75). -/
def State.finalStatus (s : State) (o : Op) : Nat :=
  match o.status with
  | some st => st
  | none => if o.req.opcode = 9 ∧ s.ledger.lost then St.FAULT_INTERNAL else if o.degraded then St.DEGRADED else St.DONE

/-- The bytes a read delivers: its range as it stands now, zeros past a shelf object's mapped size (R39). -/
def State.readBytes (s : State) (o : Op) : List Byte :=
  if o.shelf then (o.buffer ++ List.replicate (o.req.len - o.buffer.length) 0).take o.req.len
  else ((s.opPieces o).map (fun p => s.readRun p.1 p.2)).flatten

/-- The poisoned chunks of a read, as pair-local chunk numbers. -/
def State.readMarks (s : State) (o : Op) : List Nat :=
  if o.shelf then o.marks
  else
    let a := o.req.addr % pairSpace
    if o.req.len = 0 then [] else (rangeFrom (a / 64) ((a + o.req.len - 1) / 64 + 1 - a / 64)).filter (fun c =>
      match s.media? (max a (c * 64)) with | some m => s.chunkPoison (m / 64) | none => false)

/-- Charges of R320, R321 at an operation's end. -/
def State.chargeEnd (s : State) (o : Op) (st : Nat) : State :=
  if o.late then s
  else if 0x10 ≤ st ∧ st ≤ 0x13 then s.chargeIn o.window o.account 7 1
  else if st = St.BUSY ∨ st = St.NOT_ACTIVE ∨ st = St.RESTORING then s.chargeIn o.window o.account 8 1
  else
    let counter := if o.shelf then 2 else if mutating o.req.opcode then 1 else 0
    let bytes :=
      if st = St.PARTIAL ∨ st = St.FAULT_INTERNAL then
        if o.req.opcode = 2 then doneBytes (o.req.addr % pairSpace) o.req.len (s.progress o) else 0
      else if o.req.opcode = 1 ∨ o.req.opcode = 7 ∨ o.req.opcode = 2 then o.req.len
      else if o.req.opcode = 6 then 0
      else if mutating o.req.opcode && !o.placed.isEmpty then atomicWidth o.req.opcode
      else 0
    s.chargeIn o.window o.account counter bytes

/-- The packets of a Hallmark report, each with at most 8,192 bytes and its OFFSET in INFO (Table 5-8). -/
def State.cergaReport (s : State) (i window seq : Nat) : Nat → Nat → List Byte → State
  | 0, _, _ => s
  | fuel + 1, off, d =>
    let last := decide (d.length ≤ 8192)
    let s := s.cergaRespond i window seq 10 St.DONE off last (d.take 8192)
    if last then s else s.cergaReport i window seq fuel (off + 8192) (d.drop 8192)

/-- Cerga: the response of an operation (Table 5-8, R110), and its result-cache entry (R101). -/
def State.respondCerga (s : State) (o : Op) (i st : Nat) (data : List Byte) (marks : List Nat) : State :=
  let q := o.req
  let fin (pay : List Byte) : State := s.cergaRespond i o.window q.seq q.opcode st 0 true pay
  let s' :=
    if st = St.PARTIAL ∨ st = St.FAULT_INTERNAL then
      let p := s.progress o
      fin (progressPayload p.bytes p.shift p.bitmap)
    else if 0x10 ≤ st then fin []
    else if q.opcode = 1 ∨ q.opcode = 7 then
      s.cergaData i o.window q.seq q.opcode st q.len (q.addr % pairSpace) marks (q.len / 8064 + 2) 0 data
    else if 3 ≤ q.opcode ∧ q.opcode ≤ 5 then fin (leBytes (atomicWidth q.opcode) (o.value.getD 0))
    else if q.opcode = 9 ∧ !s.ledger.lost then
      let (pay, info, s) := s.ledgerQuery (s.queueId i) q.data (q.arg == 1)
      s.cergaRespond i o.window q.seq 9 st info true pay
    else if q.opcode = 10 then
      let challenge := leNat (q.data.take 32)
      (s.cergaReport i o.window q.seq 2 0 (s.hallmarkReport challenge)).raise Ev.SECURITY_HALLMARK_ISSUED []
    else if q.opcode = 11 then fin (s.timePayload q.arrived)
    else fin []
  let atomic := atomicOp q.opcode
  let pay := if atomic && st < 0x10 then leBytes (atomicWidth q.opcode) (o.value.getD 0)
    else if st = St.PARTIAL ∨ st = St.FAULT_INTERNAL then
      let p := s.progress o
      progressPayload p.bytes p.shift p.bitmap
    else []
  let s' := if atomic || (q.opcode == 2 && st != St.DONE && st != St.DEGRADED) then
      s'.cacheResult i ⟨q.seq, q.opcode, st, pay, if atomic then some o.id else none, q.addr, o.pd⟩
        (if atomic && !o.executed then s.runningAtomics q.src - 1 else 0)
    else s'
  s'.coverResponse i q.seq (packetCount q.opcode q.len)

/-- The PSNs a request of a QP takes. -/
def rocePackets (opcode len : Nat) : Nat := if opcode = 1 ∨ opcode = 2 then max 1 (ceilDiv len 4096) else 1

/-- A QP that answers: RTR or RTS (R123). -/
def State.qpAnswers (s : State) (q : Nat) : Bool :=
  match s.qp? q with
  | some x => x.state == .rtr || x.state == .rts
  | none => false

/-- Acknowledges the duplicate writes once every write at or below their PSN is durable, those that still wait for admission among them
(R128). -/
def State.settleAcks (s : State) (q window : Nat) : State :=
  match s.qp? q with
  | none => s
  | some x =>
    let below (r : Request) (psn : Nat) : Bool := r.src == .roce q && r.opcode == 2
      && decide ((psn + 2 ^ 24 - r.seq % 2 ^ 24) % 2 ^ 24 < 2 ^ 23)
    let waits (psn : Nat) : Bool := s.eng.ops.any (fun o => below o.req psn && !o.responded) || s.eng.waiting.any (fun w => below w.req psn)
    let ready := x.acks.filter (fun p => !waits p)
    ready.foldl (fun s p => s.roceSend q x.port window 0x11 p (some 0x1F) []) (s.setQp q { x with acks := x.acks.filter waits })

/-- What a QP still owes leaves once the operations before it have answered: acknowledgements of duplicates and NAKs (R128, R129). -/
def State.settleQp (s : State) (q window : Nat) : State :=
  let s := s.settleAcks q window
  s.settleOwed q window (((s.qp? q).map (·.owed.length)).getD 0)

/-- RoCEv2: the response of an operation (R130, Table 6-5), from the port its request arrived on (R124). A write's ACK is for the highest
PSN it covers; a status other than DONE is recorded. A QP that has left RTR and RTS answers nothing, and a write that its assembly
timeout cut is answered by the NAK owed for it (R132). -/
def State.respondRoce (s : State) (o : Op) (q st : Nat) (data : List Byte) (marks : List Nat) : State :=
  let r := o.req
  if !s.qpAnswers q then s else
  let s := if st = St.DEGRADED then s.lastNak q st else s
  if st = St.DONE ∨ st = St.DEGRADED then
    if r.opcode = 1 then s.roceData q r.port o.window (r.addr % pairSpace) marks true (r.len / 4096 + 2) r.seq data
    else if r.opcode = 2 then
      s.roceSend q r.port o.window 0x11 (r.seq + max 1 (ceilDiv r.len 4096) - 1) (some 0x1F) []
    else
      let v := o.value.getD 0
      let s := s.roceSend q r.port o.window 0x12 r.seq (some 0x1F) (leBytes 8 v).reverse
      match s.qp? q with
      | some x =>
        let l := x.results ++ [⟨r.seq, if r.opcode = 5 then 0x14 else 0x13, v⟩]
        s.setQp q { x with results := l.drop (l.length - x.maxRd) }
      | none => s
  else if st = St.PARTIAL && ((s.qp? q).map (fun x => x.owed.any (·.fatal.isSome))).getD false then s
  else if r.opcode = 1 && st = St.POISON_RETURNED then
    s.roceData q r.port o.window (r.addr % pairSpace) marks true (r.len / 4096 + 2) r.seq data
  else
    let s := if mutating r.opcode && (st == St.BUSY || st == St.RESTORING) then s.rememberRetry q r.seq (rocePackets r.opcode r.len)
      else s
    s.roceNak q r.port o.window r.seq st (st = St.DENIED_PROTECTION && misaligned r.opcode (r.addr % pairSpace))

/-- MEMOP: the command's completion, and for a read the data and poison bits written to host memory (R87, R308, Table 4-4). -/
def State.respondHost (s : State) (o : Op) (cmd st : Nat) (data : List Byte) (marks : List Nat) : State :=
  let p := s.progress o
  let s := if o.req.opcode = 1 && (st = St.DONE || st = St.POISON_RETURNED) then
      let a := o.req.addr % pairSpace
      let n := if o.req.len = 0 then 0 else (a + o.req.len - 1) / 64 + 1 - a / 64
      let bits := leBytes (ceilDiv (ceilDiv n 8) 64 * 64) (poisonBits marks (a / 64) n)
      s.send (.hostWrite o.req.arg (data ++ bits))
    else s
  if st = St.PARTIAL ∨ st = St.FAULT_INTERNAL then s.endCmd cmd st 0 (pack [(4, p.bytes), (1, p.shift), (8, p.bitmap)])
  else if o.req.opcode = 1 && st < 0x10 then s.endCmd cmd st 0 o.req.len
  else s.endCmd cmd st 0 0

/-- Moves cursor `c` of schedule `id` to position `p`: tiles that leave its window receive an eviction request with EVICT_BEHIND
(R230). -/
def State.setCursor (s : State) (id c p : Nat) : State :=
  match AMap.get? s.shelf.schedules id with
  | none => s
  | some sc =>
    let old := Schedule.window sc (sc.positions.getD (c - sc.first) 0)
    let sc' := { sc with positions := sc.positions.set (c - sc.first) p }
    let gone := old.filter (fun k => !(Schedule.window sc' p).contains k)
    let s := { s with shelf.schedules := AMap.set s.shelf.schedules id sc' }
    if sc.behind then gone.foldl (fun s k => s.evictRequest sc.object k) s else s

/-- SHELF_READ moves its cursor once the read has completed (R231). -/
def State.moveCursor (s : State) (o : Op) : State :=
  match o.req.cursor with
  | none => s
  | some c => match s.cursorSchedule c, s.shelfOffset (o.req.addr % pairSpace) with
    | some (id, sc), some (ob, off) =>
      match s.object? ob with
      | none => s
      | some x =>
        let p := sc.positions.getD (c - sc.first) 0
        let lastByte := off + o.req.len - 1
        let t := lastByte / Object.slot x
        let n := sc.entries.length
        let entry (i : Nat) : Option Nat := if sc.wrap then sc.entries[i % n]? else sc.entries[i]?
        let head := if x.header then page4K else 0
        let payEnd := t * Object.slot x + head + min (tileSize x.tileCode) (x.size - t * tileSize x.tileCode) - 1
        match (rangeFrom 0 sc.lookahead).find? (fun j => entry (p + j) == some t) with
        | some j =>
          let p' := if lastByte = payEnd then p + j + 1 else p + j
          s.setCursor id c (if sc.wrap then p' % n else p')
        | none => s.bump R.TIER_OFF_SCHEDULE 1
    | _, _ => s

/-- SCHEDULE_ADVANCE (R232): one entry on, or to the next entry that names a tile, searched to the end and then from entry 0. -/
def State.advanceCursor (s : State) (c tile : Nat) : State :=
  match s.cursorSchedule c with
  | none => s
  | some (id, sc) =>
    let n := sc.entries.length
    let p := sc.positions.getD (c - sc.first) 0
    if tile = 0xFFFFFFFF then s.setCursor id c (if sc.wrap then (p + 1) % n else min n (p + 1))
    else match (rangeFrom 0 n).find? (fun j => sc.entries[(p + j) % n]? == some tile) with
      | some j => s.setCursor id c ((p + j) % n)
      | none => s.bump R.TIER_OFF_SCHEDULE 1

/-- What the mirror stream carries of an operation on a MIRRORED region before its response leaves (R117, R133): the range of a
write or atomic (kind 1, or 4 for a QP), and an atomic's result (kind 2, or 5 for a QP). -/
def State.carryState (s : State) (o : Op) (st : Nat) : State :=
  let q := o.req
  if !o.mirrored || !mutating q.opcode || !s.paired then s
  else
    let value := o.value.getD 0
    match q.src with
    | .cerga i e =>
      let join (l : List Nat) : List Nat :=
        (rangeFrom q.seq (packetCount q.opcode q.len)).foldl (fun l n => insertNat (n % 2 ^ 32) l) l
      let mark := fun y : Stream => ({ y with carried := join y.carried } : Stream)
      let s := if s.linkUp then s.updStream i mark else s
      let s := s.sendStreamState [1, i, e, q.seq, packetCount q.opcode q.len]
      if q.opcode = 2 then s else s.sendStreamState [2, i, e, q.seq, q.opcode, st, value, q.addr, o.pd]
    | .roce x =>
      let s := s.sendStreamState [4, x, 0, q.seq, if q.opcode = 2 then max 1 (ceilDiv q.len 4096) else 1]
      if q.opcode = 2 then s else s.sendStreamState [5, x, 0, q.seq, if q.opcode = 5 then 0x14 else 0x13, value]
    | .host _ _ => s

/-- The last record sent for a page within 200 µs whose data reads already see: LAST_WRITE of R185. -/
def State.lastWrite (s : State) (page : Nat) : Nat × Nat :=
  let seen := s.twin.recent.filter (fun x => x.1 == page && decide (s.now ≤ x.2.2.2 + us 200)
    && s.eng.gather.all (fun g => g.record != some (x.2.1, x.2.2.1)))
  match seen.getLast? with
  | some x => (x.2.1, x.2.2.1)
  | none => (0, 0)

/-- Shadow sampling (R185): one read in 2^SAMPLE_K of a MIRRORED region that lies within one page sends a SHADOW item; one that holds a
poisoned chunk is counted and not compared (R295). -/
def State.sampleShadow (s : State) (o : Op) (data : List Byte) (poisoned : Bool) : State :=
  let a := o.req.addr % pairSpace
  if o.req.opcode = 1 ∧ o.mirrored ∧ s.on R.TWIN_ASSAY_SHADOW_EN ∧ 0 < o.req.len ∧ a / page4K = (a + o.req.len - 1) / page4K
      ∧ s.standbyCurrent then
    let s := { s with twin.reads := s.twin.reads + 1 }
    if s.twin.reads % 2 ^ s.rd R.TWIN_ASSAY_SAMPLE_K != 0 then s
    else if poisoned then s.bump R.TWIN_SHADOW_SKIP 1
    else
      let w := s.lastWrite (a / page4K)
      s.sendItem (plainItem 0x0B (shadowBody a o.req.len w.1 w.2 (cmac s.twin.assayKey data)))
  else s

/-- The data of a read as delivered: the bytes of its poisoned chunks are undefined (R77), so they are free values (assumption log
6). `a` is the address of the first byte. -/
def State.poisonedData (s : State) (a : Nat) (marks : List Nat) (data : List Byte) : List Byte × State :=
  if marks.isEmpty then (data, s)
  else
    let (v, s) := s.fresh (8 * data.length)
    let pick (x : Nat × Byte × Byte) : Byte := if marks.contains (x.1 / 64) then x.2.2 else x.2.1
    (((rangeFrom a data.length).zip (data.zip (leBytes data.length v))).map pick, s)

/-- Ends an operation: charges, response, cursor, and its tag, which a Cerga atomic keeps until its client acknowledges it (R69,
R101). -/
def State.completeOp (s : State) (o : Op) : State :=
  let reads := (o.req.opcode == 1 || o.req.opcode == 7) && o.status.isNone
  let marks := if reads then s.readMarks o else []
  let (data, s) := s.poisonedData (o.req.addr % pairSpace) marks (if reads then s.readBytes o else [])
  let st := if reads && !marks.isEmpty then St.POISON_RETURNED else s.finalStatus o
  let s := if st = St.DEGRADED then s.bump R.TWIN_DEGRADED_WRITES 1 else s
  let s := if st = St.POISON_RETURNED then s.raise Ev.MEMOP_POISON_DELIVERED [] else s
  let s := if st = St.FAULT_INTERNAL && o.req.opcode != 9 then s.raise Ev.MEMOP_OP_FAULT [] else s
  let s := (s.note (.status o.pd o.req.opcode st)).chargeEnd o st
  let s := s.carryState o st
  let s := if reads then s.sampleShadow o data (!marks.isEmpty) else s
  let s := if o.req.opcode = 8 ∧ o.status.isNone then s.advanceCursor (o.req.cursor.getD 0) o.req.arg else s
  let (s, keep) := match o.req.src with
    | .cerga i _ =>
      let s := s.respondCerga o i st data marks
      (s, atomicOp o.req.opcode && (s.stream i).cache.any (fun c => c.op == some o.id))
    | .roce q => ((s.respondRoce o q st data marks), false)
    | .host _ c => (s.respondHost o c st data marks, false)
  let s := if o.req.opcode = 7 && reads then s.moveCursor o else s
  let s := if keep then s.updOp o.id (fun o => { o with responded := true })
    else { s with eng.ops := s.eng.ops.filter (fun p => p.id != o.id) }
  let s := match o.req.src with | .roce q => s.settleQp q o.window | _ => s
  let left := fun d : Drain => ({ d with ops := d.ops.filter (· != o.id) } : Drain)
  let s := { s with prot.drains := s.prot.drains.map left }
  s.settleIfDone.advanceAll.moveWaiters.tierViews

/-- The pieces of an operation without the bytes from `off` to `off + n`. -/
def withoutPiece (off n : Nat) (ps : List (Nat × Nat)) : List (Nat × Nat) :=
  (ps.map (fun p =>
    let lo := (p.1, min (p.1 + p.2) off - p.1)
    let hi := (max p.1 (off + n), p.1 + p.2 - max p.1 (off + n))
    [lo, hi].filter (fun q => decide (0 < q.2)))).flatten

/-- A gather entry leaves without being applied: what it held no longer counts as placed (R79). -/
def State.loseEntry (s : State) (g : Gather) : State :=
  let s := { s with eng.gather := s.eng.gather.filter (fun x => x.id != g.id) }
  match g.op with
  | some id => s.updOp id (fun o => { o with placed := withoutPiece (g.addr - o.req.addr % pairSpace) g.data.length o.placed })
  | none => s

/-- Cuts running operations at the drain limit or at the bound of a yield (R55, R81, R188). READ, WRITE and SHELF_READ end PARTIAL; an
atomic that has not executed ends FAULT_INTERNAL where `atomics` says so, since Table 4-2 gives PARTIAL to operations that move data
(DESIGN CHOICE, assumption log 175); fences and queries are never cut. What a cut write has placed and not sent to the twin leaves
with it. -/
def State.cutOps (s : State) (ids : List Nat) (atomics : Bool) : State :=
  let moves (o : Op) : Bool := o.req.opcode == 1 || o.req.opcode == 2 || o.req.opcode == 7
  let hit (o : Op) : Bool := ids.contains o.id && o.status.isNone && !o.responded && !s.opReady o
    && (moves o || (atomics && decide (3 ≤ o.req.opcode ∧ o.req.opcode ≤ 5) && !o.executed))
  let cut := fun o : Op =>
    if hit o then ({ o with status := some (if moves o then St.PARTIAL else St.FAULT_INTERNAL), held := [], lines := [] } : Op) else o
  let gone := s.eng.gather.filter (fun g => g.stuck && (match g.op with
    | some id => s.eng.ops.any (fun o => o.id == id && hit o)
    | none => false))
  gone.foldl State.loseEntry { s with eng.ops := s.eng.ops.map cut }

/-- OPERATION_COMPLETION of the operation under a tag. -/
def execOperationCompletion (tag : Nat) (s : State) : Host.Outcome State Fault Refusal :=
  .next <|
    match s.eng.ops.find? (fun o => o.tag == tag && s.opReady o) with
    | some o => if s.coreOn && (!s.save.active || decide (s.save.step ≤ 2)) then s.completeOp o else s
    | none => s

/-- TAG_WAIT_TIMEOUT: 100 µs without a free tag (R76): the head request of a stream completes BUSY with no effect. -/
def State.busyRequest (s : State) (w : Waiter) : State :=
  let q := w.req
  let s := s.dropWaiter w
  let s := s.charge (s.pdAccount q.pd) 8 1
  match q.src with
  | .cerga i _ =>
    let s := (s.cergaRespond i s.meter.current.id q.seq q.opcode St.BUSY 0 true []).coverResponse i q.seq (packetCount q.opcode q.len)
    if mutating q.opcode then
      s.cacheResult i ⟨q.seq, q.opcode, St.BUSY, [], none, q.addr, q.pd⟩ (if atomicOp q.opcode then s.runningAtomics q.src else 0)
    else s
  | .roce x =>
    let s := if mutating q.opcode then s.rememberRetry x q.seq (rocePackets q.opcode q.len) else s
    (s.roceNak x q.port s.meter.current.id q.seq St.BUSY false).settleQp x s.meter.current.id
  | .host _ c => s.finish c St.BUSY

/-- TAG_WAIT_TIMEOUT of the request `seq` of its source. -/
def execTagWaitTimeout (queue seq : Nat) (s : State) : Host.Outcome State Fault Refusal :=
  .next <|
    match (headWaiters s.eng.waiting []).find? (fun w => w.stage == .tag && (s.sourceKey w.req.src).2 == queue && w.req.seq == seq) with
    | some w => if s.coreOn && decide (w.since + us 100 ≤ s.now) then (s.busyRequest w).moveWaiters else s
    | none => s

/-- HOLD_ADMISSION: the head of the wait is admitted once the test of R148 holds. -/
def execHoldAdmission (s : State) : Host.Outcome State Fault Refusal :=
  .next <|
    match s.eng.waiting.find? (fun w => w.stage == .hold) with
    | some w =>
      if s.coreOn && !s.save.active && s.freeTag.isSome && (s.holdAdmits w.req || !s.mustHold w.req) then
        ((s.dropWaiter w).admitRequest w.req (Request.isFull w.req)).moveWaiters
      else s
    | none => s

/-- HOLD_TIMEOUT: a write not admitted within HOLD_US completes BUSY and is counted (R148). -/
def execHoldTimeout (queue seq : Nat) (s : State) : Host.Outcome State Fault Refusal :=
  .next <|
    match s.eng.waiting.find? (fun w => w.stage == .hold && (s.sourceKey w.req.src).2 == queue && w.req.seq == seq) with
    | some w =>
      if s.coreOn && decide (w.since + us (s.rd R.DUR_THRESH_HOLD_US) ≤ s.now) then
        ((s.busyRequest w).bump R.DUR_HOLD_BUSY_COUNT 1).moveWaiters
      else s
    | none => s

/-- RESTORE_WAIT_TIMEOUT: the unit is still not restored after WAIT_US (R455). -/
def execRestoreWaitTimeout (tag : Nat) (s : State) : Host.Outcome State Fault Refusal :=
  .next <|
    match s.eng.ops.find? (fun o => o.tag == tag && !o.units.isEmpty && o.status.isNone) with
    | some o =>
      if s.coreOn && due s.now o.restoreEnd then (s.endOp o.id St.RESTORING).bump R.DUR_RESTORING 1 else s
    | none => s

end Sys2Proof.Machine
end

