-- ==== Sys2Proof/Machine/Near.lean ====
section
/-! DEFINITION. The near cache's own work: fills that arrive, locked ranges, range invalidation, and disabling (R206 to R217). -/

namespace Sys2Proof.Machine

open Sys2Proof

/-! ### Fills -/

/-- A line is served: the operations that wait for it go on. -/
def State.wakeLine (s : State) (l : Nat) : State :=
  let f := fun o : Op => ({ o with lines := o.lines.filter (· != l) } : Op)
  { s with eng.ops := s.eng.ops.map f }

/-- Installs the line of a bank's miss register: the fill data from DRAM with the merged writes over them (R206). `ue` says that
the fill met an uncorrectable error, which poisons the line (R208). -/
def State.installFill (s : State) (b : Nat) (ue : Bool) : State :=
  match AMap.get? s.near.misses b with
  | none => s
  | some m =>
    let s := { s with near.misses := AMap.del s.near.misses b }
    let data := m.merged.foldl (fun d p => d.set p.1 p.2) (s.dramLine m.line)
    let poison := ue || AMap.has s.mem.dramPoison m.line
    let s := match m.way with
      | some w =>
        let lock : Bool := match s.wayLine w with | some x => x.lock | none => false
        s.setWay w ⟨m.line, if m.merged.isEmpty then .clean else .dirty, lock, poison, data⟩
      | none => if m.merged.isEmpty then s else s.writeLine ⟨m.line, .dirty, false, poison, data⟩
    s.wakeLine m.line

/-- An access that waits for a bank finds its line there, or issues its own fill once the miss register is free (R206). -/
def State.retryFill (s : State) (l : Nat) : State :=
  if AMap.has s.near.misses (lineBank l) then s
  else if (s.findWay l).isSome || (s.findVictim l).isSome || !s.nearOn then s.wakeLine l
  else s.startFill l

/-- The accesses that wait for a bank go on in order until one of them holds its miss register (R206). -/
def State.nextFill (s : State) (b : Nat) : State :=
  (((s.eng.ops.map (·.lines)).flatten).filter (fun l => lineBank l == b)).foldl State.retryFill s

/-! ### Locked ranges (R209 to R213) -/

/-- The media lines of a range of a region: of its DRAM, or of the tiles that are in stage. -/
def State.rangeLines (s : State) (r : Region) (off len : Nat) : List Nat :=
  if r.shelf then
    ((rangeFrom ((r.base + off) / 64) (len / 64)).filterMap (fun c => s.shelfMedia (c * 64))).map (· / 64)
  else ((s.mediaPieces (r.base + off) len).map (fun p => linesOf p.1 p.2)).flatten

/-- The lines a lock-table entry covers. -/
def State.lockLines (s : State) (e : LockRange) : List Nat :=
  match s.region? e.region with
  | some r => s.rangeLines r e.offset e.len
  | none => []

/-- The way that is locked-empty for a line. -/
def State.emptyWay (s : State) (l : Nat) : Option Nat :=
  (waysOf l).find? (fun w => match s.wayLine w with
    | some x => x.line == l && x.state == .empty
    | none => false)

/-- A line that stands in way `w` moves, with the fill it may be under, into its locked-empty way `e` (R213). -/
def State.moveWay (s : State) (w e : Nat) : State :=
  match s.wayLine w with
  | some x =>
    let s := { s with near.ways := AMap.del s.near.ways w }.setWay e { x with lock := true }
    { s with near.misses := AMap.upd s.near.misses (lineBank x.line) (fun m => if m.line = x.line then { m with way := some e } else m) }
  | none => s

/-- Makes a line resident and sets LOCK on it: in its locked-empty way where it has one, in place, or in a way chosen by R204. -/
def State.lockLine (s : State) (l : Nat) : State :=
  let s := if (s.findWay l).isNone then (match s.findVictim l with | some x => s.recall x | none => s) else s
  match s.findWay l with
  | some w => match s.emptyWay l with
    | some e => (s.moveWay w e).touch e
    | none => { s with near.ways := AMap.upd s.near.ways w (fun x => { x with lock := true }) }
  | none =>
    let load (s : State) (w : Nat) : State :=
      (s.setWay w ⟨l, .clean, true, AMap.has s.mem.dramPoison l, s.dramLine l⟩).touch w
    match s.emptyWay l with
    | some w => load s w
    | none => match s.fillWay l with
      | some w => load (s.vacate w) w
      | none => s

/-- Tiles of a lock-table range that are not staged whole. -/
def State.lockTilesMissing (s : State) (e : LockRange) : List (Nat × Nat) :=
  match s.region? e.region with
  | some r => if r.shelf then (s.tilesOf (r.base + e.offset) e.len).filter (fun t => match s.tile? t.1 t.2 with
      | some x => x.state != .staged
      | none => true) else []
  | none => []

/-- Whether newly locking these lines would pass MAX_LOCK_WAYS in some set; a retired way does not count (R209, R210, R298). -/
def State.overLocked (s : State) (ls : List Nat) : Bool :=
  ls.any (fun l =>
    let k := setKey l
    let locked := (waysOf l).filter (fun w => !s.near.retired.contains w && (match s.wayLine w with
      | some x => x.lock || x.state == .empty
      | none => false))
    decide (s.rd R.NEAR_CTRL_MAX_LOCK_WAYS < locked.length + (ls.filter (fun m => setKey m == k)).length))

/-- The lines of a lock-table entry that no other entry covers. -/
def State.newlyLocked (s : State) (i : Nat) (e : LockRange) : List Nat :=
  let kept := ((s.near.locks.filter (fun x => x.1 != i)).map (fun x => s.lockLines x.2)).flatten
  (s.lockLines e).filter (fun l => !kept.contains l)

/-- Takes a range from those that load. -/
def State.loadEnds (s : State) (w : Option Nat × Nat × Bool) : State :=
  let s := { s with near.loading := s.near.loading.filter (fun x => x != w) }
  s.flag R.NEAR_STATUS_LOAD_ACTIVE (!s.near.loading.isEmpty)

/-- The tiles of a range that loads are all staged: its lines are known now, and are counted and locked. A CACHE_LOCK that would pass the
limit with them is refused and leaves no entry (R210, R211). -/
def State.finishLock (s : State) (w : Option Nat × Nat × Bool) (e : LockRange) : State :=
  let s := s.loadEnds w
  match w.1.bind (fun id => s.cmds.find? (fun c => c.id == id)) with
  | none => ((s.lockLines e).foldl State.lockLine s).nearViews
  | some c =>
    if !w.2.2 && s.overLocked (s.newlyLocked w.2.1 e) then
      ({ s with near.locks := AMap.del s.near.locks w.2.1 }.refuse c.id Why.LOCK_LIMIT).nearViews
    else
      let s := s.mirrorCommand c [e.region, e.offset, e.len, w.2.1]
      (((s.lockLines e).foldl State.lockLine s).endCmd c.id St.DONE 0 w.2.1).nearViews

/-- Takes one range that loads as far as it can go: its tiles start as stage space allows. A range that a CACHE_UNLOCK has removed
loads no more. -/
def State.settleLock (s : State) (w : Option Nat × Nat × Bool) : State :=
  match AMap.get? s.near.locks w.2.1 with
  | none => match w.1 with
    | some c => (s.loadEnds w).refuse c Why.NOT_FOUND
    | none => s.loadEnds w
  | some e =>
    let missing := s.lockTilesMissing e
    if missing.isEmpty then s.finishLock w e else missing.foldl (fun s t => s.startTile t.1 t.2 0 false) s

/-- Takes every range that loads as far as it can go (R211). -/
def State.settleLocks (s : State) : State := s.near.loading.foldl State.settleLock s

/-- Every lock-table range loads again, where the cache is ENABLED: its resident lines at once, a shelf range once its tiles are staged
(R210). -/
def State.reloadLocks (s : State) : State :=
  if s.nearOn then
    let again := s.near.locks.map (fun e => ((none, e.1, true) : Option Nat × Nat × Bool))
    { s with near.loading := s.near.loading ++ again.filter (fun w => !s.near.loading.contains w) }.settleLocks.nearViews
  else s

/-- The lines of a lock-table entry stop being locked, those apart that another range covers (R212). -/
def State.unlockEntry (s : State) (i : Nat) : State :=
  match AMap.get? s.near.locks i with
  | none => s
  | some e =>
    let mine := s.lockLines e
    let s := { s with near.locks := AMap.del s.near.locks i }
    let kept := (s.near.locks.map (fun x => s.lockLines x.2)).flatten
    let s := (mine.filter (fun l => !kept.contains l)).foldl (fun s l => match s.findWay l with
      | some w => { s with near.ways := AMap.upd s.near.ways w (fun x => { x with lock := false }) }
      | none => match s.emptyWay l with
        | some w => { s with near.ways := AMap.del s.near.ways w }
        | none => s) s
    s.nearViews

/-- Unlocks every range of a region (R213). -/
def State.unlockRegion (s : State) (region : Nat) : State :=
  (s.near.locks.filter (fun e => e.2.region == region)).foldl (fun s e => s.unlockEntry e.1) s

/-- Whether a range lies wholly inside a lock-table range of the same region: the lowest index of one (R213). -/
def State.coveringLock (s : State) (region off len : Nat) : Option Nat :=
  (s.near.locks.find? (fun e => e.2.region == region && decide (e.2.offset ≤ off ∧ off + len ≤ e.2.offset + e.2.len))).map (·.1)

/-- The outcome of a CACHE_LOCK before anything changes: a re-pin's index, or a free index (R209, R210, R213, R217). The lines of a
shelf range are counted once its tiles are staged. -/
def State.lockVerdict (s : State) (region off len : Nat) : Except Nat (Nat × Bool × Nat) :=
  match s.region? region with
  | none => .error Why.NOT_FOUND
  | some r =>
    let n := if len = 0 then r.size - off else len
    if !r.pinNear then .error Why.NOT_PIN_NEAR
    else if off % 64 != 0 || n % 64 != 0 || decide (r.size < off + n) then .error Why.BAD_ADDRESS
    else if !s.nearOn then .error Why.CACHE_OFF
    else match s.coveringLock region off n with
      | some i => .ok (i, true, n)
      | none =>
        match AMap.free s.near.locks 0 4096 with
        | none => .error Why.TABLE_FULL
        | some i => if !r.shelf && s.overLocked (s.newlyLocked i ⟨region, off, n⟩) then .error Why.LOCK_LIMIT else .ok (i, false, n)

/-- Enters a range in the lock table and loads it; a shelf range waits for its tiles (R210, R211). -/
def State.applyLock (s : State) (region off len i : Nat) (repin : Bool) (cmd : Option Nat) : State :=
  let s := if repin then s else { s with near.locks := AMap.set s.near.locks i (⟨region, off, len⟩ : LockRange) }
  let s := { s with near.loading := s.near.loading ++ [(cmd, i, repin)] }.wr R.NEAR_STATUS_LOAD_ACTIVE 1
  (s.settleLock (cmd, i, repin)).nearViews

/-- CACHE_LOCK (R210, R213). -/
def execCacheLock (r : CmdRef) (region off len : Nat) (s : State) : Host.Outcome State Fault Refusal :=
  .next <| s.command r 0x0501 (fun c s => s.ifHolder c (fun s =>
    match s.lockVerdict region off len with
    | .error e => s.refuse c.id e
    | .ok (i, repin, n) => s.applyLock region off n i repin (some c.id)))

/-- The lock-table entry that CACHE_UNLOCK names exactly. -/
def State.exactLock (s : State) (region off len : Nat) : Option Nat :=
  (s.near.locks.find? (fun e => e.2.region == region && e.2.offset == off && e.2.len == len)).map (·.1)

/-- CACHE_UNLOCK (R212). -/
def execCacheUnlock (r : CmdRef) (region off len : Nat) (s : State) : Host.Outcome State Fault Refusal :=
  .next <| s.command r 0x0502 (fun c s => s.ifHolder c (fun s =>
    match s.region? region with
    | none => s.refuse c.id Why.NOT_FOUND
    | some x =>
      let n := if len = 0 then x.size - off else len
      if off % 64 != 0 || n % 64 != 0 || decide (x.size < off + n) then s.refuse c.id Why.BAD_ADDRESS
      else match s.exactLock region off n with
        | none => s.refuse c.id Why.NOT_FOUND
        | some i => ((s.mirrorCommand c [region, off, n]).unlockEntry i).finish c.id St.DONE))

/-! ### Invalidation and disabling (R214, R215) -/

/-- Writes a line back and invalidates it where it stands; a locked way becomes locked-empty unless `all` (R214, R215). The
answer counts a write-back. -/
def State.dropLine (s : State) (l : Nat) (all : Bool) : Nat × State :=
  let s := if (match AMap.get? s.near.misses (lineBank l) with | some m => m.line == l | none => false)
    then (s.installFill (lineBank l) false).nextFill (lineBank l) else s
  match s.findWay l with
  | some w => match s.wayLine w with
    | some x =>
      let dirty := x.state == .dirty || x.state == .atomic
      let s := if dirty then s.writeLine x else s
      let s := if x.lock && !all then s.setWay w { x with state := .empty, poison := false, data := [] }
        else { s with near.ways := AMap.del s.near.ways w }
      (if dirty then 1 else 0, s)
    | none => (0, s)
  | none => match s.findVictim l with
    | some x =>
      let dirty := x.state == .dirty || x.state == .atomic
      let s := if dirty then s.writeLine x else s
      (if dirty then 1 else 0, s.setVictims (lineBank l) ((s.victimsOf (lineBank l)).filter (fun y => y.line != l)))
    | none => (0, s)

/-- Drops the lines of a list and counts the write-backs. -/
def State.dropLines (s : State) (ls : List Nat) (all : Bool) : Nat × State :=
  ls.foldl (fun (x : Nat × State) l => let (k, s) := x.2.dropLine l all; (x.1 + k, s)) (0, s)

/-- Invalidates the near-cache lines of 64 KiB units of stage, and drops their marks (R227). -/
def State.dropUnits (s : State) (units : List Nat) (all : Bool) : State :=
  let mine (l : Nat) : Bool := units.contains (l * 64 / unit64K)
  let s := (s.dropLines ((s.near.ways.map (·.2.line) ++ ((s.near.victims.map (·.2)).flatten).map (·.line)).filter mine) all).2.nearViews
  { s with mem.dramPoison := s.mem.dramPoison.filter (fun e => !mine e.1), integ.fixing := s.integ.fixing.filter (fun l => !mine l) }

/-- The stage of an H9 that becomes standby is given up; locked ranges of SHELF regions load again when it serves (R210, R238). -/
def State.dropStage (s : State) : State :=
  let shelf (e : Nat × LockRange) : Bool := ((s.region? e.2.region).map (·.shelf)).getD false
  let again := (s.near.locks.filter shelf).map (fun e => ((none, e.1, true) : Option Nat × Nat × Bool))
  let s := s.dropUnits (s.shelf.tiles.map (·.units)).flatten true
  let more := again.filter (fun w => !(s.near.loading.any (fun x => x.2.1 == w.2.1)))
  let s := { s with shelf.tiles := [], shelf.asked := [], near.loading := s.near.loading ++ more }
  (s.flag R.NEAR_STATUS_LOAD_ACTIVE (!s.near.loading.isEmpty)).tierViews

/-- CACHE_RANGE_INVALIDATE: on the H9 that receives it, active or standby (R214, R217). Its walk is one step of the model, so
NEAR_STATUS.INVAL_ACTIVE reads 0 between steps (assumption log 176). -/
def execCacheRangeInvalidate (r : CmdRef) (region off len : Nat) (s : State) : Host.Outcome State Fault Refusal :=
  .next <| s.command r 0x0503 (fun c s =>
    match s.region? region with
    | none => s.refuse c.id Why.NOT_FOUND
    | some x =>
      let n := if len = 0 then x.size - off else len
      if off % 64 != 0 || n % 64 != 0 || decide (x.size < off + n) then s.refuse c.id Why.BAD_ADDRESS
      else
        let (k, s) := s.dropLines (s.rangeLines x off n) false
        (s.nearViews.advanceAll).endCmd c.id St.DONE 0 k)

/-- Every line number the cache holds. -/
def State.residentLines (s : State) : List Nat :=
  (s.near.ways.map (·.2.line)) ++ ((s.near.victims.map (·.2)).flatten).map (·.line)

/-- Writes every DIRTY line to DRAM and leaves the cache empty; the lock table stays (R207, R215). -/
def State.flushNear (s : State) : State :=
  let s := (s.near.misses.map (·.1)).foldl (fun s b => s.installFill b false) s
  let s := (s.dropLines s.residentLines true).2
  { s with near.ways := [], near.victims := [], near.lru := [] }.nearViews

/-- NEAR_CTRL.ENABLE written 0 while ENABLED: DISABLING (R215). -/
def State.disableNear (s : State) : State :=
  if s.nearOn then
    let s := (s.wr R.NEAR_CTRL_ENABLE 2).wr R.NEAR_FLUSH_LEFT_LINES s.residentLines.length
    { s with near.reenable := false }
  else { s with near.reenable := false }

/-- NEAR_CTRL.ENABLE written 1: at once from DISABLED, and after the flush from DISABLING (R215). -/
def State.enableNear (s : State) : State :=
  if s.rd R.NEAR_CTRL_ENABLE = 0 then (s.wr R.NEAR_CTRL_ENABLE 1).reloadLocks
  else if s.rd R.NEAR_CTRL_ENABLE = 2 then { s with near.reenable := true }
  else s

/-- NEAR_CACHE_DISABLE: a register write of 0 to NEAR_CTRL.ENABLE, with the MAX_LOCK_WAYS written in the same word. -/
def execNearCacheDisable (maxLockWays : Nat) (s : State) : Host.Outcome State Fault Refusal :=
  .next (if s.coreOn then (s.wr R.NEAR_CTRL_MAX_LOCK_WAYS (clampTo 0 12 maxLockWays)).disableNear else s)

/-- NEAR_CACHE_ENABLE: a register write of 1 (or any other code) to NEAR_CTRL.ENABLE. -/
def execNearCacheEnable (maxLockWays : Nat) (s : State) : Host.Outcome State Fault Refusal :=
  .next (if s.coreOn then (s.wr R.NEAR_CTRL_MAX_LOCK_WAYS (clampTo 0 12 maxLockWays)).enableNear else s)

/-- NEAR_FLUSH_COMPLETE: every line is INVALID, ENABLE reads DISABLED, and a stored enable takes effect (R215). -/
def execNearFlushComplete (s : State) : Host.Outcome State Fault Refusal :=
  .next <|
    if s.coreOn && s.rd R.NEAR_CTRL_ENABLE == 2 then
      let again := s.near.reenable
      let s := ((s.flushNear.wr R.NEAR_CTRL_ENABLE 0).wr R.NEAR_FLUSH_LEFT_LINES 0).raise Ev.NEAR_DISABLED []
      let s := { s with near.reenable := false }
      let s := if again then s.enableNear else s
      ((s.eng.ops.map (·.lines)).flatten.foldl State.wakeLine s).advanceAll
    else s

end Sys2Proof.Machine
end

