-- ==== Sys2Proof/Machine/Directory.lean ====
section
/-! DEFINITION. What a change of the region, PD and queue tables does to the domain: the worker's outbox, the manager's
directory, and pushes (R343 to R347). -/

namespace Sys2Proof.Machine

open Sys2Proof

/-- Manager pair that has founded its domain. -/
def State.founded (s : State) : Bool := s.roleStrap == 2 && s.rd R.DOMAIN_STATUS_STATE == 2
/-- Member worker, or one on its way in or out (R347). -/
def State.inDomain (s : State) : Bool := s.roleStrap == 1 && s.rd R.DOMAIN_STATUS_STATE != 0

/-- FLAGS of a region in the layout of REGION_CREATE (Table 3-6). -/
def Region.flags (r : Region) : Nat :=
  (if r.writable then 1 else 0) + (if r.mirrored then 2 else 0) + (if r.shelf then 4 else 0) + (if r.scheduled then 8 else 0)
    + (if r.pinNear then 16 else 0)

/-! ### The client directory (R343, R344, Table 16-4) -/

/-- A write of the directory's internal stream into region 0: mirrored as any write, with no operation of its own. -/
def State.internalWrite (s : State) (a : Nat) (data : List Byte) : State :=
  let (fate, s) := s.mirrorData (.host 0 0) 0 0 0 a data false
  let record := match fate with | .sent q m => some (q, m) | _ => none
  let put (x : State × Nat) (p : Nat × Nat) : State × Nat :=
    let g : Gather := { id := x.1.eng.nextEntry, op := none, src := none, origin := none, media := p.1, addr := a + x.2, data := (data.drop x.2).take p.2, pd := noPd, record, stuck := fate == .stuck,
                        atomic := false, lost := [] }
    (({ x.1 with eng.gather := x.1.eng.gather ++ [g], eng.nextEntry := x.1.eng.nextEntry + 1 }).markRun p.1 p.2 noPd, x.2 + p.2)
  ((s.mediaPieces a data.length).foldl put (s, 0)).1

/-- A region entry with its pair. -/
structure Listed where
  pair : Nat
  entry : DirEntry
  deriving DecidableEq, Repr

def Listed.base (x : Listed) : Nat := x.pair * pairSpace + x.entry.base

/-- Inserts by BASE. -/
def insertListed (x : Listed) : List Listed → List Listed
  | [] => [x]
  | y :: ys => if x.base < y.base then x :: y :: ys else y :: insertListed x ys

/-- The pair's own regions as directory entries. -/
def State.ownEntries (s : State) : List DirEntry :=
  s.prot.regions.map (fun e => ⟨e.1, e.2.base, e.2.size, Region.flags e.2⟩)

/-- Every region entry that is listed, sorted by BASE. -/
def State.listed (s : State) : List Listed :=
  let own := s.ownEntries.map (fun e => (⟨0, e⟩ : Listed))
  let others := (s.domain.members.map (fun m => (m.2.regions.map (fun e => (⟨m.1, e.2⟩ : Listed))))).flatten
  ((own ++ others).filter (fun x => !s.domain.heldRegions.contains (x.pair, x.entry.region))).foldl (fun l x => insertListed x l) []

/-- The 32 bytes of Table 16-5. -/
def Listed.bytes (x : Listed) : List Byte :=
  leBytes 8 x.base ++ leBytes 8 x.entry.size ++ leBytes 4 x.entry.region ++ leBytes 2 x.pair ++ leBytes 2 x.entry.flags ++ leBytes 8 0

/-- A pair entry of Table 16-4. -/
def State.pairEntry (s : State) (p : Nat) : List Byte :=
  let rec0 := AMap.get? s.domain.records p
  let held := s.domain.heldRegions.any (fun h => h.1 == p)
  match AMap.get? s.domain.members p with
  | none => List.replicate 64 0
  | some m =>
    let reachable := p == 0 || decide (s.now ≤ m.lastHeard + ms (s.rd R.DOMAIN_CTRL_UNREACH_MS))
    let st := if m.leaving then 3 else if reachable then 1 else 2
    let mark := if p = 0 then s.on R.TWIN_STATUS_SINGLE_RUNNING else (rec0.map (·.mark)).getD false
    let fl := (if s.domain.witnesses.contains p then 1 else 0) + (if mark then 2 else 0) + (if held then 4 else 0)
    let epoch := if p = 0 then s.rd R.TWIN_TOKEN_EPOCH_VALUE else (rec0.map (·.epoch)).getD 0
    leBytes 1 st ++ leBytes 1 fl ++ leBytes 2 (m.service.getD 0 0) ++ leBytes 4 epoch ++ leBytes 16 (m.service.getD 1 0)
      ++ leBytes 4 (m.service.getD 2 0) ++ leBytes 6 (m.service.getD 3 0) ++ leBytes 30 0

/-- One change of the client directory, as the batch R344 describes: VERSION_END, the entries, VERSION. Only the token holder of
the manager pair writes; the standby counts the version with it and gets the bytes as mirror records. -/
def State.writeDirectory (s : State) : State :=
  let v := s.domain.version + 1
  if !s.founded then s
  else if !s.twin.holder then { s with domain.version := v }.wr R.DOMAIN_DIR_VERSION_VERSION v
  else
    let s := { s with domain.version := v }.wr R.DOMAIN_DIR_VERSION_VERSION v
    let ls := s.listed
    let s := s.internalWrite 0xFF8 (leBytes 8 v)
    let s := s.internalWrite 8 (leBytes 4 ls.length ++ leBytes 4 0 ++ leBytes 8 s.time.tai)
    let s := s.domain.members.foldl (fun s m => s.internalWrite (0x1000 + 64 * m.1) (s.pairEntry m.1)) s
    let s := if ls.isEmpty then s else s.internalWrite 0x81000 ((ls.map Listed.bytes).flatten)
    s.internalWrite 0 (leBytes 8 v)

/-- FULL of R346 at the manager. -/
def State.directoryFull (s : State) : Bool := decide (4194304 ≤ s.listed.length) || !s.domain.heldRegions.isEmpty

/-- After a change of entries: regions held unlisted are listed in the order they came where entries are free, and
DIRECTORY_FULL is raised once for each change of FULL (R346). -/
def State.relist (s : State) : State :=
  let room := 4194304 - s.listed.length
  let s := { s with domain.heldRegions := s.domain.heldRegions.drop room }
  let s := if s.directoryFull = s.domain.dirFull then s
    else { s with domain.dirFull := s.directoryFull }.raise Ev.DOMAIN_DIRECTORY_FULL []
  s.writeDirectory

/-- Records a region change of a member in the manager's tables; a new region that finds the directory full is held unlisted. -/
def State.recordRegion (s : State) (pair action : Nat) (e : DirEntry) : State :=
  match AMap.get? s.domain.members pair with
  | none => s
  | some m =>
    if action = 1 then
      { s with domain.members := AMap.set s.domain.members pair { m with regions := AMap.del m.regions e.region }
               domain.heldRegions := s.domain.heldRegions.filter (fun h => h != (pair, e.region)) }
    else
      let new := !AMap.has m.regions e.region
      let s := { s with domain.members := AMap.set s.domain.members pair { m with regions := AMap.set m.regions e.region e } }
      if new && decide (4194304 < s.listed.length) then { s with domain.heldRegions := s.domain.heldRegions ++ [(pair, e.region)] } else s

/-! ### The worker's outbox (R345) -/

/-- Sends the next DIR_UPDATE: up to 64 changes from the first unacknowledged one, while none waits for its answer. Its DIR_SEQ is
that of its first change (assumption log 35). -/
def State.sendOutbox (s : State) : State :=
  let s := s.wr R.DOMAIN_BACKLOG_OUTBOX s.domain.outbox.length
  if s.domain.outbox.isEmpty || !s.twin.holder || s.domain.requests.any (fun r => r.type == 0x0B) then s
  else
    let l := s.domain.outbox.take 64
    let fields := ((l.map (fun (e : Nat × Nat × DirEntry) =>
      [e.2.1, e.2.2.base, e.2.2.size, e.2.2.region, s.pairNo, e.2.2.flags])).flatten)
    s.sendRequest 0x0B [0] (((l.head?.map (·.1)).getD 0) :: fields) none

/-- Reports a change of a region: into the outbox of a worker that is in a domain, into the directory at the manager. ACTION is 0
for a region that is there, 1 for one that is gone (assumption log 35). -/
def State.reportRegion (s : State) (id action : Nat) (r : Region) : State :=
  let e : DirEntry := ⟨id, r.base, r.size, Region.flags r⟩
  if s.inDomain then
    let q := s.domain.dirSeq + 1
    { s with domain.outbox := s.domain.outbox ++ [(q, action, e)], domain.dirSeq := q }.sendOutbox
  else if s.founded then
    let full := action == 0 && decide (4194304 < s.listed.length)
    let rest := if action = 1 then s.domain.heldRegions.filter (fun x => x != (0, id)) else s.domain.heldRegions
    let held := if full && !rest.contains (0, id) then rest ++ [(0, id)] else rest
    { s with domain.heldRegions := held }.relist
  else s

/-- Region commands complete BUSY while the outbox is full (Table 16-7). -/
def State.outboxFull (s : State) : Bool := s.inDomain && decide (16384 ≤ s.domain.outbox.length)

/-! ### Pushes (R347) -/

/-- PD and queue commands are refused WRONG_ROLE at a worker that is in a domain. -/
def State.ifDomainWide (s : State) (c : Cmd) (f : State → State) : State :=
  if s.inDomain then s.refuse c.id Why.WRONG_ROLE else f s

/-- A member whose messages have arrived within UNREACH_MS. -/
def State.memberReachable (s : State) (p : Nat) : Bool :=
  match AMap.get? s.domain.members p with
  | some m => decide (s.now ≤ m.lastHeard + ms (s.rd R.DOMAIN_CTRL_UNREACH_MS))
  | none => false

/-- What a PUSH carries: the key of a pushed QUEUE_CREATE's slot goes wrapped under the domain key (R366). -/
def State.pushParams (s : State) (x : Push) : List Nat :=
  if x.opcode = 0x0201 then x.params.take 3 ++ [wrapKey s.domainSlotKey (x.params.getD 3 0) Slot.QUEUE 0 (x.params.getD 2 0)] else x.params

/-- Sends each pair's first push that is not sent, one at a time per pair, in PUSH_SEQ order. -/
def State.sendPushes (s : State) : State :=
  (s.domain.members.map (·.1)).foldl (fun s p =>
    if p = 0 || !s.twin.holder || s.domain.requests.any (fun r => r.type == 0x0D && r.dst == p) then s
    else match s.domain.pushes.find? (fun x => x.pair == p) with
      | none => s
      | some x =>
        let s := { s with domain.pushes := s.domain.pushes.map (fun y : Push => if y.pair = p ∧ y.seq = x.seq then ({ y with sent := true } : Push) else y) }
        s.sendRequest 0x0D [p] (x.seq :: x.opcode :: s.pushParams x) none) s

/-- Members with pushes that wait. -/
def State.pairsBehind (s : State) : Nat :=
  (s.domain.members.filter (fun m => s.domain.pushes.any (fun x => x.pair == m.1))).length

/-- Ends the commands whose pushes every reachable member has answered, with the members still pending in RESULT bytes 24 and 25
(R347). -/
def State.settlePushes (s : State) : State :=
  let s := s.wr R.DOMAIN_BACKLOG_PAIRS_BEHIND s.pairsBehind
  s.domain.pushResults.foldl (fun s w =>
    let left := s.domain.pushes.filter (fun x => x.cmd == some w.1)
    if left.any (fun x => s.memberReachable x.pair) then s
    else
      let s := { s with domain.pushResults := s.domain.pushResults.filter (fun v => v.1 != w.1)
                        domain.pushes := s.domain.pushes.map (fun x : Push => if x.cmd = some w.1 then ({ x with cmd := none } : Push) else x) }
      s.endCmd w.1 St.DONE 0 (w.2 + 2 ^ 64 * left.length)) s

/-- Enters one push for a member. -/
def State.queuePush (s : State) (cmd : Option Nat) (opcode : Nat) (params : List Nat) (p : Nat) : State :=
  match AMap.get? s.domain.members p with
  | none => s
  | some m =>
    { s with domain.members := AMap.set s.domain.members p { m with pushSeq := m.pushSeq + 1 }
             domain.pushes := s.domain.pushes ++ [(⟨p, m.pushSeq + 1, opcode, params, cmd, false⟩ : Push)] }

/-- Enters a push for every member worker. -/
def State.queuePushes (s : State) (cmd : Option Nat) (opcode : Nat) (params : List Nat) : State :=
  ((s.domain.members.map (·.1)).filter (· != 0)).foldl (fun s p => s.queuePush cmd opcode params p) s

/-- Ends a PD or queue command that has been applied here: at the manager pair it is pushed to every member worker first. -/
def State.finishPushed (s : State) (c : Cmd) (params : List Nat) (result : Nat) : State :=
  if !s.founded then s.endCmd c.id St.DONE 0 result
  else
    let s := s.queuePushes (some c.id) c.opcode params
    { s with domain.pushResults := s.domain.pushResults ++ [(c.id, result)] }.sendPushes.settlePushes

end Sys2Proof.Machine
end

