-- ==== Sys2Proof/Machine/Poison.lean ====
section
/-! DEFINITION. Poison marks: setting one where the chunk is newest, clearing one, and the creation of poison with its count and its
event per page (R293 to R296). -/

namespace Sys2Proof.Machine

open Sys2Proof

/-- Sets or clears the mark of a chunk (media address / 64) where its data is newest: in its line, or in DRAM (Table 13-3). -/
def State.setMark (s : State) (l : Nat) (b : Bool) : State :=
  let inDram (s : State) : State :=
    { s with mem.dramPoison := if b then AMap.set s.mem.dramPoison l 1 else AMap.del s.mem.dramPoison l }
  match s.findWay l with
  | some w => match s.wayLine w with
    | some x => if x.state = .filling then inDram s else s.setWay w { x with poison := b }
    | none => s
  | none =>
    if (s.findVictim l).isSome then
      s.setVictims (lineBank l) ((s.victimsOf (lineBank l)).map (fun y => if y.line = l then { y with poison := b } else y))
    else inDram s

/-- Clears a mark (R296); the page's tag is computed anew (R292). -/
def State.clearPoison (s : State) (l : Nat) : State := (s.setMark l false).retagPage (l / 64)

/-- Groups chunks by their 4 KiB page, in order. -/
def pagesOf (ls : List Nat) : List Nat := ls.foldl (fun ps l => if ps.contains (l / 64) then ps else ps ++ [l / 64]) []

/-- Poison is created in these chunks by one cause: each is counted, and one event per page carries the media address of the first
and their number (R293). -/
def State.poisonChunks (s : State) (ls : List Nat) : State :=
  let new := ls.filter (fun l => !s.linePoison l)
  let s := new.foldl (fun s l => s.setMark l true) s
  let s := s.bump R.INTEG_POISON_CREATED new.length
  (pagesOf new).foldl (fun s p =>
    let mine := new.filter (fun l => l / 64 == p)
    s.raise Ev.INTEGRITY_POISON_CREATED [(8, ((mine.head?).getD 0) * 64), (1, mine.length)]) s

/-- A page does not fit its integrity tag (R292). -/
def State.tagMismatch (s : State) : State := (s.bump R.INTEG_TAG_MISMATCH 1).raise Ev.INTEGRITY_TAG_MISMATCH []

/-- The 64 chunks of a media page. -/
def pageChunks (page : Nat) : List Nat := rangeFrom (page * 64) 64

end Sys2Proof.Machine
end

