-- ==== Sys2Proof/Machine/Islands.lean ====
section
/-! DEFINITION. The islands the pace monitors stand on, which monitors count, and the views that follow an island as it is switched
(R22, R23), with the configured rate that the required pace comes from (R24). -/

namespace Sys2Proof.Machine

open Sys2Proof

/-- C of R24: the configured rates of the enabled ports, in Gbit/s. -/
def State.portRate (s : State) : Nat :=
  ((List.range 16).map (fun n => if s.rdN R.PORT_CTRL_ENABLE n = 1 then s.rdN R.PORT_CTRL_RATE_GBPS n else 0)).sum

/-- The engine, cache and tier islands are off: in P2 (Table 18-7), and in a save from the end of its step 4 (Table 7-5). -/
def State.pathIslandsOff (s : State) : Bool :=
  s.rd R.LIFE_STATE_POWER == 2 || (s.save.active && decide (5 ≤ s.save.step))

/-- The island of DRAM channel `n` is switched off: the channel is OUT (R259). -/
def State.channelIslandOff (s : State) (n : Nat) : Bool := s.rdN R.DRAM_CH_STATUS_STATE n == 3

/-- The island of a monitor is on (Table 2-1): engines and slices but for P2 and the end of a save; clusters but for P2, and never one
that is out (R358); a monitor of three DRAM channels while any of their islands is on (DESIGN CHOICE, assumption log 166). -/
def State.islandOn (s : State) (n : Nat) : Bool :=
  s.coreOn &&
    (if n < 48 then !s.pathIslandsOff
     else if n < 56 then s.rd R.LIFE_STATE_POWER != 2 && (s.rd R.CIPHER_STATUS_CLUSTERS_OK).testBit (n - 48)
     else (rangeFrom (3 * (n - 56)) 3).any (fun c => !s.channelIslandOff c))

/-- The monitors that count: read, island on, and not held out. -/
def State.validMonitors (s : State) : List Nat :=
  (List.range 64).filter (fun n => s.islandOn n && (match AMap.get? s.pace.monitors n with | some m => !m.out | none => false))

/-- Refreshes EXCLUDED, VALID_MONITORS and PACE_MIN, at a reading and whenever an island is switched; with no valid monitor MIN_MHZ and
MIN_INDEX hold (R22, R23). -/
def State.paceViews (s : State) : State :=
  let v := s.validMonitors
  let s := (List.range 64).foldl (fun s n => s.wrN R.PACE_MON_EXCLUDED n (if v.contains n then 0 else 1)) s
  let s := s.wr R.PACE_STATUS_VALID_MONITORS v.length
  let low := v.foldl (fun b n => match b with
    | none => some n
    | some m => if s.rdN R.PACE_MON_RATE_MHZ n < s.rdN R.PACE_MON_RATE_MHZ m then some n else some m) (none : Option Nat)
  match low with
  | some n => (s.wr R.PACE_MIN_MIN_MHZ (s.rdN R.PACE_MON_RATE_MHZ n)).wr R.PACE_MIN_MIN_INDEX n
  | none => s

end Sys2Proof.Machine
end

