-- ==== Sys2Proof/Machine/Pace.lean ====
section
/-! DEFINITION. Pace: monitors, the required pace and the target, the adaptive voltage loop, the admission fraction, and what a
port's rate and enable do to them (R22 to R30, R473). -/

namespace Sys2Proof.Machine

open Sys2Proof

/-! ### Required pace and target (R24) -/

/-- VMAX_MV, MARGIN_PCT, PACED_PCT and the configured rate C in force: the registers, or during a save the values that stood at its
step 1 (R26, R466). -/
def State.paceCtrl (s : State) : Nat × Nat × Nat × Nat :=
  s.pace.held.getD (s.rd R.PACE_CTRL_VMAX_MV, s.rd R.PACE_CTRL_MARGIN_PCT, s.rd R.PACE_CTRL_PACED_PCT, s.portRate)

/-- REQUIRED_MHZ of R24, with the paced share of C in P1. -/
def State.requiredMhz (s : State) : Nat :=
  let pct := if s.rd R.LIFE_STATE_POWER = 1 then s.paceCtrl.2.2.1 else 100
  max 600 (ceilDiv (1500 * s.paceCtrl.2.2.2 * pct) (12800 * 100))

/-- TARGET_MHZ of R24. -/
def State.targetMhz (s : State) : Nat := ceilDiv (s.requiredMhz * (100 + s.paceCtrl.2.1)) 100

/-! ### Monitors (R22, R23) -/

/-- The group of a monitor (Table 2-1): its first number and its size. -/
def monitorGroup (n : Nat) : Nat × Nat :=
  if n < 32 then (0, 32) else if n < 48 then (32, 16) else if n < 56 then (48, 8) else (56, 8)

/-- Inserts a reading in ascending order. -/
def insertReading (x : Nat) : List Nat → List Nat
  | [] => [x]
  | y :: ys => if x ≤ y then x :: y :: ys else y :: insertReading x ys

/-- Twice the median of a list of readings; an even count takes the mean of the middle two (assumption log 39). -/
def twiceMedian (l : List Nat) : Nat :=
  let l := l.foldl (fun acc x => insertReading x acc) []
  l.getD ((l.length - 1) / 2) 0 + l.getD (l.length / 2) 0

/-- PACE_MONITOR_SAMPLE: monitor `n` counts `mhz` in its 40 µs. -/
def execPaceMonitorSample (n mhz : Nat) (s : State) : Host.Outcome State Fault Refusal :=
  .next <|
    if !s.coreOn || decide (64 ≤ n) || !s.islandOn n then s
    else
      let s := s.wrN R.PACE_MON_RATE_MHZ n (min 65535 mhz)
      let old := (AMap.get? s.pace.monitors n).getD ⟨false, 0⟩
      let s := { s with pace.monitors := AMap.set s.pace.monitors n old }
      let g := monitorGroup n
      let group := ((rangeFrom g.1 g.2).filter (fun k => s.islandOn k && AMap.has s.pace.monitors k)).map
        (fun k => s.rdN R.PACE_MON_RATE_MHZ k)
      let m2 := twiceMedian group
      let bad := decide (4 * mhz < m2) || decide (m2 < mhz)
      let new : Monitor :=
        if bad then ⟨true, 0⟩
        else if old.out && decide (old.plausible < 99) then ⟨true, old.plausible + 1⟩
        else ⟨false, 0⟩
      let s := { s with pace.monitors := AMap.set s.pace.monitors n new }.paceViews
      if bad && !old.out then s.raise Ev.FIRMWARE_PACE_MONITOR_FAULT [] else s

/-! ### The loop (R26 to R30) -/

/-- The effective ceiling of R26 in mV. -/
def State.paceCeiling (s : State) : Nat := min 850 s.paceCtrl.1

/-- Fewer than 56 valid monitors while every island is on and has been read (R23). -/
def State.fewMonitors (s : State) : Bool :=
  (List.range 64).all (fun n => s.islandOn n && AMap.has s.pace.monitors n) && decide (s.validMonitors.length < 56)

/-- The setting Table 2-2 asks for, with the count of periods at 1.04 of the target. -/
def State.loopSetting (s : State) : Nat × Nat :=
  let v := s.keeper.vddMv
  let top := s.paceCeiling
  let mhz := s.rd R.PACE_MIN_MIN_MHZ
  let target := s.rd R.PACE_REQUIRED_TARGET_MHZ
  if top < v then (if s.save.active then v else max top (v - 5), 0)
  else if s.fewMonitors then (min top (v + 20), 0)
  else if (List.range 64).all (fun n => !s.islandOn n) then (v, 0)
  else if mhz < target then (min top (v + min 20 (ceilDiv (200 * (target - mhz)) target)), 0)
  else if 100 * mhz < 104 * target then (v, 0)
  else if s.pace.above < 9 then (v, s.pace.above + 1)
  else (if s.save.active then v else max 550 (v - 5), 0)

/-- One AVSBus transaction: an answered one sets VDD_CORE and shows AVS_OK, the third unanswered one in a row raises AVS_FAULT and stops the settings
(R28). -/
def State.avsSend (s : State) (v : Nat) (answered : Bool) : State :=
  if answered then
    (({ s with keeper.vddMv := v, pace.avsFails := 0 }.wr R.PACE_STATUS_VDD_MV v).wr R.PACE_STATUS_AVS_OK 1).send (.avsVoltage v)
  else
    let s := { s with pace.avsFails := s.pace.avsFails + 1 }
    if s.pace.avsFails = 3 then
      ({ s with pace.retryAt := some (s.now + sec 1) }.wr R.PACE_STATUS_AVS_OK 0).raiseKeeper Ev.FIRMWARE_PACE_AVS_FAULT []
    else s

/-- F of R29 and what follows from it: PACE_ADMIT, THROTTLE and its count, PACE_SHORT and PACE_RESTORED (R30). -/
def State.throttleViews (s : State) : State :=
  let f := min 1024 (s.rd R.PACE_MIN_MIN_MHZ * 1024 / s.rd R.PACE_REQUIRED_TARGET_MHZ)
  let s := (s.wr R.PACE_ADMIT_FRACTION f).flag R.PACE_STATUS_THROTTLE (decide (f < 1024))
  if f < 1024 then
    let s := { s.bump R.PACE_THROTTLE_PERIODS 1 with pace.fullFor := 0 }
    if s.pace.short then s else { s with pace.short := true }.raise Ev.FIRMWARE_PACE_PACE_SHORT []
  else if s.pace.short then
    if s.pace.fullFor < 9 then { s with pace.fullFor := s.pace.fullFor + 1 }
    else
      let s := { s with pace.short := false, pace.fullFor := 0 }
      if s.coreOn then s.occur Ev.FIRMWARE_PACE_PACE_SHORT 0 true false false else s
  else s

/-- Derives REQUIRED_MHZ and TARGET_MHZ (R24). -/
def State.deriveTarget (s : State) : State :=
  (s.wr R.PACE_REQUIRED_REQUIRED_MHZ s.requiredMhz).wr R.PACE_REQUIRED_TARGET_MHZ s.targetMhz

/-- MONITOR_FAULT with the count when too few monitors become valid (R23). -/
def State.checkMonitors (s : State) : State :=
  let few := s.fewMonitors
  let n := s.validMonitors.length
  let raised := few && !s.pace.few
  let s := { s with pace.few := few }
  if raised then s.raiseKeeper Ev.FIRMWARE_PACE_MONITOR_FAULT [(1, n)] else s

/-- This period's setting of VDD_CORE (Table 2-2). -/
def State.stepVoltage (s : State) (answered : Bool) : State :=
  let set := s.loopSetting
  let s := { s with pace.above := set.2 }
  if s.pace.retryAt.isSome then s else s.avsSend set.1 answered

/-- AT_CEILING as a status and, where pace is short there, as an event (R30). -/
def State.ceilingViews (s : State) : State :=
  let atTop := s.keeper.vddMv == s.paceCeiling
  let short := atTop && decide (s.rd R.PACE_MIN_MIN_MHZ < s.rd R.PACE_REQUIRED_TARGET_MHZ)
  let raised := short && !s.pace.ceiling
  let s := { s.flag R.PACE_STATUS_AT_CEILING atTop with pace.ceiling := short }
  if raised then s.raise Ev.FIRMWARE_PACE_AT_CEILING [] else s

/-- LOOP_PERIOD: `answered` says whether the regulator answers this period's AVSBus transaction. -/
def execLoopPeriod (answered : Bool) (s : State) : Host.Outcome State Fault Refusal :=
  .next <|
    if !s.keeperRuns || !s.coreOn then s
    else (s.paceViews.deriveTarget.checkMonitors.stepVoltage answered).ceilingViews.throttleViews

/-- AVS_RETRY: once per second after an AVS fault; one good transaction clears it (R28). -/
def execAvsRetry (answered : Bool) (s : State) : Host.Outcome State Fault Refusal :=
  .next <|
    if !s.keeperRuns || !due s.now s.pace.retryAt then s
    else if answered then
      ({ s with pace.retryAt := none, pace.avsFails := 0 }.wr R.PACE_STATUS_AVS_OK 1).send (.avsVoltage s.keeper.vddMv)
    else { s with pace.retryAt := some (s.now + sec 1) }

/-! ### Ports (R25, R190, R473) -/

/-- Sub-ports of a BREAKOUT code (Table 23-8). -/
def subPorts (breakout : Nat) : Nat := if breakout = 1 then 2 else if breakout = 2 then 4 else 1

/-- LINK of a sub-port: 0 DOWN, 1 TRAINING, 2 UP. -/
def Port.link (p : Port) (sub : Nat) : Nat := (AMap.get? p.links sub).getD 0

/-- PORT_n_STATUS.LINK shows the best LINK of the port's sub-ports (assumption log 40). -/
def State.linkView (s : State) (n : Nat) : State :=
  s.wrN R.PORT_STATUS_LINK n (((s.port n).links.map (·.2)).foldl max 0)

/-- Sets LINK of a sub-port; each change raises PORT.LINK_CHANGE (R473). -/
def State.setLink (s : State) (n sub link : Nat) : State :=
  if (s.port n).link sub = link then s
  else
    let s := (s.setPort n { s.port n with links := AMap.set (s.port n).links sub link }).linkView n
    s.raise Ev.PORT_LINK_CHANGE [(1, n), (1, sub), (1, link)]

/-- The switch-over gap: from yield step 1 to step 7 of Table 8-8. -/
def State.inGap (s : State) : Bool := s.twin.yield.isSome || s.twin.opening

/-- After step 7 the links that changed by themselves during the gap are reported (R190). -/
def State.reportLinks (s : State) : State :=
  (List.range 16).foldl (fun s n =>
    let l := (s.port n).unreported
    l.foldl (fun s e => s.setLink n e.1 e.2) (s.setPort n { s.port n with unreported := [] })) s

/-- LINK_STATE_CHANGE: training or the link itself brings sub-port `sub` of port `n` to LINK code `link`, with the lanes locked
and what training corrected. A disabled port has no link; in the gap the change is kept back (R190). -/
def execLinkStateChange (n sub link lanes : Nat) (reversed : Bool) (polarity : Nat) (s : State) :
    Host.Outcome State Fault Refusal :=
  .next <|
    if !s.coreOn || decide (16 ≤ n) || s.rdN R.PORT_CTRL_ENABLE n == 0 || decide (subPorts (s.port n).breakout ≤ sub)
        || decide (2 < link) then s
    else
      let s := ((s.wrN R.PORT_STATUS_LANES_UP n lanes).wrN R.PORT_STATUS_REVERSED n (if reversed then 1 else 0)).wrN
        R.PORT_STATUS_POLARITY n polarity
      if s.inGap then
        s.setPort n { s.port n with unreported := (s.port n).unreported.filter (fun e => e.1 != sub) ++ [(sub, link)] }
      else s.setLink n sub link

/-- Closes admission on a port until MIN_MHZ reaches the new target or 10 ms have passed; a pace that is there already closes
nothing (R25). -/
def State.awaitPace (s : State) (n : Nat) : State :=
  let t := s.targetMhz
  if t ≤ s.rd R.PACE_MIN_MIN_MHZ then s.setPort n { s.port n with opensAt := none, target := t }
  else s.setPort n { s.port n with opensAt := some (s.now + ms 10), target := t }

/-- A rate that is lowered takes effect on admission at once: a port that still waits waits for no more than the target as it now is
(R25). -/
def State.lowerWaits (s : State) : State :=
  let t := s.targetMhz
  { s with ports.port := s.ports.port.map (fun (e : Nat × Port) => (e.1, { e.2 with target := min e.2.target t })) }

/-- What ENABLE and RATE_GBPS of a port do when they change from `en` and `rate` (R25, R473). -/
def State.portChanged (s : State) (n en rate : Nat) : State :=
  let now := s.rdN R.PORT_CTRL_ENABLE n
  if en = 0 ∧ now = 1 then
    let media := s.rdN R.PORT_CTRL_MEDIA n
    let s := s.setPort n { s.port n with
      breakout := s.rdN R.PORT_CTRL_BREAKOUT n, media, fecLl := if media = 0 then s.rdN R.PORT_CTRL_FEC_LL n else 0, links := [] }
    let s := s.awaitPace n
    (List.range (subPorts (s.port n).breakout)).foldl (fun s sub => s.setLink n sub 1) s
  else if en = 1 ∧ now = 0 then
    let s := (List.range 4).foldl (fun s sub => s.setLink n sub 0) s
    let s := (s.wrN R.PORT_STATUS_LANES_UP n 0).wrN R.PORT_STATUS_REVERSED n 0
    ((s.wrN R.PORT_STATUS_POLARITY n 0).setPort n { s.port n with opensAt := none, unreported := [] }).lowerWaits
  else if now = 1 ∧ rate < s.rdN R.PORT_CTRL_RATE_GBPS n then s.awaitPace n
  else s.lowerWaits

/-- A write to PORT_n_CTRL. A save stores it without effect (R466). -/
def State.writePortCtrl (s : State) (n v : Nat) : State :=
  let en := s.rdN R.PORT_CTRL_ENABLE n
  let rate := s.rdN R.PORT_CTRL_RATE_GBPS n
  let put (s : State) (f : Fld) : State := s.wrN f n (Fld.fixed f 0 (v / 2 ^ f.lo % 2 ^ f.width))
  let s := put (put (put (put (put s R.PORT_CTRL_ENABLE) R.PORT_CTRL_BREAKOUT) R.PORT_CTRL_MEDIA) R.PORT_CTRL_FEC_LL)
    R.PORT_CTRL_RATE_GBPS
  if s.save.active then s else s.portChanged n en rate

/-- PORT_CTRL_WRITE: a whole-word write of `v` to PORT_n_CTRL. -/
def execPortCtrlWrite (n v : Nat) (s : State) : Host.Outcome State Fault Refusal :=
  .next (if s.coreOn && decide (n < 16) && !(s.save.active && decide (4 ≤ s.save.step)) then s.writePortCtrl n v else s)

end Sys2Proof.Machine
end

