-- ==== Sys2Proof/Machine/Cerga.lean ====
section
/-! DEFINITION. Cerga reception: the receive steps of Table 5-11, streams and their windows, duplicates, the reorder store, client
acknowledgements, and the transport's timers (R88 to R117). -/

namespace Sys2Proof.Machine

open Sys2Proof

/-- Opcode 0x40 from a client (R102). -/
def clientAckOpcode : Nat := 0x40

/-! ### Windows (R98) -/

/-- Moves CUM past every sequence the map marks; `fuel` bounds the window. -/
def settleCum : Nat → Nat → List Nat → Nat × List Nat
  | 0, c, m => (c, m)
  | fuel + 1, c, m => if m.contains c then settleCum fuel ((c + 1) % 2 ^ 32) (m.filter (· != c)) else (c, m)

/-- A stream with CUM moved up to `c` where `c` lies above it, and past what the map then marks. -/
def Stream.raiseCum (x : Stream) (c : Nat) : Stream :=
  let c := if seqBelow x.cum c then c % 2 ^ 32 else x.cum
  let (c, m) := settleCum 1025 c (x.map.filter (fun q => !seqBelow q c))
  { x with cum := c, map := m }

/-- The higher of the highest SEQ received so far and `q`. -/
def Stream.raiseHigh (x : Stream) (q : Nat) : Option Nat :=
  some (match x.high with
    | some h => if seqBelow h q then q else h
    | none => q)

/-- A stream that has received sequence `q`. -/
def Stream.mark (x : Stream) (q : Nat) : Stream :=
  Stream.raiseCum { x with map := insertNat q x.map, high := x.raiseHigh q } x.cum

/-- Whether a sequence has been received. -/
def Stream.received (x : Stream) (q : Nat) : Bool := seqBelow q x.cum || x.map.contains q

/-- The three classes of R98. -/
inductive SeqClass where
  | fresh | duplicate | outside
  deriving DecidableEq, Repr

def Stream.classify (x : Stream) (q : Nat) : SeqClass :=
  let d := seqAbove q x.cum
  if d < 1024 then (if x.map.contains q then .duplicate else .fresh)
  else if 2 ^ 31 ≤ d then .duplicate
  else .outside

/-- Serial-number comparison of epochs: `e` is newer than `f` (R94). -/
def newerEpoch (e f : Nat) : Bool :=
  let d := (e + 65536 - f % 65536) % 65536
  decide (1 ≤ d ∧ d ≤ 32767)

/-! ### Formats and clamps (R104, R108, R112) -/

/-- ADDRESS, LENGTH and payload length of a single-packet request (Table 5-7), LEDGER_QUERY judged by its clamped MODE. -/
def singleFormat (opcode : Nat) (p : CergaPacket) : Bool :=
  let n := p.data.length
  match opcode with
  | 1 => n == 0
  | 3 => n == 16 && p.len == 8
  | 4 => n == 32 && p.len == 16
  | 5 => n == 8 && p.len == 8
  | 6 => n == 0 && p.addr == 0
  | 7 => n == 4
  | 8 => n == 8 && p.len == 0
  | 9 => p.len == 0 && p.addr == 0 && (if 4 ≤ n ∧ wordAt p.data 0 = 1 then 1 ≤ wordAt p.data 3 && n == 16 + 4 * wordAt p.data 3 else n == 12)
  | 10 => n == 32 && p.len == 0 && p.addr == 0
  | 11 => n == 0 && p.len == 0 && p.addr == 0
  | _ => false

/-- A WRITE packet's place in its operation (R108). -/
def writeFormat (p : CergaPacket) : Bool :=
  let n := p.data.length
  p.offset % 8192 == 0
    && (if p.last then decide (n ≤ 8192) && p.offset + n == p.len && (p.offset == 0 || n != 0)
        else n == 8192 && decide (p.offset + 8192 < p.len))

/-- The format checks of step 6: KEYX in first packets and only there, and R108. -/
def formatOk (opcode : Nat) (p : CergaPacket) : Bool :=
  (p.keyx.isSome == (p.offset == 0))
    && (if opcode = 2 then writeFormat p else p.offset == 0 && p.last && singleFormat opcode p)

/-- Table 5-10: the clamped length of a request. -/
def clampedLength (opcode len : Nat) : Nat :=
  if opcode = 1 ∨ opcode = 7 then min gib len else if opcode = 6 then 0 else len

/-- The cursor of a SHELF_READ or SCHEDULE_ADVANCE; a SHELF_READ's other values mean no cursor. -/
def cursorField (opcode : Nat) (p : CergaPacket) : Option Nat :=
  let c := wordAt p.data 0
  if opcode = 8 then some c
  else if opcode = 7 && decide (c < 65536) then some c
  else none

/-- How many fields Table 5-10 clamps in a request. -/
def clampCount (opcode : Nat) (p : CergaPacket) : Nat :=
  let c := wordAt p.data 0
  if opcode = 1 then moved (min gib p.len) p.len
  else if opcode = 6 then (if 1 < p.len % 4 then 1 else 0)
  else if opcode = 7 then moved (min gib p.len) p.len + (if 65536 ≤ c ∧ c ≠ 0xFFFFFFFF then 1 else 0)
  else if opcode = 9 then
    (if 1 < c then 1 else 0) + moved (clampTo 1 128 (wordAt p.data 2)) (wordAt p.data 2)
      + (if c = 1 ∧ 16 < wordAt p.data 3 then 1 else 0)
  else 0

/-- A queue admits nothing any more: it is being destroyed, itself or with its key (R118, R367). -/
def State.queueLeaving (s : State) (i : Nat) : Bool :=
  match AMap.get? s.cerga.queues i with
  | some q => q.leaving || (match AMap.get? s.crypt.slots q.key with | some k => k.destroying | none => false)
  | none => false

/-- The request a first packet makes; `again` marks the re-execution of a duplicate (Table 5-5). -/
def State.cergaRequest (s : State) (i opcode : Nat) (p : CergaPacket) (again : Bool) : Request :=
  let q := (AMap.get? s.cerga.queues i).getD ⟨0, 0, 0, false⟩
  { src := .cerga i p.epoch, opcode, seq := p.seq, pd := q.pd, key := p.keyx.getD 0, keyBits := 64, addr := p.addr,
    len := clampedLength opcode p.len, data := if opcode = 7 ∨ opcode = 8 then [] else p.data,
    arg := if opcode = 6 then (if p.len % 4 = 1 then 1 else 0) else if opcode = 8 then wordAt p.data 1 else if again then 1 else 0,
    cursor := if again then none else cursorField opcode p, arrived := p.arrive, frame := p.frame,
    clamps := clampCount opcode p, port := p.port }

/-! ### Stream upkeep -/

/-- Refreshes CERGA_STATUS and CERGA_CACHE. -/
def State.cergaViews (s : State) : State :=
  (s.wr R.CERGA_STATUS_OPEN_STREAMS (s.cerga.streams.filter (fun e => e.2.state == .open)).length).wr R.CERGA_CACHE_CACHED
    s.cerga.cache.length

/-- Ingress bytes of a packet that belongs to no admission (R322). -/
def State.chargeIngress (s : State) (i window frame : Nat) : State := s.chargeIn window (s.pdAccount (s.queuePd i)) 12 frame

/-- A change of a stream that the mirror stream carries: kind 0 an opening, 3 a RESP_ACK (R117). -/
def State.carryStream (s : State) (fields : List Nat) : State :=
  if s.paired && s.twin.holder then s.sendStreamState fields else s

/-- A stream's packets and requests that are not admitted are dropped (R94, R118). -/
def State.dropUnadmitted (s : State) (i : Nat) : State :=
  let mine := fun h : HeldPacket => h.packet.queue % 2 ^ 22 == i
  let waits := fun w : Waiter => match w.req.src with | .cerga j _ => j == i | _ => false
  { s with cerga.held := s.cerga.held.filter (fun h => !mine h), cerga.fetching := s.cerga.fetching.filter (fun h => !mine h), eng.waiting := s.eng.waiting.filter (fun w => !waits w) }

/-- An operation of the queue holds a tag. -/
def State.streamTagged (s : State) (i : Nat) : Bool :=
  s.eng.ops.any (fun o => match o.req.src with | .cerga j _ => j == i | _ => false)

/-- Opens an epoch with CUM 0 and its stream key (Table 5-4, R92). The vector counters of this incarnation stay (R91). -/
def State.openStream (s : State) (i : Nat) (p : CergaPacket) : State :=
  let old := s.stream i
  let x := { streamNone with state := .open, epoch := p.epoch, key := some (s.deriveStreamKey i p.epoch), nonces := old.nonces
                             lastAt := s.now, reply := old.reply, ece := old.ece }
  ((s.setStream i x).carryStream [0, i, p.epoch, s.cerga.base]).cergaViews

/-- NAK STREAM_RESET, counted; it travels under the packet's epoch (assumption log 180). -/
def State.streamReset (s : State) (i : Nat) (p : CergaPacket) : State :=
  (s.cergaNakAs i p.epoch p.seq 1).bump R.CERGA_STREAM_RESETS 1

/-- A response without payload under a packet's epoch. -/
def State.refuseAs (s : State) (i opcode : Nat) (p : CergaPacket) (status : Nat) : State :=
  s.cergaSendAs i p.epoch s.meter.current.id (opcode ||| 0x80) p.seq status (s.credit4 (s.stream i)) 0 true []

/-- The ABORTED_RESET response of R84. -/
def State.abortedReset (s : State) (i opcode : Nat) (p : CergaPacket) : State := s.refuseAs i opcode p St.ABORTED_RESET

/-! ### The client acknowledgement (R102, R117) -/

/-- Applies a RESP_ACK above the current one: entries below it leave the result cache, their atomics' tags are freed, and CUM moves up
to it. -/
def State.applyRespAck (s : State) (i v : Nat) : State :=
  let x := s.stream i
  if !seqBelow x.respAck v then s
  else
    let x := Stream.raiseCum { x with respAck := v, cache := x.cache.filter (fun c => !seqBelow c.seq v)
                                      carried := x.carried.filter (fun q => !seqBelow q v) } v
    let s := s.setStream i { x with uncovered := x.uncovered.filter (fun q => !seqBelow q.1 x.cum) }
    let done := fun o : Op => o.responded && seqBelow o.req.seq v && (match o.req.src with | .cerga j _ => j == i | _ => false)
    ({ s with eng.ops := s.eng.ops.filter (fun o => !done o) }.carryStream [3, i, x.epoch, v]).moveWaiters

/-! ### Placing and holding (R99, R109) -/

/-- The operation of a WRITE whose first packet had sequence `f`. -/
def State.writeOp (s : State) (i epoch f : Nat) : Option Op :=
  s.eng.ops.find? (fun o => o.req.src == .cerga i epoch && o.req.opcode == 2 && o.req.seq == f)

/-- A packet in the reorder store. -/
def State.heldSeq (s : State) (i q : Nat) : Bool := s.cerga.held.any (fun h => h.packet.queue % 2 ^ 22 == i && h.packet.seq == q)

/-- The SEQ of the first packet of a packet's operation (R108). -/
def CergaPacket.first (p : CergaPacket) : Nat := (p.seq + 2 ^ 32 - p.offset / 8192 % 2 ^ 32) % 2 ^ 32

/-- Whether a received packet can be processed now: a first packet once every earlier packet has arrived and been taken, a later one
once its operation has been admitted or refused. -/
def State.canProcess (s : State) (i opcode : Nat) (p : CergaPacket) : Bool :=
  let x := s.stream i
  if p.offset = 0 then
    !seqBelow x.cum p.seq && s.cerga.held.all (fun h => !(h.packet.queue % 2 ^ 22 == i && seqBelow h.packet.seq p.seq
      && h.packet.offset == 0))
  else
    let f := CergaPacket.first p
    Stream.received x f && !s.heldSeq i f && !s.eng.waiting.any (fun w => w.req.src == .cerga i p.epoch && w.req.seq == f) && opcode == 2

/-- Enters bytes that have arrived of an admitted write at an offset; the assembly timer starts again until all of it is there (R99, R109,
R132). -/
def State.enterPiece (s : State) (o : Op) (off : Nat) (d : List Byte) : State :=
  let held := insertPiece off d o.held
  let whole := decide (o.req.len ≤ reach (o.placed ++ held.map (fun x => (x.1, x.2.length))) (o.placed.length + held.length + 1) 0)
  let time := s.now + s.assemblyTime o.req.src
  (s.updOp o.id (fun o => { o with held, arrived := o.arrived || whole, placedEnd := if o.arrived || whole then none else some time })).advanceAll

/-- Places a later packet of a WRITE, or discards it where its operation has ended. -/
def State.placePacket (s : State) (i : Nat) (p : CergaPacket) : State :=
  match s.writeOp i p.epoch (CergaPacket.first p) with
  | none => s.chargeIngress i s.meter.current.id p.frame
  | some o =>
    let s := s.chargeIngress i o.window p.frame
    if o.status.isSome || o.responded || o.req.len < p.offset + p.data.length then s else s.enterPiece o p.offset p.data

/-- Processes a packet that can be processed. -/
def State.processPacket (s : State) (i opcode : Nat) (p : CergaPacket) : State :=
  if p.offset = 0 then s.submit (s.cergaRequest i opcode p false) else s.placePacket i p

/-- Bytes of an engine's reorder store in use: a held packet counts with its frame (assumption log 61). -/
def State.reorderBytes (s : State) (e : Nat) : Nat :=
  ((s.cerga.held.filter (fun h => engineOf (h.packet.queue % 2 ^ 22) == e)).map (·.packet.frame)).sum

/-! ### Duplicates (R100) -/

/-- Whether the operation that begins at a sequence still runs, or waits to. -/
def State.stillRuns (s : State) (i epoch q : Nat) : Bool :=
  s.eng.ops.any (fun o => o.req.src == .cerga i epoch && o.req.seq == q && !o.responded)
    || s.eng.waiting.any (fun w => w.req.src == .cerga i epoch && w.req.seq == q) || s.heldSeq i q

/-- The first packet of a duplicate operation (Table 5-5). One whose first delivery has not been admitted yet waits with it (R99). -/
def State.duplicateFirst (s : State) (i opcode : Nat) (p : CergaPacket) : State :=
  let w := s.meter.current.id
  let answer (s : State) (st : Nat) (pay : List Byte) : State := s.cergaRespond i w p.seq opcode st 0 true pay
  let cached := (s.stream i).cache.find? (fun c => c.seq == p.seq)
  if opcode = 1 ∨ opcode = 7 ∨ opcode = 9 ∨ opcode = 10 ∨ opcode = 11 then
    if formatOk opcode p then
      if s.heldSeq i p.seq || s.eng.waiting.any (fun w => w.req.src == .cerga i p.epoch && w.req.seq == p.seq) then s.chargeIngress i w p.frame
      else s.submit (s.cergaRequest i opcode p true)
    else ((s.bump R.CERGA_DROP_MALFORMED 1).cergaNak i p.seq 3).chargeIngress i w p.frame
  else
    let s := s.chargeIngress i w p.frame
    if s.stillRuns i p.epoch p.seq then s
    else match cached with
      | some c => answer s c.status c.payload
      | none => if 3 ≤ opcode ∧ opcode ≤ 5 then s.cergaNak i p.seq 4 else answer s St.DONE []

/-! ### Step 5 to step 9 -/

/-- The ACK rules of R103 for a new packet that arrived `d` above CUM. -/
def State.ackNew (s : State) (i d : Nat) : State :=
  let s := s.updStream i (fun x => { x with sinceAck := x.sinceAck + 1 })
  if 0 < d || s.rd R.CERGA_ACK_ACK_EVERY ≤ (s.stream i).sinceAck then s.cergaAck i else s

/-- A new packet inside the window (steps 6 to 9). -/
def State.newPacket (s : State) (i opcode : Nat) (p : CergaPacket) : State :=
  let d := seqAbove p.seq (s.stream i).cum
  if !formatOk opcode p then
    ((s.bump R.CERGA_DROP_MALFORMED 1).cergaNak i p.seq 3).chargeIngress i s.meter.current.id p.frame
  else
    let marked := s.updStream i (fun x =>
      { Stream.mark x p.seq with uncovered := x.uncovered ++ [(p.seq, s.now + s.rd R.CERGA_ACK_ACK_DELAY_NS)] })
    if p.offset = 0 && d != 0 || !marked.canProcess i opcode p then
      if 262144 < s.reorderBytes (engineOf i) + p.frame + 64 * s.rowsOff (16 + engineOf i) then
        ((s.cergaNak i p.seq 6).raise Ev.CERGA_REORDER_FULL []).chargeIngress i s.meter.current.id p.frame
      else ({ marked with cerga.held := marked.cerga.held ++ [(⟨opcode, p, s.now⟩ : HeldPacket)] }).ackNew i d
    else (marked.processPacket i opcode p).ackNew i d

/-- Step 5 on an open stream. -/
def State.windowPacket (s : State) (i opcode : Nat) (p : CergaPacket) : State :=
  match Stream.classify (s.stream i) p.seq with
  | .fresh => s.newPacket i opcode p
  | .duplicate =>
    let s := s.bump R.CERGA_DUPLICATES 1
    let s := if p.offset = 0 then s.duplicateFirst i opcode p else s.chargeIngress i s.meter.current.id p.frame
    s.cergaAck i
  | .outside =>
    ((s.bump R.CERGA_DROP_WINDOW 1).cergaNak i p.seq 2).chargeIngress i s.meter.current.id p.frame

/-- As Table 5-4 acts for a stream that never opened in this incarnation. -/
def State.noneArrival (s : State) (i opcode : Nat) (p : CergaPacket) : State :=
  let billed (s : State) : State := s.chargeIngress i s.meter.current.id p.frame
  if p.incarnation = 0 ∧ s.ledgerMatch 1 p.queue p.seq then billed (s.abortedReset i opcode p)
  else if p.seq < 1024 then (s.openStream i p).windowPacket i opcode p
  else billed (s.streamReset i p)

/-- Step 4: incarnation and epoch (Table 5-4, R102). -/
def State.streamArrival (s : State) (i opcode : Nat) (p : CergaPacket) : State :=
  let x := s.stream i
  let inc := s.rd R.CERGA_INCARNATION_VALUE
  let billed (s : State) : State := s.chargeIngress i s.meter.current.id p.frame
  if opcode = clientAckOpcode then
    if x.state = .open ∧ x.epoch = p.epoch ∧ (p.incarnation = 0 ∨ p.incarnation = inc) then (billed s).applyRespAck i p.seq
    else billed s
  else if p.incarnation ≠ 0 ∧ p.incarnation ≠ inc then
    if s.ledgerMatch 1 p.queue p.seq then billed (s.abortedReset i opcode p) else billed (s.streamReset i p)
  else match x.state with
    | .none => s.noneArrival i opcode p
    | .open =>
      if p.epoch = x.epoch then s.windowPacket i opcode p
      else if newerEpoch p.epoch x.epoch then
        if s.streamTagged i then billed (s.cergaNakAs i p.epoch p.seq 5)
        else
          let fresh := { streamNone with epoch := x.epoch, nonces := x.nonces, reply := x.reply, ece := x.ece, lastAt := x.lastAt }
          ((s.dropUnadmitted i).setStream i fresh).noneArrival i opcode p |>.cergaViews
      else billed (s.bump R.CERGA_DROP_WINDOW 1)
    | .lapsed =>
      if p.epoch = x.epoch then billed (s.streamReset i p)
      else if newerEpoch p.epoch x.epoch then
        if p.seq < 1024 then (s.openStream i p).windowPacket i opcode p else billed (s.streamReset i p)
      else billed (s.bump R.CERGA_DROP_WINDOW 1)

/-- The 32 header bytes of a request (Table 5-1). -/
def CergaPacket.header (p : CergaPacket) (opcode : Nat) : List Byte :=
  headerBytes [p.ver * 2 ^ 28 + (if p.last then 2 ^ 26 else 0) + (if p.keyx.isSome then 2 ^ 24 else 0) + opcode * 2 ^ 16 + p.epoch, p.queue, p.seq,
    p.incarnation * 2 ^ 16 + p.xmit] ++ beBytes 8 p.addr ++ headerBytes [p.len, p.offset]

/-- The client's initialisation vector (Table 5-3): KIND 1 for a client acknowledgement. -/
def CergaPacket.vector (p : CergaPacket) (opcode : Nat) : Nat :=
  (if opcode = clientAckOpcode then 2 ^ 80 else 0) + p.xmit * 2 ^ 64 + p.seq * 2 ^ 32 + p.queue

/-- The plaintext of a request: the key extension, then the payload (R89; assumption log 178). -/
def CergaPacket.plain (p : CergaPacket) : List Byte :=
  (match p.keyx with
  | some k => beBytes 8 k
  | none => []) ++ p.data

/-- The tag that a request must carry under the stream key of its epoch (R89, R92), as a little-endian number. -/
def State.requestTag (s : State) (opcode : Nat) (p : CergaPacket) : Nat :=
  let key := s.streamKey (p.queue % 2 ^ 22) p.epoch
  leNat (gcmTag key (CergaPacket.vector p opcode) (CergaPacket.header p opcode) (gcmCrypt key (CergaPacket.vector p opcode) 2 (CergaPacket.plain p)))

/-- A packet whose tag fails is dropped and counted; more than AUTH_ALARM of them in a second raise the alarm once (R89). -/
def State.failTag (s : State) (p : CergaPacket) : State :=
  let s := s.bump R.CERGA_DROP_AUTH 1
  let again := s.cerga.alarmSecond == s.secondNow
  let n := if again then s.cerga.alarmCount + 1 else 1
  let raised := again && s.cerga.alarmed
  let now := decide (s.rd R.CERGA_ALARM_AUTH_ALARM < n)
  let s := { s with cerga.alarmSecond := s.secondNow, cerga.alarmCount := n, cerga.alarmed := raised || now }
  if now && !raised then s.raise Ev.CERGA_AUTH_FAIL_ALARM [(4, p.queue)] else s

/-- A packet arrived marked CE, or found more than MARK_KB ahead of it in its port's ingress buffer (R106). -/
def State.congested (s : State) (p : CergaPacket) : Bool := p.ce || decide (s.rd R.CERGA_CREDIT_MARK_KB * 1024 < p.queued)

/-- What an H9 that is not active does with an authentic packet: a first packet is answered NOT_ACTIVE, and the stream's window, which the
mirror stream keeps, is left alone (R117, R191; assumption log 182). -/
def State.notActive (s : State) (i opcode : Nat) (p : CergaPacket) : State :=
  let s := s.chargeIngress i s.meter.current.id p.frame
  if opcode != clientAckOpcode && p.offset == 0 then (s.refuseAs i opcode p St.NOT_ACTIVE).charge (s.pdAccount (s.queuePd i)) 8 1 else s

/-- Step 3's tag check, and what every authenticated packet leaves on its stream (R88, R89, R106). -/
def State.authenticate (s : State) (opcode : Nat) (p : CergaPacket) : State :=
  let i := p.queue % 2 ^ 22
  if s.requestTag opcode p != p.tag then s.failTag p
  else
    let s := s.updStream i (fun x =>
      { x with reply := ⟨p.port, p.ipv6, p.src, p.dscp, p.prio⟩, ece := x.ece || s.congested p, lastAt := s.now })
    if s.isActive then s.streamArrival i opcode p else s.notActive i opcode p

/-! ### Steps 1 to 3 -/

/-- A context may leave the cache: its stream holds no tag and has no packet waiting (R97). -/
def State.evictable (s : State) (i : Nat) : Bool :=
  !s.streamTagged i && s.cerga.held.all (fun h => h.packet.queue % 2 ^ 22 != i)
    && s.eng.waiting.all (fun w => match w.req.src with | .cerga j _ => j != i | _ => true)
    && s.cerga.fetching.all (fun h => h.packet.queue % 2 ^ 22 != i)

/-- The cache of 65,536 contexts has room for one more, or an evictable context to give it (R97). -/
def State.contextRoom (s : State) : Bool := decide (s.cerga.cache.length + s.rowsOff 1 < 65536) || s.cerga.cache.any s.evictable

/-- A context is used: it is the most recent of its engine's lookaside of 48 entries (R97). -/
def State.lookAside (s : State) (i : Nat) : State :=
  let e := engineOf i
  let l := ((AMap.get? s.cerga.lookaside e).getD []).filter (· != i) ++ [i]
  { s with cerga.lookaside := AMap.set s.cerga.lookaside e (l.drop (l.length - 48)) }

/-- Puts a context in the cache as the most recent; a full cache first writes back its least recent evictable one, which leaves the
lookaside too. -/
def State.cacheContext (s : State) (i : Nat) : State :=
  let rest := s.cerga.cache.filter (· != i)
  let s := if rest.length + s.rowsOff 1 < 65536 then { s with cerga.cache := rest ++ [i] } else match rest.find? s.evictable with
    | some v =>
      let l := ((AMap.get? s.cerga.lookaside (engineOf v)).getD []).filter (· != v)
      { s with cerga.cache := rest.filter (· != v) ++ [i], cerga.lookaside := AMap.set s.cerga.lookaside (engineOf v) l }
    | none => s
  (s.lookAside i).cergaViews

/-- The IP and UDP checks of R88, and VER. -/
def CergaPacket.intact (p : CergaPacket) : Bool :=
  (if p.ipv6 then !p.extension else !p.fragment && !p.options) && p.lengthOk && p.sumOk && p.ver == 1

/-- Takes a Cerga packet from the IP checks to the context fetch (Table 5-11). -/
def State.receiveCerga (s : State) (opcode : Nat) (p : CergaPacket) : State :=
  if !s.coreOn || s.save.active || !s.start.admitted || !s.on R.CERGA_CTRL_ENABLE
      || !(if p.ipv6 then s.on R.CERGA_CTRL_IPV6 else s.on R.CERGA_CTRL_IPV4) then s
  else
    let s := s.bump R.CERGA_RX_PKTS 1
    if !CergaPacket.intact p then s.bump R.CERGA_DROP_MALFORMED 1
    else
      let i := p.queue % 2 ^ 22
      match AMap.get? s.cerga.queues i with
      | none => s.bump R.CERGA_DROP_QUEUE 1
      | some q =>
        if q.gen != p.queue / 2 ^ 22 || s.queueLeaving i then s.bump R.CERGA_DROP_QUEUE 1
        else if s.cerga.fetching.any (fun h => h.packet.queue % 2 ^ 22 == i) then
          { s with cerga.fetching := s.cerga.fetching ++ [(⟨opcode, p, s.now⟩ : HeldPacket)] }
        else if s.cerga.cache.contains i then (s.cacheContext i).authenticate opcode p
        else { s with cerga.fetching := s.cerga.fetching ++ [(⟨opcode, p, s.now⟩ : HeldPacket)] }.bump R.CERGA_CTX_MISS 1

/-! ### Rows -/

/-- Admission runs: neither a save nor a yield has stopped it (R152, R188). -/
def State.admits (s : State) : Bool := s.coreOn && !s.save.active && s.twin.yield.isNone && !s.twin.opening

/-- CONTEXT_FETCH_COMPLETE: the context of a queue index arrives, and its packets go on in arrival order. While every cached context is
pinned the fetch waits for a slot, and while admission is stopped its packets stay (R97, R152, R188; assumption log 183). -/
def execContextFetchComplete (index : Nat) (s : State) : Host.Outcome State Fault Refusal :=
  .next <|
    let mine := s.cerga.fetching.filter (fun h => h.packet.queue % 2 ^ 22 == index)
    if !s.admits || mine.isEmpty || !s.contextRoom then s
    else
      let s := { s with cerga.fetching := s.cerga.fetching.filter (fun h => h.packet.queue % 2 ^ 22 != index) }
      mine.foldl (fun s h => s.authenticate h.opcode h.packet) (s.cacheContext index)

/-- HELD_PACKET_ADMISSION of the packet with this sequence on a queue (R99). -/
def execHeldPacketAdmission (queue seq : Nat) (s : State) : Host.Outcome State Fault Refusal :=
  .next <|
    let i := queue % 2 ^ 22
    match s.cerga.held.find? (fun h => h.packet.queue == queue && h.packet.seq == seq) with
    | none => s
    | some h =>
      if s.admits && s.canProcess i h.opcode h.packet then
        { s with cerga.held := s.cerga.held.erase h }.processPacket i h.opcode h.packet
      else s

/-- ACK_DELAY_TIMER of a queue index (R103). -/
def execAckDelayTimer (index : Nat) (s : State) : Host.Outcome State Fault Refusal :=
  .next <|
    if s.coreOn && (s.stream index).state == .open && (s.stream index).uncovered.any (fun q => decide (q.2 ≤ s.now)) then
      s.cergaAck index
    else s

/-- ASSEMBLY_TIMER_EXPIRY of the Cerga write under a tag (R109). -/
def execAssemblyTimerExpiry (tag : Nat) (s : State) : Host.Outcome State Fault Refusal :=
  .next <|
    match s.eng.ops.find? (fun o => o.tag == tag && due s.now o.placedEnd && o.status.isNone && !o.arrived) with
    | none => s
    | some o => match o.req.src with
      | .cerga _ _ =>
        if s.coreOn then
          ((s.endOp o.id St.PARTIAL).bump R.CERGA_ASSEMBLY_CUTS 1).raise Ev.CERGA_ASSEMBLY_CUT [] |>.advanceAll
        else s
      | _ => s

/-- STREAM_LAPSE of a queue index (R96). -/
def execStreamLapse (index : Nat) (s : State) : Host.Outcome State Fault Refusal :=
  .next <|
    let x := s.stream index
    if s.coreOn && x.state == .open && decide (x.lastAt + sec (s.rd R.CERGA_TIMEOUTS_LAPSE_S) ≤ s.now) && s.evictable index then
      ((s.setStream index { streamNone with state := .lapsed, epoch := x.epoch, nonces := x.nonces, reply := x.reply }).bump
        R.CERGA_LAPSES 1).cergaViews
    else s

/-- LEDGER_RELEASE_TIMEOUT: 900 s after the pair returned to service (R84). -/
def execLedgerReleaseTimeout (s : State) : Host.Outcome State Fault Refusal :=
  .next <|
    if s.coreOn && due s.now s.ledger.releaseAt then
      { (s.releaseRecords (fun _ => true)).2 with ledger.releaseAt := none }
    else s

end Sys2Proof.Machine
end

