-- ==== Sys2Proof/Machine/Roce.lean ====
section
/-! DEFINITION. RoCEv2 reception: opcodes, QP contexts and parking, PSN classes, duplicates, congestion notification, and the
responder's timers (R120 to R134). -/

namespace Sys2Proof.Machine

open Sys2Proof

/-- Refreshes ROCE_CACHE and ROCE_PARKED. -/
def State.roceViews (s : State) : State :=
  (s.wr R.ROCE_CACHE_CACHED s.roce.cache.length).wr R.ROCE_PARKED_COUNT s.roce.parked.length

/-- The index of a QPN, if it is one of a QP (R123). -/
def qpIndex (n : Nat) : Option Nat := if 0x100000 ≤ n ∧ n < 0x140000 then some (n - 0x100000) else none

/-- Serial order of PSNs: how far `p` lies above `e`, modulo 2^24. -/
def psnAbove (p e : Nat) : Nat := (p + 2 ^ 24 - e % 2 ^ 24) % 2 ^ 24

/-- Opcodes that are answered NAK Invalid Request (Table 6-2). -/
def sendOpcodes : List Nat := [0, 1, 2, 3, 4, 5, 9, 0x0B, 0x16, 0x17]

/-- The opcode of Table 5-7 that a BTH opcode maps to. -/
def roceOpcode (bth : Nat) : Nat :=
  if bth = 0x0C then 1 else if bth = 0x13 then 3 else if bth = 0x14 then 5 else 2

/-- The request a First or Only packet, a READ Request or an atomic makes (R122). -/
def State.roceRequest (s : State) (q : Nat) (x : Qp) (p : RocePacket) : Request :=
  let opcode := roceOpcode p.bth
  let len := if opcode = 1 then min gib p.dmaLen else if opcode = 2 then p.dmaLen else 8
  { src := .roce q, opcode, seq := p.psn, pd := x.pd, key := p.rkey, keyBits := 32, addr := p.va, len,
    data := if opcode = 2 then p.data else if opcode = 3 then leBytes 8 p.compare ++ leBytes 8 p.swapAdd
      else if opcode = 5 then leBytes 8 p.swapAdd else [],
    arg := p.bth, cursor := none, arrived := s.time.tai, frame := p.frame,
    clamps := if opcode = 1 then moved (min gib p.dmaLen) p.dmaLen else 0, port := p.port }

/-- Ingress bytes of a packet outside an admission (R322). -/
def State.chargeRoce (s : State) (x : Qp) (window frame : Nat) : State := s.chargeIn window (s.pdAccount x.pd) 12 frame

/-! ### Writes -/

/-- Adds a later packet's data to a write that waits for admission. -/
def Request.append (r : Request) (d : List Byte) : Request := { r with data := r.data ++ d }

/-- Enters a Middle or Last packet of the write whose first PSN is `f` at offset `off`. -/
def State.roceMore (s : State) (q : Nat) (x : Qp) (p : RocePacket) (f off : Nat) : State :=
  if s.eng.waiting.any (fun w => w.req.src == .roce q && w.req.seq == f) then
    let g := fun w : Waiter =>
      if w.req.src == .roce q && w.req.seq == f then ({ w with req := Request.append w.req p.data } : Waiter) else w
    ({ s with eng.waiting := s.eng.waiting.map g }).chargeRoce x s.meter.current.id p.frame
  else match s.eng.ops.find? (fun o => o.req.src == .roce q && o.req.opcode == 2 && o.req.seq == f && !o.responded) with
    | none => s.chargeRoce x s.meter.current.id p.frame
    | some o =>
      let s := s.chargeRoce x o.window p.frame
      if o.status.isSome then s else s.enterPiece o off p.data

/-- Whether a write packet keeps the sizes of R121 and stays within its DMA length: First and Middle 4,096 bytes, Last 1 to 4,096, Only
0 to 4,096; the last packet ends the length exactly. -/
def writeSizes (p : RocePacket) (off len : Nat) : Bool :=
  let n := p.data.length
  if p.bth = 0x0A then decide (n ≤ 4096) && n == p.dmaLen
  else if p.bth = 0x06 then n == 4096 && decide (4096 < p.dmaLen)
  else if p.bth = 0x07 then n == 4096 && decide (off + n < len)
  else decide (1 ≤ n ∧ n ≤ 4096) && off + n == len

/-- Processes a packet of an RDMA WRITE. A packet that does not fit the write in progress is an invalid request. -/
def State.roceWrite (s : State) (q : Nat) (x : Qp) (p : RocePacket) : State :=
  let first := p.bth == 0x06 || p.bth == 0x0A
  match x.write with
  | some (f, off) =>
    let len := match s.eng.ops.find? (fun o => o.req.src == .roce q && o.req.seq == f && !o.responded) with
      | some o => o.req.len
      | none => match s.eng.waiting.find? (fun w => w.req.src == .roce q && w.req.seq == f) with
        | some w => w.req.len
        | none => match x.retry.find? (fun r => r.1 == f) with
          | some r => if p.bth = 0x08 then off + p.data.length else r.2 * 4096
          | none => if p.bth = 0x08 then off + p.data.length else off + 8192
    if first || !writeSizes p off len then (s.chargeRoce x s.meter.current.id p.frame).roceInvalid q p.port p.psn
    else
      let done := p.bth == 0x08
      (s.setQp q { x with write := if done then none else some (f, off + p.data.length) }).roceMore q x p f off
  | none =>
    if !first || !writeSizes p 0 p.dmaLen then (s.chargeRoce x s.meter.current.id p.frame).roceInvalid q p.port p.psn
    else
      (s.setQp q { x with write := if p.bth = 0x06 then some (p.psn, p.data.length) else none }).submit (s.roceRequest q x p)

/-! ### New packets and duplicates (R127 to R129) -/

/-- READ Requests and atomics outstanding on a QP. -/
def State.outstanding (s : State) (q : Nat) : Nat :=
  let counts (r : Request) : Bool := r.src == .roce q && (r.opcode == 1 || r.opcode == 3 || r.opcode == 5)
  (s.eng.ops.filter (fun o => counts o.req && !o.responded)).length + (s.eng.waiting.filter (fun w => counts w.req)).length

/-- Takes a packet as a request. -/
def State.roceTake (s : State) (q : Nat) (x : Qp) (p : RocePacket) : State :=
  if p.bth = 0x06 ∨ p.bth = 0x07 ∨ p.bth = 0x08 ∨ p.bth = 0x0A then s.roceWrite q x p
  else if sendOpcodes.contains p.bth || x.write.isSome || x.maxRd ≤ s.outstanding q then
    (s.chargeRoce x s.meter.current.id p.frame).roceInvalid q p.port p.psn
  else s.submit (s.roceRequest q x p)

/-- A packet with PSN equal to ePSN: ePSN advances past it, or past all its READ responses. -/
def State.roceNew (s : State) (q : Nat) (x : Qp) (p : RocePacket) : State :=
  let n := if p.bth = 0x0C then rocePackets 1 (min gib p.dmaLen) else 1
  let x := { x with epsn := (x.epsn + n) % 2 ^ 24, naked := false }
  (s.setQp q x).roceTake q x p

/-- A duplicate (R128), or a packet that an RNR NAK asked for again. A duplicate READ counts toward MAX_RD_ATOMIC (R129); a duplicate of
an atomic that still runs or waits is answered by that one's response (DESIGN CHOICE, assumption log 184). -/
def State.roceDuplicate (s : State) (q : Nat) (x : Qp) (p : RocePacket) : State :=
  match x.retry.find? (fun r => decide (psnAbove p.psn r.1 < r.2)) with
  | some r =>
    let ended := psnAbove p.psn r.1 + 1 == r.2
    let x := { x with retry := if ended then x.retry.erase r else x.retry }
    (s.setQp q x).roceTake q x p
  | none =>
    let s := s.bump R.ROCE_DUPLICATES 1
    let w := s.meter.current.id
    if p.bth = 0x0C then
      if x.maxRd ≤ s.outstanding q then (s.chargeRoce x w p.frame).roceInvalid q p.port p.psn else s.submit (s.roceRequest q x p)
    else
      let s := s.chargeRoce x w p.frame
      if p.bth = 0x06 ∨ p.bth = 0x07 ∨ p.bth = 0x08 ∨ p.bth = 0x0A then
        (s.setQp q { x with acks := x.acks ++ [p.psn] }).settleAcks q w
      else if p.bth = 0x13 ∨ p.bth = 0x14 then
        match x.results.find? (fun r => r.psn == p.psn && r.bth == p.bth) with
        | some r => s.roceSend q p.port w 0x12 p.psn (some 0x1F) (leBytes 8 r.value).reverse
        | none =>
          if s.eng.ops.any (fun o => o.req.src == .roce q && o.req.seq == p.psn && !o.responded)
              || s.eng.waiting.any (fun v => v.req.src == .roce q && v.req.seq == p.psn) then s
          else s.roceNak q p.port w p.psn St.FAULT_INTERNAL false
      else s.roceInvalid q p.port p.psn

/-- A congestion notification packet to the requester, at most one per INTERVAL_US, for a packet that arrived marked CE or with more than
MARK_KB ahead of it in its port's ingress buffer (R131). -/
def State.sendCnp (s : State) (q : Nat) (p : RocePacket) : State :=
  match s.qp? q with
  | none => s
  | some x =>
    let quiet : Bool := match x.cnpAt with
      | some t => decide (t + us (s.rd R.ROCE_CNP_INTERVAL_US) ≤ s.now)
      | none => true
    if (p.ce || decide (s.rd R.ROCE_CNP_MARK_KB * 1024 < p.queued)) && quiet then
      ((s.setQp q { x with cnpAt := some s.now }).bump R.ROCE_CNP_TX 1).roceSend q p.port s.meter.current.id 0x81 0 none
        (List.replicate 16 0)
    else s

/-- A command is taking the QP away, or back to INIT (R124, R134). -/
def State.qpLeaving (s : State) (q : Nat) : Bool := s.prot.drains.any (fun d => d.removal == .qp q || d.removal == .qpInit q)

/-- A packet whose QP's context is at hand: R124, R131, the ledger of R134, and the PSN classes of R127. An H9 that is not active drops
it without moving ePSN (R133), and a QP that owes a fatal NAK takes nothing more (assumption log 185). -/
def State.rocePacket (s : State) (q : Nat) (p : RocePacket) : State :=
  match s.qp? q with
  | none => s.bump R.ROCE_DROP_QP 1
  | some x =>
    if !s.qpAnswers q || s.qpLeaving q || p.srcIp != x.dip || x.owed.any (·.fatal.isSome) then s.bump R.ROCE_DROP_QP 1
    else if !s.isActive then s.chargeRoce x s.meter.current.id p.frame
    else
      let x := { x with port := p.port }
      let s := (s.setQp q x).sendCnp q p
      let x := (s.qp? q).getD x
      let d := psnAbove p.psn x.epsn
      if s.ledgerMatch 2 (qpn q) p.psn then
        (s.chargeRoce x s.meter.current.id p.frame).roceNak q p.port s.meter.current.id p.psn St.ABORTED_RESET false
      else if d = 0 then s.roceNew q x p
      else if 2 ^ 23 ≤ d then s.roceDuplicate q x p
      else
        let s := s.chargeRoce x s.meter.current.id p.frame
        if x.naked then s
        else ((s.setQp q { x with naked := true }).roceNakInOrder q p.port s.meter.current.id x.epsn 0x60 none).bump R.ROCE_PSN_NAKS 1

/-! ### Arrival -/

/-- A context may leave the cache (R125). -/
def State.qpEvictable (s : State) (q : Nat) : Bool :=
  s.eng.ops.all (fun o => o.req.src != .roce q) && s.eng.waiting.all (fun w => w.req.src != .roce q)
    && s.roce.parked.all (fun p => qpIndex p.qpn != some q)

/-- The cache of 16,384 contexts has room for one more, or an evictable context to give it (R125). -/
def State.qpRoom (s : State) : Bool := decide (s.roce.cache.length + s.rowsOff 2 < 16384) || s.roce.cache.any s.qpEvictable

/-- Puts a context in the cache as the most recent; a full cache first writes back its least recent evictable one. -/
def State.cacheQp (s : State) (q : Nat) : State :=
  let rest := s.roce.cache.filter (· != q)
  if rest.length + s.rowsOff 2 < 16384 then { s with roce.cache := rest ++ [q] }.roceViews
  else match rest.find? s.qpEvictable with
    | some v => { s with roce.cache := rest.filter (· != v) ++ [q] }.roceViews
    | none => s.roceViews

/-- Parks a packet while its QP's context is fetched (R126). -/
def State.park (s : State) (q : Nat) (p : RocePacket) : State :=
  if 8 ≤ (s.roce.parked.filter (fun x => qpIndex x.qpn == some q)).length ∨ 4096 ≤ s.roce.parked.length then
    (s.bump R.ROCE_PARK_DROPS 1).raise Ev.ROCE_PARK_OVERFLOW []
  else { s with roce.parked := s.roce.parked ++ [p] }.roceViews

/-- Takes a RoCEv2 packet from the port to its context (R120 to R126). Packets are dropped uncounted while RoCEv2 is off, while a save
runs and before admission opens, and where their IPv4 header checksum fails. -/
def State.receiveRoce (s : State) (p : RocePacket) : State :=
  if !s.coreOn || s.save.active || !s.start.admitted || !s.on R.ROCE_CTRL_ENABLE
      || !(if p.ipv6 then s.on R.ROCE_CTRL_IPV6 else s.on R.ROCE_CTRL_IPV4 && p.ipSumOk) then s
  else
    let s := s.bump R.ROCE_RX_PKTS 1
    if !p.icrcOk then s.bump R.ROCE_DROP_ICRC 1
    else if p.bth = 0x81 then s.bump R.ROCE_CNP_RX 1
    else if p.qpn ≤ 1 then s.bump R.ROCE_DROP_QP 1
    else if !([6, 7, 8, 0x0A, 0x0C, 0x13, 0x14] ++ sendOpcodes).contains p.bth then s.bump R.ROCE_DROP_OPCODE 1
    else match qpIndex p.qpn with
      | none => s.bump R.ROCE_DROP_QP 1
      | some q =>
        if !s.qpAnswers q || s.qpLeaving q then s.bump R.ROCE_DROP_QP 1
        else if s.roce.parked.any (fun x => qpIndex x.qpn == some q) then s.park q p
        else if s.roce.cache.contains q then (s.cacheQp q).rocePacket q p
        else (s.bump R.ROCE_CTX_MISS 1).park q p

/-! ### Rows -/

/-- QP_CONTEXT_FETCH_COMPLETE of a QP index: its parked packets are replayed in arrival order (R126), once the cache has a slot for it
and while admission runs (assumption log 183). -/
def execQpContextFetchComplete (index : Nat) (s : State) : Host.Outcome State Fault Refusal :=
  .next <|
    let mine := s.roce.parked.filter (fun p => qpIndex p.qpn == some index)
    if !s.admits || mine.isEmpty || !s.qpRoom then s
    else
      let s := { s with roce.parked := s.roce.parked.filter (fun p => qpIndex p.qpn != some index) }
      mine.foldl (fun s p => s.rocePacket index p) (s.cacheQp index)

/-- ROCE_ASSEMBLY_TIMEOUT of the RDMA WRITE under a tag: PARTIAL, a NAK with the expected PSN, and the QP in ERR (R132); the NAK takes its
turn behind the operations before it (R129). -/
def execRoceAssemblyTimeout (tag : Nat) (s : State) : Host.Outcome State Fault Refusal :=
  .next <|
    match s.eng.ops.find? (fun o => o.tag == tag && due s.now o.placedEnd && o.status.isNone && !o.arrived) with
    | none => s
    | some o => match o.req.src with
      | .roce q =>
        if s.coreOn then
          let e := ((s.qp? q).map (·.epsn)).getD 0
          let s := s.endOp o.id St.PARTIAL
          (if s.qpAnswers q then s.roceNak q o.req.port o.window e St.PARTIAL false else s).advanceAll
        else s
      | _ => s

/-! ### The state block of a save (R133) -/

/-- The 320-byte responder state of a QP (R133). -/
def Qp.block (x : Qp) : List Byte :=
  let slot (r : QpResult) : List Byte := leBytes 4 r.psn ++ leBytes 1 r.bth ++ List.replicate 3 0 ++ leBytes 8 r.value
  let rs := x.results.take 16
  leBytes 4 x.epsn ++ leBytes 1 rs.length ++ List.replicate 11 0 ++ (rs.map slot).flatten ++ List.replicate (304 - 16 * rs.length) 0

/-- A QP's context from its responder state. -/
def Qp.loadBlock (x : Qp) (b : List Byte) : Qp :=
  let field (o n : Nat) : Nat := leNat ((b.drop o).take n)
  let slot (i : Nat) : QpResult := ⟨field (16 + 16 * i) 4, field (20 + 16 * i) 1, field (24 + 16 * i) 8⟩
  { x with epsn := field 0 4, results := (rangeFrom 0 (field 4 1)).map slot }

end Sys2Proof.Machine
end

