-- ==== Sys2Proof/Machine/Receive.lean ====
section
/-! DEFINITION. The request packets of Cerga and RoCEv2 as they arrive at a port: one row per opcode, and what a yield does with an
arrival (R116, R120, R121, R191). -/

namespace Sys2Proof.Machine

open Sys2Proof

/-- Takes an arrival to its transport. -/
def State.receiveArrival (s : State) : Arrival → State
  | .cerga opcode p => s.receiveCerga opcode p
  | .roce p => s.receiveRoce p

/-- An arrival that admission takes: in yield step 2, and at a new active that has not opened yet, the ingress buffers hold it; from step 3 on the old active discards it and counts
it (R188, R191). -/
def State.takeArrival (s : State) (a : Arrival) : State :=
  if s.twin.opening then { s with twin.ingress := s.twin.ingress ++ [a] } else
  match s.twin.yield with
  | some y => if y.step ≤ 2 then { s with twin.ingress := s.twin.ingress ++ [a] } else s.bump R.TWIN_GAP_DROPS 1
  | none => s.receiveArrival a

/-! ### Ingress buffers, PFC and the shaper stores (R12, R25, R29, R331) -/

/-- The PD and the source of the request that an arrival can make. -/
def State.arrivalPd (s : State) : Arrival → Option (Nat × Source)
  | .cerga _ p => (AMap.get? s.cerga.queues (p.queue % 2 ^ 22)).map (fun q => (q.pd, .cerga (p.queue % 2 ^ 22) p.epoch))
  | .roce p => (qpIndex p.qpn).bind (fun q => (s.qp? q).map (fun x => (x.pd, .roce q)))

/-- Bytes in an engine's shaper store (R331): a shaped request counts with its frame, or with its data where more has arrived. -/
def State.shaperBytes (s : State) (e : Nat) : Nat :=
  ((s.eng.waiting.filter (fun w => w.stage == .shaper && engineOfSource w.req.src == e)).map (fun w => max w.req.frame w.req.data.length)).sum

/-- An arrival would have to wait in its engine's shaper store of 512 KiB, and the store is full: the ingress buffer holds it (R331). -/
def State.shaperFull (s : State) (a : Arrival) : Bool :=
  match s.arrivalPd a with
  | some (pd, src) => (!s.shaperReady pd || s.eng.waiting.any (fun w => sameStream w.req.src src))
      && decide (524288 < s.shaperBytes (engineOfSource src) + a.frame)
  | none => false

/-- The ingress buffer holds an arrival back: admission on its port is not open (R25), or its shaper store is full. -/
def State.portHolds (s : State) (a : Arrival) : Bool := (s.port (a.port / 4)).opensAt.isSome || s.shaperFull a

/-- Takes what the ingress buffers hold, port by port in arrival order, as far as nothing holds it back. -/
def State.drainPorts (s : State) : State :=
  (s.ports.waiting.foldl (fun (x : State × List Nat) a =>
    if x.2.contains (a.port / 4) || x.1.portHolds a then
      ({ x.1 with ports.waiting := x.1.ports.waiting ++ [a] }, (a.port / 4) :: x.2)
    else (x.1.takeArrival a, x.2)) ({ s with ports.waiting := [] }, [])).1

/-- A packet goes to a UDP port the H9 serves, as it stands when the packet arrives (R88, R119, R120). -/
def State.servedPort (s : State) : Arrival → Bool
  | .cerga _ p => p.udpPort == s.rd R.CERGA_CTRL_UDP_PORT
  | .roce p => p.udpPort == 4791

/-- An arrival with the bytes that its port's ingress buffer holds ahead of it. -/
def Arrival.behind (a : Arrival) (n : Nat) : Arrival :=
  match a with
  | .cerga o p => .cerga o { p with queued := n }
  | .roce p => .roce { p with queued := n }

/-- What the trace keeps of an arrival: its header's fields and address, and nothing of its payload. -/
def Arrival.noted : Arrival → TraceItem
  | .cerga o p => .packet p.port o p.queue p.seq p.addr p.len
  | .roce p => .packet p.port p.bth p.qpn p.psn p.va p.dmaLen

/-- An arrival at a port: an enabled port with LINK UP takes it. Where its ingress buffer reaches THRESH_KB the port sends a pause frame for
the packet's priority, or drops the packet where PFC is off for it (R29; assumption log 179). -/
def State.arrive (s : State) (a : Arrival) : State :=
  let n := a.port / 4
  if !s.coreOn || s.rdN R.PORT_CTRL_ENABLE n != 1 || decide (16 ≤ n) || (s.port n).link (a.port % 4) != 2 then s
  else
    let s := (if s.save.active then s else s.closeDue).wrN R.PORT_RX_FRAMES n (s.rdN R.PORT_RX_FRAMES n + 1)
    let s := s.setPort n { s.port n with queued := a.queued }
    let ahead := s.ingressBytes n
    let full := decide (s.rdN R.PORT_PFC_THRESH_KB n * 1024 ≤ ahead + a.frame)
    if full && !(s.rdN R.PORT_PFC_PFC_EN n).testBit (a.prio % 8) then s.wrN R.PORT_RX_DROPS n (s.rdN R.PORT_RX_DROPS n + 1)
    else
      let s := if full then (s.send (.pfcPause n (a.prio % 8))).wrN R.PORT_PFC_TX n (s.rdN R.PORT_PFC_TX n + 1) else s
      if !s.servedPort a then s
      else { s.note (Arrival.noted a) with ports.waiting := s.ports.waiting ++ [a.behind ahead] }.drainPorts

/-- PORT_ADMISSION_OPEN: MIN_MHZ has reached the target that port `n` waits for, or 10 ms have passed; the packets that waited are
taken in order (R25). -/
def execPortAdmissionOpen (n : Nat) (s : State) : Host.Outcome State Fault Refusal :=
  .next <|
    let p := s.port n
    if s.coreOn && p.opensAt.isSome && (due s.now p.opensAt || decide (p.target ≤ s.rd R.PACE_MIN_MIN_MHZ)) then
      (s.setPort n { p with opensAt := none }).drainPorts
    else s

/-- SHAPER_RELEASE: both buckets of a PD stand at 0 or more, and its head shaped request goes on; the wait is charged, and what the ingress
buffers held for want of room in the shaper store follows (R330, R331). -/
def execShaperRelease (pd : Nat) (s : State) : Host.Outcome State Fault Refusal :=
  .next <|
    match (headWaiters s.eng.waiting []).find? (fun w => w.stage == .shaper && w.req.pd == pd) with
    | some w =>
      if s.admits && s.shaperReady pd then
        let s := ((s.dropWaiter w).shaperTake pd w.req.len).charge (s.pdAccount pd) 14 ((s.now - w.since) / 1000)
        (s.tryAdmit w.req true).moveWaiters.drainPorts
      else s
    | none => s

/-- READ: reads the near cache or DRAM under R64. -/
def execRead (p : CergaPacket) (s : State) : Host.Outcome State Fault Refusal := .next (s.arrive (.cerga 1 p))

/-- WRITE: a first or a later packet (R99, R108). -/
def execWrite (p : CergaPacket) (s : State) : Host.Outcome State Fault Refusal := .next (s.arrive (.cerga 2 p))

/-- CAS8 (R62). -/
def execCas8 (p : CergaPacket) (s : State) : Host.Outcome State Fault Refusal := .next (s.arrive (.cerga 3 p))

/-- CAS16 (R62). -/
def execCas16 (p : CergaPacket) (s : State) : Host.Outcome State Fault Refusal := .next (s.arrive (.cerga 4 p))

/-- FADD8 (R62). -/
def execFadd8 (p : CergaPacket) (s : State) : Host.Outcome State Fault Refusal := .next (s.arrive (.cerga 5 p))

/-- FENCE (R73). -/
def execFence (p : CergaPacket) (s : State) : Host.Outcome State Fault Refusal := .next (s.arrive (.cerga 6 p))

/-- SHELF_READ (R231). -/
def execShelfRead (p : CergaPacket) (s : State) : Host.Outcome State Fault Refusal := .next (s.arrive (.cerga 7 p))

/-- SCHEDULE_ADVANCE (R232). -/
def execScheduleAdvance (p : CergaPacket) (s : State) : Host.Outcome State Fault Refusal := .next (s.arrive (.cerga 8 p))

/-- LEDGER_QUERY (R113). -/
def execLedgerQuery (p : CergaPacket) (s : State) : Host.Outcome State Fault Refusal := .next (s.arrive (.cerga 9 p))

/-- HALLMARK (R114). -/
def execHallmark (p : CergaPacket) (s : State) : Host.Outcome State Fault Refusal := .next (s.arrive (.cerga 10 p))

/-- TIME_QUERY (R115). -/
def execTimeQuery (p : CergaPacket) (s : State) : Host.Outcome State Fault Refusal := .next (s.arrive (.cerga 11 p))

/-- CLIENT_ACKNOWLEDGEMENT: opcode 0x40 (R102). -/
def execClientAcknowledgement (p : CergaPacket) (s : State) : Host.Outcome State Fault Refusal :=
  .next (s.arrive (.cerga clientAckOpcode p))

/-- RDMA_WRITE: `bth` is First, Middle, Last or Only; any other value of the operand is no packet of this row. -/
def execRdmaWrite (p : RocePacket) (s : State) : Host.Outcome State Fault Refusal :=
  .next (if [0x06, 0x07, 0x08, 0x0A].contains p.bth then s.arrive (.roce p) else s)

/-- RDMA_READ_REQUEST (R127). -/
def execRdmaReadRequest (p : RocePacket) (s : State) : Host.Outcome State Fault Refusal :=
  .next (s.arrive (.roce { p with bth := 0x0C }))

/-- CMPSWAP, handled as CAS8 (R63). -/
def execCmpswap (p : RocePacket) (s : State) : Host.Outcome State Fault Refusal :=
  .next (s.arrive (.roce { p with bth := 0x13 }))

/-- FETCHADD, handled as FADD8 (R63). -/
def execFetchadd (p : RocePacket) (s : State) : Host.Outcome State Fault Refusal :=
  .next (s.arrive (.roce { p with bth := 0x14 }))

/-- ROCE_UNSUPPORTED_OPCODE: any BTH opcode that no other row names (R121). -/
def execRoceUnsupportedOpcode (p : RocePacket) (s : State) : Host.Outcome State Fault Refusal :=
  .next (if [0x06, 0x07, 0x08, 0x0A, 0x0C, 0x13, 0x14, 0x81].contains p.bth then s else s.arrive (.roce p))

/-- CNP: counted in ROCE_CNP_RX and otherwise ignored (R121). -/
def execCnp (p : RocePacket) (s : State) : Host.Outcome State Fault Refusal :=
  .next (s.arrive (.roce { p with bth := 0x81 }))

end Sys2Proof.Machine
end

