-- ==== Sys2Proof/Machine/RegionOps.lean ====
section
/-! DEFINITION. What a change of the region, PD, queue and QP tables does on one twin, for the active's commands and for the standby's
copies of them (R36 to R57, R93, R118, R123 to R125, R183). -/

namespace Sys2Proof.Machine

open Sys2Proof

/-! ### Regions -/

/-- This side holds a WRITABLE region's data (R183). -/
def State.holds (s : State) (r : Region) : Bool := r.mirrored || r.owner == s.side

/-- A media range holds nothing any more: bytes read as zero, and lines, marks, dirty pages and map units are gone (R41). -/
def State.clearMedia (s : State) (m n : Nat) : State :=
  let outside (a : Nat) : Bool := !(decide (m ≤ a ∧ a < m + n))
  let s := { s with mem.dram := s.mem.dram.filter (fun c => outside c.1)
                    mem.dramPoison := s.mem.dramPoison.filter (fun c => outside (c.1 * 64)) }
  let s := { s with near.ways := s.near.ways.filter (fun e => outside (e.2.line * 64))
                    near.victims := s.near.victims.map (fun e : Nat × List Line => (e.1, e.2.filter (fun x => outside (x.line * 64))))
                    near.misses := s.near.misses.filter (fun e => outside (e.2.line * 64)) }
  let s := { s with dur.dirty := s.dur.dirty.filter (fun e => outside (e.1 * page4K))
                    dur.map := s.dur.map.filter (fun e => outside (e.1 * unit2M))
                    eng.gather := s.eng.gather.filter (fun g => outside g.media) }
  s.nearViews.compareD

/-- A pair-local range has no flash image: it reads as zero, and nothing of it waits for restore or resync (R41). -/
def State.clearImage (s : State) (a n : Nat) : State :=
  let outside (x : Nat) : Bool := !(decide (a ≤ x ∧ x < a + n))
  { s with mem.image := s.mem.image.filter (fun c => outside c.1)
           mem.imagePoison := s.mem.imagePoison.filter (fun c => outside (c.1 * 64))
           flash.codewords := s.flash.codewords.filter (fun c => decide (2 ^ 62 ≤ c.1) || outside (c.1 * page4K))
           start.units := s.start.units.filter (fun u => outside (u * unit2M))
           twin.diverged := s.twin.diverged.filter (fun u => outside (u * unit2M)) }

/-- The part of a region from pair-local `a` on, for `n` bytes, is given back: media, image and ETT entries (R46). -/
def State.releaseRange (s : State) (region a n : Nat) : State :=
  let ps := s.mediaPieces a n
  let s := (ps.foldl (fun s p => s.clearMedia p.1 p.2) s).clearImage a n
  let cut (e : Extent) : Option Extent :=
    if e.region != region || decide (e.base + e.len ≤ a / unit2M) then some e
    else if a / unit2M ≤ e.base then none
    else some { e with len := a / unit2M - e.base }
  { s with prot.extents := s.prot.extents.filterMap cut }.protViews

/-- Enters a region with its ETT entries: DRAM where this side holds its data, tiles' offsets for a SHELF region, and the record alone
otherwise (R43, R44, R57). -/
def State.createRegion (s : State) (id : Nat) (r : Region) : Except Nat State :=
  let b := r.base / unit2M
  let n := r.size / unit2M
  if r.shelf then
    let es := shelfExtents id r.object (n / maxExtent + 1) b 0 n
    if 1048576 < s.prot.extents.length + es.length then .error Why.ETT_FULL
    else .ok ((s.addExtents es).setRegion id r).protViews
  else if s.holds r then
    match s.allocate id b n with
    | .error e => .error e
    | .ok es => .ok ((s.addExtents es).setRegion id r).protViews
  else .ok (s.setRegion id r).protViews

/-- Clears the DRAM and the image behind a pair-local range of a region that this side holds (R41). -/
def State.zeroFill (s : State) (a n : Nat) : State :=
  ((s.mediaPieces a n).foldl (fun s p => s.clearMedia p.1 p.2) s).clearImage a n

/-- The lines of an object's tiles are invalidated without being written back; shelf data is never newer in the cache (R213). -/
def State.forgetObjectLines (s : State) (object : Nat) : State :=
  let units := ((s.shelf.tiles.filter (fun t => t.object == object)).map (·.units)).flatten
  let outside (l : Nat) : Bool := !units.contains (l * 64 / unit64K)
  { s with near.ways := s.near.ways.filter (fun e => outside e.2.line)
           near.victims := s.near.victims.map (fun e : Nat × List Line => (e.1, e.2.filter (fun x => outside x.line)))
           near.misses := s.near.misses.filter (fun e => outside e.2.line) }.nearViews

/-- Removes a region with everything that names it (R55, R56, R213). -/
def State.destroyRegion (s : State) (id : Nat) : State :=
  match s.region? id with
  | none => s
  | some r =>
    let s := s.unlockRegion id
    let s := if r.writable then s.releaseRange id r.base r.size else s.forgetObjectLines r.object
    { s with prot.regions := AMap.del s.prot.regions id
             prot.extents := s.prot.extents.filter (fun e => e.region != id)
             prot.bindings := s.prot.bindings.filter (fun e => e.1 % 262144 != id) }.protViews

/-- The further DRAM of a grow (R44, R57). -/
def State.growRegion (s : State) (id : Nat) (r : Region) (size : Nat) : Except Nat State :=
  if s.holds r then
    match s.allocate id ((r.base + r.size) / unit2M) ((size - r.size) / unit2M) with
    | .error e => .error e
    | .ok es => .ok (s.addExtents es).protViews
  else .ok s

/-- The flags after a REGION_SET_FLAGS: MIRRORED and PIN_NEAR set in both masks are cleared (Table 3-6). -/
def Region.withFlags (r : Region) (set clear : Nat) : Region :=
  let bit (m i : Nat) : Bool := m / 2 ^ i % 2 == 1
  { r with mirrored := (r.mirrored || bit set 1) && !bit clear 1, pinNear := (r.pinNear || bit set 4) && !bit clear 4 }

/-- Applies REGION_SET_FLAGS on this twin: a side that comes to hold a MIRRORED region allocates for it, one that no longer holds the
region gives its DRAM back, and locks go with PIN_NEAR. `owner` is the active's side (R57, R183, R213). -/
def State.setRegionFlags (s : State) (id : Nat) (r : Region) (set clear owner : Nat) : Except Nat State :=
  let new := Region.withFlags r set clear
  let new := if r.mirrored && !new.mirrored then { new with owner } else new
  let s := if r.pinNear && !new.pinNear then s.unlockRegion id else s
  if s.holds new && !s.holds r then
    match s.allocate id (r.base / unit2M) (r.size / unit2M) with
    | .error e => .error e
    | .ok es => .ok ((s.addExtents es).setRegion id new).protViews
  else if s.holds r && !s.holds new then .ok ((s.releaseRange id r.base r.size).setRegion id new)
  else .ok (s.setRegion id new)

/-! ### PDs and bindings -/

/-- A new PD with key 0 (R48). -/
def State.createPd (s : State) (pd : Nat) : State :=
  { s with prot.pds := AMap.set s.prot.pds pd ⟨0, none, 0⟩ }.protViews

/-- A PD leaves with its bindings and its token buckets (R56). -/
def State.destroyPd (s : State) (pd : Nat) : State :=
  { s with prot.pds := AMap.del s.prot.pds pd, prot.bindings := s.prot.bindings.filter (fun e => e.1 / 262144 != pd)
           prot.graceEnds := AMap.del s.prot.graceEnds pd, meter.shapers := AMap.del s.meter.shapers pd }.protViews

/-- Binds a PD to a region; a second binding replaces the access (R51). -/
def State.bind (s : State) (pd region : Nat) (rw : Bool) : State :=
  { s with prot.bindings := AMap.set s.prot.bindings (bindKey pd region) rw }.protViews

def State.unbind (s : State) (pd region : Nat) : State :=
  { s with prot.bindings := AMap.del s.prot.bindings (bindKey pd region) }.protViews

/-- Replaces a PD's space key; the old key stays for a grace period that is not 0, until `until`, or none where the period starts
with the completion (R50). -/
def State.setSpaceKey (s : State) (pd key grace : Nat) (until_ : Option Nat) : State :=
  { s with prot.pds := AMap.upd s.prot.pds pd (fun p => ({ p with key, prev := if grace = 0 then none else some p.key } : Pd))
           prot.graceEnds := match until_ with
             | some e => AMap.set s.prot.graceEnds pd e
             | none => AMap.del s.prot.graceEnds pd }

/-! ### Queues and QPs -/

/-- Enters a queue record (R93). -/
def State.createQueue (s : State) (id pd key : Nat) : State :=
  { s with cerga.queues := AMap.set s.cerga.queues (id % 2 ^ 22) ⟨id / 2 ^ 22, pd, key, false⟩ }.cergaViews

/-- Removes a queue record, its stream and its context; its GEN is remembered (R93). -/
def State.destroyQueue (s : State) (i : Nat) : State :=
  match AMap.get? s.cerga.queues i with
  | none => s
  | some q =>
    let s := s.dropUnadmitted i
    { s with cerga.queues := AMap.del s.cerga.queues i, cerga.destroyed := AMap.set s.cerga.destroyed i q.gen
             cerga.streams := AMap.del s.cerga.streams i, cerga.cache := s.cerga.cache.filter (· != i)
             cerga.lookaside := AMap.upd s.cerga.lookaside (engineOf i) (fun l => l.filter (· != i)) }.cergaViews

/-- A QP in INIT under a PD (R123). The connection fields stand at 0 until QP_MODIFY to RTR sets them. -/
def qpNew (pd : Nat) : Qp :=
  ⟨.init, pd, 0, false, [], 1, 0, 0, 0, 0, 0, 1, none, 0, none, [], [], []⟩

def State.createQp (s : State) (q pd : Nat) : State := (s.setQp q (qpNew pd)).roceViews

/-- Parked packets and requests of a QP that are not admitted are dropped uncounted (R134). -/
def State.dropParked (s : State) (q : Nat) : State :=
  { s with roce.parked := s.roce.parked.filter (fun p => p.qpn != qpn q)
           eng.waiting := s.eng.waiting.filter (fun w => w.req.src != Source.roce q) }.roceViews

def State.destroyQp (s : State) (q : Nat) : State :=
  { s.dropParked q with roce.qps := AMap.del s.roce.qps q, roce.cache := s.roce.cache.filter (· != q) }.roceViews

/-- A QP enters INIT: its PSN state and atomic results are cleared (R123). -/
def State.initQp (s : State) (q : Nat) : State :=
  match s.qp? q with
  | none => s
  | some x => (s.dropParked q).setQp q
      { x with state := .init, epsn := 0, naked := false, results := [], write := none, acks := [], retry := [], owed := [] }

/-- Moves a QP to RTR with every field, or to RTS or ERR with the state alone (Table 6-4). A move to ERR raises the event of R130 with
ePSN and status DONE (assumption log 186). -/
def State.modifyQp (s : State) (q goal : Nat) (p : QpParams) : State :=
  match s.qp? q with
  | none => s
  | some x =>
    if goal = 2 then
      s.setQp q { x with state := .rtr, maxRd := p.maxRd, minRnr := p.minRnr % 32, tclass := p.tclass % 256, dqpn := p.dqpn % 2 ^ 24
                         epsn := p.psn % 2 ^ 24, dip := p.dip % 2 ^ 128, flow := p.flow % 2 ^ 20, hop := p.hop, naked := false }
    else if goal = 3 then s.setQp q { x with state := .rts }
    else s.qpToErr q x.epsn St.DONE

/-! ### Rolling back (R42) -/

/-- A region command that has not ended is undone: a region in CREATING goes, a grow gives back its DRAM, and the others are ACTIVE
again. -/
def State.rollbackRegion (s : State) (id : Nat) : State :=
  match s.region? id with
  | none => s
  | some r =>
    match r.state with
    | .active => s
    | .creating => s.destroyRegion id
    | _ =>
      let s := if r.size < r.newSize then s.releaseRange id (r.base + r.size) (r.newSize - r.size) else s
      s.setRegion id { r with state := .active, newSize := r.size }

/-- Every command that waits for a drain or a zero-fill is undone; the answer is the commands (R42). -/
def State.rollback (s : State) : List Nat × State :=
  let cmds := s.prot.drains.filterMap (·.cmd) ++ s.prot.creating.map (·.2)
  let keys := s.prot.drains.filterMap (fun d => match d.removal with | .key k => some k | _ => none)
  let s := (s.prot.regions.map (·.1)).foldl State.rollbackRegion s
  let stay := fun (e : Nat × QueueRec) => (e.1, { e.2 with leaving := false })
  let s := { s with prot.drains := [], prot.creating := [], cerga.queues := s.cerga.queues.map stay }
  let slots := keys.foldl (fun m k => AMap.upd m k (fun x : KeySlot => ({ x with destroying := false } : KeySlot))) s.crypt.slots
  (cmds, { s with crypt.slots := slots })

end Sys2Proof.Machine
end

