-- ==== Sys2Proof/Machine/TwinBase.lean ====
section
/-! DEFINITION. The twin unit's shared operations: what is shown, what waits for the mark, resync, partitions, the token's moves,
yields, and the tie-break (R160 to R198). -/

namespace Sys2Proof.Machine

open Sys2Proof

/-! ### What is shown (R162, R188, Table 8-12) -/

/-- TWIN_ALERT (R162). -/
def State.twinAlert (s : State) : Bool :=
  !s.paired || !s.linkUp || s.on R.TWIN_STATUS_SINGLE_RUNNING || s.rd R.TWIN_STATUS_SYNC != 0

/-- A read-back fault of TWIN_TOKEN_IND that arose in a switch-over gap is reported after it (Table 25-13). -/
def State.reportInd (s : State) : State :=
  match s.keeper.indFault with
  | none => s
  | some high =>
    { s with keeper.indFault := none }.raiseKeeper Ev.POWER_INPUT_STUCK [(1, 0x16), (1, if high then 2 else 1)]

/-- Refreshes TWIN_STATUS.ROLE, WITNESS_ONLY, TWIN_RESYNC_LEFT, TWIN_ALERT, port links kept back in a gap, and since when the home standby has been CURRENT with
the link UP (R196). -/
def State.twinViews (s : State) : State :=
  let s := (s.wr R.TWIN_STATUS_ROLE s.twinRole).flag R.TWIN_STATUS_WITNESS_ONLY
    (s.twin.holder && s.hasWitness && !s.linkUp && s.leaseValid)
  let s := s.wr R.TWIN_RESYNC_LEFT_UNITS s.twin.diverged.length
  let s := if s.inGap then s else s.reportLinks.reportInd
  let home := s.standbyCurrent && !s.twin.holder && s.on R.TWIN_STATUS_HOME
  { s with keeper.outputs := AMap.set s.keeper.outputs 0x15 s.twinAlert
           twin.homeSince := if home then some (s.twin.homeSince.getD s.now) else none }

/-- Drives TWIN_TOKEN_IND (R188). -/
def State.tokenInd (s : State) (b : Bool) : State := { s with keeper.outputs := AMap.set s.keeper.outputs 0x16 b }

/-- The 802.1Q tag of frames that the H9 originates on a port: priority and VLAN (Table 23-8). -/
def State.portVlan (s : State) (n : Nat) : Option (Nat × Nat) :=
  if s.rdN R.PORT_VLAN_TAG n = 1 then some (s.rdN R.PORT_VLAN_PCP n, s.rdN R.PORT_VLAN_VID n) else none

/-- Announces the service addresses on every port with link: a gratuitous ARP for IPv4 and an unsolicited Neighbor Advertisement for
IPv6 (R190). -/
def State.announceNow (s : State) : State :=
  ((rangeFrom 0 64).filter (fun n => (s.port (n / 4)).link (n % 4) == 2)).foldl
    (fun s n => (s.send (.announce n false (s.portVlan (n / 4)))).send (.announce n true (s.portVlan (n / 4)))) s

/-- Announces three times at 1 ms intervals (R190). -/
def State.startAnnounce (s : State) : State := { s.announceNow with twin.announce := [s.now + ms 1, s.now + ms 2] }

/-- The announcements that are due. -/
def State.announceDue (s : State) : State :=
  if s.twin.announce.any (fun t => decide (t ≤ s.now)) then
    { s.announceNow with twin.announce := s.twin.announce.filter (fun t => decide (s.now < t)) }
  else s

/-- A restore has completed: locked ranges load again (R210, R455). -/
def State.restoreDone (s : State) : State :=
  ((s.wr R.DUR_RESTORE_STATUS_PHASE 4).raise Ev.DURABILITY_RESTORE_DONE []).reloadLocks

/-- Changes SYNC; a STATUS item follows at once, and from a standby a STATUS_REPORT to the witness (R169, Table 16-3). -/
def State.showSync (s : State) (c : Nat) : State :=
  if s.rd R.TWIN_STATUS_SYNC = c then s
  else
    let s := (s.wr R.TWIN_STATUS_SYNC c).sendStatus
    if s.hasWitness && !s.twin.holder then s.witnessPairs.foldl (fun s d => s.sendDomain 0x0A d 0 [c]) s else s

/-- Changes SYNC; a standby that becomes CURRENT ends its restore, and its locked ranges load (R210, R457). -/
def State.setSync (s : State) (c : Nat) : State :=
  let s := s.showSync c
  if c = 0 && s.rd R.DUR_RESTORE_STATUS_PHASE == 3 then (s.wr R.DUR_RESTORE_STATUS_PHASE 4).reloadLocks else s

/-! ### Writes that wait for the twin or the mark (R174, R179) -/

/-- Gather entries that no acknowledgement can release any more wait for the mark. -/
def State.stickEntries (s : State) : State :=
  let f := fun g : Gather => if g.record.isSome then ({ g with record := none, stuck := true } : Gather) else g
  { s with eng.gather := s.eng.gather.map f }

/-- SHELF_OBJECT_LOAD at the standby. -/
def opLoad : Nat := 0x0402

/-- A load that the twin will not acknowledge leaves the object without a twin copy (R238). -/
def State.noTwinCopy (s : State) (o : Nat) : State :=
  { s with shelf.objects := AMap.upd s.shelf.objects o (fun x : Object => ({ x with twinCopy := false } : Object)) }

/-- Commands that the twin has not reported and will not report count as applied locally and are replayed at the next resync (R57, R193);
the one that is being replayed stands in that list already. A TWIN_RESYNC that waits for such a report is refused. -/
def State.localiseCommands (s : State) : State :=
  let f := fun c : Cmd =>
    if c.opcode = 0x0703 ∧ c.mirror.isSome then
      ({ c with mirror := none, status := St.DENIED_PROTECTION, detail := Why.PEER_UNREACHABLE } : Cmd)
    else { c with mirror := none }
  let replaying := s.twin.resync.bind (·.replaying)
  let sent := (s.twin.commands.filter (fun c => some c.number != replaying)).map (·.command)
  let s := (sent.filter (fun m => m.opcode == opLoad)).foldl (fun s m => s.noTwinCopy (m.params.headD 0)) s
  let kept := sent.filter (fun m : MirrorCommand => m.opcode != opLoad)
  { s with cmds := s.cmds.map f, twin.commands := s.twin.commands.filter (fun c => some c.number == replaying)
           twin.localCommands := s.twin.localCommands ++ kept }.releaseAnswers

/-- The MSNs of every queue start again at 1: with each LINK_EPOCH and each TOKEN_EPOCH (assumption log 196). Records that were under
way can be acknowledged no more. -/
def State.restartQueues (s : State) : State :=
  { s with twin.sent := [], twin.acked := [], twin.accepted := [], twin.unacked := [], twin.partials := [], twin.cut := [], twin.assayOpen := []
           twin.assayMine := [], twin.assayPeer := [], twin.shadows := [] }.stickEntries

/-- The mark is held: what waits completes DEGRADED, and its units diverge (R179, R193). -/
def State.releaseStuck (s : State) : State :=
  let waiting := s.eng.gather.filter (·.stuck)
  let s := waiting.foldl (fun s g =>
    let s := s.markUnits (unitsOf g.addr g.data.length)
    match g.op with | some id => s.updOp id (fun o => { o with degraded := true }) | none => s) s
  let f := fun g : Gather => ({ g with stuck := false } : Gather)
  { s with eng.gather := s.eng.gather.map f }.advanceAll

/-- The twin accepts again: what waited is sent as records (R179). -/
def State.resendStuck (s : State) : State :=
  let waiting := s.eng.gather.filter (·.stuck)
  waiting.foldl (fun s g =>
    let src := g.src.getD (.host 0 0)
    let (fate, s) := s.mirrorData src 0 g.pd (sourceEpoch src) g.addr g.data g.atomic
    let record := match fate with | .sent q m => some (q, m) | _ => none
    let f := fun h : Gather => if h.id = g.id then ({ h with record, stuck := fate == .stuck } : Gather) else h
    { s with eng.gather := s.eng.gather.map f }) s

/-- Whether a mirrored write waits for the mark. -/
def State.someStuck (s : State) : Bool := s.eng.gather.any (·.stuck)

/-- What waits completes DEGRADED where the mark is held under a valid lease (R179, R180). -/
def State.releaseUnderMark (s : State) : State := if s.on R.TWIN_STATUS_SINGLE_RUNNING && s.isActive then s.releaseStuck else s

/-- Acts on a change of whether the twin can accept: waiting writes ask for the mark, or complete under it (R174, R179), and commands count
as applied locally (R57). -/
def State.recheckAccept (s : State) : State :=
  if s.twinAccepts then (if s.someStuck then s.resendStuck else s)
  else
    let s := s.stickEntries.localiseCommands
    let s := if s.someStuck then s.wantMark else s
    s.releaseUnderMark.twinViews

/-- The SINGLE_RUNNING mark is granted or set (R179). -/
def State.gainMark (s : State) : State :=
  ((s.wr R.TWIN_STATUS_SINGLE_RUNNING 1).raise Ev.TWIN_SINGLE_RUNNING []).releaseUnderMark.twinViews

/-! ### Resync (R193 to R195) -/

/-- The pair-local units of every MIRRORED region. -/
def State.mirroredUnits (s : State) : List Nat :=
  ((s.prot.regions.filter (fun e => e.2.mirrored)).map (fun e => unitsOf e.2.base e.2.size)).flatten

/-- Sends payload bytes of an object to the standby as TILE items of kind 0: object, offset, whether tiles are reloaded (R238,
assumption log 47). -/
def State.sendTiles (s : State) (o reload : Nat) : Nat → Nat → List Byte → State
  | 0, _, _ => s
  | fuel + 1, off, d =>
    if d.isEmpty then s
    else (s.sendItem (tileItem 0 [o, off, reload] (d.take 4032))).sendTiles o reload fuel (off + 4032) (d.drop 4032)

/-- Sends one tile of an object that has no twin copy. -/
def State.sendTile (s : State) (o k : Nat) : State :=
  match s.object? o with
  | none => s
  | some x =>
    let t := tileSize x.tileCode
    let n := min t (x.size - k * t)
    let d := Mem.readN ((AMap.get? s.shelf.bytes o).getD []) (k * t) n
    s.sendTiles o 1 (n / 4032 + 1) (k * t) d

/-- After a resync the active sends the objects that have no twin copy (R238). -/
def State.sendObjects (s : State) : State :=
  (s.shelf.objects.filter (fun e => !e.2.twinCopy)).foldl (fun s e =>
    let s := e.2.loaded.foldl (fun s k => s.sendTile e.1 k) s
    { s with shelf.objects := AMap.upd s.shelf.objects e.1 (fun x : Object => ({ x with twinCopy := true } : Object)) }) s

/-- Every marked unit has been acknowledged: the standby becomes CURRENT and the mark is cleared (R195). A switch-over for an Assay
loss that waited for copies follows (Table 8-6); its yield is the caller's. -/
def State.endResync (s : State) : State :=
  let s := { s with twin.resync := none }.sendItem (ctrlItem 2 0)
  let s := s.setSync 0
  let s := if s.on R.TWIN_STATUS_SINGLE_RUNNING then
      if s.hasWitness then (s.wr R.TWIN_STATUS_SINGLE_RUNNING 0).sendRequest 8 s.witnessPairs [] none
      else s.wr R.TWIN_STATUS_SINGLE_RUNNING 0
    else s
  ((s.raise Ev.TWIN_RESYNC_DONE []).twinViews).sendObjects

/-- A resync that has replayed every command, sent every unit and has every acknowledgement ends. -/
def State.settleResync (s : State) : State :=
  match s.twin.resync with
  | some r => if s.twin.diverged.isEmpty && r.unacked.isEmpty && s.twin.localCommands.isEmpty then s.endResync else s.twinViews
  | none => s

/-- What a standby needs of every open stream and QP when a resync starts: the incarnation, opening, RESP_ACK, atomic results, ePSN (R95,
R117, R133). -/
def State.carryStreams (s : State) : State :=
  let s := s.carryStream [6, s.cerga.base]
  let s := s.cerga.streams.foldl (fun s (e : Nat × Stream) =>
    if e.2.state = .open then
      let s := (s.carryStream [0, e.1, e.2.epoch, s.cerga.base]).carryStream [3, e.1, e.2.epoch, e.2.respAck]
      (e.2.cache.filter (fun c => 3 ≤ c.opcode && c.opcode ≤ 5)).foldl (fun s c =>
        (s.carryStream [1, e.1, e.2.epoch, c.seq, 1]).carryStream
          [2, e.1, e.2.epoch, c.seq, c.opcode, c.status, leNat c.payload, c.addr, c.pd]) s
    else s) s
  s.roce.qps.foldl (fun s (e : Nat × Qp) =>
    let s := s.carryStream [4, e.1, 0, (e.2.epsn + 2 ^ 24 - 1) % 2 ^ 24, 1]
    e.2.results.foldl (fun s r => s.carryStream [5, e.1, 0, r.psn, r.bth, r.value]) s) s

/-- Replays the first of the commands applied locally and waits for its report; after the last one the streams follow (R57, R193). -/
def State.replayNext (s : State) : State :=
  match s.twin.resync, s.twin.localCommands with
  | some r, m :: _ =>
    let s := s.sendCommand none m
    { s with twin.resync := some { r with replaying := some s.twin.nextCommand } }
  | some r, [] => { s with twin.resync := some { r with replaying := none } }.carryStreams.settleResync
  | none, _ => s

/-- Starts a resync at the active: the commands applied locally are replayed first, and mode FULL marks every unit of every
MIRRORED region (R193). RESYNC_START carries the TAG of the command that started it, if any (R480). -/
def State.startResync (s : State) (full : Bool) (cmd : Option Nat) : State :=
  if !s.twin.holder || !s.linkUp || !s.paired then s
  else
    let s := if full then s.markUnits s.mirroredUnits else s
    let s := { s with twin.resync := some ⟨full, none, [], s.now⟩, twin.resyncDue := false, twin.refused := 0 }
    let s := (s.sendItem (ctrlItem 0 (if full then 1 else 0))).setSync 2
    (match cmd.bind (fun id => s.cmds.find? (fun (c : Cmd) => c.id == id)) with
      | some c => s.cmdEvent c Ev.TWIN_RESYNC_START []
      | none => s.raise Ev.TWIN_RESYNC_START []).replayNext

/-- The command at which the last resync stopped is tried once more for TWIN_RESYNC, which waits for the report (R57). -/
def State.probeResync (s : State) (cmd : Nat) (full : Bool) : State :=
  match s.twin.localCommands with
  | [] => s
  | m :: _ =>
    let s := (s.sendItem (ctrlItem 0 (if full then 1 else 0))).sendCommand (some cmd) m
    { s with twin.resync := some ⟨full, some s.twin.nextCommand, [], s.now⟩ }.updCmd cmd (fun k => { k with mirror := some s.twin.nextCommand })

/-- The standby has reported a command (R57): one that waited for it may complete, and the replay goes on, or starts where TWIN_RESYNC tried
it. A replayed command that it could not apply stops the resync there, and the standby stays STALE. -/
def State.commandReported (s : State) (number reason : Nat) : State :=
  let replayed := (s.twin.resync.bind (·.replaying)) == some number
  let asked := (s.cmds.find? (fun (c : Cmd) => c.mirror == some number)).map (·.id)
  let f := fun c : Cmd =>
    if c.mirror = some number then
      (if reason = 0 then { c with mirror := none } else { c with mirror := none, status := St.DENIED_PROTECTION, detail := reason } : Cmd) else c
  let s := { s with twin.commands := s.twin.commands.filter (fun c => c.number != number), cmds := s.cmds.map f }
  let s := if !replayed then s
    else if reason = 0 then
      let s := { s with twin.localCommands := s.twin.localCommands.drop 1 }
      match s.twin.resync with
      | some r => if s.twin.refused = 0 then s.replayNext else { s with twin.resync := none }.startResync r.full asked
      | none => s
    else (({ s with twin.resync := none, twin.refused := reason }.sendItem (ctrlItem 5 0)).setSync 1).twinViews
  s.releaseAnswers

/-! ### Yields (R187 to R191) -/

/-- The tag and the record of a switch-over that a command asked for. -/
def State.switchOver (s : State) (cause startedAt : Nat) (cmd : Option Nat) (tag : Nat) : State :=
  let gap := s.now - startedAt
  let s := ((s.wr R.TWIN_LAST_SWITCH_CAUSE cause).wr R.TWIN_LAST_SWITCH_GAP_US (min 0xFFFFF (gap / 1000))).bump R.TWIN_SWITCHOVERS 1
  let vs := [(1, cause), (2, ceilDiv gap 1000000)]
  match cmd with
  | none => s.raise Ev.TWIN_SWITCH_OVER vs
  | some id =>
    let s := s.raiseTag Ev.TWIN_SWITCH_OVER vs tag
    s.updCmd id (fun k => { k with events := k.events ++ [s.hub.nextId - 1] })

/-- Ends the command that asked for a switch-over. -/
def State.endSwitch (s : State) (cmd : Option Nat) (reason : Option Nat) : State :=
  match cmd with
  | none => s
  | some id => match reason with
    | some w => s.refuse id w
    | none => s.finish id St.DONE

/-- A yield begins: admission stops (R187, R188). The active yields only while the standby is CURRENT and the link UP; the
answer says whether it does. A suppressed revert raises its event; the events of causes 2 and 3 are those of the fault itself (R198,
assumption log 197). -/
def State.startYield (s : State) (cause : Nat) (cmd : Option Nat) (tag : Nat) : Bool × State :=
  if s.isActive && s.standbyCurrent && s.twin.yield.isNone && s.twin.resync.isNone then
    let s := { s with twin.yield := some ⟨cause, 2, s.now, cmd, tag, s.now + us 200⟩ }
    let s := if cause = 6 then s.raise Ev.TWIN_REVERT [] else s
    (true, s.twinViews)
  else (false, if cause = 6 then s.raise Ev.TWIN_REVERT [] else s)

/-- A yield for a fault of this H9 (cause 3), where one can take place (R187). -/
def State.selfTestYield (s : State) : State := (s.startYield 3 none 0).2

/-- Admission opens: what the ingress buffers held is taken in arrival order (R188, R191). -/
def State.reopen (s : State) : State :=
  let held := s.twin.ingress
  let s := { s with twin.ingress := [] }
  (held.foldl State.takeArrival s).moveWaiters.drainPorts

/-- A yield is void (Table 8-9). `serve` says that the old active goes on as holder; otherwise neither twin serves until a grant. -/
def State.voidYield (s : State) (reason : Nat) (serve : Bool) : State :=
  match s.twin.yield with
  | none => s
  | some y =>
    let s := { s with twin.yield := none, twin.quiesceAfter := false }.endSwitch y.cmd (some reason)
    if serve then s.twinViews.reopen
    else
      { s with twin.stopped := true, twin.leaseEnd := none, twin.viewEnd := some (s.now + s.leaseL + s.leaseG)
               twin.ingress := [] }.bump R.TWIN_GAP_DROPS s.twin.ingress.length |>.twinViews

/-- Packets that wait for a context, in a reorder store or parked are discarded at a switch-over, and what a QP still owed is owed no more
(R134, R191); results whose operation is gone keep no tag. -/
def State.discardPackets (s : State) : State :=
  let f := fun q : Qp => ({ q with owed := [], acks := [], naked := false, write := none } : Qp)
  let g := fun x : Stream => ({ x with cache := x.cache.map (fun c => { c with op := none }), uncovered := [] } : Stream)
  { s with roce := { s.roce with parked := [], qps := s.roce.qps.map (fun (e : Nat × Qp) => (e.1, f e.2)) }
           cerga := { s.cerga with held := [], fetching := [], streams := s.cerga.streams.map (fun (e : Nat × Stream) => (e.1, g e.2)) } }

/-- Every running operation of this H9 is discarded without a response (R180); commands that wait for them are undone and complete
NOT_ACTIVE. A save keeps them for its ledger. -/
def State.discardOps (s : State) : State :=
  if s.save.active then s else
  let (cmds, s) := s.rollback
  let s := cmds.foldl (fun s id => s.finish id St.NOT_ACTIVE) s
  ({ s with eng.ops := [], eng.waiting := [], eng.gather := s.eng.gather.filter (fun g => Gather.accepted g) }.discardPackets).settleIfDone

/-- The incarnation of an H9 that returns to serving after its own save; every stream is NONE, and the standby learns it (R95, R117). -/
def State.newIncarnation (s : State) : State :=
  let q := s.rd R.DUR_SAVE_SEQ_VALUE
  ({ s with cerga.streams := [], cerga.base := q }.wr R.CERGA_INCARNATION_VALUE (q % 65535 + 1)).carryStream [6, q]

/-- The ledger of an H9 that does not hold the current epoch when it restarts is not presented (R192). -/
def State.supersede (s : State) : State :=
  if s.ledger.superseded || s.ledger.presented || s.ledger.lost then s
  else { s with ledger.superseded := true }.raise Ev.TWIN_LEDGER_SUPERSEDED []

/-- The pair-local units whose data the local image restores at a standby: those of SINGLE regions that it owns (R454, R457). -/
def State.ownUnits (s : State) : List Nat :=
  ((s.prot.regions.filter (fun e => e.2.writable && !e.2.mirrored && e.2.owner == s.side)).map (fun e => unitsOf e.2.base e.2.size)).flatten

/-- A restore that was to serve MIRRORED regions becomes a standby's: those come by resync (R457). -/
def State.restoreAsStandby (s : State) : State :=
  if s.rd R.DUR_RESTORE_STATUS_PHASE = 2 then
    let own := s.ownUnits
    let left := s.start.units.filter (fun u => own.contains u)
    (({ s with start.units := left, start.twinPages := s.start.twinPages.filter (fun e => own.contains (e.1 / 512)) }).wr
      R.DUR_RESTORE_LEFT_UNITS left.length).wr R.DUR_RESTORE_STATUS_PHASE 3
  else s

/-- A standby that has not become CURRENT since its start takes the token: its MIRRORED regions are restored from its own image (Table
8-8 with FORCE_STALE, R454), under a new incarnation. -/
def State.restoreAsHolder (s : State) : State :=
  if s.rd R.DUR_RESTORE_STATUS_PHASE = 3 then
    let more := s.mirroredUnits.filter (fun u => !s.start.units.contains u)
    let units := s.start.units ++ more
    ((({ s with start.units := units }).wr R.DUR_RESTORE_LEFT_UNITS units.length).wr R.DUR_RESTORE_STATUS_PHASE 2).newIncarnation
  else s

/-- The first admission of a holder after its start: the ledger is presented, the incarnation changes and every stream is NONE, and the
restore window opens (R95, R455, R458). -/
def State.firstAdmission (s : State) : State :=
  if !s.isActive || !s.start.admitted || s.start.presented then s
  else
    let s := { s with start.presented := true }
    let s := s.wr R.DUR_START_TIME_WINDOW_MS (min 0xFFFFF ((s.now - s.start.quenchEnd) / 1000000))
    let s := if s.start.units.isEmpty then s.restoreDone else s.wr R.DUR_RESTORE_STATUS_PHASE 2
    if s.ledger.superseded then s
    else if s.ledger.lost then s.newIncarnation
    else
      let s := { s with ledger.presented := true, ledger.releaseAt := some (s.now + sec 900) }
      s.newIncarnation.raise Ev.MEMOP_LEDGER_PRESENTED []

/-- A join or leave that ends without its answer leaves the membership as it was; a join writes the old manager address back (R348). -/
def State.abandonJoin (s : State) : State :=
  let ip := s.domain.joinOldIp
  let s := if s.domain.joinCmd.isSome then
      ((rangeFrom 0 4).foldl (fun s n => if ip.isEmpty then s else s.wrN R.DOMAIN_MGR_IP_ADDR n (ip.getD n 0)) s).wr R.DOMAIN_STATUS_STATE 0
    else s
  let s := if s.domain.leaveCmd.isSome then s.wr R.DOMAIN_STATUS_STATE 2 else s
  { s with domain := { s.domain with requests := s.domain.requests.filter (fun r => r.type != 0x0F), joinCmd := none, joinAt := none
                                     joinLeft := none, joinOldIp := [] } }

/-- A twin that stops being holder asks and answers no more domain questions as one; its commands that wait for the domain end, those
for pushes with the members still pending (R347), the others NOT_ACTIVE. -/
def State.leaveDomainWork (s : State) : State :=
  let left (id : Nat) : Nat := (s.domain.pushes.filter (fun x => x.cmd == some id)).length
  let ends := s.domain.pushResults.map (fun w => (w.1, w.2 + 2 ^ 64 * left w.1))
  let others := s.domain.joinCmd.toList ++ s.domain.leaveCmd.toList
  let f := fun x : Push => ({ x with cmd := none, sent := false } : Push)
  let s := s.abandonJoin
  let s := { s with domain := { s.domain with requests := [], waiting := [], pushResults := [], pushing := none, leaveCmd := none
                                              pushes := s.domain.pushes.map f } }
  let s := ends.foldl (fun s e => s.endCmd e.1 St.DONE 0 e.2) s
  others.foldl (fun s id => s.finish id St.NOT_ACTIVE) s

/-- This H9 is no longer the holder: it learned of a higher epoch, or handed over (R175, R180, R188). -/
def State.becomeStandby (s : State) : State :=
  let lost := s.someStuck
  let s := s.discardOps.leaveDomainWork.dropStage
  let s := { s with twin.holder := false, twin.recorded := false, twin.stopped := false, twin.opening := false, twin.leaseEnd := none
                    twin.viewEnd := some (s.now + s.leaseL + s.leaseG), twin.resync := none, twin.yield := none
                    twin.unanswered := s.twin.unanswered || lost, twin.localCommands := [], twin.commands := [], twin.tie := none
                    twin.announce := [] }.restartQueues
  let s := ((s.wr R.TWIN_STATUS_SINGLE_RUNNING 0).tokenInd false).flagWindow 8
  let s := (s.setCounter 3 (s.rd R.TWIN_TOKEN_EPOCH_VALUE)).restoreAsStandby
  let s := if s.start.admitted && !s.start.presented then s.supersede else s
  if lost then s.setSync 1 else s

/-- A carried atomic result takes an operation tag at the new holder, which its client's acknowledgement frees (R101, R117); the ledger of a
save there records it. -/
def State.tagResult (s : State) (i : Nat) (c : CachedResult) : State :=
  match s.freeTag with
  | none => s
  | some tag =>
    let id := s.eng.nextOp
    let q : Request :=
      { src := .cerga i (s.stream i).epoch, opcode := c.opcode, seq := c.seq, pd := c.pd, key := 0, keyBits := 0, addr := c.addr, len := 0
        data := [], arg := 0, cursor := none, arrived := s.now, frame := 0, clamps := 0, port := (s.stream i).reply.port }
    let o : Op :=
      { id, tag, req := q, pd := c.pd, region := none, mirrored := true, shelf := false, placed := [], arrived := true, placedEnd := none
        lines := [], units := [], tiles := [], restoreEnd := none, status := none, value := some (leNat c.payload), issued := true
        executed := true, degraded := false, poisoned := false, progress := 0, account := s.pdAccount c.pd, window := s.meter.current.id
        late := false, responded := true, buffer := [], marks := [], held := [] }
    let f := fun x : Stream => ({ x with cache := x.cache.map (fun e =>
      if e.seq = c.seq then { e with op := some id } else e) } : Stream)
    { s with eng.ops := s.eng.ops ++ [o], eng.nextOp := id + 1 }.updStream i f

/-- A stream at a new holder: CUM stands at the last carried RESP_ACK, the map holds what was carried, and the atomic results have tags
(R117). -/
def State.resumeStream (s : State) (i : Nat) : State :=
  let x := s.stream i
  if x.state != .open then s
  else
    let kept := x.carried.filter (fun q => !seqBelow q x.respAck)
    let high := kept.foldl (fun h q => match h with
      | some v => some (if seqBelow v q then q else v)
      | none => some q) none
    let s := s.setStream i { x with cum := x.respAck, map := kept, high, uncovered := [], sinceAck := 0 }
    (x.cache.filter (fun c => atomicOp c.opcode && c.op.isNone)).foldl (fun s c => s.tagResult i c) s

/-- The holder registers its epoch with its witnesses, those of a new list among them (R175, R342). -/
def State.registerEpoch (s : State) : State :=
  let new := if s.roleStrap = 2 then s.domain.newWitnesses.filter (fun w => !s.domain.witnesses.contains w && AMap.has s.domain.members w) else []
  let s := { s with domain.registered := [] }
  if s.hasWitness then s.sendRequest 9 (s.witnessPairs ++ new) [s.rd R.TWIN_TOKEN_EPOCH_VALUE, s.side] none else s

/-- The new holder opens admission (steps 6 and 7 of Table 8-8): it raises TWIN_TOKEN_IND, announces the service addresses and takes what
waits (R188 to R191). -/
def State.openAdmission (s : State) : State :=
  let s := (({ s with twin.opening := false }.tokenInd true).startAnnounce).restoreAsHolder
  ((s.sendStatus.twinViews).firstAdmission.sendOutbox.sendPushes).settleLocks.reopen

/-- Opens admission and registers the epoch. -/
def State.openAsHolder (s : State) : State := s.registerEpoch.openAdmission

/-- This H9 becomes holder of an epoch: its keeper records it (R175). It opens admission at once, or after a yield once the old active has
stopped (R188). -/
def State.takeToken (s : State) (epoch : Nat) (leaseEnd : Option Nat) (sync : Nat) (yielded : Bool) : State :=
  let s := { s with twin.holder := true, twin.recorded := true, twin.stopped := false, twin.opening := yielded, twin.handover := none
                    twin.leaseEnd := leaseEnd, twin.tie := none, twin.yield := none, twin.commands := []
                    twin.unanswered := false, twin.renewAt := s.now, twin.witnessAt := s.now }.restartQueues
  let s := ((s.wr R.TWIN_TOKEN_EPOCH_VALUE epoch).wr R.TWIN_STATUS_SYNC sync).flagWindow 8
  let s := s.fillBuckets.setCounter 3 (epoch + 2 ^ 32)
  let s := (s.cerga.streams.map (·.1)).foldl State.resumeStream s
  if yielded then s.twinViews else s.openAsHolder

/-- A higher epoch seen in a Braze frame or a domain message: stop and become standby (R175). -/
def State.learnEpoch (s : State) (epoch : Nat) : State :=
  if s.rd R.TWIN_TOKEN_EPOCH_VALUE < epoch then
    let was := s.twin.holder && s.paired
    let s := (s.wr R.TWIN_TOKEN_EPOCH_VALUE epoch).setCounter 3 epoch
    if was then
      let y := s.twin.yield
      let s := s.becomeStandby
      (match y with | some y => s.endSwitch y.cmd (some Why.PEER_UNREACHABLE) | none => s).twinViews
    else s.restartQueues
  else s

/-! ### Partitions (R169, R173, R180, R181) -/

/-- The link stops being UP (R169, R173): packed frames have left, records in progress end, waiting writes fall under R179, the
resync stops with its map kept, a running yield is void, and a new holder that has not opened yet registers its epoch first (R195,
Table 8-9). `code` is the new LINK code. -/
def State.linkDown (s : State) (code : Nat) (retry : Nat) : State :=
  if s.rd R.TWIN_STATUS_LINK = 2 then
    let s := s.flushStream
    let s := (s.wr R.TWIN_STATUS_LINK code).wr R.TWIN_STATUS_LANES 0
    let units := match s.twin.resync with | some r => r.unacked | none => []
    let opening := s.twin.opening
    let s := { s with twin.frame := [], twin.frameAt := none, twin.ident := none
                      twin.trainAt := some (s.now + retry), twin.witnessAt := s.now, twin.discarding := false, twin.tie := none
                      twin.handover := none, twin.credit := 0 }.markUnits units
    let s := s.raise Ev.TWIN_BRAZE_DOWN []
    let s := s.voidYield Why.PEER_UNREACHABLE false
    let s := if s.twin.holder then
        let s := { s.localiseCommands with twin.resync := none, twin.commands := [] }.restartQueues
        let s := if s.rd R.TWIN_STATUS_SYNC = 2 then s.setSync 1 else s
        if !s.hasWitness && s.paired then s.gainMark else s.recheckAccept
      else { s with twin.resync := none }.restartQueues
    let s := if opening && s.twin.holder then
        (if s.hasWitness then s.registerEpoch else s.openAdmission)
      else s
    s.advanceAll.twinViews
  else s

/-! ### Tie-break (R186) -/

/-- The integrity tag that a pair-local page must have: that of the tag store while it is dirty, else the one in its codeword's metadata,
or the tag of zeros where no codeword was ever programmed (R290, R291). -/
def State.heldTag (s : State) (pg m : Nat) : Nat :=
  match AMap.get? s.dur.dirty (m / page4K) with
  | some p => p.tag
  | none => match AMap.get? s.flash.codewords (FlashPage.address (.image pg)) with
    | some w => w.tag
    | none => s.pageTag (pg * page4K) (List.replicate page4K 0)

/-- Whether this H9's copy of a pair-local page passes its check: no chunk of it is poisoned, and it has the integrity tag it must have
(R186, R292). -/
def State.pagePasses (s : State) (pg : Nat) : Bool :=
  match s.media? (pg * page4K) with
  | some m => (rangeFrom 0 64).all (fun i => !s.chunkPoison (m / 64 + i)) && s.tagOf (m / page4K) == s.heldTag pg m
  | none => true

/-- The unit of a page. -/
def pageUnit (pg : Nat) : Nat := pg / 512

/-- What one page's two results decide here (Table 8-6): `mine` is this H9's result. -/
def State.decidePage (s : State) (pg : Nat) (mine peers : Bool) : State :=
  let active := if s.twin.holder then mine else peers
  let standby := if s.twin.holder then peers else mine
  if active then
    if s.twin.holder then
      let s := (s.markUnits [pageUnit pg]).wantMark
      s.raise (if standby then Ev.TWIN_ASSAY_BOTH_PASS else Ev.TWIN_ASSAY_MISMATCH) []
    else s
  else if standby then
    (if s.twin.holder then s else s.markUnits [pageUnit pg]).raise Ev.TWIN_ASSAY_MISMATCH []
  else
    let s := match s.media? (pg * page4K) with
      | some m => s.poisonChunks (rangeFrom (m / 64) 64)
      | none => s
    s.raise Ev.TWIN_ASSAY_BOTH_FAIL []

/-- Decides a tie-break once both twins have reported every page. -/
def State.settleTie (s : State) : State :=
  match s.twin.tie with
  | none => s
  | some t =>
    if t.pages.all (fun p => t.mine.any (·.1 == p) && t.peers.any (·.1 == p)) then
      let res (l : List (Nat × Bool)) (p : Nat) : Bool := ((l.find? (·.1 == p)).map (·.2)).getD true
      let s := { s with twin.tie := none }
      let s := t.pages.foldl (fun s p => s.decidePage p (res t.mine p) (res t.peers p)) s
      let kept := t.pages.filter (fun p => res t.mine p)
      let loses := t.pages.any (fun p => !res t.mine p && res t.peers p)
      let s := if s.twin.holder && !kept.isEmpty then
          { s with twin.copying := if loses then kept else s.twin.copying }.startResync false none
        else if s.twin.holder && loses then (s.startYield 2 none 0).2
        else s
      s.advanceAll.twinViews
    else s

/-- Starts a tie-break on pages, or joins the running one; pages in units not yet resynced are left out (R186, Table 8-9). -/
def State.startTie (s : State) (pages : List Nat) : State :=
  let ps := pages.filter (fun p => !s.twin.diverged.contains (pageUnit p))
  let old := s.twin.tie.getD ⟨[], [], []⟩
  let new := ps.filter (fun p => !old.pages.contains p)
  if new.isEmpty then s
  else
    let mine := new.map (fun p => (p, s.pagePasses p))
    let s := { s with twin.tie := some { old with pages := old.pages ++ new, mine := old.mine ++ mine } }
    (s.sendItem (plainItem 0x0C (verdictBody mine))).settleTie

/-! ### Assay (R184, R185) -/

/-- Compares the two values of an epoch once both are here. -/
def State.compareAssay (s : State) (q last : Nat) : State :=
  match s.twin.assayMine.find? (fun e => e.queue == q && e.last == last), s.twin.assayPeer.find? (fun p => p.1 == q && p.2.1 == last) with
  | some m, some p =>
    let s := { s with twin.assayPeer := s.twin.assayPeer.filter (fun x => x != p) }
    if m.count = p.2.2.1 ∧ m.mac = p.2.2.2 then s
    else ((s.bump R.TWIN_DIGEST_MISMATCH 1).raise Ev.TWIN_ASSAY_MISMATCH []).startTie m.pages
  | _, _ => s

end Sys2Proof.Machine
end

