-- ==== Sys2Proof/Machine/Dram.lean ====
section
/-! DEFINITION. DRAM channels: training, refresh and temperature, repair, uncorrectable errors, and a channel taken out (R242 to
R261). -/

namespace Sys2Proof.Machine

open Sys2Proof

/-! ### Training (R243, R244, R251, R252, R260) -/

/-- The data rates of Table 11-1 for a configuration. -/
def dramRates (type : Nat) (dpc2 : Bool) : List Nat :=
  if type = 2 then [8800, 12800] else if dpc2 then [4400, 4800, 5600] else [4800, 5600, 6400]

/-- The rate that DRAM_CTRL.SPEED_CAP allows. -/
def dramCap (code : Nat) : Nat := [4400, 4800, 5600, 6400, 8800, 12800].getD code 12800

/-- The population of a channel (R244). -/
def DramReport.population (r : DramReport) : Nat × Bool × Nat × Nat × Nat := (r.type, r.dpc2, r.gib, r.ranks, r.rowBits)

/-- The reference population: the most common one among the channels that passed, and among equals the larger. -/
def dramReference (rs : List DramReport) : Option DramReport :=
  let count (r : DramReport) : Nat := (rs.filter (fun x => DramReport.population x == DramReport.population r)).length
  rs.foldl (fun b r => match b with
    | none => some r
    | some x => if count x < count r ∨ (count x = count r ∧ x.gib < r.gib) then some r else some x) none

/-- A channel fails training: it is out with its cause and lane. -/
def State.dramFails (s : State) (r : DramReport) (cause : Nat) : State :=
  let s := (s.wrN R.DRAM_CH_STATUS_STATE r.channel 3).wrN R.DRAM_CH_STATUS_OUT_CAUSE r.channel cause
  let s := (s.wrN R.DRAM_CH_STATUS_LANE r.channel r.lane).raise Ev.DRAM_TRAINING_FAIL []
  let s := if cause = 6 then s.raise Ev.DRAM_POPULATION_MISMATCH [] else s
  s.raise Ev.DRAM_CHANNEL_OUT []

/-- A channel passes training. -/
def State.dramPasses (s : State) (r : DramReport) : State :=
  let s := (s.wrN R.DRAM_CH_STATUS_STATE r.channel 2).wrN R.DRAM_CH_STATUS_OUT_CAUSE r.channel 0
  let s := s.wrN R.DRAM_CH_STATUS_PPR_LEFT r.channel (min 15 r.spare)
  { s with dram.channels := AMap.set s.dram.channels r.channel ⟨false, false, s.now, false, r.spare, []⟩
           dram.order := insertNat r.channel s.dram.order }

/-- Hard repairs queued under R257, at step 6 of the channels that train. -/
def State.hardRepairs (s : State) : State :=
  let here (k : Nat) : Bool := s.dram.order.contains (k / 2 ^ 28)
  let now := s.dram.hppr.filter here
  let s := (now.foldl (fun s _ => s.raise Ev.DRAM_PPR_APPLIED []) s).bump R.DRAM_PPR now.length
  { s with dram.hppr := s.dram.hppr.filter (fun k => !here k) }

/-- The writable tier, the system reserve and a stage of 2 GiB fit (R260). -/
def State.dramFits (s : State) : Bool := decide (s.writableUnits + reserveUnits + 1024 ≤ s.dramUnits)

/-- A channel's outcome against the reference population. -/
def State.dramChannelEnds (ref : Option DramReport) (s : State) (r : DramReport) : State :=
  let same : Bool := match ref with | some x => DramReport.population x == DramReport.population r | none => false
  if r.cause != 0 then s.dramFails r r.cause else if same then s.dramPasses r else s.dramFails r 6

/-- What the DRAM unit holds of an earlier start is gone. -/
def State.dramFresh (s : State) : State :=
  { s with dram := { s.dram with channels := [], order := [], refreshed := [], rows := [], repairing := [], ueTimes := []
                                 grain := s.rd R.DRAM_INTERLEAVE_GRAIN } }

/-- The status registers of the population found, with the rate of R243. -/
def State.dramViews (s : State) (present passed : List DramReport) (x : DramReport) : State :=
  let n := s.dram.order.length
  let like := passed.filter (fun r => DramReport.population r == DramReport.population x)
  let slow := like.foldl (fun m r => min m r.rate) (dramCap (s.rd R.DRAM_CTRL_SPEED_CAP))
  let rates := dramRates x.type x.dpc2
  let mts := (rates.filter (fun v => decide (v ≤ slow))).foldl max (rates.headD 0)
  let s := ((s.wr R.DRAM_STATUS_IN_SERVICE n).wr R.DRAM_STATUS_POPULATED present.length).wr R.DRAM_STATUS_TYPE x.type
  let s := (s.flag R.DRAM_STATUS_DPC2 x.dpc2).wr R.DRAM_STATUS_MTS (if n = 0 then 0 else mts)
  ((s.wr R.DRAM_CAPACITY_ROW_BITS x.rowBits).wr R.DRAM_CAPACITY_RANKS x.ranks).wr R.DRAM_CAPACITY_TOTAL_GIB (n * x.gib)

/-- What training leaves: the answer says whether the H9 may serve (4 channels, and R260). Where no rate of Table 11-1 lies within the
cap and the modules' rates, the lowest one stands (assumption log 46). -/
def State.dramTrained (s : State) (rs : List DramReport) : Bool × State :=
  let present := rs.filter (fun r => decide (r.channel < 24) && r.type != 0)
  let passed := present.filter (fun r => r.cause == 0)
  let ref := dramReference passed
  let x := ref.getD ⟨0, 0, false, 0, 0, 0, 0, 0, 0, 0⟩
  let t : State := present.foldl (State.dramChannelEnds ref) s.dramFresh
  let u : State := { t with dram := { t.dram with gib := x.gib } }
  let s : State := (u.dramViews present passed x).hardRepairs
  if 4 ≤ s.dram.order.length ∧ s.dramFits then (true, s) else (false, s.raise Ev.DRAM_CAPACITY_SHORT [])

/-! ### A channel taken out (R259) -/

def State.dramChannel (s : State) (n : Nat) : Option DramChannel := AMap.get? s.dram.channels n
def State.setDramChannel (s : State) (n : Nat) (c : DramChannel) : State := { s with dram.channels := AMap.set s.dram.channels n c }

/-- Gather entries for a channel that is out, as far as they are accepted. -/
def State.mergeGather (s : State) : State :=
  let here := s.eng.gather.filter (fun g => s.runGone g.media g.data.length && Gather.accepted g)
  let s := here.foldl State.mergeEntry s
  { s with eng.gather := s.eng.gather.filter (fun g => !here.contains g) }

/-- Fills from a channel that is out never arrive: their ways are free again, and the writes merged into them go to the image. -/
def State.dropFills (s : State) : State :=
  (s.near.misses.filter (fun e => s.channelGone (e.2.line * 64))).foldl (fun s (e : Nat × Miss) =>
    let s := match s.localOf (e.2.line * 64) with
      | some a => e.2.merged.foldl (fun (s : State) (p : Nat × Byte) => s.mergeImage (a + p.1) [p.2] []) s
      | none => s
    let ways := match e.2.way with | some w => AMap.del s.near.ways w | none => s.near.ways
    ({ s with near.ways := ways, near.misses := AMap.del s.near.misses e.1 }.wakeLine e.2.line).nextFill e.1) s

/-- The channel holds data of the writable tier. -/
def State.holdsWritable (s : State) (n : Nat) : Bool :=
  s.prot.extents.any (fun e => !e.shelf && (s.dram.grain != 3 || (rangeFrom e.target (min e.len 24)).any (fun u =>
    s.channelOf (u * unit2M) == n)))

/-- Takes a DRAM channel out at run time: running accesses to it that are not resident end FAULT_INTERNAL, and the active yields where
a CURRENT standby can serve. -/
def State.dramOut (s : State) (n cause : Nat) : State :=
  if s.rdN R.DRAM_CH_STATUS_STATE n != 2 then s
  else
    let s := (s.wrN R.DRAM_CH_STATUS_STATE n 3).wrN R.DRAM_CH_STATUS_OUT_CAUSE n cause
    let left := s.rd R.DRAM_STATUS_IN_SERVICE - 1
    let s := (s.wr R.DRAM_STATUS_IN_SERVICE left).wr R.DRAM_CAPACITY_TOTAL_GIB (left * s.dram.gib)
    let s := s.paceViews.raise Ev.DRAM_CHANNEL_OUT []
    let gone := s.eng.ops.filter (fun o => o.status.isNone && !o.responded && !o.shelf && decide (1 ≤ o.req.opcode ∧ o.req.opcode ≤ 5)
      && !(o.req.opcode == 2 && o.arrived) && s.opUnreachable o)
    let s := gone.foldl (fun s o => s.endOp o.id St.FAULT_INTERNAL) s
    let s := s.mergeGather.dropFills
    let s := if s.holdsWritable n && s.isActive && s.standbyCurrent && !s.save.active then s.selfTestYield else s
    s.advanceAll

/-! ### Refresh and temperature (R253, R255) -/

/-- The refresh interval of a channel in ns. -/
def State.refreshInterval (s : State) (c : DramChannel) : Nat := (if c.hot then 1950 else 3900) * s.rd R.DRAM_REFRESH_TREFI_PCT / 100

/-- REFRESH_DUE of a bank (rank × 32 + bank) of a channel: a same-bank refresh is issued. -/
def execRefreshDue (ch bank : Nat) (s : State) : Host.Outcome State Fault Refusal :=
  .next <|
    let k := ch * 256 + bank % 256
    match s.dramChannel ch with
    | some c =>
      if s.coreOn && s.rdN R.DRAM_CH_STATUS_STATE ch == 2
          && decide ((AMap.get? s.dram.refreshed k).getD 0 + s.refreshInterval c ≤ s.now) then
        { s with dram.refreshed := AMap.set s.dram.refreshed k s.now }
      else s
    | none => s

/-- DRAM_SENSOR_READ of a channel: the hottest module sensor in °C, or no answer. -/
def execDramSensorRead (ch : Nat) (temp : Option Nat) (s : State) : Host.Outcome State Fault Refusal :=
  .next <|
    match s.dramChannel ch with
    | none => s
    | some c =>
      if !s.coreOn || s.rdN R.DRAM_CH_STATUS_STATE ch != 2 then s
      else match temp with
      | none =>
        if c.answered + ms 100 ≤ s.now ∧ !c.silent then
          (s.setDramChannel ch { c with hot := true, silent := true }).raise Ev.DRAM_THERMAL []
        else s
      | some t =>
        let limit := s.rd R.DRAM_REFRESH_THROTTLE_C
        let throttled := decide (limit ≤ t) || (c.throttled && decide (limit < t + 3))
        let s := s.wrN R.DRAM_CH_STATUS_TEMP_C ch (min 255 t)
        let s := s.setDramChannel ch { c with hot := decide (85 < t), throttled, answered := s.now, silent := false }
        let s := if throttled && !c.throttled then s.raise Ev.DRAM_THERMAL [] else s
        if 105 ≤ t then s.dramOut ch 9 else s

/-- CA_PARITY_ERROR of a command on a channel, with the number of retries that failed (R259). -/
def execCaParityError (ch retries : Nat) (s : State) : Host.Outcome State Fault Refusal :=
  .next (if s.coreOn && decide (3 ≤ retries) then s.dramOut ch 8 else s)

/-! ### Soft repair (R257) -/

/-- The bank group of a row key, by rank. -/
def groupOf (k : Nat) : Nat := k / 2 ^ 20 % 256 / 4

/-- Starts a soft repair of a row, where its bank group has a spare row left. -/
def State.startRepair (s : State) (k : Nat) : State :=
  let ch := k / 2 ^ 28
  match s.dramChannel ch with
  | none => s
  | some c =>
    let used := (AMap.get? c.used (groupOf k)).getD 0
    if s.dram.repairing.contains k then s
    else if c.spare ≤ used then s.raise Ev.DRAM_PPR_EXHAUSTED []
    else
      let c := { c with used := AMap.set c.used (groupOf k) (used + 1) }
      let least := c.spare - (c.used.map (·.2)).foldl max 0
      let s := (s.setDramChannel ch c).wrN R.DRAM_CH_STATUS_PPR_LEFT ch (min 15 least)
      { s with dram.repairing := s.dram.repairing ++ [k] }

/-- A row has reached CE_PPR_LIMIT. -/
def State.rowWorn (s : State) (k : Nat) : State :=
  if s.on R.DRAM_CTRL_SPPR_EN && !s.dram.hppr.contains k && !s.save.active then s.startRepair k else s

/-- One correctable error at a media address (R257). -/
def State.dramCe (s : State) (a : Nat) : State :=
  let k := s.rowKeyOf a
  let s := (s.bump R.DRAM_CE 1).bumpSat R.DRAM_CH_CE_COUNT (s.channelOf a) 1
  let ts := ((AMap.get? s.dram.rows k).getD []).filter (fun t => decide (s.now ≤ t + sec 86400)) ++ [s.now]
  if s.rd R.DRAM_CTRL_CE_PPR_LIMIT ≤ ts.length then { s with dram.rows := AMap.del s.dram.rows k }.rowWorn k
  else { s with dram.rows := AMap.set s.dram.rows k ts }

/-- SPPR_COMPLETE of a row: its data are written back, and the bank's accesses resume. -/
def execSpprComplete (ch rank bank row : Nat) (s : State) : Host.Outcome State Fault Refusal :=
  .next <|
    let k := rowKey ch rank bank row
    if s.coreOn && s.dram.repairing.contains k then
      let s := { s with dram.repairing := s.dram.repairing.filter (· != k)
                        dram.hppr := if s.on R.DRAM_CTRL_HPPR_EN then s.dram.hppr ++ [k] else s.dram.hppr }
      ((s.bump R.DRAM_PPR 1).raise Ev.DRAM_PPR_APPLIED []).advanceAll
    else s

/-! ### Uncorrectable errors (R258, R293, R294) -/

/-- The mark of R258 on a chunk in DRAM, counted and raised as new poison (R293). -/
def State.poisonDram (s : State) (l : Nat) : State :=
  if AMap.has s.mem.dramPoison l then s
  else
    let s := { s with mem.dramPoison := AMap.set s.mem.dramPoison l 1 }.bump R.INTEG_POISON_CREATED 1
    s.raise Ev.INTEGRITY_POISON_CREATED [(8, l * 64), (1, 1)]

/-- Whether the chunk belongs to a clean page of the writable tier or to a staged tile: R294 repairs it. -/
def State.repairable (s : State) (l : Nat) : Bool :=
  let tile := s.shelf.tiles.any (fun t => t.units.contains (l * 64 / unit64K))
  tile || ((s.localOf (l * 64)).isSome && !AMap.has s.dur.dirty (l / 64))

/-- DRAM_UE_LOG and the 16-entry log. -/
def State.logUe (s : State) (a : Nat) : State :=
  let c := s.channelAddr a
  let s := (s.wr R.DRAM_UE_LOG_ADDR_ADDRESS a).wr R.DRAM_UE_LOG_TIME_TAI_NS s.time.tai
  let s := ((s.wr R.DRAM_UE_LOG_LOC_CHANNEL (s.channelOf a)).wr R.DRAM_UE_LOG_LOC_RANK (s.rankOf c)).wr R.DRAM_UE_LOG_LOC_BANK (bankOf c)
  let s := ((s.wr R.DRAM_UE_LOG_LOC_ROW (s.rowOf c)).wr R.DRAM_UE_LOG_LOC_SUBCH (c / 64 % 2)).wr R.DRAM_UE_LOG_LOC_VALID 1
  let loc := s.channelOf a * 2 ^ 27 + s.rankOf c * 2 ^ 24 + bankOf c * 2 ^ 19 + s.rowOf c % 2 ^ 17 * 4 + c / 64 % 2 * 2 + 1
  let log := s.dram.log ++ [(⟨a, loc, s.time.tai⟩ : DramError)]
  { s with dram.log := log.drop (log.length - 16) }

/-- One uncorrectable error at a media address. -/
def State.dramUe (s : State) (a : Nat) : State :=
  let l := a / 64
  let ch := s.channelOf a
  let s := (s.poisonDram l).logUe (l * 64)
  let s := (s.bump R.DRAM_UE 1).raise Ev.DRAM_UE []
  let s := if s.repairable l && !s.save.active && !s.integ.fixing.contains l then { s with integ.fixing := s.integ.fixing ++ [l] } else s
  let ts := ((AMap.get? s.dram.ueTimes ch).getD []).filter (fun t => decide (s.now ≤ t + sec 1)) ++ [s.now]
  let s := { s with dram.ueTimes := AMap.set s.dram.ueTimes ch ts }.rowWorn (s.rowKeyOf a)
  if s.rd R.DRAM_CTRL_UE_OUT_LIMIT < ts.length then s.dramOut ch 7 else s

/-! ### Fills and their age (R206, R208, R256) -/

/-- An aged request of the same channel issues before this one. -/
def State.behindAged (s : State) (m : Miss) : Bool :=
  !m.aged && s.near.misses.any (fun e => e.2.aged && s.channelOf (e.2.line * 64) == s.channelOf (m.line * 64))

/-- NEAR_FILL_COMPLETE of a bank: while a save runs no fill issues (R256); `ue` says that the read met an uncorrectable error (R208, R258). -/
def execNearFillComplete (bank : Nat) (ue : Bool) (s : State) : Host.Outcome State Fault Refusal :=
  .next <|
    match AMap.get? s.near.misses bank with
    | none => s
    | some m =>
      if !s.coreOn || s.save.active || s.bankBusy (m.line * 64) || s.channelGone (m.line * 64) || s.behindAged m then s
      else
        let s := if ue then s.dramUe (m.line * 64) else s
        (((s.installFill bank false).nextFill bank).advanceAll).nearViews

/-- DRAM_REQUEST_AGED of the request in a bank's miss register (R256). -/
def execDramRequestAged (bank : Nat) (s : State) : Host.Outcome State Fault Refusal :=
  .next <|
    match AMap.get? s.near.misses bank with
    | none => s
    | some m =>
      if s.coreOn && decide (m.since + us (s.rd R.DRAM_AGE_AGE_US) ≤ s.now) then
        { s with near.misses := AMap.set s.near.misses bank { m with aged := true } }
      else s

end Sys2Proof.Machine
end

