-- ==== Sys2Proof/Machine/SaveOps.lean ====
section
/-! DEFINITION. Starting a save: the one operation every trigger of Table 7-4 goes through, and the change of power state. -/

namespace Sys2Proof.Machine

open Sys2Proof

/-- Enters a power state of Table 18-6; each change raises POWER.STATE_CHANGE (R390). -/
def State.setPower (s : State) (p : Nat) : State :=
  if s.rd R.LIFE_STATE_POWER = p then s
  else (s.wr R.LIFE_STATE_POWER p).raiseKeeper Ev.POWER_STATE_CHANGE [(1, p)]

/-- Ends a hold-up test that discharges, with a LAST_RESULT code: the load is removed, HOLDUP_TEST_FAIL is raised, the bank
recharges, and the test is retried after 10 min (R146, R410, R416). -/
def State.abortHoldupTest (s : State) (result : Nat) : State :=
  if s.rd R.KEEPER_HOLDUP_STATUS_TEST_STATE = 2 then
    let s := (s.wr R.KEEPER_HOLDUP_STATUS_TEST_STATE 3).wr R.KEEPER_HOLDUP_STATUS_LAST_RESULT result
    let s := { s with keeper.outputs := AMap.set s.keeper.outputs 0x14 false
                      keeper.holdup.retryAt := some (s.now + sec 600), keeper.testEnd := none }
    s.raise Ev.DURABILITY_HOLDUP_TEST_FAIL []
  else s

/-- The stronger of two actions after a save: OFF, then restart, then P3 KEEP (Table 7-6). -/
def SaveAction.max : SaveAction → SaveAction → SaveAction
  | .shutdown, _ => .shutdown
  | _, .shutdown => .shutdown
  | .restart, _ => .restart
  | _, .restart => .restart
  | .keep, .keep => .keep

/-- The SAVE_SEQ that a save starting now will write. -/
def State.nextSaveSeq (s : State) : Nat := (s.rd R.DUR_SAVE_SEQ_VALUE + 1) % 2 ^ 32

/-- A change that is triggered while a save runs is carried along: a life-cycle change is applied after step 9, a debug change when the
Quench that follows ends, so one of each can wait (R157). -/
def State.mergeChange (s : State) : Option Change → State
  | none => s
  | some c => match s.save.change with
    | some d =>
      if c.debug == d.debug then { s with save.change := some c }
      else if c.debug then { s with keeper.deferred := some c }
      else { s with save.change := some c, keeper.deferred := some d }
    | none => { s with save.change := some c }

/-- What the start of a save does to the pair: a yield that has not sent HANDOVER goes on as one of cause 4, a HANDOVER that waits is not
answered any more, a standby's copy turns STALE, and STATUS carries the step (R169, R197, R198). -/
def State.saveTwin (s : State) : State :=
  let f := fun y : Yield => if y.step = 2 then ({ y with cause := 4 } : Yield) else y
  let s := { s with twin.yield := s.twin.yield.map f, twin.handover := none }
  (if s.paired && !s.twin.holder then s.showSync 1 else s).sendStatus

/-- A save trigger (R151, R152). While a save runs it is only merged: the strongest action wins, and a change is carried along
(R157). Otherwise step 1 begins: the trigger is latched, SAVE is entered, admission stops, a hold-up test is dropped, and
SAVE_START goes to the keeper's log with the command's TAG, if any (R428, R480). -/
def State.startSave (s : State) (trigger : Nat) (action : SaveAction) (tag : Option Nat) (change : Option Change)
    (activate : Option Nat) : State :=
  if !s.coreOn then s
  else if s.save.active then
    { s with save.action := s.save.action.max action
             save.onBank := s.save.onBank || trigger == 1
             save.activate := match activate with | some a => some a | none => s.save.activate }.mergeChange change
  else
    let s := s.abortHoldupTest 3
    let s := { s with save := { active := true, step := 1, trigger, action, startedAt := s.now,
                                onBank := trigger == 1 || trigger == 7, change, activate, intent := [],
                                intentWritten := false, lastStep := 0, incomplete := false,
                                bankMv := s.rd R.DUR_BANK_V_VBANK_MV, records := [] },
                      pace.held := some (s.rd R.PACE_CTRL_VMAX_MV, s.rd R.PACE_CTRL_MARGIN_PCT, s.rd R.PACE_CTRL_PACED_PCT, s.portRate) }
    let s := (s.wr R.DUR_STATUS_SAVE_STEP 1).wr R.KEEPER_STATUS_SEQ_STATE 3
    let s := s.setPower 4
    let d := match tag with | some t => detailTag [(1, trigger)] t | none => detailOf [(1, trigger)]
    ((s.keeperLog Ev.DURABILITY_SAVE_START (severityOf Ev.DURABILITY_SAVE_START) d true).occur
      Ev.DURABILITY_SAVE_START d false false tag.isSome).saveTwin

end Sys2Proof.Machine
end

