-- ==== Sys2Proof/Machine/Budget.lean ====
section
/-! DEFINITION. The dirty budget: its inputs as they are measured, its recomputation, and the events it raises (R140 to R150).
Energies are held in mJ, powers in 0.1 W, voltages in µV (assumption log 42). -/

namespace Sys2Proof.Machine

open Sys2Proof

/-! ### Flash program rate (R142) -/

/-- A multi-plane program's payload (R267). -/
def programBytes : Nat := 184320

/-- Dies of a channel that are in service. -/
def State.diesInService (s : State) (ch : Nat) : List Nat :=
  if s.rdN R.FLASH_CH_STATUS_STATE ch = 2 then
    (rangeFrom 0 s.flash.perChannel).filter (fun d => !(s.rdN R.FLASH_CH_STATUS_DIES_OUT ch).testBit d)
  else []

/-- The mean program time of a die, in µs; none until it has one. -/
def State.dieMean (s : State) (ch d : Nat) : Option Nat := AMap.get? s.dur.dieMeans (ch * 16 + d)

/-- The payload transfer rate of a channel in bytes per second (R265). -/
def State.channelRate (s : State) : Nat := 2 * s.rd R.FLASH_STATUS_MTS * 1000000 * 4096 / 4648

/-- A channel's share of B_program. A die that has no mean yet adds nothing (assumption log 43). -/
def State.channelProgram (s : State) (ch : Nat) : Nat :=
  min s.channelRate (((s.diesInService ch).map (fun d => match s.dieMean ch d with
    | some m => if m = 0 then 0 else programBytes * 1000000 / m
    | none => 0)).sum)

/-- B_program; held at 0 once flash is worn out (R281). -/
def State.bProgram (s : State) : Nat :=
  if s.flash.wornOut then 0 else ((rangeFrom 0 32).map s.channelProgram).sum

/-! ### Energy (R141, R143) -/

/-- P_save in units of 0.1 W. -/
def State.pSave (s : State) : Nat :=
  let flash := ((rangeFrom 0 32).filter (fun n => s.rdN R.FLASH_CH_STATUS_STATE n != 0)).length
  max (10 * s.rd R.DUR_P_P_MEAS_W) (950 + 25 * s.rd R.DRAM_STATUS_POPULATED + 18 * flash + 10 * s.rd R.DUR_HOLDUP_BOARD_W)

/-- C in mF as the budget takes it: 0 where no test has been valid for 2 × INTERVAL_H (Table 7-2), or the test load is stuck on. -/
def State.bankC (s : State) : Nat :=
  if s.keeper.holdup.stopped then 0
  else match s.keeper.holdup.lastValid with
  | some t => if s.now < t + 2 * s.rd R.DUR_TEST_INTERVAL_H * sec 3600 then s.rd R.DUR_BANK_C_MF else 0
  | none => 0

/-- ESR in 10 µΩ as the budget takes it: the larger of the last test's and the tracked one (R411); that of the last valid test × 1.5
while tracking is unavailable (Table 7-2). -/
def State.bankEsr (s : State) : Nat :=
  if s.on R.KEEPER_HOLDUP_STATUS_TRACK_OK then max s.keeper.holdup.esr (s.rd R.KEEPER_HOLDUP_STATUS_TRACK_ESR_10UOHM)
  else ceilDiv (s.keeper.holdup.esr * 3) 2

/-- V_bank in µV; 0 while its sense input is open or reversed (Table 7-2). -/
def State.bankV (s : State) : Nat := if s.dur.senseLost then 0 else 1000 * s.rd R.DUR_BANK_V_VBANK_MV

/-- V_floor in µV, rounded up (R141). -/
def State.floorV (s : State) : Nat :=
  let vd := s.rd R.DUR_HOLDUP_VCUT_DV
  100000 * vd + ceilDiv (s.bankEsr * s.pSave * 1000) (max 1 (s.rd R.DUR_HOLDUP_EFF_PCT * vd))

/-- E_usable in mJ (R141). -/
def State.eUsable (s : State) : Nat :=
  if s.bankV ≤ s.floorV then 0
  else s.rd R.DUR_HOLDUP_EFF_PCT * s.bankC * (s.bankV * s.bankV - s.floorV * s.floorV) / (2 * 10 ^ 14)

/-- E_reserve in mJ. -/
def State.eReserve (s : State) : Nat := max 160000 (40 * s.pSave)

/-- The budget of R140 in GiB for an E_usable in mJ. -/
def State.budgetFor (s : State) (e : Nat) : Nat :=
  if e ≤ s.eReserve then 0
  else min (s.rd R.DUR_CTRL_CEILING_GIB)
    (s.rd R.DUR_CTRL_DERATE_PCT * s.bProgram * (e - s.eReserve) / (10000 * max 1 s.pSave) / gib)

/-! ### Recomputation (R144, R150) -/

/-- Fewer than half the populated dies are in service (Table 7-2). -/
def State.fewDies (s : State) : Bool :=
  let channels := (rangeFrom 0 32).filter (fun n => s.rdN R.FLASH_CH_STATUS_STATE n != 0)
  decide (2 * (channels.map (fun n => (s.diesInService n).length)).sum < channels.length * s.flash.perChannel)

/-- DUR_STATUS.INPUT_STALE: a condition of Table 7-2 stands. A test without a valid result stands until the next valid one. -/
def State.inputStale (s : State) : Bool :=
  s.keeper.holdup.retryAt.isSome || decide (2 ≤ s.rd R.KEEPER_HOLDUP_STATUS_LAST_RESULT) || s.bankC == 0
    || !s.on R.KEEPER_HOLDUP_STATUS_TRACK_OK || s.dur.senseLost || decide (s.eUsable ≤ s.eReserve) || s.fewDies

/-- How far an input has moved, in parts per million of what it was. -/
def movedBy (old new : Nat) : Nat := ((new - old) + (old - new)) * 1000000 / max 1 old

/-- The input that moved most: 0 E_usable, 1 B_program, 2 P_save (assumption log 44). -/
def State.movedMost (s : State) : Nat :=
  let (e, b, p) := s.dur.prevInputs
  let de := movedBy e s.eUsable
  let db := movedBy b s.bProgram
  let dp := movedBy p s.pSave
  if db ≤ de ∧ dp ≤ de then 0 else if dp ≤ db then 1 else 2

/-- Shows the inputs in the DUR block. -/
def State.budgetViews (s : State) : State :=
  let s := (s.wr R.DUR_E_E_USABLE_J (s.eUsable / 1000)).wr R.DUR_E_E_RESERVE_J (ceilDiv s.eReserve 1000)
  let s := (s.wr R.DUR_P_P_SAVE_W (ceilDiv s.pSave 10)).wr R.DUR_B_B_PROGRAM (s.bProgram / 100000000)
  s.wr R.DUR_BANK_ESR_10UOHM s.bankEsr

/-- The events of a recomputation, with the budget, the peak and the input that moved most. -/
def State.budgetEvents (s : State) (old new input : Nat) : State :=
  let peak := s.rd R.DUR_PEAK_PAGES
  let vs := [(2, new), (2, ceilDiv (peak * page4K) gib), (1, input)]
  let s := if new < old then s.raise Ev.DURABILITY_BUDGET_SHRINK vs else s
  let s := if new < s.rd R.DUR_LOW_LOW_GIB || decide (s.eUsable ≤ s.eReserve) then s.raise Ev.DURABILITY_BUDGET_LOW vs else s
  if peak != 0 && decide (s.stageAt 2 * new * gib ≤ 100 * (peak * page4K)) then s.raise Ev.DURABILITY_HEADROOM_LOW vs else s

/-- One recomputation; none from save step 1 until the next start. The full budget governs again after it, unless a test still
runs (R145). -/
def State.recomputeBudget (s : State) : State :=
  if s.save.active then s
  else
    let old := s.rd R.DUR_BUDGET_BUDGET_GIB
    let input := s.movedMost
    let new := s.budgetFor s.eUsable
    let s := s.budgetViews.wr R.DUR_BUDGET_BUDGET_GIB new
    let s := s.budgetEvents old new input
    { s with dur.prevInputs := (s.eUsable, s.bProgram, s.pSave), dur.nextBudget := s.now + sec 10 }.compareD

/-- V_bank as the keeper reads it: 0 where the divider is not set (Table 19-6), and an input that reads 0 V is open or shorted (R412, Table
7-2). -/
def State.readBank (s : State) (mv : Nat) : State :=
  let lost := mv % 2 ^ 16 == 0
  let s := if lost && !s.dur.senseLost then s.raise Ev.DURABILITY_HOLDUP_STALE [] else s
  { s.wr R.DUR_BANK_V_VBANK_MV (if s.rd R.KEEPER_SENSE_DIV_HOLDUP_DIV16 = 0 then 0 else mv % 2 ^ 16) with dur.senseLost := lost }

/-- BUDGET_RECOMPUTATION: every 10 s, with V_bank as the keeper reads it then (R144). -/
def execBudgetRecomputation (mv : Nat) (s : State) : Host.Outcome State Fault Refusal :=
  .next (if s.coreOn && s.start.tablesDone && !s.save.active && decide (s.dur.nextBudget ≤ s.now) then
    (s.readBank mv).recomputeBudget else s)

/-- STAGE_FALL_TIMER: d has stayed 2 points below the stage's threshold for 1 ms, and the stage falls to the highest one whose
threshold it has not stayed below (R147, R149). -/
def State.fallTo (s : State) : Nat → Nat
  | 0 => 0
  | k + 1 =>
    let settled := !s.on R.DUR_STATUS_OVER_BUDGET && match AMap.get? s.dur.below (k + 1) with
      | some t => decide (t + ms 1 ≤ s.now)
      | none => false
    if settled then s.fallTo k else k + 1

@[inherit_doc State.fallTo] def execStageFallTimer (s : State) : Host.Outcome State Fault Refusal :=
  .next (if s.coreOn && !s.save.active then s.setStage (s.fallTo s.stage) else s)

/-- DIRTY_MAP_CLEAR of a 2 MiB unit whose pages have all been clean for 10 s (R503). -/
def execDirtyMapClear (unit : Nat) (s : State) : Host.Outcome State Fault Refusal :=
  .next <|
    match AMap.get? s.dur.map unit with
    | some ⟨some t⟩ => if s.coreOn && decide (t + sec 10 ≤ s.now) then { s with dur.map := AMap.del s.dur.map unit } else s
    | _ => s

end Sys2Proof.Machine
end

