-- ==== Sys2Proof/Machine/Flash.lean ====
section
/-! DEFINITION. Flash media: capacity and pools, reads and their decode steps, programs, erases, dies and channels out, reclaim,
Planish, Anneal and the journal (R263 to R282). -/

namespace Sys2Proof.Machine

open Sys2Proof

/-! ### Pools (R269, R270) -/

/-- The floor of the erased pool in bytes of payload. -/
def erasedFloor : Nat := 272 * gib

/-- Payload of one block. -/
def State.blockBytes (s : State) : Nat := s.flash.dieGib * gib * 15 / 16 / max 1 s.flash.blocksPerDie

/-- The reserve floor: 272 GiB + 3 % of U. -/
def State.reserveFloor (s : State) : Nat := erasedFloor + 3 * s.rd R.FLASH_USER_GIB * gib / 100

/-- Bytes of the shelf area that objects hold (Table 12-2, R240). -/
def State.shelfHeld (s : State) : Nat := (s.shelf.objects.map (fun e => Object.mapped e.2)).sum

/-- The size of the shelf area: U − system − image. -/
def State.shelfArea (s : State) : Nat := (s.rd R.FLASH_USER_GIB - 1024 - s.rd R.FLASH_IMAGE_GIB) * gib

/-- Refreshes the pool and wear views of the FLASH block. -/
def State.flashViews (s : State) : State :=
  let s := (s.wr R.FLASH_ERASED_GIB (s.flash.erased / gib)).wr R.FLASH_RESERVE_GIB (s.flash.reserve / gib)
  let s := s.wr R.FLASH_SPARES_PCT (100 * s.flash.spares / max 1 s.flash.sparesAtFirst)
  let dies := ((rangeFrom 0 32).map (fun n => (s.diesInService n).length)).sum
  let counts := s.flash.blocks.map (fun e => e.2.erases)
  let mean := counts.sum / max 1 (dies * s.flash.blocksPerDie)
  let s := (s.wr R.FLASH_WEAR_MEAN_PE mean).wr R.FLASH_WEAR_MAX_PE (counts.foldl max 0)
  let s := s.wr R.FLASH_STATUS_DIES dies
  let s := s.wr R.FLASH_STATUS_IN_SERVICE ((rangeFrom 0 32).filter (fun n => s.rdN R.FLASH_CH_STATUS_STATE n == 2)).length
  s.wr R.FLASH_SHELF_FREE_GIB ((s.shelfArea - s.shelfHeld) / gib)

/-- A program of `n` bytes would draw the erased pool below its floor; only a save may (R270). -/
def State.floorBars (s : State) (n : Nat) : Bool := !s.save.active && decide (s.flash.erased < erasedFloor + n)

/-- A program waits for an erase at the floor (R270). -/
def State.waitForErase (s : State) : State :=
  { s with flash.waiting := true }.raise Ev.FLASH_ERASED_LOW []

/-- The log reserve has come down to its floor: worn out (R281). -/
def State.checkWorn (s : State) : State :=
  if !s.flash.wornOut && decide (s.flash.reserve ≤ s.reserveFloor) then
    (({ s with flash.wornOut := true }.wr R.FLASH_STATUS_STATE 3).raise Ev.FLASH_WORN_OUT []).recomputeBudget
  else s

/-- The number under which a block is held. -/
def FlashBlock.key (b : FlashBlock) : Nat := (b.channel * 16 + b.die) * 1048576 + b.block

def State.blockState (s : State) (b : FlashBlock) : BlockState := (AMap.get? s.flash.blocks (FlashBlock.key b)).getD ⟨0, false, false, 0⟩
def State.setBlock (s : State) (b : FlashBlock) (x : BlockState) : State :=
  { s with flash.blocks := AMap.set s.flash.blocks (FlashBlock.key b) x }

/-- A die that serves. -/
def State.dieServes (s : State) (b : FlashBlock) : Bool := (s.diesInService b.channel).contains b.die

/-- Retires a block: its replacement comes from the spare pool, then from the log reserve (R273, R281). -/
def State.retireBlock (s : State) (b : FlashBlock) : State :=
  let s := (s.setBlock b { s.blockState b with retired := true, eraseOpen := false }).bump R.FLASH_RETIRED_BLOCKS 1
  let s := s.raise Ev.FLASH_BLOCK_RETIRED []
  if 0 < s.flash.spares then
    let s := { s with flash.spares := s.flash.spares - 1 }
    let s := if !s.flash.lowSpares && decide (4 * s.flash.spares < s.flash.sparesAtFirst) then
        { s with flash.lowSpares := true }.raise Ev.FLASH_SPARES_LOW []
      else s
    s.flashViews
  else
    (({ s with flash.reserve := s.flash.reserve - s.blockBytes }.raise Ev.FLASH_SPARES_EXHAUSTED []).checkWorn).flashViews

/-! ### Parity groups (R267) -/

/-- Cuts a list into whole groups of 16; `fuel` bounds their number. -/
def groupsOf16 : Nat → List Nat → List (List Nat)
  | 0, _ => []
  | fuel + 1, l => if l.length < 16 then [] else l.take 16 :: groupsOf16 fuel (l.drop 16)

/-- Forms the parity groups at start: die 0 of every channel in service, then die 1 of the same channels, and so on, in groups of 16; the dies
left over are hot spares. Dies are numbered channel × 16 + die. -/
def State.formGroups (s : State) : State :=
  let chs := (rangeFrom 0 32).filter (fun n => s.rdN R.FLASH_CH_STATUS_STATE n == 2)
  let dies := ((rangeFrom 0 s.flash.perChannel).map (fun d => chs.map (fun c => c * 16 + d))).flatten
  { s with flash := { s.flash with groups := groupsOf16 (dies.length / 16) dies, spareDies := dies.drop (dies.length / 16 * 16) } }

/-- The die that holds the parity of a stripe of a group. -/
def parityDie (group : List Nat) (stripe : Nat) : Option Nat := group[stripe % 16]?

/-- A die that is lost leaves its group to a hot spare, or the group runs its new stripes with one member less (R280). -/
def State.loseDie (s : State) (k : Nat) : State :=
  if s.flash.groups.any (fun g => g.contains k) then
    match s.flash.spareDies with
    | x :: r => { s with flash := { s.flash with groups := s.flash.groups.map (fun g => g.map (fun d => if d = k then x else d)), spareDies := r } }
    | [] => { s with flash := { s.flash with groups := s.flash.groups.map (fun g => g.filter (· != k)) } }
  else { s with flash := { s.flash with spareDies := s.flash.spareDies.filter (· != k) } }

/-! ### Dies and channels out (R280) -/

/-- The user data of one die, in GiB: what a rebuild of it has to make anew (assumption log 45). -/
def State.dieShare (s : State) : Nat := s.flash.dieGib * 15 / 20

/-- More data to rebuild from parity. -/
def State.startRebuild (s : State) (dies : Nat) : State :=
  let s := s.wr R.FLASH_REBUILD_LEFT_GIB (s.rd R.FLASH_REBUILD_LEFT_GIB + dies * s.dieShare)
  if s.flash.wornOut then s else s.wr R.FLASH_STATUS_STATE 2

/-- Takes a flash channel out (R280). -/
def State.flashChannelOut (s : State) (ch cause : Nat) : State :=
  if s.rdN R.FLASH_CH_STATUS_STATE ch != 2 then s
  else
    let dies := s.diesInService ch
    let s := (s.wrN R.FLASH_CH_STATUS_STATE ch 3).wrN R.FLASH_CH_STATUS_OUT_CAUSE ch cause
    let s := (dies.foldl (fun s d => s.loseDie (ch * 16 + d)) s).raise Ev.FLASH_CHANNEL_OUT []
    ((s.startRebuild dies.length).flashViews).recomputeBudget

/-- Takes a die out (R280): its channel follows when more than 4 of its dies are out. -/
def State.dieOut (s : State) (ch d : Nat) : State :=
  if !(s.diesInService ch).contains d then s
  else
    let bits := s.rdN R.FLASH_CH_STATUS_DIES_OUT ch + 2 ^ d
    let s := (s.wrN R.FLASH_CH_STATUS_DIES_OUT ch bits).raise Ev.FLASH_DIE_OUT []
    let s := (s.loseDie (ch * 16 + d)).startRebuild 1
    let out := ((rangeFrom 0 16).filter (fun i => bits.testBit i)).length
    if 4 < out then s.flashChannelOut ch 7 else s.flashViews.recomputeBudget

/-- A program or erase failure of a die: the third within 1 h takes it out (R280). -/
def State.dieFailure (s : State) (b : FlashBlock) : State :=
  let k := b.channel * 16 + b.die
  let x := (AMap.get? s.flash.dies k).getD ⟨[], [], 0⟩
  let fs := x.failures.filter (fun t => decide (s.now ≤ t + sec 3600)) ++ [s.now]
  let s := { s with flash.dies := AMap.set s.flash.dies k { x with failures := fs } }
  if 3 ≤ fs.length then s.dieOut b.channel b.die else s

/-- DIE_COMMAND_TIMEOUT: a die has not answered for 50 ms; `bus` says that its whole bus does not respond (R280). -/
def execDieCommandTimeout (ch die : Nat) (bus : Bool) (s : State) : Host.Outcome State Fault Refusal :=
  .next (if !s.coreOn then s else if bus then s.flashChannelOut ch 8 else s.dieOut ch die)

/-- FLASH_REBUILD_COMPLETE (R280): a rebuild pauses while a save runs. -/
def execFlashRebuildComplete (s : State) : Host.Outcome State Fault Refusal :=
  .next <|
    if s.coreOn && !s.save.active && decide (0 < s.rd R.FLASH_REBUILD_LEFT_GIB) then
      let s := s.wr R.FLASH_REBUILD_LEFT_GIB 0
      (if s.flash.wornOut then s else s.wr R.FLASH_STATUS_STATE 1).raise Ev.FLASH_REBUILD_DONE []
    else s

/-! ### Reads (R271) -/

/-- The die that a read of a page goes to, where its codeword's block is known and the die is erasing: from ERASE_OPEN to ERASE_DONE
(R272, assumption log 198). -/
def State.erasingDie (s : State) (page : FlashPage) : Option Nat :=
  match (AMap.get? s.flash.codewords (FlashPage.address page)).bind (·.place) with
  | some b => if s.flash.blocks.any (fun e => e.2.eraseOpen && e.1 / 1048576 == b / 1048576) then some (b / 1048576) else none
  | none => none

/-- How often the erase of a die has been suspended. -/
def State.suspensions (s : State) (k : Nat) : Nat := ((AMap.get? s.flash.dies k).map (·.suspended)).getD 0

/-- A read meets a die that is erasing: it suspends the erase, which runs on after it. The fifth read of one erase waits for its end (R272). -/
def State.readWaits (s : State) (page : FlashPage) : Bool := match s.erasingDie page with
  | some k => decide (4 ≤ s.suspensions k)
  | none => false
@[inherit_doc State.readWaits] def State.suspendErase (s : State) (page : FlashPage) : State := match s.erasingDie page with
  | some k =>
    let x := (AMap.get? s.flash.dies k).getD ⟨[], [], 0⟩
    { s with flash.dies := AMap.set s.flash.dies k { x with suspended := x.suspended + 1 } }
  | none => s

/-- The erase of a die ends: the next one has its own suspensions. -/
def State.eraseEnds (s : State) (k : Nat) : State :=
  { s with flash.dies := AMap.upd s.flash.dies k (fun x : FlashDie => ({ x with suspended := 0 } : FlashDie)) }

/-- FLASH_READ_COMPLETE: the step of Table 12-3 at which a codeword decoded; 5 is none. A shelf codeword on which LDPC failed waits
for the recovery of R236, an image codeword at step 5 for the data path's decision. -/
def execFlashReadComplete (page : FlashPage) (step : Nat) (s : State) : Host.Outcome State Fault Refusal :=
  .next <|
    if !s.coreOn || s.readWaits page then s
    else
      let s := s.suspendErase page
      let shelf := match page with | .shelf _ _ _ => true | _ => false
      let isLost := decide (5 ≤ step) || (shelf && step == 4)
      let lost := s.flash.lost.filter (· != page) ++ (if isLost then [page] else [])
      let s := { s with flash.lost := lost }
      let s := if step = 3 then s.bump R.FLASH_SOFT_DECODES 1
        else if step = 4 then s.bump R.FLASH_PARITY_REBUILDS 1
        else if 5 ≤ step then (s.bump R.FLASH_UNCORRECTABLE 1).raise Ev.FLASH_UNCORRECTABLE []
        else s
      if step = 3 ∨ step = 4 then
        { s with flash.relocate := s.flash.relocate.filter (fun e => e.1 != page) ++ [(page, s.now + sec 10)] }
      else s

/-! ### Programs (R273, R142) -/

/-- One more program time of a die: its mean over the last 10 s, and its channel's (R142). -/
def State.programTime (s : State) (b : FlashBlock) (micros : Nat) : State :=
  let k := b.channel * 16 + b.die
  let x := (AMap.get? s.flash.dies k).getD ⟨[], [], 0⟩
  let ps := x.programs.filter (fun p => decide (s.now ≤ p.1 + sec 10)) ++ [(s.now, micros)]
  let s := { s with flash.dies := AMap.set s.flash.dies k { x with programs := ps } }
  let s := if 8 ≤ ps.length then { s with dur.dieMeans := AMap.set s.dur.dieMeans k ((ps.map (·.2)).sum / ps.length) } else s
  let ms := (rangeFrom 0 16).filterMap (s.dieMean b.channel)
  s.wrN R.FLASH_CH_PROG_TPROG_US b.channel (ms.sum / max 1 ms.length)

/-- A page of DRAM becomes clean (R138); the running dirty map notes when all pages of its unit are (R503). -/
def State.cleanPage (s : State) (page : Nat) : State :=
  let s := { s with dur.dirty := AMap.del s.dur.dirty page }
  let u := page / 512
  let s := if s.dur.dirty.any (fun e => e.1 / 512 == u) then s
    else { s with dur.map := AMap.upd s.dur.map u (fun _ => ⟨some s.now⟩) }
  s.compareD

/-- The chunks of a page as its snapshot left them: their marks go to the poison list, the others leave it (R295, R296). -/
def imageMarks (m : AMap Nat) (a : Nat) (marks : List Nat) : AMap Nat :=
  let kept := m.filter (fun e => !decide (a / 64 ≤ e.1 ∧ e.1 < a / 64 + 64))
  marks.foldl (fun m i => AMap.set m (a / 64 + i) 1) kept

/-- The journal maps a page that was read for write-back: the image holds its snapshot, and the page is clean unless a write came after
the read (R138). -/
def State.mapPage (s : State) (page : Nat) : State :=
  match AMap.get? s.dur.dirty page with
  | none => s
  | some p =>
    if !p.reading then s
    else
      let s := match s.localOf (page * page4K) with
        | some a =>
          { s with mem.image := Mem.writeN s.mem.image a p.snapshot
                   mem.imagePoison := imageMarks s.mem.imagePoison a p.marks }.codewordWritten (.image (a / page4K)) (s.pageTag a p.snapshot)
        | none => s
      let s := { s.bump R.DUR_WB_BYTES_COUNT page4K with flash.journal := s.flash.journal + 1 }
      if p.again then
        { s with dur.dirty := AMap.set s.dur.dirty page { p with reading := false, again := false, snapshot := [], marks := [] } }
      else s.cleanPage page

/-- The codeword of a media page that was programmed now lies in a block. -/
def State.placePage (s : State) (k page : Nat) : State :=
  match s.localOf (page * page4K) with
  | some a =>
    let f := fun w : Codeword => ({ w with place := some k } : Codeword)
    { s with flash.codewords := AMap.upd s.flash.codewords (FlashPage.address (.image (a / page4K))) f }
  | none => s

/-- A block takes one more multi-plane program. -/
def State.blockProgrammed (s : State) (b : FlashBlock) : State :=
  s.setBlock b { s.blockState b with programs := (s.blockState b).programs + 1 }

/-- FLASH_PROGRAM_COMPLETE of the pages one multi-plane program holds. A failure retires the block, after the save where one runs (Table
12-5); its pages are programmed again elsewhere. A block whose erase is not confirmed is never programmed (R278). -/
def execFlashProgramComplete (b : FlashBlock) (pages : List Nat) (micros : Nat) (ok : Bool) (s : State) :
    Host.Outcome State Fault Refusal :=
  .next <|
    if !s.coreOn || !s.dieServes b || (s.blockState b).retired || (s.blockState b).eraseOpen then s
    else if ok then
      let here := pages.filter (fun p => ((AMap.get? s.dur.dirty p).map (·.reading)).getD false)
      let s := ({ s with flash.erased := s.flash.erased - programBytes }.programTime b micros).blockProgrammed b
      ((here.foldl (fun s p => (s.mapPage p).placePage (FlashBlock.key b) p) s).flashViews)
    else if s.save.active then { s with flash.failed := insertNat (FlashBlock.key b) s.flash.failed }.dieFailure b
    else ((s.retireBlock b).dieFailure b)

/-! ### Erases, reclaim, Planish, Anneal (R268, R275 to R278) -/

/-- Mean erase count of 80 % of the rated endurance (R281). -/
def State.checkEndurance (s : State) : State :=
  if !s.flash.enduranceWarned && decide (0 < s.rd R.FLASH_RATED_RATED_PE)
      && decide (8 * s.rd R.FLASH_RATED_RATED_PE ≤ 10 * s.rd R.FLASH_WEAR_MEAN_PE) then
    { s with flash.enduranceWarned := true }.raise Ev.FLASH_ENDURANCE_WARN []
  else s

/-- Blocks of the dies in service that the sweep of a return has not erased yet (Table 12-5). -/
def State.sweepLeft (s : State) : Nat :=
  let dies := ((rangeFrom 0 32).map (fun n => (s.diesInService n).length)).sum
  let serves (k : Nat) : Bool := (s.diesInService (k / 16777216)).contains (k / 1048576 % 16)
  let retired := (s.flash.blocks.filter (fun e => e.2.retired && serves e.1)).length
  dies * s.flash.blocksPerDie - retired - (s.flash.swept.filter serves).length

/-- The sweep notes a block that is erased, or retired, and ends with the last one (Table 18-2). -/
def State.noteSwept (s : State) (b : FlashBlock) (erased : Bool) : State :=
  if !s.on R.LIFE_STATE_ERASE_SWEEP then s
  else
    let s := if erased then { s with flash.swept := insertNat (FlashBlock.key b) s.flash.swept } else s
    if s.sweepLeft = 0 then { s.wr R.LIFE_STATE_ERASE_SWEEP 0 with flash.swept := [] } else s

/-- A block that is to be erased: with ERASE_OPEN, or queued by the sweep. -/
def State.eraseDue (s : State) (b : FlashBlock) : Bool :=
  (s.blockState b).eraseOpen || (s.on R.LIFE_STATE_ERASE_SWEEP && s.dieServes b && !(s.blockState b).retired
    && decide (b.block < s.flash.blocksPerDie) && !s.flash.swept.contains (FlashBlock.key b))

/-- FLASH_ERASE_COMPLETE of a block with ERASE_OPEN, or of one the sweep has queued: ERASE_DONE once it has verified; a failure
retires it (R273, R278). -/
def execFlashEraseComplete (b : FlashBlock) (ok : Bool) (s : State) : Host.Outcome State Fault Refusal :=
  .next <|
    let x := s.blockState b
    if !s.coreOn || !s.eraseDue b || (s.save.active && decide (5 ≤ s.save.step)) then s
    else if ok then
      let s := (s.setBlock b { x with eraseOpen := false, erases := x.erases + 1, programs := 0 }).eraseEnds (b.channel * 16 + b.die)
      let s := { s with flash.erased := s.flash.erased + s.blockBytes, flash.journal := s.flash.journal + 1, flash.waiting := false }
      s.flashViews.checkEndurance.noteSwept b true
    else (((s.retireBlock b).dieFailure b).noteSwept b false).eraseEnds (b.channel * 16 + b.die)

/-- Valid codewords leave a block: where they go is not known. -/
def State.moveOut (s : State) (k : Nat) : State :=
  let f := fun w : Codeword => (if w.place = some k then { w with place := none } else w : Codeword)
  { s with flash.codewords := s.flash.codewords.map (fun (e : Nat × Codeword) => (e.1, f e.2)) }

/-- Commits ERASE_OPEN for a block, whose valid codewords have been copied (R278). -/
def State.openErase (s : State) (b : FlashBlock) : State :=
  { (s.setBlock b { s.blockState b with eraseOpen := true }).moveOut (FlashBlock.key b) with flash.journal := s.flash.journal + 1 }

/-- A block that background work may take: on a serving die, not retired, not being erased, and no save runs. -/
def State.blockFree (s : State) (b : FlashBlock) : Bool :=
  s.coreOn && !s.save.active && s.dieServes b && !(s.blockState b).retired && !(s.blockState b).eraseOpen

/-- RECLAIM of the emptiest block, which holds `bytes` of valid codewords (R268). -/
def execReclaim (b : FlashBlock) (bytes : Nat) (s : State) : Host.Outcome State Fault Refusal :=
  .next <|
    if !s.blockFree b then s
    else if s.floorBars bytes then s.waitForErase
    else ((({ s with flash.erased := s.flash.erased - bytes }.bump R.FLASH_RECLAIM_BYTES bytes).openErase b).flashViews)

/-- The spread of R275 between two blocks of one die is too wide. -/
def State.spreadWide (s : State) (least most : FlashBlock) : Bool :=
  least.channel == most.channel && least.die == most.die
    && decide ((s.blockState least).erases + 10 * s.rd R.FLASH_CTRL_PLANISH_SPREAD_10 < (s.blockState most).erases)

/-- PLANISH: the content of the least erased closed block moves into the most erased free block (R275). -/
def execPlanish (least most : FlashBlock) (bytes : Nat) (s : State) : Host.Outcome State Fault Refusal :=
  .next <|
    if !s.blockFree least || !s.blockFree most || !s.spreadWide least most then s
    else if s.floorBars s.blockBytes then s.waitForErase
    else
      let s := { s with flash.erased := s.flash.erased - s.blockBytes }.bump R.FLASH_PLANISH_BYTES bytes
      let f := fun w : Codeword => (if w.place = some (FlashBlock.key least) then { w with place := some (FlashBlock.key most) } else w : Codeword)
      let s := { s with flash.codewords := s.flash.codewords.map (fun (e : Nat × Codeword) => (e.1, f e.2)) }.blockProgrammed most
      (s.openErase least).flashViews

/-- ANNEAL reads a closed block and relocates what is aged or marginal in it: `bytes` of payload, and the pages among them that were
decoded at step 3 or 4 (R271, R276). Without PATROL_EN only such pages are relocated. -/
def execAnneal (b : FlashBlock) (bytes : Nat) (pages : List FlashPage) (s : State) : Host.Outcome State Fault Refusal :=
  .next <|
    if !s.blockFree b || (!s.on R.FLASH_CTRL_PATROL_EN && !pages.any (fun p => s.flash.relocate.any (fun e => e.1 == p))) then s
    else if s.floorBars bytes then s.waitForErase
    else
      let s := { s with flash.erased := s.flash.erased - bytes }.bump R.FLASH_ANNEAL_BYTES bytes
      (pages.foldl (fun s p => { s with flash.relocate := s.flash.relocate.filter (fun e => e.1 != p) }) s).flashViews

/-! ### The journal (R277) -/

/-- JOURNAL_FLUSH: committed entries reach both system copies. -/
def execJournalFlush (s : State) : Host.Outcome State Fault Refusal :=
  .next (if s.coreOn then { s with flash.journal := 0 } else s)

/-- JOURNAL_CHECKPOINT: every 60 s. -/
def execJournalCheckpoint (s : State) : Host.Outcome State Fault Refusal :=
  .next <|
    if s.coreOn && !s.save.active && s.start.tablesDone && decide (s.flash.checkpointAt ≤ s.now) then
      { s with flash.checkpointAt := s.now + sec 60 }
    else s

end Sys2Proof.Machine
end

