-- ==== Sys2Proof/Machine/Shelf.lean ====
section
/-! DEFINITION. Shelf objects, their loading and staging, prefetch schedules, and the recovery of damaged tiles (R219 to R240). -/

namespace Sys2Proof.Machine

open Sys2Proof

/-! ### Objects (R219 to R223) -/

/-- Creates an object in LOADING. -/
def State.createObject (s : State) (id code : Nat) (header : Bool) (key size owner tag : Nat) : State :=
  let x : Object := { state := .loading, tileCode := code, header, key, size, owner, userTag := tag, loaded := [], gens := [],
                      poisoned := [], twinCopy := true }
  (s.setObject id x).tierViews.flashViews

/-- Releases an object: its blocks are invalid at once (Table 12-5), its tiles leave the stage. -/
def State.dropObject (s : State) (id : Nat) : State :=
  let keep (p : FlashPage) : Bool := match p with | .shelf o _ _ => o != id | _ => true
  let s := s.dropUnits ((s.shelf.tiles.filter (fun t => t.object == id)).map (·.units)).flatten true
  { s with shelf.objects := AMap.del s.shelf.objects id, shelf.bytes := AMap.del s.shelf.bytes id
           shelf.tiles := s.shelf.tiles.filter (fun t => t.object != id)
           shelf.asked := s.shelf.asked.filter (fun e => e.1 != id)
           flash.lost := s.flash.lost.filter keep
           flash.codewords := s.flash.codewords.filter (fun e => !decide (FlashPage.address (.shelf id 0 0) ≤ e.1 ∧ e.1 < FlashPage.address (.shelf (id + 1) 0 0)))
           flash.relocate := s.flash.relocate.filter (fun e => keep e.1) }.tierViews.flashViews

/-- A SHELF region maps the object, or a schedule exists for it (Table 10-5). -/
def State.objectMapped (s : State) (id : Nat) : Bool :=
  s.prot.regions.any (fun e => e.2.shelf && e.2.object == id) || s.shelf.schedules.any (fun e => e.2.object == id)

/-- The log reserve has fallen to twice its floor: SHELF_OBJECT_CREATE and SHELF_OBJECT_LOAD are refused (R281). -/
def State.reserveShort (s : State) : Bool := decide (s.flash.reserve ≤ 2 * s.reserveFloor)

/-- The outcome of SHELF_OBJECT_CREATE's checks (R240, Table 10-6): the object ID. -/
def State.objectVerdict (s : State) (id key owner : Nat) (x : Object) : Except Nat Nat :=
  let found := if id = 0xFFFFFFFF then AMap.free s.shelf.objects 0 262144 else some (id % 262144)
  match found with
  | none => .error Why.TABLE_FULL
  | some i =>
    if AMap.has s.shelf.objects i then .error Why.IN_USE
    else if !s.keyOk key Slot.TENANT then .error Why.BAD_KEY
    else if !AMap.has s.prot.pds (owner % 65536) then .error Why.NOT_FOUND
    else if s.reserveShort || decide (s.shelfArea < s.shelfHeld + Object.mapped x) then .error Why.NO_CAPACITY
    else .ok i

/-- SHELF_OBJECT_CREATE. -/
def execShelfObjectCreate (r : CmdRef) (id tileCode flags key size owner tag : Nat) (s : State) : Host.Outcome State Fault Refusal :=
  .next <| s.command r 0x0401 (fun c s => s.ifHolder c (fun s =>
    let code := if tileCode ≤ 4 then tileCode else 2
    let n := clampTo 0x10000 0x40000000000 size
    let header := flags % 2 == 1
    let x : Object := ⟨.loading, code, header, key, n, owner % 65536, tag % 2 ^ 128, [], [], [], true⟩
    match s.objectVerdict id key owner x with
    | .error e => s.refuse c.id e
    | .ok i =>
      let s := s.createObject i code header key n (owner % 65536) (tag % 2 ^ 128)
      let s := s.mirrorCommand c [i, code, flags % 2, key, n, owner % 65536, tag % 2 ^ 128]
      (s.clamped (moved code tileCode + moved n size)).endCmd c.id St.DONE 0 (pack [(4, i)])))

/-- SHELF_OBJECT_DROP. -/
def execShelfObjectDrop (r : CmdRef) (id : Nat) (s : State) : Host.Outcome State Fault Refusal :=
  .next <| s.command r 0x0403 (fun c s => s.ifHolder c (fun s =>
    let i := id % 262144
    if !AMap.has s.shelf.objects i then s.refuse c.id Why.NOT_FOUND
    else if s.objectMapped i then s.refuse c.id Why.OBJECT_MAPPED
    else ((s.mirrorCommand c [i]).dropObject i).finish c.id St.DONE))

/-! ### Loading (R222, R223, R238) -/

/-- The tiles a piece covers whole or to the object's end. -/
def Object.tilesIn (x : Object) (off n : Nat) : List Nat :=
  if n = 0 then [] else rangeFrom (off / tileSize x.tileCode) (ceilDiv n (tileSize x.tileCode))

/-- A RELOAD replaces a tile: its poison goes with the old codewords, LOAD_GEN rises, and a stage copy is evicted as soon as it has no
references. -/
def State.reloadTile (s : State) (o k : Nat) : State :=
  let hit (p : FlashPage) : Bool := match p with | .shelf a b _ => a == o && b == k | _ => false
  let s := { s with flash.lost := s.flash.lost.filter (fun p => !hit p)
                    flash.relocate := s.flash.relocate.filter (fun e => !hit e.1)
                    shelf.objects := AMap.upd s.shelf.objects o (fun x => { x with
                      gens := AMap.set x.gens k ((AMap.get? x.gens k).getD 0 + 1), poisoned := x.poisoned.filter (· != k) }) }
  let s := s.updTile o k (fun t => { t with stale := true })
  match s.tile? o k with
  | some t => if t.state = .staged ∧ s.tileRefs o k = 0 then s.startEvict o k else s
  | none => s

/-- The payload pages of a tile, by page of its slot: a header page is not stored in flash (R220). -/
def Object.storedPages (x : Object) (k : Nat) : List Nat :=
  let n := tileSize x.tileCode
  rangeFrom (if x.header then 1 else 0) (ceilDiv (min n (x.size - k * n)) page4K)

/-- Programs the pages of a loaded tile, each with its tag (R223, R266). -/
def State.programTile (s : State) (x : Object) (o k : Nat) : State :=
  (Object.storedPages x k).foldl (fun s p =>
    let off := k * tileSize x.tileCode + (if x.header then p - 1 else p) * page4K
    let d := Mem.readN ((AMap.get? s.shelf.bytes o).getD []) off (min page4K (x.size - off))
    let page := FlashPage.shelf o k p
    s.programPage page (s.pageTag (FlashPage.address page * page4K) (d ++ List.replicate (page4K - d.length) 0))) s

/-- Writes one piece into the shelf area. The object becomes READY when its last unloaded tile is there, or its last poisoned tile is
reloaded; the answer says whether it did. -/
def State.loadPiece (s : State) (o off : Nat) (data : List Byte) : Bool × State :=
  match s.object? o with
  | none => (false, s)
  | some x =>
    let ks := Object.tilesIn x off data.length
    let s := (ks.filter (fun k => x.loaded.contains k)).foldl (fun s k => s.reloadTile o k) s
    let old := (AMap.get? s.shelf.bytes o).getD []
    let s := { s with shelf.bytes := AMap.set s.shelf.bytes o (Mem.writeN old off data)
                      shelf.objects := AMap.upd s.shelf.objects o (fun x => { x with loaded := ks.foldl (fun l k => insertNat k l) x.loaded })
                      flash.erased := s.flash.erased - data.length, flash.journal := s.flash.journal + 1 }
    let s := ks.foldl (fun s k => s.programTile x o k) s
    match s.object? o with
    | none => (false, s.flashViews)
    | some y =>
      let ready := y.poisoned.isEmpty && decide (Object.count y ≤ y.loaded.length)
      if ready && (y.state == .loading || y.state == .damaged) then
        (true, (s.setObject o { y with state := .ready }).flashViews)
      else (false, s.flashViews)

/-- The checks of a piece (R223). Loading a tile again without RELOAD is refused IN_USE (assumption log 48). -/
def State.loadVerdict (s : State) (o flags off n : Nat) : Option Nat :=
  match s.object? o with
  | none => some Why.NOT_FOUND
  | some x =>
    let t := tileSize x.tileCode
    if off % t != 0 || decide (gib < n) || decide (x.size < off + n) || (n % t != 0 && off + n != x.size) then some Why.BAD_ADDRESS
    else if flags % 2 = 0 ∧ (Object.tilesIn x off n).any (fun k => x.loaded.contains k) then some Why.IN_USE
    else if s.reserveShort then some Why.NO_CAPACITY
    else none

/-- SHELF_OBJECT_LOAD; `data` is the host buffer. From stage ELEVATED upward, and while the erased pool stands at its floor, the command
waits (R223, R270). -/
def execShelfObjectLoad (r : CmdRef) (id flags off host : Nat) (data : List Byte) (s : State) : Host.Outcome State Fault Refusal :=
  .next <| s.command r 0x0402 (fun c s => s.ifHolder c (fun s =>
    let o := id % 262144
    let wait (s : State) : State := s.updCmd c.id (fun k => { k with phase := .fetched })
    if host % 64 != 0 then s.refuse c.id Why.BAD_PARAM else
    match s.loadVerdict o flags off data.length with
    | some e => s.refuse c.id e
    | none =>
      if 1 ≤ s.stage then wait s
      else if s.floorBars data.length then wait s.waitForErase
      else
        let (ready, s) := s.loadPiece o off data
        let s := if ready then s.cmdEvent c Ev.MEMOP_OBJECT_READY [] else s
        let s := if !s.paired then s
          else if s.twinAccepts then
            (s.sendTiles o (flags % 2) (data.length / 4032 + 1) off data).mirrorCommand c [o, off, data.length, flags % 2]
          else s.noTwinCopy o
        (s.advanceAll).finish c.id St.DONE))

/-! ### Schedules (R229 to R232) -/

/-- SCHEDULED on the regions of an object: set while a schedule is loaded (R39). -/
def State.markScheduled (s : State) (o : Nat) : State :=
  let on := s.shelf.schedules.any (fun e => e.2.object == o)
  { s with prot.regions := s.prot.regions.map (fun e : Nat × Region =>
      if e.2.shelf && e.2.object == o then (e.1, { e.2 with scheduled := on }) else e) }

/-- The first of `n` consecutive cursor numbers that no schedule uses, below 65,536. -/
def State.freeCursors (s : State) (n : Nat) : Option Nat :=
  let used := (s.shelf.schedules.map (fun e => (e.2.first, e.2.positions.length)))
  let gaps := gapsBetween (used.foldl (fun l r => insertRun r l) []) 0 65536
  (gaps.find? (fun g => decide (n ≤ g.2))).map (·.1)

/-- Loads a schedule with all its cursors at 0. -/
def State.loadSchedule (s : State) (id : Nat) (x : Schedule) : State :=
  (({ s with shelf.schedules := AMap.set s.shelf.schedules id x }.markScheduled x.object)).tierViews

/-- Drops a schedule with the references its cursors hold. -/
def State.dropSchedule (s : State) (id : Nat) : State :=
  match AMap.get? s.shelf.schedules id with
  | none => s
  | some x => (({ s with shelf.schedules := AMap.del s.shelf.schedules id }.markScheduled x.object)).tierViews

/-- The checks of SCHEDULE_LOAD: the schedule ID and the first cursor. -/
def State.scheduleVerdict (s : State) (id object pd cursors : Nat) (entries : List Nat) : Except Nat (Nat × Nat) :=
  let found := if id = 0xFFFF then AMap.free s.shelf.schedules 0 4096 else some (id % 4096)
  match found, s.object? object with
  | none, _ => .error Why.TABLE_FULL
  | _, none => .error Why.NOT_FOUND
  | some i, some x =>
    if AMap.has s.shelf.schedules i then .error Why.IN_USE
    else if !AMap.has s.prot.pds pd then .error Why.NOT_FOUND
    else if entries.any (fun k => decide (Object.count x ≤ k)) then .error Why.BAD_TILE
    else if 16777216 < (s.shelf.schedules.map (·.2.entries.length)).sum + entries.length then .error Why.TABLE_FULL
    else match s.freeCursors cursors with
      | none => .error Why.TABLE_FULL
      | some f => .ok (i, f)

/-- SCHEDULE_LOAD; `list` is what the host buffer holds, of which ENTRIES indexes are read. -/
def execScheduleLoad (r : CmdRef) (id flags lookahead object pd cursors entries host : Nat) (list : List Nat) (s : State) :
    Host.Outcome State Fault Refusal :=
  .next <| s.command r 0x0404 (fun c s => s.ifHolder c (fun s =>
    let la := clampTo 1 64 lookahead
    let cu := clampTo 1 1024 cursors
    let en := clampTo 1 4194304 entries
    let es := (list.take en).map (· % 2 ^ 32)
    if host % 64 != 0 then s.refuse c.id Why.BAD_PARAM else
    match s.scheduleVerdict id (object % 262144) (pd % 65536) cu es with
    | .error e => s.refuse c.id e
    | .ok (i, f) =>
      let x : Schedule := ⟨object % 262144, es, flags % 2 == 1, flags / 2 % 2 == 1, la, pd % 65536, f, List.replicate cu 0⟩
      let s := (s.loadSchedule i x).mirrorCommand c ([i, flags % 4, la, object % 262144, pd % 65536, f, cu] ++ es)
      (s.clamped (moved la lookahead + moved cu cursors + moved en entries)).endCmd c.id St.DONE 0 (pack [(4, i), (4, f)])))

/-- SCHEDULE_DROP. -/
def execScheduleDrop (r : CmdRef) (id : Nat) (s : State) : Host.Outcome State Fault Refusal :=
  .next <| s.command r 0x0405 (fun c s => s.ifHolder c (fun s =>
    let i := id % 4096
    if !AMap.has s.shelf.schedules i then s.refuse c.id Why.NOT_FOUND
    else (((s.mirrorCommand c [i]).dropSchedule i).advanceAll).finish c.id St.DONE))

/-- CURSOR_SYNC_TIMER: every 1 ms the active sends its cursors, as TILE items of kind 5 (R238, assumption log 47). -/
def execCursorSyncTimer (s : State) : Host.Outcome State Fault Refusal :=
  .next <|
    if s.coreOn && s.isActive && s.paired && !s.save.active && decide (s.twin.cursorAt ≤ s.now) then
      { s.shelf.schedules.foldl (fun s e => s.sendItem (tileItem 5 (e.1 :: e.2.positions) [])) s with
        twin.cursorAt := s.now + ms 1 }
    else s

/-! ### The stage partition (R224, R227) -/

/-- The 2 MiB units of stage that no tile uses. -/
def State.emptyStage (s : State) : List Nat :=
  let used := (s.shelf.tiles.map (·.units)).flatten
  s.shelf.stage.filter (fun u => !(used.any (fun w => w / 32 == u)))

/-- Takes the stage to its set size: it grows from free units at once, and shrinks by what tiles leave. -/
def State.settleStage (s : State) : State :=
  let want := s.rd R.TIER_STAGE_STAGE_GIB * 512
  let have_ := s.shelf.stage.length
  let s :=
    if have_ < want then
      let free := (s.freeRuns.map (fun r => rangeFrom r.1 (min r.2 (want - have_)))).flatten.take (want - have_)
      { s with shelf.stage := s.shelf.stage ++ free }
    else
      let go := s.emptyStage.take (have_ - want)
      { s with shelf.stage := s.shelf.stage.filter (fun u => !go.contains u) }
  let shrinking := decide (want < s.shelf.stage.length)
  (s.flag R.TIER_STATUS_RESIZING shrinking).tierViews

/-- STAGE_GIB as R224 clamps it. -/
def State.stageLimit (s : State) (v : Nat) : Nat :=
  clampTo 2 (max 2 ((s.dramUnits - s.writableUnits - reserveUnits) / 512)) v

/-- A write to TIER_STAGE. -/
def State.writeStage (s : State) (v : Nat) : State :=
  let s := s.wr R.TIER_STAGE_STAGE_GIB (s.stageLimit v)
  if s.start.tablesDone && !s.save.active then s.settleStage else s

/-- TIER_STAGE_WRITE. -/
def execTierStageWrite (v : Nat) (s : State) : Host.Outcome State Fault Refusal :=
  .next (if s.coreOn then s.writeStage (v % 16384) else s)

/-! ### Fills (R225, R228, R234) -/

/-- The header page of a tile (Table 10-1). -/
def Object.headerPage (x : Object) (o : Nat) (t : Tile) : List Byte :=
  let n := tileSize x.tileCode
  let fl := (if t.index + 1 = Object.count x then 1 else 0) + (if t.poisoned then 2 else 0) + (if t.recovered then 4 else 0)
  leBytes 4 o ++ leBytes 4 t.index ++ leBytes 4 (min n (x.size - t.index * n)) ++ leBytes 1 x.tileCode ++ leBytes 1 fl ++ leBytes 2 0
    ++ leBytes 4 (Object.count x) ++ leBytes 4 t.gen ++ leBytes 8 0 ++ leBytes 16 x.userTag ++ leBytes (4096 - 48) 0

/-- The pages of a tile's slot. -/
def Object.slotPages (x : Object) : Nat := Object.slot x / page4K

/-- A page of a tile as flash holds it. -/
def State.shelfPage (s : State) (x : Object) (o : Nat) (t : Tile) (p : Nat) : List Byte :=
  if x.header && p == 0 then Object.headerPage x o t
  else
    let off := t.index * tileSize x.tileCode + (if x.header then p - 1 else p) * page4K
    let live := min page4K (x.size - off)
    Mem.readN ((AMap.get? s.shelf.bytes o).getD []) off live ++ List.replicate (page4K - live) 0

/-- Writes a page of a tile into stage without marks. -/
def State.stagePage (s : State) (t : Tile) (p : Nat) (data : List Byte) : State :=
  let m := Tile.media t (p * page4K)
  let marks := s.mem.dramPoison.filter (fun e => !decide (m / 64 ≤ e.1 ∧ e.1 < m / 64 + 64))
  { s with mem.dram := Mem.writeN s.mem.dram m data, mem.dramPoison := marks }

/-- The page a fill stages next: the one a reader wants, then the rest in ascending order (R228). -/
def Object.nextPage (x : Object) (t : Tile) : Option Nat :=
  let todo := (rangeFrom 0 (Object.slotPages x)).filter (fun p => !t.pages.contains p && !t.recovering.contains p)
  if todo.contains t.want then some t.want else todo.head?

/-- The header page of a staged tile shows POISONED and RECOVERED as they stand now, in stage and in its near-cache line (R220). -/
def State.refreshHeader (s : State) (x : Object) (o k : Nat) : State :=
  match s.tile? o k with
  | some t =>
    if x.header && t.pages.contains 0 then
      let l := Tile.media t 0 / 64
      let d := (Object.headerPage x o t).take 64
      let f := fun y : Line => (if y.line = l ∧ y.state = .clean then { y with data := d } else y : Line)
      { s with mem.dram := Mem.writeN s.mem.dram (l * 64) d, near.ways := s.near.ways.map (fun (e : Nat × Line) => (e.1, f e.2))
               near.victims := s.near.victims.map (fun (e : Nat × List Line) => (e.1, e.2.map f)) }
    else s
  | none => s

/-- Notes a page as staged; the tile is STAGED when all its pages are, and FILLING again once nothing is being recovered. -/
def State.pageStaged (s : State) (x : Object) (o k p : Nat) : State :=
  let f (t : Tile) : Tile :=
    let pages := t.pages ++ [p]
    let rec_ := t.recovering.filter (· != p)
    { t with pages, recovering := rec_
             state := if !rec_.isEmpty then .recovering else if Object.slotPages x ≤ pages.length then .staged else .filling }
  (s.updTile o k f).advanceAll.settleLocks.tierViews

/-- A page of a tile fits the tag in its codeword; a poisoned tile has none to fit (R292). -/
def State.shelfPageFits (s : State) (x : Object) (o : Nat) (t : Tile) (p : Nat) : Bool :=
  let page := FlashPage.shelf o t.index p
  match AMap.get? s.flash.codewords (FlashPage.address page) with
  | some w => x.poisoned.contains t.index || w.tag == s.pageTag (FlashPage.address page * page4K) (s.shelfPage x o t p)
  | none => true

/-- TILE_FILL_PROGRESS of a FILLING tile: its next page is staged, unless LDPC failed on it or its integrity tag does not fit; `tagOk` says
that what flash returned is what the page holds (R236, R292). -/
def execTileFillProgress (o k : Nat) (tagOk : Bool) (s : State) : Host.Outcome State Fault Refusal :=
  .next <|
    match s.object? o, s.tile? o k with
    | some x, some t =>
      if !s.coreOn || s.save.active || t.state != .filling then s
      else match Object.nextPage x t with
      | none => s
      | some p =>
        let header := x.header && p == 0
        let fits := tagOk && s.shelfPageFits x o t p
        let bad := !header && (s.flash.lost.contains (.shelf o k p) || !fits)
        if bad then
          let s := if fits then s else s.tagMismatch
          s.updTile o k (fun t => { t with state := .recovering, recovering := t.recovering ++ [p] })
        else (s.stagePage t p (s.shelfPage x o t p)).pageStaged x o k p
    | _, _ => s

/-- Window entries that wait for a fill, nearest first, then by cursor number (R234). -/
def State.lookaheadWants (s : State) : List (Nat × Nat) :=
  ((rangeFrom 0 64).map (fun j => (s.shelf.schedules.map (fun e =>
    e.2.positions.filterMap (fun p => ((Schedule.window e.2 p)[j]?).map (fun k => (e.2.object, k))))).flatten)).flatten.filter
    (fun w => (s.tile? w.1 w.2).isNone && (match s.object? w.1 with
      | some x => x.state == .ready || x.state == .damaged
      | none => false))

/-- A read waits for a tile that no fill stages yet: demand fills run before lookahead fills (R228). -/
def State.demandWaits (s : State) : Bool :=
  s.eng.ops.any (fun p => p.status.isNone && (match p.tiles with
    | (o, k) :: _ => (s.tile? o k).isNone
    | [] => false))

/-- LOOKAHEAD_FILL: the nearest unfilled window entry starts its fill where the stage has room, or room is made by an eviction; with
neither, the shortfall is counted (R234). The standby stages nothing. -/
def execLookaheadFill (s : State) : Host.Outcome State Fault Refusal :=
  .next <|
    if !s.coreOn || !s.isActive || s.save.active || !s.start.admitted || s.demandWaits then s
    else match s.lookaheadWants.head? with
    | none => s
    | some (o, k) =>
      let need := ((s.object? o).map Object.tileUnits).getD 0
      if s.tileFits need false true || s.evictCandidate.isSome then (s.startTile o k 0 false).tierViews
      else (s.bump R.TIER_LOOKAHEAD_SHORT 1).raise Ev.MEMOP_LOOKAHEAD_SHORT []

/-- TILE_EVICTION_COMPLETE: the tile's near-cache lines are invalidated and its stage is freed, unless a reference came (R225, R227). -/
def execTileEvictionComplete (o k : Nat) (s : State) : Host.Outcome State Fault Refusal :=
  .next <|
    match s.tile? o k with
    | none => s
    | some t =>
      if !s.coreOn || t.state != .evicting then s
      else if 0 < s.tileRefs o k then (s.updTile o k (fun t => { t with state := .staged })).advanceAll.tierViews
      else
        let s := s.dropUnits t.units false
        let s := { s with shelf.tiles := s.shelf.tiles.filter (fun x => !(x.object == o && x.index == k)) }.bump R.TIER_EVICTIONS 1
        s.settleStage.advanceAll.settleLocks.tierViews

/-! ### Recovery (R236, R237) -/

/-- A page was recovered by parity or the twin: its codeword is written anew. -/
def State.tileRecovered (s : State) (x : Object) (o k p : Nat) (data : List Byte) (c : Fld) : State :=
  match s.tile? o k with
  | none => s
  | some t =>
    let s := (s.codewordWritten (.shelf o k p) (s.pageTag (FlashPage.address (.shelf o k p) * page4K) data)).updTile o k (fun t => { t with recovered := true })
    let s := { s with shelf.asked := s.shelf.asked.filter (fun e => e != (o, k, p)) }
    (((s.stagePage t p data).bump c 1).raise Ev.INTEGRITY_TILE_RECOVERED []).refreshHeader x o k |>.pageStaged x o k p

/-- Step 3: the page's chunks are staged with their marks. -/
def State.tilePoisoned (s : State) (x : Object) (o k p : Nat) : State :=
  match s.tile? o k with
  | none => s
  | some t =>
    let s := { s with shelf.asked := s.shelf.asked.filter (fun e => e != (o, k, p)) }
    let s := (s.stagePage t p (s.shelfPage x o t p)).poisonChunks (linesOf (Tile.media t (p * page4K)) page4K)
    let new := !x.poisoned.contains k
    let s := s.updTile o k (fun t => { t with poisoned := true })
    let s := s.setObject o { x with state := .damaged, poisoned := if new then x.poisoned ++ [k] else x.poisoned }
    let s := if new then s.bump R.TIER_POISONED_TILES 1 else s
    (((s.raise Ev.INTEGRITY_TILE_POISONED []).raise Ev.INTEGRITY_OBJECT_DAMAGED []).refreshHeader x o k).pageStaged x o k p

/-- The twin can be asked (R236). -/
def State.twinHasTile (s : State) (x : Object) : Bool := s.linkUp && x.twinCopy && s.on R.TIER_CTRL_TWIN_RECOVER

/-- TILE_RECOVERY_COMPLETE of a tile's first page under recovery: `parity` says that die parity rebuilt it. Otherwise the twin is asked,
once, and with no answer to come the page is staged poisoned. -/
def execTileRecoveryComplete (o k : Nat) (parity : Bool) (s : State) : Host.Outcome State Fault Refusal :=
  .next <|
    match s.object? o, s.tile? o k with
    | some x, some t =>
      match t.recovering.head? with
      | none => s
      | some p =>
        if !s.coreOn then s
        else if parity then s.tileRecovered x o k p (s.shelfPage x o t p) R.TIER_PARITY_RECOVERIES
        else if s.twinHasTile x then
          if s.shelf.asked.contains (o, k, p) then s
          else { s with shelf.asked := s.shelf.asked ++ [(o, k, p)] }.sendItem (tileItem 2 [o, k, p] [])
        else s.tilePoisoned x o k p
    | _, _ => s

/-- Answers the twin's request for a page: its data, or that it cannot be given. -/
def State.answerTile (s : State) (o k p : Nat) : State :=
  match s.object? o with
  | none => s.sendItem (tileItem 4 [o, k, p] [])
  | some x =>
    let t : Tile := { object := o, index := k, state := .filling, pages := [], want := 0, recovering := [], units := [], poisoned := false,
                      recovered := false, gen := 0, lastRead := 0, behind := false, stale := false }
    if x.loaded.contains k && !s.flash.lost.contains (.shelf o k p) then
      s.sendItem (tileItem 3 [o, k, p] (s.shelfPage x o t p))
    else s.sendItem (tileItem 4 [o, k, p] [])

/-- TILE: data of a load (kind 0: object, offset), a request (2: object, tile, page), its answer with data (3) or without (4), and cursor
positions (5: schedule, positions) (R236, R238, assumption log 47). -/
def execTile (kind : Nat) (fields : List Nat) (data : List Byte) (s : State) : Host.Outcome State Fault Refusal :=
  .next <|
    if !s.coreOn || !s.linkUp then s
    else
      let o := fields.getD 0 0
      let k := fields.getD 1 0
      let p := fields.getD 2 0
      if kind = 0 then
        if s.twin.holder then s
        else { s with shelf.bytes := AMap.set s.shelf.bytes o (Mem.writeN ((AMap.get? s.shelf.bytes o).getD []) k data)
                      flash.erased := s.flash.erased - data.length }
      else if kind = 2 then s.answerTile o k p
      else if kind = 3 ∨ kind = 4 then
        match s.object? o with
        | none => s
        | some x =>
          if !s.shelf.asked.contains (o, k, p) then s
          else if kind = 3 then s.tileRecovered x o k p data R.TIER_TWIN_RECOVERIES
          else s.tilePoisoned x o k p
      else if kind = 5 ∧ !s.twin.holder then
        { s with shelf.schedules := AMap.upd s.shelf.schedules o (fun x => { x with positions := (fields.drop 1).take x.positions.length }) }
      else s

end Sys2Proof.Machine
end

