-- ==== Sys2Proof/Machine/Integrity.lean ====
section
/-! DEFINITION. Scrubbing, SRAM errors and their repairs, table reloads, gather-buffer errors, and the repair of poison from flash
(R284 to R299). -/

namespace Sys2Proof.Machine

open Sys2Proof

/-! ### SRAM rows (R298) -/

/-- INTEG_LAST_SRAM. -/
def State.lastSram (s : State) (m row : Nat) (ue : Bool) : State :=
  let s := (s.wr R.INTEG_LAST_SRAM_VALID 1).flag R.INTEG_LAST_SRAM_UNCORRECTABLE ue
  (s.wr R.INTEG_LAST_SRAM_MACRO m).wr R.INTEG_LAST_SRAM_ROW row

/-- Entries of the field list for a macro. -/
def State.repairsOf (s : State) (m : Nat) : List Nat :=
  (rangeFrom 0 (s.rd R.INTEG_REPAIR_FIELD)).filter (fun i => s.rdN R.INTEG_REPAIR_MACRO i == m)

/-- Writes the next entry of the field list. -/
def State.writeRepair (s : State) (kind m spare row : Nat) : State :=
  let i := s.rd R.INTEG_REPAIR_FIELD
  let s := (s.wrN R.INTEG_REPAIR_KIND i kind).wrN R.INTEG_REPAIR_MACRO i m
  let s := (s.wrN R.INTEG_REPAIR_SPARE i spare).wrN R.INTEG_REPAIR_ADDRESS i row
  s.wr R.INTEG_REPAIR_FIELD (i + 1)

/-- A row goes to field repair at the next start, unless no spare row or no entry is left (R298, Table 13-6). -/
def State.queueRepair (s : State) (m row : Nat) : State :=
  if (s.repairsOf m).any (fun i => s.rdN R.INTEG_REPAIR_ADDRESS i == row) then s
  else if 2048 ≤ s.rd R.INTEG_REPAIR_FIELD then s.raise Ev.INTEGRITY_REPAIR_EXHAUSTED []
  else
    let used := Config.factorySpares m + (s.repairsOf m).length
    if 8 ≤ used then (s.writeRepair 3 m 0 row).raise Ev.INTEGRITY_REPAIR_EXHAUSTED []
    else ((s.writeRepair 1 m used row).bumpSat R.INTEG_REPAIR_PENDING 0 1).raise Ev.INTEGRITY_SRAM_REPAIRED []

/-- One correctable error of a row. -/
def State.sramCe (s : State) (m row : Nat) : State :=
  let k := m * 4096 + row
  let s := (s.bump R.INTEG_SRAM_CE 1).lastSram m row false
  let ts := ((AMap.get? s.integ.rows k).getD []).filter (fun t => decide (s.now ≤ t + sec 86400)) ++ [s.now]
  let s := { s with integ.rows := AMap.set s.integ.rows k ts }
  if s.rd R.INTEG_CTRL_CE_REPAIR_LIMIT ≤ ts.length then s.queueRepair m row else s

/-- One uncorrectable error of a row. -/
def State.sramUe (s : State) (m row : Nat) : State :=
  ((s.bump R.INTEG_SRAM_UE 1).lastSram m row true).queueRepair m row

/-- The row has given CE_REPAIR_LIMIT correctable errors within 24 h. -/
def State.rowDue (s : State) (m row : Nat) : Bool :=
  decide (s.rd R.INTEG_CTRL_CE_REPAIR_LIMIT ≤ ((AMap.get? s.integ.rows (m * 4096 + row)).getD []).length)

/-- The row's entry in the field list is of KIND RETIRED: its macro has no spare left, and what stands until the next start is permanent. -/
def State.rowLasting (s : State) (m row : Nat) : Bool :=
  (s.repairsOf m).any (fun i => s.rdN R.INTEG_REPAIR_KIND i == 3 && s.rdN R.INTEG_REPAIR_ADDRESS i == row)

/-- An allocating memory stops using a row, or the near cache a way (R298, assumption log 199). -/
def State.takeOff (s : State) (memory what m row : Nat) : State :=
  let r : RowOff := ⟨memory, what, s.rowLasting m row⟩
  { s with integ.off := s.integ.off.filter (fun x => !(x.memory == memory && x.row == what)) ++ [r] }

/-- The allocating memory that a word of an SRAM row belongs to. -/
def State.allocating (s : State) (kind i : Nat) : Option Nat :=
  if kind = 5 ∨ kind = 7 then some 1
  else if kind = 6 ∨ kind = 8 then some 2
  else if kind = 10 then (s.cerga.held[i]?).map (fun h => 16 + engineOf (h.packet.queue % 2 ^ 22))
  else none

/-- A packet of a reorder store is gone and counted as malformed; its sequence is to come again (Table 13-1). -/
def State.loseHeld (s : State) (i : Nat) : State :=
  match s.cerga.held[i]? with
  | some h =>
    let f := fun x : Stream => ({ x with map := x.map.filter (· != h.packet.seq) } : Stream)
    ({ s with cerga.held := s.cerga.held.eraseIdx i }.updStream (h.packet.queue % 2 ^ 22) f).bump R.CERGA_DROP_MALFORMED 1
  | none => s

/-- A packet of a MAC buffer is gone and counted as malformed (Table 13-1); a RoCEv2 packet counts with those whose ICRC fails (DESIGN CHOICE,
assumption log 199). -/
def State.loseArrival (s : State) (i : Nat) : State :=
  let counter := match s.ports.waiting[i]? with
    | some (.cerga _ _) => some R.CERGA_DROP_MALFORMED
    | some (.roce _) => some R.ROCE_DROP_ICRC
    | none => none
  match counter with
  | some f => { s with ports.waiting := s.ports.waiting.eraseIdx i }.bump f 1
  | none => s

/-- A changed Cerga context is lost (R288): the stream is LAPSED and keeps what a lapse keeps, and what of it waits for admission is
dropped. -/
def State.loseStream (s : State) (i : Nat) : State :=
  let x := s.stream i
  let s := if x.state = .none then s else
    (s.dropUnadmitted i).setStream i { streamNone with state := .lapsed, epoch := x.epoch, nonces := x.nonces, reply := x.reply }
  (s.cergaViews).raise Ev.INTEGRITY_SRAM_UE []

/-- A clean context leaves its cache, and its next packet fetches it again from DRAM (R288). -/
def State.dropContext (s : State) (i : Nat) : State :=
  let l := ((AMap.get? s.cerga.lookaside (engineOf i)).getD []).filter (· != i)
  { s with cerga.cache := s.cerga.cache.filter (· != i), cerga.lookaside := AMap.set s.cerga.lookaside (engineOf i) l }.cergaViews

/-- What an uncorrectable word costs by what the row holds (Table 13-1): a table entry is reloaded (R287), a context is fetched again or
lost (R288), a packet is dropped. -/
def State.sramLost (s : State) (kind i : Nat) : State :=
  if kind ≤ 4 ∨ kind = 11 ∨ kind = 12 then
    ({ s with integ.reloading := s.integ.reloading ++ [(kind, i)] }.bump R.INTEG_TABLE_RELOADS 1).raise Ev.INTEGRITY_TABLE_RELOAD []
  else if kind = 5 then s.loseStream i
  else if kind = 6 then (s.qpToErr i 0 St.FAULT_INTERNAL).raise Ev.INTEGRITY_SRAM_UE []
  else if kind = 7 then s.dropContext i
  else if kind = 8 then { s with roce.cache := s.roce.cache.filter (· != i) }.roceViews
  else if kind = 10 then s.loseHeld i
  else if kind = 13 then s.loseArrival i
  else s

/-- A row that goes to repair is used no more where its memory allocates (R298). -/
def State.rowOut (s : State) (kind i m row : Nat) : State :=
  match s.allocating kind i with
  | some memory => s.takeOff memory (m * 4096 + row) m row
  | none => s

/-- The way that holds a line is retired: no fill takes it and it counts for no lock (R298). -/
def State.retireWay (s : State) (l m row : Nat) : State :=
  match s.findWay l with
  | some w => { s with near.retired := insertNat w s.near.retired }.takeOff 4 w m row
  | none => s

/-- A CLEAN line that was invalidated is filled again, locked where it was; while its bank has a fill outstanding a locked line is loaded
at once and another one by its next access (R206, R208). -/
def State.refill (s : State) (l : Nat) (lock : Bool) : State :=
  if !AMap.has s.near.misses (lineBank l) then (if s.nearOn then s.startFillAs l lock else s)
  else if lock then s.lockLine l else s

/-- The line of an atomic whose write is lost serves again; its bytes are those before the atomic (R202, R286). -/
def State.releaseAtomic (s : State) (g : Gather) : State :=
  match s.findWay (g.media / 64) with
  | some w => { s with near.ways := AMap.upd s.near.ways w (fun x => if x.state = .atomic then { x with state := .dirty } else x) }
  | none => s

/-- A chunk is poisoned while an atomic that is not durable yet holds its line: the atomic writes nothing and returns POISON_RETURNED
(Table 13-6). What its record had still to send is dropped, and its unit is marked (R172). -/
def State.failAtomic (s : State) (l : Nat) : State :=
  match s.eng.gather.find? (fun g => g.atomic && g.media / 64 == l && !Gather.accepted g) with
  | some g =>
    let (v, s) := s.fresh 128
    let f := fun o : Op => ({ o with status := some St.POISON_RETURNED, poisoned := true, placed := []
                                     value := some (v % 2 ^ (8 * atomicWidth o.req.opcode)) } : Op)
    let s := match g.op with | some o => s.updOp o f | none => s
    let s := match g.record with
      | some (q, n) => (s.dropRemainder q n).markUnits (unitsOf g.addr g.data.length)
      | none => s
    (s.loseEntry g).releaseAtomic g
  | none => s

/-- An uncorrectable word of a near-cache line (R208). The row SCRUB reports an SRAM error whether the scrubber or an access met it
(assumption log 177). -/
def State.nearUe (s : State) (l : Nat) : State :=
  match s.findWay l with
  | none => match s.findVictim l with
    | some x => if x.state = .dirty then s.poisonChunks [l]
      else (s.setVictims (lineBank l) ((s.victimsOf (lineBank l)).filter (fun y => y.line != l))).refill l false
    | none => s
  | some w =>
    match s.wayLine w with
    | none => s
    | some x =>
      if x.state = .dirty ∨ x.state = .atomic then (s.failAtomic l).poisonChunks [l]
      else if x.state = .clean then ({ s with near.ways := AMap.del s.near.ways w }.refill l x.lock).nearViews
      else s

/-- An uncorrectable byte of a gather entry (R286): before its operation is acknowledged the operation ends FAULT_INTERNAL;
afterwards the chunk is lost and will be applied poisoned, its unit is marked, and the active yields where its standby is CURRENT. -/
def State.gatherUe (s : State) (id byte : Nat) : State :=
  match s.eng.gather.find? (fun g => g.id == id && decide (byte < g.data.length)) with
  | none => s
  | some g =>
    let open_ := match g.op with
      | some o => s.eng.ops.any (fun x => x.id == o && !x.responded)
      | none => false
    if open_ then
      let s := match g.op with | some o => s.updOp o (fun o => { o with status := some St.FAULT_INTERNAL, held := [] }) | none => s
      let s := match g.record with | some (q, m) => s.dropRemainder q m | none => s
      (s.loseEntry g).releaseAtomic g
    else
      let lose (x : Gather) : Gather := if x.id = id then { x with lost := insertNat ((g.media + byte) / 64) x.lost } else x
      let s := { s with eng.gather := s.eng.gather.map lose }.markUnits (unitsOf (g.addr + byte) 1)
      let s := (s.bump R.INTEG_GATHER_UE 1).raise Ev.INTEGRITY_GATHER_UE []
      let mirrored := match s.lookup g.addr with
        | some e => ((s.region? e.region).map (·.mirrored)).getD false
        | none => false
      if mirrored && s.standbyCurrent && !s.save.active then s.selfTestYield else s

/-! ### Scrubbing (R297) -/

/-- Progress of a pass in percent: 0 DRAM, 1 SRAM, 2 gather buffer (which has no register). A pass that reaches 100 % ends. -/
def State.scrubProgress (s : State) (memory pct : Nat) : State :=
  if memory = 0 then
    if 100 ≤ pct then (s.wr R.INTEG_SCRUB_STATUS_DRAM_PCT 0).bumpSat R.INTEG_SCRUB_STATUS_DRAM_PASSES 0 1
    else s.wr R.INTEG_SCRUB_STATUS_DRAM_PCT pct
  else if memory = 1 then s.wr R.INTEG_SCRUB_STATUS_SRAM_PCT (if 100 ≤ pct then 0 else pct)
  else s

/-- What was found at a place; `ue` says that the code could not correct it. -/
def State.scrubFinding (s : State) (p : ScrubPlace) (ue : Bool) : State :=
  match p with
  | .dram a => if ue then s.dramUe a else s.dramCe a
  | .sram m row kind i =>
    if ue then ((s.sramUe m row).rowOut kind i m row).sramLost kind i
    else
      let s := s.sramCe m row
      if s.rowDue m row then s.rowOut kind i m row else s
  | .near m row l =>
    if ue then ((s.sramUe m row).retireWay l m row).nearUe l
    else
      let s := s.sramCe m row
      if s.rowDue m row then s.retireWay l m row else s
  | .gather m row id byte =>
    let s := if ue then s.sramUe m row else s.sramCe m row
    let s := if ue || s.rowDue m row then s.takeOff 0 (m * 4096 + row) m row else s
    if ue then s.gatherUe id byte else s

/-- SCRUB: a scrubber of one memory reads on, up to `pct` of its pass. None runs during a save but for a gather-buffer finding of step 3
(Table 13-6), and in P2 only the gather buffer is scrubbed. -/
def execScrub (memory pct : Nat) (finding : Option ScrubPlace) (ue : Bool) (s : State) : Host.Outcome State Fault Refusal :=
  .next <|
    let gatherOnly := s.save.active || s.rd R.LIFE_STATE_POWER == 2
    if !s.coreOn || (gatherOnly && memory != 2) then s
    else
      let s := s.scrubProgress memory pct
      match finding with
      | none => s
      | some p =>
        let gather := match p with | .gather _ _ _ _ => true | _ => false
        if gatherOnly && !gather then s else (s.scrubFinding p ue).advanceAll

/-! ### Reloads and repairs (R287, R294) -/

/-- TABLE_RELOAD_COMPLETE of an entry: checks resume; `ok` is false where the journal copy failed too: until the next start the operations
that need the entry end FAULT_INTERNAL (R287). -/
def execTableReloadComplete (kind entry : Nat) (ok : Bool) (s : State) : Host.Outcome State Fault Refusal :=
  .next <|
    if !s.coreOn || !s.integ.reloading.contains (kind, entry) then s
    else
      let s := { s with integ.reloading := s.integ.reloading.filter (· != (kind, entry)) }
      if ok then s.moveWaiters
      else ({ s with integ.failed := s.integ.failed ++ [(kind, entry)] }.raise Ev.INTEGRITY_SRAM_UE []).moveWaiters

/-- The staged tile and page that hold a chunk. -/
def State.tileAt (s : State) (l : Nat) : Option (Tile × Nat) :=
  match s.shelf.tiles.find? (fun t => t.units.contains (l * 64 / unit64K)) with
  | some t => match t.units.findIdx? (· == l * 64 / unit64K) with
    | some i => some (t, (i * unit64K + l * 64 % unit64K) / page4K)
    | none => none
  | none => none

/-- The flash copy of a chunk: its bytes, or none where the flash image holds the mark too. -/
def State.flashChunk (s : State) (l : Nat) : Option (List Byte) :=
  match s.tileAt l with
  | some (t, p) => match s.object? t.object with
    | some x => some (((s.shelfPage x t.object t p).drop (l * 64 % page4K)).take 64)
    | none => none
  | none => match s.localOf (l * 64) with
    | some a => if AMap.has s.mem.imagePoison (a / 64) then none else some (Mem.readN s.mem.image a 64)
    | none => none

/-- POISON_REPAIR_COMPLETE of a chunk; `ok` is false where the flash read failed, and the mark stays. A chunk that a write covered
meanwhile keeps what was written (Table 13-6). -/
def execPoisonRepairComplete (l : Nat) (ok : Bool) (s : State) : Host.Outcome State Fault Refusal :=
  .next <|
    if !s.coreOn || !s.integ.fixing.contains l then s
    else
      let s := { s with integ.fixing := s.integ.fixing.filter (· != l) }
      let s := match s.flashChunk l with
        | some d =>
          if !ok || !AMap.has s.mem.dramPoison l then s
          else
            let s := if AMap.has s.dur.dirty (l / 64) then s else { s with mem.dram := Mem.writeN s.mem.dram (l * 64) d }
            { s with mem.dramPoison := AMap.del s.mem.dramPoison l }.setMark l false
        | none => s
      s.advanceAll

end Sys2Proof.Machine
end

