-- ==== Sys2Proof/Machine/Drains.lean ====
section
/-! DEFINITION. Removals: the drain of the operations that were admitted under a removed access, its limit, and what a removing command
does once nothing runs under it any more (R55, R56, R118, R124, R134, R347, R367). -/

namespace Sys2Proof.Machine

open Sys2Proof

/-! ### Pushes at a worker (R347) -/

/-- A worker has applied, or refuses, the push it holds: PUSH_ACK with STATUS and DETAIL. -/
def State.endPush (s : State) (status detail : Nat) : State :=
  match s.domain.pushing with
  | none => s
  | some a =>
    let seq := a.fields.headD 0
    let s := ({ s with domain.pushing := none, domain.lastPush := max s.domain.lastPush seq }).mirrorChange Carry.LAST_PUSH [seq]
    s.answerDomain { a with epoch := s.rd R.TWIN_TOKEN_EPOCH_VALUE, fields := [seq, status, detail] }

/-! ### Keys that cascade (R367) -/

/-- SHELF regions and WRITABLE regions that name a slot, themselves or through their object. -/
def State.regionsOfKey (s : State) (slot : Nat) : List Nat :=
  (s.prot.regions.filter (fun e => e.2.key == slot || (e.2.shelf && (match s.object? e.2.object with
    | some x => x.key == slot
    | none => false)))).map (·.1)

def State.queuesOfKey (s : State) (slot : Nat) : List Nat := (s.cerga.queues.filter (fun e => e.2.key == slot)).map (·.1)

def State.objectsOfKey (s : State) (slot : Nat) : List Nat := (s.shelf.objects.filter (fun e => e.2.key == slot)).map (·.1)

/-- Whether anything names a slot: a region, an object, a queue, the pairing or the domain membership. -/
def State.keyNamed (s : State) (slot : Nat) : Bool :=
  !(s.regionsOfKey slot).isEmpty || !(s.objectsOfKey slot).isEmpty || !(s.queuesOfKey slot).isEmpty
    || (s.paired && s.twin.pairKey == slot) || (s.rd R.DOMAIN_STATUS_STATE != 0 && s.domain.domainKey == slot)

/-- Steps 3 and 4 of Table 17-4: the slot is gone, contexts under it are lost, and the table is under a new table key. -/
def State.removeSlot (s : State) (slot : Nat) : State :=
  let s := { s with crypt.slots := AMap.del s.crypt.slots slot
                    crypt.contexts := s.crypt.contexts.filter (fun e => e.2.slot != slot) }.newTableKey
  ((s.wr R.CIPHER_TABLE_GEN (s.rd R.CIPHER_TABLE_GEN + 1)).wr R.CIPHER_TABLE_OLD_PENDING 1).keyViews

/-- A region that leaves is reported to the domain. -/
def State.destroyReported (s : State) (id : Nat) : State :=
  match s.region? id with
  | none => s
  | some r => (s.destroyRegion id).reportRegion id 1 r

/-- The destroys of CASCADE, as REGION_DESTROY, SHELF_OBJECT_DROP and QUEUE_DESTROY do them, and the slot itself. -/
def State.cascadeKey (s : State) (slot : Nat) : State :=
  let s := (s.regionsOfKey slot).foldl State.destroyReported s
  let drop (s : State) (o : Nat) : State :=
    let ids := (s.shelf.schedules.filter (fun e => e.2.object == o)).map (·.1)
    (ids.foldl State.dropSchedule s).dropObject o
  let s := (s.objectsOfKey slot).foldl drop s
  ((s.queuesOfKey slot).foldl State.destroyQueue s).removeSlot slot

/-! ### Drains -/

/-- The operations that run under what a command removes. -/
def State.opsUnder (s : State) (r : Removal) : List Nat :=
  let ofQueue (o : Op) (i : Nat) : Bool := match o.req.src with | .cerga j _ => j == i | _ => false
  let under (o : Op) : Bool := match r with
    | .unbind pd region => o.pd == pd && o.region == some region
    | .region id => o.region == some id
    | .shrink id => o.region == some id && (match s.region? id with
      | some x => decide (x.base + x.newSize < o.req.addr % pairSpace + o.req.len)
      | none => false)
    | .pd pd => o.pd == pd
    | .queue i => ofQueue o i
    | .qp q => o.req.src == Source.roce q
    | .qpInit q => o.req.src == Source.roce q
    | .key slot => (match o.region with | some id => (s.regionsOfKey slot).contains id | none => false)
      || (s.queuesOfKey slot).any (ofQueue o)
  (s.eng.ops.filter (fun o => !o.responded && under o)).map (·.id)

/-- What a removal does on this twin once nothing runs under it. -/
def State.applyRemoval (s : State) : Removal → State
  | .unbind pd region => s.unbind pd region
  | .region id => s.destroyReported id
  | .shrink id => match s.region? id with
    | none => s
    | some r =>
      let s := if s.holds r then s.releaseRange id (r.base + r.newSize) (r.size - r.newSize) else s
      let new : Region := { r with state := .active, size := r.newSize }
      (s.setRegion id new).reportRegion id 0 new
  | .pd pd => s.destroyPd pd
  | .queue i => s.destroyQueue i
  | .qp q => s.destroyQp q
  | .qpInit q => s.initQp q
  | .key slot => s.cascadeKey slot

/-- The opcode of the command behind a removal, and the parameters under which the standby and the workers apply it. -/
def State.removalCommand (s : State) : Removal → Nat × List Nat
  | .unbind pd region => (0x0108, [pd, region])
  | .region id => (0x0103, [id])
  | .shrink id => (0x0102, [id, ((s.region? id).map (·.newSize)).getD 0])
  | .pd pd => (0x0106, [pd])
  | .queue i => (0x0202, [s.queueId i])
  | .qp q => (0x0205, [q])
  | .qpInit q => (0x0204, [q, 1, 0, 0, 0, 0, 0, 0, 0, 0])
  | .key slot => (0x0302, [slot])

/-- PD and queue removals are domain-wide (R347). -/
def Removal.wide : Removal → Bool
  | .pd _ => true
  | .queue _ => true
  | _ => false

/-- A drain has ended: the removal takes effect, goes to the standby, and its command or push ends. -/
def State.finishDrain (s : State) (d : Drain) : State :=
  let s := { s with prot.drains := s.prot.drains.erase d }
  let (opcode, params) := s.removalCommand d.removal
  let s := s.applyRemoval d.removal
  match d.cmd.bind (fun id => s.cmds.find? (fun c => c.id == id)) with
  | some c =>
    let s := s.mirrorCommand c params
    if Removal.wide d.removal then s.finishPushed c params 0 else s.finish c.id St.DONE
  | none =>
    let s := s.mirrorChange opcode params
    if d.push.isSome then s.endPush St.DONE 0 else s

/-- Nothing runs any more under what a drain removes, and no data of its operations waits for the twin (R55). -/
def State.drained (s : State) (d : Drain) : Bool :=
  d.ops.isEmpty && s.eng.gather.all (fun g => Gather.accepted g || (match g.op with | some id => !d.all.contains id | none => true))

/-- A removal begins: from now on nothing new is admitted under it; it takes effect at once where nothing runs. What it takes from the shaper
stores makes room for what the ports hold (R331). -/
def State.startDrain (s : State) (cmd push : Option Nat) (r : Removal) : State :=
  let ops := s.opsUnder r
  let d : Drain := ⟨cmd, push, r, ops, ops, s.now + ms (s.rd R.PROT_CTRL_DRAIN_MS)⟩
  let s := { s with prot.drains := s.prot.drains ++ [d] }
  let s := match r with
    | .queue i => { s with cerga.queues := AMap.upd s.cerga.queues i (fun q : QueueRec => ({ q with leaving := true } : QueueRec)) }
    | _ => s
  (if s.drained d then s.finishDrain d else s).drainPorts

/-- DRAIN_COMPLETE of the drain at a place among those that run (R55). -/
def execDrainComplete (place : Nat) (s : State) : Host.Outcome State Fault Refusal :=
  .next <| match s.prot.drains[place]? with
    | some d => if s.coreOn && !s.save.active && s.drained d then s.finishDrain d else s
    | none => s

/-- DRAIN_LIMIT: DRAIN_MS after acceptance the operations that still run are cut PARTIAL (R55). -/
def execDrainLimit (place : Nat) (s : State) : Host.Outcome State Fault Refusal :=
  .next <| match s.prot.drains[place]? with
    | some d => if s.coreOn && !s.save.active && decide (d.limit ≤ s.now) then s.cutOps d.ops true else s
    | none => s

end Sys2Proof.Machine
end

