-- ==== Sys2Proof/Machine/Regions.lean ====
section
/-! DEFINITION. The region and protection-domain commands (R36 to R58, Table 3-6, Table 3-7). -/

namespace Sys2Proof.Machine

open Sys2Proof

/-! ### REGION_CREATE -/

/-- SIZE rounded up to 2 MiB and clamped to 2 MiB to 12 TiB (Table 3-6). -/
def regionSize (n : Nat) : Nat := clampTo unit2M 0xC0000000000 (ceilDiv n unit2M * unit2M)

/-- 1 where SIZE lay outside its limits. -/
def regionSizeMoved (n : Nat) : Nat := if n = 0 ∨ 0xC0000000000 < n then 1 else 0

/-- A range of the pair-local space meets a region other than `skip` (R37). -/
def State.overlaps (s : State) (base n : Nat) (skip : Option Nat) : Bool :=
  s.prot.regions.any (fun e => some e.1 != skip && decide (base < e.2.base + max e.2.size e.2.newSize ∧ e.2.base < base + n))

/-- The lowest free range of `n` bytes. -/
def State.lowestRange (s : State) (n : Nat) : Option Nat :=
  let used := s.prot.regions.map (fun e => (e.2.base, max e.2.size e.2.newSize))
  ((gapsBetween (used.foldl (fun l r => insertRun r l) []) 0 pairSpace).find? (fun g => decide (n ≤ g.2))).map (·.1)

/-- Where a new region goes: the base chosen, or given and checked (R37, Table 3-7). With no range left to choose it is BAD_ADDRESS
(DESIGN CHOICE, assumption log 170). -/
def State.placeRegion (s : State) (base n : Nat) : Except Nat Nat :=
  if base = 0xFFFFFFFFFFFFFFFF then
    match s.lowestRange n with | some b => .ok b | none => .error Why.BAD_ADDRESS
  else if base % unit2M != 0 || decide (pairSpace < base + n) || s.overlaps base n none then .error Why.BAD_ADDRESS
  else .ok base

/-- Table 3-1 for a new region: exactly one of WRITABLE and SHELF, and no MIRRORED shelf. -/
def flagsOk (flags : Nat) : Bool :=
  let w := flags % 2 == 1
  let m := flags / 2 % 2 == 1
  let sh := flags / 4 % 2 == 1
  (w != sh) && !(sh && m)

/-- The region a REGION_CREATE asks for, or the refusal, before anything is allocated; the reasons are tried in the order of the text
below (assumption log 66). -/
def State.newRegion (s : State) (base size flags object key : Nat) : Except Nat (Nat × Region) :=
  let sh := flags / 4 % 2 == 1
  if !flagsOk flags then .error Why.BAD_FLAGS
  else
    let found : Except Nat Nat := if sh then match s.object? object with
        | none => .error Why.NOT_FOUND
        | some x => if x.state == .loading then .error Why.NOT_READY else .ok (ceilDiv (Object.mapped x) unit2M * unit2M)
      else .ok (regionSize size)
    match found with
    | .error e => .error e
    | .ok n =>
      if !s.keyOk key Slot.TENANT then .error Why.BAD_KEY
      else match AMap.free s.prot.regions 0 262144, s.placeRegion base n with
        | none, _ => .error Why.TABLE_FULL
        | _, .error e => .error e
        | some id, .ok b =>
          .ok (id, { state := if sh then .active else .creating, base := b, size := n, newSize := n, writable := !sh,
                     mirrored := flags / 2 % 2 == 1, shelf := sh,
                     scheduled := sh && s.shelf.schedules.any (fun e => e.2.object == object), pinNear := flags / 16 % 2 == 1,
                     object := if sh then object else 0, key, account := 0, owner := s.side })

/-- The parameters under which the standby enters a region. -/
def regionParams (id : Nat) (r : Region) : List Nat :=
  [id, r.base, r.size, Region.flags r, r.object, r.key, r.owner]

/-- A region is there for good: the standby enters it and the domain hears of it. -/
def State.settleRegion (s : State) (c : Cmd) (id : Nat) (r : Region) : State :=
  ((s.mirrorCommand c (regionParams id r)).reportRegion id 0 r).endCmd c.id St.DONE 0 (pack [(4, id), (8, r.base)])

/-- REGION_CREATE. `peer` is the reason the standby reports where it cannot make its own allocation, 0 for none (R57). -/
def execRegionCreate (r : CmdRef) (base size flags object key peer : Nat) (s : State) : Host.Outcome State Fault Refusal :=
  .next <| s.command r 0x0101 (fun c s => s.ifHolder c (fun s =>
    if s.outboxFull then s.finish c.id St.BUSY
    else if s.inDomain && s.domain.dirFull then s.refuse c.id Why.DIRECTORY_FULL
    else match s.newRegion base size flags (object % 262144) key with
      | .error e => s.refuse c.id e
      | .ok (id, x) => match s.createRegion id x with
        | .error e => s.refuse c.id e
        | .ok t =>
          if x.mirrored && s.twinAccepts && peer != 0 then s.refuse c.id peer
          else
            let t := t.clamped (if x.shelf then 0 else regionSizeMoved size)
            if x.shelf then t.settleRegion c id x
            else { t with prot.creating := AMap.set t.prot.creating id c.id }))

/-! ### REGION_RESIZE and ZERO_FILL_COMPLETE -/

/-- The refusals of REGION_RESIZE that need no allocation. -/
def State.resizeVerdict (s : State) (id n : Nat) : Except Nat Region :=
  match s.region? id with
  | none => .error Why.NOT_FOUND
  | some r =>
    if s.isDirectory id then .error Why.IN_USE
    else if r.shelf then .error Why.BAD_FLAGS
    else if r.state != .active then .error Why.BUSY_REGION
    else if decide (pairSpace < r.base + n) || s.overlaps r.base n (some id) then .error Why.BAD_ADDRESS
    else .ok r

/-- A region that ends RESIZING at its new size, with the standby told. -/
def State.settleResize (s : State) (c : Cmd) (id : Nat) (r : Region) (n : Nat) : State :=
  let new : Region := { r with state := .active, size := n, newSize := n }
  (((s.setRegion id new).mirrorCommand c [id, n]).reportRegion id 0 new).protViews.finish c.id St.DONE

/-- REGION_RESIZE: a grow allocates and is filled with zeros; a shrink drains the removed range first (R40, R41, R55). A side that does
not hold the region's data changes the record alone (assumption log 41). -/
def execRegionResize (r : CmdRef) (region newSize peer : Nat) (s : State) : Host.Outcome State Fault Refusal :=
  .next <| s.command r 0x0102 (fun c s => s.ifHolder c (fun s =>
    let id := region % 262144
    let n := regionSize newSize
    if s.outboxFull then s.finish c.id St.BUSY
    else match s.resizeVerdict id n with
      | .error e => s.refuse c.id e
      | .ok x =>
        let count (s : State) : State := s.clamped (regionSizeMoved newSize)
        if n = x.size then (count s).finish c.id St.DONE
        else if x.size < n then
          match s.growRegion id x n with
          | .error e => s.refuse c.id e
          | .ok t =>
            if x.mirrored && s.twinAccepts && peer != 0 then s.refuse c.id peer
            else if !s.holds x then (count t).settleResize c id x n
            else
              let t := (count t).setRegion id { x with state := .resizing, newSize := n }
              { t with prot.creating := AMap.set t.prot.creating id c.id }
        else
          let t := (count s).setRegion id { x with state := .resizing, newSize := n }
          t.startDrain (some c.id) none (.shrink id)))

/-- ZERO_FILL_COMPLETE: the zeros of a new region or of a grow are in DRAM, the region is ACTIVE, and its command ends (R40,
R41). -/
def execZeroFillComplete (region : Nat) (s : State) : Host.Outcome State Fault Refusal :=
  .next <| match AMap.get? s.prot.creating region, s.region? region with
    | some cmd, some r =>
      if !s.coreOn || s.save.active then s
      else
        let s := { s with prot.creating := AMap.del s.prot.creating region }
        match s.cmds.find? (fun c => c.id == cmd) with
        | none => s
        | some c =>
          if r.state == .creating then
            let new : Region := { r with state := .active }
            ((s.zeroFill r.base r.size).setRegion region new).settleRegion c region new
          else (s.zeroFill (r.base + r.size) (r.newSize - r.size)).settleResize c region r r.newSize
    | _, _ => s

/-! ### REGION_DESTROY and REGION_SET_FLAGS -/

/-- REGION_DESTROY: the region is DESTROYING until nothing runs in it (R55, R56). -/
def execRegionDestroy (r : CmdRef) (region : Nat) (s : State) : Host.Outcome State Fault Refusal :=
  .next <| s.command r 0x0103 (fun c s => s.ifHolder c (fun s =>
    let id := region % 262144
    if s.outboxFull then s.finish c.id St.BUSY
    else match s.region? id with
      | none => s.refuse c.id Why.NOT_FOUND
      | some x =>
        if s.isDirectory id then s.refuse c.id Why.IN_USE
        else if x.state != .active then s.refuse c.id Why.BUSY_REGION
        else (s.setRegion id { x with state := .destroying }).startDrain (some c.id) none (.region id)))

/-- Whether the flags a REGION_SET_FLAGS would leave are a combination of Table 3-1. -/
def Region.flagsValid (r : Region) : Bool := (r.writable != r.shelf) && !(r.shelf && r.mirrored)

/-- REGION_SET_FLAGS. Setting MIRRORED starts a region resync (R57); on a region whose data only the other side holds it is refused
WRONG_ROLE (assumption log 49). -/
def execRegionSetFlags (r : CmdRef) (region set clear peer : Nat) (s : State) : Host.Outcome State Fault Refusal :=
  .next <| s.command r 0x0104 (fun c s => s.ifHolder c (fun s =>
    let id := region % 262144
    if s.outboxFull then s.finish c.id St.BUSY
    else match s.region? id with
      | none => s.refuse c.id Why.NOT_FOUND
      | some x =>
        let new := Region.withFlags x set clear
        let masks := set ||| clear
        if x.state != .active then s.refuse c.id Why.BUSY_REGION
        else if masks.testBit 0 || masks.testBit 2 || !Region.flagsValid new then s.refuse c.id Why.BAD_FLAGS
        else if new.mirrored && !x.mirrored && x.owner != s.side then s.refuse c.id Why.WRONG_ROLE
        else if new.mirrored && !x.mirrored && s.twinAccepts && peer != 0 then s.refuse c.id peer
        else match s.setRegionFlags id x set clear s.side with
          | .error e => s.refuse c.id e
          | .ok t =>
            let t := t.mirrorCommand c [id, set, clear, s.side]
            let t := match t.region? id with | some y => t.reportRegion id 0 y | none => t
            let t := if new.mirrored && !x.mirrored then (t.markUnits (unitsOf x.base x.size)).startResync false (some c.id) else t
            t.finish c.id St.DONE))

/-! ### Protection domains and bindings -/

/-- PD_CREATE (R47, R48). -/
def execPdCreate (r : CmdRef) (pd : Nat) (s : State) : Host.Outcome State Fault Refusal :=
  .next <| s.command r 0x0105 (fun c s => s.ifHolder c (fun s => s.ifDomainWide c (fun s =>
    let found := if pd = 0xFFFFFFFF then AMap.free s.prot.pds 0 65536 else some (pd % 65536)
    match found with
    | none => s.refuse c.id Why.TABLE_FULL
    | some p =>
      if AMap.has s.prot.pds p then s.refuse c.id Why.IN_USE
      else ((s.createPd p).mirrorCommand c [p]).finishPushed c [p] (pack [(4, p)]))))

/-- Queues or QPs belong to a PD (R56). -/
def State.pdInUse (s : State) (p : Nat) : Bool := s.cerga.queues.any (fun e => e.2.pd == p) || s.roce.qps.any (fun e => e.2.pd == p)

/-- PD_DESTROY (R56). -/
def execPdDestroy (r : CmdRef) (pd : Nat) (s : State) : Host.Outcome State Fault Refusal :=
  .next <| s.command r 0x0106 (fun c s => s.ifHolder c (fun s => s.ifDomainWide c (fun s =>
    let p := pd % 65536
    if !AMap.has s.prot.pds p || s.prot.drains.any (fun d => d.removal == .pd p) then s.refuse c.id Why.NOT_FOUND
    else if s.pdInUse p then s.refuse c.id Why.IN_USE
    else s.startDrain (some c.id) none (.pd p))))

/-- A removal of the binding drains: a PD_BIND_REGION of the pair waits until the removal has ended (DESIGN CHOICE, assumption log 171). -/
def State.unbinding (s : State) (p id : Nat) : Bool :=
  s.prot.drains.any (fun d => d.removal == .unbind p id || d.removal == .pd p)

/-- PD_BIND_REGION (R51). -/
def execPdBindRegion (r : CmdRef) (pd region access : Nat) (s : State) : Host.Outcome State Fault Refusal :=
  .next <| s.command r 0x0107 (fun c s => s.ifHolder c (fun s =>
    let p := pd % 65536
    let id := region % 262144
    let rw := access == 1
    match AMap.get? s.prot.pds p, s.region? id with
    | none, _ => s.refuse c.id Why.NOT_FOUND
    | _, none => s.refuse c.id Why.NOT_FOUND
    | some _, some x =>
      if x.state == .creating || x.state == .destroying then s.refuse c.id Why.BUSY_REGION
      else if rw && x.shelf then s.refuse c.id Why.BAD_ACCESS
      else if s.unbinding p id then s.updCmd c.id (fun k => { k with phase := .fetched })
      else if !AMap.has s.prot.bindings (bindKey p id) && decide (524288 ≤ s.prot.bindings.length) then s.refuse c.id Why.TABLE_FULL
      else
        let s := (s.bind p id rw).mirrorCommand c [p, id, if rw then 1 else 0]
        (s.clamped (if 1 < access then 1 else 0)).finish c.id St.DONE))

/-- PD_UNBIND_REGION (R51, R55). A pair that is not bound, or is being unbound, is NOT_FOUND (DESIGN CHOICE, assumption log 172). -/
def execPdUnbindRegion (r : CmdRef) (pd region : Nat) (s : State) : Host.Outcome State Fault Refusal :=
  .next <| s.command r 0x0108 (fun c s => s.ifHolder c (fun s =>
    let p := pd % 65536
    let id := region % 262144
    match AMap.get? s.prot.pds p, s.region? id with
    | none, _ => s.refuse c.id Why.NOT_FOUND
    | _, none => s.refuse c.id Why.NOT_FOUND
    | some _, some x =>
      if s.isDirectory id then s.refuse c.id Why.IN_USE
      else if x.state == .creating || x.state == .destroying then s.refuse c.id Why.BUSY_REGION
      else if !AMap.has s.prot.bindings (bindKey p id) || s.prot.drains.any (fun d => d.removal == .unbind p id) then
        s.refuse c.id Why.NOT_FOUND
      else s.startDrain (some c.id) none (.unbind p id)))

/-- SPACEKEY_SET: the key is replaced at once, and the old one goes on matching for GRACE_MS from the completion (R48, R50). -/
def execSpacekeySet (r : CmdRef) (pd key grace : Nat) (s : State) : Host.Outcome State Fault Refusal :=
  .next <| s.command r 0x0109 (fun c s => s.ifHolder c (fun s => s.ifDomainWide c (fun s =>
    let p := pd % 65536
    let g := clampTo 0 10000 grace
    if !AMap.has s.prot.pds p then s.refuse c.id Why.NOT_FOUND
    else
      let s := s.setSpaceKey p key g none
      let s := { s with prot.grace := (s.prot.grace.filter (fun e : Nat × Nat × Nat => e.2.1 != p)) ++ (if g = 0 then [] else [(c.id, p, ms g)]) }
      ((s.clamped (moved g grace)).mirrorCommand c [p, key, g]).finishPushed c [p, key, g] 0)))

/-- GRACE_PERIOD_END: the previous key of a PD stops matching (R50). -/
def execGracePeriodEnd (pd : Nat) (s : State) : Host.Outcome State Fault Refusal :=
  .next <| match AMap.get? s.prot.pds pd with
    | some p =>
      if s.coreOn && due s.now (AMap.get? s.prot.graceEnds pd) then
        { s with prot.pds := AMap.set s.prot.pds pd { p with prev := none }, prot.graceEnds := AMap.del s.prot.graceEnds pd }
      else s
    | none => s

end Sys2Proof.Machine
end

