-- ==== Sys2Proof/Machine/Queues.lean ====
section
/-! DEFINITION. The commands of Cerga queues and RoCEv2 QPs (R93, R118, R123, R124, R134, Table 5-12, Table 6-4). -/

namespace Sys2Proof.Machine

open Sys2Proof

/-! ### Queues -/

/-- The refusals of QUEUE_CREATE (R93, R361, Table 5-12). -/
def State.queueVerdict (s : State) (id pd key : Nat) : Option Nat :=
  let i := id % 2 ^ 22
  if AMap.has s.cerga.queues i || AMap.get? s.cerga.destroyed i == some (id / 2 ^ 22) then some Why.IN_USE
  else if !AMap.has s.prot.pds pd then some Why.NOT_FOUND
  else if !s.keyOk key Slot.QUEUE then some Why.BAD_KEY
  else none

/-- What travels with a pushed QUEUE_CREATE: its fields and the key of the slot it names (R366). -/
def State.queueParams (s : State) (id pd key : Nat) : List Nat :=
  [id, pd, key, ((AMap.get? s.crypt.slots key).map (·.key)).getD 0]

/-- QUEUE_CREATE. -/
def execQueueCreate (r : CmdRef) (id pd key : Nat) (s : State) : Host.Outcome State Fault Refusal :=
  .next <| s.command r 0x0201 (fun c s => s.ifHolder c (fun s => s.ifDomainWide c (fun s =>
    let q := id % 2 ^ 32
    let p := pd % 65536
    match s.queueVerdict q p key with
    | some e => s.refuse c.id e
    | none => ((s.createQueue q p key).mirrorCommand c [q, p, key]).finishPushed c (s.queueParams q p key) 0)))

/-- A queue record with exactly this QUEUE_ID that no command is removing. -/
def State.queueHeld (s : State) (id : Nat) : Bool :=
  let i := id % 2 ^ 22
  (match AMap.get? s.cerga.queues i with
  | some q => q.gen == id / 2 ^ 22 && !q.leaving
  | none => false)

/-- QUEUE_DESTROY: packets that are not admitted go at once, and the record after the drain (R118). -/
def execQueueDestroy (r : CmdRef) (id : Nat) (s : State) : Host.Outcome State Fault Refusal :=
  .next <| s.command r 0x0202 (fun c s => s.ifHolder c (fun s => s.ifDomainWide c (fun s =>
    let q := id % 2 ^ 32
    if !s.queueHeld q then s.refuse c.id Why.NOT_FOUND
    else (s.dropUnadmitted (q % 2 ^ 22)).startDrain (some c.id) none (.queue (q % 2 ^ 22)))))

/-! ### QPs -/

/-- QP_CREATE. With no FREE QPN left it is refused TABLE_FULL (DESIGN CHOICE, assumption log 187). -/
def execQpCreate (r : CmdRef) (num pd : Nat) (s : State) : Host.Outcome State Fault Refusal :=
  .next <| s.command r 0x0203 (fun c s => s.ifHolder c (fun s =>
    let p := pd % 65536
    let found : Except Nat Nat := if num = 0xFFFFFFFF then
        match AMap.free s.roce.qps 0 262144 with | some q => .ok q | none => .error Why.TABLE_FULL
      else match qpIndex (num % 2 ^ 24) with | some q => .ok q | none => .error Why.NOT_FOUND
    match found with
    | .error e => s.refuse c.id e
    | .ok q =>
      if AMap.has s.roce.qps q then s.refuse c.id Why.IN_USE
      else if !AMap.has s.prot.pds p then s.refuse c.id Why.NOT_FOUND
      else ((s.createQp q p).mirrorCommand c [q, p]).endCmd c.id St.DONE 0 (pack [(4, qpn q)])))

/-- STATE of QP_MODIFY; other codes are taken as ERR. -/
def qpTarget (code : Nat) : Nat := if code = 1 ∨ code = 2 ∨ code = 3 then code else 6

/-- Whether a QP may move from its state to the one asked for (R123, Table 6-3). -/
def qpMayMove (x : Qp) (goal : Nat) : Bool := goal == 1 || goal == 6 || x.state != .err

/-- The clamps of a QP_MODIFY; only a move to RTR uses the further fields. -/
def qpClamps (state maxRd hop : Nat) : Nat :=
  moved (qpTarget state) state + (if state = 2 then moved (clampTo 1 16 maxRd) maxRd + moved (clampTo 1 255 hop) hop else 0)

/-- QP_MODIFY; a move to INIT waits for the drain of the operations that hold tags (R134). A FREE QP can make no transition of Table 6-3,
so it is refused BAD_FLAGS. -/
def execQpModify (r : CmdRef) (num state : Nat) (p : QpParams) (s : State) : Host.Outcome State Fault Refusal :=
  .next <| s.command r 0x0204 (fun c s => s.ifHolder c (fun s =>
    let goal := qpTarget state
    let k := qpClamps state p.maxRd p.hop
    let p : QpParams := { p with maxRd := clampTo 1 16 p.maxRd, hop := clampTo 1 255 p.hop }
    match qpIndex (num % 2 ^ 24) with
    | none => s.refuse c.id Why.NOT_FOUND
    | some q => match s.qp? q with
    | none => s.refuse c.id Why.BAD_FLAGS
    | some x =>
      if s.prot.drains.any (fun d => d.removal == .qp q) then s.refuse c.id Why.NOT_FOUND
      else if !qpMayMove x goal then s.refuse c.id Why.BAD_FLAGS
      else
        let s := s.clamped k
        if goal = 1 then s.startDrain (some c.id) none (.qpInit q)
        else
          let ps := [q, goal, p.maxRd, p.minRnr, p.tclass, p.dqpn, p.psn, p.dip, p.flow, p.hop]
          let s := if goal = 2 ∨ goal = 3 ∨ x.state = .err then s.modifyQp q goal p
            else (s.setQpErr q x).cmdEvent c Ev.ROCE_QP_ERROR [(4, qpn q), (4, x.epsn), (1, St.DONE)]
          ((s.mirrorCommand c ps).roceViews).finish c.id St.DONE))

/-- QP_DESTROY: parked packets and requests not admitted go at once, the QP after the drain (R124, R134). -/
def execQpDestroy (r : CmdRef) (num : Nat) (s : State) : Host.Outcome State Fault Refusal :=
  .next <| s.command r 0x0205 (fun c s => s.ifHolder c (fun s =>
    match qpIndex (num % 2 ^ 24) with
    | none => s.refuse c.id Why.NOT_FOUND
    | some q =>
      if !AMap.has s.roce.qps q || s.prot.drains.any (fun d => d.removal == .qp q) then s.refuse c.id Why.NOT_FOUND
      else (s.dropParked q).startDrain (some c.id) none (.qp q)))

end Sys2Proof.Machine
end

