-- ==== Sys2Proof/Machine/Keys.lean ====
section
/-! DEFINITION. The key commands, host cryptography, contexts, and cluster faults (R356 to R376). -/

namespace Sys2Proof.Machine

open Sys2Proof

/-! ### KEY_COMMIT (R363 to R366) -/

/-- The key of SOURCE REGISTERS: the eight words, byte 4n + i in bits 8i + 7 to 8i of word n. -/
def State.registerKey (s : State) : Nat := pack ((rangeFrom 0 8).map (fun n => (4, (AMap.get? s.keyRegs n).getD 0)))

/-- The key registers are cleared (R363). -/
def State.clearKeyRegs (s : State) : State := { s with keyRegs := [] }.wr R.CIPHER_KEY_WORDS_WRITTEN 0

/-- The key of SOURCE WRAPPED: the 48-byte blob, as a big-endian number, unwrapped under a suitable slot (R364, R365). -/
def State.blobKey (s : State) (blob wrapId id type flags : Nat) : Option Nat :=
  let wrapping := match s.keySlot? wrapId Slot.PAIRING with
    | some k => some k
    | none => s.keySlot? wrapId Slot.DOMAIN
  wrapping.bind (fun k => unwrapKey k.key blob type flags id)

/-- KEY_COMMIT. The key goes to the standby with its slot, type and flags (R366). -/
def execKeyCommit (r : CmdRef) (id type source flags wrapId blob : Nat) (s : State) : Host.Outcome State Fault Refusal :=
  .next <| s.command r 0x0301 (fun c s => s.ifHolder c (fun s =>
    let k := id % 65536
    let ty := if 1 ≤ type ∧ type ≤ 6 then type else 1
    let src := if source ≤ 2 then source else 0
    let commit (s : State) (key : Nat) : State :=
      let s := s.commitSlot k ty (flags % 2 == 1) key
      ((s.mirrorCommand c [k, ty, flags % 2, key]).clamped (moved ty type + moved src source)).finish c.id St.DONE
    if k = 0 then s.refuse c.id Why.BAD_KEY
    else if AMap.has s.crypt.slots k then s.refuse c.id Why.KEY_IN_USE
    else if src = 0 then
      let (key, s) := s.fresh 256
      commit s key
    else if src = 1 then
      if s.rd R.CIPHER_KEY_WORDS_WRITTEN != 255 || s.registerKey == 0 then s.refuse c.id Why.BAD_KEY
      else commit s.clearKeyRegs s.registerKey
    else match s.blobKey blob (wrapId % 65536) k ty flags with
      | some key => commit s key
      | none => s.refuse c.id Why.BAD_KEY))

/-! ### KEY_DESTROY (R367) -/

/-- Step 1 of Table 17-4: the slot is DESTROYING, its regions deny new operations, and its queues drop what is not admitted. -/
def State.beginDestroy (s : State) (k : Nat) : State :=
  let leave := fun x : Region => ({ x with state := .destroying } : Region)
  let s := (s.regionsOfKey k).foldl (fun s id => { s with prot.regions := AMap.upd s.prot.regions id leave }) s
  let s := (s.queuesOfKey k).foldl State.dropUnadmitted s
  let gone := fun x : KeySlot => ({ x with destroying := true } : KeySlot)
  { s with crypt.slots := AMap.upd s.crypt.slots k gone }

/-- A region that names the slot is itself changing, so that the cascade waits for it (assumption log 50). -/
def State.cascadeWaits (s : State) (k : Nat) : Bool :=
  (s.regionsOfKey k).any (fun id => match s.region? id with | some x => x.state != .active | none => false)

/-- KEY_DESTROY. -/
def execKeyDestroy (r : CmdRef) (id flags : Nat) (s : State) : Host.Outcome State Fault Refusal :=
  .next <| s.command r 0x0302 (fun c s => s.ifHolder c (fun s =>
    let k := id % 65536
    match AMap.get? s.crypt.slots k with
    | none => s.refuse c.id Why.BAD_KEY
    | some x =>
      if x.destroying then s.refuse c.id Why.BAD_KEY
      else if flags % 2 = 0 ∧ s.keyNamed k then s.refuse c.id Why.KEY_IN_USE
      else if s.cascadeWaits k then s.updCmd c.id (fun c => { c with phase := .fetched })
      else (s.beginDestroy k).startDrain (some c.id) none (.key k)))

/-- OLD_TABLE_KEY_ERASED: the keeper has erased the sector that held the old table key (step 6); generation g stands in sector 3 + g modulo 4
(R418). -/
def execOldTableKeyErased (s : State) : Host.Outcome State Fault Refusal :=
  .next <| match s.crypt.erasing with
    | [] => s
    | _ :: rest =>
      if !s.keeper.powered then s
      else
        let old := 3 + (s.rd R.CIPHER_TABLE_GEN - (rest.length + 1)) % 4
        let s := { (s.flagStarted old).countErase old with crypt.erasing := rest }
        (s.flag R.CIPHER_TABLE_OLD_PENDING (!rest.isEmpty)).raise Ev.CIPHER_KEY_DESTROYED []

/-! ### CIPHER_OP (R369, R371, R373) -/

/-- Table 17-6; `before` is what the context has processed. -/
def CipherParams.overLimit (p : CipherParams) (before : Nat) : Bool :=
  let big := 0x1000000
  if p.mode ≤ 1 then decide (p.len < 16 ∨ big < p.len)
  else if p.mode ≤ 3 then decide (big < p.len ∨ 2 ^ 36 - 32 < before + p.len ∨ 65536 < p.aad) || (p.aad != 0 && !p.first)
  else decide (big < p.len)

/-- The bytes after the AAD: plaintext, ciphertext or message. -/
def CipherParams.body (p : CipherParams) : List Byte := (p.data.drop (if p.mode = 4 then 0 else p.aad)).take p.len

/-- The XTS key pair of a HOST slot; the spec gives such a slot one key and no derivation, so the pair is open (assumption log 203). -/
def hostPair (key : Nat) : Nat := Config.crypto 34 [key]

/-- XTS: one data unit under the tweak; one command is one operation. -/
def State.runXts (s : State) (c : Cmd) (p : CipherParams) (key : Nat) : State :=
  (s.send (.hostWrite p.out (xtsPair (p.mode == 0) (hostPair key) p.iv (CipherParams.body p)))).finish c.id St.DONE

/-- A context as FIRST opens it: the initialisation vector of GCM_ENC is the H9's own (Table 17-5), and the counter block 1 is kept for the
tag. Its accumulator has taken the AAD (R373). -/
def CipherContext.opened (p : CipherParams) (k : KeySlot) : CipherContext :=
  let iv := if p.mode = 2 then p.slot * 2 ^ 80 + k.counter else if p.mode = 3 then beNat (leBytes 12 p.iv) else 0
  let aad := if p.mode = 4 then [] else p.data.take p.aad
  { mode := p.mode, slot := p.slot, gen := k.gen, bytes := 0, aad := aad.length, iv, block := if p.mode = 4 then 0 else 2
    acc := beBytes 16 (ghash (gcmHashKey k.key) 0 (pad16 aad)), part := [] }

/-- What GCM makes of the next bytes of a context, from its block counter on. -/
def CipherContext.crypt (x : CipherContext) (key : Nat) (body : List Byte) : List Byte :=
  (gcmCrypt key x.iv x.block (x.part ++ body)).drop x.part.length

/-- A context after `text`, ciphertext for GCM and message for CMAC: whole blocks go into the accumulator, but CMAC keeps the last one back. -/
def CipherContext.advance (x : CipherContext) (key : Nat) (text : List Byte) : CipherContext :=
  let all := x.part ++ text
  let n := if x.mode = 4 then cmacBody all.length else all.length / 16 * 16
  let acc := if x.mode = 4 then cmacChain key x.acc (blocks16 (n / 16) all)
    else beBytes 16 (ghash (gcmHashKey key) (beNat x.acc) (all.take n))
  { x with bytes := x.bytes + text.length, block := if x.mode = 4 then 0 else x.block + n / 16, part := all.drop n, acc }

/-- The 16-byte tag that a context ends with. -/
def CipherContext.tag (x : CipherContext) (key : Nat) : List Byte :=
  if x.mode = 4 then cmacFinish key x.acc x.part
  else gcmSeal key x.iv (ghash (gcmHashKey key) (beNat x.acc) (pad16 x.part)) x.aad x.bytes

def State.setContext (s : State) (i : Nat) (x : Option CipherContext) : State :=
  (match x with
  | some x => { s with crypt.contexts := AMap.set s.crypt.contexts i x }
  | none => { s with crypt.contexts := AMap.del s.crypt.contexts i }).keyViews

/-- One command of a GCM or CMAC operation on the context as it stands before it. -/
def State.runStream (s : State) (c : Cmd) (p : CipherParams) (key : Nat) (x : CipherContext) : State :=
  let body := CipherParams.body p
  let out := if p.mode = 4 then [] else x.crypt key body
  let y := x.advance key (if p.mode = 2 then out else body)
  let tag := y.tag key
  let given := (p.data.drop (p.aad + p.len)).take 16
  let s := s.setContext p.context (if p.last then none else some y)
  if p.mode = 3 && p.last && given != tag then
    let s := (s.send (.hostWrite p.out (List.replicate p.len 0))).bump R.CIPHER_HOST_TAG_FAIL 1
    s.refuse c.id Why.TAG_MISMATCH
  else
    let bytes := if p.mode = 4 then (if p.last then tag else []) else out ++ (if p.mode = 2 && p.last then tag else [])
    let s := if bytes.isEmpty then s else s.send (.hostWrite p.out bytes)
    s.endCmd c.id St.DONE 0 (if p.mode = 2 && p.first then leNat (beBytes 12 x.iv) else 0)

/-- The slot's counter moves on with each initialisation vector it gives (R369). -/
def State.nextVector (s : State) (slot : Nat) : State :=
  { s with crypt.slots := AMap.upd s.crypt.slots slot (fun k : KeySlot => ({ k with counter := k.counter + 1 } : KeySlot)) }

/-- CIPHER_OP. -/
def execCipherOp (r : CmdRef) (params : CipherParams) (s : State) : Host.Outcome State Fault Refusal :=
  .next <| s.command r 0x0303 (fun c s =>
    if params.input % 64 != 0 || params.out % 64 != 0 then s.refuse c.id Why.BAD_PARAM else
    let p : CipherParams := { params with mode := if 4 < params.mode then 4 else params.mode }
    let held := AMap.get? s.crypt.contexts p.context
    let s0 := s.clamped (moved p.mode params.mode)
    match s.keySlot? p.slot Slot.HOST with
    | none => s.refuse c.id Why.BAD_KEY
    | some k =>
      if p.mode ≤ 1 then
        if CipherParams.overLimit p 0 then s.finish c.id St.DENIED_CIPHER_LIMIT else s0.runXts c p k.key
      else
        let fits : Bool := match held with
          | some x => !p.first && x.mode == p.mode && x.slot == p.slot
          | none => p.first
        if !fits then s.refuse c.id Why.BAD_PARAM
        else if CipherParams.overLimit p ((held.map (·.bytes)).getD 0) then s.finish c.id St.DENIED_CIPHER_LIMIT
        else match held with
          | some x => s0.runStream c p k.key x
          | none => (if p.mode = 2 then s0.nextVector p.slot else s0).runStream c p k.key (CipherContext.opened p k))

/-! ### CONTEXT_SAVE and CONTEXT_RESTORE (R374, Table 17-7) -/

/-- The 128 bytes of Table 17-7. -/
def CipherContext.record (x : CipherContext) : List Byte :=
  leBytes 1 x.mode ++ leBytes 1 x.part.length ++ leBytes 2 x.slot ++ leBytes 4 x.gen ++ leBytes 8 x.bytes ++ leBytes 8 x.aad
    ++ beBytes 12 x.iv ++ leBytes 4 x.block ++ x.acc ++ (x.part ++ List.replicate (16 - x.part.length) 0) ++ leBytes 56 0

/-- Reads a record back. -/
def contextOf (d : List Byte) : CipherContext :=
  let at_ (o n : Nat) : Nat := leNat ((d.drop o).take n)
  { mode := at_ 0 1, slot := at_ 2 2, gen := at_ 4 4, bytes := at_ 8 8, aad := at_ 16 8, iv := beNat ((d.drop 24).take 12), block := at_ 36 4,
    acc := (d.drop 40).take 16, part := (d.drop 56).take (min 16 (at_ 1 1)) }

/-- The key that wraps a context record: derived from the media key (R374), with the context of 32 zero bits that Table 17-2 gives the media
key (assumption log 203). -/
def State.contextKey (s : State) : Nat := kdfKey s.crypt.mediaKey "CRUCIBLE-CTX" (beBytes 4 0)

/-- Whether a context may leave or enter in clear: an EXPORTABLE slot, and not GCM_ENC. -/
def State.clearAllowed (s : State) (x : CipherContext) : Bool :=
  x.mode != 2 && (match s.keySlot? x.slot Slot.HOST with | some k => k.exportable | none => false)

/-- CONTEXT_SAVE; the context stays. -/
def execContextSave (r : CmdRef) (context form addr : Nat) (s : State) : Host.Outcome State Fault Refusal :=
  .next <| s.command r 0x0304 (fun c s =>
    let f := if form = 1 then 1 else 0
    if addr % 64 != 0 then s.refuse c.id Why.BAD_PARAM else
    match AMap.get? s.crypt.contexts context with
    | none => s.refuse c.id Why.NOT_FOUND
    | some x =>
      if f = 1 && !s.clearAllowed x then s.refuse c.id Why.BAD_KEY
      else
        let plain := x.record
        let bytes := if f = 1 then plain else keyWrap s.contextKey (plain.take 112) ++ leBytes 8 0
        ((s.clamped (moved f form)).send (.hostWrite addr bytes)).finish c.id St.DONE)

/-- CONTEXT_RESTORE of the 128-byte record in host memory. -/
def execContextRestore (r : CmdRef) (context form addr : Nat) (record : List Byte) (s : State) : Host.Outcome State Fault Refusal :=
  .next <| s.command r 0x0305 (fun c s =>
    let f := if form = 1 then 1 else 0
    if addr % 64 != 0 || AMap.has s.crypt.contexts context then s.refuse c.id Why.BAD_PARAM
    else match (if f = 1 then some record else keyUnwrap s.contextKey (record.take 120)).map contextOf with
      | none => s.refuse c.id Why.BAD_KEY
      | some x =>
        let fits : Bool := match s.keySlot? x.slot Slot.HOST with
          | some k => if f = 1 then s.clearAllowed x else k.gen == x.gen
          | none => false
        if fits then ((s.clamped (moved f form)).setContext context (some x)).finish c.id St.DONE
        else s.refuse c.id Why.BAD_KEY)

/-! ### Clusters (R358) -/

/-- A CIPHER_OP that had blocks in the lost cluster ends, and its context is cleared (Table 17-8). -/
def State.failCipherOp (s : State) (w : CmdRef × Nat) : State :=
  match s.cmds.find? (fun c => c.ring == w.1.ring && c.slot == w.1.slot && c.opcode == 0x0303 && c.phase == .fetched) with
  | none => s
  | some c => (s.setContext w.2 none).finish c.id St.FAULT_INTERNAL

/-- CLUSTER_FAULT of a cluster, with the tags of the operations and the CIPHER_OP commands (with their contexts) that had a block in
it. Below seven clusters the H9 stops serving (R359). -/
def execClusterFault (cluster : Nat) (tags : List Nat) (hosts : List (CmdRef × Nat)) (s : State) : Host.Outcome State Fault Refusal :=
  .next <|
    let ok := s.rd R.CIPHER_STATUS_CLUSTERS_OK
    if !s.coreOn || !ok.testBit cluster || decide (8 ≤ cluster) then s
    else
      let s := (s.wr R.CIPHER_STATUS_CLUSTERS_OK (ok - 2 ^ cluster)).paceViews
      let s := (s.eng.ops.filter (fun o => tags.contains o.tag && !o.responded)).foldl (fun s o => s.endOp o.id St.FAULT_INTERNAL) s
      let s := hosts.foldl State.failCipherOp s
      let s := (s.bump R.CIPHER_CLUSTER_FAULTS 1).raise Ev.CIPHER_CLUSTER_FAULT []
      let s := if s.save.active then s else s.selfTestYield
      if !s.mayServe && s.twin.yield.isNone then { s with twin.stopped := true }.twinViews else s

end Sys2Proof.Machine
end

