-- ==== Sys2Proof/Machine/Inputs.lean ====
section
/-! DEFINITION. Coded sideband inputs: masks, and the acceptance of an assertion (R489, Table 25-2). -/

namespace Sys2Proof.Machine

open Sys2Proof

/-- An input that has done nothing yet. -/
def inputIdle : SideInput := ⟨false, 0, false, false, []⟩

def State.input (s : State) (code : Nat) : SideInput := (AMap.get? s.keeper.inputs code).getD inputIdle

def State.setInput (s : State) (code : Nat) (i : SideInput) : State :=
  { s with keeper.inputs := AMap.set s.keeper.inputs code i }

def State.inputMasked (s : State) (code : Nat) : Bool := (s.input code).stuck || (s.input code).chattering

/-- An assertion accepted by an input's filter (R489): ignored while masked; the one that exceeds the chatter limit masks the
input and is not acted on. Answers whether it is acted on. -/
def State.acceptInput (s : State) (code limit window : Nat) : Bool × State :=
  if s.inputMasked code then (false, s)
  else
    let i := s.input code
    let recent := (i.recent ++ [s.now]).filter (fun t => decide (s.now ≤ t + window))
    if limit < recent.length then
      (false, (s.setInput code { i with active := true, since := s.now, recent, chattering := true }).raiseKeeper
        Ev.POWER_INPUT_CHATTERING [(1, code)])
    else (true, s.setInput code { i with active := true, since := s.now, recent })

end Sys2Proof.Machine
end

