-- ==== Sys2Proof/Machine/Time.lean ====
section
/-! DEFINITION. The time unit: PTP and PPS, steps and slews, SYNCED, PTP_PPS_OUT, and what falls due at a TAI second (R323, R324, R326,
R350, R351). -/

namespace Sys2Proof.Machine

open Sys2Proof

/-! ### SYNCED (R351) -/

/-- Sets or clears SYNCED; once synced, the unit counts as in holdover whenever SYNCED is clear. -/
def State.setSynced (s : State) (b : Bool) : State :=
  if s.on R.DOMAIN_TIME_STATUS_SYNCED = b then s
  else ({ s with time.holdover := s.time.holdover || b }.flag R.DOMAIN_TIME_STATUS_SYNCED b).meterSync

/-- Judges UNCERTAINTY_NS: SYNCED after 10 s at or below SYNC_NS, cleared above 100 × SYNC_NS; FREE_RUN never sets it. -/
def State.judgeSync (s : State) : State :=
  let u := s.rd R.DOMAIN_TIME_UNCERT_UNCERTAINTY_NS
  let limit := s.rd R.DOMAIN_TIME_CTRL_SYNC_NS
  if u ≤ limit then
    let since := s.time.goodSince.getD s.now
    let s := { s with time.goodSince := some since }
    if since + sec 10 ≤ s.now ∧ s.rd R.DOMAIN_TIME_CTRL_SOURCE ≠ 2 then s.setSynced true else s
  else
    let s := { s with time.goodSince := none }
    if 100 * limit < u then s.setSynced false else s

/-! ### Steps and slews (R351) -/

/-- Sets TAI by a step. -/
def State.stepTime (s : State) (tai : Nat) : State :=
  let forward := decide (s.time.tai < tai)
  let s := { s with time.tai := tai, time.second := tai / sec 1, time.stepped := true }
  let s := (s.bump R.DOMAIN_TIME_STEPS 1).raise Ev.DOMAIN_TIME_STEP []
  s.meterStep forward

/-- Two's complement in 32 bits. -/
def signed32 (ahead : Bool) (n : Nat) : Nat := if ahead then n % 2 ^ 32 else (2 ^ 32 - n % 2 ^ 32) % 2 ^ 32

/-- A measured offset of `n` ns from the source, ahead of it or behind: a step above STEP_US and at the first synchronisation after the
start, else a slew of at most 100 ppm of the time since the last measurement (assumption log 54). -/
def State.correct (s : State) (ahead : Bool) (n uncertainty : Nat) : State :=
  let since := s.now - s.time.lastSync.getD s.now
  let s := (s.wr R.DOMAIN_TIME_OFFSET_OFFSET_NS (signed32 ahead n)).wr R.DOMAIN_TIME_UNCERT_UNCERTAINTY_NS (min uncertainty (2 ^ 32 - 1))
  let moved (k : Nat) : Nat := if ahead then s.time.tai - k else s.time.tai + k
  let s := if !s.time.stepped || decide (us (s.rd R.DOMAIN_TIME_LIMITS_STEP_US) < n) then s.stepTime (moved n)
    else { s with time.tai := moved (min n (since / 10000)) }
  { s with time.lastSync := some s.now }.judgeSync

/-- PTP_MESSAGE of a PTP domain: the measured offset with its bound, currentUtcOffset and the leap flag (R350). With SOURCE PPS only
whole seconds are taken from it; FREE_RUN takes nothing. -/
def execPtpMessage (domain : Nat) (ahead : Bool) (offset uncertainty utc : Nat) (leap : Bool) (s : State) :
    Host.Outcome State Fault Refusal :=
  .next <|
    let source := s.rd R.DOMAIN_TIME_CTRL_SOURCE
    if !s.coreOn || s.save.active || domain != s.rd R.DOMAIN_TIME_CTRL_PTP_DOMAIN || source == 2 then s
    else
      let s := (s.wr R.DOMAIN_TIME_STATUS_TAI_UTC_S utc).flag R.DOMAIN_TIME_STATUS_LEAP_PENDING leap
      if source = 1 then
        let whole := (offset + ms 500) / sec 1 * sec 1
        if whole = 0 then s else s.stepTime (if ahead then s.time.tai - whole else s.time.tai + whole)
      else s.correct ahead offset uncertainty

/-- PPS_IN_EDGE: an accepted edge sets the phase while SOURCE is PPS (R350, R489); two edges within 900 ms are chattering. -/
def execPpsInEdge (uncertainty : Nat) (s : State) : Host.Outcome State Fault Refusal :=
  .next <|
    if !s.coreOn || s.save.active || s.rd R.DOMAIN_TIME_CTRL_SOURCE != 1 then s
    else
      let (ok, s) := s.acceptInput 6 1 (ms 900)
      if !ok then { s with time.lastSync := none }
      else
        let part := s.time.tai % sec 1
        let s := { s with time.lastPps := some s.now }
        if part < ms 500 then s.correct true part uncertainty else s.correct false (sec 1 - part) uncertainty

/-! ### A TAI second (R323, R324, R350) -/

/-- Adds a residency sample of one account and counter. -/
def State.sample (s : State) (account i n : Nat) : State := s.charge account i n

/-- The residency samples of R323: WRITABLE regions, staged tiles by object, dirty pages by PD. Only the token's holder samples, and
only while it serves. -/
def State.sampleResidency (s : State) : State :=
  if !s.serving then s
  else
    let mib (n : Nat) : Nat := ceilDiv n 0x100000
    let s := s.prot.regions.foldl (fun s (e : Nat × Region) => if e.2.writable then s.sample e.2.account 9 (mib e.2.size) else s) s
    let staged (o : Nat) : Nat := ((s.shelf.tiles.filter (fun t => t.object == o)).map (fun t => t.units.length)).sum * 0x10000
    let s := s.shelf.objects.foldl (fun s (e : Nat × Object) => s.sample (s.pdAccount e.2.owner) 10 (mib (staged e.1))) s
    let dirty (p : Nat) : Nat := (s.dur.dirty.filter (fun e => e.2.pd == p)).length * page4K
    let s := s.prot.pds.foldl (fun s (e : Nat × Pd) => s.sample e.2.account 11 (mib (dirty e.1))) s
    { s with meter.current.samples := s.meter.current.samples + 1 }

/-- Without a source UNCERTAINTY_NS grows by HOLDOVER_PPB ns each second (R351), by 50,000 ns while the DDR clock stands in (R494). A source that has given no time for 2 s counts as
none (assumption log 55). -/
def State.growUncertainty (s : State) : State :=
  let has := s.rd R.DOMAIN_TIME_CTRL_SOURCE != 2 && !s.time.onDdrClock && (match s.time.lastSync with
    | some t => decide (s.now ≤ t + sec 2)
    | none => false)
  if has then s.judgeSync
  else
    (s.wr R.DOMAIN_TIME_UNCERT_UNCERTAINTY_NS
      (min (2 ^ 32 - 1) (s.rd R.DOMAIN_TIME_UNCERT_UNCERTAINTY_NS +
        (if s.time.onDdrClock then 50000 else s.rd R.DOMAIN_TIME_LIMITS_HOLDOVER_PPB)))).judgeSync

/-- What the manager pair's active advertises: 6 while SYNCED, 7 in holdover, 248 before it is first SYNCED (R350). -/
def State.clockClass (s : State) : Nat := if s.on R.DOMAIN_TIME_STATUS_SYNCED then 6 else if s.time.holdover then 7 else 248

/-- The manager pair's active announces itself as a master every second TAI second (R350, assumption log 202). -/
def State.announceTime (s : State) : State :=
  if s.roleStrap = 2 ∧ s.isActive = true ∧ s.taiSeconds % 2 = 0 then
    s.send (.ptpAnnounce (s.rd R.DOMAIN_TIME_CTRL_PTP_DOMAIN) s.clockClass (s.rd R.DOMAIN_TIME_STATUS_TAI_UTC_S) (s.on R.DOMAIN_TIME_STATUS_LEAP_PENDING))
  else s

/-- TAI_SECOND: PTP_PPS_OUT rises, a window closes at a minute boundary, and residency is sampled into the window that contains the
instant. -/
def execTaiSecond (s : State) : Host.Outcome State Fault Refusal :=
  .next <|
    if !s.coreOn || s.save.active || s.taiSeconds == s.time.second then s
    else
      let s := { s with time.second := s.taiSeconds, time.pulseEnd := some (s.now + (ms 100 - min (ms 100) (s.time.tai % sec 1))) }
      let s := s.growUncertainty.meterSync
      s.closeDue.sampleResidency.announceTime

/-- PTP_PPS_OUT_FALL: 100 ms after the second. -/
def execPtpPpsOutFall (s : State) : Host.Outcome State Fault Refusal :=
  .next (if s.coreOn && due s.now s.time.pulseEnd then { s with time.pulseEnd := none } else s)

/-- SETTLE_LIMIT: SETTLE_S after a window's end it settles with what still runs (R325). -/
def execSettleLimit (s : State) : Host.Outcome State Fault Refusal :=
  .next <|
    match s.meter.settling with
    | some w => if s.coreOn && !s.save.active && due s.now (w.ended.map (· + sec (s.rd R.METER_CTRL_SETTLE_S))) then s.settleWindow else s
    | none => s

/-- AGG_WAIT_TIMER of a tenant and window: the manager writes its KIND 2 record (R329). -/
def execAggWaitTimer (tenant start : Nat) (s : State) : Host.Outcome State Fault Refusal :=
  .next <|
    match s.meter.aggregates.find? (fun a => a.tenant == tenant && a.start == start), s.sinkRing with
    | some a, some n =>
      if s.coreOn && !s.save.active && s.aggregateDue start then
        { s with meter.aggregates := s.meter.aggregates.erase a }.exportRecord n (s.aggregateRecord a false)
      else s
    | _, _ => s

/-- One nanosecond passes while no command waits: the unstepped count and TAI advance (assumption log 4). -/
def State.tick (s : State) : State := { s with time.count := s.time.count + 1, time.tai := s.time.tai + 1 }

end Sys2Proof.Machine
end

