-- ==== Sys2Proof/Machine/Meter.lean ====
section
/-! DEFINITION. The metering commands (R319, R320, R327, R330, R331, R333). -/

namespace Sys2Proof.Machine

open Sys2Proof

/-! ### What the active and its standby both apply -/

/-- Makes an account IN_USE. -/
def State.createAccount (s : State) (k tenant : Nat) : State :=
  { s with meter.accounts := AMap.set s.meter.accounts k ⟨tenant, false⟩ }.freeAccounts

/-- Closes an account: freed at once, or after its last record (Table 15-3). -/
def State.closeAccount (s : State) (k : Nat) : State :=
  { s with meter.accounts := AMap.upd s.meter.accounts k (fun a => { a with closing := true }) }.freeAccounts

/-- Binds a PD (`region` false) or a region to an account. -/
def State.bindAccount (s : State) (region : Bool) (target k : Nat) : State :=
  if region then { s with prot.regions := AMap.upd s.prot.regions target (fun r => { r with account := k }) }
  else { s with prot.pds := AMap.upd s.prot.pds target (fun p => { p with account := k }) }

/-- Sets a PD's buckets, both full to the new burst (R331). -/
def State.setShaper (s : State) (pd opsRate opsBurst bytesRate burst : Nat) : State :=
  let b : Shaper := ⟨opsRate, opsBurst, bytesRate, burst, (opsBurst : Int) * 1000000000, (burst : Int) * 1000000000, s.now⟩
  { s with meter.shapers := AMap.set s.meter.shapers pd b }

/-! ### Commands -/

/-- The account is IN_USE and takes bindings; account 0 always does (R319). -/
def State.accountOpen (s : State) (k : Nat) : Bool :=
  k == 0 || (match AMap.get? s.meter.accounts k with | some a => !a.closing | none => false)

/-- Whether a PD or a region is bound to an account. -/
def State.accountBound (s : State) (k : Nat) : Bool :=
  s.prot.pds.any (fun e => e.2.account == k) || s.prot.regions.any (fun e => e.2.account == k)

/-- ACCOUNT_CREATE: CREATE of an account, or CLOSE (MODE 1). -/
def execAccountCreate (r : CmdRef) (account mode tenant : Nat) (s : State) : Host.Outcome State Fault Refusal :=
  .next <| s.command r 0x0601 (fun c s => s.ifHolder c (fun s =>
    if mode = 1 then
      let k := account % 65536
      if k = 0 || !s.accountOpen k then s.refuse c.id Why.NOT_FOUND
      else if s.accountBound k then s.refuse c.id Why.IN_USE
      else ((s.closeAccount k).mirrorCommand c [k, 1, 0]).endCmd c.id St.DONE 0 (pack [(4, k)])
    else
      let found := if account = 0xFFFFFFFF then AMap.free s.meter.accounts 1 65535 else some (account % 65536)
      match found with
      | none => s.refuse c.id Why.TABLE_FULL
      | some k =>
        if k = 0 || AMap.has s.meter.accounts k then s.refuse c.id Why.IN_USE
        else
          let s := (s.createAccount k tenant).mirrorCommand c [k, 0, tenant]
          (s.clamped (if 1 < mode then 1 else 0)).endCmd c.id St.DONE 0 (pack [(4, k)])))

/-- ACCOUNT_BIND (R320, R333). -/
def execAccountBind (r : CmdRef) (kind target account : Nat) (s : State) : Host.Outcome State Fault Refusal :=
  .next <| s.command r 0x0602 (fun c s => s.ifHolder c (fun s =>
    let region := kind == 1
    let t := target % (if region then 2 ^ 18 else 2 ^ 16)
    let k := account % 65536
    let there := if region then (s.region? t).isSome else AMap.has s.prot.pds t
    if !s.accountOpen k || !there then s.refuse c.id Why.NOT_FOUND
    else if region && ((s.region? t).map (·.shelf)).getD false then s.refuse c.id Why.BAD_FLAGS
    else
      let s := (s.bindAccount region t k).mirrorCommand c [if region then 1 else 0, t, k]
      (s.clamped (if 1 < kind then 1 else 0)).finish c.id St.DONE))

/-- METER_EXPORT_SETUP: the range of accounts of one export ring (R327). -/
def execMeterExportSetup (r : CmdRef) (ring flags first last : Nat) (s : State) : Host.Outcome State Fault Refusal :=
  .next <| s.command r 0x0603 (fun c s =>
    let n := min ring 3
    let a := first % 65536
    let b := last % 65536
    let x : ExportSetup := ⟨flags.testBit 0, flags.testBit 1, flags.testBit 2, flags.testBit 3, a, b⟩
    let meets := x.enable && s.meter.setups.any (fun e => e.1 != n && e.2.enable && decide (e.2.first ≤ b ∧ a ≤ e.2.last))
    if meets then s.refuse c.id Why.BAD_PARAM
    else ({ s with meter.setups := AMap.set s.meter.setups n x }.clamped (moved ring n)).finish c.id St.DONE)

/-- SHAPER_SET of a PD (R330, R331); requests it holds follow the new buckets at once. -/
def execShaperSet (r : CmdRef) (pd opsRate opsBurst bytesRate burstKib : Nat) (s : State) : Host.Outcome State Fault Refusal :=
  .next <| s.command r 0x0604 (fun c s => s.ifHolder c (fun s =>
    let p := pd % 65536
    if !AMap.has s.prot.pds p then s.refuse c.id Why.NOT_FOUND
    else
      let o := if opsRate = 0 then 0 else clampTo 1000 100000000 opsRate
      let ob := clampTo 1 1048576 opsBurst
      let b := if bytesRate = 0 then 0 else clampTo 1 1600000 bytesRate
      let bb := clampTo 64 1048576 burstKib
      let k := moved opsRate o + moved opsBurst ob + moved bytesRate b + moved burstKib bb
      let s := (s.setShaper p o ob b (bb * 1024)).mirrorCommand c [p, o, ob, b, bb * 1024]
      ((s.clamped k).finish c.id St.DONE).moveWaiters.drainPorts))

end Sys2Proof.Machine
end

