-- ==== Sys2Proof/Machine/KeeperPower.lean ====
section
/-! DEFINITION. The keeper's sequencer, rails and feeds (R398 to R409, R412, R413). -/

namespace Sys2Proof.Machine

open Sys2Proof

/-! ### Rails -/

def State.rail (s : State) (n : Nat) : Rail := (AMap.get? s.keeper.rails n).getD ⟨false, 0, none⟩

def State.setRail (s : State) (n : Nat) (r : Rail) : State := { s with keeper.rails := AMap.set s.keeper.rails n r }

/-- A rail's setting as it stood when power-up last began (R417). -/
def State.railRd (s : State) (f : Fld) (n : Nat) : Nat := (AMap.get? s.keeper.railCfg (f.key n)).getD (f.reset n)

/-- A board pair with NOMINAL_MV 0 is unused and skipped (R399). -/
def State.railUsed (s : State) (n : Nat) : Bool := s.railRd R.KEEPER_RAIL_CFG_NOMINAL_MV n != 0

/-- The rails of one step of Table 19-1. -/
def State.railsOf (s : State) (step : Nat) : List Nat :=
  (List.range 16).filter (fun n => s.railUsed n && s.railRd R.KEEPER_RAIL_CFG_STEP n == step)

/-- Commands a rail on or off over PMBus: RAMPING or DISCHARGING follows, and a failed rail keeps its state (R400, R404,
R405). -/
def State.commandRail (s : State) (on : Bool) (n : Nat) : State :=
  let s := (s.setRail n ⟨on, s.now, none⟩).send (.pmbusOperation n on)
  if on then s.wrN R.KEEPER_RAIL_STATUS_STATE n 1
  else if s.rdN R.KEEPER_RAIL_STATUS_STATE n = 4 then s else s.wrN R.KEEPER_RAIL_STATUS_STATE n 5

/-- Marks a rail failed for the sequence in progress, with its LAST_FAULT code (R401, R405). -/
def State.failRail (s : State) (n fault : Nat) : State :=
  ((s.wrN R.KEEPER_RAIL_STATUS_STATE n 4).wrN R.KEEPER_RAIL_STATUS_LAST_FAULT n fault).wr R.KEEPER_RAIL_FAILED_MASK
    (s.rd R.KEEPER_RAIL_FAILED_MASK ||| 2 ^ n)

/-- The voltage a rail's window is taken around: the last AVSBus setting for VDD_CORE, the nominal otherwise (R399). -/
def State.railTarget (s : State) (n : Nat) : Nat := if n = 3 then s.keeper.vddMv else s.railRd R.KEEPER_RAIL_CFG_NOMINAL_MV n

/-- Whether a reading in mV lies inside a rail's window of WINDOW_PCT (R399). -/
def State.inWindow (s : State) (n mv : Nat) : Bool :=
  let t := s.railTarget n
  decide ((if mv < t then t - mv else mv - t) * 100 ≤ s.railRd R.KEEPER_RAIL_CFG_WINDOW_PCT n * t)

/-! ### Feeds -/

/-- Feed state codes of KEEPER_FEED_STATUS; feed A is `true`. -/
def fFeedState (a : Bool) : Fld := if a then R.KEEPER_FEED_STATUS_A_STATE else R.KEEPER_FEED_STATUS_B_STATE
def fFeedEn (a : Bool) : Fld := if a then R.KEEPER_FEED_STATUS_A_EN else R.KEEPER_FEED_STATUS_B_EN
def fFeedV (a : Bool) : Fld := if a then R.KEEPER_FEED_V_A_DV else R.KEEPER_FEED_V_B_DV
def feedNumber (a : Bool) : Nat := if a then 0 else 1
def State.feed (s : State) (a : Bool) : Feed := if a then s.keeper.feedA else s.keeper.feedB
def State.setFeed (s : State) (a : Bool) (f : Feed) : State :=
  if a then { s with keeper.feedA := f } else { s with keeper.feedB := f }

def State.feedOk (s : State) (a : Bool) : Bool := s.rd (fFeedState a) == 1
def State.anyFeedOk (s : State) : Bool := s.feedOk true || s.feedOk false

/-- A feed that MODE may use: OK, and its EN answers (R407, Table 25-4). -/
def State.feedUsable (s : State) (a : Bool) : Bool := s.feedOk a && !(s.feed a).badEn

/-- Drives FEED_A_EN and FEED_B_EN as MODE says; both stay low from a power-fail save until OFF (R407, R408). -/
def State.driveFeeds (s : State) : State :=
  let ua := s.feedUsable true
  let ub := s.feedUsable false
  let pick : Bool × Bool × Bool :=  -- EN of A, EN of B, on the secondary
    match s.rd R.KEEPER_FEED_CFG_MODE with
    | 0 => (ua, ub, false)
    | m =>
      let p := if m = 1 then ua else ub
      let q := if m = 1 then ub else ua
      let stay := s.keeper.onSecondary && q && !s.on R.KEEPER_FEED_CFG_REVERT
      let useP := p && !stay
      let useQ := q && !useP
      if m = 1 then (useP, useQ, useQ) else (useQ, useP, useQ)
  let a := pick.1 && !s.keeper.feedHold
  let b := pick.2.1 && !s.keeper.feedHold
  let s := (s.flag R.KEEPER_FEED_STATUS_A_EN a).flag R.KEEPER_FEED_STATUS_B_EN b
  { s with keeper.onSecondary := pick.2.2
           keeper.outputs := AMap.set (AMap.set s.keeper.outputs 0x12 a) 0x13 b }

/-! ### The sequencer -/

/-- Begins power-up: the failures and sense faults of the last one are forgotten and step 1's rails are commanded on;
the power state leaves P3 KEEP or OFF for P0 (R390, R400, R402, R405). -/
def State.startPowerUp (s : State) : State :=
  let s := { s with keeper.railCfg := s.regs.filter (fun e => decide (0x190100 * 64 ≤ e.1 ∧ e.1 < 0x190200 * 64 ∧ e.1 / 64 % 16 < 8)) }
  let s := ((s.wr R.KEEPER_STATUS_SEQ_STATE 1).wr R.KEEPER_STATUS_SEQ_STEP 1).wr R.KEEPER_RAIL_FAILED_MASK 0
  let s := (List.range 16).foldl (fun s n =>
    (s.wrN R.KEEPER_RAIL_STATUS_SENSE_FAULT n 0).wrN R.KEEPER_RAIL_STATUS_STATE n (if s.railUsed n then 0 else 7)) s
  let s := { s with keeper.waitStart := false, keeper.startVEnd := none, keeper.holdEnd := none
                    keeper.retryAt := none, keeper.keepAfter := false, keeper.abortShutdown := false }
  ((s.railsOf 1).foldl (State.commandRail · true) s).setPower 0

/-- START_V is met (R409). -/
def State.startVMet (s : State) : Bool :=
  s.rd R.KEEPER_HOLDUP_CFG_START_V == 0
    || decide (s.rd R.KEEPER_HOLDUP_CFG_START_V * 1000 ≤ s.rd R.DUR_BANK_V_VBANK_MV)

/-- THERM_TRIP_N reads high, or is latched STUCK with the keeper cool again (R490, R491, Table 22-2 step 3). -/
def State.thermReleased (s : State) : Bool :=
  !s.keeper.thermDriven && (!s.keeper.thermInput || ((AMap.get? s.keeper.inputs 2).map (·.stuck)).getD false)

/-- Step 3 of Table 22-2: a start that waits begins power-up once a feed is OK, THERM_TRIP_N is released and START_V is met
(or `anyway`, after 600 s). RETIRED and a keeper in ROM never power the core die (R378, R443). -/
def State.tryPowerUp (s : State) (anyway : Bool) : State :=
  if s.keeper.waitStart && s.rd R.KEEPER_STATUS_SEQ_STATE == 0 && s.anyFeedOk && s.thermReleased
      && s.rd R.LIFE_STATE_LIFECYCLE != 4 && !s.keeper.flash.romRecovery then
    if s.startVMet || anyway then s.startPowerUp
    else { s with keeper.startVEnd := some (s.keeper.startVEnd.getD (s.now + sec 600)) }
  else s

/-- Whether key `k` of the register file is an instance of field `f`. -/
def Fld.owns (f : Fld) (k : Nat) : Bool :=
  k % 64 == f.lo && decide (f.off ≤ k / 64) &&
    (if f.stride = 0 then k / 64 == f.off
     else (k / 64 - f.off) % f.stride == 0 && decide ((k / 64 - f.off) / f.stride < f.count))

/-- Fields that outlast a loss of VK_3V3: fuses, keeper flash and what the flash journal records. -/
def persistentFields : List Fld :=
  [R.LIFE_STATE_LIFECYCLE, R.LIFE_STATE_TRANSITIONS_LEFT, R.LIFE_OWNER_DIGEST, R.FW_STATUS_SLOT_A, R.FW_STATUS_SLOT_B,
   R.LIFE_STATE_ERASE_SWEEP, R.FW_OTP_EPOCH, R.FW_SETTINGS_SCHEMA, R.FW_SETTINGS_LIVE_SLOT, R.FW_SETTINGS_OLD_KEPT, R.FW_FLOOR_SVN,
   R.KEEPER_FLASH_STATUS_SETTINGS_LIVE, R.KEEPER_FLASH_WEAR_LOG_POOL, R.KEEPER_FLASH_WEAR_AREA_SPARES, R.KEEPER_FLASH_WEAR_RETIRED] ++
  [R.KEEPER_FLASH_CYCLES_MAX_ERASES, R.KEEPER_LOG_HEAD_SEQ, R.KEEPER_LOG_TAIL_SEQ, R.TWIN_TOKEN_EPOCH_VALUE, R.TWIN_LINK_EPOCH_VALUE,
   R.TWIN_STATUS_HOME, R.TWIN_STATUS_REVERT_SUPPRESSED, R.DUR_SAVE_SEQ_VALUE, R.DUR_LAST_SAVE_TRIGGER, R.DUR_LAST_SAVE_RESULT,
   R.DUR_LAST_SAVE_DURATION_MS, R.DUR_P_P_MEAS_W, R.DUR_BANK_C_MF, R.DUR_BANK_ESR_10UOHM] ++
  [R.DOMAIN_PAIR_PAIR, R.DOMAIN_STATUS_STATE, R.DOMAIN_STATUS_WITNESS, R.DOMAIN_MGR_IP_ADDR, R.DOMAIN_DIR_VERSION_VERSION,
   R.INTEG_REPAIR_FIELD, R.INTEG_REPAIR_KIND, R.INTEG_REPAIR_MACRO, R.INTEG_REPAIR_SPARE,
   R.INTEG_REPAIR_ADDRESS, R.CIPHER_TABLE_GEN, R.CIPHER_TABLE_OLD_PENDING, R.FLASH_USER_GIB, R.FLASH_REBUILD_LEFT_GIB]

/-- Whether a key of the register file belongs to a field that outlasts power. -/
def keyPersists (k : Nat) : Bool := persistentFields.any (fun f => Fld.owns f k)

/-- The set-up fields that the core die holds: the RW and W1C fields of its blocks but GLOBAL_SCRATCH, which R467 keeps. The keeper holds
PACE, LIFE, KEEPER_WIN and FW (R465). -/
def coreSetup : List Fld :=
  ([R.fieldsGLOBAL, R.fieldsRING, R.fieldsPORT, R.fieldsCERGA, R.fieldsROCE, R.fieldsPROT, R.fieldsNEAR, R.fieldsDUR, R.fieldsTWIN,
    R.fieldsTIER, R.fieldsDRAM, R.fieldsFLASH, R.fieldsINTEG, R.fieldsDOMAIN, R.fieldsMETER, R.fieldsCIPHER, R.fieldsEVENT].flatten).filter
    (fun f => (f.acc == .rw || f.acc == .w1c) && f.off != 0x20)

/-- Whether a key of the register file is lost with the supply of the core die (R9); counters and views stand until power-on (assumption
log 167). -/
def lostWithCore (k : Nat) : Bool := coreSetup.any (fun f => Fld.owns f k) && !keyPersists k

/-- The core die has lost its supply: nothing of a start stands any more, and its set-up registers are at their reset values (R9). -/
def State.coreDown (s : State) : State :=
  { s with regs := s.regs.filter (fun e => !lostWithCore e.1)
           start := { s.start with step := 0, dramDone := false, fwDone := false
                                   tablesDone := false, keysDone := false, admitted := false, presented := false }
           crypt.dramKey := 0, armedEnd := none }

/-- OFF is reached (R404, R409): P3 KEEP stays there until a wake; otherwise the EN of the OK feeds go high and the restart
hold runs. A shut-down after a failed power-up returns to OFF to wait for its retry, or to LOCKOUT after the third (R401), unless a
wake arrived in it (R416). -/
def State.reachOff (s : State) : State :=
  let s := (s.wr R.KEEPER_STATUS_SEQ_STATE 0).wr R.KEEPER_STATUS_SEQ_STEP 0
  let s := { s with keeper.feedHold := false }.driveFeeds
  let s := s.setPower (if s.keeper.keepAfter then 3 else 5)
  if s.keeper.abortShutdown && !s.keeper.waitStart then
    if 3 ≤ s.rd R.KEEPER_STATUS_RETRIES then { s.wr R.KEEPER_STATUS_SEQ_STATE 6 with keeper.retryAt := none } else s
  else if s.keeper.keepAfter && !s.keeper.waitStart then s
  else { s.wr R.KEEPER_STATUS_SEQ_STATE 5 with
          keeper.holdEnd := some (s.now + ms (100 * s.rd R.KEEPER_CTRL_RESTART_HOLD_100MS)) }

/-- One or more steps of shut-down, from `step` down: the rails of a step are commanded off, and the sequence waits while a
rail that has not failed discharges; after step 1 the keeper is in OFF (R404, R405). -/
def State.shutFrom (s : State) : Nat → State
  | 0 => s.reachOff
  | k + 1 =>
    let on := (s.railsOf (k + 1)).filter (fun n => (s.rail n).on)
    let s := on.foldl (State.commandRail · false) (s.wr R.KEEPER_STATUS_SEQ_STEP (k + 1))
    if on.any (fun n => s.rdN R.KEEPER_RAIL_STATUS_STATE n == 5) then s else s.shutFrom k

/-- Begins shut-down at step 7 (R404). -/
def State.startShutdown (s : State) : State := (s.wr R.KEEPER_STATUS_SEQ_STATE 4).coreDown.shutFrom 7

/-- A power-up step has failed: SEQ_ABORT with the rail, the rails already on are shut down, and a retry follows after 10 s
unless this was the third failure in a row (R401). -/
def State.abortPowerUp (s : State) (n : Nat) : State :=
  let s := s.raiseKeeper Ev.POWER_SEQ_ABORT [(1, n)]
  let s := s.wr R.KEEPER_STATUS_RETRIES (min 3 (s.rd R.KEEPER_STATUS_RETRIES + 1))
  { s with keeper.abortShutdown := true, keeper.retryAt := some (s.now + sec 10) }.startShutdown

/-- Commands the rails of a power-up step on; VDD_CORE is set to 0.76 V over AVSBus before step 3 (R400). -/
def State.beginPowerUpStep (s : State) (k : Nat) : State :=
  let s := s.wr R.KEEPER_STATUS_SEQ_STEP k
  let s := if k = 3 then { s with keeper.vddMv := 760 }.send (.avsVoltage 760) else s
  (s.railsOf k).foldl (State.commandRail · true) s

/-- A rail is not in its window RAMP_MS after its command (R400, R401). -/
def execRampTimeout (n : Nat) (s : State) : Host.Outcome State Fault Refusal :=
  .next <|
    if s.keeperRuns && s.rd R.KEEPER_STATUS_SEQ_STATE == 1 && decide (n < 16) && s.rdN R.KEEPER_RAIL_STATUS_STATE n == 1
        && decide ((s.rail n).commandedAt + ms (s.railRd R.KEEPER_RAIL_TIME_RAMP_MS n) ≤ s.now) then
      (s.failRail n 1).abortPowerUp n
    else s

/-- 10 s after a failed power-up it is tried again (R401). -/
def execPowerUpRetry (s : State) : Host.Outcome State Fault Refusal :=
  .next <|
    if s.keeperRuns && s.rd R.KEEPER_STATUS_SEQ_STATE == 0 && due s.now s.keeper.retryAt then
      { s with keeper.retryAt := none, keeper.waitStart := true }.tryPowerUp false
    else s

/-- A rail stays outside its window for 50 µs in service (R402): RAIL_FAULT, then READ_VOUT (`mv`) decides between a faulty
sense pair and a rail that is watched for 5 ms. During a save it is only recorded (R416). -/
def execRailWindowFault (n mv : Nat) (s : State) : Host.Outcome State Fault Refusal :=
  .next <|
    if s.keeperRuns && s.coreOn && decide (n < 16) && s.railUsed n then
      let s := (s.raiseKeeper Ev.POWER_RAIL_FAULT [(1, n)]).wrN R.KEEPER_RAIL_STATUS_LAST_FAULT n 2
      let s := s.wrN R.KEEPER_RAIL_STATUS_READ_MV n mv
      if s.inWindow n mv then
        ((s.wrN R.KEEPER_RAIL_STATUS_SENSE_FAULT n 1).wrN R.KEEPER_RAIL_STATUS_STATE n 2).raiseKeeper
          Ev.POWER_SENSE_FAULT [(1, n)]
      else (s.wrN R.KEEPER_RAIL_STATUS_STATE n 3).setRail n { s.rail n with faultAt := some s.now }
    else s

/-- A rail is still out of its window 5 ms after the fault: the save that SAVE_NOW with ACTION 0 starts (R402). -/
def execRailFaultHold (n : Nat) (s : State) : Host.Outcome State Fault Refusal :=
  .next <|
    if s.keeperRuns && s.coreOn && decide (n < 16) && s.rdN R.KEEPER_RAIL_STATUS_STATE n == 3
        && due s.now ((s.rail n).faultAt.map (· + ms 5)) then
      let s := s.setRail n { s.rail n with faultAt := none }
      if s.save.active then s else s.startSave 6 .keep (some 0xFFFFFFFFFFFFFFFF) none none
    else s

/-- READ_VOUT of a rail whose sense pair is faulty, every 1 ms: it takes the place of the pair (R402). -/
def execReadVoutPoll (n mv : Nat) (s : State) : Host.Outcome State Fault Refusal :=
  .next <|
    if s.keeperRuns && s.coreOn && decide (n < 16) && s.rdN R.KEEPER_RAIL_STATUS_SENSE_FAULT n == 1 then
      let s := s.wrN R.KEEPER_RAIL_STATUS_READ_MV n mv
      if s.inWindow n mv then (s.wrN R.KEEPER_RAIL_STATUS_STATE n 2).setRail n { s.rail n with faultAt := none }
      else
        let s := if s.rdN R.KEEPER_RAIL_STATUS_STATE n = 3 then s
          else (s.raiseKeeper Ev.POWER_RAIL_FAULT [(1, n)]).wrN R.KEEPER_RAIL_STATUS_LAST_FAULT n 2
        (s.wrN R.KEEPER_RAIL_STATUS_STATE n 3).setRail n { s.rail n with faultAt := some ((s.rail n).faultAt.getD s.now) }
    else s

/-- The core die loses power with no save, or in the middle of one: SAVE_INCOMPLETE with the last step reached, 0 when no save
ran (R155). -/
def State.loseCore (s : State) : State :=
  if s.coreOn || s.save.active then
    let step := if s.save.active then s.save.step else 0
    let s := s.keeperLog Ev.DURABILITY_SAVE_INCOMPLETE (severityOf Ev.DURABILITY_SAVE_INCOMPLETE) (detailOf [(1, step)]) false
    let s := (s.wr R.DUR_LAST_SAVE_RESULT 1).wr R.DUR_STATUS_SAVE_STEP 0
    let s := if s.save.active then s.wr R.DUR_LAST_SAVE_TRIGGER s.save.trigger else s
    { s with save.active := false, save.incomplete := true, save.lastStep := step }.coreDown
  else s

/-- Every rail of `step` and above is commanded off at once; the remaining rails follow in reverse order (R403, R405). -/
def State.cutFrom (s : State) (step : Nat) : State :=
  let s := s.wr R.KEEPER_STATUS_SEQ_STATE 4
  if 7 < step then s.shutFrom 7 else
  let off := (List.range 16).filter (fun n => s.railUsed n && (s.rail n).on && decide (step ≤ s.railRd R.KEEPER_RAIL_CFG_STEP n))
  let s := off.foldl (State.commandRail · false) (s.wr R.KEEPER_STATUS_SEQ_STEP step)
  if off.any (fun n => s.rdN R.KEEPER_RAIL_STATUS_STATE n == 5) then s else s.shutFrom (step - 1)

/-- A rail stays beyond a hard limit for 20 µs: it and the rails of the later steps are cut at once, the others follow in reverse order,
and no save runs (R403). -/
def execRailHardLimitBreach (n : Nat) (s : State) : Host.Outcome State Fault Refusal :=
  .next <|
    if s.keeperRuns && decide (n < 16) && s.railUsed n && (s.rail n).on then
      let s := (s.raiseKeeper Ev.POWER_RAIL_HARD_LIMIT [(1, n)]).failRail n 3
      let k := s.railRd R.KEEPER_RAIL_CFG_STEP n
      (s.loseCore.commandRail false n).cutFrom (k + 1)
    else s

/-- Goes on with the shut-down when no rail discharges any more. -/
def State.advanceShutdown (s : State) : State :=
  if (List.range 16).any (fun n => s.rdN R.KEEPER_RAIL_STATUS_STATE n == 5) then s
  else s.shutFrom (s.rd R.KEEPER_STATUS_SEQ_STEP - 1)

/-- The rails of a shut-down step have discharged (R404). -/
def execShutdownStepEnd (s : State) : Host.Outcome State Fault Refusal :=
  .next <|
    if s.keeperRuns && s.rd R.KEEPER_STATUS_SEQ_STATE == 4 then
      ((List.range 16).foldl (fun s n =>
        if s.rdN R.KEEPER_RAIL_STATUS_STATE n = 5 then s.wrN R.KEEPER_RAIL_STATUS_STATE n 0 else s) s).advanceShutdown
    else s

/-- A rail is still above 10 % of nominal at its DISCH_MS: recorded as failed, and the sequence moves on (R404). -/
def execDischargeTimer (n : Nat) (s : State) : Host.Outcome State Fault Refusal :=
  .next <|
    if s.keeperRuns && s.rd R.KEEPER_STATUS_SEQ_STATE == 4 && decide (n < 16) && s.rdN R.KEEPER_RAIL_STATUS_STATE n == 5
        && decide ((s.rail n).commandedAt + ms (s.railRd R.KEEPER_RAIL_TIME_DISCH_MS n) ≤ s.now) then
      ((s.failRail n 4).raiseKeeper Ev.POWER_DISCHARGE_TIMEOUT [(1, n)]).advanceShutdown
    else s

/-- A rail of a lower step falls below its window early in a shut-down: every rail of a higher step still on is commanded off
at once, and the sequence goes on from that step (R405). -/
def execShutdownRailCollapse (n : Nat) (s : State) : Host.Outcome State Fault Refusal :=
  .next <|
    let k := s.railRd R.KEEPER_RAIL_CFG_STEP n
    if s.keeperRuns && s.rd R.KEEPER_STATUS_SEQ_STATE == 4 && decide (n < 16) && s.railUsed n && (s.rail n).on
        && decide (k < s.rd R.KEEPER_STATUS_SEQ_STEP) then
      (s.failRail n 2).cutFrom (k + 1)
    else s

/-! ### Feeds in service -/

/-- What follows when no feed is OK any more (R408, R416): a power-fail save once firmware has started, a shut-down before
that and in power-up, and the bank for a save that runs. -/
def State.bothFeedsLost (s : State) : State :=
  let s := { s with keeper.feedHold := true }.driveFeeds
  if s.rd R.KEEPER_STATUS_SEQ_STATE = 1 || (s.rd R.KEEPER_STATUS_SEQ_STATE = 2 && !s.start.fwDone) then s.startShutdown
  else if s.save.active then { s with save.onBank := true, save.action := .shutdown }
  else if s.coreOn then s.startSave 1 .shutdown none none none
  else { s with keeper.feedHold := s.rd R.KEEPER_STATUS_SEQ_STATE == 4 }.driveFeeds

/-- A feed has stayed below UV_DV for 20 µs (R406 to R408): LOST, its EN low, and FEED_LOST for a feed that was OK. More than
8 losses in 60 s mask the input as CHATTERING (R489, Table 25-2). A hold-up test is dropped (R410). A RETURNING feed goes back to LOST,
or to ABSENT where it was never OK. -/
def execFeedLoss (a : Bool) (s : State) : Host.Outcome State Fault Refusal :=
  .next <|
    if s.keeperRuns && (s.rd (fFeedState a) == 1 || s.rd (fFeedState a) == 3) then
      let was := s.feedOk a
      let code := if a then 3 else 4
      let s := (s.wr (fFeedState a) (if was || (s.feed a).wasOk then 2 else 0)).setFeed a { s.feed a with returnEnd := none }
      if was then
        let s := (s.bumpSat R.KEEPER_FEED_STATUS_LOSSES 0 1).driveFeeds
        let s := s.raiseKeeper Ev.POWER_FEED_LOST [(1, feedNumber a)]
        let i := (AMap.get? s.keeper.inputs code).getD ⟨false, 0, false, false, []⟩
        let recent := (i.recent ++ [s.now]).filter (fun t => decide (s.now ≤ t + sec 60))
        let chat := decide (8 < recent.length)
        let s := { s with keeper.inputs := AMap.set s.keeper.inputs code
                            { i with active := false, since := s.now, recent, chattering := i.chattering || chat } }
        let s := if chat && !i.chattering then s.raiseKeeper Ev.POWER_INPUT_CHATTERING [(1, code)] else s
        let s := s.abortHoldupTest 2
        if s.anyFeedOk then s else s.bothFeedsLost
      else s
    else s

/-- A LOST, ABSENT or REVERSED feed rises above OK_DV: RETURNING, and its return time starts (R406). A masked feed stays LOST. -/
def execFeedReturning (a : Bool) (s : State) : Host.Outcome State Fault Refusal :=
  .next <|
    let code := if a then 3 else 4
    let masked := ((AMap.get? s.keeper.inputs code).map (·.chattering)).getD false
    if s.keeperRuns && !masked && (s.rd (fFeedState a) == 0 || s.rd (fFeedState a) == 2 || s.rd (fFeedState a) == 4) then
      (s.wr (fFeedState a) 3).setFeed a
        { s.feed a with returnEnd := some (s.now + ms (10 * s.rd R.KEEPER_CTRL_RETURN_10MS)) }
    else s

/-- A feed has stayed above OK_DV for its return time: OK, FEED_RESTORED, and a start where the H9 is in OFF or P3 KEEP after
a shut-down (R390, R406, R409). -/
def execFeedOk (a : Bool) (s : State) : Host.Outcome State Fault Refusal :=
  .next <|
    if s.keeperRuns && s.rd (fFeedState a) == 3 && due s.now (s.feed a).returnEnd then
      let s := ((s.wr (fFeedState a) 1).setFeed a { s.feed a with returnEnd := none, wasOk := true }).driveFeeds
      let s := s.raiseKeeper Ev.POWER_FEED_RESTORED [(1, feedNumber a)]
      if s.rd R.KEEPER_STATUS_SEQ_STATE = 0 && s.keeper.retryAt.isNone then
        { s with keeper.waitStart := true }.tryPowerUp false
      else s
    else s

/-- PMBUS_ALERT_N counts as an accepted assertion: more than 1,000 in 1 s mask it (R489, Table 25-2). It is low until a slave answers. While it
is masked, what comes is found by the polls, which take its place (assumption log 208). -/
def State.acceptAlert (s : State) (answered : Bool) : Bool × State :=
  if s.inputMasked 5 then (true, s)
  else
    let (act, s) := s.acceptInput 5 1000 (sec 1)
    (act, if answered then s.setInput 5 { s.input 5 with active := false } else s)

/-- PMBUS_ALERT_N falls: the alerting slave's rail and STATUS_WORD are recorded (R398). A `status` of none is a slave whose transactions fail
three times: its rail fails for the sequence in progress, which fails a step of power-up (R401) and is not waited for in shut-down
(R405). -/
def execPmbusAlert (n : Nat) (status : Option Nat) (s : State) : Host.Outcome State Fault Refusal :=
  .next <|
    let (act, s) := if s.keeperRuns && decide (n < 16) then s.acceptAlert status.isSome else (false, s)
    if act then
      let s := (s.raiseKeeper Ev.POWER_PMBUS_FAULT [(1, n), (2, status.getD 0)]).wrN R.KEEPER_RAIL_STATUS_LAST_FAULT n 5
      if status.isSome || !s.railUsed n then s
      else if s.rd R.KEEPER_STATUS_SEQ_STATE = 1 then (s.failRail n 5).abortPowerUp n
      else if s.rd R.KEEPER_STATUS_SEQ_STATE = 4 then
        if s.rdN R.KEEPER_RAIL_STATUS_STATE n = 5 then (s.failRail n 5).advanceShutdown else s.failRail n 5
      else s
    else s

/-- The restart hold after OFF has ended (R409). -/
def execRestartHoldEnd (s : State) : Host.Outcome State Fault Refusal :=
  .next <|
    if s.keeperRuns && s.rd R.KEEPER_STATUS_SEQ_STATE == 5 && due s.now s.keeper.holdEnd then
      { s.wr R.KEEPER_STATUS_SEQ_STATE 0 with keeper.holdEnd := none, keeper.waitStart := true }.tryPowerUp false
    else s

/-- The bank reaches START_V while a feed is OK (R409); the reading is `mv`. -/
def execHoldupBankAtStartV (mv : Nat) (s : State) : Host.Outcome State Fault Refusal :=
  .next (if s.keeperRuns then (s.wr R.DUR_BANK_V_VBANK_MV (if s.rd R.KEEPER_SENSE_DIV_HOLDUP_DIV16 = 0 then 0 else mv)).tryPowerUp false else s)

/-- The bank has not reached START_V within 600 s: power-up starts anyway (R409). -/
def execStartVTimeout (s : State) : Host.Outcome State Fault Refusal :=
  .next (if s.keeperRuns && due s.now s.keeper.startVEnd then s.tryPowerUp true else s)

/-- A sense input reads below -0.2 V (R412, Table 19-3): feed A (0), feed B (1), the bank (2), or rail n (3 + n). The cross-check of a rail
in service is its RAIL_WINDOW_FAULT. -/
def execSenseInputReversed (input : Nat) (s : State) : Host.Outcome State Fault Refusal :=
  .next <|
    if !s.keeperRuns || decide (18 < input) then s
    else
      let s := s.raiseKeeper Ev.POWER_SENSE_REVERSED [(1, input)]
      if input < 2 then
        let a := input == 0
        let was := s.feedOk a
        let s := ((s.wr (fFeedState a) 4).setFeed a { s.feed a with returnEnd := none }).driveFeeds
        if was && !s.anyFeedOk then s.bothFeedsLost else s
      else if input = 2 then
        { (s.wr R.DUR_BANK_V_VBANK_MV 0).raise Ev.DURABILITY_HOLDUP_STALE [] with dur.senseLost := true }
      else
        let n := input - 3
        if s.rd R.KEEPER_STATUS_SEQ_STATE = 1 && (s.rail n).on then
          let s := (s.failRail n 6).abortPowerUp n
          s.wrN R.KEEPER_RAIL_STATUS_STATE n 6
        else if s.coreOn && s.railUsed n then (s.wrN R.KEEPER_RAIL_STATUS_LAST_FAULT n 6).wrN R.KEEPER_RAIL_STATUS_STATE n 6
        else s

/-- VK_3V3 stays below 3.00 V for 2 µs: the keeper stops its circuits and writes one record at once, marked ON_HOLDUP; a save
that runs ends under R155 (R413, Table 7-6). -/
def execKeeperSupplyLow (mv : Nat) (s : State) : Host.Outcome State Fault Refusal :=
  .next <|
    if s.keeperRuns then
      let s := (s.wr R.KEEPER_STATUS_VK_LOW 1).wr R.KEEPER_STATUS_VK_MV mv
      let src := if s.save.active then Ev.DURABILITY_SAVE_INCOMPLETE else Ev.POWER_KEEPER_SUPPLY_LOST
      let d := if s.save.active then detailOf [(1, s.save.step)] else 0
      let r := { s.newLogRecord 1 src (severityOf src) d 1 false false with onHoldup := true }
      let s := (s.logHead.getD s).appendLog r
      let s := if s.save.active then
          { (s.wr R.DUR_LAST_SAVE_RESULT 1).wr R.DUR_STATUS_SAVE_STEP 0 with
            save.active := false, save.incomplete := true, save.lastStep := s.save.step }.coreDown
        else s
      { s with keeper.stopped := true }
    else s

/-- VK_3V3 rises above 3.10 V before the brown-out: the keeper resumes (R413). -/
def execKeeperSupplyRecovered (mv : Nat) (s : State) : Host.Outcome State Fault Refusal :=
  .next <|
    if s.keeper.powered && s.keeper.stopped then
      { (s.wr R.KEEPER_STATUS_VK_LOW 0).wr R.KEEPER_STATUS_VK_MV mv with keeper.stopped := false }
    else s

end Sys2Proof.Machine
end

