-- ==== Sys2Proof/Machine/Durability.lean ====
section
/-! DEFINITION. What the durability unit does by itself: it applies the gather buffer and writes dirty pages back; and the keeper's
hold-up test with its ESR pulses (R136 to R138, R145, R146, R410, R411). -/

namespace Sys2Proof.Machine

open Sys2Proof

/-! ### The gather buffer and write-back -/

/-- Two entries write a common chunk. -/
def Gather.meets (g h : Gather) : Bool :=
  decide (g.media / 64 ≤ (h.media + h.data.length - 1) / 64 ∧ h.media / 64 ≤ (g.media + g.data.length - 1) / 64)

/-- Applies one entry where its chunk is newest and frees it (R77, R136). What lies on a DRAM channel that is out is merged with the page's
flash image (R259). A chunk that the entry has lost is applied poisoned (R286). -/
def State.applyEntry (s : State) (g : Gather) : State :=
  let s := if s.runGone g.media g.data.length then s.mergeEntry g else s
  let s := (s.applyBytes (g.data.length / 64 + 2) g.media g.data).poisonChunks g.lost
  { s with eng.gather := s.eng.gather.filter (fun h => h.id != g.id) }

/-- Entries that may be applied now: visible, with no earlier entry on one of their chunks, and in a DRAM bank that answers. -/
def State.entryApplies (s : State) (g : Gather) : Bool :=
  s.entryVisible g && !s.runBusy g.media g.data.length
    && s.eng.gather.all (fun h => !(decide (h.id < g.id) && Gather.meets h g))

/-- GATHER_APPLY of an accepted write (R136). -/
def execGatherApply (entry : Nat) (s : State) : Host.Outcome State Fault Refusal :=
  .next <|
    match s.eng.gather.find? (fun g => g.id == entry) with
    | some g => if s.coreOn && s.entryApplies g then (s.applyEntry g).advanceAll.nearViews else s
    | none => s

/-- The page that is to be written back next: the oldest that is not on its way and whose DRAM can be read (R138). -/
def State.oldestPage (s : State) : Option (Nat × DirtyPage) :=
  let ok (e : Nat × DirtyPage) : Bool := !e.2.reading && !s.runGone (e.1 * page4K) page4K && !s.runBusy (e.1 * page4K) page4K
  (s.dur.dirty.filter ok).foldl (fun b e => match b with
    | some (x : Nat × DirtyPage) => if e.2.since < x.2.since then some e else b
    | none => some e) none

/-- The chunks of a page that deliver poison, by index. -/
def State.pageMarks (s : State) (page : Nat) : List Nat := (rangeFrom 0 64).filter (fun i => s.chunkPoison (page * 64 + i))

/-- A DIRTY line is written to DRAM and stays CLEAN where it is; an ATOMIC line stays ATOMIC (R202, R207). -/
def State.cleanLine (s : State) (l : Nat) : State :=
  let clean (x : Line) : Line := if x.state = .dirty then { x with state := .clean } else x
  match s.findWay l with
  | some w => match s.wayLine w with
    | some x => if x.state = .dirty ∨ x.state = .atomic then (s.writeLine x).setWay w (clean x) else s
    | none => s
  | none => match s.findVictim l with
    | some x =>
      if x.state = .dirty then
        (s.writeLine x).setVictims (lineBank l) ((s.victimsOf (lineBank l)).map (fun y => if y.line = l then clean y else y))
      else s
    | none => s

/-- Reads a page for write-back: its lines go to DRAM in the same step (R138, R207). A write that is accepted but not visible yet comes
after the read. -/
def State.snapshotPage (s : State) (page : Nat) (p : DirtyPage) : State :=
  let s := (pageChunks page).foldl State.cleanLine s
  let again := s.eng.gather.any (fun g => !s.entryVisible g
    && decide (g.media / page4K ≤ page ∧ page ≤ (g.media + g.data.length - 1) / page4K))
  let q : DirtyPage := { p with reading := true, again, snapshot := s.readRun (page * page4K) page4K, marks := s.pageMarks page }
  { s with dur.dirty := AMap.set s.dur.dirty page q }

/-- WRITE_BACK_ISSUE of the oldest dirty page. `tagOk` says that what DRAM returned agrees with its integrity tag, as the data held here does (R292); a page without marks
that fails it goes to a tie-break where a CURRENT twin can decide, and is poisoned otherwise. At the floor of the erased pool the
program waits (R270). -/
def execWriteBackIssue (tagOk : Bool) (s : State) : Host.Outcome State Fault Refusal :=
  .next <|
    if !s.coreOn || !s.start.tablesDone || (s.save.active && s.save.step != 5) then s
    else match s.oldestPage with
      | none => s
      | some (page, p) =>
        if s.floorBars programBytes then s.waitForErase
        else if (!tagOk || s.tagOf page != p.tag) && (s.pageMarks page).isEmpty then
          let s := s.tagMismatch
          let mirrored := match s.localOf (page * page4K) with
            | some a => match s.lookup a with
              | some e => ((s.region? e.region).map (·.mirrored)).getD false
              | none => false
            | none => false
          if mirrored && s.standbyCurrent && !s.save.active then
            match s.localOf (page * page4K) with
            | some a => s.startTie [a / page4K]
            | none => s
          else s.poisonChunks (pageChunks page)
        else (s.snapshotPage page p).nearViews

/-! ### The hold-up test (Table 19-2) -/

/-- The load ball. -/
def State.testLoad (s : State) (b : Bool) : State := { s with keeper.outputs := AMap.set s.keeper.outputs 0x14 b }

/-- Whether the keeper may begin a test. -/
def State.testMayBegin (s : State) : Bool :=
  s.keeperRuns && s.coreOn && !s.save.active && !s.keeper.holdup.stopped && s.rd R.KEEPER_HOLDUP_STATUS_TEST_STATE == 0

/-- A test falls due: the test budget governs from now, and the test waits for its conditions (R145). With no test resistor the
test counts as one without a valid result (R411). -/
def State.testDue (s : State) : State :=
  if s.rd R.KEEPER_HOLDUP_CFG_RTEST_MOHM = 0 then
    { s with keeper.holdup.retryAt := some (s.now + sec 600) }.raise Ev.DURABILITY_HOLDUP_TEST_FAIL []
  else
    let s := { s with keeper.holdup.retryAt := none }
    let s := s.wr R.DUR_BUDGET_TEST_GIB (s.budgetFor (s.eUsable * 9 / 10))
    ((s.wr R.DUR_STATUS_TEST_ACTIVE 1).wr R.KEEPER_HOLDUP_STATUS_TEST_STATE 1).compareD

/-- HOLDUP_TEST_DUE: INTERVAL_H has passed since the last valid test (R145, Table 19-2 step 1). -/
def execHoldupTestDue (s : State) : Host.Outcome State Fault Refusal :=
  .next (if s.testMayBegin && s.keeper.holdup.retryAt.isNone && decide (s.keeper.holdup.nextDue ≤ s.now) then s.testDue else s)

/-- HOLDUP_TEST_RETRY: 10 min after a test without a valid result (Table 7-2). -/
def execHoldupTestRetry (s : State) : Host.Outcome State Fault Refusal :=
  .next (if s.testMayBegin && due s.now s.keeper.holdup.retryAt then s.testDue else s)

/-- HOLDUP_TEST_START with the mean V0 in mV: D is within the test budget, a feed is OK, and V_bank has been steady (step 2). -/
def execHoldupTestStart (v0 : Nat) (s : State) : Host.Outcome State Fault Refusal :=
  .next <|
    if s.keeperRuns && s.coreOn && !s.save.active && s.rd R.KEEPER_HOLDUP_STATUS_TEST_STATE == 1 && s.anyFeedOk
        && decide (s.dur.dirty.length * page4K ≤ s.rd R.DUR_BUDGET_TEST_GIB * gib) then
      { (s.wr R.KEEPER_HOLDUP_STATUS_TEST_STATE 2).testLoad true with
          keeper.holdup.v0 := v0, keeper.holdup.v1 := 0, keeper.holdup.v1At := s.now
          keeper.testEnd := some (s.now + sec (s.rd R.KEEPER_HOLDUP_CFG_TEST_MAX_S)) }
    else s

/-- The ESR of a step of V_bank from v0 to v1 under the test load, in 10 µΩ (step 3); none where it is not positive. -/
def State.stepEsr (s : State) (v0 v1 : Nat) : Option Nat :=
  if v1 < v0 ∧ 0 < v1 then
    let e := (v0 - v1) * (s.rd R.KEEPER_HOLDUP_CFG_RTEST_MOHM * 100) / v1
    if e = 0 then none else some e
  else none

/-- HOLDUP_TEST_V1_READ: 100 µs after the load (step 3). An ESR that is not positive aborts the test. -/
def execHoldupTestV1Read (v1 : Nat) (s : State) : Host.Outcome State Fault Refusal :=
  .next <|
    if s.keeperRuns && s.rd R.KEEPER_HOLDUP_STATUS_TEST_STATE == 2 && s.keeper.holdup.v1 == 0
        && decide (s.keeper.holdup.v1At + us 100 ≤ s.now) then
      match s.stepEsr s.keeper.holdup.v0 v1 with
      | some _ => { s with keeper.holdup.v1 := v1, keeper.holdup.v1At := s.now }
      | none => s.abortHoldupTest 5
    else s

/-- ln(a / b) for a ≥ b > 0, times 10^12, by the odd powers of (a − b) / (a + b) (assumption log 51). -/
def lnRatio (a b : Nat) : Nat :=
  let x := (a - b) * 10 ^ 12 / (a + b)
  let x2 := x * x / 10 ^ 12
  let term (n : Nat × Nat) (k : Nat) : Nat × Nat := (n.1 + n.2 / (2 * k + 1), n.2 * x2 / 10 ^ 12)
  2 * ((rangeFrom 0 8).foldl term (0, x)).1

/-- C in mF of a discharge of t ns from v1 to v through r in 10 µΩ (step 5). -/
def discharged (t r v1 v : Nat) : Nat := t * 10 ^ 12 / (10 * r * lnRatio v1 v)

/-- V_bank has come down to V_end (step 4). V_end² is 0.9 V0² + 0.1 V_floor². -/
def State.atVEnd (s : State) (mv : Nat) : Bool :=
  let v0 := s.keeper.holdup.v0 * 1000
  decide (10 * (mv * 1000) ^ 2 ≤ 9 * v0 ^ 2 + s.floorV ^ 2)

/-- HOLDUP_TEST_V_END: the load is removed and C computed; a result outside 0.05 to 50 F aborts the test (step 5). -/
def execHoldupTestVEnd (mv : Nat) (s : State) : Host.Outcome State Fault Refusal :=
  .next <|
    let h := s.keeper.holdup
    if s.keeperRuns && s.rd R.KEEPER_HOLDUP_STATUS_TEST_STATE == 2 && h.v1 != 0 && s.atVEnd mv then
      match s.stepEsr h.v0 h.v1 with
      | none => s.abortHoldupTest 5
      | some e =>
        let c := discharged (s.now - h.v1At) (s.rd R.KEEPER_HOLDUP_CFG_RTEST_MOHM * 100 + e) h.v1 mv
        if 50 ≤ c ∧ c ≤ 50000 then
          let s := s.setCounter 7 (c % 2 ^ 16 + e % 2 ^ 16 * 2 ^ 16 + s.taiSeconds % 2 ^ 32 * 2 ^ 32)
          let s := ((s.wr R.DUR_BANK_C_MF c).wr R.KEEPER_HOLDUP_STATUS_LAST_RESULT 1).wr R.KEEPER_HOLDUP_STATUS_TEST_STATE 3
          let due := s.now + s.rd R.DUR_TEST_INTERVAL_H * sec 3600
          { s.testLoad false with
              keeper.holdup := { s.keeper.holdup with esr := e, lastValid := some s.now, retryAt := none, stale := false, nextDue := due }
              keeper.testEnd := none }
        else s.abortHoldupTest 5
    else s

/-- HOLDUP_TEST_TIMEOUT: TEST_MAX_S has passed before V_end. -/
def execHoldupTestTimeout (s : State) : Host.Outcome State Fault Refusal :=
  .next (if s.keeperRuns && due s.now s.keeper.testEnd then s.abortHoldupTest 4 else s)

/-- HOLDUP_RECHARGE_DONE: V_bank is back within 1 % of V0, the budget is recomputed and the full budget governs again; a valid test
ends with HOLDUP_TEST_DONE (step 6, R145). -/
def execHoldupRechargeDone (mv : Nat) (s : State) : Host.Outcome State Fault Refusal :=
  .next <|
    if s.keeperRuns && s.rd R.KEEPER_HOLDUP_STATUS_TEST_STATE == 3 && !s.save.active
        && decide (99 * s.keeper.holdup.v0 ≤ 100 * mv) then
      let s := ((s.wr R.KEEPER_HOLDUP_STATUS_TEST_STATE 0).wr R.DUR_STATUS_TEST_ACTIVE 0).readBank mv
      let s := if s.coreOn && s.start.tablesDone then s.recomputeBudget else s
      if s.rd R.KEEPER_HOLDUP_STATUS_LAST_RESULT = 1 then s.raiseKeeper Ev.POWER_HOLDUP_TEST_DONE [] else s
    else s

/-- HOLDUP_STALE_TIMER: no test has been valid for 2 × INTERVAL_H (Table 7-2). -/
def execHoldupStaleTimer (s : State) : Host.Outcome State Fault Refusal :=
  .next <|
    let h := s.keeper.holdup
    if s.keeperRuns && s.coreOn && !h.stale && decide (h.lastValid.getD 0 + 2 * s.rd R.DUR_TEST_INTERVAL_H * sec 3600 ≤ s.now) then
      let s := { s with keeper.holdup.stale := true }.raise Ev.DURABILITY_HOLDUP_STALE []
      if s.start.tablesDone then s.recomputeBudget else s
    else s

/-- A pulse's result: the tracked ESR is the mean of the last 8 valid ones (R411). -/
def State.trackEsr (s : State) (e : Nat) : State :=
  let ps := s.keeper.holdup.pulses ++ [e]
  let ps := ps.drop (ps.length - 8)
  let s := (s.wr R.KEEPER_HOLDUP_STATUS_TRACK_ESR_10UOHM (ps.sum / max 1 ps.length)).wr R.KEEPER_HOLDUP_STATUS_TRACK_OK 1
  { s with keeper.holdup.pulses := ps, keeper.holdup.lastGood := s.now }

/-- Whether a pulse may be made now: outside a test, with no feed LOST and no save. -/
def State.pulseMay (s : State) : Bool :=
  !s.save.active && s.rd R.KEEPER_HOLDUP_STATUS_TEST_STATE == 0 && s.rd R.KEEPER_HOLDUP_CFG_RTEST_MOHM != 0
    && s.rd (fFeedState true) != 2 && s.rd (fFeedState false) != 2 && !s.keeper.holdup.stopped

/-- ESR_PULSE: every 60 s, with V_bank before and under the load. A result outside 0.2 to 5 times the last test's ESR is discarded,
and after 10 min without a valid one tracking is unavailable (R411, Table 7-2). -/
def execEsrPulse (v0 v1 : Nat) (s : State) : Host.Outcome State Fault Refusal :=
  .next <|
    let h := s.keeper.holdup
    if !s.keeperRuns || decide (s.now < h.lastPulse + sec 60) then s
    else
      let s := { s with keeper.holdup.lastPulse := s.now }
      let valid : Option Nat := if s.pulseMay then (s.stepEsr v0 v1).filter (fun e => decide (h.esr ≤ 5 * e ∧ e ≤ 5 * h.esr)) else none
      match valid with
      | some e => s.trackEsr e
      | none =>
        if s.on R.KEEPER_HOLDUP_STATUS_TRACK_OK && decide (h.lastGood + sec 600 ≤ s.now) then
          let s := ((s.wr R.KEEPER_HOLDUP_STATUS_TRACK_OK 0).raise Ev.DURABILITY_HOLDUP_TEST_FAIL [])
          if s.coreOn && s.start.tablesDone then s.recomputeBudget else s
        else s

end Sys2Proof.Machine
end

