-- ==== Sys2Proof/Machine/Life.lean ====
section
/-! DEFINITION. Life-cycle states, debug levels and their authorisation (R378 to R386, R391). -/

namespace Sys2Proof.Machine

open Sys2Proof

/-- LIFE_NONCE as one number. -/
def State.nonce (s : State) : Nat := pack ((List.range 4).map (fun i => (4, s.rdN R.LIFE_NONCE_NONCE i)))

/-- The keeper's random source makes a new nonce: at every start and after every verification (R381). -/
def State.newNonce (s : State) : State :=
  (List.range 4).foldl (fun s i => let (v, s) := s.fresh 32; s.wrN R.LIFE_NONCE_NONCE i v) s

/-- Who may sign a life-cycle transition (Table 18-2): signer codes, 0 Lisigor, 1 owner. `digest` says whether the request
gives a new OWNER_DIGEST. The empty list is a transition that does not exist. -/
def lifecycleSigners (src dst : Nat) (digest : Bool) : List Nat :=
  if dst = 4 then (if src = 4 then [] else [0, 1])
  else match src, dst with
  | 0, 1 => [0]
  | 1, 2 => [1]
  | 1, 3 => [1]
  | 2, 3 => [1]
  | 3, 1 => if digest then [0, 1] else [1]
  | _, _ => []

/-- Who may sign a debug level in a life-cycle state (Table 18-5); DBG0 needs nobody. -/
def debugSigners (lc level : Nat) : List Nat :=
  match level with
  | 1 => if lc = 0 then [0] else if lc = 1 ∨ lc = 2 ∨ lc = 3 then [1] else []
  | 2 => if lc = 0 ∨ lc = 3 then [0] else []
  | _ => []

/-- Whether a request names a transition or level that exists here and does not run into a limit: the last fuse, a life-cycle
mismatch or a TEST image permits only RETIRED (R378, R379, R384, R391, R438). -/
def State.changeExists (s : State) (debug : Bool) (target : Nat) (digest : Bool) : Bool :=
  let lc := s.rd R.LIFE_STATE_LIFECYCLE
  if !debug && target == 4 then decide (lc ≠ 4)
  else if s.on R.FW_STATUS_TEST_IMAGE then false
  else if debug then target == 0 || (debugSigners lc target != [])
  else !s.keeper.mismatch && decide (1 < s.rd R.LIFE_STATE_TRANSITIONS_LEFT) && lifecycleSigners lc target digest != []

/-- The checks of R383 on an authorisation for a request. -/
def State.authorised (s : State) (debug : Bool) (target : Nat) (b : AuthBlob) : Bool :=
  let lc := s.rd R.LIFE_STATE_LIFECYCLE
  let signers := if debug then debugSigners lc target else lifecycleSigners lc target (b.ownerDigest != 0)
  let inTime := if s.on R.DOMAIN_TIME_STATUS_SYNCED then decide (s.time.tai / sec 1 < b.notAfter) else !debug
  b.signed && signers.contains b.signer
    && b.keysDigest == (if b.signer = 0 then Config.lisigorDigest else s.keeper.ownerDigest)
    && b.deviceId == identityDigest % 2 ^ 64 && b.nonce == s.nonce
    && b.kind == (if debug then 1 else 0) && b.target == target && inTime

/-- Applies a life-cycle change (Table 18-2): the state, one fuse, DBG0, the owner digest, and the keys and the flash it
makes or destroys; LIFECYCLE_CHANGE carries both codes (R379, R380, R385). -/
def State.applyLifecycle (s : State) (c : Change) : State :=
  let old := s.rd R.LIFE_STATE_LIFECYCLE
  let s := (s.writeCopy 1).wr R.LIFE_STATE_LIFECYCLE c.target
  let s := s.wr R.LIFE_STATE_TRANSITIONS_LEFT (s.rd R.LIFE_STATE_TRANSITIONS_LEFT - 1)
  let s := { (s.wr R.LIFE_STATE_DEBUG 0).wr R.LIFE_DEBUG_EXPIRY_TAI_S 0 with keeper.debugEnd := none }
  let s := if c.target = 1 then
      let s := if c.owner = 0 then s else
        (List.range 12).foldl (fun s i => s.wrN R.LIFE_OWNER_DIGEST i (c.owner / 2 ^ (32 * i) % 2 ^ 32))
          { s with keeper.ownerDigest := c.owner }
      s.newRootKeys
    else if c.target = 3 then { s.destroyRootKeys.wr R.LIFE_STATE_ERASE_SWEEP 1 with flash.swept := [] }
    else if c.target = 4 then s.destroyRootKeys
    else s
  s.raiseKeeper Ev.SECURITY_LIFECYCLE_CHANGE [(1, old), (1, c.target)]

/-- Applies a debug level: DBG1 runs to NOT_AFTER, or for 7 days of the unstepped count, whichever comes first (R385). -/
def State.applyDebug (s : State) (c : Change) : State :=
  let s := s.wr R.LIFE_STATE_DEBUG c.target
  let s := if c.target = 1 then
      { s.wr R.LIFE_DEBUG_EXPIRY_TAI_S c.expiry with keeper.debugEnd := some (s.now + sec 604800) }
    else { s.wr R.LIFE_DEBUG_EXPIRY_TAI_S 0 with keeper.debugEnd := none }
  s.raiseKeeper Ev.SECURITY_DEBUG_CHANGE [(1, c.target)]

/-- Applies a change of either kind. -/
def State.applyChange (s : State) (c : Change) : State := if c.debug then s.applyDebug c else s.applyLifecycle c

/-- A request for a life-cycle or debug change, from a command (`tag`) or from the management port. Answers the refusal
reason, 0 when accepted, and the state. A change accepted while the core die is powered starts a save, one that arrives during
a save is deferred, and one in P3 KEEP or OFF is applied at once (R380, R385, R386, R391). AUTH_ADDR must be 64-byte aligned where it names a
blob (R306). -/
def State.requestChange (s : State) (debug : Bool) (target len : Nat) (b : AuthBlob) (tag : Option Nat) : Nat × State :=
  let free := debug && target == 0
  if !(len = 7515 || (len = 0 && free)) || (len != 0 && b.host % 64 != 0) then (Why.BAD_PARAM, s.wr R.LIFE_AUTH_STATUS_REASON Why.BAD_PARAM)
  else if !s.changeExists debug target (b.ownerDigest != 0) then
    (Why.BAD_TRANSITION, s.wr R.LIFE_AUTH_STATUS_REASON Why.BAD_TRANSITION)
  else
    let pass := free || s.authorised debug target b
    let s := if free then s else s.newNonce
    if !pass then
      let s := (s.bump R.LIFE_AUTH_FAIL 1).wr R.LIFE_AUTH_STATUS_REASON Why.AUTH_FAIL
      (Why.AUTH_FAIL, match tag with
        | some t => s.raiseTag Ev.SECURITY_AUTH_FAIL [] t
        | none => s.raiseKeeper Ev.SECURITY_AUTH_FAIL [])
    else
      let c : Change := ⟨debug, target, if debug then 0 else b.ownerDigest, if free then 0 else b.notAfter⟩
      let s := s.wr R.LIFE_AUTH_STATUS_REASON 0
      if s.save.active then (0, { s.wr R.LIFE_STATE_DEFERRED 1 with keeper.deferred := some c })
      else if s.coreOn then (0, s.startSave (if debug then 5 else 4) .restart tag (some c) none)
      else (0, s.applyChange c)

/-- LIFECYCLE_REQUEST (R395): accepted, it completes at save step 1 with the SAVE_SEQ. KIND codes above 1 are taken as 0. -/
def execLifecycleRequest (r : CmdRef) (kind target len : Nat) (b : AuthBlob) (s : State) :
    Host.Outcome State Fault Refusal :=
  .next <| s.command r 0x0804 fun c s =>
    let q := s.nextSaveSeq
    let (reason, s') := s.requestChange (kind == 1) target len b (some c.tag)
    if reason = 0 then (s'.clamped (if 1 < kind then 1 else 0)).endCmd c.id St.DONE 0 q
    else
      let s' := if reason = Why.AUTH_FAIL then s'.updCmd c.id (fun k => { k with events := k.events ++ [s'.hub.nextId - 1] })
        else s'
      s'.refuse c.id reason

/-- DBG1 has reached NOT_AFTER or 7 days: a change to DBG0 under trigger 5, carried by a save that already runs, or applied at
once while the core die is dark (R385, Table 18-10). -/
def execDebugExpiry (s : State) : Host.Outcome State Fault Refusal :=
  .next <|
    let past := due s.now s.keeper.debugEnd
      || (s.timeValid && decide (s.rd R.LIFE_DEBUG_EXPIRY_TAI_S ≤ s.time.tai / sec 1))
    if s.keeperRuns && s.rd R.LIFE_STATE_DEBUG == 1 && past then
      let c : Change := ⟨true, 0, 0, 0⟩
      if s.coreOn then s.startSave 5 .restart none (some c) none else s.applyChange c
    else s

end Sys2Proof.Machine
end

