-- ==== Sys2Proof/Machine/Restore.lean ====
section
/-! DEFINITION. Restore of the writable tier from the flash image, and of single pages from the twin (R454 to R457, R460). -/

namespace Sys2Proof.Machine

open Sys2Proof

/-! ### RESYNC_DATA (R194, assumption log 197) -/

/-- One RESYNC_DATA item: pair-local offset, snapshot MSN of every queue, a bit for every poisoned chunk of the piece, and the data. -/
def resyncItem (a : Nat) (msns marks : List Nat) (data : List Byte) : BrazeItem :=
  plainItem 0x0F (beBytes 8 a ++ ackBody msns ++ beBytes 8 (marks.map (2 ^ ·)).sum ++ data)

/-- Sends a range in pieces of up to 60 chunks, each an item of its own; `k` is the index of the piece's first chunk, and `marks` are the
poisoned chunks of the whole range. -/
def State.sendResync (s : State) (a : Nat) (msns marks : List Nat) (k : Nat) : Nat → List Byte → State
  | 0, _ => s
  | fuel + 1, d =>
    if d.isEmpty then s
    else
      let here := (marks.filter (fun i => decide (k ≤ i ∧ i < k + 60))).map (· - k)
      (s.sendItem (resyncItem (a + k * 64) msns here (d.take 3840))).sendResync a msns marks (k + 60) fuel (d.drop 3840)

/-- A byte as every record sent to the twin so far has left it. -/
def State.sentByte (s : State) (m : Nat) : Byte :=
  s.eng.gather.foldl (fun b g =>
    if !g.stuck && decide (g.media ≤ m ∧ m < g.media + g.data.length) then g.data.getD (m - g.media) b else b) (s.byteAt m)

/-- Whether a chunk is poisoned after every record sent so far. -/
def State.sentPoison (s : State) (l : Nat) : Bool :=
  s.eng.gather.foldl (fun b g => if g.stuck then b else Gather.markAfter g l b) (s.linePoison l)

/-- The parts of an entry outside a media unit. -/
def Gather.outside (m : Nat) (g : Gather) : List Gather :=
  if g.media + g.data.length ≤ m ∨ m + unit2M ≤ g.media then [g]
  else
    let skip := m + unit2M - g.media
    (if g.media < m then [{ g with data := g.data.take (m - g.media) }] else [])
      ++ (if skip < g.data.length then [{ g with media := m + unit2M, addr := g.addr + skip, data := g.data.drop skip }] else [])

/-- What an entry keeps where pair-local units have been replaced. -/
def State.keptParts (s : State) (units : List Nat) (g : Gather) : List Gather :=
  units.foldl (fun gs u => match s.media? (u * unit2M) with
    | some m => (gs.map (Gather.outside m)).flatten
    | none => gs) [g]

/-- The tags of a media run's pages are computed anew. -/
def State.retagRun (s : State) (m n : Nat) : State :=
  (rangeFrom (m / page4K) (n / page4K)).foldl State.retagPage s

/-! ### Restore -/

/-- Nothing of a unit waits for the twin any more. -/
def State.unitWaits (s : State) (u : Nat) : Bool := s.start.twinPages.any (fun e => e.1 / 512 == u)

/-- A unit is restored: operations that wait for it go on; after the last one RESTORE_DONE is raised (R455). -/
def State.unitDone (s : State) (u : Nat) : State :=
  let left := s.start.units.filter (· != u)
  let f := fun o : Op => ({ o with units := o.units.filter (· != u) } : Op)
  let s := { s with start.units := left, eng.ops := s.eng.ops.map f }.wr R.DUR_RESTORE_LEFT_UNITS left.length
  let s := if left.isEmpty && s.rd R.DUR_RESTORE_STATUS_PHASE == 2 then s.restoreDone else s
  s.advanceAll

/-- A page is restored with every chunk poisoned (R456). -/
def State.restorePoisoned (s : State) (m : Nat) : State :=
  (s.bump R.DUR_RESTORE_POISONED 1).poisonChunks (rangeFrom (m / 64) 64)

/-- A page is restored as its image stands, with its marks. -/
def State.restorePage (s : State) (page m : Nat) : State :=
  let a := page * page4K
  let marks := (rangeFrom 0 64).filter (fun i => AMap.has s.mem.imagePoison (a / 64 + i))
  let s := { s with mem.dram := Mem.writeN s.mem.dram m (Mem.readN s.mem.image a page4K) }
  { s with mem.dramPoison := marks.foldl (fun p i => AMap.set p (m / 64 + i) 1) s.mem.dramPoison }

/-- Asks the twin for a page; RESYNC_CTRL kind 4 (assumption log 56). -/
def State.askTwinPage (s : State) (page : Nat) : State :=
  { s with start.twinPages := AMap.set s.start.twinPages page (s.now + sec 10) }.sendItem (ctrlItem 4 page)

/-- Whether a page lies in a MIRRORED region. -/
def State.pageMirrored (s : State) (page : Nat) : Bool :=
  match s.lookup (page * page4K) with
  | some e => ((s.region? e.region).map (·.mirrored)).getD false
  | none => false

/-- The image of a page without marks does not fit the tag in its codeword (R292). -/
def State.imageMismatch (s : State) (page : Nat) : Bool :=
  let a := page * page4K
  match AMap.get? s.flash.codewords (FlashPage.address (.image page)) with
  | some w => !(rangeFrom 0 64).any (fun i => AMap.has s.mem.imagePoison (a / 64 + i))
      && w.tag != s.pageTag a (Mem.readN s.mem.image a page4K)
  | none => false

/-- One page of a unit being restored. A page that is dirty already holds newer data. `bad` are the pages of the unit whose codewords
cannot be decoded; `twinOk` says that the twin's last save completed with its copy CURRENT (R456). -/
def State.restoreOne (s : State) (bad : List Nat) (twinOk : Bool) (u m : Nat) (i : Nat) : State :=
  let page := u * 512 + i
  let at_ := m + i * page4K
  if AMap.has s.dur.dirty (at_ / page4K) then s
  else if bad.contains i || s.start.lost.contains page || s.flash.lost.contains (.image page) || s.imageMismatch page then
    let s := if s.imageMismatch page then s.tagMismatch else s
    if twinOk && s.linkUp && s.pageMirrored page then s.askTwinPage page else s.restorePoisoned at_
  else s.restorePage page at_

/-- Restores a unit; it stays unavailable while one of its pages is asked of the twin. -/
def State.restoreUnit (s : State) (u : Nat) (bad : List Nat) (twinOk : Bool) : State :=
  match s.media? (u * unit2M) with
  | none => s.unitDone u
  | some m =>
    let s := (rangeFrom 0 512).foldl (State.restoreOne · bad twinOk u m) s
    let s := { s with start.lost := s.start.lost.filter (fun p => p / 512 != u) }
    if s.unitWaits u then s else s.unitDone u

/-- The unit that is restored next: the first in order that does not wait for the twin. -/
def State.nextUnit (s : State) : Option Nat := s.start.units.find? (fun u => !s.unitWaits u)

/-- RESTORE_UNIT: the next unit in order, demanded ones first. -/
def execRestoreUnit (bad : List Nat) (twinOk : Bool) (s : State) : Host.Outcome State Fault Refusal :=
  .next <|
    if !s.coreOn || decide (s.start.step < 11) || s.save.active then s
    else match s.nextUnit with
      | some u => s.restoreUnit u bad twinOk
      | none => s

/-- A page from the twin arrives: it is dirty from now (R456). -/
def State.restoreTwinPage (s : State) (unit p : Nat) (poison : List Nat) (data : List Byte) : State :=
  let page := unit * 512 + p
  match s.media? (page * page4K), AMap.get? s.start.twinPages page with
  | some m, some _ =>
    let s := { s with start.twinPages := AMap.del s.start.twinPages page, mem.dram := Mem.writeN s.mem.dram m (data.take page4K) }
    let s := poison.foldl (fun s i => s.setMark (m / 64 + i) true) s
    let s := (s.markRun m page4K noPd).retagRun m page4K
    if s.unitWaits unit then s else s.unitDone unit
  | _, _ => s

/-- TWIN_PAGE_TIMEOUT: 10 s after it was asked for, a page is restored poisoned (R460). -/
def execTwinPageTimeout (page : Nat) (s : State) : Host.Outcome State Fault Refusal :=
  .next <|
    match s.media? (page * page4K) with
    | none => s
    | some m =>
      if s.coreOn && due s.now (AMap.get? s.start.twinPages page) then
        let s := { s with start.twinPages := AMap.del s.start.twinPages page }.restorePoisoned m
        if s.unitWaits (page / 512) then s else s.unitDone (page / 512)
      else s

/-- Moves a unit that is not restored yet to the head of the order (R455). -/
def State.demandUnit (s : State) (u : Nat) : State :=
  if s.start.units.contains u && s.start.units.head? != some u then
    { s.bump R.DUR_DEMAND 1 with start.units := u :: s.start.units.filter (· != u) }
  else s

/-- The twin reads a page of its own image for the holder's restore. -/
def State.answerTwinPage (s : State) (page : Nat) : State :=
  let a := page * page4K
  let marks := (rangeFrom 0 64).filter (fun i => AMap.has s.mem.imagePoison (a / 64 + i))
  s.sendResync a (List.replicate 32 0) marks 0 2 (Mem.readN s.mem.image a page4K)

end Sys2Proof.Machine
end

