-- ==== Sys2Proof/Machine/Rings.lean ====
section
/-! DEFINITION. Management rings (R303 to R318): set-up, doorbells, fetch, completions, coalescing, and what disables them; and
the event hub's timers. -/

namespace Sys2Proof.Machine

open Sys2Proof

/-- FIRMWARE_PACE.RING_ERROR with the ring's number (R303, R305). -/
def State.ringError (s : State) (n : Nat) : State := s.raise Ev.FIRMWARE_PACE_RING_ERROR [(1, n)]

/-- The 0-to-1 change of ENABLE: a base off 4 KiB alignment leaves the ring in ERROR; otherwise it starts empty at phase 1
(R303, R304). An event ring then takes the records held for it (R474), an
export ring those of R328. -/
def State.enableRing (s : State) (k : RingKind) (n : Nat) : State :=
  let s := s.wrN (fEnable k) n 1
  if s.rdN (fBase k) n % 4096 = 0 then
    let s := (((s.wrN (fState k) n 1).wrN (fH9Index k) n 0).wrN (fHostIndex k) n 0).setRingUnit k n ringIdle
    if k = .ev then s.drainHub else if k = .ex then s.drainExports n else s
  else (s.wrN (fState k) n 3).ringError n

/-- A set of CFG.ENABLE (R303, R318). Recovery enables command ring 0 alone (R443). -/
def State.startRing (s : State) (k : RingKind) (n : Nat) : State :=
  if !s.coreOn || decide (ringCount k ≤ n) then s
  else if s.on R.FW_STATUS_RECOVERY && k == .cmd && n != 0 then s
  else if s.ringState k n = 0 then s.enableRing k n
  else if s.ringState k n = 2 then
    (s.wrN (fEnable k) n 1).setRingUnit k n { s.ringUnit k n with stored := true }
  else s

/-- RING_ENABLE. -/
def execRingEnable (k : RingKind) (n : Nat) (s : State) : Host.Outcome State Fault Refusal := .next (s.startRing k n)

/-- When the last fetched command of a DRAINING ring has completed the ring is DISABLED, and enabled again at once where
ENABLE was set meanwhile (R318). -/
def State.settleDrain (s : State) (n : Nat) : State :=
  if s.ringState .cmd n = 2 && s.cmds.all (fun c => c.ring != n || c.orphan) then
    let again := (s.ringUnit .cmd n).stored
    let s := (s.wrN (fState .cmd) n 0).setRingUnit .cmd n ringIdle
    if again then s.enableRing .cmd n else s
  else s

/-- A clear of CFG.ENABLE (R318): a command ring drains, a completion ring still named by an active command ring stays, any
other ring is DISABLED at once. -/
def State.stopRing (s : State) (k : RingKind) (n : Nat) : State :=
  if !s.coreOn || decide (ringCount k ≤ n) || s.rdN (fEnable k) n == 0 then s
  else match k with
  | .cmd =>
    ((s.wrN (fEnable .cmd) n 0).setRingUnit .cmd n { s.ringUnit .cmd n with stored := false }).wrN (fState .cmd) n 2
      |>.settleDrain n
  | .cpl =>
    if (List.range 64).any (fun c => (s.ringState .cmd c == 1 || s.ringState .cmd c == 2)
        && s.rdN R.RING_CMD_CFG_CPL_RING c == n) then s.ringError n
    else ((s.wrN (fEnable .cpl) n 0).wrN (fState .cpl) n 0).setRingUnit .cpl n ringIdle
  | k => ((s.wrN (fEnable k) n 0).wrN (fState k) n 0).setRingUnit k n ringIdle

/-- RING_DISABLE. -/
def execRingDisable (k : RingKind) (n : Nat) (s : State) : Host.Outcome State Fault Refusal := .next (s.stopRing k n)

/-- A doorbell: ignored unless the ring is ENABLED; a value at or above the size is ignored and sets DB_ERR (R305). -/
def State.doorbell (s : State) (k : RingKind) (n v : Nat) : State :=
  let v := v % 65536
  if !s.coreOn || decide (ringCount k ≤ n) || s.ringState k n != 1 then s
  else if s.ringSize k n ≤ v then (s.wrN (fDbErr k) n 1).ringError n
  else s.wrN (fHostIndex k) n v

/-- A head doorbell: entries released, and the coalescing timer started where unconsumed entries remain (R304, R314). -/
def State.headDoorbell (s : State) (k : RingKind) (n v : Nat) : State :=
  let s := s.doorbell k n v
  let u := s.ringUnit k n
  if s.coreOn && s.ringState k n == 1 && decide (v % 65536 < s.ringSize k n) && u.timer.isNone
      && s.rdN (fHostIndex k) n != s.rdN (fH9Index k) n then
    s.setRingUnit k n { u with timer := some (s.now + us (s.rdN (fCoalUs k) n)) }
  else s

/-- CMD_TAIL: descriptors up to the new tail become available (R304). -/
def execCmdTail (n v : Nat) (s : State) : Host.Outcome State Fault Refusal := .next (s.doorbell .cmd n v)

/-- CPL_HEAD: completion entries released (R304). -/
def execCplHead (n v : Nat) (s : State) : Host.Outcome State Fault Refusal := .next (s.headDoorbell .cpl n v)

/-- EV_HEAD: event entries released, so that held records are written (R304, R484). -/
def execEvHead (m v : Nat) (s : State) : Host.Outcome State Fault Refusal := .next (s.headDoorbell .ev m v).drainHub

/-- EX_HEAD: entries of an export ring are released, and held records follow (R304, R328). -/
def execExHead (k v : Nat) (s : State) : Host.Outcome State Fault Refusal := .next ((s.headDoorbell .ex k v).drainExports k)

/-- Descriptors between the head of a command ring and its tail. -/
def State.descriptorsPending (s : State) (n : Nat) : Nat :=
  (s.rdN (fHostIndex .cmd) n + s.ringSize .cmd n - s.rdN (fH9Index .cmd) n) % s.ringSize .cmd n

/-- Completion entries not yet reserved on the completion ring of command ring `n` (R311). -/
def State.completionRoom (s : State) (n : Nat) : Nat :=
  let c := s.rdN R.RING_CMD_CFG_CPL_RING n
  if s.ringState .cpl c = 1 then
    s.ringRoom .cpl c - (s.cmds.filter (fun d => !d.orphan && s.rdN R.RING_CMD_CFG_CPL_RING d.ring == c)).length
  else 0

/-- How many descriptors one turn of ring `n` may fetch: up to 8, within 4,096 in flight and the reserved completions
(R311). -/
def State.fetchable (s : State) (n : Nat) : Nat :=
  if s.ringState .cmd n = 1 then
    min (min 8 (s.descriptorsPending n)) (min (4096 - s.cmds.length) (s.completionRoom n))
  else 0

/-- The ring whose turn it is: the next from the round-robin pointer with something to fetch. -/
def State.nextRing (s : State) : Option Nat :=
  ((List.range 64).map (fun i => (s.rrNext + i) % 64)).find? (fun n => decide (0 < s.fetchable n))

/-- Enters one descriptor as fetched. A broken INDIRECT or alignment rule, a failed block read and an undefined opcode end it
at once with nothing changed (R306, R307). -/
def State.enterDescriptor (s : State) (n : Nat) (d : Descriptor) : State :=
  let slot := s.rdN (fH9Index .cmd) n
  let c : Cmd := { id := s.nextCmd, ring := n, slot, opcode := d.opcode, tag := d.tag, barrier := d.barrier, noIrq := d.noIrq,
                   phase := .fetched, status := 0, detail := 0, result := 0, events := [], orphan := false, mirror := none,
                   range := (0, 0, 0) }
  let c := if !definedOpcodes.contains d.opcode then
      { c with phase := .ended, status := St.DENIED_PROTECTION, detail := Why.BAD_OPCODE }
    else if !d.blockOk then { c with phase := .ended, status := St.DENIED_PROTECTION, detail := Why.BAD_PARAM }
    else if d.readError then { c with phase := .ended, status := St.FAULT_INTERNAL }
    else c
  ({ s.note (.command n d.opcode d.tag) with cmds := s.cmds ++ [c], nextCmd := s.nextCmd + 1 }).wrN (fH9Index .cmd) n ((slot + 1) % s.ringSize .cmd n)

/-- One turn of the fetch: ring `n` must be the one whose turn it is. A descriptor read that meets a PCIe error puts the ring
in ERROR (R311, R318). Fetching stops at save step 1 (R318). -/
def execDescriptorFetch (n : Nat) (ds : List Descriptor) (error : Bool) (s : State) : Host.Outcome State Fault Refusal :=
  .next <|
    if !s.coreOn || s.save.active || s.nextRing != some n then s
    else if error then ((s.wrN (fState .cmd) n 3).ringError n)
    else { (ds.take (s.fetchable n)).foldl (fun s d => s.enterDescriptor n d) s with rrNext := (n + 1) % 64 }

/-- Whether an ended command's completion may be written: its event records are written, its mirror record is acknowledged,
and its completion ring has room (R313). -/
def State.completable (s : State) (c : Cmd) : Bool :=
  c.phase == .ended && c.mirror.isNone && c.events.all (fun e => s.hub.held.all (fun h => h.id != e))
    && s.ringState .cpl (s.rdN R.RING_CMD_CFG_CPL_RING c.ring) == 1
    && !s.ringFull .cpl (s.rdN R.RING_CMD_CFG_CPL_RING c.ring)

/-- Writes a command's completion entry and retires the command (R308, R313, Table 14-4). -/
def State.writeCompletion (s : State) (c : Cmd) : State :=
  let p := s.rdN R.RING_CMD_CFG_CPL_RING c.ring
  let sq := s.rdN (fH9Index .cmd) c.ring
  let s := s.ringWrite .cpl p c.noIrq (fun ph => .completion
    { tag := c.tag, opcode := c.opcode, status := c.status, detail := c.detail, sqHead := sq, sqRing := c.ring,
      result := c.result, phase := ph })
  ({ s.startGrace c.id with cmds := s.cmds.filter (fun d => d.id != c.id) }).settleDrain c.ring

/-- COMMAND_COMPLETION of the earliest ended command from this ring and slot. -/
def execCommandCompletion (r : CmdRef) (s : State) : Host.Outcome State Fault Refusal :=
  .next <|
    match s.cmds.find? (fun c => c.ring == r.ring && c.slot == r.slot && s.completable c) with
    | some c => if s.coreOn then s.writeCompletion c else s
    | none => s

/-- COAL.US has passed since the first entry after the last signal (R314). -/
def execCoalescingTimer (k : RingKind) (n : Nat) (s : State) : Host.Outcome State Fault Refusal :=
  .next <|
    if s.coreOn && k != .cmd && decide (n < ringCount k) && s.ringState k n == 1 && due s.now (s.ringUnit k n).timer then
      s.signalRing k n
    else s

/-- Returns the fields whose key lies between two BAR0 offsets to their values after reset. -/
def State.resetBlock (s : State) (lo hi : Nat) : State :=
  { s with regs := s.regs.filter (fun e => e.1 < lo * 64 || decide (hi * 64 ≤ e.1)) }

/-- Every ring is DISABLED, and the RING, DOORBELL and MSIX blocks return to their reset values, RING_CLAMPS apart (R316,
R471, R472). -/
def State.dropRings (s : State) : State :=
  { s.resetBlock 0x10000 0x11200 with rings := [], msix := [], rrNext := 0 }

/-- The rings go while the core runs: accepted commands go on and end with COMMAND_ORPHANED; commands not yet accepted are
dropped (R318). -/
def State.orphanCommands (s : State) : State :=
  let ended := s.cmds.filter (fun c => c.phase == .ended)
  let s := { s with cmds := (s.cmds.filter (fun c => c.phase == .running)).map (fun c => { c with orphan := true }) }
  ended.foldl (fun s c => (s.startGrace c.id).raiseTag Ev.FIRMWARE_PACE_COMMAND_ORPHANED [(1, c.status)] c.tag) s

/-- A Function Level Reset (R316, R471, R475). -/
def execFunctionLevelReset (s : State) : Host.Outcome State Fault Refusal :=
  .next <|
    if s.coreOn then
      { s.dropRings.orphanCommands.wr R.GLOBAL_STATUS_RESET_ARMED 0 with armedEnd := none }
    else s

/-- The PCIe link goes down: all rings are DISABLED (R318). -/
def execPcieLinkDown (s : State) : Host.Outcome State Fault Refusal :=
  .next (if s.coreOn then s.dropRings.orphanCommands else s)

/-- WINDOW_MS has passed for a source with pending repeats (R482). -/
def execRepeatWindowExpiry (src : Nat) (s : State) : Host.Outcome State Fault Refusal :=
  .next <|
    let t := s.track src
    let win := ms (s.rd R.EVENT_STORM_WINDOW_MS)
    let quiet := match t.prev with
      | some (_, _, at') => decide (at' + win ≤ s.now)
      | none => false
    if s.coreOn && s.hubOn && decide (0 < t.pending) && (quiet || decide (t.lastRecord + win ≤ s.now)) then s.closePending src else s

/-- The second in which a source was folded has ended: its SUMMARY record is closed, and then the UPDATE record of its pending repeats
(R483, R486). -/
def execStormSecondEnd (src : Nat) (s : State) : Host.Outcome State Fault Refusal :=
  .next <|
    let t := s.track src
    if s.coreOn && s.hubOn && decide (0 < t.folded) && decide (t.second < s.secondNow) then
      let s := s.closeSecond src
      s.setTrack src { s.track src with second := s.secondNow, inSecond := 0 }
    else s

end Sys2Proof.Machine
end

