-- ==== Sys2Proof/Machine/Quench.lean ====
section
/-! DEFINITION. Releasing the core die: the straps (R451) and Quench (R392), which clears every core-die SRAM and leaves what flash,
keeper flash and the keeper hold. -/

namespace Sys2Proof.Machine

open Sys2Proof

/-! ### Straps (R335, R336, R451) -/

/-- Latches the straps; a ROLE_SEL or PAIR_SIDE that differs from the previous start's is reported with both values. -/
def State.sampleStraps (s : State) (x : Straps) : State :=
  let prev := s.keeper.prevStraps.getD (x.roleSel, x.pairSide)
  let changed := prev != (x.roleSel, x.pairSide)
  let s := ((s.wr R.GLOBAL_STRAPS_ROLE_SEL x.roleSel).wr R.GLOBAL_STRAPS_PAIR_SIDE x.pairSide).wr R.GLOBAL_STRAPS_BOOT_SEL x.bootSel
  let s := ((s.wr R.GLOBAL_STRAPS_PREV_ROLE_SEL prev.1).wr R.GLOBAL_STRAPS_PREV_PAIR_SIDE prev.2).flag R.GLOBAL_STRAPS_CHANGED changed
  let s := ((s.wr R.DOMAIN_STATUS_ROLE x.roleSel).wr R.TWIN_STATUS_SIDE x.pairSide).wr R.GLOBAL_STRAPS_PAIR
    (if x.roleSel = 1 then s.rd R.DOMAIN_PAIR_PAIR else 0)
  { s with keeper.prevStraps := some (x.roleSel, x.pairSide) }

/-- The events of the straps, once the hub is there. -/
def State.strapEvents (s : State) : State :=
  let s := if s.rd R.GLOBAL_STRAPS_ROLE_SEL = 3 then s.raise Ev.DOMAIN_STRAP_INVALID [] else s
  if s.on R.GLOBAL_STRAPS_CHANGED then
    s.raise Ev.FIRMWARE_PACE_STRAP_CHANGED
      [(1, s.rd R.GLOBAL_STRAPS_PREV_ROLE_SEL * 2 + s.rd R.GLOBAL_STRAPS_PREV_PAIR_SIDE),
       (1, s.rd R.GLOBAL_STRAPS_ROLE_SEL * 2 + s.rd R.GLOBAL_STRAPS_PAIR_SIDE)]
  else s

/-! ### What a lost run leaves unconfirmed (R155, R503) -/

/-- Pair-local pages whose write-back the journal does not confirm and whose unit stands in the save intent, or in the running dirty
map where no intent was written. -/
def State.unconfirmed (s : State) : List Nat :=
  let inMap (u : Nat) : Bool := if s.save.intentWritten then s.save.intent.contains u else AMap.has s.dur.map u
  s.dur.dirty.filterMap (fun e => if inMap (e.1 / 512) then (s.localOf (e.1 * page4K)).map (· / page4K) else none)

/-- Keeps them for the restore, with the pages a start before this one still had to fetch. -/
def State.keepUnconfirmed (s : State) : State :=
  let more := (s.unconfirmed ++ s.start.twinPages.map (·.1)).filter (fun p => !s.start.lost.contains p)
  { s with start := { s.start with lost := s.start.lost ++ more, twinPages := [] } }

/-! ### Quench (R392) -/

/-- A status of the twin that has not been heard. -/
def peerIdle : PeerStatus := ⟨0, 0, 1, 0, 0, 0, false, 0⟩

/-- The request engines, the near cache and the durability unit after Quench. -/
def State.quenchEngines (s : State) : State :=
  let off : List Nat := (s.integ.off.filter (fun r : RowOff => r.lasting && r.memory == 4)).map (·.row)
  let s := { s with eng := { s.eng with ops := [], waiting := [], gather := [] } }
  let s := { s with near := { s.near with ways := [], lru := [], victims := [], misses := [], reenable := false, loading := [], retired := off } }
  let s := { s with dur := { s.dur with dirty := [], map := [], below := [] } }.flag R.NEAR_STATUS_LOAD_ACTIVE false
  let s := if s.rd R.NEAR_CTRL_ENABLE < 2 then s else s.wr R.NEAR_CTRL_ENABLE 0
  s.nearViews

/-- The transports: contexts are gone; QP contexts come back from the state block of the last save (R133). -/
def State.quenchTransports (s : State) : State :=
  let f := fun q : Qp =>
    ({ q with naked := false, cnpAt := none, write := none, acks := [], retry := [], owed := [], epsn := 0, results := [] } : Qp)
  let s := { s with cerga := { s.cerga with streams := [], cache := [], lookaside := [], fetching := [], held := [] } }
  let s := { s with roce := { s.roce with qps := s.roce.qps.map (fun (e : Nat × Qp) => (e.1, f e.2)), cache := [], parked := [] } }
  let s := { s with ports := ⟨[], []⟩ }
  let s := (List.range 16).foldl (fun s n => (s.wrN R.PORT_STATUS_LINK n 0).wrN R.PORT_STATUS_LANES_UP n 0) s
  s.cergaViews.roceViews

/-- The twin unit keeps what its keeper and the journal record: the pairing, the holder record, the epochs, the divergence map and
the commands to replay; its registers stand (R200). -/
def State.quenchTwin (s : State) : State :=
  let s := s.localiseCommands
  let t := { s.twin with holder := false, lastRenewSeen := none, sent := [], acked := [], commands := [], cut := [], credit := 0 }
  let t := { t with txKey := 0, rxKey := 0, assayKey := 0, shadows := [], handover := none, opening := false, announce := [] }
  let t := { t with accepted := [], unacked := [], frame := [], frameAt := none, txSeq := 0, rxSeq := 0, replayBuf := [] }
  let t := { t with discarding := false, replays := [], partials := [], resync := none, assayOpen := [], assayMine := [] }
  let t := { t with assayPeer := [], recent := [], tie := none, copying := [], yield := none, stopped := false, homeSince := none }
  let t := { t with peerStatus := peerIdle, trainAt := none, reads := 0, forcing := none, ident := none, resyncDue := false }
  let t := { t with ingress := [], quiesceAfter := false }
  { s with twin := t }

/-- The domain unit: requests and pushes in progress go; the outbox and the pushes themselves are system data. -/
def State.quenchDomain (s : State) : State :=
  let f := fun p : Push => ({ p with sent := false, cmd := none } : Push)
  let s := s.abandonJoin
  { s with domain := { s.domain with requests := [], pushes := s.domain.pushes.map f, pushing := none, pushResults := []
                                     lastAnswer := none, leaveCmd := none, waiting := [] } }

/-- Export records that a ring could not take, and contributions that the manager sums, stand in on-chip and DRAM memory: they outlast only
a save whose state blocks were written (R10, R328, R332; DESIGN CHOICE, assumption log 121). -/
def State.quenchRecords (s : State) : State :=
  if s.blocksKept then s else { s with meter.held := [], meter.aggregates := [] }.wr R.METER_HELD_RECORDS 0

/-- Tiers, shapers, Crucible and the memories: DRAM content is unreadable under the new key (R248, R250), and the key registers are
cleared (R392). -/
def State.quenchMemories (s : State) : State :=
  let start := fun c : Schedule => ({ c with positions := List.replicate c.positions.length 0 } : Schedule)
  let s := { s with shelf := { s.shelf with tiles := [], asked := [], schedules := s.shelf.schedules.map (fun (e : Nat × Schedule) => (e.1, start e.2)) } }
  let s := s.fillBuckets.quenchRecords
  let (k, s) := s.fresh 256
  let s := { s with crypt := { s.crypt with dramKey := k, contexts := [] }, keyRegs := [] }
  let s := { s with mem.dram := [], mem.dramPoison := [] }
  let s := { s with flash.relocate := [], flash.waiting := false, integ := ⟨[], [], [], [], s.integ.off.filter (fun r : RowOff => r.lasting)⟩ }
  (s.wr R.CIPHER_KEY_WORDS_WRITTEN 0).wr R.CIPHER_STATUS_START_DONE 0

/-- The host side, the hub, the voltage loop and the time unit. TAI runs on in the keeper; the unit has not synchronised yet. -/
def State.quenchHost (s : State) : State :=
  let s := { s.dropRings with cmds := [], armedEnd := none, captures := [], hub := ⟨[], [], s.hub.nextId⟩ }
  let s := { s with pace := { s.pace with monitors := [], above := 0, fullFor := 0, short := false, ceiling := false, few := false, held := none, automatic := false } }
  let s := { s with time := { s.time with holdover := false, pulseEnd := none, stepped := false, goodSince := none, lastSync := none } }
  let s := (s.wr R.GLOBAL_STATUS_RESET_ARMED 0).wr R.GLOBAL_STATUS_MGMT_READY 0
  (s.wr R.DOMAIN_TIME_STATUS_SYNCED 0).wr R.FW_CTRL_LOCK 0

/-- Rows that did not read zero are queued for field repair, after the repairs of this Quench have been applied (R298, R392). -/
def State.quenchSweep (s : State) (q : QuenchReport) : State :=
  let s := s.wr R.INTEG_REPAIR_PENDING 0
  let s := (s.wr R.LIFE_QUENCH_DURATION_US (min 0xFFFF q.micros)).wr R.LIFE_QUENCH_BAD_ROWS (min 0xFFFF q.bad.length)
  q.bad.foldl (fun s b => s.queueRepair b.1 b.2) s

/-- Locked ranges whose CACHE_LOCK has not ended are given up (R42). -/
def State.undoLocks (s : State) : State :=
  let s := (s.near.loading.filter (fun w => !w.2.2)).foldl (fun s w => { s with near.locks := AMap.del s.near.locks w.2.1 }) s
  { s with near.loading := [] }

/-- A grace period that waits for a completion is over: the completion is never posted (R50, assumption log 168). -/
def State.quenchGrace (s : State) : State :=
  let f (e : Nat × Pd) : Nat × Pd := (e.1, { e.2 with prev := if AMap.has s.prot.graceEnds e.1 then e.2.prev else none })
  { s with prot.grace := [], prot.pds := s.prot.pds.map f }

/-- Quench. The commands that a lost run left half done are undone first (R42). -/
def State.quench (s : State) (q : QuenchReport) : State :=
  let s := (s.undoLocks.rollback.2).keepUnconfirmed
  let s := s.quenchGrace
  let s := s.quenchEngines.quenchTransports.quenchTwin.quenchDomain
  let s := { s.quenchMemories.quenchHost with save.active := false, save.intent := [], save.intentWritten := false, trace := [] }
  (s.quenchSweep q).recomputeBudget

/-! ### Release of the core die -/

/-- The deferred life-cycle or debug request is applied when Quench ends (R386, Table 18-10). -/
def State.applyDeferred (s : State) : State :=
  match s.keeper.deferred with
  | some c => { s.wr R.LIFE_STATE_DEFERRED 0 with keeper.deferred := none }.applyChange c
  | none => s

/-- Steps 5 and 6 of Table 22-2 begin: straps, Quench, a new nonce, and the trainings; the scrubbers begin new passes (R297). A TRIAL slot has its time from here (R442). -/
def State.releaseCore (s : State) (q : QuenchReport) : State :=
  let s := ((s.sampleStraps q.straps).quench q).applyDeferred.newNonce
  let s := (s.wr R.INTEG_SCRUB_STATUS_DRAM_PCT 0).wr R.INTEG_SCRUB_STATUS_SRAM_PCT 0
  let s := { s with keeper.staging := [], fw.trialEnd := if s.trialPending then some (s.now + sec (s.rd R.FW_CTRL_TRIAL_TIMEOUT_S)) else none }
  let s := { s with start := { s.start with step := 6, quenchEnd := s.now, dramDone := false, fwDone := false
                                            tablesDone := false, keysDone := false, ledgerOk := false, admitted := false, presented := false } }
  let s := ((s.wr R.DUR_RESTORE_STATUS_PHASE 1).wr R.DUR_RESTORE_STATUS_FAIL_CODE 0).wr R.DUR_RESTORE_STATUS_REALLOCATED 0
  ((s.wr R.DUR_RESTORE_LEFT_UNITS 0).setPower 0).strapEvents

end Sys2Proof.Machine
end

