-- ==== Sys2Proof/Machine/Start.lean ====
section
/-! DEFINITION. A start (Table 22-2): power-on, the steps of power-up, training, the rebuild from flash, and the decision of roles
(R182, R430, R449 to R459). -/

namespace Sys2Proof.Machine

open Sys2Proof

/-! ### Step 4: power-up (R400) -/

/-- POWER_UP_STEP_END: the rails of a step are GOOD; the next step that has rails follows, and after the last one the core die is
released. -/
def State.nextPowerStep (s : State) : Nat → Nat → Option Nat
  | _, 0 => none
  | k, fuel + 1 => if (s.railsOf k).isEmpty then s.nextPowerStep (k + 1) fuel else some k

@[inherit_doc State.nextPowerStep] def execPowerUpStepEnd (q : QuenchReport) (s : State) : Host.Outcome State Fault Refusal :=
  .next <|
    if !s.keeperRuns || s.rd R.KEEPER_STATUS_SEQ_STATE != 1 then s
    else
      let k := s.rd R.KEEPER_STATUS_SEQ_STEP
      let s := (s.railsOf k).foldl (fun s n => s.wrN R.KEEPER_RAIL_STATUS_STATE n 2) s
      match s.nextPowerStep (k + 1) 8 with
      | some j => s.beginPowerUpStep j
      | none => ((s.wr R.KEEPER_STATUS_SEQ_STATE 2).wr R.KEEPER_STATUS_RETRIES 0).releaseCore q

/-! ### Failures (R459) -/

/-- Stops at a condition of Table 22-3; the first one found stands. -/
def State.startFails (s : State) (code : Nat) : State :=
  if s.rd R.DUR_RESTORE_STATUS_FAIL_CODE != 0 then s
  else (s.wr R.DUR_RESTORE_STATUS_PHASE 5).wr R.DUR_RESTORE_STATUS_FAIL_CODE code

/-- The code of the failure that stands. -/
def State.failCode (s : State) : Nat := s.rd R.DUR_RESTORE_STATUS_FAIL_CODE

/-! ### Step 6: flash (R263 to R269, Table 12-4 steps 1 to 3) -/

/-- The population of a flash channel: die type and number of dies. -/
def FlashReport.population (r : FlashReport) : Nat × Nat × Nat × Nat := (r.gib, r.rated, r.blocks, r.dies)

/-- The reference population: the most common among the channels that passed, and among equals the larger. -/
def flashReference (rs : List FlashReport) : Option FlashReport :=
  let count (r : FlashReport) : Nat := (rs.filter (fun x => FlashReport.population x == FlashReport.population r)).length
  rs.foldl (fun b r => match b with
    | none => some r
    | some x => if count x < count r ∨ (count x = count r ∧ x.gib * x.dies < r.gib * r.dies) then some r else some x) none

/-- One channel's outcome. Dies that were out are tried again. -/
def State.flashChannelEnds (ref : Option FlashReport) (s : State) (r : FlashReport) : State :=
  let same : Bool := match ref with | some x => FlashReport.population x == FlashReport.population r | none => false
  let cause := if r.cause != 0 then r.cause else if same then 0 else 6
  let s := ((s.wrN R.FLASH_CH_STATUS_LANE r.channel r.lane).wrN R.FLASH_CH_STATUS_OUT_CAUSE r.channel cause).wrN
    R.FLASH_CH_STATUS_DIES_OUT r.channel 0
  if cause = 0 then s.wrN R.FLASH_CH_STATUS_STATE r.channel 2
  else ((s.wrN R.FLASH_CH_STATUS_STATE r.channel 3).raise Ev.FLASH_TRAINING_FAIL []).raise Ev.FLASH_CHANNEL_OUT []

/-- The bus rate of R265: the highest of Table 12-1 that every die supports, within SPEED_CAP. -/
def State.flashRate (s : State) (rs : List FlashReport) : Nat :=
  let cap := [2400, 2800, 3200, 3600].getD (s.rd R.FLASH_CTRL_SPEED_CAP) 3600
  let slow := rs.foldl (fun m r => min m r.rate) cap
  ([2400, 2800, 3200, 3600].filter (fun v : Nat => decide (v ≤ slow))).foldl max 2400

/-- U, the spare pool and the log reserve of `dies` dies (R269). The pools are formed at the first start and again when the number of
dies changes. -/
def State.flashPools (s : State) (dies : Nat) : State :=
  let raw := dies * s.flash.dieGib
  let u := min 65536 (raw * 3 / 4)
  if s.rd R.FLASH_USER_GIB = u && s.flash.sparesAtFirst != 0 then s
  else
    let spares := dies * s.flash.blocksPerDie / 20
    let first := if s.flash.sparesAtFirst = 0 then spares else s.flash.sparesAtFirst
    let left := if s.flash.sparesAtFirst = 0 then spares else s.flash.spares
    { s.wr R.FLASH_USER_GIB u with
      flash := { s.flash with spares := left, sparesAtFirst := first, reserve := (raw * 15 * gib / 16) - u * gib - raw * gib / 20 } }

/-- What flash steps 1 to 3 leave. -/
def State.flashTrained (s : State) (rs : List FlashReport) : State :=
  let here := rs.filter (fun r => decide (r.channel < 32) && r.dies != 0)
  let passed := here.filter (fun r => r.cause == 0)
  let ref := flashReference passed
  let x := ref.getD ⟨0, 0, 0, 0, 0, 0, 0, 0⟩
  let good := passed.filter (fun r => FlashReport.population r == FlashReport.population x)
  let s := (List.range 32).foldl (fun s n => s.wrN R.FLASH_CH_STATUS_STATE n 0) s
  let t : State := here.foldl (State.flashChannelEnds ref) s
  let s : State := { t with flash := { t.flash with perChannel := x.dies, dieGib := x.gib, blocksPerDie := x.blocks, dies := [] } }
  let s := ((s.wr R.FLASH_STATUS_MTS (if good.isEmpty then 0 else s.flashRate good)).wr R.FLASH_RATED_RATED_PE x.rated)
  let s := (s.flashPools (good.length * x.dies)).flashViews
  let s := s.formGroups
  if good.length < 16 then ((s.wr R.FLASH_STATUS_STATE 4).raise Ev.FLASH_CAPACITY_SHORT []).startFails 1 else s.wr R.FLASH_STATUS_STATE 0

/-- FLASH_TRAINING_COMPLETE: the firmware load follows (step 7). -/
def execFlashTrainingComplete (rs : List FlashReport) (s : State) : Host.Outcome State Fault Refusal :=
  .next <|
    if !s.coreOn || s.start.step != 6 then s
    else
      let s := s.flashTrained rs
      { s with start := { s.start with step := 7 } }

/-! ### Step 10: state blocks and ledger (R133, R155, R156, R332, R458) -/

/-- The windows of the last run: the state block keeps them where save step 7 completed (R332). A window that ended during the outage is INTERRUPTED,
and the one that contains the restart goes on. -/
def State.resumeWindows (s : State) (kept : Bool) : State :=
  if !kept then { s with meter.settling := none, meter.current := windowAt (s.meter.current.id + 1) s.taiSeconds }
  else
    let s := s.settleWindow
    if s.meter.current.start + 60 ≤ s.taiSeconds then (s.closeWindow 4).settleWindow else s

/-- QPs in RTR or RTS take their responder state from the block of the last save (R133); they start in ERR where it was not written
(R155), each with its QP_ERROR (R130, assumption log 186). -/
def State.loadQps (s : State) (kept : Bool) : State :=
  let live := s.roce.qps.filter (fun e => e.2.state == .rtr || e.2.state == .rts)
  (live.foldl (fun s (e : Nat × Qp) => match AMap.get? s.roce.saved e.1 with
    | some b => if kept then s.setQp e.1 (Qp.loadBlock e.2 b) else s.qpToErr e.1 0 St.ABORTED_RESET
    | none => s.qpToErr e.1 0 St.ABORTED_RESET) s).roceViews

/-- The ledger as step 10 finds it (R156): lost where its CMAC fails or step 9 of the last save did not complete. -/
def State.checkLedger (s : State) : State :=
  if s.save.incomplete || !s.start.ledgerOk then
    let s := { s with ledger := { s.ledger with lost := true, presented := false, superseded := false, releaseAt := none } }
    (if s.rd R.DUR_LAST_SAVE_RESULT = 1 then s else s.wr R.DUR_LAST_SAVE_RESULT 2).raise Ev.DURABILITY_LEDGER_LOST []
  else { s with ledger := { s.ledger with lost := false, presented := false, superseded := false, releaseAt := none } }

/-- Step 10. -/
def State.loadBlocks (s : State) : State :=
  let s := { s.loadQps s.blocksKept with dur.dieMeans := s.dur.savedMeans }
  (s.resumeWindows s.blocksKept).checkLedger

/-! ### Reallocation (R44, R454) -/

/-- New extents for every WRITABLE region that this side holds, after the number of DRAM channels has changed. -/
def State.reallocate (s : State) : State :=
  if s.start.prevChannels.isEmpty || s.start.prevChannels.length == s.dram.order.length then s
  else
    let held := s.prot.regions.filter (fun e => e.2.writable && s.holds e.2)
    let s := { s with prot.extents := s.prot.extents.filter (·.shelf), shelf.stage := [] }
    let s := held.foldl (fun s (e : Nat × Region) => match s.allocate e.1 (e.2.base / unit2M) (e.2.size / unit2M) with
      | .ok es => s.addExtents es
      | .error _ => s) s
    s.wr R.DUR_RESTORE_STATUS_REALLOCATED 1

/-! ### Step 11: roles and restore (R182, R192, R454 to R457) -/

/-- The units of the WRITABLE regions this side holds, by ascending region and address; a restore that a save cut short goes on where
it stood (R454, R460). -/
def State.restoreUnits (s : State) : List Nat :=
  let all := ((s.prot.regions.filter (fun e => e.2.writable && s.holds e.2)).map (fun e => unitsOf e.2.base e.2.size)).flatten
  let first := all.filter s.start.units.contains
  first ++ all.filter (fun u => !first.contains u)

/-- Sets the order of the restore. -/
def State.beginRestore (s : State) (units : List Nat) : State :=
  { s with start.units := units }.wr R.DUR_RESTORE_LEFT_UNITS units.length

/-- Roles as the keeper recorded them: an unpaired H9 and a recorded holder serve once they have what R182 asks for; any other twin
becomes standby. -/
def State.startRole (s : State) : State :=
  let units := s.restoreUnits
  if !s.paired then { s.beginRestore units with twin.holder := true }
  else
    let s := { s with twin.viewEnd := some (s.now + s.leaseL + s.leaseG), twin.grantAt := s.now, twin.witnessAt := s.now, twin.leaseEnd := none }
    let s := s.startTraining.wr R.TWIN_STATUS_SYNC 1
    if s.twin.recorded then { s.beginRestore units with twin.holder := true }
    else
      let s := (s.beginRestore (units.filter s.ownUnits.contains)).wr R.DUR_RESTORE_STATUS_PHASE 3
      s.supersede

/-- Step 11. BLANK, RETURNED and DBG2 restore nothing and take no token; PROVISIONED restores and shows code 6 (R459). -/
def State.openService (s : State) : State :=
  let lc := s.rd R.LIFE_STATE_LIFECYCLE
  let s := { s with start.step := 11, start.prevChannels := s.dram.order }
  let s := s.raise Ev.DURABILITY_RESTORE_START []
  if lc = 0 ∨ lc = 3 ∨ s.rd R.LIFE_STATE_DEBUG = 2 then s.startFails 6
  else
    let s := if lc = 2 then s else s.wr R.DUR_RESTORE_STATUS_FAIL_CODE 6
    let s := { s.startRole with start.admitted := true }
    ((s.tokenInd (s.twin.holder && s.paired)).twinViews).firstAdmission

/-- Steps 10 and 11 begin once the tables, the key store and DRAM are there and nothing has stopped the start. -/
def State.proceed (s : State) : State :=
  if s.start.step == 10 && s.start.tablesDone && s.start.keysDone && s.start.dramDone && s.failCode == 0 then
    let s := s.loadBlocks.reallocate
    (s.settleStage.openService).recomputeBudget
  else s

/-! ### Step 6: DRAM -/

/-- DRAM_TRAINING_COMPLETE (R251, R260): step 10 waits for it. The durability image is as large as the writable tier can be (Table
12-2). -/
def execDramTrainingComplete (rs : List DramReport) (s : State) : Host.Outcome State Fault Refusal :=
  .next <|
    if !s.coreOn || s.start.dramDone || decide (s.start.step < 6 ∨ 10 < s.start.step) then s
    else
      let (fits, s) := s.dramTrained rs
      let s := (s.wr R.FLASH_IMAGE_GIB (s.rd R.DRAM_CAPACITY_TOTAL_GIB - 6)).flashViews
      if fits then { s with start.dramDone := true }.proceed else s.startFails 3

/-! ### Steps 8 and 9 (Table 12-4 steps 4 to 6, R278, R359, R369) -/

/-- Erases without ERASE_DONE are done again; a block that fails is retired (R273, R278). -/
def State.redoErases (s : State) (failed : List FlashBlock) : State :=
  let opened := s.flash.blocks.filter (fun e => e.2.eraseOpen && !failed.any (fun b => FlashBlock.key b == e.1))
  let s := opened.foldl (fun s (e : Nat × BlockState) =>
    let s := { s with flash.blocks := AMap.set s.flash.blocks e.1 { e.2 with eraseOpen := false, erases := e.2.erases + 1, programs := 0 } }
    (s.bump R.FLASH_ERASES_REDONE 1).raise Ev.FLASH_ERASE_REDONE []) s
  failed.foldl (fun s b => if (s.blockState b).eraseOpen then s.retireBlock b else s) s

/-- Programs that fill a block: its raw size in units of 4 planes × 3 pages × 16 KiB (R267). -/
def State.blockPrograms (s : State) : Nat := s.flash.dieGib * gib / max 1 s.flash.blocksPerDie / 196608

/-- Blocks that programs had begun to fill: their valid codewords are relocated, and they are queued for erase (R279). Blocks that a save
failed to program retire now, if they have not (Table 12-5). -/
def State.closeOpenBlocks (s : State) : State :=
  let opened := s.flash.blocks.filter (fun e => !e.2.eraseOpen && !e.2.retired && decide (0 < e.2.programs ∧ e.2.programs < s.blockPrograms))
  let block (k : Nat) : FlashBlock := ⟨k / 16777216, k / 1048576 % 16, k % 1048576⟩
  let s := opened.foldl (fun s e => s.openErase (block e.1)) s
  s.flash.failed.foldl (fun s k => s.retireBlock (block k)) { s with flash.failed := [] }

/-- The known-answer tests (R359): a cluster that fails is left out. -/
def State.cipherTests (s : State) (mask : Nat) : State :=
  let bad := (rangeFrom 0 8).filter (fun c => !mask.testBit c)
  let s := bad.foldl (fun s _ => s.raise Ev.CIPHER_SELFTEST_FAIL []) (s.wr R.CIPHER_STATUS_CLUSTERS_OK (mask % 256))
  if 1 < bad.length then s.startFails 4 else s

/-- The next value above `n` that is a multiple of 2^32. -/
def nextBlock32 (n : Nat) : Nat := (n / 2 ^ 32 + 1) * 2 ^ 32

/-- The key store and the message counter are rebuilt: counters go on at the next multiple of 2^32, so that none is used twice (R338,
R369). -/
def State.rebuildKeys (s : State) : State :=
  let f := fun k : KeySlot => if k.type ≠ Slot.HOST then k else ({ k with counter := nextBlock32 k.counter } : KeySlot)
  let s := { s with crypt.slots := s.crypt.slots.map (fun (e : Nat × KeySlot) => (e.1, f e.2)) }
  let c := nextBlock32 s.domain.counter
  let s := { s with domain.counter := c, start.keysDone := true }.deriveXts.setCounter 5 c
  (s.wr R.CIPHER_STATUS_START_DONE 1).keyViews

/-- What follows a journal that was read: tables, pools, budget, cipher tests and key store. -/
def State.replayed (s : State) (failed : List FlashBlock) (erased mask : Nat) (ledgerOk : Bool) : State :=
  let s := (s.redoErases failed).closeOpenBlocks
  let s := { s with flash.erased := erased, flash.checkpointAt := s.now + sec 60, flash.journal := 0 }
  let s := s.wr R.FLASH_STATUS_STATE (if s.flash.wornOut then 3 else if 0 < s.rd R.FLASH_REBUILD_LEFT_GIB then 2 else 1)
  let s := if erased < erasedFloor then s.raise Ev.FLASH_ERASED_LOW [] else s
  let s := { s with start := { s.start with tablesDone := true, ledgerOk, step := 10 }, dur.nextBudget := s.now }
  ((((s.protViews.flashViews.nearViews).tierViews).cergaViews).cipherTests mask).rebuildKeys

/-- JOURNAL_REPLAY_COMPLETE: whether a valid copy was found, blocks whose redone erase failed, erased bytes, the clusters that pass
their tests, and whether the ledger's CMAC verifies. It does not run in recovery, nor where flash is short. -/
def execJournalReplayComplete (ok : Bool) (failed : List FlashBlock) (erased mask : Nat) (ledgerOk : Bool) (s : State) :
    Host.Outcome State Fault Refusal :=
  .next <|
    if !s.coreOn || s.start.step != 8 || s.failCode == 1 || s.on R.FW_STATUS_RECOVERY then s
    else if !ok then (s.raise Ev.FLASH_JOURNAL_LOST []).startFails 2
    else (s.replayed failed erased mask ledgerOk).proceed

/-! ### Steps 1 and 2: power-on (R378, R413, R430, R443, R449) -/

/-- The registers after VK_3V3 has risen: reset values, what outlasts power, and the committed keeper settings (R417). -/
def State.powerOnRegs (s : State) : State :=
  let kept := s.regs.filter (fun e => keyPersists e.1)
  { s with regs := s.keeper.flash.settings.foldl (fun m e => AMap.set m e.1 e.2) kept }

/-- The keeper's own volatile state after VK_3V3 has risen; AVSBus has not failed yet (R28). -/
def State.freshKeeper (s : State) : State :=
  let k := s.keeper
  let f : Feed := ⟨none, false, false⟩
  let k := { k with rails := [], feedA := f, feedB := f, feedHold := false, onSecondary := false, retryAt := none, holdEnd := none }
  let k := { k with waitStart := true, abortShutdown := false, startVEnd := none, keepAfter := false }
  let k := { k with powered := true, stopped := false, fifoOut := [], staging := [], thermDriven := false, thermInput := false }
  let k := { k with thermAt := none, outputs := [], inputs := [], clocksLost := [], vddMv := 760, deferred := none }
  let k := { k with debugEnd := none, testEnd := none, railCfg := [], indFault := none }
  { s with keeper := k, pace.avsFails := 0, pace.retryAt := none }

/-- Table 20-5: erases that were cut are done again, and POWER_CYCLES grows. Of the RAM ring the counters outlast the loss of VK_3V3
(assumption log 206). -/
def State.flashStart (s : State) : State :=
  let cut := s.keeper.flash.sectors.filter (fun e => e.2.started != e.2.done)
  let w : WindowPath := ⟨0, [], 0, false, 0, 0⟩
  let s := { s with keeper.flash := { s.keeper.flash with ram := s.keeper.flash.ram.filter (fun r => r.kind == 2), ops := [], pcie := w, mgmt := w, flood := none, retries := [], tokens := sec 256 } }
  let s := cut.foldl (fun s e => (s.eraseSector e.1).keeperLog Ev.FIRMWARE_PACE_KFLASH_ERASE_REDONE
    (severityOf Ev.FIRMWARE_PACE_KFLASH_ERASE_REDONE) (detailOf [(1, e.1)]) false) s
  s.setCounter 2 (s.counter 2 + 1)

/-- The life-cycle check (R378). -/
def State.checkLifecycle (s : State) (mismatch : Bool) : State :=
  if mismatch then
    ({ s with keeper.mismatch := true }.wr R.LIFE_STATE_LIFECYCLE 3).raiseKeeper Ev.SECURITY_LIFECYCLE_MISMATCH []
  else s

/-- POWER_ON: VK_3V3 rises. `fwOk` says whether a keeper slot verifies, `mismatch` whether the fuses contradict the life-cycle area.
A core die that still ran has lost its power with no save (R155); TAI is lost with the keeper's supply. -/
def execPowerOn (fwOk mismatch : Bool) (s : State) : Host.Outcome State Fault Refusal :=
  .next <|
    if s.keeperRuns then s
    else
      let s := if s.coreOn || s.save.active then
          { s with save.active := false, save.incomplete := true, save.lastStep := if s.save.active then s.save.step else 0 }
        else s
      let s := s.coreDown.powerOnRegs.freshKeeper
      let s := { s with time := { s.time with tai := 0, second := 0, holdover := false, stepped := false, goodSince := none, lastSync := none } }
      let s := { s with cmds := [], rings := [], msix := [], hub := ⟨[], [], s.hub.nextId⟩, keeper.mismatch := false, cerga.destroyed := [] }
      let s := (s.flashStart.checkLifecycle mismatch).wr R.LIFE_STATE_POWER 5
      let s := { s with keeper.mboxI3c := s.on R.KEEPER_MBOX_CFG_I3C, keeper.mboxAddr := s.rd R.KEEPER_MBOX_CFG_STATIC_ADDR }
      let s := { s with keeper.flash.romRecovery := !fwOk }
      s.tryPowerUp false

end Sys2Proof.Machine
end

