-- ==== Sys2Proof/Machine/Quiesce.lean ====
section
/-! DEFINITION. Power states P1 and P2 and what a save shares with the entry to P2: every dirty page written back (R387 to R390,
R138). -/

namespace Sys2Proof.Machine

open Sys2Proof

/-! ### Emptying DRAM into flash -/

/-- Applies every gather entry in order and writes every dirty near-cache line to DRAM (R136, R207). -/
def State.settleDram (s : State) : State := (s.eng.gather.foldl State.applyEntry s).flushNear

/-- Programs one dirty page with its poison marks. A page of a DRAM channel that is out is written poisoned and stays unconfirmed (R138, R259,
Table 11-6). -/
def State.programDirty (s : State) (page : Nat) : State :=
  match AMap.get? s.dur.dirty page with
  | none => s
  | some p =>
    if s.runGone (page * page4K) page4K then
      match s.localOf (page * page4K) with
      | some a => { s with mem.imagePoison := imageMarks s.mem.imagePoison a (rangeFrom 0 64) }
      | none => s
    else { (s.snapshotPage page p).mapPage page with flash.erased := s.flash.erased - page4K }

/-- Writes back every dirty page. -/
def State.programAll (s : State) : State := ((s.dur.dirty.map (·.1)).foldl State.programDirty s).flashViews

/-! ### P2 (Table 18-7) -/

/-- Moves the DRAM channels between IN_SERVICE and SELF_REFRESH. -/
def State.dramState (s : State) (old new : Nat) : State :=
  s.dram.order.foldl (fun s n => if s.rdN R.DRAM_CH_STATUS_STATE n = old then s.wrN R.DRAM_CH_STATUS_STATE n new else s) s

/-- Entry to P2 once no operation runs: the near cache is disabled, D becomes 0, DRAM enters self-refresh. A standby shows ACCEPTING
clear from now. -/
def State.enterQuiesce (s : State) : State :=
  let s := { s with start.admitted := false, near.reenable := false }
  let on := s.rd R.NEAR_CTRL_ENABLE != 0
  let s := s.settleDram
  let s := if on then ((s.wr R.NEAR_CTRL_ENABLE 0).wr R.NEAR_FLUSH_LEFT_LINES 0).raise Ev.NEAR_DISABLED [] else s
  ((((s.programAll.dramState 2 4).setPower 2).paceViews).sendStatus).twinViews

/-- RESUME from P2: channels leave self-refresh, the clusters are tested, the near cache is enabled and admission opens; a standby that
shows ACCEPTING again is resynced by its active (R389). -/
def State.leaveQuiesce (s : State) (mask : Nat) : State :=
  let s := (((s.dramState 4 2).setPower 0).cipherTests mask).paceViews
  if s.failCode = 4 then s
  else
    let s := { s with start.admitted := decide (11 ≤ s.start.step) && (s.rd R.LIFE_STATE_LIFECYCLE == 1 || s.rd R.LIFE_STATE_LIFECYCLE == 2) }
    ((((s.enableNear.sendStatus).twinViews).firstAdmission).moveWaiters)

/-! ### QUIESCE and RESUME -/

/-- QUIESCE LEVEL 2 yields first: at an active whose standby is CURRENT (R389). -/
def State.quiesceYields (s : State) : Bool :=
  s.isActive && s.standbyCurrent && s.twin.yield.isNone && s.twin.resync.isNone

/-- QUIESCE LEVEL 2 (R389): an active with a CURRENT standby yields first and enters P2 when the token has moved; without one it needs
FORCE. A clamped LEVEL counts unless the command is refused (R8). -/
def State.quiesce (s : State) (c : Cmd) (force : Bool) (clamps : Nat) : State :=
  if s.isActive && !force && s.rd R.LIFE_STATE_POWER != 2 && !s.quiesceYields then s.refuse c.id Why.NOT_CURRENT
  else
  let s := s.clamped clamps
  if s.rd R.LIFE_STATE_POWER = 2 then s.finish c.id St.DONE
  else if s.quiesceYields then ({ s with twin.quiesceAfter := true }.startYield 1 (some c.id) c.tag).2
  else s.enterQuiesce.finish c.id St.DONE

/-- Admission stops, and the command waits while admitted operations still run (Table 18-7 step 1). -/
def State.quiesceWaits (s : State) (force : Bool) : Bool :=
  s.rd R.LIFE_STATE_POWER != 2 && !s.quiesceYields && (force || !s.isActive) && !s.eng.ops.all (·.responded)

/-- QUIESCE (R389, R390). LEVEL 1 enters P1, where RESUME or a save alone ends it; LEVEL 3 is the save of SAVE_NOW with ACTION 0. -/
def execQuiesce (r : CmdRef) (level flags : Nat) (s : State) : Host.Outcome State Fault Refusal :=
  .next <| s.command r 0x0906 (fun c s =>
    let l := if level < 1 ∨ 3 < level then 2 else level
    if l = 2 && s.quiesceWaits (flags % 2 == 1) then
      { s with start.admitted := false }.updCmd c.id (fun k => { k with phase := .fetched })
    else
    if l = 1 then
      if s.rd R.LIFE_STATE_POWER = 2 then s.finish c.id St.BUSY
      else { s.setPower 1 with pace.automatic := false }.deriveTarget.finish c.id St.DONE
    else if l = 3 then
      let q := s.nextSaveSeq
      (s.startSave 6 .keep (some c.tag) none none).endCmd c.id St.DONE 0 q
    else s.quiesce c (flags % 2 == 1) (moved l level))

/-- RESUME (R389, R395); `mask` are the clusters that pass their tests on leaving P2. -/
def execResume (r : CmdRef) (mask : Nat) (s : State) : Host.Outcome State Fault Refusal :=
  .next <| s.command r 0x0907 (fun c s =>
    if s.rd R.LIFE_STATE_POWER = 2 then (s.leaveQuiesce mask).finish c.id St.DONE
    else if s.rd R.LIFE_STATE_POWER = 1 then { s.setPower 0 with pace.automatic := false }.deriveTarget.finish c.id St.DONE
    else s.finish c.id St.DONE)

/-! ### P1 by itself (R388) -/

/-- PACED_ENTRY_TIMER: ingress has stayed below 80 % of the paced rate for PACED_ENTER_S. -/
def execPacedEntryTimer (s : State) : Host.Outcome State Fault Refusal :=
  .next <|
    if s.coreOn && !s.save.active && s.on R.LIFE_POWER_AUTO_PACED && s.rd R.LIFE_STATE_POWER == 0 && decide (11 ≤ s.start.step) then
      { s.setPower 1 with pace.automatic := true }.deriveTarget
    else s

/-- PACED_EXIT: ingress over 100 µs exceeds 90 % of the paced rate. -/
def execPacedExit (s : State) : Host.Outcome State Fault Refusal :=
  .next <|
    if s.coreOn && !s.save.active && s.pace.automatic && s.rd R.LIFE_STATE_POWER == 1 then
      { s.setPower 0 with pace.automatic := false }.deriveTarget
    else s

end Sys2Proof.Machine
end

