-- ==== Sys2Proof/Machine/Twin.lean ====
section
/-! DEFINITION. The twin unit's rows: the Braze link, its items apart from COMMAND, STREAM_STATE and TILE, its timers, and the
twin commands (R160 to R199). -/

namespace Sys2Proof.Machine

open Sys2Proof

/-- Runs a row of the twin unit: the core is powered and the H9 is paired. -/
def State.twinRow (s : State) (f : State → State) : Host.Outcome State Fault Refusal :=
  .next (if s.coreOn && s.paired then f s else s)

/-- Runs an item row: the link is UP and its frame was accepted (R167). -/
def State.itemRow (s : State) (f : State → State) : Host.Outcome State Fault Refusal :=
  s.twinRow (fun s => if s.linkUp && !s.twin.discarding then f s else s)

/-! ### The link (R163 to R169) -/

/-- BRAZE_LOSS_OF_SIGNAL: fewer than 8 lanes are left (R169). -/
def execBrazeLossOfSignal (s : State) : Host.Outcome State Fault Refusal := s.twinRow (fun s => s.linkDown 0 (sec 1))

/-- BRAZE_DEAD_TIMEOUT: no frame has passed its tag check for DEAD_US (R169). -/
def execBrazeDeadTimeout (s : State) : Host.Outcome State Fault Refusal :=
  s.twinRow (fun s => if s.linkUp && decide (s.twin.lastFrame + us (s.rd R.TWIN_CTRL_DEAD_US) ≤ s.now) then s.linkDown 0 (sec 1) else s)

/-- BRAZE_TRAINING_RETRY: the 1 s or 10 s timer of a DOWN or MISCABLED link ends, and training starts (R163, R164). -/
def execBrazeTrainingRetry (s : State) : Host.Outcome State Fault Refusal :=
  s.twinRow (fun s =>
    if (s.rd R.TWIN_STATUS_LINK == 0 || s.rd R.TWIN_STATUS_LINK == 3) && due s.now s.twin.trainAt
        && !s.keeper.clocksLost.contains 0x21 then
      s.startTraining
    else s)

/-- The Braze link without its reference clock, and training again once the clock is back (R494). -/
def State.brazeDown (s : State) : State :=
  if s.rd R.TWIN_STATUS_LINK = 2 then s.linkDown 0 (sec 1)
  else if s.paired then { s.wr R.TWIN_STATUS_LINK 0 with twin.trainAt := some (s.now + sec 1), twin.ident := none } else s
@[inherit_doc State.brazeDown] def State.brazeRetrain (s : State) : State :=
  if s.coreOn && s.paired && s.rd R.TWIN_STATUS_LINK == 0 then { s with twin.trainAt := some s.now } else s

/-- IDENT: the peer's identity, side, pair number, token epoch and link epoch, checked under R164 while the link trains. -/
def execIdent (identity side pair tokenEpoch linkEpoch : Nat) (s : State) : Host.Outcome State Fault Refusal :=
  s.twinRow (fun s =>
    if s.rd R.TWIN_STATUS_LINK != 1 then s
    else if s.twin.peer != some (identity % 2 ^ 64) || side == s.side || pair != s.pairNo then
      (({ s.wr R.TWIN_STATUS_LINK 3 with twin.trainAt := some (s.now + sec 10), twin.ident := none }).raise Ev.TWIN_BRAZE_MISCABLED []).firstAdmission
    else { s with twin.ident := some [tokenEpoch, linkEpoch], twin.peerDigest := identity })

/-- The roles once the link is UP with the peer's epoch known (R175, R182). -/
def State.settleRoles (s : State) (peerEpoch : Nat) : State :=
  let own := s.rd R.TWIN_TOKEN_EPOCH_VALUE
  if own < peerEpoch then s.learnEpoch peerEpoch
  else if own = 0 ∧ peerEpoch = 0 then
    if s.on R.TWIN_STATUS_HOME then s.takeToken 1 (some (s.now + s.leaseL)) 1 false
    else s.becomeStandby
  else s

/-- BRAZE_TRAINING_COMPLETE with the lanes that trained: the width of R163, the new LINK_EPOCH with its keys, and the link UP; FRAME_SEQ
starts at 0 and the MSNs at 1 (R165, assumption log 196), and a resync is owed (R193). A lease kept without a witness while the link was DOWN (R181) runs on for L
(assumption log 60). -/
def execBrazeTrainingComplete (lanes : Nat) (s : State) : Host.Outcome State Fault Refusal :=
  s.twinRow (fun s =>
    if s.rd R.TWIN_STATUS_LINK != 1 then s
    else if lanes < 8 then { s.wr R.TWIN_STATUS_LINK 0 with twin.trainAt := some (s.now + sec 1), twin.ident := none }.firstAdmission
    else match s.twin.ident with
      | some [epoch, link] =>
        let width := if 16 ≤ lanes then 16 else if 12 ≤ lanes then 12 else 8
        let changed := s.twin.width != width
        let kept := s.twin.holder && !s.hasWitness && s.leaseValid
        let s := (s.wr R.TWIN_STATUS_LINK 2).wr R.TWIN_STATUS_LANES width
        let epoch' := max (s.rd R.TWIN_LINK_EPOCH_VALUE) link + 1
        let s := ((s.wr R.TWIN_LINK_EPOCH_VALUE epoch').setCounter 4 epoch').deriveLinkKeys.restartQueues
        let s := { s with twin.width := width, twin.txSeq := 0, twin.rxSeq := 0, twin.replayBuf := [], twin.discarding := false
                          twin.replays := [], twin.lastFrame := s.now, twin.statusAt := s.now, twin.renewAt := s.now, twin.credit := 0
                          twin.resyncDue := true, twin.refused := 0, twin.frame := [], twin.frameAt := none
                          twin.peerStatus := { s.twin.peerStatus with accepting := false, sync := 1 }
                          twin.leaseEnd := if kept then some (s.now + s.leaseL) else s.twin.leaseEnd }
        let s := s.raise Ev.TWIN_BRAZE_UP []
        let s := if changed then s.raise Ev.TWIN_BRAZE_WIDTH [(1, width)] else s
        ((s.settleRoles epoch).sendStatus).twinViews
      | _ => s)

/-- BRAZE_FRAME: a frame's header, encrypted body and tag. A frame that fails its tag, or that arrives with a gap in FRAME_SEQ, is
discarded with every later one until the one asked for by REPLAY arrives; more than 16 replays in 1 ms make the link retrain (R165 to R167).
A new holder that waits for the old active opens admission once a frame shows that the peer has moved to its epoch (R188). -/
def execBrazeFrame (dir credit tokenEpoch seq : Nat) (cipher tag : List Byte) (s : State) : Host.Outcome State Fault Refusal :=
  s.twinRow (fun s =>
    let ok := tag == frameTag s.twin.rxKey (s.rd R.TWIN_LINK_EPOCH_VALUE) dir credit tokenEpoch seq cipher
    if !s.linkUp then s
    else if ok && decide (seq ≤ s.twin.rxSeq) then
      let s := { s with twin.lastFrame := s.now }
      if seq = s.twin.rxSeq then
        let s := ({ s with twin.rxSeq := seq + 1, twin.discarding := false, twin.credit := s.twin.credit + 32 + cipher.length }).learnEpoch tokenEpoch
        if s.twin.opening && tokenEpoch == s.rd R.TWIN_TOKEN_EPOCH_VALUE then s.openAsHolder else s
      else s
    else
      let s := if ok then { s with twin.lastFrame := s.now } else s.bump R.TWIN_BRAZE_AUTH_FAIL 1
      if ok && s.twin.discarding then s
      else
        let recent := (s.twin.replays ++ [s.now]).filter (fun t => decide (s.now ≤ t + ms 1))
        let s := { s with twin.discarding := true, twin.replays := recent }
        let s := (s.bump R.TWIN_BRAZE_REPLAYS 1).sendItem (plainItem 0x12 (beBytes 8 s.twin.rxSeq))
        if 16 < recent.length then (s.linkDown 0 (sec 1)).startTraining else s)

/-- REPLAY: the peer names the FRAME_SEQ it expects, and the kept frames from there are sent again as they are (R167). -/
def execReplay (expected : Nat) (s : State) : Host.Outcome State Fault Refusal :=
  s.itemRow (fun s =>
    (s.twin.replayBuf.filter (fun f => decide (expected ≤ f.seq))).foldl (fun s f => s.send (.brazeFrame f)) s)

/-- MIRROR_FRAME_TIMER: 20 ns after its first item a packed frame is sent, and what is left of cut-through records follows (R171). -/
def execMirrorFrameTimer (s : State) : Host.Outcome State Fault Refusal :=
  s.twinRow (fun s => if s.linkUp && (due s.now s.twin.frameAt || !s.twin.cut.isEmpty) then s.flushStream else s)

/-! ### The standby's part of the mirror stream (R170 to R174) -/

/-- MIRROR_ACK with the highest MSN accepted per queue. -/
def State.sendMirrorAck (s : State) : State :=
  s.sendItem (plainItem 4 (ackBody ((rangeFrom 0 32).map (fun q => (AMap.get? s.twin.accepted q).getD 0))))

/-- Accepts a whole record into the gather buffer: pages are dirty from now, the Assay value grows, and the write filter of R185
takes it. A unit that is not restored yet is restored first (R455); what lies in a unit that a resync has replaced since is discarded
(R194). -/
def State.acceptRecord (s : State) (r : PartialRecord) : State :=
  let data := (r.pieces.map (·.2)).flatten
  let p := r.prefix_
  let s := { s with twin.accepted := AMap.set s.twin.accepted r.queue r.msn }
  if r.len = 0 then s
  else
    let s := (unitsOf p.addr data.length).foldl (fun s u => if s.start.units.contains u then s.restoreUnit u [] false else s) s
    let put (x : State × Nat) (m : Nat × Nat) : State × Nat :=
      let g : Gather := { id := x.1.eng.nextEntry, op := none, src := none, origin := some (r.queue, r.msn), media := m.1, addr := p.addr + x.2
                          data := (data.drop x.2).take m.2, pd := p.pd, record := none, stuck := false, atomic := p.flags % 2 == 1, lost := [] }
      let gs := x.1.keptParts r.dropped g
      (({ x.1 with eng.gather := x.1.eng.gather ++ gs, eng.nextEntry := x.1.eng.nextEntry + 1 }).markRun m.1 m.2 p.pd, x.2 + m.2)
    let s := ((s.mediaPieces p.addr data.length).foldl put (s, 0)).1
    let s := (s.assayRecord r.queue p data).noteWrites r.queue r.msn p.addr data.length
    if r.epochEnd || s.twin.assayPeer.any (fun e => e.1 == r.queue && e.2.1 == r.msn) then
      (s.closeAssay r.queue r.msn).compareAssay r.queue r.msn
    else s

/-- Whether every byte RECORD_LEN announces has arrived (R171). -/
def PartialRecord.complete (r : PartialRecord) : Bool := r.len == 0 || decide (r.len ≤ 32 + ((r.pieces.map (·.2.length)).sum))

/-- Accepts a queue's records that stand next in MSN order; `fuel` is the number held. -/
def State.drainQueue (s : State) (q : Nat) : Nat → State
  | 0 => s
  | fuel + 1 =>
    let next := (AMap.get? s.twin.accepted q).getD 0 + 1
    match s.twin.partials.find? (fun r => r.queue == q && r.msn == next && r.complete) with
    | some r => ({ s with twin.partials := s.twin.partials.filter (fun x => x != r) }.acceptRecord r).drainQueue q fuel
    | none => s

/-- Compares a sampled read with this copy: a later record to the page in the own filter makes the comparison meaningless (R185). -/
def State.compareShadow (s : State) (x : ShadowRead) : State :=
  let pg := x.addr / page4K
  let newest := (s.twin.recent.filter (fun e => e.1 == pg && decide (s.now ≤ e.2.2.2 + us 200))).getLast?
  let skip : Bool := match newest with
    | some e => !(x.msn != 0 && e.2.1 == x.queue && e.2.2.1 == x.msn)
    | none => false
  if skip then s.bump R.TWIN_SHADOW_SKIP 1
  else match s.media? x.addr with
    | none => s
    | some m =>
      if (linesOf m x.len).any s.chunkPoison then s.bump R.TWIN_SHADOW_SKIP 1
      else if beNat (cmac s.twin.assayKey (s.readRun m x.len)) = x.mac then s else (s.bump R.TWIN_SHADOW_MISMATCH 1).startTie [pg]

/-- Sampled reads whose LAST_WRITE has been applied are compared (R185). -/
def State.settleShadows (s : State) : State :=
  let ready := fun x : ShadowRead => x.msn == 0 || decide (x.msn ≤ (AMap.get? s.twin.accepted x.queue).getD 0)
  (s.twin.shadows.filter ready).foldl State.compareShadow { s with twin.shadows := s.twin.shadows.filter (fun x => !ready x) }

/-- A HANDOVER whose records have all been accepted is answered; the keeper records the new epoch, and this H9 is its holder (R188, steps 4
and 5). It opens admission once the old active has stopped. -/
def State.settleHandover (s : State) : State :=
  match s.twin.handover with
  | none => s
  | some h =>
    if (rangeFrom 0 32).all (fun q => decide (h.msns.getD q 0 ≤ (AMap.get? s.twin.accepted q).getD 0)) then
      let s := s.sendItem (plainItem 0x0E (handoverBody h.msns h.epoch h.leaseLeft h.save))
      s.takeToken h.epoch (some (h.arrivedAt + h.leaseLeft)) (if h.save then 1 else 0) true
    else s

/-- After a change of a queue's records: what stands next is accepted, and acknowledged; sampled reads and a HANDOVER that waited for it go
on. -/
def State.advanceQueue (s : State) (q : Nat) : State :=
  let before := (AMap.get? s.twin.accepted q).getD 0
  let s := s.drainQueue q (s.twin.partials.length + 1)
  if (AMap.get? s.twin.accepted q).getD 0 = before then s else s.sendMirrorAck.settleShadows.settleHandover

/-- MIRROR: the first piece of a record, or a whole stored one. A standby that does not show ACCEPTING takes none (R174). -/
def execMirror (queue msn recordLen : Nat) (epochEnd : Bool) (p : MirrorPrefix) (data : List Byte) (s : State) :
    Host.Outcome State Fault Refusal :=
  s.itemRow (fun s =>
    if !s.accepting || decide (msn ≤ (AMap.get? s.twin.accepted queue).getD 0) then s
    else
      let r : PartialRecord := ⟨queue, msn, recordLen, p, [(0, data)], epochEnd, []⟩
      { s with twin.partials := s.twin.partials ++ [r] }.advanceQueue queue)

/-- MIRROR_CONT: further data of a record, in order of PIECE_OFFSET (R171). -/
def execMirrorCont (queue msn offset : Nat) (epochEnd : Bool) (data : List Byte) (s : State) : Host.Outcome State Fault Refusal :=
  s.itemRow (fun s =>
    let f := fun r : PartialRecord =>
      if r.queue = queue ∧ r.msn = msn then
        ({ r with pieces := r.pieces ++ [(offset, data)], epochEnd := r.epochEnd || epochEnd } : PartialRecord)
      else r
    { s with twin.partials := s.twin.partials.map f }.advanceQueue queue)

/-- DROP_REMAINDER: the record is discarded and its MSN counts as used (R172). -/
def execDropRemainder (queue msn : Nat) (s : State) : Host.Outcome State Fault Refusal :=
  s.itemRow (fun s =>
    if !s.accepting || decide (msn ≤ (AMap.get? s.twin.accepted queue).getD 0) then s
    else
      let rest := s.twin.partials.filter (fun r => !(r.queue == queue && r.msn == msn))
      let gone : PartialRecord := ⟨queue, msn, 0, ⟨0, 0, 0, 0, 0, 0, 0⟩, [], false, []⟩
      { s with twin.partials := rest ++ [gone] }.advanceQueue queue)

/-- MIRROR_ACK: records up to these MSNs are accepted by the twin; writes reach their durability point (R15, R174). -/
def execMirrorAck (msns : List Nat) (s : State) : Host.Outcome State Fault Refusal :=
  s.itemRow (fun s =>
    if !s.twin.holder then s
    else
      let upto (q : Nat) : Nat := msns.getD q 0
      let s := { s with twin.acked := (rangeFrom 0 32).foldl (fun m q => AMap.set m q (upto q)) s.twin.acked
                        twin.unacked := s.twin.unacked.filter (fun r => decide (upto r.queue < r.msn)) }
      let f := fun g : Gather => match g.record with
        | some (q, m) => if m ≤ upto q then ({ g with record := none } : Gather) else g
        | none => g
      { s with eng.gather := s.eng.gather.map f }.recheckAccept.advanceAll)

/-- MIRROR_ACK_TIMEOUT: a record has waited 500 µs, so the twin counts as unable to accept (R174). -/
def execMirrorAckTimeout (s : State) : Host.Outcome State Fault Refusal :=
  s.twinRow (fun s =>
    if s.twin.holder && s.twin.unacked.any (fun r => decide (r.at_ + us 500 ≤ s.now)) then s.recheckAccept.advanceAll else s)

/-! ### Leases (R176 to R182) -/

/-- LEASE_RENEW_TIMER: every L/5 the holder renews over the link (R176). -/
def execLeaseRenewTimer (s : State) : Host.Outcome State Fault Refusal :=
  s.twinRow (fun s =>
    if s.twin.holder && !s.twin.stopped && s.linkUp && decide (s.twin.renewAt ≤ s.now) then
      { s.sendItem (plainItem 7 (beBytes 8 s.now)) with twin.renewAt := s.now + s.leaseL / 5 }
    else s)

/-- LEASE_RENEW with the holder's send time: acknowledged at once; the standby's view moves (R176). -/
def execLeaseRenew (sentAt : Nat) (s : State) : Host.Outcome State Fault Refusal :=
  s.itemRow (fun s =>
    if s.twin.holder then s
    else
      { s.sendItem (plainItem 8 (beBytes 8 sentAt)) with
        twin.lastRenewSeen := some s.now, twin.viewEnd := some (s.now + s.leaseL + s.leaseG) })

/-- Moves the holder's lease end to T_s + L of a renewal that was acknowledged or confirmed; it never moves back (R176, R177). -/
def State.extendLease (s : State) (sentAt : Nat) : State :=
  let t := sentAt + s.leaseL
  let t := match s.twin.leaseEnd with | some e => max e t | none => t
  let s := { s with twin.leaseEnd := some t, twin.viewEnd := some (t + s.leaseG) }
  (((if s.someStuck && !s.twinAccepts then s.wantMark.releaseUnderMark else s).twinViews).firstAdmission.sendOutbox).moveWaiters

/-- LEASE_ACK echoing the renewal's send time. -/
def execLeaseAck (sentAt : Nat) (s : State) : Host.Outcome State Fault Refusal :=
  s.itemRow (fun s => if s.twin.holder && !s.twin.stopped && decide (sentAt ≤ s.now) then s.extendLease sentAt else s)

/-- LEASE_END: the lease has ended without renewal, and admission stops (R180). -/
def execLeaseEnd (s : State) : Host.Outcome State Fault Refusal :=
  s.twinRow (fun s => if s.twin.holder && due s.now s.twin.leaseEnd && !s.leaseValid then s.twinViews else s)

/-- LEASE_VIEW_EXPIRY: at T_r + L + G the lease counts as expired; a grant request is due at once (R176, R178). -/
def execLeaseViewExpiry (s : State) : Host.Outcome State Fault Refusal :=
  s.twinRow (fun s => if due s.now s.twin.viewEnd && !(s.twin.holder && s.leaseValid && !s.twin.stopped) then
    { s with twin.grantAt := min s.twin.grantAt s.now }.twinViews else s)

/-- WITNESS_RENEW_TIMER: every L/5 while the link is DOWN (R177). The renewal is kept for its confirmation but never sent again. -/
def execWitnessRenewTimer (s : State) : Host.Outcome State Fault Refusal :=
  s.twinRow (fun s =>
    if s.twin.holder && !s.twin.stopped && !s.linkUp && s.hasWitness && decide (s.twin.witnessAt ≤ s.now) then
      let s := { s with domain.requests := s.domain.requests.filter (fun r => r.type != 1 || decide (s.now < r.firstAt + s.leaseL)) }
      { s.sendRequest 1 s.witnessPairs [s.rd R.TWIN_CTRL_LEASE_MS] none with twin.witnessAt := s.now + s.leaseL / 5 }
    else s)

/-- GRANT_REQUEST_TIMER: every L/5 a twin without a valid lease whose view has expired asks for the token (R178). -/
def execGrantRequestTimer (s : State) : Host.Outcome State Fault Refusal :=
  s.twinRow (fun s =>
    let without := !s.twin.holder || s.twin.stopped || !s.leaseValid
    if without && s.mayServe && due s.now s.twin.viewEnd && s.hasWitness && s.twin.forcing.isNone && decide (s.twin.grantAt ≤ s.now) then
      let s := { s with domain.requests := s.domain.requests.filter (fun r => r.type != 4) }
      { s.sendRequest 4 s.witnessPairs [0] none with twin.grantAt := s.now + s.leaseL / 5 }
    else s)

/-! ### STATUS (R169) -/

/-- STATUS_SEND_TIMER: every 100 µs (R169); announcements that are due leave with it (R190, assumption log 197). -/
def execStatusSendTimer (s : State) : Host.Outcome State Fault Refusal :=
  s.twinRow (fun s =>
    let s := s.announceDue
    if s.linkUp && decide (s.twin.statusAt ≤ s.now) then { s.sendStatus with twin.statusAt := s.now + us 100 } else s)

/-- The code of a feed that carries load: OK. -/
def feedLoaded : Nat := 1

/-- The peer lost a feed that it had (R197). -/
def State.peerFeed (s : State) (feed old new : Nat) : State :=
  if old = feedLoaded ∧ new ≠ feedLoaded then s.raise Ev.TWIN_PEER_FEED [(1, feed), (1, new)] else s

/-- What the standby's STATUS does to the active's view of its copy: a copy that turned STALE, or that a resync could not bring on, stops
the resync with its map kept (R57, R193). -/
def State.followSync (s : State) (old sync : Nat) : State :=
  match s.twin.resync with
  | some r => if old = 2 ∧ sync = 1 then ({ s with twin.resync := none }.markUnits r.unacked).setSync 1 else s
  | none => if sync = 1 then s.setSync 1 else s

/-- STATUS of the peer: its stage, d, SYNC, feeds, save step, ACCEPTING and F (R148, R169, R174, R197). A resync owed since the link
came UP starts, in mode FULL where the standby's copy is STALE (R193); a save or a loss of CURRENT at the standby voids a yield
(Table 8-9, R199). -/
def execStatus (stage d sync feedA feedB saveStep : Nat) (accepting : Bool) (fraction : Nat) (s : State) :
    Host.Outcome State Fault Refusal :=
  s.itemRow (fun s =>
    let old := s.twin.peerStatus
    let s := { s with twin.peerStatus := ⟨d, stage, sync, feedA, feedB, saveStep, accepting, fraction⟩ }
    let s := (s.wr R.TWIN_STATUS_PEER_STAGE stage).flag R.TWIN_STATUS_PEER_FEED_SINGLE ((feedA == feedLoaded) != (feedB == feedLoaded))
    let s := (s.peerFeed 0 old.feedA feedA).peerFeed 1 old.feedB feedB
    if !s.twin.holder || s.twin.opening then s
    else
      let s := match s.twin.yield with
        | some y => if (y.step = 2 ∨ y.step = 3) ∧ (saveStep ≠ 0 ∨ sync ≠ 0) then s.voidYield Why.NOT_CURRENT true else s
        | none => s
      let s := s.followSync old.sync sync
      let back := !old.accepting && accepting && sync == 0 && !s.twin.diverged.isEmpty
      let start := (s.twin.resyncDue || back) && s.twin.resync.isNone && s.twin.refused == 0 && saveStep == 0 && s.isActive
      let s := if start then s.startResync (sync == 1) none else s
      s.recheckAccept.advanceAll.moveWaiters.twinViews)

/-! ### Assay (R184 to R186) -/

/-- ASSAY_EPOCH_CLOSE on a queue: 65,536 records or 100 µs (R184). The record that ends the epoch carries EPOCH_END while it is still
being packed or sent; otherwise the digest names it (assumption log 37). -/
def execAssayEpochClose (queue : Nat) (s : State) : Host.Outcome State Fault Refusal :=
  s.twinRow (fun s =>
    match AMap.get? s.twin.assayOpen queue with
    | some e =>
      if s.twin.holder && s.linkUp && (decide (65536 ≤ e.count) || (decide (0 < e.count) && decide (e.openedAt + us 100 ≤ s.now))) then
        let last := (AMap.get? s.twin.sent queue).getD 0
        let f := fun i : BrazeItem => if i.type = 1 ∧ i.queue = queue ∧ i.msn = last then ({ i with epochEnd := true } : BrazeItem) else i
        let g := fun r : CutRecord => if r.queue = queue ∧ r.msn = last then ({ r with epochEnd := true } : CutRecord) else r
        ({ s with twin.frame := s.twin.frame.map f, twin.cut := s.twin.cut.map g }.closeAssay queue last).compareAssay queue last
      else s
    | none => s)

/-- ASSAY_DIGEST of the peer for an epoch that ends at `last` (R184). A standby whose open epoch ends there closes it now. -/
def execAssayDigest (queue last count mac : Nat) (s : State) : Host.Outcome State Fault Refusal :=
  s.itemRow (fun s =>
    let s := { s with twin.assayPeer := s.twin.assayPeer ++ [(queue, last, count, mac)] }
    let s := if !s.twin.holder && (AMap.get? s.twin.accepted queue).getD 0 == last then s.closeAssay queue last else s
    s.compareAssay queue last)

/-- SHADOW: a sampled read of the active, with LAST_WRITE and the CMAC of its data; it waits until LAST_WRITE has been applied (R185). -/
def execShadow (addr len lastQueue lastMsn mac : Nat) (s : State) : Host.Outcome State Fault Refusal :=
  s.itemRow (fun s =>
    if s.twin.holder then s
    else { s with twin.shadows := s.twin.shadows ++ [(⟨addr, len, lastQueue, lastMsn, mac⟩ : ShadowRead)] }.settleShadows)

/-- VERDICT: the peer's results per page, as page numbers with 1 for a pass (R186). A twin that runs no tie-break on them starts
one. -/
def execVerdict (results : List (Nat × Bool)) (s : State) : Host.Outcome State Fault Refusal :=
  s.itemRow (fun s =>
    let s := s.startTie (results.map (·.1))
    match s.twin.tie with
    | some t => { s with twin.tie := some { t with peers := t.peers ++ results } }.settleTie
    | none => s)

/-! ### Switch-over (R188) -/

/-- Packets that were taken in but not admitted are discarded at step 3, those parked for a QP's context among them (R134, R191). -/
def State.dropUntaken (s : State) : State := { s with roce.parked := [], cerga.held := [], cerga.fetching := [] }

/-- Steps 2 and 3 of Table 8-8: reads and writes still running end PARTIAL, except in a save (cause 4), whose operations go to the ledger.
The stream is flushed, HANDOVER goes out, and what the ingress held is discarded (R188, R191). -/
def State.sendHandover (s : State) (y : Yield) : State :=
  let s := if y.cause = 4 then s else
    let s := s.cutOps (s.eng.ops.map (·.id)) false
    (s.eng.ops.map (·.id)).foldl (fun s id => match s.op? id with
      | some o => if o.status.isSome && !o.responded then s.completeOp o else s
      | none => s) s
  let s := s.flushStream
  let left := match s.twin.leaseEnd with | some t => t - s.now | none => s.leaseL
  let msns := (rangeFrom 0 32).map (fun q => (AMap.get? s.twin.sent q).getD 0)
  let s := s.sendItem (plainItem 0x0D (handoverBody msns (s.rd R.TWIN_TOKEN_EPOCH_VALUE + 1) left (y.cause == 4)))
  let drops := s.twin.ingress.length + (if y.cause = 4 then 0 else s.eng.waiting.length)
  let s := s.bump R.TWIN_GAP_DROPS drops
  let s := if y.cause = 4 then s else { s with eng.waiting := [] }.dropUntaken
  { s with twin.ingress := [], twin.yield := some { y with step := 3 } }

/-- YIELD_DRAIN_BOUND: step 2 ends at its bound or once nothing runs; in a save, save step 2 does this (R188). -/
def execYieldDrainBound (s : State) : Host.Outcome State Fault Refusal :=
  s.twinRow (fun s => match s.twin.yield with
    | some y =>
      if y.cause ≠ 4 ∧ y.step = 2 ∧ (y.bound ≤ s.now ∨ s.eng.ops.all (fun o => o.responded)) then (s.sendHandover y).twinViews else s
    | none => s)

/-- HANDOVER at the standby: it is answered once every record up to the final MSNs is accepted (R188). The lease is carried as the time
left (assumption log 36). -/
def execHandover (msns : List Nat) (epoch leaseLeft : Nat) (save : Bool) (s : State) : Host.Outcome State Fault Refusal :=
  s.itemRow (fun s =>
    if s.twin.holder || s.save.active || !s.mayServe || s.rd R.TWIN_STATUS_SYNC != 0 || decide (epoch ≤ s.rd R.TWIN_TOKEN_EPOCH_VALUE) then s
    else { s with twin.handover := some ⟨msns, epoch, leaseLeft, s.now, save⟩ }.settleHandover)

/-- HANDOVER_ACK at the old active: it lowers TWIN_TOKEN_IND and is standby of the new epoch (R188, step 6); SWITCH_OVER is raised,
and the command that asked completes. -/
def execHandoverAck (epoch : Nat) (s : State) : Host.Outcome State Fault Refusal :=
  s.itemRow (fun s => match s.twin.yield with
    | some y =>
      if y.step = 3 ∧ epoch = s.rd R.TWIN_TOKEN_EPOCH_VALUE + 1 then
        let s := if s.on R.TWIN_STATUS_HOME && (y.cause == 2 || y.cause == 3) then s.wr R.TWIN_STATUS_REVERT_SUPPRESSED 1 else s
        let s := if y.cause = 4 then
            ({ s with twin.holder := false, twin.recorded := false, twin.leaseEnd := none, twin.yield := none
                      twin.viewEnd := some (s.now + s.leaseL + s.leaseG) }.restartQueues).tokenInd false
          else s.becomeStandby
        let s := (s.wr R.TWIN_TOKEN_EPOCH_VALUE epoch).setCounter 3 epoch
        let s := (s.switchOver y.cause y.startedAt y.cmd y.tag).endSwitch y.cmd none
        (if s.twin.quiesceAfter then { s with twin.quiesceAfter := false }.enterQuiesce else s).sendStatus.twinViews
      else s
    | none => s)

/-! ### Resync (R193 to R196) -/

/-- The time a unit takes at TWIN_RESYNC_CFG.MAX_GBPS, in ns. -/
def State.unitTime (s : State) : Nat := ceilDiv unit2M (s.rd R.TWIN_RESYNC_CFG_MAX_GBPS)

/-- Sends a unit with the MSN of the last record sent on every queue; its bytes hold every record up to those MSNs (R194). -/
def State.sendUnit (s : State) (u m : Nat) : State :=
  let msns := (rangeFrom 0 32).map (fun q => (AMap.get? s.twin.sent q).getD 0)
  let marks := (rangeFrom 0 32768).filter (fun i => s.sentPoison (m / 64 + i))
  (s.flushFrame.sendResync (u * unit2M) msns marks 0 (unit2M / 3840 + 1) ((rangeFrom m unit2M).map s.sentByte)).bump R.TWIN_RESYNC_BYTES unit2M

/-- RESYNC_UNIT_SEND: the next marked unit goes out, no faster than MAX_GBPS, not while the standby stands in HOLD, and after the commands
that are replayed first (R148, R193, R194). A unit that is not restored yet is restored first (R457). -/
def execResyncUnitSend (s : State) : Host.Outcome State Fault Refusal :=
  s.twinRow (fun s => match s.twin.resync, s.twin.diverged with
    | some r, u :: rest =>
      if !(s.isActive && s.linkUp && s.twin.localCommands.isEmpty && decide (r.nextAt ≤ s.now)
          && (s.twin.peerStatus.stage != 4 || decide (s.twin.peerStatus.d < 98))) then s
      else if s.start.units.contains u then s.demandUnit u
      else
        let s := { s with twin.diverged := rest }
        match s.media? (u * unit2M) with
        | none => s.settleResync
        | some m =>
          ({ s with twin.resync := some { r with unacked := r.unacked ++ [u], nextAt := s.now + s.unitTime } }.sendUnit u m).twinViews
    | _, _ => s)

/-- A unit of the active replaces this copy's: records at or below its snapshot MSNs are discarded as far as they lie in it, its pages become
dirty, and it is acknowledged (R194). -/
def State.takeUnit (s : State) (unit m : Nat) (msns poison : List Nat) (data : List Byte) : State :=
  let covered (q n : Nat) : Bool := decide (n ≤ msns.getD q 0)
  let cut := fun g : Gather => if (match g.origin with | some (q, n) => covered q n | none => true) then Gather.outside m g else [g]
  let note := fun r : PartialRecord => if covered r.queue r.msn then ({ r with dropped := unit :: r.dropped } : PartialRecord) else r
  let s := { s with eng.gather := (s.eng.gather.map cut).flatten, twin.partials := s.twin.partials.map note }
  let s := (s.dropLines (linesOf m unit2M) true).2
  let marks := s.mem.dramPoison.filter (fun e => !decide (m / 64 ≤ e.1 ∧ e.1 < m / 64 + 32768))
  let s := { s with mem.dram := Mem.writeN s.mem.dram m (data.take unit2M), mem.dramPoison := marks }
  let s := poison.foldl (fun s i => s.setMark (m / 64 + i) true) s
  ((s.markRun m unit2M noPd).retagRun m unit2M).sendItem (ctrlItem 1 unit)

/-- RESYNC_DATA at the standby: a unit with its snapshot MSNs, poisoned chunks and data, all its items taken together (assumption log 197).
At a holder it answers a page request of the restore (R456); `page` then says which page of the unit it holds. -/
def execResyncData (unit : Nat) (page : Option Nat) (msns poison : List Nat) (data : List Byte) (s : State) :
    Host.Outcome State Fault Refusal :=
  s.itemRow (fun s => match page with
    | some p => s.restoreTwinPage unit p poison data
    | none => match s.media? (unit * unit2M) with
      | some m => if s.twin.holder || s.rd R.TWIN_STATUS_SYNC != 2 then s else s.takeUnit unit m msns poison data
      | none => s)

/-- RESYNC_CTRL (R195, R196): kind 0 a resync starts in a mode, 1 a unit is done, 2 the resync is complete, after which a switch-over to this
H9 is one to a standby that was receiving the mirror stream (R95); an H9 that is not IN_SERVICE takes neither and stays STALE (Table 18-10);
3 a revert request, 4 a page asked for by the holder's restore, 5 the
resync has stopped at a command that could not be applied (R57, assumption log 56). -/
def execResyncCtrl (kind value : Nat) (s : State) : Host.Outcome State Fault Refusal :=
  s.itemRow (fun s =>
    if kind = 0 then (if s.twin.holder || !s.inService then s else { s with twin.unanswered := false, twin.resyncDue := false }.setSync 2).twinViews
    else if kind = 1 then match s.twin.resync with
      | some r =>
        let s := { s with twin.resync := some { r with unacked := r.unacked.filter (· != value) } }.settleResync
        if s.twin.resync.isNone && !s.twin.copying.isEmpty then
          (({ s with twin.copying := [] }).startYield 2 none 0).2
        else s
      | none => s
    else if kind = 2 then (if s.twin.holder || s.rd R.TWIN_STATUS_SYNC != 2 then s else { s.setSync 0 with start.presented := true }).twinViews
    else if kind = 3 && s.twin.holder && s.stage < 3 && s.twin.resync.isNone then (s.startYield 6 none 0).2
    else if kind = 4 then s.answerTwinPage value
    else if kind = 5 && !s.twin.holder then (s.setSync 1).twinViews
    else s)

/-- REVERT_TIMER: the home standby has been CURRENT with the link UP for REVERT_S (R196). -/
def execRevertTimer (s : State) : Host.Outcome State Fault Refusal :=
  s.twinRow (fun s =>
    let t := s.rd R.TWIN_REVERT_REVERT_S
    match s.twin.homeSince with
    | some since =>
      if t != 0 && decide (since + sec t ≤ s.now) && decide (s.twin.peerStatus.stage < 3) && !s.on R.TWIN_STATUS_REVERT_SUPPRESSED then
        { s.sendItem (ctrlItem 3 0) with twin.homeSince := some s.now }
      else s
    | none => s)

/-! ### Commands (R199) -/

/-- TWIN_PAIR (R161): binds the H9 to a peer and a pairing slot, or unpairs it. Training starts at once; an unpaired H9 holds the
token. -/
def execTwinPair (r : CmdRef) (peer keyId home flags : Nat) (s : State) : Host.Outcome State Fault Refusal :=
  .next <| s.command r 0x0701 (fun c s =>
    let h := if 1 < home then 0 else home
    if flags % 2 = 1 then
      let s := s.linkDown 0 0
      let s := { s with twin.peer := none, twin.pairKey := 0, twin.holder := true, twin.recorded := false, twin.stopped := false
                        twin.trainAt := none, twin.yield := none, twin.resync := none, twin.leaseEnd := none, twin.viewEnd := none }
      let s := (((s.wr R.TWIN_STATUS_LINK 0).wr R.TWIN_STATUS_HOME 0).wr R.TWIN_STATUS_SINGLE_RUNNING 1).wr R.TWIN_STATUS_SYNC 1
      (((s.tokenInd true).clamped (moved h home)).releaseStuck.twinViews).finish c.id St.DONE
    else if !s.keyOk keyId Slot.PAIRING then s.refuse c.id Why.BAD_KEY
    else
      let s := { s.linkDown 0 0 with twin.peer := some peer, twin.peerDigest := 0, twin.pairKey := keyId }
      let s := (s.startTraining.flag R.TWIN_STATUS_HOME (h == 0)).wr R.TWIN_STATUS_REVERT_SUPPRESSED 0
      ((s.clamped (moved h home)).twinViews).finish c.id St.DONE)

/-- TWIN_SWITCH (R199): YIELD at the active, FORCE_STALE at the standby. -/
def execTwinSwitch (r : CmdRef) (mode tag : Nat) (s : State) : Host.Outcome State Fault Refusal :=
  .next <| s.command r 0x0702 (fun c s =>
    let m := if 1 < mode then 0 else mode
    let count (s : State) : State := s.clamped (moved m mode)
    if !s.paired then s.refuse c.id Why.WRONG_ROLE
    else if m = 0 then
      if !s.twin.holder then s.finish c.id St.NOT_ACTIVE
      else if !s.linkUp then s.refuse c.id Why.PEER_UNREACHABLE
      else if s.rd R.TWIN_STATUS_SYNC != 0 || s.twin.resync.isSome then s.refuse c.id Why.NOT_CURRENT
      else match s.startYield 1 (some c.id) tag with
        | (true, s) => count s
        | (false, s) => s.refuse c.id Why.NOT_CURRENT
    else if s.twin.holder then s.refuse c.id Why.WRONG_ROLE
    else
      let heard : Bool := match s.twin.lastRenewSeen with | some t => decide (s.now < t + s.leaseL + s.leaseG) | none => false
      if heard then s.refuse c.id Why.PEER_REACHABLE
      else if !s.mayServe then s.refuse c.id Why.NOT_CURRENT
      else if s.hasWitness then
        let s := { s with domain.requests := s.domain.requests.filter (fun q => q.type != 4), twin.forcing := some c.id, twin.forceTag := tag }
        count (s.sendRequest 4 s.witnessPairs [1] (some c.id))
      else
        let s := count (s.takeToken (s.rd R.TWIN_TOKEN_EPOCH_VALUE + 1) none 1 false)
        let s := if s.linkUp then s else s.gainMark
        (s.switchOver 7 s.now (some c.id) tag).finish c.id St.DONE)

/-- TWIN_RESYNC (R199). After a replayed command that the standby could not apply, that command is tried once more first: the standby's
report decides whether TWIN_RESYNC is refused with the same reason, or the resync starts (R57, assumption log 31). -/
def execTwinResync (r : CmdRef) (mode : Nat) (s : State) : Host.Outcome State Fault Refusal :=
  .next <| s.command r 0x0703 (fun c s =>
    let m := if 1 < mode then 0 else mode
    if !s.paired then s.refuse c.id Why.WRONG_ROLE
    else if !s.twin.holder then s.finish c.id St.NOT_ACTIVE
    else if !s.linkUp then s.refuse c.id Why.PEER_UNREACHABLE
    else
      let s := s.clamped (moved m mode)
      if s.twin.refused != 0 && !s.twin.localCommands.isEmpty then (s.probeResync c.id (m == 1)).finish c.id St.DONE
      else (s.startResync (m == 1) (some c.id)).finish c.id St.DONE)

end Sys2Proof.Machine
end

