-- ==== Sys2Proof/Machine/Apply.lean ====
section
/-! DEFINITION. What a standby applies: the management commands of COMMAND items, the changes of domain records, and the stream and QP
state of STREAM_STATE items (R57, R117, R118, R133, R193). -/

namespace Sys2Proof.Machine

open Sys2Proof

/-! ### Management commands (R57, assumption log 31) -/

/-- The region a mirrored REGION_CREATE describes. -/
def mirroredRegion (s : State) (base size flags object key owner : Nat) : Region :=
  let bit (i : Nat) : Bool := flags / 2 ^ i % 2 == 1
  let sched := bit 2 && s.shelf.schedules.any (fun e => e.2.object == object)
  { state := .active, base, size, newSize := size, writable := bit 0, mirrored := bit 1, shelf := bit 2, scheduled := sched,
    pinNear := bit 4, object, key, account := 0, owner }

/-- 0x0101 and 0x0102: a region with its own allocation and zeros where this side holds it. An error is the reason the standby
reports. -/
def State.applyCreate (s : State) (id : Nat) (r : Region) : Except Nat State :=
  match s.createRegion id r with
  | .error e => .error e
  | .ok t =>
    let t := if r.writable && t.holds r then t.zeroFill r.base r.size else t
    .ok (t.reportRegion id 0 r)

@[inherit_doc State.applyCreate] def State.applyResize (s : State) (id n : Nat) : Except Nat State :=
  match s.region? id with
  | none => .ok s
  | some r =>
    let new : Region := { r with state := .active, size := n, newSize := n }
    if r.size < n then
      match s.growRegion id r n with
      | .error e => .error e
      | .ok t =>
        let t := if t.holds r then t.zeroFill (r.base + r.size) (n - r.size) else t
        .ok ((t.setRegion id new).reportRegion id 0 new)
    else
      let s := if s.holds r then s.releaseRange id (r.base + n) (r.size - n) else s
      .ok (((s.setRegion id new).reportRegion id 0 new).protViews)

/-- 0x0104. -/
def State.applyFlags (s : State) (id set clear owner : Nat) : Except Nat State :=
  match s.region? id with
  | none => .ok s
  | some r => match s.setRegionFlags id r set clear owner with
    | .error e => .error e
    | .ok t => .ok (match t.region? id with | some y => t.reportRegion id 0 y | none => t)

/-- A push for every member at the standby of a manager pair, which the next holder sends (R347). -/
def State.notePush (s : State) (opcode : Nat) (params : List Nat) : State :=
  if s.founded then s.queuePushes none opcode params else s

/-- 0x0402: a loaded piece whose bytes came as TILE items. -/
def State.applyLoad (s : State) (o off n : Nat) : State :=
  let d := Mem.readN ((AMap.get? s.shelf.bytes o).getD []) off n
  { (s.loadPiece o off d).2 with flash.erased := s.flash.erased }

/-- 0x0204: a move to INIT clears the QP's state. -/
def State.applyQpModify (s : State) (p : List Nat) : State :=
  let i (k : Nat) : Nat := p.getD k 0
  if i 1 = 1 then s.initQp (i 0)
  else (s.modifyQp (i 0) (i 1) ⟨i 2, i 3, i 4, i 5, i 6, i 7, i 8, i 9⟩).roceViews

/-- 0x0404. -/
def State.applySchedule (s : State) (p : List Nat) : State :=
  let i (k : Nat) : Nat := p.getD k 0
  let sc : Schedule := { object := i 3, entries := p.drop 7, wrap := i 1 % 2 == 1, behind := i 1 / 2 % 2 == 1, lookahead := i 2
                         pd := i 4, first := i 5, positions := List.replicate (i 6) 0 }
  s.loadSchedule (i 0) sc

/-- Commands of chapters 3, 5 and 6. -/
def State.applyTables (s : State) (opcode : Nat) (p : List Nat) : Except Nat State :=
  let i (k : Nat) : Nat := p.getD k 0
  match opcode with
  | 0x0101 => s.applyCreate (i 0) (mirroredRegion s (i 1) (i 2) (i 3) (i 4) (i 5) (i 6))
  | 0x0102 => s.applyResize (i 0) (i 1)
  | 0x0103 => .ok (s.destroyReported (i 0))
  | 0x0104 => s.applyFlags (i 0) (i 1) (i 2) (i 3)
  | 0x0105 => .ok ((s.createPd (i 0)).notePush opcode p)
  | 0x0106 => .ok ((s.destroyPd (i 0)).notePush opcode p)
  | 0x0107 => .ok (s.bind (i 0) (i 1) (i 2 == 1))
  | 0x0108 => .ok (s.unbind (i 0) (i 1))
  | 0x0109 => .ok ((s.setSpaceKey (i 0) (i 1) (i 2) (some (s.now + ms (i 2)))).notePush opcode p)
  | 0x0201 => .ok ((s.createQueue (i 0) (i 1) (i 2)).notePush opcode (s.queueParams (i 0) (i 1) (i 2)))
  | 0x0202 => .ok ((s.destroyQueue (i 0 % 2 ^ 22)).notePush opcode p)
  | 0x0203 => .ok (s.createQp (i 0) (i 1))
  | 0x0204 => .ok (s.applyQpModify p)
  | 0x0205 => .ok (s.destroyQp (i 0))
  | _ => .ok s

/-- Commands of chapters 9, 10, 15 and 17. -/
def State.applyUnits (s : State) (opcode : Nat) (p : List Nat) : State :=
  let i (k : Nat) : Nat := p.getD k 0
  match opcode with
  | 0x0302 => s.cascadeKey (i 0)
  | 0x0401 => s.createObject (i 0) (i 1) (i 2 == 1) (i 3) (i 4) (i 5) (i 6)
  | 0x0402 => s.applyLoad (i 0) (i 1) (i 2)
  | 0x0403 => s.dropObject (i 0)
  | 0x0404 => s.applySchedule p
  | 0x0405 => s.dropSchedule (i 0)
  | 0x0501 => s.applyLock (i 0) (i 1) (i 2) (i 3) (AMap.has s.near.locks (i 3)) none
  | 0x0502 => match s.exactLock (i 0) (i 1) (i 2) with | some k => s.unlockEntry k | none => s
  | 0x0601 => if i 1 = 1 then s.closeAccount (i 0) else s.createAccount (i 0) (i 2)
  | 0x0602 => s.bindAccount (i 0 == 1) (i 1) (i 2)
  | 0x0604 => s.setShaper (i 0) (i 1) (i 2) (i 3) (i 4)
  | _ => s

/-! ### Domain records (assumption log 31) -/

/-- A witness record as COMMAND items carry it; times are ages and time left. -/
def WitnessRec.carried (now pair : Nat) (r : WitnessRec) : List Nat :=
  [pair, r.epoch, r.side, if r.mark then 1 else 0, match r.lastConfirm with | some t => now - t + 1 | none => 0, r.lease, r.sync]
    ++ (match r.provisional with | some (sd, t) => [sd + 1, t - now] | none => [0, 0])

/-- The record a COMMAND item carries. -/
def carriedRecord (now : Nat) (p : List Nat) : WitnessRec :=
  let i (k : Nat) : Nat := p.getD k 0
  { epoch := i 1, side := i 2, mark := i 3 == 1, lastConfirm := if i 4 = 0 then none else some (now - (i 4 - 1)), lease := i 5
    sync := i 6, provisional := if i 7 = 0 then none else some (i 7 - 1, now + i 8) }

/-- Sets a witness record and tells the standby. -/
def State.setRecord (s : State) (pair : Nat) (r : WitnessRec) : State :=
  { s with domain.records := AMap.set s.domain.records pair r }.mirrorChange Carry.RECORD (WitnessRec.carried s.now pair r)

/-- A member pair leaves: its entry, regions, record and pending pushes go (R349). -/
def State.dropMember (s : State) (p : Nat) : State :=
  { s with domain.members := AMap.del s.domain.members p, domain.records := AMap.del s.domain.records p
           domain.pushes := s.domain.pushes.filter (fun x => x.pair != p)
           domain.heldRegions := s.domain.heldRegions.filter (fun h => h.1 != p)
           domain.requests := s.domain.requests.filter (fun r => !(r.type == 0x0D && r.dst == p)) }

/-- A member entry as it is made at its JOIN. -/
def newMember (digestA digestB : Nat) (service : List Nat) (now : Nat) : Member :=
  { digestA, digestB, service, regions := [], applied := 0, pushSeq := 0, acked := 0, lastHeard := now, leaving := false }

/-- Pushes that give a member every domain PD with its key and every registered queue: step 3 of Table 16-6. -/
def State.catchUp (s : State) (p : Nat) : State :=
  let s := { s with domain.pushes := s.domain.pushes.filter (fun x => x.pair != p)
                    domain.requests := s.domain.requests.filter (fun r => !(r.type == 0x0D && r.dst == p)) }
  let s := s.prot.pds.foldl (fun s e => (s.queuePush none 0x0105 [e.1] p).queuePush none 0x0109 [e.1, e.2.key, 0] p) s
  s.cerga.queues.foldl (fun s e => s.queuePush none 0x0201 (s.queueParams (e.2.gen * 2 ^ 22 + e.1) e.2.pd e.2.key) p) s

/-- Enters a member, or takes a known one again with its service address; its catch-up pushes wait. -/
def State.enterMember (s : State) (p digestA digestB : Nat) (service : List Nat) : State :=
  let m := match AMap.get? s.domain.members p with
    | some m => { m with service, regions := [], applied := 0, leaving := false }
    | none => newMember digestA digestB service s.now
  ({ s with domain.members := AMap.set s.domain.members p m }).catchUp p

/-- Changes of domain records at a standby. -/
def State.applyCarried (s : State) (opcode : Nat) (p : List Nat) : State :=
  let i (k : Nat) : Nat := p.getD k 0
  if opcode = Carry.RECORD then { s with domain.records := AMap.set s.domain.records (i 0) (carriedRecord s.now p) }
  else if opcode = Carry.MEMBER then s.enterMember (i 0) (i 1) (i 2) (p.drop 3)
  else if opcode = Carry.NOT_MEMBER then (s.dropMember (i 0)).relist
  else if opcode = Carry.REGION then (s.recordRegion (i 0) (i 1) ⟨i 2, i 3, i 4, i 5⟩).relist
  else if opcode = Carry.APPLIED then
    { s with domain.members := AMap.upd s.domain.members (i 0) (fun m : Member => ({ m with applied := i 1 } : Member)) }
  else if opcode = Carry.DOMAIN then
    let named (l : List Nat) : List Nat := (l.take 3).filter (· != 0)
    { s with domain.domainKey := i 1, domain.witnesses := named (p.drop 2), domain.newWitnesses := named (p.drop 5)
             domain.lastPush := i 8, domain.dirSeq := i 9, domain.outbox := [] }.wr R.DOMAIN_STATUS_STATE (i 0)
  else if opcode = Carry.PUSHED then
    { s with domain.pushes := s.domain.pushes.filter (fun x => !(x.pair == i 0 && decide (x.seq ≤ i 1)))
             domain.members := AMap.upd s.domain.members (i 0) (fun m : Member => ({ m with acked := i 1 } : Member)) }
  else if opcode = Carry.OUTBOX then
    let l := s.domain.outbox.filter (fun e : Nat × Nat × DirEntry => decide (i 0 < e.1))
    { s with domain.outbox := l, domain.dirFull := i 1 == 1, domain.unlisted := i 2 }.wr
      R.DOMAIN_BACKLOG_OUTBOX l.length
  else if opcode = Carry.LAST_PUSH then { s with domain.lastPush := i 0 }
  else if opcode = Carry.ANSWER then
    s.keepAnswer { type := i 3, dst := i 0, side := i 1, ip := i 5, msgId := i 2, epoch := i 4, fields := p.drop 6 }
  else s

/-- 0x0301: the key arrives wrapped under a key derived from the pairing key; one that does not unwrap is refused BAD_KEY (R366). -/
def State.applyKey (s : State) (p : List Nat) : Except Nat State :=
  let i (k : Nat) : Nat := p.getD k 0
  match unwrapKey (s.pairDerived "BRAZE-KEYS" (s.rd R.TWIN_LINK_EPOCH_VALUE) (1 - s.side)) (i 3) (i 1) (i 2) (i 0) with
  | some key => .ok (s.commitSlot (i 0) (i 1) (i 2 == 1) key)
  | none => .error Why.BAD_KEY

/-- Applies one mirrored change; an error is the reason the standby reports. -/
def State.applyCommand (s : State) (opcode : Nat) (p : List Nat) : Except Nat State :=
  if opcode / 0x1000 = 0xF then .ok (s.applyCarried opcode p)
  else if opcode < 0x0300 then s.applyTables opcode p
  else if opcode = 0x0301 then s.applyKey p
  else .ok (s.applyUnits opcode p)

/-- COMMAND: at the standby a management command of the active, applied in arrival order and reported by its number with the reason it could
not be applied, or 0; nothing changes then. At the active the standby's report (R57, R170, assumption log 31). -/
def execCommand (number opcode : Nat) (params : List Nat) (s : State) : Host.Outcome State Fault Refusal :=
  s.itemRow (fun s =>
    if s.twin.holder then (if opcode = Carry.REPORT then s.commandReported number (params.getD 0 0) else s)
    else if !s.accepting then s
    else
      let (reason, s) := match s.applyCommand opcode params with
        | .ok t => (0, t)
        | .error e => (e, s)
      s.sendItem (plainItem 6 (commandBody number Carry.REPORT [reason])))

/-! ### STREAM_STATE (R117, R133) -/

/-- The active's incarnation: under another one every stream is NONE (R95). -/
def State.carriedBase (s : State) (base : Nat) : State :=
  (if s.cerga.base = base then s else { s with cerga.streams := [], cerga.base := base }).wr R.CERGA_INCARNATION_VALUE (base % 65535 + 1)

/-- An opening at the standby: the stream starts anew with its epoch and key; its vectors never run back (R91, R92). -/
def State.carriedOpening (s : State) (i epoch base : Nat) : State :=
  let s := s.carriedBase base
  let old := s.stream i
  if old.state = .open ∧ old.epoch = epoch then s
  else
    let x := { streamNone with state := .open, epoch, key := some (s.deriveStreamKey i epoch), nonces := old.nonces, lastAt := s.now
                               reply := old.reply }
    (s.setStream i x).cergaViews

/-- The standby's context of a carried epoch, where it has it open. -/
def State.updCarried (s : State) (i epoch : Nat) (f : Stream → Stream) : State :=
  let x := s.stream i
  if x.state = .open ∧ x.epoch = epoch then s.setStream i (f x) else s

/-- A carried sequence at or above the last carried RESP_ACK is marked. -/
def Stream.carry (x : Stream) (q : Nat) : Stream :=
  if seqBelow q x.respAck then x else { x with carried := insertNat (q % 2 ^ 32) x.carried }

/-- A carried RESP_ACK: what lies below it is neither marked nor kept any more. -/
def Stream.carryAck (x : Stream) (v : Nat) : Stream :=
  if seqBelow x.respAck v then
    { x with respAck := v, carried := x.carried.filter (fun q => !seqBelow q v), cache := x.cache.filter (fun c => !seqBelow c.seq v) }
  else x

/-- An atomic's response that the standby keeps: 8 bytes, or 16 for CAS16. -/
def carriedResult (seq opcode status value addr pd : Nat) : CachedResult :=
  { seq, opcode, status, payload := leBytes (if opcode = 4 then 16 else 8) value, op := none, addr, pd }

/-- A carried QP range: ePSN stands behind the last PSN. -/
def State.carriedPsns (s : State) (q psn n : Nat) : State :=
  match s.qp? q with
  | some x => s.setQp q { x with epsn := (psn + n) % 2 ^ 24, naked := false }
  | none => s

/-- A carried atomic result of a QP; the newest MAX_RD_ATOMIC are kept (R128). -/
def State.carriedAtomic (s : State) (q psn bth value : Nat) : State :=
  match s.qp? q with
  | some x =>
    let l := x.results.filter (fun r => r.psn != psn) ++ [(⟨psn, bth, value⟩ : QpResult)]
    s.setQp q { x with results := l.drop (l.length - max 1 x.maxRd) }
  | none => s

/-- STREAM_STATE: kind 0 an opening, 1 a SEQ range, 2 an atomic's response, 3 a RESP_ACK, 4 a PSN range, 5 a QP's atomic result, 6 the
incarnation. -/
def execStreamState (fields : List Nat) (s : State) : Host.Outcome State Fault Refusal :=
  s.itemRow (fun s =>
    let i (k : Nat) : Nat := fields.getD k 0
    if s.twin.holder then s
    else match i 0 with
    | 0 => s.carriedOpening (i 1) (i 2) (i 3)
    | 1 => s.updCarried (i 1) (i 2) (fun x => (rangeFrom (i 3) (i 4)).foldl Stream.carry x)
    | 2 => s.updCarried (i 1) (i 2) (fun x =>
        { x with cache := x.cache.filter (fun c => c.seq != i 3) ++ [carriedResult (i 3) (i 4) (i 5) (i 6) (i 7) (i 8)] })
    | 3 => s.updCarried (i 1) (i 2) (fun x => Stream.carryAck x (i 3))
    | 4 => s.carriedPsns (i 1) (i 3) (i 4)
    | 5 => s.carriedAtomic (i 1) (i 3) (i 4) (i 5)
    | 6 => s.carriedBase (i 1)
    | _ => s)

end Sys2Proof.Machine
end

