-- ==== Sys2Proof/Machine/Domain.lean ====
section
/-! DEFINITION. The Premor domain: the messages of Table 16-3 as they arrive, the witness, directory, pushes, joining and leaving, and
the domain's timers (R335 to R354). -/

namespace Sys2Proof.Machine

open Sys2Proof

/-! ### Arrival (R337 to R339, R351) -/

/-- REASON codes of REFUSE (Table 16-3). -/
def Refuse.STALE_EPOCH : Nat := 1
@[inherit_doc Refuse.STALE_EPOCH] def Refuse.NOT_ACTIVE : Nat := 2
@[inherit_doc Refuse.STALE_EPOCH] def Refuse.NOT_MEMBER : Nat := 3
@[inherit_doc Refuse.STALE_EPOCH] def Refuse.CONDITION : Nat := 4

/-- A worker takes an authenticated message of the manager pair: an answer makes the manager reachable, and a SEND_TIME more than
10 ms away raises TIME_DISAGREE (R339, R351). -/
def State.heardManager (s : State) (h : DomainHeader) (answer : Bool) : State :=
  let gap := if s.time.tai ≤ h.sendTime then h.sendTime - s.time.tai else s.time.tai - h.sendTime
  let s := if ms 10 < gap then s.raise Ev.DOMAIN_TIME_DISAGREE [] else s
  if answer then
    let s := if s.domain.lastAnswer.isNone then s.raise Ev.DOMAIN_MANAGER_REACHABLE [] else s
    { s with domain.lastAnswer := some s.now }
  else s

/-- The manager takes an authenticated message of a member: it is reachable, and its pushes go on; more than 65,536 that wait become a
catch-up (R347, R348). -/
def State.heardMember (s : State) (p : Nat) : State :=
  match AMap.get? s.domain.members p with
  | none => s
  | some m =>
    let was := s.memberReachable p
    let s := { s with domain.members := AMap.set s.domain.members p { m with lastHeard := s.now } }
    if was || !s.founded || !s.twin.holder then s
    else
      let many := decide (65536 < (s.domain.pushes.filter (fun x => x.pair == p)).length)
      ((if many then s.catchUp p else s).sendPushes).writeDirectory

/-- A domain message of a type with its body's fields: dropped uncounted while ENABLE is 0; what R88 drops is counted as there; one whose tag
fails, as every one does where there is no domain key, is counted in DOMAIN_DROP_AUTH (R337, assumption log 200). A save takes none. -/
def State.domainRow (s : State) (h : DomainHeader) (type : Nat) (body : List Nat) (answer : Bool) (f : State → State) :
    Host.Outcome State Fault Refusal :=
  .next <|
    if !s.coreOn || !s.on R.DOMAIN_CTRL_ENABLE || h.udpPort != s.rd R.DOMAIN_CTRL_UDP_PORT || s.save.active then s
    else if !DomainHeader.intact h then s.bump R.CERGA_DROP_MALFORMED 1
    else if s.rd R.DOMAIN_STATUS_STATE == 0 || s.domainTag type h body != h.tag then s.bump R.DOMAIN_DROP_AUTH 1
    else
      let s := s.bump R.DOMAIN_RX_MSGS 1
      let s := if s.roleStrap = 1 ∧ h.srcPair = 0 then s.heardManager h answer else s.heardMember h.srcPair
      f s

/-- An answer to the sender of a message, at the address it came from (R88, assumption log 200). -/
def DomainHeader.reply (h : DomainHeader) (type epoch : Nat) (fields : List Nat) : DomainAnswer :=
  { type, dst := h.srcPair, side := h.srcSide, ip := h.src, msgId := h.msgId, epoch, fields }

/-- Answers the sender of a message. -/
def State.answerTo (s : State) (h : DomainHeader) (type epoch : Nat) (fields : List Nat) : State :=
  s.answerDomain (DomainHeader.reply h type epoch fields)

/-- REFUSE with a reason and the registered epoch. -/
def State.refuseTo (s : State) (h : DomainHeader) (reason epoch : Nat) : State :=
  s.answerTo h 0x03 epoch [reason, epoch]

/-- A request: only the token holder acts on it, and any other H9 answers NOT_ACTIVE; a repeated MSG_ID gets its first answer again, or
waits for it (R338). -/
def State.requestRow (s : State) (h : DomainHeader) (type : Nat) (body : List Nat) (f : State → State) :
    Host.Outcome State Fault Refusal :=
  s.domainRow h type body false (fun s =>
    if !s.isActive then s.sendDomainTo h.src (s.rd R.TWIN_TOKEN_EPOCH_VALUE) 0x03 h.srcPair h.msgId [Refuse.NOT_ACTIVE, 0]
    else match s.domain.answered.find? (fun a => DomainAnswer.answers a h.srcPair h.srcSide h.msgId) with
      | some a => s.sendDomainTo h.src a.epoch a.type h.srcPair h.msgId a.fields
      | none => if s.domain.waiting.any (fun w => DomainAnswer.answers w.2 h.srcPair h.srcSide h.msgId) then s else f s)

/-! ### The witness (R177 to R179, R340, R341) -/

/-- L and G of a record in ns. -/
def WitnessRec.leaseNs (r : WitnessRec) : Nat := ms r.lease + (ms 1 + ms r.lease / 100)

/-- The witness has confirmed a renewal of the current epoch within L + G. -/
def WitnessRec.confirmedLately (now : Nat) (r : WitnessRec) : Bool :=
  match r.lastConfirm with | some t => decide (now ≤ t + r.leaseNs) | none => false

/-- A question about the pair of the sender goes to its record; a pair without one is no member. -/
def State.witnessRow (s : State) (h : DomainHeader) (type : Nat) (body : List Nat) (f : WitnessRec → State → State) :
    Host.Outcome State Fault Refusal :=
  s.requestRow h type body (fun s => match AMap.get? s.domain.records h.srcPair with
    | none => s.refuseTo h Refuse.NOT_MEMBER 0
    | some r => f r s)

/-- Records a change and answers once it is journaled and mirrored (R340). -/
def State.decide_ (s : State) (h : DomainHeader) (r : WitnessRec) (type : Nat) (fields : List Nat) : State :=
  (s.setRecord h.srcPair r).answerMirrored (DomainHeader.reply h type r.epoch fields)

/-- WITNESS_RENEW: confirmed for the registered epoch and its holder's side; an older epoch, or one over which a provisional grant
stands, is refused STALE_EPOCH (R177, R341). -/
def execWitnessRenew (h : DomainHeader) (leaseMs : Nat) (s : State) : Host.Outcome State Fault Refusal :=
  s.witnessRow h 0x01 [leaseMs] (fun r s =>
    if h.tokenEpoch < r.epoch ∨ r.provisional.isSome then s.refuseTo h Refuse.STALE_EPOCH r.epoch
    else if h.tokenEpoch ≠ r.epoch ∨ h.srcSide ≠ r.side then s.refuseTo h Refuse.CONDITION r.epoch
    else s.decide_ h { r with lastConfirm := some s.now, lease := clampTo 10 500 leaseMs } 0x02 [h.sendTime])

/-- Why a GRANT_REQUEST is refused, if it is (R178, R340, R341). -/
def WitnessRec.grantRefusal (now : Nat) (h : DomainHeader) (force : Bool) (r : WitnessRec) : Option Nat :=
  let other := match r.provisional with | some (sd, _) => sd != h.srcSide | none => false
  if h.tokenEpoch < r.epoch ∨ other = true then some Refuse.STALE_EPOCH
  else if r.epoch < h.tokenEpoch ∨ r.confirmedLately now then some Refuse.CONDITION
  else if force then none
  else if r.mark ∨ (h.srcSide ≠ r.side ∧ r.sync ≠ 0) then some Refuse.CONDITION
  else none

/-- GRANT_REQUEST: the registered epoch + 1 is registered at once with the requester as holder, or granted provisionally by a witness
worker of pair 0 (R178, R340, R341). -/
def execGrantRequest (h : DomainHeader) (flags : Nat) (s : State) : Host.Outcome State Fault Refusal :=
  s.witnessRow h 0x04 [flags] (fun r s =>
    match WitnessRec.grantRefusal s.now h (flags % 2 == 1) r with
    | some why => s.refuseTo h why r.epoch
    | none =>
      let new : WitnessRec := if h.srcPair = 0 then { r with provisional := some (h.srcSide, s.now + r.leaseNs) }
        else { r with epoch := r.epoch + 1, side := h.srcSide, lastConfirm := none, sync := 1 }
      s.decide_ h new 0x05 [r.epoch + 1])

/-- MARK_REQUEST: the mark is registered with the epoch (R179). -/
def execMarkRequest (h : DomainHeader) (s : State) : Host.Outcome State Fault Refusal :=
  s.witnessRow h 0x06 [] (fun r s =>
    if h.tokenEpoch < r.epoch ∨ r.provisional.isSome then s.refuseTo h Refuse.STALE_EPOCH r.epoch
    else if h.tokenEpoch ≠ r.epoch ∨ h.srcSide ≠ r.side then s.refuseTo h Refuse.CONDITION r.epoch
    else s.decide_ h { r with mark := true } 0x07 [])

/-- MARK_CLEAR: only the active clears the mark (R179, R195). -/
def execMarkClear (h : DomainHeader) (s : State) : Host.Outcome State Fault Refusal :=
  s.witnessRow h 0x08 [] (fun r s =>
    if h.tokenEpoch < r.epoch then s.refuseTo h Refuse.STALE_EPOCH r.epoch
    else if h.tokenEpoch ≠ r.epoch ∨ h.srcSide ≠ r.side then s.refuseTo h Refuse.CONDITION r.epoch
    else s.decide_ h { r with mark := false } 0x02 [h.sendTime])

/-- A record of an epoch that a holder registers. -/
def newRecord (epoch side lease : Nat) : WitnessRec := ⟨epoch, side, false, none, lease, 1, none⟩

/-- EPOCH_REGISTER: an epoch that is not older is registered with its holder's side, and a provisional grant ends. A worker that is
named by pair 0 keeps a record for it from then on (R341; assumption log 57). -/
def execEpochRegister (h : DomainHeader) (epoch side : Nat) (s : State) : Host.Outcome State Fault Refusal :=
  s.requestRow h 0x09 [epoch, side] (fun s =>
    let found := AMap.get? s.domain.records h.srcPair
    let named := s.roleStrap == 1 && h.srcPair == 0
    match found with
    | none =>
      if named then
        (s.wr R.DOMAIN_STATUS_WITNESS 1).decide_ h (newRecord epoch side (s.rd R.TWIN_CTRL_LEASE_MS)) 0x02 [h.sendTime]
      else s.refuseTo h Refuse.NOT_MEMBER 0
    | some r =>
      if epoch < r.epoch then s.refuseTo h Refuse.STALE_EPOCH r.epoch
      else
        let new : WitnessRec := if epoch = r.epoch then { r with side, provisional := none }
          else { r with epoch, side, provisional := none, lastConfirm := none }
        let s := if named then s.wr R.DOMAIN_STATUS_WITNESS 1 else s
        let s := s.decide_ h new 0x02 [h.sendTime]
        if s.founded then s.writeDirectory else s)

/-- STATUS_REPORT of a standby: its SYNC; it has no answer. -/
def execStatusReport (h : DomainHeader) (sync : Nat) (s : State) : Host.Outcome State Fault Refusal :=
  s.domainRow h 0x0A [sync] false (fun s => match AMap.get? s.domain.records h.srcPair with
    | some r => if s.isActive && h.srcSide != r.side && r.sync != sync then s.setRecord h.srcPair { r with sync } else s
    | none => s)

/-- PROVISIONAL_GRANT_LAPSE: L + G after the last request it answered, the record of a pair returns to its epoch (R341). -/
def execProvisionalGrantLapse (pair : Nat) (s : State) : Host.Outcome State Fault Refusal :=
  .next <| match AMap.get? s.domain.records pair with
    | some r => match r.provisional with
      | some (_, t) => if s.coreOn && decide (t ≤ s.now) then s.setRecord pair { r with provisional := none } else s
      | none => s
    | none => s

/-! ### Answers (R177 to R179, R341, R342) -/

/-- The request of this H9 that an answer names. -/
def State.asked (s : State) (h : DomainHeader) : Option DomainRequest :=
  s.domain.requests.find? (fun r => r.msgId == h.msgId && r.dst == h.srcPair)

/-- A request is answered. -/
def State.answeredNow (s : State) (r : DomainRequest) : State :=
  { s with domain.requests := s.domain.requests.filter (fun q => !(q.msgId == r.msgId && q.dst == r.dst)) }

/-- How many answers of one kind the questions of one round need: two of the three witnesses for the manager pair (R341). -/
def State.enough (s : State) (before : List Nat) : Bool := s.roleStrap != 2 || decide (1 ≤ before.length)

/-- Notes the answer of a witness on the other questions of its round. -/
def State.noteAnswer (s : State) (r : DomainRequest) (yes : Bool) : State :=
  let f := fun q : DomainRequest =>
    if q.msgId = r.msgId then
      (if yes then ({ q with confirmed := q.confirmed ++ [r.dst] } : DomainRequest) else { q with refused := q.refused ++ [r.dst] })
    else q
  { s with domain.requests := s.domain.requests.map f }

/-- The whole round of a request is over. -/
def State.endRound (s : State) (r : DomainRequest) : State :=
  { s with domain.requests := s.domain.requests.filter (fun q => q.msgId != r.msgId) }

/-- The domain's own state goes to the standby. -/
def State.mirrorDomain (s : State) : State :=
  let three (l : List Nat) : List Nat := (l ++ [0, 0, 0]).take 3
  s.mirrorChange Carry.DOMAIN ([s.rd R.DOMAIN_STATUS_STATE, s.domain.domainKey] ++ three s.domain.witnesses
    ++ three s.domain.newWitnesses ++ [s.domain.lastPush, s.domain.dirSeq])

/-- A witness has confirmed the current epoch of pair 0; a new witness list governs once two of the old and two of the new hold it
(R342). -/
def State.noteRegistered (s : State) (p : Nat) : State :=
  if s.roleStrap != 2 then s
  else
    let l := if s.domain.registered.contains p then s.domain.registered else s.domain.registered ++ [p]
    let count (ws : List Nat) : Nat := (ws.filter l.contains).length
    let s := { s with domain.registered := l }
    if !s.domain.newWitnesses.isEmpty && decide (2 ≤ count s.domain.witnesses ∧ 2 ≤ count s.domain.newWitnesses) then
      let s := { s with domain.witnesses := s.domain.newWitnesses, domain.newWitnesses := [] }
      s.mirrorDomain.writeDirectory
    else s

/-- An answer to a request that waits for one. -/
def State.answerRow (s : State) (h : DomainHeader) (type : Nat) (body : List Nat) (f : DomainRequest → State → State) :
    Host.Outcome State Fault Refusal :=
  s.domainRow h type body true (fun s => match s.asked h with
    | some r => f r s
    | none => s)

/-- The worker has left the domain and keeps its tables (R349). -/
def State.leftDomain (s : State) : State :=
  let cmd := s.domain.leaveCmd
  let s := { s with domain.outbox := [], domain.dirSeq := 0, domain.lastPush := 0, domain.leaveCmd := none, domain.dirFull := false
                    domain.unlisted := 0 }
  let s := (((s.wr R.DOMAIN_STATUS_STATE 0).wr R.DOMAIN_STATUS_WITNESS 0).wr R.DOMAIN_BACKLOG_OUTBOX 0).mirrorDomain
  match cmd.bind (fun id => s.cmds.find? (fun c => c.id == id)) with
  | some c => (s.cmdEvent c Ev.DOMAIN_LEFT []).finish c.id St.DONE
  | none => s.raise Ev.DOMAIN_LEFT []

/-- CONFIRM echoes the SEND_TIME of a request: a renewal moves the lease end to T_s + L, at the manager pair once two witnesses have
confirmed it; a registration, a cleared mark, a leave and a metering copy are settled (R177, R341, R342, R349). A new holder whose link has
failed opens admission once its epoch is registered (R198). -/
def execConfirm (h : DomainHeader) (sendTime : Nat) (s : State) : Host.Outcome State Fault Refusal :=
  s.answerRow h 0x02 [sendTime] (fun r s =>
    let t := (s.answeredNow r).noteAnswer r true
    if r.type = 1 then
      if s.enough r.confirmed && s.twin.holder && !s.twin.stopped && decide (sendTime ≤ s.time.tai) then t.extendLease r.firstAt else t
    else if r.type = 8 ∨ r.type = 0x12 then t
    else if r.type = 9 then
      let t := t.noteRegistered r.dst
      if s.twin.opening && !s.linkUp && s.enough r.confirmed then t.openAdmission else t
    else if r.type = 0x11 then t.leftDomain
    else s)

/-- The holder stops: its renewal has been refused, and only a grant can start it again (R177). -/
def State.stopHolder (s : State) : State :=
  if s.twin.holder then
    { s with twin.stopped := true, twin.leaseEnd := none, twin.viewEnd := some (match s.twin.viewEnd with | some t => min t s.now | none => s.now) }.twinViews
  else s

/-- A refused grant request; the forced one of TWIN_SWITCH ends its command PEER_REACHABLE (R178, R199). -/
def State.grantRefused (s : State) (r : DomainRequest) (reason registered : Nat) : State :=
  let t := ((s.answeredNow r).noteAnswer r false).raise Ev.TWIN_GRANT_REFUSED []
  if !s.enough r.refused then t
  else
    let t := match r.cmd with
      | some id => (({ t with twin.forcing := none }).endRound r).refuse id Why.PEER_REACHABLE
      | none => t
    if reason = Refuse.STALE_EPOCH then t.learnEpoch registered else t

/-- Bytes of the manager's address as DOMAIN_MGR_IP holds them. -/
def ipWords (ip : Nat) : List Nat := (rangeFrom 0 4).map (fun n => ip / 2 ^ (32 * n) % 2 ^ 32)

/-- DOMAIN_JOIN ends without joining: nothing has changed (R348). -/
def State.joinRefused (s : State) (reason : Nat) : State :=
  let cmd := s.domain.joinCmd
  let s := s.abandonJoin
  match cmd with
  | some id => s.refuse id reason
  | none => s

/-- LEAVE is refused while the pair is a named witness (R349). -/
def State.leaveRefused (s : State) : State :=
  let cmd := s.domain.leaveCmd
  let s := { s with domain.leaveCmd := none }.wr R.DOMAIN_STATUS_STATE 2
  match cmd with
  | some id => s.refuse id Why.IN_USE
  | none => s

/-- Why a refused JOIN failed, from the roles the request carried (Table 16-6, assumption log 59). -/
def joinReason (r : DomainRequest) (reason : Nat) : Nat :=
  if reason = Refuse.NOT_MEMBER then Why.IN_USE
  else if r.fields.getD 2 0 = 1 ∧ r.fields.getD 3 0 = 1 then Why.PAIR_TAKEN else Why.WRONG_ROLE

/-- REFUSE: a refused renewal stops the holder, at the manager pair after two refusals; NOT_ACTIVE comes from the standby of a pair
and leaves the request to its resend (R177, R178, R338, R341, R348, R349). -/
def execRefuse (h : DomainHeader) (reason registered : Nat) (s : State) : Host.Outcome State Fault Refusal :=
  s.answerRow h 0x03 [reason, registered] (fun r s =>
    if reason = Refuse.NOT_ACTIVE then s
    else
      let t := (s.answeredNow r).noteAnswer r false
      let learn (t : State) : State := if reason = Refuse.STALE_EPOCH ∧ s.enough r.refused = true then t.learnEpoch registered else t
      if r.type = 1 then (if s.enough r.refused then learn t.stopHolder else t)
      else if r.type = 4 then s.grantRefused r reason registered
      else if r.type = 6 ∨ r.type = 8 ∨ r.type = 9 then learn t
      else if r.type = 0x0B then
        (if reason = Refuse.NOT_MEMBER then { t with domain.outbox := [] }.wr R.DOMAIN_BACKLOG_OUTBOX 0 else t)
      else if r.type = 0x0F then t.joinRefused (joinReason r reason)
      else if r.type = 0x11 then t.leaveRefused
      else t)

/-- GRANT: the requester takes the granted epoch, at the manager pair once two witnesses have granted it; its lease ends L after the
request was first sent (R178, R189, R341). -/
def execGrant (h : DomainHeader) (epoch : Nat) (s : State) : Host.Outcome State Fault Refusal :=
  s.answerRow h 0x05 [epoch] (fun r s =>
    if r.type ≠ 4 then s
    else
      let t := (s.answeredNow r).noteAnswer r true
      let idle := !s.twin.holder || s.twin.stopped || !s.leaseValid
      if !s.enough r.confirmed || !s.mayServe then t
      else if !idle || decide (epoch ≤ s.rd R.TWIN_TOKEN_EPOCH_VALUE) then t
      else
        let t := if s.twin.holder then t.localiseCommands.stickEntries else t
        let t := { t.endRound r with twin.forcing := none }
        let t := t.takeToken epoch (some (r.firstAt + s.leaseL)) 1 false
        match r.cmd with
        | some id => (t.switchOver 7 s.now (some id) s.twin.forceTag).finish id St.DONE
        | none => t.switchOver 5 s.now none 0)

/-- MARK_GRANT: the mark is held, at the manager pair once two witnesses have granted it (R179, R341). -/
def execMarkGrant (h : DomainHeader) (s : State) : Host.Outcome State Fault Refusal :=
  s.answerRow h 0x07 [] (fun r s =>
    if r.type ≠ 6 then s
    else
      let t := (s.answeredNow r).noteAnswer r true
      if s.enough r.confirmed then (if s.twin.holder then (t.endRound r).gainMark else t.endRound r) else t)

end Sys2Proof.Machine
end

