-- ==== Sys2Proof/Machine/Save.lean ====
section
/-! DEFINITION. The save sequence (Table 7-5): what each step leaves, the ledger it writes, and what follows it (R82, R83, R151 to
R158). -/

namespace Sys2Proof.Machine

open Sys2Proof

/-! ### The ledger (R82, R83) -/

/-- LENGTH of a ledger record: that of the operation; an atomic's width; 0 for an operation without a range. -/
def ledgerLength (q : Request) : Nat :=
  if unaddressed q.opcode then 0 else if 3 ≤ q.opcode ∧ q.opcode ≤ 5 then atomicWidth q.opcode else q.len

/-- STATUS of an operation as the save leaves it: of a write what was placed counts as durable, an atomic is DONE once it has executed,
and a fence once nothing it covers runs; an operation whose effect comes with its response had none (R83). -/
def State.ledgerStatus (s : State) (o : Op) (p : Progress) : Nat :=
  if o.req.opcode = 2 then
    if o.arrived && p.bytes == o.req.len then St.DONE else if p.bytes = 0 then St.ABORTED_RESET else St.PARTIAL
  else if decide (3 ≤ o.req.opcode ∧ o.req.opcode ≤ 5) && o.executed && !o.poisoned then St.DONE
  else if o.req.opcode == 6 && o.status.isNone && !s.fenceWaits o then St.DONE
  else St.ABORTED_RESET

/-- The twin had accepted every byte the record counts. -/
def State.twinConfirmed (s : State) (o : Op) : Bool :=
  o.mirrored && !o.degraded && s.eng.gather.all (fun g => g.op != some o.id || Gather.accepted g)

/-- The ledger record of an operation that holds a tag. -/
def State.opRecord (s : State) (o : Op) : LedgerRecord :=
  let key := s.sourceKey o.req.src
  let len := ledgerLength o.req
  let p := progressOf (o.req.addr % pairSpace) o.req.len o.placed
  let st := s.ledgerStatus o p
  let whole := st != St.ABORTED_RESET
  let q : Progress := if o.req.opcode = 2 && whole then p else ⟨if whole then len else 0, 0, 0⟩
  let atomic := decide (3 ≤ o.req.opcode ∧ o.req.opcode ≤ 5) && st == St.DONE
  let base : LedgerRecord :=
    { kind := key.1, status := st, opcode := o.req.opcode, pd := o.pd, pair := s.pairNo, queue := key.2, seq := o.req.seq,
      addr := if unaddressed o.req.opcode then 0 else o.req.addr, len, bytes := q.bytes, bitmap := q.bitmap, shift := q.shift,
      mirrored := o.mirrored, confirmed := s.twinConfirmed o, resultValid := atomic, released := false, detail := 0,
      result := if atomic then o.value.getD 0 else 0 }
  match o.req.src with
  | .cerga _ _ => base
  | .roce _ => { base with opcode := o.req.arg }
  | .host _ id => match s.cmds.find? (fun c => c.id == id) with
    | some c => { base with opcode := c.opcode, seq := c.slot, result := c.tag }
    | none => base

/-- What of a MEMOP that has ended is done: all of it, what its progress record says, or nothing (R79, R83). -/
def memopProgress (c : Cmd) : Progress :=
  if c.status = St.DONE ∨ c.status = St.DEGRADED then progressOf (c.range.2.1 % pairSpace) c.range.2.2 [(0, c.range.2.2)]
  else if c.status = St.PARTIAL ∨ c.status = St.FAULT_INTERNAL then
    ⟨c.result % 2 ^ 32, c.result / 2 ^ 32 % 256, c.result / 2 ^ 40 % 2 ^ 64⟩
  else ⟨0, 0, 0⟩

/-- The record of a management command whose completion is not written: its outcome where it had ended, else ABORTED_RESET (R83). A MEMOP's
has the fields of an operation record. -/
def State.cmdRecord (s : State) (c : Cmd) : LedgerRecord :=
  let ended := c.phase == .ended
  let r := if ended then c.result else 0
  let base : LedgerRecord :=
    { kind := 3, status := if ended then c.status else St.ABORTED_RESET, opcode := c.opcode, pd := 0, pair := s.pairNo, queue := c.ring,
      seq := c.slot, addr := r % 2 ^ 64, len := r / 2 ^ 64 % 2 ^ 32, bytes := 0, bitmap := 0, shift := 0, mirrored := false,
      confirmed := false, resultValid := false, released := false, detail := if ended then c.detail else 0, result := c.tag }
  if c.opcode = 0x0903 ∨ c.opcode = 0x0904 then
    let p := if ended && c.opcode == 0x0904 then memopProgress c else ⟨0, 0, 0⟩
    let reg := (s.lookup (c.range.2.1 % pairSpace)).bind (fun e => s.region? e.region)
    { base with pd := c.range.1, addr := c.range.2.1, len := c.range.2.2, bytes := p.bytes, bitmap := p.bitmap, shift := p.shift,
                mirrored := ended && ((reg.map (·.mirrored)).getD false), confirmed := ended && c.status == St.DONE }
  else base

/-! ### The steps -/

/-- Step 1 ends: a save on the active yields (Table 8-7, cause 4). -/
def State.saveYield (s : State) : State := (s.startYield 4 none 0).2

/-- Step 2 ends: what still runs is frozen and recorded, and charged by its ledger progress (Table 15-3); the mirror stream is flushed
and the final MSNs go out where a yield runs. -/
def State.saveFreeze (s : State) : State :=
  let recs := s.eng.ops.map s.opRecord
  let f := fun g : Gather => ({ g with record := none, stuck := false } : Gather)
  let ops := s.eng.ops
  let s := { s with eng.gather := s.eng.gather.map f }
  let s := ops.foldl (fun s o =>
    if o.responded then s else s.chargeEnd o (if (s.opRecord o).status = St.DONE then St.DONE else St.PARTIAL)) s
  let cmds := ops.filterMap (fun o => match o.req.src with | .host _ id => some id | _ => none)
  let h := fun g : Gather => ({ g with op := none } : Gather)
  let s := { s with eng := { s.eng with ops := [], waiting := [], gather := s.eng.gather.map h } }
  let s := { s with cmds := s.cmds.filter (fun c => !cmds.contains c.id), save.records := recs }.flushStream
  match s.twin.yield with
  | some y => if y.step = 2 then s.sendHandover y else s
  | none => s

/-- Commands that wait only for a push have ended; every other unfinished one is undone (R42, R347). -/
def State.saveCommands (s : State) : State :=
  let s := s.domain.pushResults.foldl (fun s w =>
    s.endCmd w.1 St.DONE 0 (w.2 + 2 ^ 64 * (s.domain.pushes.filter (fun x => x.cmd == some w.1)).length)) s
  let s := s.undoLocks.rollback.2
  { s with save.records := s.save.records ++ s.cmds.map s.cmdRecord, cmds := [] }.dropRings

/-- The Braze islands are switched off; a yield that has not ended has failed. -/
def State.saveBraze (s : State) : State :=
  let units := match s.twin.resync with | some r => r.unacked | none => []
  let s := { s.localiseCommands with twin.resync := none, twin.yield := none, twin.partials := [], twin.frame := [], twin.frameAt := none
                                     twin.commands := [], twin.cut := [], twin.handover := none, twin.shadows := [] }
  ((s.markUnits units).wr R.TWIN_STATUS_LINK 0).wr R.TWIN_STATUS_LANES 0

/-- Step 4 ends: islands off, the event hub among them (R486), and the save intent marks every unit with a dirty page. -/
def State.saveIslands (s : State) : State :=
  let s := { s.saveCommands.saveBraze with near.ways := [], near.victims := [], near.misses := [], near.lru := [] }
  let us := s.dur.dirty.foldl (fun l e => if l.contains (e.1 / 512) then l else l ++ [e.1 / 512]) []
  { s with save.intent := us, save.intentWritten := true, hub := ⟨[], [], s.hub.nextId⟩ }.nearViews

/-- Step 7 ends: the responder state of every QP in RTR or RTS and the program means are written to the system area (R133, R142); the
metering counters stand in State as they are. -/
def State.saveBlocks (s : State) : State :=
  let qs := s.roce.qps.filter (fun e => e.2.state == .rtr || e.2.state == .rts)
  { s with roce := { s.roce with saved := qs.map (fun (e : Nat × Qp) => (e.1, Qp.block e.2)) }, dur.savedMeans := s.dur.dieMeans }

/-- Step 8 ends: the save record, with the new SAVE_SEQ. -/
def State.saveRecord (s : State) : State :=
  let s := (s.wr R.DUR_SAVE_SEQ_VALUE s.nextSaveSeq).wr R.DUR_LAST_SAVE_TRIGGER s.save.trigger
  s.wr R.DUR_LAST_SAVE_DURATION_MS (min 0xFFFFF ((s.now - s.save.startedAt) / 1000000))

/-- What has happened when a step ends. Step 6 closes parity and verifies programs, which the model does with each program. -/
def State.saveStep (s : State) : Nat → State
  | 1 => s.saveYield
  | 2 => s.saveFreeze
  | 3 => s.settleDram
  | 4 => s.saveIslands
  | 5 => s.programAll
  | 7 => s.saveBlocks
  | 8 => s.saveRecord
  | _ => s

/-- Step 3 waits for a soft repair of a DRAM row (Table 11-6), and step 4 for a yield that still runs, within its bound of 8 ms (R188). -/
def State.saveWaits (s : State) : Bool :=
  (s.save.step == 3 && !s.dram.repairing.isEmpty) || s.save.step == 4 && (match s.twin.yield with | some y => s.linkUp && decide (s.now < y.bound + ms 8) | none => false)

/-- SAVE_STEP_COMPLETE: the step in progress ends, and the next one begins. -/
def execSaveStepComplete (s : State) : Host.Outcome State Fault Refusal :=
  .next <|
    if !s.keeperRuns || !s.save.active || s.saveWaits || decide (9 ≤ s.save.step) then s
    else
      let k := s.save.step
      let s := s.saveStep k
      ({ s.wr R.DUR_STATUS_SAVE_STEP (k + 1) with save.step := k + 1 }.sendStatus).paceViews

/-! ### After step 9 -/

/-- Writes the ledger under the save's SAVE_SEQ; records of the last one that nobody released are counted (R82, R86). -/
def State.writeLedger (s : State) : State :=
  let old := (s.ledger.records.filter (fun r => !r.released)).length
  let s := if old = 0 then s else s.raise Ev.MEMOP_LEDGER_DISCARDED [(4, old)]
  let s := { s with ledger := ⟨s.save.records, s.rd R.DUR_SAVE_SEQ_VALUE, false, false, false, none⟩ }
  s.raise Ev.MEMOP_LEDGER_WRITTEN [(4, s.save.records.length)]

/-- The load-side power of a save on hold-up energy, in W: EFF times the bank's energy drop over the duration (R143); `mv` is the
bank's voltage at the end. -/
def State.savePower (s : State) (mv : Nat) : Nat :=
  let v0 := s.save.bankMv
  let dt := s.now - s.save.startedAt
  s.rd R.DUR_HOLDUP_EFF_PCT * s.rd R.DUR_BANK_C_MF * (v0 * v0 - mv * mv) / (200 * max 1 dt)

/-- SAVE_END with its duration goes to the keeper's log, and the save's outcome to DUR_LAST_SAVE (R152). -/
def State.endSave (s : State) (mv : Nat) : State :=
  let dt := (s.now - s.save.startedAt) / 1000000
  let s := s.flash.failed.foldl (fun s k => s.retireBlock ⟨k / 16777216, k / 1048576 % 16, k % 1048576⟩) { s with flash.failed := [] }
  let s := s.writeLedger
  let s := if s.save.onBank then (s.wr R.DUR_P_P_MEAS_W (s.savePower mv)).setCounter 6 (s.savePower mv) else s
  let s := s.keeperLog Ev.DURABILITY_SAVE_END (severityOf Ev.DURABILITY_SAVE_END) (detailOf [(1, s.save.trigger), (4, dt)]) true
  let s := ((s.wr R.DUR_LAST_SAVE_RESULT 0).wr R.DUR_LAST_SAVE_DURATION_MS (min 0xFFFFF dt)).wr R.DUR_STATUS_SAVE_STEP 0
  { s with save.active := false, save.incomplete := false, save.lastStep := 9, save.records := [] }

/-- The life-cycle change of a save is applied after step 9; a debug change follows Quench (Table 7-4). -/
def State.saveChange (s : State) : State :=
  match s.save.change with
  | none => s
  | some c =>
    let s := { s with save.change := none }
    if c.debug && s.keeper.deferred.isNone then { s with keeper.deferred := some c } else s.applyChange c

/-- SAVE_SEQUENCE_END: step 9 ends; `mv` is the bank's voltage and `q` the report of a Quench that follows. RETIRED never restarts
(R378). -/
def execSaveSequenceEnd (mv : Nat) (q : QuenchReport) (s : State) : Host.Outcome State Fault Refusal :=
  .next <|
    if !s.keeperRuns || !s.save.active || s.save.step != 9 then s
    else
      let action := s.save.action
      let s := (s.endSave mv).saveChange
      if action = .restart && s.rd R.LIFE_STATE_LIFECYCLE != 4 then (s.wr R.KEEPER_STATUS_SEQ_STATE 2).releaseCore q
      else { s with keeper.keepAfter := action == SaveAction.keep }.startShutdown

/-- BANK_AT_FLOOR: the bank has reached V_floor before step 9 ended (R155). -/
def execBankAtFloor (s : State) : Host.Outcome State Fault Refusal :=
  .next (if s.keeperRuns && s.save.active && s.save.onBank then s.loseCore.startShutdown else s)

/-- SAVE_NOW (R158): it completes at step 1 with the SAVE_SEQ the save will write. -/
def execSaveNow (r : CmdRef) (action tag : Nat) (s : State) : Host.Outcome State Fault Refusal :=
  .next <| s.command r 0x0905 (fun c s =>
    let q := s.nextSaveSeq
    let s := s.clamped (if 1 < action then 1 else 0)
    (s.startSave 6 (if action = 1 then .restart else .keep) (some tag) none none).endCmd c.id St.DONE 0 q)

end Sys2Proof.Machine
end

