-- ==== Sys2Proof/Machine/Sideband.lean ====
section
/-! DEFINITION. Sideband balls: coded inputs, outputs, reference clocks, and the thermal trip (R489 to R494). -/

namespace Sys2Proof.Machine

open Sys2Proof

/-- A wake (R390, R414, R450): from P3 KEEP, OFF or LOCKOUT a full start; during a shut-down or its hold it is acted on at
OFF (R416). -/
def State.wake (s : State) : State :=
  let q := s.rd R.KEEPER_STATUS_SEQ_STATE
  if s.rd R.LIFE_STATE_LIFECYCLE = 4 then s
  else if q = 0 ∨ q = 6 then
    { (s.wr R.KEEPER_STATUS_SEQ_STATE 0).wr R.KEEPER_STATUS_RETRIES 0 with
      keeper.waitStart := true, keeper.retryAt := none }.driveFeeds.tryPowerUp false
  else if q = 4 then { s with keeper.waitStart := true }
  else s

/-- A filtered asserting edge on RESET_N (R450, R460): a save with trigger 2 from step 7 of a start on, a restart of the start
at step 5 before that, with Quench's report, a wake in OFF, P3 KEEP and LOCKOUT. -/
def execResetNAssert (q : QuenchReport) (s : State) : Host.Outcome State Fault Refusal :=
  .next <|
    if !s.keeperRuns then s
    else
      let (act, s) := s.acceptInput 1 4 (sec 10)
      if !act then s
      else if s.save.active then s.startSave 2 .restart none none none
      else if s.coreOn then
        if 7 ≤ s.start.step then s.startSave 2 .restart none none none else s.releaseCore q
      else s.wake

/-- What an accepted thermal trip does (Table 25-3 steps 1 and 2): the event, and the thermal save or, in power-up, the end of
the sequence (R416). -/
def State.thermalTrip (s : State) (cause temp : Nat) : State :=
  let s := { s.raiseKeeper Ev.POWER_THERMAL_TRIP [(1, cause), (1, temp)] with
    keeper.thermAt := some (if s.save.active then (s.keeper.thermAt.filter (s.save.startedAt ≤ ·)).getD s.now else s.now) }
  if s.rd R.KEEPER_STATUS_SEQ_STATE = 1 then { s with keeper.waitStart := true }.startShutdown
  else if s.coreOn then
    if s.start.fwDone || s.save.active then s.startSave 7 .shutdown none none none else s.startShutdown
  else s

/-- THERM_TRIP_N is accepted as asserted from outside (R490); `temp` is the highest core sensor reading, which is unknown while the core die
is unpowered (R493). -/
def execThermTripNAssert (temp : Nat) (s : State) : Host.Outcome State Fault Refusal :=
  .next <|
    if !s.keeperRuns || s.keeper.thermDriven then s
    else
      let (act, s) := s.acceptInput 2 4 (sec 60)
      let s := { s with keeper.thermInput := true }
      if act then s.thermalTrip 1 (if s.coreOn then temp else 0xFF) else s

/-- A core sensor reads 115 °C or more: the H9 drives THERM_TRIP_N low and saves (R490). -/
def execJunctionOvertemp (temp : Nat) (s : State) : Host.Outcome State Fault Refusal :=
  .next <|
    if s.keeperRuns && s.coreOn && decide (115 ≤ temp) && !s.keeper.thermDriven then
      ({ s with keeper.thermDriven := true
                keeper.outputs := AMap.set s.keeper.outputs 0x11 true }).thermalTrip 0 temp
    else s

/-- A core sensor reads 125 °C or more, or the thermal save runs past 5 s: every rail is cut (R490). -/
def execHardCutCondition (temp : Nat) (s : State) : Host.Outcome State Fault Refusal :=
  .next <|
    let late := s.save.active && due s.now ((s.keeper.thermAt.filter (s.save.startedAt ≤ ·)).map (· + sec 5))
    if s.keeperRuns && s.coreOn && (decide (125 ≤ temp) || late) then
      (s.raiseKeeper Ev.POWER_THERMAL_TRIP [(1, 2), (1, temp)]).loseCore.cutFrom 1
    else s

/-- In OFF with the keeper sensors below 70 °C the H9 releases its drive (R490, R491). -/
def execThermTripRelease (temp : Nat) (s : State) : Host.Outcome State Fault Refusal :=
  .next <|
    if s.keeperRuns && !s.coreOn && decide (temp < 70) && (s.keeper.thermDriven || (s.input 2).stuck) then
      ({ s with keeper.thermDriven := false, keeper.thermAt := none
                keeper.outputs := AMap.set s.keeper.outputs 0x11 false }).tryPowerUp false
    else s

/-- The THERM_TRIP_N ball reads high again: a start that waits may begin (R490, Table 22-2 step 3). -/
def execThermTripNReleased (s : State) : Host.Outcome State Fault Refusal :=
  .next <|
    if s.keeperRuns && !s.keeper.thermDriven then
      ({ s with keeper.thermInput := false }.setInput 2 { s.input 2 with active := false }).tryPowerUp false
    else s

/-- How long an input must stay active to be stuck (Table 25-2); the feeds have no stuck time. -/
def stuckTime : Nat → Option Nat
  | 1 => some (sec 10) | 2 => some (sec 600) | 5 => some (ms 100) | 6 => some (sec 2) | _ => none

/-- An input stays active past its stuck time after an accepted assertion: STUCK and masked (R489). THERM_TRIP_N counts in OFF
only; a PTP_PPS_IN without a rising edge for 2 s is absent, and the time unit goes into holdover (R351). -/
def execInputStuckTimer (code : Nat) (s : State) : Host.Outcome State Fault Refusal :=
  .next <|
    let i := s.input code
    let since := if code = 6 then s.time.lastPps.getD 0 else i.since
    if s.keeperRuns && !s.inputMasked code && (i.active || code == 6) && due s.now ((stuckTime code).map (· + since))
        && (code != 2 || s.rd R.KEEPER_STATUS_SEQ_STATE == 0) && (code != 6 || s.rd R.DOMAIN_TIME_CTRL_SOURCE == 1) then
      let s := (s.setInput code { i with stuck := true }).raiseKeeper Ev.POWER_INPUT_STUCK [(1, code), (1, 0)]
      if code = 6 then { s with time.lastSync := none } else s
    else s

/-- A STUCK or CHATTERING input has been quiet long enough (R489); a feed has been OK for 60 s without a loss. -/
def execInputUnmask (code : Nat) (s : State) : Host.Outcome State Fault Refusal :=
  .next <|
    if s.keeperRuns && decide (1 ≤ code ∧ code ≤ 6) && s.inputMasked code then
      let s := s.setInput code inputIdle
      if code = 3 ∨ code = 4 then
        let a := code == 3
        let s := (s.wr (fFeedState a) 1).driveFeeds.raiseKeeper Ev.POWER_FEED_RESTORED [(1, feedNumber a)]
        if s.rd R.KEEPER_STATUS_SEQ_STATE = 0 && s.keeper.retryAt.isNone then
          { s with keeper.waitStart := true }.tryPowerUp false
        else s
      else s
    else s

/-- A sideband output disagrees with its driven level for 100 µs (R492, Table 25-4). -/
def execOutputReadbackMismatch (code : Nat) (readsHigh : Bool) (s : State) : Host.Outcome State Fault Refusal :=
  .next <|
    let driven := (AMap.get? s.keeper.outputs code).getD false
    if s.keeperRuns && code == 0x16 && s.inGap && driven != readsHigh then { s with keeper.indFault := some readsHigh }
    else if s.keeperRuns && decide (0x11 ≤ code ∧ code ≤ 0x17) && driven != readsHigh then
      let s := s.raiseKeeper Ev.POWER_INPUT_STUCK [(1, code), (1, if readsHigh then 2 else 1)]
      if code = 0x12 && !readsHigh then { s with keeper.feedA.badEn := true }.driveFeeds
      else if code = 0x13 && !readsHigh then { s with keeper.feedB.badEn := true }.driveFeeds
      else if code = 0x14 then
        if readsHigh then ({ s with keeper.holdup.stopped := true }).recomputeBudget else s.abortHoldupTest 5
      else s
    else s

/-- A reference clock shows no edge for 1 µs (R494, Table 25-6). -/
def execRefclkLost (code : Nat) (s : State) : Host.Outcome State Fault Refusal :=
  .next <|
    if s.keeperRuns && decide (0x21 ≤ code ∧ code ≤ 0x24) && !s.keeper.clocksLost.contains code then
      let s := ({ s with keeper.clocksLost := s.keeper.clocksLost ++ [code] }).raiseKeeper Ev.POWER_INPUT_STUCK
        [(1, code), (1, 3)]
      let s := if code = 0x24 then { s with time.onDdrClock := true } else s
      if !s.coreOn then s
      else match code with
        | 0x21 => ((List.range 16).foldl (fun s n => (s.port n).links.foldl (fun s e => s.setLink n e.1 0) s) s).brazeDown
        | 0x22 => s.dropRings.orphanCommands
        | 0x23 => if s.save.active || !s.start.fwDone then s else s.startSave 6 .restart none none none
        | _ => s.setSynced false
    else s

/-- A lost reference clock shows 1 ms of valid edges (R494). -/
def execRefclkRegained (code : Nat) (s : State) : Host.Outcome State Fault Refusal :=
  .next <|
    if s.keeperRuns && s.keeper.clocksLost.contains code then
      let s := { s with keeper.clocksLost := s.keeper.clocksLost.filter (· != code) }
      if code = 0x24 then { s with time.onDdrClock := false }
      else if code = 0x21 then s.brazeRetrain else s
    else s

/-- In SMBus mode the H9 releases a management bus held low for 25 ms (R493, Table 25-5). -/
def execMgmtBusHeldLow (s : State) : Host.Outcome State Fault Refusal :=
  .next (if s.keeperRuns && !s.keeper.mboxI3c then s.send .mgmtBusReleased else s)

end Sys2Proof.Machine
end

