-- ==== Sys2Proof/Machine/Registers.lean ====
section
/-! DEFINITION. Register accesses: reads with their live views and captures, writes with what each register does when it is
written (R2, R6, R462 to R475), and the rows that are register accesses. -/

namespace Sys2Proof.Machine

open Sys2Proof

/-! ### Reads -/

/-- The instance of a field that the word at `off` belongs to, and which half of its pair that word is. -/
def Fld.hit (f : Fld) (off : Nat) : Option (Nat × Nat) :=
  if off < f.off then none
  else
    let d := off - f.off
    let n := if f.stride = 0 then 0 else d / f.stride
    let r := if f.stride = 0 then d else d % f.stride
    if n < f.count ∧ r % 4 = 0 ∧ r / 4 < ceilDiv f.width 32 then some (n, r / 4) else none

/-- What the stored fields of the word at `off` read as; a WO field reads 0, and reserved bits read 0 (R2, R462). -/
def State.storedWord (s : State) (off : Nat) : Nat :=
  R.allFields.foldl (fun w f =>
    match f.acc, Fld.hit f off with
    | .wo, _ => w
    | _, some (n, h) => w + s.rdN f n / 2 ^ (32 * h) % 2 ^ (min 32 f.width) * 2 ^ f.lo
    | _, none => w) 0

/-- Bits set where their conditions hold: bit `i` for the `i`-th. -/
def bitsOf : List Bool → Nat
  | [] => 0
  | b :: bs => (if b then 1 else 0) + 2 * bitsOf bs

/-- GLOBAL_INTERLOCK, from bit 0 up (Table 23-3, R468). -/
def State.interlock (s : State) : Nat :=
  bitsOf [!s.inService, s.rd R.LIFE_STATE_DEBUG == 2, !s.isActive, decide (s.start.step < 11),
    s.rd R.DUR_RESTORE_STATUS_PHASE == 5, s.save.active, s.rd R.LIFE_STATE_POWER == 2,
    !s.on R.CERGA_CTRL_ENABLE && !s.on R.ROCE_CTRL_ENABLE,
    (List.range 16).all (fun n => s.rdN R.PORT_CTRL_ENABLE n != 1 || s.rdN R.PORT_STATUS_LINK n != 2)]

/-- GLOBAL_STATUS.SERVING (R468). -/
def State.servingBit (s : State) : Bool := s.coreOn && s.interlock == 0

/-- Time left until `t` in units of `u`, at most 65,535. -/
def leftIn (now u : Nat) : Option Nat → Nat
  | some t => min 65535 ((t - now) / u)
  | none => 0

/-- KEEPER_FLASH_STATUS as a path sees its own operation (R419). -/
def State.flashStatusBits (s : State) (p : Path) : Nat :=
  let w := s.windowPath p
  (if w.busy then 2 ^ 31 else 0) + w.op * 2 ^ 28 + w.error * 2 ^ 24

/-- The account shown by METER_PEEK, in the last settled window (R327). -/
def State.peek (s : State) (n : Nat) : Nat :=
  match s.meter.last with
  | some w => ((AMap.get? w.charges (s.rd R.METER_PEEK_SEL_ACCOUNT)).bind (fun c => AMap.get? c.counters n)).getD 0
  | none => 0

/-- A half of a 64-bit value: the upper one at an offset whose bit 2 is set. -/
def halfAt (off v : Nat) : Nat := if off / 4 % 2 = 1 then v / 2 ^ 32 % 2 ^ 32 else v % 2 ^ 32

/-- MGR_REACHABLE and WITNESSES_OK of DOMAIN_STATUS (R339, R342). -/
def State.domainBits (s : State) : Nat :=
  let reach := match s.domain.lastAnswer with
    | some t => decide (s.now ≤ t + ms (s.rd R.DOMAIN_CTRL_UNREACH_MS))
    | none => false
  (if reach then 2 ^ 26 else 0) + (s.domain.witnesses.filter s.memberReachable).length % 4 * 2 ^ 24

/-- Fields of the word at `off` that are computed when it is read: GLOBAL_STATUS, GLOBAL_DEVICE_ID, GLOBAL_OWN_MAC, MSIX
fields apart, the ages and times left, and what depends on the path. -/
def State.liveBits (s : State) (p : Path) (off : Nat) : Nat :=
  if off = 0x8 ∨ off = 0xC then halfAt off (identityDigest % 2 ^ 64)
  else if off = 0x14 then
    (if s.servingBit then 2 ^ 30 else 0) + (if s.save.active then 2 ^ 29 else 0) + s.rd R.LIFE_STATE_POWER * 2 ^ 26
  else if off = 0x50 then Config.ownMac % 2 ^ 32
  else if off = 0x54 then Config.ownMac / 2 ^ 32 % 65536
  else if off = 0xE0014 then
    match s.keeper.holdup.lastValid with
    | some t => min 65535 ((s.now - t) / sec 60)
    | none => 0
  else if off = 0xE0018 then if s.inputStale then 2 ^ 22 else 0
  else if off = 0xF001C then leftIn s.now (us 100) (if s.twin.holder then s.twin.leaseEnd else s.twin.viewEnd)
  else if off = 0x14000C then Config.factoryRepairs % 4096 * 2 ^ 20
  else if off = 0x150008 then s.domainBits
  else if off = 0x160018 ∨ off = 0x16001C then halfAt off ((s.meter.last.map (·.start)).getD 0)
  else if 0x160100 ≤ off ∧ off < 0x160180 then halfAt off (s.peek ((off - 0x160100) / 8))
  else if off = 0x190028 then (s.windowPath p).page
  else if off = 0x19002C then s.flashStatusBits p
  else if off = 0x1B0004 then
    min 65535 s.hub.held.length * 2 ^ 16
      + bitsOf ((List.range 8).map (fun m => s.ringState .ev m == 1 && s.ringFull .ev m)) * 2 ^ 8
  else 0

/-- A doorbell reads as HOST_INDEX (Table 14-2, R471). -/
def State.doorbellWord (s : State) (off : Nat) : Nat :=
  let page := (off - 0x20000) / 4096
  let o := off % 4096
  if o = 0 then s.rdN (fHostIndex .cmd) page
  else if o = 4 then s.rdN (fHostIndex .cpl) page
  else if page = 0 ∧ 0x100 ≤ o ∧ o < 0x120 then s.rdN (fHostIndex .ev) ((o - 0x100) / 4)
  else if page = 0 ∧ 0x120 ≤ o ∧ o < 0x130 then s.rdN (fHostIndex .ex) ((o - 0x120) / 4)
  else 0

def State.msixEntry (s : State) (v : Nat) : MsixEntry := (AMap.get? s.msix v).getD ⟨0, 0, true, false, none⟩

/-- A word of the MSIX block (Table 23-6). -/
def State.msixWord (s : State) (o : Nat) : Nat :=
  if o < 0x8000 then
    let e := s.msixEntry (o / 16)
    match o / 4 % 4 with
    | 0 => e.addr % 2 ^ 32
    | 1 => e.addr / 2 ^ 32
    | 2 => e.data
    | _ => if e.masked then 1 else 0
  else if o < 0x8100 then bitsOf ((rangeFrom ((o - 0x8000) * 8) 32).map (fun v => (s.msixEntry v).pending))
  else 0

/-- The word a path reads at `off`, without a capture and without the flash window. -/
def State.wordAt (s : State) (p : Path) (off : Nat) : Nat :=
  if off = 0x18 then s.interlock
  else if 0x20000 ≤ off ∧ off < 0x60000 then s.doorbellWord off
  else if 0x60000 ≤ off ∧ off < 0x80000 then s.msixWord (off - 0x60000)
  else s.storedWord off + s.liveBits p off

/-- A word as the keeper reads its own registers. -/
def State.readWord (s : State) (off : Nat) : Nat := s.wordAt .mgmt off

/-- Whether `off` is half `h` of a 64-bit RO pair. -/
def roHalf (h off : Nat) : Bool :=
  R.allFields.any (fun f => f.acc == .ro && f.width == 64 && (Fld.hit f off).any (fun e => e.2 == h))

/-- Where a path's capture of the pair at `lo` is kept. -/
def captureKey (p : Path) (lo : Nat) : Nat := lo * 2 + (match p with | .pcie => 0 | .mgmt => 1)

/-- A read of one aligned word by a path: a window read, the capture of a _LO, the captured half for the next _HI (R464), or
the live word. -/
def State.readPath (s : State) (p : Path) (off : Nat) : Nat × State :=
  if 0x198000 ≤ off ∧ off < 0x1A0000 then s.windowRead p (off - 0x198000)
  else if roHalf 0 off then
    let s := if off = 0xE0058 then s.countThrottle else s
    (s.wordAt p off, { s with captures := AMap.set s.captures (captureKey p off) (s.wordAt p (off + 4)) })
  else if roHalf 1 off then
    match AMap.get? s.captures (captureKey p (off - 4)) with
    | some v => (v, { s with captures := AMap.del s.captures (captureKey p (off - 4)) })
    | none => (s.wordAt p off, s)
  else (s.wordAt p off, s)

/-! ### Writes -/

/-- The value of the field that an `atLeast` bound names: ELEVATE_PCT for NEAR_PCT, UV_DV for OK_DV. -/
def State.lowerOf (s : State) (f : Fld) : Nat :=
  match f.fix with
  | .atLeast 0 _ _ => s.rd R.DUR_THRESH_ELEVATE_PCT
  | .atLeast _ _ _ => s.rd R.KEEPER_FEED_CFG_UV_DV
  | _ => 0

/-- The bits a word carries for a field, before R6. -/
def fieldBits (f : Fld) (v : Nat) : Nat := v / 2 ^ f.lo % 2 ^ (min 32 f.width)

/-- Writes a word to one field under its access code: RW under R6, a half of an RW pair, W1C (R2). -/
def State.storeField (s : State) (f : Fld) (n h v : Nat) : State :=
  let x := fieldBits f v
  match f.acc with
  | .rw =>
    if f.width ≤ 32 then s.wrN f n (Fld.fixed f (s.lowerOf f) x)
    else
      let old := s.rdN f n
      s.wrN f n (if h = 0 then old / 2 ^ 32 * 2 ^ 32 + x else x * 2 ^ 32 + old % 2 ^ 32)
  | .w1c => s.wrN f n (s.rdN f n ^^^ (s.rdN f n &&& x))
  | _ => s

/-- A rail's STEP and NOMINAL_MV that Table 19-1 fixes: those of rails 0 to 11 are read-only. -/
def fixedRailField (f : Fld) (n : Nat) : Bool :=
  decide (n ≤ 11) && (f.off == R.KEEPER_RAIL_CFG_STEP.off && (f.lo == R.KEEPER_RAIL_CFG_STEP.lo
    || f.lo == R.KEEPER_RAIL_CFG_NOMINAL_MV.lo))

/-- Stores a word in the fields it holds, from the highest bits down as the register map lists them. -/
def State.storeWord (s : State) (off v : Nat) : State :=
  R.allFields.foldl (fun s f =>
    match Fld.hit f off with
    | some (n, h) => if fixedRailField f n then s else s.storeField f n h v
    | none => s) s

/-- How many fields of a word R6 moves. -/
def State.clampsOf (s : State) (off v : Nat) : Nat :=
  (R.allFields.filter (fun f => f.acc == .rw && decide (f.width ≤ 32) && (Fld.hit f off).isSome
    && Fld.fixed f (s.lowerOf f) (fieldBits f v) != fieldBits f v)).length

/-- GLOBAL_RESET (R470). -/
def State.disarm (s : State) : State := { s.wr R.GLOBAL_STATUS_RESET_ARMED 0 with armedEnd := none }
@[inherit_doc State.disarm] def State.arm (s : State) : State :=
  if s.save.active then s else { s.wr R.GLOBAL_STATUS_RESET_ARMED 1 with armedEnd := some (s.now + ms 1) }
@[inherit_doc State.disarm] def State.fire (s : State) : State :=
  if s.save.active || !s.on R.GLOBAL_STATUS_RESET_ARMED then s
  else s.disarm.startSave 3 .restart none none none
@[inherit_doc State.disarm] def State.resetKey (s : State) (v : Nat) : State :=
  if v = 0xA55A then s.arm else if v = 0x5AA5 then s.fire else s.disarm

/-- A service address field: in force at once, and announced by the holder outside a switch-over gap (R469, R475). -/
def State.writeService (s : State) (off v : Nat) : State :=
  let s := s.storeWord off v
  if s.isActive && !s.inGap && s.start.presented && !s.save.active then
    s.startAnnounce
  else s

/-- The ring whose group a RING offset lies in (Table 23-4). -/
def ringGroup (off : Nat) : Option (RingKind × Nat) :=
  let o := off - 0x10000
  if o < 0x800 then some (.cmd, o / 32)
  else if o < 0x1000 then some (.cpl, (o - 0x800) / 32)
  else if o < 0x1100 then some (.ev, (o - 0x1000) / 32)
  else if o < 0x1180 then some (.ex, (o - 0x1100) / 32)
  else none

/-- A write to a ring's group: BASE, SIZE_LOG2, VECTOR and CPL_RING only while DISABLED, and ENABLE as R303 and R318 say
(R471). A save leaves ENABLE as it is (R466). Clamps of the set-up fields are counted (Table 14-8). -/
def State.writeRing (s : State) (off v : Nat) : State :=
  match ringGroup off with
  | none => s
  | some (k, n) =>
    let o := off % 32
    let taken := if o ≤ 8 then s.ringState k n == 0 else true
    let s := if taken then s.clamped (s.clampsOf off v) else s
    if o < 8 then (if s.ringState k n = 0 then s.storeWord off v else s)
    else if o = 8 then
      let was := s.rdN (fEnable k) n
      let s := if s.ringState k n = 0 then (s.storeWord off v).wrN (fEnable k) n was else s
      if s.save.active then s
      else if v / 2 ^ 31 % 2 = 1 then s.startRing k n else s.stopRing k n
    else s.storeWord off v

/-- A doorbell (Table 14-2). -/
def State.writeDoorbell (s : State) (off v : Nat) : State :=
  let page := (off - 0x20000) / 4096
  let o := off % 4096
  if o = 0 then s.doorbell .cmd page v
  else if o = 4 then s.headDoorbell .cpl page v
  else if page = 0 ∧ 0x100 ≤ o ∧ o < 0x120 then (s.headDoorbell .ev ((o - 0x100) / 4) v).drainHub
  else if page = 0 ∧ 0x120 ≤ o ∧ o < 0x130 then
    (s.headDoorbell .ex ((o - 0x120) / 4) v).drainExports ((o - 0x120) / 4)
  else s

/-- A write to the MSI-X table; unmasking a pending vector sends its message (R314, R472). -/
def State.writeMsix (s : State) (o v : Nat) : State :=
  if o < 0x8000 then
    let k := o / 16
    let e := s.msixEntry k
    let e := match o / 4 % 4 with
      | 0 => { e with addr := e.addr / 2 ^ 32 * 2 ^ 32 + v }
      | 1 => { e with addr := v * 2 ^ 32 + e.addr % 2 ^ 32 }
      | 2 => { e with data := v }
      | _ => { e with masked := v % 2 == 1 }
    let s := { s with msix := AMap.set s.msix k e }
    if !e.masked && e.pending then
      { s with msix := AMap.set s.msix k { e with pending := false } }.send (.msix k e.addr e.data)
    else s
  else s

/-- KEEPER_CTRL.COMMIT: every RW field of KEEPER_WIN and FW_CTRL.TRIAL_TIMEOUT_S go to the keeper settings area (R417, R448). -/
def State.commitKeeper (s : State) : State :=
  let keys := R.FW_CTRL_TRIAL_TIMEOUT_S.key 0 ::
    ((R.fieldsKEEPER.filter (fun f => f.acc == .rw)).map (fun f => (List.range f.count).map (fun n => f.key n))).flatten
  { s with keeper.flash.settings := s.regs.filter (fun e => keys.contains e.1) }

/-- A word of CIPHER_KEY_n (R363). -/
def State.writeKeyWord (s : State) (n v : Nat) : State :=
  { s with keyRegs := AMap.set s.keyRegs n v }.wr R.CIPHER_KEY_WORDS_WRITTEN (s.rd R.CIPHER_KEY_WORDS_WRITTEN ||| 2 ^ n)

/-- DUMMY_LEVEL 0 is taken as 1 in IN_SERVICE (Table 17-10). -/
def State.keepDummies (s : State) : State :=
  if s.inService && s.rd R.CIPHER_CTRL_DUMMY_LEVEL == 0 then s.wr R.CIPHER_CTRL_DUMMY_LEVEL 1 else s

/-- A write to a register of the keeper's window block (R417, R419, R429). -/
def State.writeKeeperWin (s : State) (p : Path) (off v : Nat) : State :=
  if 0x198000 ≤ off then s.windowWrite p (off - 0x198000) v
  else
    let t := s.storeWord off v
    if off = 0x190000 then (if v / 2 ^ 31 % 2 = 1 then t.commitKeeper.writeCopy 7 else t)
    else if off = 0x190008 ∧ !s.save.active then t.driveFeeds
    else if off = 0x190028 then s.setWindowPath p { s.windowPath p with page := v % 512 }
    else if off = 0x190044 then s.selectRecord v
    else t

/-- NEAR_CTRL: MAX_LOCK_WAYS, and ENABLE 0 or 1, any other code taken as 1 (R209, R215). A save leaves ENABLE as it is. -/
def State.writeNearCtrl (s : State) (v : Nat) : State :=
  let s := s.wr R.NEAR_CTRL_MAX_LOCK_WAYS (clampTo 0 12 (v / 256 % 16))
  if s.save.active then s else if v % 4 = 0 then s.disableNear else s.enableNear

/-- DOMAIN_PAIR is ignored while the pair is a member (R336). -/
def State.writeDomainPair (s : State) (v : Nat) : State :=
  if s.rd R.DOMAIN_STATUS_STATE = 2 then s else s.storeWord 0x150004 v

/-- A write to the core's blocks (every block but PACE, LIFE and KEEPER_WIN). -/
def State.writeCore (s : State) (off v : Nat) : State :=
  if off = 0x1C then s.resetKey v
  else if 0x30 ≤ off ∧ off < 0x50 then s.writeService off v
  else if 0x10000 ≤ off ∧ off < 0x20000 then s.writeRing off v
  else if 0x20000 ≤ off ∧ off < 0x60000 then s.writeDoorbell off v
  else if 0x60000 ≤ off ∧ off < 0x80000 then s.writeMsix (off - 0x60000) v
  else if 0x90000 ≤ off ∧ off < 0xA0000 ∧ off % 4096 = 0 then s.writePortCtrl ((off - 0x90000) / 4096) v
  else if off = 0xD0000 then s.writeNearCtrl v
  else if off = 0xE0004 then
    (if s.coreOn && s.start.tablesDone && !s.save.active then (s.storeWord off v).compareD else s.storeWord off v)
  else if off = 0x100004 then s.writeStage (v % 16384)
  else if off = 0x150004 then s.writeDomainPair v
  else if 0x170020 ≤ off ∧ off < 0x170040 then s.writeKeyWord ((off - 0x170020) / 4) v
  else if off = 0x170000 then (s.storeWord off v).keepDummies
  else if 0x1B0100 ≤ off ∧ !s.save.active then (s.storeWord off v).drainHub
  else s.storeWord off v

/-- Whether a path reaches registers now: PCIe while the core is powered and, in a save, until step 4 (R450, R466). -/
def State.reaches (s : State) (p : Path) (off : Nat) : Bool :=
  match p with
  | .mgmt => s.keeperRuns
  | .pcie => s.coreOn && !(s.save.active && decide (4 ≤ s.save.step))
      && (s.keeperRuns || !(decide (0x80000 ≤ off ∧ off < 0x90000) || decide (0x180000 ≤ off ∧ off < 0x1A0000)))

/-- A whole-word write by a path (R2, R463). -/
def State.writePath (s : State) (p : Path) (off v : Nat) : State :=
  let v := v % 2 ^ 32
  if off % 4 ≠ 0 ∨ !s.reaches p off then s
  else if 0x190000 ≤ off ∧ off < 0x1A0000 then s.writeKeeperWin p off v
  else s.writeCore off v

/-! ### Rows -/

/-- REGISTER_WRITE over PCIe; `full` says that all byte enables are set (R463). -/
def execRegisterWrite (off v : Nat) (full : Bool) (s : State) : Host.Outcome State Fault Refusal :=
  .next <|
    if full then s.writePath .pcie off v
    else if s.reaches .pcie off then s.wr R.GLOBAL_STATUS_ACCESS_ERR 1 else s

/-- COUNTER_PAIR_CAPTURE: a read of the word at `off` by a path (R464). -/
def execCounterPairCapture (p : Path) (off : Nat) (s : State) : Host.Outcome State Fault Refusal :=
  .next (if s.reaches p off && off % 4 == 0 then (s.readPath p off).2 else s)

/-- GLOBAL_RESET_ARM (R470). -/
def execGlobalResetArm (s : State) : Host.Outcome State Fault Refusal :=
  .next (if s.reaches .pcie 0x1C then s.arm else s)

/-- GLOBAL_RESET_FIRE (R470). -/
def execGlobalResetFire (s : State) : Host.Outcome State Fault Refusal :=
  .next (if s.reaches .pcie 0x1C then s.fire else s)

/-- RESET_ARM_EXPIRY (R470). -/
def execResetArmExpiry (s : State) : Host.Outcome State Fault Refusal :=
  .next (if s.coreOn && due s.now s.armedEnd then s.disarm else s)

/-- SVC_ADDRESS_WRITE: `off` is one of the SVC registers of Table 23-2 (R469). -/
def execSvcAddressWrite (off v : Nat) (s : State) : Host.Outcome State Fault Refusal :=
  .next (if 0x30 ≤ off ∧ off < 0x50 then s.writePath .pcie off v else s)

/-- KEEPER_COMMIT: a write to KEEPER_CTRL with COMMIT set, and RESTART_HOLD_100MS and RETURN_10MS from the same word (R417). -/
def execKeeperCommit (p : Path) (v : Nat) (s : State) : Host.Outcome State Fault Refusal :=
  .next (s.writePath p 0x190000 (v % 2 ^ 31 + 2 ^ 31))

/-- ARP_REQUEST: a port or sub-port whose LINK is UP answers for its own address with its own MAC, and for the service address
with the service MAC while this H9 holds the token (R469). `port` is 4 × port + sub-port. -/
def execArpRequest (port : Nat) (ipv6 : Bool) (addr : Nat) (s : State) : Host.Outcome State Fault Refusal :=
  .next <|
    let n := port / 4
    let word (f : Fld) (g : Fld) : Nat :=
      if ipv6 then (List.range 4).foldl (fun a i => a * 2 ^ 32 + s.rdN g i) 0 else s.rd f
    if !s.coreOn || s.rdN R.PORT_CTRL_ENABLE n != 1 || decide (16 ≤ n) || (s.port n).link (port % 4) != 2 then s
    else
      let s := s.wrN R.PORT_RX_FRAMES n (s.rdN R.PORT_RX_FRAMES n + 1)
      if addr = 0 then s
      else if addr = word R.GLOBAL_OWN_IP4_ADDR R.GLOBAL_OWN_IP6_ADDR then
        (s.countTx port).send (.arpReply port (Config.ownMac + port) addr)
      else if s.twin.holder && !s.twin.stopped && !s.inGap && addr == word R.GLOBAL_SVC_IP4_ADDR R.GLOBAL_SVC_IP6_ADDR then
        (s.countTx port).send (.arpReply port (s.rd R.GLOBAL_SVC_MAC_HI_MAC * 2 ^ 32 + s.rd R.GLOBAL_SVC_MAC_LO_MAC) addr)
      else s

end Sys2Proof.Machine
end

