-- ==== Sys2Proof/Machine/FirmwareUpdate.lean ====
section
/-! DEFINITION. Firmware packages, slots, trial starts, settings blobs and core supervision (R436 to R447). -/

namespace Sys2Proof.Machine

open Sys2Proof

/-- The slot's state code (Table 21-3); slot A is 0. -/
def fSlot (b : Nat) : Fld := if b = 0 then R.FW_STATUS_SLOT_A else R.FW_STATUS_SLOT_B
def State.slotPackage (s : State) (b : Nat) : Option Package := if b = 0 then s.fw.slotA else s.fw.slotB
def State.setSlotPackage (s : State) (b : Nat) (p : Option Package) : State :=
  if b = 0 then { s with fw.slotA := p } else { s with fw.slotB := p }

/-- R439: every component's SVN is at or above its floor, FUSE_EPOCH at or above the fuse epoch, and the digest of the signing keys is
Lisigor's. -/
def State.fresherThanFloors (s : State) (p : Package) : Bool :=
  p.components.all (fun c => decide (s.rdN R.FW_FLOOR_SVN (c.type - 1) ≤ c.svn))
    && decide (s.rd R.FW_OTP_EPOCH ≤ p.fuseEpoch) && p.keysDigest == Config.lisigorDigest

/-- FLAGS.TEST of a package. -/
def Package.test (p : Package) : Bool := p.flags % 2 == 1

/-- The AES-256-GCM key of a component image (R438). -/
def imageKey (type svn : Nat) : Nat := kdfKey Config.firmwareRootKey "FW-IMAGE" (beBytes 1 type ++ beBytes 4 svn)

/-- The plaintext of a component image. A TEST package may carry it in clear, with IV and TAG 0 (R438). -/
def Component.plain (p : Package) (c : Component) : List Byte :=
  if Package.test p && c.iv == 0 && c.tag == 0 then c.image else gcmCrypt (imageKey c.type c.svn) c.iv 2 c.image

/-- A component's tag and digest verify (R437, R438). -/
def Component.verifies (p : Package) (c : Component) : Bool :=
  ((Package.test p && c.iv == 0 && c.tag == 0) || leNat (gcmTag (imageKey c.type c.svn) c.iv (Package.head p) c.image) == c.tag)
    && sha384 (Component.plain p c) == c.digest

/-- Where a component may lie, and how long the image of type 1 may be (R437). -/
def Component.fits (c : Component) : Bool := c.offset % 4096 == 0 && (c.type != 1 || decide (c.image.length ≤ 4 * 2 ^ 20))

/-- A package verifies (R437, R438): its manifest, signatures and keys' digest, five components, and TEST only in BLANK with DBG2. -/
def State.packageVerifies (s : State) (p : Package) : Bool :=
  p.magic == 0x394C5346 && p.version == 1 && decide (p.flags < 2) && p.count == 5 && p.signed && p.keysDigest == Config.lisigorDigest
    && p.components.map (·.type) == [1, 2, 3, 4, 5] && p.components.all Component.fits && p.components.all (Component.verifies p)
    && decide (p.fuseEpoch ≤ 64 ∧ p.length ≤ 64 * 2 ^ 20)
    && (!Package.test p || (s.rd R.LIFE_STATE_LIFECYCLE == 0 && s.rd R.LIFE_STATE_DEBUG == 2))

/-- Records the reason and component of a firmware refusal or load failure (FW_LAST_ERROR). -/
def State.fwError (s : State) (reason comp : Nat) : State :=
  (s.wr R.FW_LAST_ERROR_REASON reason).wr R.FW_LAST_ERROR_COMPONENT comp

/-- The slot FW_STAGE fills: the one that is neither COMMITTED nor TRIAL (R441). -/
def State.stageSlot (s : State) : Nat := if s.rd R.FW_STATUS_SLOT_A == 3 || s.rd R.FW_STATUS_SLOT_A == 2 then 1 else 0

/-- The first component below its floor, for FW_LAST_ERROR. -/
def State.rolledBack (s : State) (p : Package) : Nat :=
  ((p.components.find? (fun c => decide (c.svn < s.rdN R.FW_FLOOR_SVN (c.type - 1)))).map (·.type)).getD 0

/-- The keeper writes a slot's manifest sector and keeper firmware slot anew (R440, Table 20-1). -/
def State.writeKeeperSlot (s : State) (b : Nat) : State :=
  if b = 0 then (s.eraseArea 41 1).eraseArea 43 64 else (s.eraseArea 42 1).eraseArea 107 64

/-- FW_STAGE (R441, R446, R447): refused BAD_PARAM for an unaligned HOST_ADDR (R306), TRIAL_PENDING while a slot is TRIAL, BAD_IMAGE above
64 MiB; a package that does not verify leaves the overwritten slot EMPTY. -/
def execFwStage (r : CmdRef) (host length : Nat) (p : Package) (s : State) : Host.Outcome State Fault Refusal :=
  .next <| s.command r 0x0801 fun c s =>
    if host % 64 != 0 then s.refuse c.id Why.BAD_PARAM
    else if s.trialPending then (s.fwError Why.TRIAL_PENDING 0).refuse c.id Why.TRIAL_PENDING
    else if 64 * 2 ^ 20 < length then (s.fwError Why.BAD_IMAGE 0).refuse c.id Why.BAD_IMAGE
    else
      let b := s.stageSlot
      let s := ((s.wr (fSlot b) 0).setSlotPackage b none).writeKeeperSlot b
      if !s.packageVerifies p then
        let bad := ((p.components.find? (fun c => !Component.verifies p c)).map (·.type)).getD 0
        (s.fwError Why.BAD_IMAGE bad).refuse c.id Why.BAD_IMAGE
      else if !s.fresherThanFloors p then (s.fwError Why.ROLLBACK (s.rolledBack p)).refuse c.id Why.ROLLBACK
      else ((s.wr (fSlot b) 1).setSlotPackage b (some p)).finish c.id St.DONE

/-- FW_ACTIVATE (R441, R447): a STAGED slot becomes TRIAL, or the COMMITTED slot is chosen back and the TRIAL slot becomes
STAGED; a save with trigger 3 follows, and the command completes at its step 1. -/
def execFwActivate (r : CmdRef) (slot : Nat) (s : State) : Host.Outcome State Fault Refusal :=
  .next <| s.command r 0x0802 fun c s =>
    if 1 < slot then s.refuse c.id Why.BAD_PARAM
    else
      let code := s.rd (fSlot slot)
      let other := s.rd (fSlot (1 - slot))
      let q := s.nextSaveSeq
      if code = 1 then
        match s.slotPackage slot with
        | none => (s.fwError Why.NOT_STAGED 0).refuse c.id Why.NOT_STAGED
        | some p =>
          if s.fresherThanFloors p then
            ((s.wr (fSlot slot) 2).startSave 3 .restart (some c.tag) none (some slot)).endCmd c.id St.DONE 0 q
          else (s.fwError Why.ROLLBACK (s.rolledBack p)).refuse c.id Why.ROLLBACK
      else if code = 3 ∧ other = 2 then
        ((s.wr (fSlot (1 - slot)) 1).startSave 3 .restart (some c.tag) none (some slot)).endCmd c.id St.DONE 0 q
      else (s.fwError Why.NOT_STAGED 0).refuse c.id Why.NOT_STAGED

/-- FW_COMMIT of the running TRIAL slot (R441): floors, fuses, slot states, and the release of the old settings blob. -/
def execFwCommit (r : CmdRef) (s : State) : Host.Outcome State Fault Refusal :=
  .next <| s.command r 0x0803 fun c s =>
    let b := s.rd R.FW_STATUS_RUN_SLOT
    match s.slotPackage b with
    | some p =>
      if s.rd (fSlot b) = 2 ∧ !s.on R.FW_STATUS_RECOVERY then
        let s := p.components.foldl (fun s k => s.wrN R.FW_FLOOR_SVN (k.type - 1) k.svn) s
        let s := s.writeCopy 1
        let s := s.wr R.FW_OTP_EPOCH (max (s.rd R.FW_OTP_EPOCH) p.fuseEpoch)
        let s := (s.wr (fSlot b) 3).wr (fSlot (1 - b)) 4
        (s.wr R.FW_SETTINGS_OLD_KEPT 0).finish c.id St.DONE
      else (s.fwError Why.NOT_STAGED 0).refuse c.id Why.NOT_STAGED
    | none => (s.fwError Why.NOT_STAGED 0).refuse c.id Why.NOT_STAGED

/-! ### The load at a start (Table 21-4) -/

/-- The slots to try, in order: TRIAL, then COMMITTED, then the other acceptable one (R442). -/
def State.slotOrder (s : State) : List Nat :=
  let ok := [0, 1].filter (fun b => match s.slotPackage b with
    | some p => s.fresherThanFloors p && s.rd (fSlot b) != 0 && s.rd (fSlot b) != 5
    | none => false)
  ok.filter (fun b => s.rd (fSlot b) == 2) ++ ok.filter (fun b => s.rd (fSlot b) == 3)
    ++ ok.filter (fun b => s.rd (fSlot b) != 2 && s.rd (fSlot b) != 3)

/-- Makes a settings slot live. -/
def State.setLive (s : State) (b : Nat) : State :=
  let s := (s.wr R.FW_SETTINGS_LIVE_SLOT b).wr R.KEEPER_FLASH_STATUS_SETTINGS_LIVE b
  s.wr R.FW_SETTINGS_SCHEMA (((s.blobAt b).map (·.schema)).getD 0)

/-- The settings slot that is live at a start: of the slots whose blob is whole and has a SCHEMA that the image knows, the one with the
higher SEQ (assumption log 206). -/
def State.chooseLive (s : State) (schema : Nat) : Option (Nat × Settings) :=
  let usable (b : Nat) : Option (Nat × Settings) := (s.blobAt b).bind (fun x => if x.schema ≤ schema then some (b, x) else none)
  match usable 0, usable 1 with
  | some x, some y => some (if x.2.seq < y.2.seq then y else x)
  | some x, none => some x
  | none, y => y

/-- Step 4 of Table 21-4: migrates the live blob where its SCHEMA is below the manifest's, with the image's result `migrated`,
and writes every entry to its register; with no whole blob the reset values stand and SETTINGS_BAD is raised (R442, R444).
Clamps are counted under R315. -/
def State.applySettings (s : State) (schema : Nat) (migrated : List (Nat × Nat)) : State :=
  match s.chooseLive schema with
  | none => s.raise Ev.FIRMWARE_PACE_SETTINGS_BAD []
  | some (live, blob) =>
    let s := if blob.schema < schema then
        let s := s.writeBlob (1 - live) ⟨schema, blob.seq + 1, migrated⟩
        ((s.setLive (1 - live)).wr R.FW_SETTINGS_OLD_KEPT 1).raise Ev.FIRMWARE_PACE_SETTINGS_MIGRATED []
      else s.setLive live
    let es := if blob.schema < schema then migrated else blob.entries
    es.foldl (fun s e => (if (ringGroup e.1).isSome then s else s.clamped (s.clampsOf e.1 e.2)).writePath .pcie e.1 e.2) s

/-- The eight measurements of a start, each an SVN and a digest (R394): keeper ROM, the five components that run, the settings blob as applied
and the floors. -/
def State.measure (s : State) : State :=
  let p := if s.on R.FW_STATUS_RECOVERY then none else s.slotPackage (s.rd R.FW_STATUS_RUN_SLOT)
  let one (t : Nat) : Nat × Nat := ((p.bind (fun x => (x.components.find? (fun c => c.type == t)).map (fun c => (c.svn, c.digest)))).getD (0, 0))
  let blob := s.blobAt (s.rd R.FW_SETTINGS_LIVE_SLOT)
  let floors := ((rangeFrom 0 5).map (fun n => leBytes 4 (s.rdN R.FW_FLOOR_SVN n))).flatten
  { s with fw.measured := (0, Config.crypto 13 [0]) :: (rangeFrom 1 5).map one
      ++ [((blob.map (·.schema)).getD 0, sha384 ((blob.map Settings.bytes).getD [])), (0, sha384 floors)] }

/-- Recovery (R443): ROM loader, command ring 0 alone, no token. -/
def State.enterRecovery (s : State) : State :=
  ((s.wr R.FW_STATUS_RECOVERY 1).startFails 5).raise
    Ev.FIRMWARE_PACE_RECOVERY_MODE []

/-- A TRIAL slot did not start: it is REJECTED, the old settings blob is live again, and the event is counted (R442, R444). -/
def State.revertTrial (s : State) (b : Nat) : State :=
  let s := (s.wr (fSlot b) 5).bump R.FW_REVERTS 1
  let s := if s.on R.FW_SETTINGS_OLD_KEPT then
      (s.setLive (1 - s.rd R.FW_SETTINGS_LIVE_SLOT)).wr R.FW_SETTINGS_OLD_KEPT 0 else s
  s.raise Ev.FIRMWARE_PACE_FW_REVERTED [(1, b)]

/-- FIRMWARE_LOAD_COMPLETE: steps 2 to 5 of Table 21-4 have run, after flash step 3. `loads` says which slots' images load
and check; `migrated` is what the image's rules make of older settings. LOCK and MGMT_READY end it (R435, R442). -/
def execFirmwareLoadComplete (loads : List Nat) (migrated : List (Nat × Nat)) (s : State) :
    Host.Outcome State Fault Refusal :=
  .next <|
    if !s.coreOn || s.start.step != 7 then s
    else
      let order := s.slotOrder
      let bad := order.takeWhile (fun b => !loads.contains b)
      let s := bad.foldl (fun s b => if s.rd (fSlot b) = 2 then (s.fwError Why.BAD_IMAGE 2).revertTrial b
        else s.fwError Why.BAD_IMAGE 2) s
      let done (s : State) : State :=
        let s := s.measure
        { ((s.wr R.FW_CTRL_LOCK 1).wr R.FW_STATUS_CORES_OK 15).wr R.GLOBAL_STATUS_MGMT_READY 1 with
          start.fwDone := true, start.step := 8, fw.trialEnd := none }
      if s.rd R.GLOBAL_STRAPS_BOOT_SEL = 1 then done s.enterRecovery
      else match (order.filter loads.contains).head? with
        | none => done s.enterRecovery
        | some b =>
          match s.slotPackage b with
          | none => done s.enterRecovery
          | some p =>
            let s := ((s.wr R.FW_STATUS_RUN_SLOT b).wr R.FW_STATUS_RECOVERY 0).flag R.FW_STATUS_TEST_IMAGE (Package.test p)
            let s := s.wr R.FW_RUN_IMAGE_SVN p.imageSvn
            let s := p.components.foldl (fun s k => s.wrN R.FW_RUN_SVN_SVN (k.type - 1) k.svn) s
            done (s.applySettings p.schema migrated)

/-- A TRIAL slot has not reached step 5 within TRIAL_TIMEOUT_S of core power-up: the keeper restarts from the COMMITTED slot
(R442). -/
def execTrialTimeout (q : QuenchReport) (s : State) : Host.Outcome State Fault Refusal :=
  .next <|
    if s.keeperRuns && s.coreOn && !s.start.fwDone && due s.now s.fw.trialEnd then
      match [0, 1].find? (fun b => s.rd (fSlot b) == 2) with
      | some b => { s.revertTrial b with fw.trialEnd := none }.releaseCore q
      | none => s
    else s

/-! ### Core supervision (R436) -/

/-- A management core restarts alone: counted, and what it executed completes FAULT_INTERNAL with nothing changed. A third
restart of core 0 within 10 min makes an active with a CURRENT standby yield with cause SELF_TEST. -/
def State.restartMgmtCore (s : State) (core : Nat) (cmds : List CmdRef) : State :=
  let s := (s.bump R.FW_CORE_RESTARTS 1).raise Ev.FIRMWARE_PACE_MGMT_CORE_RESTART [(1, core)]
  let s := cmds.foldl (fun s r =>
    match s.cmds.find? (fun c => c.ring == r.ring && c.slot == r.slot && c.phase == .fetched && s.acceptable c) with
    | some c => s.endCmd c.id St.FAULT_INTERNAL 0 0
    | none => s) s
  if core = 0 then
    let l := (s.fw.coreRestarts ++ [s.now]).filter (fun t => decide (s.now ≤ t + sec 600))
    let s := { s with fw.coreRestarts := l }
    if 3 ≤ l.length && s.isActive && s.standbyCurrent then s.selfTestYield else s
  else s

/-- A management core's 1 s watchdog expires; `cmds` are the commands it was executing. -/
def execWatchdogExpiry (core : Nat) (cmds : List CmdRef) (s : State) : Host.Outcome State Fault Refusal :=
  .next (if s.coreOn && s.start.fwDone && decide (core < 4) then s.restartMgmtCore core cmds else s)

/-- A management core meets an uncorrectable error in row `row` of a macro of its memory (R284, R436). -/
def execMgmtCoreMemoryUe (core bank row : Nat) (cmds : List CmdRef) (s : State) : Host.Outcome State Fault Refusal :=
  .next <|
    if s.coreOn && s.start.fwDone && decide (core < 4) then (s.sramUe bank row).restartMgmtCore core cmds else s

end Sys2Proof.Machine
end

