-- ==== Sys2Proof/Machine/HostOps.lean ====
section
/-! DEFINITION. Commands that move data to or from host memory outside the shelf: MEMOP_READ, MEMOP_WRITE, LEDGER_READ, DIAG_READ and
HALLMARK_ISSUE (R84, R87, R310, R393, R395). -/

namespace Sys2Proof.Machine

open Sys2Proof

/-! ### MEMOP (R87, Table 4-4) -/

/-- What a host buffer gives a command that reads `n` bytes of it. -/
def hostData (d : List Byte) (n : Nat) : List Byte := d.take n ++ List.replicate (n - d.length) 0

/-- The request a MEMOP makes: one stream per command ring, with the descriptor's slot as its sequence. -/
def State.memop (s : State) (c : Cmd) (opcode pd key addr len : Nat) (data : List Byte) (host : Nat) : Request :=
  { src := .host c.ring c.id, opcode, seq := c.slot, pd := pd % 65536, key, keyBits := 64, addr, len, data, arg := host, cursor := none,
    arrived := s.time.tai, frame := 0, clamps := 0, port := 0 }

/-- Submits a MEMOP. While a yield runs it waits as an arriving request does; before the first admission of a start it completes
NOT_ACTIVE. A clamp of a request that is not denied is counted (R8). -/
def State.submitMemop (s : State) (c : Cmd) (q : Request) (clamps : Nat) : State :=
  let s := s.updCmd c.id (fun k => { k with range := (q.pd, q.addr, q.len) })
  if !s.start.admitted then s.finish c.id St.NOT_ACTIVE
  else if s.twin.yield.isSome then s.updCmd c.id (fun k => { k with phase := .fetched })
  else
    let passes : Bool := match s.checks s.isActive q (Request.hostAddr q) with | .ok _ => true | .error _ => false
    (if passes then s.clamped clamps else s).submit q

/-- MEMOP_READ. -/
def execMemopRead (r : CmdRef) (pd key addr len host : Nat) (s : State) : Host.Outcome State Fault Refusal :=
  .next <| s.command r 0x0903 (fun c s =>
    s.submitMemop c (s.memop c 1 pd key addr (min gib len) [] host) (moved (min gib len) len))

/-- MEMOP_WRITE; `data` is the host buffer. -/
def execMemopWrite (r : CmdRef) (pd key addr len host : Nat) (data : List Byte) (s : State) : Host.Outcome State Fault Refusal :=
  .next <| s.command r 0x0904 (fun c s => s.submitMemop c (s.memop c 2 pd key addr len (hostData data len) host) 0)

/-! ### LEDGER_READ (R84, R156, R458, Table 4-4) -/

/-- The records LEDGER_READ can copy: before step 10 of a start only those of KIND 3 (R458). -/
def State.readableRecords (s : State) (kind : Nat) : List LedgerRecord :=
  s.ledger.records.filter (fun r => (kind == 0 || r.kind == kind) && (decide (11 ≤ s.start.step) || r.kind == 3))

/-- Marks a run of the listed records released. -/
def releaseListed (l : List LedgerRecord) (part : List LedgerRecord) : List LedgerRecord :=
  l.map (fun r => if part.contains r then ({ r with released := true } : LedgerRecord) else r)

/-- LEDGER_READ. -/
def execLedgerRead (r : CmdRef) (host start count flags : Nat) (s : State) : Host.Outcome State Fault Refusal :=
  .next <| s.command r 0x0902 (fun c s =>
    let n := clampTo 1 69632 count
    if host % 64 != 0 then s.refuse c.id Why.BAD_PARAM
    else if s.ledger.lost then (s.clamped (moved n count)).finish c.id St.FAULT_INTERNAL
    else
      let part := ((s.readableRecords (flags / 2 % 4)).drop start).take n
      let bytes := (part.map (fun x => s.ledgerBytes x true)).flatten
      let s := if part.isEmpty then s else s.send (.hostWrite host bytes)
      let total := s.ledger.records.length
      let s := if flags % 2 = 1 then { s with ledger.records := releaseListed s.ledger.records part } else s
      (s.clamped (moved n count)).endCmd c.id St.DONE 0 (pack [(4, part.length), (4, total)]))

/-! ### DIAG_READ (R310, Table 3-3, Table 14-7) -/

/-- The 128 bits of an ETT entry. -/
def Extent.word (e : Extent) : Nat :=
  let target := if e.shelf then e.object * 2 ^ 42 + e.target / 2 ^ 17 % 32 * 2 ^ 37 + e.target % 2 ^ 17 * 2 ^ 20
    else e.target % 2 ^ 23 * 2 ^ 37
  2 ^ 127 + (if e.shelf then 2 ^ 125 else 0) + e.region * 2 ^ 107 + e.base * 2 ^ 77 + (e.len - 1) * 2 ^ 60 + target

/-- Entry `i` of the ETT, in the order of its search tree; an entry that is not in use reads as zero. -/
def State.ettEntry (s : State) (i : Nat) : List Byte :=
  leBytes 16 (match s.prot.extents[i]? with | some e => e.word | none => 0)

/-- Entry `i` of the error log, the newest first. -/
def State.errorEntry (s : State) (i : Nat) : List Byte :=
  match s.dram.log.reverse[i]? with
  | some e => leBytes 8 e.addr ++ leBytes 4 e.loc ++ leBytes 4 0 ++ leBytes 8 e.tai ++ leBytes 8 0
  | none => leBytes 32 0

/-- DIAG_READ. -/
def execDiagRead (r : CmdRef) (space index count host : Nat) (s : State) : Host.Outcome State Fault Refusal :=
  .next <| s.command r 0x0901 (fun c s =>
    let sp := if space = 2 then 2 else 1
    let n := clampTo 1 4096 count
    let size := if sp = 2 then 16 else 1048576
    let k := min n (size - index)
    if host % 64 != 0 then s.refuse c.id Why.BAD_PARAM
    else
      let bytes := ((rangeFrom index k).map (fun i => if sp = 2 then s.errorEntry i else s.ettEntry i)).flatten
      let s := if k = 0 then s else s.send (.hostWrite host bytes)
      (s.clamped (moved sp space + moved n count)).endCmd c.id St.DONE 0 k)

/-! ### HALLMARK_ISSUE (R393, R395) -/

/-- HALLMARK_ISSUE: the report over a challenge goes to host memory. -/
def execHallmarkIssue (r : CmdRef) (challenge host : Nat) (s : State) : Host.Outcome State Fault Refusal :=
  .next <| s.command r 0x0805 (fun c s =>
    if host % 64 != 0 then s.refuse c.id Why.BAD_PARAM
    else
      let s := s.send (.hostWrite host (s.hallmarkReport challenge))
      (s.cmdEvent c Ev.SECURITY_HALLMARK_ISSUED []).endCmd c.id St.DONE 0 12827)

end Sys2Proof.Machine
end

