-- ==== Sys2Proof/Machine/Mailbox.lean ====
section
/-! DEFINITION. The mailbox of the management port (R414, R415, R429, Table 19-4). -/

namespace Sys2Proof.Machine

open Sys2Proof

/-- Puts a response into the output FIFO: the header, STATUS, and the words after it. The controller has read the response
before it (assumption log 24). -/
def State.reply (s : State) (op seq status : Nat) (ws : List Nat) : State :=
  { s with keeper.fifoOut := ((op + 0x80) * 2 ^ 24 + (ws.length + 1) * 2 ^ 16 + seq % 2 ^ 16) :: status :: ws }

/-- The blocks that the mailbox reaches: PACE, LIFE and KEEPER_WIN. -/
def mboxReaches (off : Nat) : Bool :=
  off % 4 == 0 && (decide (0x80000 ≤ off ∧ off < 0x90000) || decide (0x180000 ≤ off ∧ off < 0x1A0000))

/-- MBOX_READ of one register (R414). -/
def execMboxRead (seq off : Nat) (s : State) : Host.Outcome State Fault Refusal :=
  .next <|
    if !s.keeperRuns then s
    else if mboxReaches off then
      let (v, s) := s.readPath .mgmt off
      s.reply 1 seq 0 [v]
    else s.reply 1 seq 2 []

/-- MBOX_WRITE of one register (R414). -/
def execMboxWrite (seq off v : Nat) (s : State) : Host.Outcome State Fault Refusal :=
  .next <|
    if !s.keeperRuns then s
    else if mboxReaches off then (s.writePath .mgmt off v).reply 2 seq 0 []
    else s.reply 2 seq 2 []

/-- WAKE: a full start from P3 KEEP, OFF or LOCKOUT; BUSY while shut-down runs, and then acted on at OFF (R416); DENIED in RETIRED. In keeper-ROM recovery it
repeats the firmware check (R414, R443). -/
def execWake (seq : Nat) (imageOk : Bool) (s : State) : Host.Outcome State Fault Refusal :=
  .next <|
    if !s.keeperRuns then s
    else if s.rd R.LIFE_STATE_LIFECYCLE = 4 then s.reply 3 seq 4 []
    else if s.rd R.KEEPER_STATUS_SEQ_STATE = 4 then (s.reply 3 seq 3 []).wake
    else
      let s := if s.keeper.flash.romRecovery && imageOk then { s with keeper.flash.romRecovery := false } else s
      (s.reply 3 seq 0 []).wake

/-- STATUS: KEEPER_STATUS, KEEPER_FEED_STATUS and LIFE_STATE (Table 19-4). -/
def execMboxStatus (seq : Nat) (s : State) : Host.Outcome State Fault Refusal :=
  .next <|
    if s.keeperRuns then s.reply 4 seq 0 [s.readWord 0x190004, s.readWord 0x19000C, s.readWord 0x180000] else s

/-- EVENT_READ: up to 3 records from SEQ upward, in ascending order, stopping at the head (R429). -/
def execEventRead (seq start count : Nat) (s : State) : Host.Outcome State Fault Refusal :=
  .next <|
    if s.keeperRuns then
      let rs := (rangeFrom 0 (clampTo 1 3 count)).filterMap (fun i =>
        s.keeper.flash.log.find? (fun r => r.seq == (start + i) % 2 ^ 32))
      s.reply 5 seq 0 ((rs.map (fun r => wordsOf r.bytes 16)).flatten)
    else s

/-- AUTH_CHUNK: words of an authorisation blob into the staging buffer (R415). -/
def execAuthChunk (seq off : Nat) (words : List Nat) (s : State) : Host.Outcome State Fault Refusal :=
  .next <|
    if !s.keeperRuns then s
    else
      let past := off + 4 * words.length
      let tail := words.getD ((7512 - off) / 4) 0
      if off % 4 ≠ 0 ∨ 7516 < past ∨ 60 < words.length ∨ (past = 7516 ∧ 2 ^ 24 ≤ tail % 2 ^ 32) then s.reply 6 seq 2 []
      else
        let old := if off = 0 then [] else s.keeper.staging
        let bytes := ((words.map (leBytes 4)).flatten).take (7515 - off)
        { s with keeper.staging := Mem.writeN old off bytes }.reply 6 seq 0 []

/-- The blob in the staging buffer (Table 18-4). -/
def stagedBlob (m : Mem) (signed : Bool) : AuthBlob :=
  { kind := leNat (Mem.readN m 2 1), target := leNat (Mem.readN m 3 1), signer := leNat (Mem.readN m 4 1)
    deviceId := leNat (Mem.readN m 8 8), nonce := leNat (Mem.readN m 16 16), notAfter := leNat (Mem.readN m 32 8)
    ownerDigest := leNat (Mem.readN m 40 48)
    keysDigest := sha384 (Mem.readN m 96 2696), signed, host := 0 }

/-- LIFECYCLE_SUBMIT: verifies the first AUTH_LEN bytes of the staging buffer and requests the change; the buffer is cleared
after it (R414, R415). `signed` says whether both signatures verify. -/
def execLifecycleSubmit (seq kind target len : Nat) (signed : Bool) (s : State) : Host.Outcome State Fault Refusal :=
  .next <|
    if !s.keeperRuns then s
    else
      let b := stagedBlob s.keeper.staging signed
      let (reason, s) := s.requestChange (kind == 1) target len b none
      { s with keeper.staging := [] }.reply 7 seq 0 [reason]

end Sys2Proof.Machine
end

