-- ==== Sys2Proof/Machine/Membership.lean ====
section
/-! DEFINITION. The domain directory, pushes, joining and leaving, and the domain's timers (R338 to R340, R343 to R349, R352 to
R354). -/

namespace Sys2Proof.Machine

open Sys2Proof

/-! ### The end of a join (Table 16-6) -/

/-- Step 5: once the catch-up pushes are applied and every region is acknowledged the pair is MEMBER, and DOMAIN_JOIN completes with
the directory version. -/
def State.settleJoin (s : State) : State :=
  match s.domain.joinCmd.bind (fun id => s.cmds.find? (fun c => c.id == id)) with
  | none => s
  | some c =>
    if s.domain.joinLeft = some 0 && s.domain.outbox.isEmpty then
      let s := { s with domain := { s.domain with joinCmd := none, joinAt := none, joinLeft := none, joinOldIp := [] } }
      let s := (s.wr R.DOMAIN_STATUS_STATE 2).mirrorDomain
      (s.cmdEvent c Ev.DOMAIN_JOINED []).endCmd c.id St.DONE 0 (s.rd R.DOMAIN_DIR_VERSION_VERSION)
    else s

/-! ### The directory (R345, R346) -/

/-- One change of a DIR_UPDATE: applied where it is the next one, discarded where it has been applied. -/
def State.applyDirChange (s : State) (p : Nat) (x : Nat × DirChange) : State :=
  match AMap.get? s.domain.members p with
  | none => s
  | some m =>
    if x.1 = m.applied + 1 then
      let c := x.2
      let s := { s with domain.members := AMap.set s.domain.members p { m with applied := x.1 } }
      let s := s.recordRegion p c.action ⟨c.region, c.base, c.size, c.flags⟩
      s.mirrorChange Carry.REGION [p, c.action, c.region, c.base, c.size, c.flags]
    else s

/-- DIR_UPDATE: the batch is one change of the directory; DIR_ACK names the highest DIR_SEQ applied, FULL and UNLISTED. -/
def execDirUpdate (h : DomainHeader) (seq : Nat) (entries : List DirChange) (s : State) : Host.Outcome State Fault Refusal :=
  s.requestRow h 0x0B (seq :: (entries.map (fun c : DirChange => [c.action, c.base, c.size, c.region, h.srcPair, c.flags])).flatten) (fun s =>
    if !s.founded || !AMap.has s.domain.members h.srcPair then s.refuseTo h Refuse.NOT_MEMBER 0
    else
      let before := ((AMap.get? s.domain.members h.srcPair).map (·.applied)).getD 0
      let s := ((rangeFrom seq entries.length).zip entries).foldl (fun s x => s.applyDirChange h.srcPair x) s
      let applied := ((AMap.get? s.domain.members h.srcPair).map (·.applied)).getD 0
      let s := if applied = before then s else (s.mirrorChange Carry.APPLIED [h.srcPair, applied]).relist
      let held := (s.domain.heldRegions.filter (fun x => x.1 == h.srcPair)).length
      s.answerMirrored (DomainHeader.reply h 0x0C (s.rd R.TWIN_TOKEN_EPOCH_VALUE) [applied, if s.directoryFull then 1 else 0, held]))

/-- DIR_ACK: the outbox drops what is applied; a change of FULL is reported once (R345, R346). -/
def execDirAck (h : DomainHeader) (applied : Nat) (full : Bool) (unlisted : Nat) (s : State) : Host.Outcome State Fault Refusal :=
  s.answerRow h 0x0C [applied, if full then 1 else 0, unlisted] (fun r s =>
    if r.type ≠ 0x0B then s
    else
      let l := s.domain.outbox.filter (fun e : Nat × Nat × DirEntry => decide (applied < e.1))
      let t := s.answeredNow r
      let t := if full = t.domain.dirFull then t else t.raise Ev.DOMAIN_DIRECTORY_FULL []
      let t := { t with domain.outbox := l, domain.dirFull := full, domain.unlisted := unlisted }
      let t := t.mirrorChange Carry.OUTBOX [applied, if full then 1 else 0, unlisted]
      t.sendOutbox.settleJoin)

/-! ### Pushes at a worker (R347, R366) -/

/-- The key of the QUEUE slot that a pushed QUEUE_CREATE names, out of its blob wrapped under the domain key (R366). -/
def State.pushedKey (s : State) (p : List Nat) : Option Nat := unwrapKey s.domainSlotKey (p.getD 3 0) Slot.QUEUE 0 (p.getD 2 0)

/-- Why a worker refuses a pushed command, if it does; what is there already in the same form is not refused. -/
def State.pushVerdict (s : State) (opcode : Nat) (p : List Nat) : Option Nat :=
  let i (k : Nat) : Nat := p.getD k 0
  let q := i 0 % 2 ^ 22
  match opcode with
  | 0x0106 => if !AMap.has s.prot.pds (i 0) then some Why.NOT_FOUND else if s.pdInUse (i 0) then some Why.IN_USE else none
  | 0x0109 => if AMap.has s.prot.pds (i 0) then none else some Why.NOT_FOUND
  | 0x0201 =>
    let key := s.pushedKey p
    let other := match AMap.get? s.crypt.slots (i 2) with | some k => some k.key != key || k.type != Slot.QUEUE | none => false
    let held := match AMap.get? s.cerga.queues q with | some x => x.gen != i 0 / 2 ^ 22 | none => false
    if key.isNone then some Why.BAD_KEY
    else if other then some Why.KEY_IN_USE
    else if held then some Why.IN_USE
    else if !AMap.has s.prot.pds (i 1) then some Why.NOT_FOUND else none
  | 0x0202 => if s.queueHeld (i 0) then none else some Why.NOT_FOUND
  | _ => none

/-- Commits the QUEUE slot that came with a push, here and at the standby. -/
def State.pushKey (s : State) (slot key : Nat) : State :=
  if AMap.has s.crypt.slots slot then s
  else (s.commitSlot slot Slot.QUEUE false key).mirrorChange 0x0301 [slot, Slot.QUEUE, 0, key]

/-- What a pushed command does where nothing has to drain. -/
def State.applyPush (s : State) (opcode : Nat) (p : List Nat) : State :=
  let i (k : Nat) : Nat := p.getD k 0
  match opcode with
  | 0x0105 => if AMap.has s.prot.pds (i 0) then s else (s.createPd (i 0)).mirrorChange opcode p
  | 0x0109 => (s.setSpaceKey (i 0) (i 1) (i 2) (some (s.now + ms (i 2)))).mirrorChange opcode p
  | 0x0201 =>
    if AMap.has s.cerga.queues (i 0 % 2 ^ 22) then s
    else ((s.pushKey (i 2) ((s.pushedKey p).getD 0)).createQueue (i 0) (i 1) (i 2)).mirrorChange opcode [i 0, i 1, i 2]
  | _ => s

/-- A worker takes the push: the removals drain first, and every other command applies at once. -/
def State.takePush (s : State) (opcode : Nat) (p : List Nat) (seq : Nat) : State :=
  let i (k : Nat) : Nat := p.getD k 0
  match s.pushVerdict opcode p with
  | some why => s.endPush St.DENIED_PROTECTION why
  | none => match opcode with
    | 0x0106 => s.startDrain none (some seq) (.pd (i 0))
    | 0x0202 => (s.dropUnadmitted (i 0 % 2 ^ 22)).startDrain none (some seq) (.queue (i 0 % 2 ^ 22))
    | _ => (s.applyPush opcode p).endPush St.DONE 0

/-- PUSH from the manager pair, applied in PUSH_SEQ order by the worker active and answered when it is applied. A worker that has not
had its JOIN_ACK yet leaves a push to its resend. -/
def execPush (h : DomainHeader) (seq opcode : Nat) (params : List Nat) (s : State) : Host.Outcome State Fault Refusal :=
  s.requestRow h 0x0D (seq :: opcode :: params) (fun s =>
    let joining := s.rd R.DOMAIN_STATUS_STATE == 1
    if s.roleStrap ≠ 1 ∨ h.srcPair ≠ 0 ∨ s.rd R.DOMAIN_STATUS_STATE = 0 then s.refuseTo h Refuse.NOT_MEMBER 0
    else if (joining && s.domain.joinLeft.isNone) || s.domain.pushing.isSome then s
    else if seq ≤ s.domain.lastPush then s.answerTo h 0x0E (s.rd R.TWIN_TOKEN_EPOCH_VALUE) [seq, St.DONE, 0]
    else
      let s := { s with domain.pushing := some (DomainHeader.reply h 0x0E 0 [seq]), domain.joinLeft := s.domain.joinLeft.map (· - 1) }
      (s.takePush opcode params seq).settleJoin)

/-- PUSH_ACK: the push leaves, a refusal is reported, the next one follows, and a command that waited for the last reachable member
completes (R347). -/
def execPushAck (h : DomainHeader) (seq status detail : Nat) (s : State) : Host.Outcome State Fault Refusal :=
  s.answerRow h 0x0E [seq, status, detail] (fun r s =>
    if r.type ≠ 0x0D ∨ r.fields.headD 0 ≠ seq then s
    else
      let s := s.answeredNow r
      let s := { s with domain.pushes := s.domain.pushes.filter (fun x => !(x.pair == r.dst && x.seq == seq))
                        domain.members := AMap.upd s.domain.members r.dst (fun m : Member => ({ m with acked := seq } : Member)) }
      let s := if status = St.DONE then s else s.raise Ev.DOMAIN_PUSH_REFUSED [(2, r.dst), (1, status), (1, detail)]
      (s.mirrorChange Carry.PUSHED [r.dst, seq]).sendPushes.settlePushes)

/-! ### Joining (R348) -/

/-- JOIN at the manager pair: `service` is the pair's service address for its directory entry; bit 0 of FLAGS says that its PD and queue
tables are not empty. -/
def execJoin (h : DomainHeader) (digestA digestB roleA roleB flags : Nat) (service : List Nat) (s : State) :
    Host.Outcome State Fault Refusal :=
  s.requestRow h 0x0F [digestA, digestB, roleA, roleB, flags] (fun s =>
    let p := h.srcPair
    let known := AMap.get? s.domain.members p
    let same := match known with | some m => m.digestA == digestA && m.digestB == digestB | none => false
    if !s.founded then s.refuseTo h Refuse.NOT_MEMBER 0
    else if roleA ≠ 1 ∨ roleB ≠ 1 then s.refuseTo h Refuse.CONDITION 0
    else if p = 0 ∨ (known.isSome ∧ same = false) then s.refuseTo h Refuse.CONDITION 0
    else if !same && flags % 2 == 1 then s.refuseTo h Refuse.NOT_MEMBER 0
    else
      let s := s.enterMember p digestA digestB service
      let s := s.mirrorChange Carry.MEMBER ([p, digestA, digestB] ++ service)
      let s := s.setRecord p (newRecord h.tokenEpoch h.srcSide (s.rd R.TWIN_CTRL_LEASE_MS))
      let s := s.relist
      let count := (s.domain.pushes.filter (fun x => x.pair == p)).length
      let s := s.answerMirrored (DomainHeader.reply h 0x10 h.tokenEpoch [s.domain.version, count])
      let named := s.domain.witnesses.contains p || s.domain.newWitnesses.contains p
      let s := if named then s.sendRequest 9 [p] [s.rd R.TWIN_TOKEN_EPOCH_VALUE, s.side] none else s
      s.sendPushes.settlePushes)

/-- JOIN_ACK: the catch-up count is known, and every region of the table goes into the outbox (steps 2 to 4 of Table 16-6). -/
def execJoinAck (h : DomainHeader) (version count : Nat) (s : State) : Host.Outcome State Fault Refusal :=
  s.answerRow h 0x10 [version, count] (fun r s =>
    if r.type ≠ 0x0F then s
    else
      let entries := s.ownEntries
      let l := ((rangeFrom 1 entries.length).zip entries).map (fun e => (e.1, 0, e.2))
      let s := (s.answeredNow r).wr R.DOMAIN_DIR_VERSION_VERSION version
      let s := { s with domain := { s.domain with requests := s.domain.requests.filter (fun q => q.type != 0x0B), outbox := l
                                                  dirSeq := l.length, joinLeft := some count, joinAt := none } }
      s.sendOutbox.settleJoin)

/-- LEAVE at the manager pair: refused while the pair is a named witness (R349). -/
def execLeave (h : DomainHeader) (s : State) : Host.Outcome State Fault Refusal :=
  s.requestRow h 0x11 [] (fun s =>
    let p := h.srcPair
    if s.domain.witnesses.contains p || s.domain.newWitnesses.contains p then s.refuseTo h Refuse.CONDITION 0
    else
      let s := if AMap.has s.domain.members p then
          ((s.dropMember p).mirrorChange Carry.NOT_MEMBER [p]).relist.settlePushes.raise Ev.DOMAIN_LEFT []
        else s
      s.answerMirrored (DomainHeader.reply h 0x02 h.tokenEpoch [h.sendTime]))

/-- The export record a METER_RECORD carries: the fields of Table 15-2 up to WINDOWS, and the counters. -/
def carriedExport (fields : List Nat) : ExportRecord :=
  let i (k : Nat) : Nat := fields.getD k 0
  let cs := ((rangeFrom 0 16).map (fun n => (n, i (11 + n)))).filter (fun e => e.2 != 0)
  ⟨i 0, i 1, i 2, i 3, i 4, i 5, i 6, i 7, i 8, i 9, i 10, cs, 0, false⟩

/-- METER_RECORD: a worker's record joins the aggregation (R329). -/
def execMeterRecord (h : DomainHeader) (fields : List Nat) (s : State) : Host.Outcome State Fault Refusal :=
  s.requestRow h 0x12 fields (fun s =>
    if !s.founded || !AMap.has s.domain.members h.srcPair then s.refuseTo h Refuse.NOT_MEMBER 0
    else (s.addContribution (carriedExport fields)).answerTo h 0x02 h.tokenEpoch [h.sendTime])

/-! ### The commands (R348, R349, R354) -/

/-- A domain command: never at a standby. -/
def State.domainCommand (s : State) (r : CmdRef) (opcode : Nat) (f : Cmd → State → State) : Host.Outcome State Fault Refusal :=
  .next <| s.command r opcode (fun c s => s.ifHolder c (f c))

/-- The pair's service address as its directory entry holds it: Cerga port, IPv6, IPv4, MAC (Table 16-4). -/
def State.ownService (s : State) : List Nat :=
  let six := ((rangeFrom 0 4).map (fun n => s.rdN R.GLOBAL_SVC_IP6_ADDR n * 2 ^ (32 * n))).sum
  [s.rd R.CERGA_CTRL_UDP_PORT, six, s.rd R.GLOBAL_SVC_IP4_ADDR, s.rd R.GLOBAL_SVC_MAC_LO_MAC + s.rd R.GLOBAL_SVC_MAC_HI_MAC * 2 ^ 32]

/-- DOMAIN_JOIN in mode JOIN: the manager's address is written and JOIN sent. -/
def State.beginJoin (s : State) (c : Cmd) (keyId ip peerRole : Nat) : State :=
  if s.rd R.DOMAIN_STATUS_STATE ≠ 0 ∨ s.domain.joinCmd.isSome then s.refuse c.id Why.IN_USE
  else if !s.keyOk keyId Slot.DOMAIN then s.refuse c.id Why.BAD_KEY
  else
    let old := (rangeFrom 0 4).map (fun n => s.rdN R.DOMAIN_MGR_IP_ADDR n)
    let put (s : State) (e : Nat × Nat) : State := s.wrN R.DOMAIN_MGR_IP_ADDR e.1 e.2
    let s := ((rangeFrom 0 4).zip (ipWords ip)).foldl put s
    let s := { s with domain := { s.domain with joinCmd := some c.id, joinAt := some (s.now + sec 10), joinLeft := none, joinOldIp := old
                                                domainKey := keyId, lastPush := 0, outbox := [], dirSeq := 0 } }
    let s := s.wr R.DOMAIN_STATUS_STATE 1
    let own := identityDigest % 2 ^ 256
    let peer := s.twin.peerDigest % 2 ^ 256
    let digests : List Nat := if s.side = 0 then [own, peer] else [peer, own]
    let roles : List Nat := if s.paired then [1, peerRole] else [1, 1]
    let full := !s.prot.pds.isEmpty || !s.cerga.queues.isEmpty
    s.sendRequest 0x0F [0] (digests ++ roles ++ [if full then 1 else 0]) none

/-- 256 MiB, the client directory of R343. -/
def directorySize : Nat := 268435456

/-- Region 0 of pair 0: WRITABLE and MIRRORED, at pair-local base 0, under the media key. -/
def directoryRegion (side : Nat) : Region :=
  { state := .active, base := 0, size := directorySize, newSize := directorySize, writable := true, mirrored := true, shelf := false
    scheduled := false, pinNear := false, object := 0, key := 0, account := 0, owner := side }

/-- DOMAIN_JOIN in mode FOUND: the directory region, the manager pair's own entry, and the witness list (R341, R343). -/
def State.found (s : State) (c : Cmd) (keyId : Nat) (ws : List Nat) : State :=
  let clash := AMap.has s.prot.regions 0 || s.prot.regions.any (fun e => decide (e.2.base < directorySize))
  if s.rd R.DOMAIN_STATUS_STATE ≠ 0 ∨ clash = true then s.refuse c.id Why.IN_USE
  else if !s.keyOk keyId Slot.DOMAIN then s.refuse c.id Why.BAD_KEY
  else
    let r := directoryRegion s.side
    match s.createRegion 0 r with
    | .error e => s.refuse c.id e
    | .ok s =>
      let s := (s.zeroFill 0 directorySize).mirrorChange 0x0101 (regionParams 0 r)
      let me := newMember (identityDigest % 2 ^ 256) (s.twin.peerDigest % 2 ^ 256) s.ownService s.now
      let s := { s with domain := { s.domain with domainKey := keyId, witnesses := ws, newWitnesses := [], registered := []
                                                  members := AMap.set s.domain.members 0 me } }
      let s := s.mirrorChange Carry.MEMBER ([0, me.digestA, me.digestB] ++ me.service)
      ((s.wr R.DOMAIN_STATUS_STATE 2).mirrorDomain.relist).finish c.id St.DONE

/-- DOMAIN_JOIN in mode WITNESS_SET: the new list's witnesses register the current epoch; the old list governs until then (R342). -/
def State.setWitnesses (s : State) (c : Cmd) (ws : List Nat) : State :=
  if !s.founded then s.refuse c.id Why.NOT_FOUND
  else
    let s := { s with domain.newWitnesses := ws, domain.registered := [] }
    let all := s.domain.witnesses ++ ws.filter (fun w => !s.domain.witnesses.contains w)
    let here := all.filter (fun w => AMap.has s.domain.members w)
    ((s.sendRequest 9 here [s.rd R.TWIN_TOKEN_EPOCH_VALUE, s.side] none).mirrorDomain).finish c.id St.DONE

/-- DOMAIN_JOIN (R348, R354); `peerRole` is the role the twin's strap reports. -/
def execDomainJoin (r : CmdRef) (mode keyId managerIp w0 w1 w2 peerRole : Nat) (s : State) : Host.Outcome State Fault Refusal :=
  s.domainCommand r 0x0704 (fun c s =>
    let m := if 2 < mode then 0 else mode
    let ws := [w0 % 8192, w1 % 8192, w2 % 8192]
    if s.roleStrap ≠ 1 ∧ s.roleStrap ≠ 2 ∨ (s.roleStrap = 1 ∧ m ≠ 0) ∨ (s.roleStrap = 2 ∧ m = 0) then s.refuse c.id Why.WRONG_ROLE
    else if m ≠ 0 ∧ (ws.contains 0 ∨ ¬ ws.Nodup) then s.refuse c.id Why.BAD_PARAM
    else
      let t := s.clamped (moved m mode)
      if m = 0 then t.beginJoin c keyId managerIp peerRole
      else if m = 1 then t.found c keyId ws else t.setWitnesses c ws)

/-- Mode LEAVE at a worker active. -/
def State.beginLeave (s : State) (c : Cmd) : State :=
  if s.rd R.DOMAIN_STATUS_STATE ≠ 2 then s.refuse c.id Why.NOT_FOUND
  else if s.on R.DOMAIN_STATUS_WITNESS then s.refuse c.id Why.IN_USE
  else
    let s := { s with domain.leaveCmd := some c.id }.wr R.DOMAIN_STATUS_STATE 3
    s.sendRequest 0x11 [0] [] none

/-- Mode EVICT at the manager pair. -/
def State.evict (s : State) (c : Cmd) (p : Nat) : State :=
  if !s.founded || p == 0 || !AMap.has s.domain.members p then s.refuse c.id Why.NOT_FOUND
  else if s.memberReachable p then s.refuse c.id Why.PEER_REACHABLE
  else
    let s := ((s.dropMember p).mirrorChange Carry.NOT_MEMBER [p]).relist.settlePushes
    (s.cmdEvent c Ev.DOMAIN_LEFT []).finish c.id St.DONE

/-- DOMAIN_LEAVE (R349, R354). -/
def execDomainLeave (r : CmdRef) (mode pair : Nat) (s : State) : Host.Outcome State Fault Refusal :=
  s.domainCommand r 0x0705 (fun c s =>
    let m := if 1 < mode then 0 else mode
    if s.roleStrap ≠ m + 1 then s.refuse c.id Why.WRONG_ROLE
    else
      let t := s.clamped (moved m mode)
      if m = 0 then t.beginLeave c else t.evict c (pair % 8192))

/-! ### Timers (R338 to R340, R348) -/

/-- A domain timer runs while the core does and no save has begun. -/
def State.domainTimer (s : State) (f : State → State) : Host.Outcome State Fault Refusal :=
  .next <| if s.coreOn && !s.save.active then f s else s

/-- DOMAIN_RESEND_TIMER: every unanswered request but a renewal is sent again after 500 µs with its MSG_ID (R338). -/
def execDomainResendTimer (s : State) : Host.Outcome State Fault Refusal :=
  s.domainTimer (fun s =>
    let old (r : DomainRequest) : Bool := r.type != 1 && decide (r.sentAt + us 500 ≤ s.now)
    let late := s.domain.requests.filter old
    let f := fun r : DomainRequest => if old r then ({ r with sentAt := s.now } : DomainRequest) else r
    late.foldl (fun s r => (s.bump R.DOMAIN_RETRIES 1).sendDomain r.type r.dst r.msgId r.fields)
      { s with domain.requests := s.domain.requests.map f })

/-- STATUS_REPORT_TIMER: every 100 ms from the standby of a pair with a witness (R340). -/
def execStatusReportTimer (s : State) : Host.Outcome State Fault Refusal :=
  s.domainTimer (fun s =>
    if s.paired && !s.twin.holder && s.hasWitness && decide (s.domain.reportAt ≤ s.now) then
      let s := { s with domain.reportAt := s.now + ms 100 }
      s.witnessPairs.foldl (fun s d => s.sendDomain 0x0A d 0 [s.rd R.TWIN_STATUS_SYNC]) s
    else s)

/-- MANAGER_REACH_TIMEOUT: UNREACH_MS without an authenticated answer (R339). -/
def execManagerReachTimeout (s : State) : Host.Outcome State Fault Refusal :=
  s.domainTimer (fun s => match s.domain.lastAnswer with
    | some t =>
      if t + ms (s.rd R.DOMAIN_CTRL_UNREACH_MS) < s.now then
        { s with domain.lastAnswer := none }.raise Ev.DOMAIN_MANAGER_UNREACHABLE []
      else s
    | none => s)

/-- JOIN_TIMEOUT: the manager pair could not be reached for 10 s (R348). -/
def execJoinTimeout (s : State) : Host.Outcome State Fault Refusal :=
  s.domainTimer (fun s => if due s.now s.domain.joinAt then s.joinRefused Why.PEER_UNREACHABLE else s)

end Sys2Proof.Machine
end

