-- ==== Sys2Proof/Machine/Dispatch.lean ====
section
/-! DEFINITION. One arm per row of the operation table, each a call of that row's meaning. -/

namespace Sys2Proof.Machine

open Sys2Proof

/-- The effect of a command on everything but the queue. -/
def exec (i : Instr) (s : State) : Host.Outcome State Fault Refusal :=
  match i with
  | .registerWrite off v full => Sys2Proof.Machine.execRegisterWrite off v full s
  | .counterPairCapture p off => Sys2Proof.Machine.execCounterPairCapture p off s
  | .portCtrlWrite n v => Sys2Proof.Machine.execPortCtrlWrite n v s
  | .portAdmissionOpen n => Sys2Proof.Machine.execPortAdmissionOpen n s
  | .globalResetArm => Sys2Proof.Machine.execGlobalResetArm s
  | .globalResetFire => Sys2Proof.Machine.execGlobalResetFire s
  | .resetArmExpiry => Sys2Proof.Machine.execResetArmExpiry s
  | .svcAddressWrite off v => Sys2Proof.Machine.execSvcAddressWrite off v s
  | .nearCacheDisable maxLockWays => Sys2Proof.Machine.execNearCacheDisable maxLockWays s
  | .nearCacheEnable maxLockWays => Sys2Proof.Machine.execNearCacheEnable maxLockWays s
  | .tierStageWrite v => Sys2Proof.Machine.execTierStageWrite v s
  | .ringEnable k n => Sys2Proof.Machine.execRingEnable k n s
  | .ringDisable k n => Sys2Proof.Machine.execRingDisable k n s
  | .cmdTail n v => Sys2Proof.Machine.execCmdTail n v s
  | .cplHead n v => Sys2Proof.Machine.execCplHead n v s
  | .evHead m v => Sys2Proof.Machine.execEvHead m v s
  | .exHead k v => Sys2Proof.Machine.execExHead k v s
  | .keeperCommit p v => Sys2Proof.Machine.execKeeperCommit p v s
  | .wordProgram p off word => Sys2Proof.Machine.execWordProgram p off word s
  | .bufferProgram p off words => Sys2Proof.Machine.execBufferProgram p off words s
  | .sectorErase p off => Sys2Proof.Machine.execSectorErase p off s
  | .abort p => Sys2Proof.Machine.execAbort p s
  | .sequenceGapTimeout p => Sys2Proof.Machine.execSequenceGapTimeout p s
  | .logRecordSelect p q => Sys2Proof.Machine.execLogRecordSelect p q s
  | .descriptorFetch n ds error => Sys2Proof.Machine.execDescriptorFetch n ds error s
  | .commandCompletion r => Sys2Proof.Machine.execCommandCompletion r s
  | .coalescingTimer k n => Sys2Proof.Machine.execCoalescingTimer k n s
  | .functionLevelReset => Sys2Proof.Machine.execFunctionLevelReset s
  | .pcieLinkDown => Sys2Proof.Machine.execPcieLinkDown s
  | .regionCreate r base size flags object key peer => Sys2Proof.Machine.execRegionCreate r base size flags object key peer s
  | .regionResize r region newSize peer => Sys2Proof.Machine.execRegionResize r region newSize peer s
  | .regionDestroy r region => Sys2Proof.Machine.execRegionDestroy r region s
  | .regionSetFlags r region set clear peer => Sys2Proof.Machine.execRegionSetFlags r region set clear peer s
  | .pdCreate r pd => Sys2Proof.Machine.execPdCreate r pd s
  | .pdDestroy r pd => Sys2Proof.Machine.execPdDestroy r pd s
  | .pdBindRegion r pd region access => Sys2Proof.Machine.execPdBindRegion r pd region access s
  | .pdUnbindRegion r pd region => Sys2Proof.Machine.execPdUnbindRegion r pd region s
  | .spacekeySet r pd key grace => Sys2Proof.Machine.execSpacekeySet r pd key grace s
  | .queueCreate r id pd key => Sys2Proof.Machine.execQueueCreate r id pd key s
  | .queueDestroy r id => Sys2Proof.Machine.execQueueDestroy r id s
  | .qpCreate r num pd => Sys2Proof.Machine.execQpCreate r num pd s
  | .qpModify r num state p => Sys2Proof.Machine.execQpModify r num state p s
  | .qpDestroy r num => Sys2Proof.Machine.execQpDestroy r num s
  | .keyCommit r id type source flags wrapId blob => Sys2Proof.Machine.execKeyCommit r id type source flags wrapId blob s
  | .keyDestroy r id flags => Sys2Proof.Machine.execKeyDestroy r id flags s
  | .cipherOp r params => Sys2Proof.Machine.execCipherOp r params s
  | .contextSave r context form addr => Sys2Proof.Machine.execContextSave r context form addr s
  | .contextRestore r context form addr record => Sys2Proof.Machine.execContextRestore r context form addr record s
  | .shelfObjectCreate r id tileCode flags key size owner tag => Sys2Proof.Machine.execShelfObjectCreate r id tileCode flags key size owner tag s
  | .shelfObjectLoad r id flags off host data => Sys2Proof.Machine.execShelfObjectLoad r id flags off host data s
  | .shelfObjectDrop r id => Sys2Proof.Machine.execShelfObjectDrop r id s
  | .scheduleLoad r id flags lookahead object pd cursors entries host list => Sys2Proof.Machine.execScheduleLoad r id flags lookahead object pd cursors entries host list s
  | .scheduleDrop r id => Sys2Proof.Machine.execScheduleDrop r id s
  | .cacheLock r region off len => Sys2Proof.Machine.execCacheLock r region off len s
  | .cacheUnlock r region off len => Sys2Proof.Machine.execCacheUnlock r region off len s
  | .cacheRangeInvalidate r region off len => Sys2Proof.Machine.execCacheRangeInvalidate r region off len s
  | .accountCreate r account mode tenant => Sys2Proof.Machine.execAccountCreate r account mode tenant s
  | .accountBind r kind target account => Sys2Proof.Machine.execAccountBind r kind target account s
  | .meterExportSetup r ring flags first last => Sys2Proof.Machine.execMeterExportSetup r ring flags first last s
  | .shaperSet r pd opsRate opsBurst bytesRate burstKib => Sys2Proof.Machine.execShaperSet r pd opsRate opsBurst bytesRate burstKib s
  | .twinPair r peer keyId home flags => Sys2Proof.Machine.execTwinPair r peer keyId home flags s
  | .twinSwitch r mode tag => Sys2Proof.Machine.execTwinSwitch r mode tag s
  | .twinResync r mode => Sys2Proof.Machine.execTwinResync r mode s
  | .domainJoin r mode keyId managerIp w0 w1 w2 peerRole => Sys2Proof.Machine.execDomainJoin r mode keyId managerIp w0 w1 w2 peerRole s
  | .domainLeave r mode pair => Sys2Proof.Machine.execDomainLeave r mode pair s
  | .fwStage r host length p => Sys2Proof.Machine.execFwStage r host length p s
  | .fwActivate r slot => Sys2Proof.Machine.execFwActivate r slot s
  | .fwCommit r => Sys2Proof.Machine.execFwCommit r s
  | .lifecycleRequest r kind target len b => Sys2Proof.Machine.execLifecycleRequest r kind target len b s
  | .hallmarkIssue r challenge host => Sys2Proof.Machine.execHallmarkIssue r challenge host s
  | .diagRead r space index count host => Sys2Proof.Machine.execDiagRead r space index count host s
  | .ledgerRead r host start count flags => Sys2Proof.Machine.execLedgerRead r host start count flags s
  | .memopRead r pd key addr len host => Sys2Proof.Machine.execMemopRead r pd key addr len host s
  | .memopWrite r pd key addr len host data => Sys2Proof.Machine.execMemopWrite r pd key addr len host data s
  | .saveNow r action tag => Sys2Proof.Machine.execSaveNow r action tag s
  | .quiesce r level flags => Sys2Proof.Machine.execQuiesce r level flags s
  | .resume r mask => Sys2Proof.Machine.execResume r mask s
  | .mboxRead seq off => Sys2Proof.Machine.execMboxRead seq off s
  | .mboxWrite seq off v => Sys2Proof.Machine.execMboxWrite seq off v s
  | .wake seq imageOk => Sys2Proof.Machine.execWake seq imageOk s
  | .mboxStatus seq => Sys2Proof.Machine.execMboxStatus seq s
  | .eventRead seq start count => Sys2Proof.Machine.execEventRead seq start count s
  | .authChunk seq off words => Sys2Proof.Machine.execAuthChunk seq off words s
  | .lifecycleSubmit seq kind target len signed => Sys2Proof.Machine.execLifecycleSubmit seq kind target len signed s
  | .read p => Sys2Proof.Machine.execRead p s
  | .write p => Sys2Proof.Machine.execWrite p s
  | .cas8 p => Sys2Proof.Machine.execCas8 p s
  | .cas16 p => Sys2Proof.Machine.execCas16 p s
  | .fadd8 p => Sys2Proof.Machine.execFadd8 p s
  | .fence p => Sys2Proof.Machine.execFence p s
  | .shelfRead p => Sys2Proof.Machine.execShelfRead p s
  | .scheduleAdvance p => Sys2Proof.Machine.execScheduleAdvance p s
  | .ledgerQuery p => Sys2Proof.Machine.execLedgerQuery p s
  | .hallmark p => Sys2Proof.Machine.execHallmark p s
  | .timeQuery p => Sys2Proof.Machine.execTimeQuery p s
  | .clientAcknowledgement p => Sys2Proof.Machine.execClientAcknowledgement p s
  | .ackDelayTimer index => Sys2Proof.Machine.execAckDelayTimer index s
  | .assemblyTimerExpiry tag => Sys2Proof.Machine.execAssemblyTimerExpiry tag s
  | .streamLapse index => Sys2Proof.Machine.execStreamLapse index s
  | .heldPacketAdmission queue seq => Sys2Proof.Machine.execHeldPacketAdmission queue seq s
  | .contextFetchComplete index => Sys2Proof.Machine.execContextFetchComplete index s
  | .tagWaitTimeout queue seq => Sys2Proof.Machine.execTagWaitTimeout queue seq s
  | .ledgerReleaseTimeout => Sys2Proof.Machine.execLedgerReleaseTimeout s
  | .rdmaWrite p => Sys2Proof.Machine.execRdmaWrite p s
  | .rdmaReadRequest p => Sys2Proof.Machine.execRdmaReadRequest p s
  | .cmpswap p => Sys2Proof.Machine.execCmpswap p s
  | .fetchadd p => Sys2Proof.Machine.execFetchadd p s
  | .roceUnsupportedOpcode p => Sys2Proof.Machine.execRoceUnsupportedOpcode p s
  | .cnp p => Sys2Proof.Machine.execCnp p s
  | .qpContextFetchComplete index => Sys2Proof.Machine.execQpContextFetchComplete index s
  | .roceAssemblyTimeout tag => Sys2Proof.Machine.execRoceAssemblyTimeout tag s
  | .operationCompletion tag => Sys2Proof.Machine.execOperationCompletion tag s
  | .zeroFillComplete region => Sys2Proof.Machine.execZeroFillComplete region s
  | .drainComplete place => Sys2Proof.Machine.execDrainComplete place s
  | .drainLimit place => Sys2Proof.Machine.execDrainLimit place s
  | .gracePeriodEnd pd => Sys2Proof.Machine.execGracePeriodEnd pd s
  | .loopPeriod answered => Sys2Proof.Machine.execLoopPeriod answered s
  | .paceMonitorSample n mhz => Sys2Proof.Machine.execPaceMonitorSample n mhz s
  | .avsRetry answered => Sys2Proof.Machine.execAvsRetry answered s
  | .gatherApply entry => Sys2Proof.Machine.execGatherApply entry s
  | .writeBackIssue tagOk => Sys2Proof.Machine.execWriteBackIssue tagOk s
  | .budgetRecomputation mv => Sys2Proof.Machine.execBudgetRecomputation mv s
  | .stageFallTimer => Sys2Proof.Machine.execStageFallTimer s
  | .holdAdmission => Sys2Proof.Machine.execHoldAdmission s
  | .holdTimeout queue seq => Sys2Proof.Machine.execHoldTimeout queue seq s
  | .dirtyMapClear unit => Sys2Proof.Machine.execDirtyMapClear unit s
  | .bankAtFloor => Sys2Proof.Machine.execBankAtFloor s
  | .saveStepComplete => Sys2Proof.Machine.execSaveStepComplete s
  | .saveSequenceEnd mv q => Sys2Proof.Machine.execSaveSequenceEnd mv q s
  | .holdupTestDue => Sys2Proof.Machine.execHoldupTestDue s
  | .holdupTestStart v0 => Sys2Proof.Machine.execHoldupTestStart v0 s
  | .holdupTestV1Read v1 => Sys2Proof.Machine.execHoldupTestV1Read v1 s
  | .holdupTestVEnd mv => Sys2Proof.Machine.execHoldupTestVEnd mv s
  | .holdupTestTimeout => Sys2Proof.Machine.execHoldupTestTimeout s
  | .holdupRechargeDone mv => Sys2Proof.Machine.execHoldupRechargeDone mv s
  | .holdupTestRetry => Sys2Proof.Machine.execHoldupTestRetry s
  | .holdupStaleTimer => Sys2Proof.Machine.execHoldupStaleTimer s
  | .esrPulse v0 v1 => Sys2Proof.Machine.execEsrPulse v0 v1 s
  | .brazeLossOfSignal => Sys2Proof.Machine.execBrazeLossOfSignal s
  | .brazeDeadTimeout => Sys2Proof.Machine.execBrazeDeadTimeout s
  | .brazeTrainingComplete lanes => Sys2Proof.Machine.execBrazeTrainingComplete lanes s
  | .brazeTrainingRetry => Sys2Proof.Machine.execBrazeTrainingRetry s
  | .brazeFrame dir credit tokenEpoch seq cipher tag => Sys2Proof.Machine.execBrazeFrame dir credit tokenEpoch seq cipher tag s
  | .mirror queue msn recordLen epochEnd p data => Sys2Proof.Machine.execMirror queue msn recordLen epochEnd p data s
  | .mirrorCont queue msn offset epochEnd data => Sys2Proof.Machine.execMirrorCont queue msn offset epochEnd data s
  | .dropRemainder queue msn => Sys2Proof.Machine.execDropRemainder queue msn s
  | .mirrorAck msns => Sys2Proof.Machine.execMirrorAck msns s
  | .streamState fields => Sys2Proof.Machine.execStreamState fields s
  | .command number opcode params => Sys2Proof.Machine.execCommand number opcode params s
  | .leaseRenew sentAt => Sys2Proof.Machine.execLeaseRenew sentAt s
  | .leaseAck sentAt => Sys2Proof.Machine.execLeaseAck sentAt s
  | .status stage d sync feedA feedB saveStep accepting fraction => Sys2Proof.Machine.execStatus stage d sync feedA feedB saveStep accepting fraction s
  | .assayDigest queue last count mac => Sys2Proof.Machine.execAssayDigest queue last count mac s
  | .shadow addr len lastQueue lastMsn mac => Sys2Proof.Machine.execShadow addr len lastQueue lastMsn mac s
  | .verdict results => Sys2Proof.Machine.execVerdict results s
  | .handover msns epoch leaseLeft save => Sys2Proof.Machine.execHandover msns epoch leaseLeft save s
  | .handoverAck epoch => Sys2Proof.Machine.execHandoverAck epoch s
  | .resyncData unit page msns poison data => Sys2Proof.Machine.execResyncData unit page msns poison data s
  | .resyncCtrl kind value => Sys2Proof.Machine.execResyncCtrl kind value s
  | .tile kind fields data => Sys2Proof.Machine.execTile kind fields data s
  | .replay expected => Sys2Proof.Machine.execReplay expected s
  | .ident identity side pair tokenEpoch linkEpoch => Sys2Proof.Machine.execIdent identity side pair tokenEpoch linkEpoch s
  | .statusSendTimer => Sys2Proof.Machine.execStatusSendTimer s
  | .leaseRenewTimer => Sys2Proof.Machine.execLeaseRenewTimer s
  | .witnessRenewTimer => Sys2Proof.Machine.execWitnessRenewTimer s
  | .grantRequestTimer => Sys2Proof.Machine.execGrantRequestTimer s
  | .leaseEnd => Sys2Proof.Machine.execLeaseEnd s
  | .leaseViewExpiry => Sys2Proof.Machine.execLeaseViewExpiry s
  | .mirrorFrameTimer => Sys2Proof.Machine.execMirrorFrameTimer s
  | .mirrorAckTimeout => Sys2Proof.Machine.execMirrorAckTimeout s
  | .assayEpochClose queue => Sys2Proof.Machine.execAssayEpochClose queue s
  | .yieldDrainBound => Sys2Proof.Machine.execYieldDrainBound s
  | .resyncUnitSend => Sys2Proof.Machine.execResyncUnitSend s
  | .revertTimer => Sys2Proof.Machine.execRevertTimer s
  | .cursorSyncTimer => Sys2Proof.Machine.execCursorSyncTimer s
  | .nearFillComplete bank ue => Sys2Proof.Machine.execNearFillComplete bank ue s
  | .nearFlushComplete => Sys2Proof.Machine.execNearFlushComplete s
  | .tileFillProgress o k tagOk => Sys2Proof.Machine.execTileFillProgress o k tagOk s
  | .lookaheadFill => Sys2Proof.Machine.execLookaheadFill s
  | .tileEvictionComplete o k => Sys2Proof.Machine.execTileEvictionComplete o k s
  | .tileRecoveryComplete o k parity => Sys2Proof.Machine.execTileRecoveryComplete o k parity s
  | .refreshDue ch bank => Sys2Proof.Machine.execRefreshDue ch bank s
  | .dramSensorRead ch temp => Sys2Proof.Machine.execDramSensorRead ch temp s
  | .dramRequestAged bank => Sys2Proof.Machine.execDramRequestAged bank s
  | .spprComplete ch rank bank row => Sys2Proof.Machine.execSpprComplete ch rank bank row s
  | .caParityError ch retries => Sys2Proof.Machine.execCaParityError ch retries s
  | .dramTrainingComplete rs => Sys2Proof.Machine.execDramTrainingComplete rs s
  | .flashTrainingComplete rs => Sys2Proof.Machine.execFlashTrainingComplete rs s
  | .journalReplayComplete ok failed erased mask ledgerOk => Sys2Proof.Machine.execJournalReplayComplete ok failed erased mask ledgerOk s
  | .flashReadComplete page step => Sys2Proof.Machine.execFlashReadComplete page step s
  | .flashProgramComplete b pages micros ok => Sys2Proof.Machine.execFlashProgramComplete b pages micros ok s
  | .flashEraseComplete b ok => Sys2Proof.Machine.execFlashEraseComplete b ok s
  | .dieCommandTimeout ch die bus => Sys2Proof.Machine.execDieCommandTimeout ch die bus s
  | .flashRebuildComplete => Sys2Proof.Machine.execFlashRebuildComplete s
  | .reclaim b bytes => Sys2Proof.Machine.execReclaim b bytes s
  | .planish least most bytes => Sys2Proof.Machine.execPlanish least most bytes s
  | .anneal b bytes pages => Sys2Proof.Machine.execAnneal b bytes pages s
  | .journalFlush => Sys2Proof.Machine.execJournalFlush s
  | .journalCheckpoint => Sys2Proof.Machine.execJournalCheckpoint s
  | .scrub memory pct finding ue => Sys2Proof.Machine.execScrub memory pct finding ue s
  | .tableReloadComplete kind entry ok => Sys2Proof.Machine.execTableReloadComplete kind entry ok s
  | .poisonRepairComplete l ok => Sys2Proof.Machine.execPoisonRepairComplete l ok s
  | .taiSecond => Sys2Proof.Machine.execTaiSecond s
  | .settleLimit => Sys2Proof.Machine.execSettleLimit s
  | .shaperRelease pd => Sys2Proof.Machine.execShaperRelease pd s
  | .witnessRenew h leaseMs => Sys2Proof.Machine.execWitnessRenew h leaseMs s
  | .confirm h sendTime => Sys2Proof.Machine.execConfirm h sendTime s
  | .refuse h reason registered => Sys2Proof.Machine.execRefuse h reason registered s
  | .grantRequest h flags => Sys2Proof.Machine.execGrantRequest h flags s
  | .grant h epoch => Sys2Proof.Machine.execGrant h epoch s
  | .markRequest h => Sys2Proof.Machine.execMarkRequest h s
  | .markGrant h => Sys2Proof.Machine.execMarkGrant h s
  | .markClear h => Sys2Proof.Machine.execMarkClear h s
  | .epochRegister h epoch side => Sys2Proof.Machine.execEpochRegister h epoch side s
  | .statusReport h sync => Sys2Proof.Machine.execStatusReport h sync s
  | .dirUpdate h seq entries => Sys2Proof.Machine.execDirUpdate h seq entries s
  | .dirAck h applied full unlisted => Sys2Proof.Machine.execDirAck h applied full unlisted s
  | .push h seq opcode params => Sys2Proof.Machine.execPush h seq opcode params s
  | .pushAck h seq status detail => Sys2Proof.Machine.execPushAck h seq status detail s
  | .join h digestA digestB roleA roleB flags service => Sys2Proof.Machine.execJoin h digestA digestB roleA roleB flags service s
  | .joinAck h version count => Sys2Proof.Machine.execJoinAck h version count s
  | .leave h => Sys2Proof.Machine.execLeave h s
  | .meterRecord h fields => Sys2Proof.Machine.execMeterRecord h fields s
  | .domainResendTimer => Sys2Proof.Machine.execDomainResendTimer s
  | .statusReportTimer => Sys2Proof.Machine.execStatusReportTimer s
  | .managerReachTimeout => Sys2Proof.Machine.execManagerReachTimeout s
  | .provisionalGrantLapse pair => Sys2Proof.Machine.execProvisionalGrantLapse pair s
  | .joinTimeout => Sys2Proof.Machine.execJoinTimeout s
  | .aggWaitTimer tenant start => Sys2Proof.Machine.execAggWaitTimer tenant start s
  | .ptpMessage domain ahead offset uncertainty utc leap => Sys2Proof.Machine.execPtpMessage domain ahead offset uncertainty utc leap s
  | .ppsInEdge uncertainty => Sys2Proof.Machine.execPpsInEdge uncertainty s
  | .clusterFault cluster tags hosts => Sys2Proof.Machine.execClusterFault cluster tags hosts s
  | .oldTableKeyErased => Sys2Proof.Machine.execOldTableKeyErased s
  | .debugExpiry => Sys2Proof.Machine.execDebugExpiry s
  | .pacedEntryTimer => Sys2Proof.Machine.execPacedEntryTimer s
  | .pacedExit => Sys2Proof.Machine.execPacedExit s
  | .powerOn fwOk mismatch => Sys2Proof.Machine.execPowerOn fwOk mismatch s
  | .powerUpStepEnd q => Sys2Proof.Machine.execPowerUpStepEnd q s
  | .rampTimeout n => Sys2Proof.Machine.execRampTimeout n s
  | .powerUpRetry => Sys2Proof.Machine.execPowerUpRetry s
  | .railWindowFault n mv => Sys2Proof.Machine.execRailWindowFault n mv s
  | .railFaultHold n => Sys2Proof.Machine.execRailFaultHold n s
  | .readVoutPoll n mv => Sys2Proof.Machine.execReadVoutPoll n mv s
  | .railHardLimitBreach n => Sys2Proof.Machine.execRailHardLimitBreach n s
  | .shutdownStepEnd => Sys2Proof.Machine.execShutdownStepEnd s
  | .dischargeTimer n => Sys2Proof.Machine.execDischargeTimer n s
  | .feedLoss a => Sys2Proof.Machine.execFeedLoss a s
  | .feedOk a => Sys2Proof.Machine.execFeedOk a s
  | .pmbusAlert n status => Sys2Proof.Machine.execPmbusAlert n status s
  | .restartHoldEnd => Sys2Proof.Machine.execRestartHoldEnd s
  | .startVTimeout => Sys2Proof.Machine.execStartVTimeout s
  | .keeperSupplyLow mv => Sys2Proof.Machine.execKeeperSupplyLow mv s
  | .keeperFlashOpComplete retries ok => Sys2Proof.Machine.execKeeperFlashOpComplete retries ok s
  | .keeperLogAppend => Sys2Proof.Machine.execKeeperLogAppend s
  | .repeatSlotTimer => Sys2Proof.Machine.execRepeatSlotTimer s
  | .logSectorErase retries ok => Sys2Proof.Machine.execLogSectorErase retries ok s
  | .watchdogExpiry core cmds => Sys2Proof.Machine.execWatchdogExpiry core cmds s
  | .firmwareLoadComplete loads migrated => Sys2Proof.Machine.execFirmwareLoadComplete loads migrated s
  | .trialTimeout q => Sys2Proof.Machine.execTrialTimeout q s
  | .restoreUnit bad twinOk => Sys2Proof.Machine.execRestoreUnit bad twinOk s
  | .restoreWaitTimeout tag => Sys2Proof.Machine.execRestoreWaitTimeout tag s
  | .twinPageTimeout page => Sys2Proof.Machine.execTwinPageTimeout page s
  | .resetNAssert q => Sys2Proof.Machine.execResetNAssert q s
  | .thermTripNAssert temp => Sys2Proof.Machine.execThermTripNAssert temp s
  | .junctionOvertemp temp => Sys2Proof.Machine.execJunctionOvertemp temp s
  | .hardCutCondition temp => Sys2Proof.Machine.execHardCutCondition temp s
  | .thermTripRelease temp => Sys2Proof.Machine.execThermTripRelease temp s
  | .inputStuckTimer code => Sys2Proof.Machine.execInputStuckTimer code s
  | .inputUnmask code => Sys2Proof.Machine.execInputUnmask code s
  | .outputReadbackMismatch code readsHigh => Sys2Proof.Machine.execOutputReadbackMismatch code readsHigh s
  | .refclkLost code => Sys2Proof.Machine.execRefclkLost code s
  | .refclkRegained code => Sys2Proof.Machine.execRefclkRegained code s
  | .linkStateChange n sub link lanes reversed polarity => Sys2Proof.Machine.execLinkStateChange n sub link lanes reversed polarity s
  | .arpRequest port ipv6 addr => Sys2Proof.Machine.execArpRequest port ipv6 addr s
  | .repeatWindowExpiry src => Sys2Proof.Machine.execRepeatWindowExpiry src s
  | .stormSecondEnd src => Sys2Proof.Machine.execStormSecondEnd src s
  | .feedReturning a => Sys2Proof.Machine.execFeedReturning a s
  | .senseInputReversed input => Sys2Proof.Machine.execSenseInputReversed input s
  | .holdupBankAtStartV mv => Sys2Proof.Machine.execHoldupBankAtStartV mv s
  | .keeperSupplyRecovered mv => Sys2Proof.Machine.execKeeperSupplyRecovered mv s
  | .thermTripNReleased => Sys2Proof.Machine.execThermTripNReleased s
  | .opHoursTick => Sys2Proof.Machine.execOpHoursTick s
  | .ptpPpsOutFall => Sys2Proof.Machine.execPtpPpsOutFall s
  | .mgmtCoreMemoryUe core bank row cmds => Sys2Proof.Machine.execMgmtCoreMemoryUe core bank row cmds s
  | .shutdownRailCollapse n => Sys2Proof.Machine.execShutdownRailCollapse n s
  | .mgmtBusHeldLow => Sys2Proof.Machine.execMgmtBusHeldLow s

end Sys2Proof.Machine
end

