-- ==== Sys2Proof/Safety.lean ====
section
/-! DEFINITION. What counts as a safe run, and the words that statements about the machine use: a command that is next to be accepted,
and how it ends. -/

namespace Sys2Proof

open Sys2Proof.Machine

/-- A step that answers a next state. -/
def Runs (s : State) : Prop := ∃ t, step s = .next t

/-- The states that a number of steps lead to. -/
def After : Nat → State → State → Prop
  | 0, s, t => s = t
  | n + 1, s, t => ∃ u, step s = .next u ∧ After n u t

/-- A state from which no run of any length stops. -/
def Safe (s : State) : Prop := ∀ n t, After n s t → Runs t

namespace Machine

/-- The fetched command `c` of this ring and slot is the next to be accepted, with this opcode; the core runs, no save has begun, and
no gate turns it away (R311, R312, R389, R443, R460, Table 18-3). -/
abbrev Accepts (s : State) (r : CmdRef) (opcode : Nat) (c : Cmd) : Prop :=
  s.cmds.find? (fun d => d.ring == r.ring && d.slot == r.slot && d.phase == .fetched) = some c ∧ c.opcode = opcode ∧
    s.coreOn = true ∧ s.save.active = false ∧ s.acceptable c = true ∧ s.gate opcode = none ∧
    s.cmds.find? (fun d => d.id == c.id) = some c ∧ c.orphan = false

/-- Command `c` has ended with this status, detail and result. -/
abbrev Ended (t : State) (c : Cmd) (status detail result : Nat) : Prop :=
  (t.cmds.find? (fun d => d.id == c.id)).map (fun d => (d.phase, d.status, d.detail, d.result))
    = some (.ended, status, detail, result)

/-- Command `c` has been accepted and runs. -/
abbrev StillRuns (t : State) (c : Cmd) : Prop := (t.cmds.find? (fun d => d.id == c.id)).map (·.phase) = some .running

/-- Admission takes a request at once: no earlier request waits, nothing of R73, R76, R148, R287 or R330 holds it back, the checks of
Table 3-4 and the limits of R370 pass, this side holds its region, and no table or cache turns it away (R52, R101, R114, R183). -/
abbrev Passes (s : State) (q : Request) : Prop :=
  s.eng.waiting = [] ∧ s.shaperReady q.pd = true ∧ s.fenced q = false ∧ s.reloadWaits q = false ∧ s.entryFailed q = false ∧
    s.freeTag.isSome = true ∧ s.mustHold q = false ∧ s.op? s.eng.nextOp = none ∧ s.taiSeconds < s.meter.current.start + 60 ∧
    s.cipherLimited q = false ∧ s.cacheFull q = false ∧ (q.opcode = 10 → s.hallmarkBusy q = false) ∧
    (match s.checks s.isActive q (Request.hostAddr q) with
      | .error _ => false
      | .ok r => match r.bind s.region? with
        | some x => x.mirrored || !x.writable || x.owner == s.side
        | none => true) = true

/-- A request has been admitted between two states: an operation runs for it under the free tag, unless it has ended already, poisoned or
with its DRAM channel out (R77, R259). -/
abbrev Admitted (s t : State) (q : Request) : Prop :=
  (t.op? s.eng.nextOp).map (fun o => (some o.tag, o.req, o.responded)) = some (s.freeTag, q, false) ∧
    (t.op? s.eng.nextOp).bind (·.status) ∈ [none, some St.POISON_RETURNED, some St.FAULT_INTERNAL]

/-- An enabled port with its link UP and nothing in its ingress buffer takes a packet of `frame` bytes at `port`, 4 × port + sub-port,
with `queued` bytes of other traffic ahead of it (R25, R29, R191, R473). -/
abbrev PortTakes (s : State) (port queued frame : Nat) : Prop :=
  s.coreOn = true ∧ s.save.active = false ∧ s.start.admitted = true ∧ s.isActive = true ∧ s.twin.yield = none ∧ port / 4 < 16 ∧
    s.rdN R.PORT_CTRL_ENABLE (port / 4) = 1 ∧ (s.port (port / 4)).link (port % 4) = 2 ∧ (s.port (port / 4)).opensAt = none ∧
    s.ports.waiting = [] ∧ s.twin.ingress = [] ∧ queued + frame < s.rdN R.PORT_PFC_THRESH_KB (port / 4) * 1024

/-- A Cerga packet reaches its stream, which is OPEN under the packet's epoch (steps 1 to 4 of Table 5-11). -/
abbrev CergaReaches (s : State) (p : CergaPacket) (q : QueueRec) : Prop :=
  PortTakes s p.port p.queued p.frame ∧ p.udpPort = s.rd R.CERGA_CTRL_UDP_PORT ∧ s.on R.CERGA_CTRL_ENABLE = true ∧
    (if p.ipv6 then s.on R.CERGA_CTRL_IPV6 else s.on R.CERGA_CTRL_IPV4) = true ∧ CergaPacket.intact p = true ∧
    AMap.get? s.cerga.queues (p.queue % 2 ^ 22) = some q ∧ q.gen = p.queue / 2 ^ 22 ∧ s.queueLeaving (p.queue % 2 ^ 22) = false ∧
    s.cerga.fetching = [] ∧ s.cerga.cache.contains (p.queue % 2 ^ 22) = true ∧
    (s.stream (p.queue % 2 ^ 22)).state = .open ∧ (s.stream (p.queue % 2 ^ 22)).epoch = p.epoch ∧
    (p.incarnation = 0 ∨ p.incarnation = s.rd R.CERGA_INCARNATION_VALUE) ∧ s.taiSeconds < s.meter.current.start + 60 ∧
    s.shaperReady q.pd = true ∧ s.eng.waiting = []

/-- A Cerga packet is the next one of its stream, a first packet of the right format (steps 5 to 7 of Table 5-11). -/
abbrev CergaNext (s : State) (opcode : Nat) (p : CergaPacket) (q : QueueRec) : Prop :=
  CergaReaches s p q ∧ seqAbove p.seq (s.stream (p.queue % 2 ^ 22)).cum = 0 ∧
    (s.stream (p.queue % 2 ^ 22)).map.contains p.seq = false ∧ p.offset = 0 ∧ formatOk opcode p = true ∧ s.cerga.held = []

/-- A RoCEv2 packet finds its QP's context, and has the PSN that the QP expects (R120 to R127). -/
abbrev RoceReaches (s : State) (p : RocePacket) (q : Nat) (x : Qp) : Prop :=
  PortTakes s p.port p.queued p.frame ∧ p.udpPort = 4791 ∧ s.on R.ROCE_CTRL_ENABLE = true ∧
    (if p.ipv6 then s.on R.ROCE_CTRL_IPV6 else s.on R.ROCE_CTRL_IPV4 && p.ipSumOk) = true ∧ p.icrcOk = true ∧
    qpIndex p.qpn = some q ∧ s.qp? q = some x ∧ s.qpAnswers q = true ∧ s.qpLeaving q = false ∧ s.roce.parked = [] ∧
    s.roce.cache.contains q = true ∧ p.srcIp = x.dip ∧ x.owed.any (·.fatal.isSome) = false ∧ psnAbove p.psn x.epsn = 0 ∧
    s.ledgerMatch 2 (qpn q) p.psn = false ∧ x.write = none

/-- A domain message of this type and body passes the checks of R88 and carries its tag (R337). -/
abbrev DomainTakes (s : State) (type : Nat) (h : DomainHeader) (body : List Nat) : Prop :=
  h.tag = s.domainTag type h body ∧ s.coreOn = true ∧ s.on R.DOMAIN_CTRL_ENABLE = true ∧ h.udpPort = s.rd R.DOMAIN_CTRL_UDP_PORT ∧
    s.save.active = false ∧ DomainHeader.intact h = true ∧ s.rd R.DOMAIN_STATUS_STATE ≠ 0

/-- A domain request reaches the active for the first time (R338). -/
abbrev DomainAsks (s : State) (type : Nat) (h : DomainHeader) (body : List Nat) : Prop :=
  DomainTakes s type h body ∧ s.isActive = true ∧
    s.domain.answered.any (fun a => DomainAnswer.answers a h.srcPair h.srcSide h.msgId) = false ∧
    s.domain.waiting.any (fun w => DomainAnswer.answers w.2 h.srcPair h.srcSide h.msgId) = false

/-- A witness question reaches a witness that keeps the record `w` of the sender's pair (R340, R341). -/
abbrev WitnessAsks (s : State) (type : Nat) (h : DomainHeader) (body : List Nat) (w : WitnessRec) : Prop :=
  DomainAsks s type h body ∧ AMap.get? s.domain.records h.srcPair = some w

/-- A domain message answers the request `q` of this H9 (R338). -/
abbrev DomainAnswers (s : State) (type : Nat) (h : DomainHeader) (body : List Nat) (q : DomainRequest) : Prop :=
  DomainTakes s type h body ∧ s.asked h = some q

/-- The last answer that has been given, or that waits for the standby to hold what stands behind it (R338, R340). -/
abbrev Replied (t : State) (a : DomainAnswer) : Prop :=
  t.domain.answered.getLast? = some a ∨ t.domain.waiting.getLast?.map (·.2) = some a

/-- The H9 is paired and its Braze link is UP. -/
abbrev Linked (s : State) : Prop := s.coreOn = true ∧ s.paired = true ∧ s.linkUp = true

/-- The link is UP and takes items: no frame is asked for again (R167). -/
abbrev ItemTakes (s : State) : Prop := Linked s ∧ s.twin.discarding = false

/-- No operation runs, nothing waits for admission or stands in an ingress buffer, and the gather buffer is empty. -/
abbrev NothingRuns (s : State) : Prop :=
  s.eng.ops = [] ∧ s.eng.gather = [] ∧ s.eng.waiting = [] ∧ s.ports.waiting = [] ∧ s.twin.ingress = []

/-- A Braze frame with this item has left between two states (R165, R168). -/
abbrev FrameSent (s t : State) (i : BrazeItem) : Prop :=
  (t.out.drop s.out.length).any (fun o => match o with
    | .brazeFrame f => f.items.contains i
    | _ => false) = true

/-- The MIRROR_ACK of what a standby has accepted (R174). -/
def State.ackItem (s : State) : BrazeItem := plainItem 4 (ackBody ((rangeFrom 0 32).map (fun q => (AMap.get? s.twin.accepted q).getD 0)))

/-- The commands that may write the contents of DRAM, of the durability image or their poison marks. -/
def WritesMemory : Instr → Prop
  | .assayDigest .. | .assayEpochClose .. | .assemblyTimerExpiry .. | .brazeDeadTimeout | .brazeFrame .. |
    .brazeLossOfSignal | .brazeTrainingComplete .. | .caParityError .. | .cacheLock .. | .cacheRangeInvalidate .. | .cas16
    .. | .cas8 .. | .clientAcknowledgement .. | .cmpswap .. | .cnp .. | .command .. | .confirm .. | .contextFetchComplete ..
    | .debugExpiry | .domainJoin .. | .drainComplete .. | .dramSensorRead .. | .dramTrainingComplete .. | .dropRemainder ..
    | .fadd8 .. | .fence .. | .fetchadd .. | .firmwareLoadComplete .. | .flashProgramComplete .. | .gatherApply .. | .grant
    .. | .hallmark .. | .handover .. | .handoverAck .. | .heldPacketAdmission .. | .holdAdmission | .holdTimeout .. | .ident
    .. | .journalReplayComplete .. | .keeperCommit .. | .keyDestroy .. | .leaseAck .. | .ledgerQuery .. | .lifecycleRequest
    .. | .lifecycleSubmit .. | .markGrant .. | .mboxWrite .. | .memopRead .. | .memopWrite .. | .mirror .. | .mirrorAck .. |
    .mirrorAckTimeout | .mirrorCont .. | .nearCacheEnable .. | .nearFillComplete .. | .nearFlushComplete |
    .operationCompletion .. | .pdDestroy .. | .pdUnbindRegion .. | .poisonRepairComplete .. | .portAdmissionOpen .. |
    .powerUpStepEnd .. | .push .. | .qpContextFetchComplete .. | .qpDestroy .. | .qpModify .. | .queueDestroy .. | .quiesce
    .. | .rdmaReadRequest .. | .rdmaWrite .. | .read .. | .refclkLost .. | .refuse .. | .regionDestroy .. | .regionResize ..
    | .regionSetFlags .. | .registerWrite .. | .resetNAssert .. | .restoreUnit .. | .resume .. | .resyncCtrl .. |
    .resyncData .. | .resyncUnitSend | .roceAssemblyTimeout .. | .roceUnsupportedOpcode .. | .saveSequenceEnd .. |
    .saveStepComplete | .scheduleAdvance .. | .scheduleDrop .. | .scrub .. | .shadow .. | .shaperRelease .. | .shaperSet ..
    | .shelfObjectDrop .. | .shelfObjectLoad .. | .shelfRead .. | .spprComplete .. | .status .. | .svcAddressWrite .. |
    .tableReloadComplete .. | .tagWaitTimeout .. | .tile .. | .tileEvictionComplete .. | .tileFillProgress .. |
    .tileRecoveryComplete .. | .timeQuery .. | .trialTimeout .. | .twinPageTimeout .. | .twinPair .. | .twinResync .. |
    .twinSwitch .. | .verdict .. | .write .. | .writeBackIssue .. | .yieldDrainBound | .zeroFillComplete .. => True
  | _ => False

/-- The commands that may write the protection domains. -/
def WritesPds : Instr → Prop
  | .accountBind .. | .command .. | .debugExpiry | .drainComplete .. | .gracePeriodEnd .. | .keyDestroy .. |
    .lifecycleRequest .. | .lifecycleSubmit .. | .pdCreate .. | .pdDestroy .. | .pdUnbindRegion .. | .powerUpStepEnd .. |
    .push .. | .qpDestroy .. | .qpModify .. | .queueDestroy .. | .regionDestroy .. | .regionResize .. | .resetNAssert .. |
    .saveSequenceEnd .. | .spacekeySet .. | .trialTimeout .. => True
  | _ => False

/-- The commands that may write the regions. -/
def WritesRegions : Instr → Prop
  | .accountBind .. | .brazeFrame .. | .brazeTrainingComplete .. | .command .. | .debugExpiry | .domainJoin .. |
    .drainComplete .. | .handoverAck .. | .keyDestroy .. | .lifecycleRequest .. | .lifecycleSubmit .. | .pdDestroy .. |
    .pdUnbindRegion .. | .powerUpStepEnd .. | .push .. | .qpDestroy .. | .qpModify .. | .queueDestroy .. | .refuse .. |
    .regionCreate .. | .regionDestroy .. | .regionResize .. | .regionSetFlags .. | .resetNAssert .. | .saveSequenceEnd .. |
    .saveStepComplete | .scheduleDrop .. | .scheduleLoad .. | .trialTimeout .. | .zeroFillComplete .. => True
  | _ => False

/-- The commands that may write the key slots. -/
def WritesSlots : Instr → Prop
  | .brazeFrame .. | .brazeTrainingComplete .. | .cipherOp .. | .command .. | .debugExpiry | .drainComplete .. |
    .handoverAck .. | .journalReplayComplete .. | .keyCommit .. | .keyDestroy .. | .lifecycleRequest .. | .lifecycleSubmit
    .. | .pdDestroy .. | .pdUnbindRegion .. | .powerUpStepEnd .. | .push .. | .qpDestroy .. | .qpModify .. | .queueDestroy
    .. | .refuse .. | .regionDestroy .. | .regionResize .. | .resetNAssert .. | .saveSequenceEnd .. | .saveStepComplete |
    .trialTimeout .. => True
  | _ => False

/-- The commands that may write the key registers. -/
def WritesKeyRegs : Instr → Prop
  | .firmwareLoadComplete .. | .keeperCommit .. | .keyCommit .. | .mboxWrite .. | .powerUpStepEnd .. | .registerWrite .. |
    .resetNAssert .. | .saveSequenceEnd .. | .svcAddressWrite .. | .trialTimeout .. => True
  | _ => False

/-- The commands that may write the keeper flash's words. -/
def WritesFlashWords : Instr → Prop
  | .firmwareLoadComplete .. | .fwStage .. | .keeperFlashOpComplete .. | .logSectorErase .. | .powerOn .. => True
  | _ => False

/-- The commands that may write the persistent log. -/
def WritesLog : Instr → Prop
  | .keeperLogAppend | .keeperSupplyLow .. | .powerOn .. | .repeatSlotTimer => True
  | _ => False

/-- The commands that may write the DRAM's log of bad rows. -/
def WritesDramLog : Instr → Prop
  | .nearFillComplete .. | .scrub .. => True
  | _ => False

/-- The commands that may write the Cerga queues. -/
def WritesQueues : Instr → Prop
  | .brazeFrame .. | .brazeTrainingComplete .. | .command .. | .debugExpiry | .drainComplete .. | .handoverAck .. |
    .keyDestroy .. | .lifecycleRequest .. | .lifecycleSubmit .. | .pdDestroy .. | .pdUnbindRegion .. | .powerUpStepEnd .. |
    .push .. | .qpDestroy .. | .qpModify .. | .queueCreate .. | .queueDestroy .. | .refuse .. | .regionDestroy .. |
    .regionResize .. | .resetNAssert .. | .saveSequenceEnd .. | .saveStepComplete | .trialTimeout .. => True
  | _ => False

/-- The commands that may write the ledger. -/
def WritesLedger : Instr → Prop
  | .brazeDeadTimeout | .brazeFrame .. | .brazeLossOfSignal | .brazeTrainingComplete .. | .confirm .. | .debugExpiry |
    .dramTrainingComplete .. | .dropRemainder .. | .grant .. | .handover .. | .handoverAck .. | .ident .. |
    .journalReplayComplete .. | .leaseAck .. | .ledgerRead .. | .ledgerReleaseTimeout | .lifecycleRequest .. |
    .lifecycleSubmit .. | .mirror .. | .mirrorCont .. | .operationCompletion .. | .powerUpStepEnd .. | .refclkLost .. |
    .refuse .. | .resetNAssert .. | .resume .. | .saveSequenceEnd .. | .saveStepComplete | .trialTimeout .. | .twinPair .. |
    .twinSwitch .. | .yieldDrainBound => True
  | _ => False

/-- The commands that may write the accounts. -/
def WritesAccounts : Instr → Prop
  | .accountCreate .. | .brazeDeadTimeout | .brazeFrame .. | .brazeLossOfSignal | .brazeTrainingComplete .. | .cas16 .. |
    .cas8 .. | .clientAcknowledgement .. | .cmpswap .. | .cnp .. | .command .. | .confirm .. | .contextFetchComplete .. |
    .debugExpiry | .dramTrainingComplete .. | .dropRemainder .. | .fadd8 .. | .fence .. | .fetchadd .. | .grant .. |
    .hallmark .. | .handover .. | .handoverAck .. | .heldPacketAdmission .. | .holdAdmission | .holdTimeout .. |
    .journalReplayComplete .. | .keyDestroy .. | .leaseAck .. | .ledgerQuery .. | .lifecycleRequest .. | .lifecycleSubmit ..
    | .memopRead .. | .memopWrite .. | .mirror .. | .mirrorCont .. | .operationCompletion .. | .pdDestroy .. |
    .pdUnbindRegion .. | .portAdmissionOpen .. | .powerUpStepEnd .. | .ppsInEdge .. | .ptpMessage .. | .push .. |
    .qpContextFetchComplete .. | .qpDestroy .. | .qpModify .. | .queueDestroy .. | .rdmaReadRequest .. | .rdmaWrite .. |
    .read .. | .refclkLost .. | .refuse .. | .regionDestroy .. | .regionResize .. | .resetNAssert .. | .resume .. |
    .roceUnsupportedOpcode .. | .saveSequenceEnd .. | .saveStepComplete | .scheduleAdvance .. | .settleLimit |
    .shaperRelease .. | .shaperSet .. | .shelfRead .. | .status .. | .tableReloadComplete .. | .tagWaitTimeout .. |
    .taiSecond | .timeQuery .. | .trialTimeout .. | .twinPair .. | .twinSwitch .. | .write .. | .yieldDrainBound => True
  | _ => False

/-- The commands that may write the domain's members. -/
def WritesMembers : Instr → Prop
  | .command .. | .confirm .. | .debugExpiry | .dirAck .. | .dirUpdate .. | .domainJoin .. | .domainLeave .. |
    .drainComplete .. | .epochRegister .. | .grant .. | .grantRequest .. | .join .. | .joinAck .. | .keyDestroy .. | .leave
    .. | .lifecycleRequest .. | .lifecycleSubmit .. | .markClear .. | .markGrant .. | .markRequest .. | .meterRecord .. |
    .pdCreate .. | .pdDestroy .. | .pdUnbindRegion .. | .powerUpStepEnd .. | .push .. | .pushAck .. | .qpDestroy .. |
    .qpModify .. | .queueCreate .. | .queueDestroy .. | .refuse .. | .regionDestroy .. | .regionResize .. | .resetNAssert ..
    | .saveSequenceEnd .. | .spacekeySet .. | .statusReport .. | .trialTimeout .. | .witnessRenew .. => True
  | _ => False

/-- The commands that may write the firmware slots. -/
def WritesFirmware : Instr → Prop
  | .firmwareLoadComplete .. | .fwStage .. | .mgmtCoreMemoryUe .. | .powerUpStepEnd .. | .resetNAssert .. | .saveSequenceEnd
    .. | .trialTimeout .. | .watchdogExpiry .. => True
  | _ => False

/-- The commands that may write the captured halves of counter pairs. -/
def WritesCaptures : Instr → Prop
  | .counterPairCapture .. | .mboxRead .. | .powerUpStepEnd .. | .resetNAssert .. | .saveSequenceEnd .. | .trialTimeout .. => True
  | _ => False

/-- The commands that may write the save in progress. -/
def WritesSave : Instr → Prop
  | .bankAtFloor | .debugExpiry | .feedLoss .. | .firmwareLoadComplete .. | .fwActivate .. | .globalResetFire |
    .hardCutCondition .. | .junctionOvertemp .. | .keeperCommit .. | .keeperSupplyLow .. | .lifecycleRequest .. |
    .lifecycleSubmit .. | .mboxWrite .. | .powerOn .. | .powerUpStepEnd .. | .quiesce .. | .railFaultHold .. |
    .railHardLimitBreach .. | .refclkLost .. | .registerWrite .. | .resetNAssert .. | .saveNow .. | .saveSequenceEnd .. |
    .saveStepComplete | .senseInputReversed .. | .svcAddressWrite .. | .thermTripNAssert .. | .trialTimeout .. => True
  | _ => False

/-- The commands that may write the software's configuration fields: register writes by each path, the start's firmware, which
re-applies the settings blob, the keeper's power-on, which loads the stored settings, and what takes the core die's supply away. -/
def WritesConfiguration : Instr → Prop
  | .firmwareLoadComplete .. | .registerWrite .. | .mboxWrite .. | .keeperCommit .. | .svcAddressWrite .. | .powerOn .. | .bankAtFloor |
    .feedLoss .. | .hardCutCondition .. | .junctionOvertemp .. | .keeperSupplyLow .. | .pmbusAlert .. | .railHardLimitBreach .. |
    .rampTimeout .. | .saveSequenceEnd .. | .senseInputReversed .. | .thermTripNAssert .. => True
  | _ => False

end Machine

end Sys2Proof
end

