-- ==== Sys2Proof/Certificates/Slice0/Obligations.lean ====
section
/-! DEFINITION. The statements for the provers: what the commands of each family do, what they leave alone, and what every step keeps. -/

open Sys2Proof Sys2Proof.Machine

/-- A step takes the command at the front of the queue and runs its meaning on the state with the queue's rest; with an empty queue it is
one tick of the clock, in which a nanosecond passes and nothing else changes (the model's choice: assumption log 4). -/
def Obligations.StepTakesTheFront : Prop :=
  (∀ (s : State) (c : Instr) (rest : List Instr), s.pending = c :: rest → step s = exec c { s with pending := rest }) ∧
  (∀ s : State, s.pending = [] →
       ∃ t, step s = .next t ∧ t.time.count = s.time.count + 1 ∧ t.time.tai = s.time.tai + 1 ∧
         { t with time.count := s.time.count, time.tai := s.time.tai } = s)

/-- What reset leaves: every field of every register stands at its value after reset (where the spec gives none, at the value of assumption
logs 1 and 2), the DRAM and image contents are in canonical form, and nothing is in flight or waits in the queue. -/
def Obligations.Reset : Prop :=
  (∀ (f : Fld) (n : Nat), State.reset.rdN f n = f.reset n) ∧
  (Mem.wf State.reset.mem.dram = true ∧ Mem.wf State.reset.mem.image = true) ∧
  (State.reset.cmds = [] ∧ State.reset.pending = [] ∧ State.reset.out = [])

/-- No command ends in a fault or a refusal in any state, so that a run of any length from any state goes on. -/
def Obligations.NoCommandStops : Prop :=
  ∀ s : State, Safe s

/-- Every step of every command, in every state, keeps the contents of DRAM and of the durability image in canonical form: addresses
strictly rising, and no entry for a byte that reads 0. Equal contents are therefore equal data after any run. -/
def Obligations.MemoriesStayCanonical : Prop :=
  ∀ s t : State, Mem.wf s.mem.dram = true → Mem.wf s.mem.image = true → step s = .next t →
       Mem.wf t.mem.dram = true ∧ Mem.wf t.mem.image = true

/-- The effect of a command leaves the queue as it was, and takes no time: the unstepped count advances by an idle step alone (the model's
choice: assumption log 4). -/
def Obligations.QueueAndClockAreTheSteps : Prop :=
  (∀ (c : Instr) (s t : State), exec c s = .next t → t.pending = s.pending) ∧
  (∀ (c : Instr) (s t : State), exec c s = .next t → t.time.count = s.time.count)

/-- A command that is not in the list of `WritesMemory` leaves every byte of DRAM and of the durability image, and every poison mark, as it was: every address reads as before. -/
def Obligations.MemoryFrame : Prop :=
  ∀ (c : Instr) (s t : State), exec c s = .next t → ¬ WritesMemory c → t.mem = s.mem

/-- The tables of the pair: a command outside the list of each table leaves the protection domains, the regions, the accounts and the domain's members as they were. -/
def Obligations.TablesFrame : Prop :=
  (∀ (c : Instr) (s t : State), exec c s = .next t → ¬ WritesPds c → t.prot.pds = s.prot.pds) ∧
  (∀ (c : Instr) (s t : State), exec c s = .next t → ¬ WritesRegions c → t.prot.regions = s.prot.regions) ∧
  (∀ (c : Instr) (s t : State), exec c s = .next t → ¬ WritesAccounts c → t.meter.accounts = s.meter.accounts) ∧
  (∀ (c : Instr) (s t : State), exec c s = .next t → ¬ WritesMembers c → t.domain.members = s.domain.members)

/-- A command outside the list of each leaves the key slots and the write-only key registers as they were. -/
def Obligations.SecretsFrame : Prop :=
  (∀ (c : Instr) (s t : State), exec c s = .next t → ¬ WritesSlots c → t.crypt.slots = s.crypt.slots) ∧
  (∀ (c : Instr) (s t : State), exec c s = .next t → ¬ WritesKeyRegs c → t.keyRegs = s.keyRegs)

/-- What outlasts a power loss in the keeper: a command outside the list of each leaves the keeper flash's words, the persistent log, the DRAM's log of bad rows and the firmware slots as they were. -/
def Obligations.KeeperFlashFrame : Prop :=
  (∀ (c : Instr) (s t : State), exec c s = .next t → ¬ WritesFlashWords c → t.keeper.flash.words = s.keeper.flash.words) ∧
  (∀ (c : Instr) (s t : State), exec c s = .next t → ¬ WritesLog c → t.keeper.flash.log = s.keeper.flash.log) ∧
  (∀ (c : Instr) (s t : State), exec c s = .next t → ¬ WritesDramLog c → t.dram.log = s.dram.log) ∧
  (∀ (c : Instr) (s t : State), exec c s = .next t → ¬ WritesFirmware c → t.fw = s.fw)

/-- A command outside the list of each leaves the Cerga queues, the save ledger, the save in progress and the captured halves of the counter pairs as they were. -/
def Obligations.QueuesAndLedgerFrame : Prop :=
  (∀ (c : Instr) (s t : State), exec c s = .next t → ¬ WritesQueues c → t.cerga.queues = s.cerga.queues) ∧
  (∀ (c : Instr) (s t : State), exec c s = .next t → ¬ WritesLedger c → t.ledger = s.ledger) ∧
  (∀ (c : Instr) (s t : State), exec c s = .next t → ¬ WritesSave c → t.save = s.save) ∧
  (∀ (c : Instr) (s t : State), exec c s = .next t → ¬ WritesCaptures c → t.captures = s.captures)

/-- Every software-written (RW) field of these register blocks reads the same after every command but those of `WritesConfiguration`: register writes over PCIe or the management path, the start's firmware, the keeper's power-on, and what takes the core die's supply away. -/
def Obligations.ConfigurationFrame : Prop :=
  ∀ (c : Instr) (s t : State) (f : Fld) (n : Nat), exec c s = .next t → ¬ WritesConfiguration c → f ∈ R.fieldsPACE ++ R.fieldsCERGA ++ R.fieldsROCE ++ R.fieldsPROT ++ R.fieldsDUR ++ R.fieldsTWIN ++ R.fieldsDRAM ++ R.fieldsFLASH ++ R.fieldsINTEG ++ R.fieldsMETER ++ R.fieldsLIFE ++ R.fieldsEVENT → f.acc = .rw → t.rdN f n = s.rdN f n

/-- After reset, EVENT_ROUTE_s of every source that Table 24-2 lists holds OFF 0 and RING ⌊group / 2⌋, the group of source s being s / 16: groups
0 and 1 go to event ring 0, and groups 14 and 15 to ring 7. Every reserved source holds OFF 1 and RING 0. -/
def Obligations.EventRoutesAfterReset : Prop :=
  (∀ src : Nat, src < 256 → isListedSource src = true →
       State.reset.rdN R.EVENT_ROUTE_OFF src = 0 ∧ State.reset.rdN R.EVENT_ROUTE_RING src = src / 16 / 2) ∧
  (∀ src : Nat, src < 256 → isListedSource src = false →
       State.reset.rdN R.EVENT_ROUTE_OFF src = 1 ∧ State.reset.rdN R.EVENT_ROUTE_RING src = 0) ∧
  ((∃ src, isListedSource src = true ∧ src / 16 = 1 ∧ State.reset.rdN R.EVENT_ROUTE_RING src = 0) ∧
       (∃ src, isListedSource src = true ∧ src / 16 = 15 ∧ State.reset.rdN R.EVENT_ROUTE_RING src = 7))

/-- A software reset takes two writes to GLOBAL_RESET (0x1C). The write of 0xA55A sets RESET_ARMED for 1 ms; the write of 0x5AA5 while RESET_ARMED
is set starts a save with trigger 3, whose action is the restart of the core; any other write, or the end of the 1 ms, clears RESET_ARMED. While a
save runs, both values are ignored. -/
def Obligations.SoftwareReset : Prop :=
  (∀ s : State, s.reaches .pcie 0x1C = true → s.save.active = false →
       ∃ t, exec (.registerWrite 0x1C 0xA55A true) s = .next t ∧ t.on R.GLOBAL_STATUS_RESET_ARMED = true ∧ t.armedEnd = some (s.now + ms 1) ∧
         t.save = s.save) ∧
  (∀ s : State, s.reaches .pcie 0x1C = true → s.save.active = false → s.on R.GLOBAL_STATUS_RESET_ARMED = true →
       ∃ t, exec (.registerWrite 0x1C 0x5AA5 true) s = .next t ∧ t.save.active = true ∧ t.save.step = 1 ∧ t.save.trigger = 3 ∧
         t.save.action = .restart) ∧
  (∀ (s : State) (v : Nat), s.reaches .pcie 0x1C = true → v % 2 ^ 32 ≠ 0xA55A → v % 2 ^ 32 ≠ 0x5AA5 →
       ∃ t, exec (.registerWrite 0x1C v true) s = .next t ∧ t.on R.GLOBAL_STATUS_RESET_ARMED = false ∧ t.armedEnd = none ∧ t.save = s.save) ∧
  (∀ s : State, s.coreOn = true → due s.now s.armedEnd = true →
       ∃ t, exec .resetArmExpiry s = .next t ∧ t.on R.GLOBAL_STATUS_RESET_ARMED = false ∧ t.armedEnd = none ∧ t.save = s.save) ∧
  (∀ s : State, s.reaches .pcie 0x1C = true → s.save.active = true →
       exec (.registerWrite 0x1C 0xA55A true) s = .next s ∧ exec (.registerWrite 0x1C 0x5AA5 true) s = .next s)

/-- Register accesses over PCIe and the management path: what each row leaves where the path reaches the register (R2, R417, R462 to
R464, R469, R470). -/
def Obligations.RegisterAccesses : Prop :=
  (∀ (s : State) (off v : Nat), s.reaches .pcie off = true →
       ∃ t, exec (.registerWrite off v false) s = .next t ∧ t.on R.GLOBAL_STATUS_ACCESS_ERR = true ∧
         ∀ f n, R.GLOBAL_STATUS_ACCESS_ERR.key 0 ≠ f.key n → t.rdN f n = s.rdN f n) ∧
  (∀ (s : State) (v : Nat), s.reaches .pcie 0x20 = true →
       ∃ t, exec (.registerWrite 0x20 v true) s = .next t ∧ t.rd R.GLOBAL_SCRATCH_VALUE = v % 2 ^ 32 ∧
         ∀ f n, R.GLOBAL_SCRATCH_VALUE.key 0 ≠ f.key n → t.rdN f n = s.rdN f n) ∧
  (∀ (s : State) (v : Nat), exec (.registerWrite 0x0 v true) s = .next s) ∧
  (∀ (s : State) (p : Path) (off : Nat), s.reaches p off = true → off % 4 = 0 → roHalf 0 off = true → off < 0x198000 →
       ∃ t, exec (.counterPairCapture p off) s = .next t ∧ AMap.get? t.captures (captureKey p off) = some (s.wordAt p (off + 4)) ∧
         t.regs = s.regs) ∧
  (∀ s : State, s.reaches .pcie 0x1C = true → s.save.active = false →
       ∃ t, exec .globalResetArm s = .next t ∧ t.on R.GLOBAL_STATUS_RESET_ARMED = true ∧ t.armedEnd = some (s.now + ms 1)) ∧
  (∀ s : State, s.reaches .pcie 0x1C = true → s.save.active = false → s.on R.GLOBAL_STATUS_RESET_ARMED = true →
       ∃ t, exec .globalResetFire s = .next t ∧ t.save.active = true ∧ t.save.step = 1 ∧ t.save.trigger = 3 ∧
         t.save.action = .restart ∧ t.armedEnd = none ∧ t.on R.GLOBAL_STATUS_RESET_ARMED = false) ∧
  (∀ s : State, s.coreOn = true → due s.now s.armedEnd = true →
       ∃ t, exec .resetArmExpiry s = .next t ∧ t.on R.GLOBAL_STATUS_RESET_ARMED = false ∧ t.armedEnd = none ∧ t.save = s.save) ∧
  (∀ (s : State) (v : Nat), s.reaches .pcie 0x38 = true → s.isActive = true → s.inGap = false → s.start.presented = true →
       s.save.active = false →
       ∃ t, exec (.svcAddressWrite 0x38 v) s = .next t ∧ t.rd R.GLOBAL_SVC_IP4_ADDR = v % 2 ^ 32 ∧
         t.out = s.out ++ (((rangeFrom 0 64).filter (fun n => (s.port (n / 4)).link (n % 4) == 2)).flatMap
           (fun n => [Out.announce n false (s.portVlan (n / 4)), Out.announce n true (s.portVlan (n / 4))])) ∧
         t.twin.announce = [s.now + ms 1, s.now + ms 2]) ∧
  (∀ (s : State) (p : Path) (v : Nat), s.reaches p 0x190000 = true →
       ∃ t, exec (.keeperCommit p v) s = .next t ∧ ∀ f ∈ R.fieldsKEEPER, f.acc = .rw → ∀ n, n < f.count →
         AMap.get? t.keeper.flash.settings (f.key n) = AMap.get? t.regs (f.key n)) ∧
  (∀ (s : State) (port addr : Nat), s.coreOn = true → port < 64 → s.rdN R.PORT_CTRL_ENABLE (port / 4) = 1 →
       (s.port (port / 4)).link (port % 4) = 2 → addr ≠ 0 → addr = s.rd R.GLOBAL_OWN_IP4_ADDR →
       ∃ t, exec (.arpRequest port false addr) s = .next t ∧ t.out = s.out ++ [.arpReply port (Config.ownMac + port) addr])

/-- The management mailbox and the life-cycle requests (R414, R415, R429, R383 to R386, R395): each request is answered in the output FIFO
with its own header, STATUS and words, and an accepted change starts the save that carries it. -/
def Obligations.MailboxAndLifeCycle : Prop :=
  (∀ (s : State) (seq off : Nat), s.keeperRuns = true → mboxReaches off = true → off < 0x198000 →
       ∃ t, exec (.mboxRead seq off) s = .next t ∧ t.keeper.fifoOut = [0x81 * 2 ^ 24 + 2 * 2 ^ 16 + seq % 2 ^ 16, 0, (s.readPath .mgmt off).1] ∧
         t.regs = s.regs) ∧
  (∀ (s : State) (seq off v : Nat), s.keeperRuns = true → mboxReaches off = true →
       ∃ t, exec (.mboxWrite seq off v) s = .next t ∧ t.keeper.fifoOut = [0x82 * 2 ^ 24 + 2 ^ 16 + seq % 2 ^ 16, 0] ∧
         t.regs = (s.writePath .mgmt off v).regs ∧ t.out = (s.writePath .mgmt off v).out) ∧
  (∀ (s : State) (seq : Nat) (ok : Bool), s.keeperRuns = true → s.rd R.LIFE_STATE_LIFECYCLE ≠ 4 → s.rd R.KEEPER_STATUS_SEQ_STATE = 6 →
       s.anyFeedOk = false →
       ∃ t, exec (.wake seq ok) s = .next t ∧ t.rd R.KEEPER_STATUS_SEQ_STATE = 0 ∧ t.keeper.waitStart = true ∧ t.rd R.KEEPER_STATUS_RETRIES = 0 ∧
         t.keeper.fifoOut = [0x83 * 2 ^ 24 + 2 ^ 16 + seq % 2 ^ 16, 0]) ∧
  (∀ (s : State) (seq : Nat), s.keeperRuns = true →
       ∃ t, exec (.mboxStatus seq) s = .next t ∧ t.keeper.fifoOut = [0x84 * 2 ^ 24 + 4 * 2 ^ 16 + seq % 2 ^ 16, 0,
         s.readWord 0x190004, s.readWord 0x19000C, s.readWord 0x180000] ∧ t.regs = s.regs) ∧
  (∀ (s : State) (seq start : Nat) (r : LogRecord), s.keeperRuns = true →
       s.keeper.flash.log.find? (fun x => x.seq == start % 2 ^ 32) = some r →
       ∃ t, exec (.eventRead seq start 1) s = .next t ∧ t.keeper.fifoOut =
         (0x85 * 2 ^ 24 + ((wordsOf r.bytes 16).length + 1) * 2 ^ 16 + seq % 2 ^ 16) :: 0 :: wordsOf r.bytes 16 ∧ t.regs = s.regs) ∧
  (∀ (s : State) (seq off : Nat) (ws : List Nat), s.keeperRuns = true → off % 4 = 0 → 0 < off → ws.length ≤ 60 → off + 4 * ws.length ≤ 7512 →
       ∃ t, exec (.authChunk seq off ws) s = .next t ∧ t.keeper.staging = Mem.writeN s.keeper.staging off ((ws.map (leBytes 4)).flatten.take (7515 - off)) ∧
         t.keeper.fifoOut = [0x86 * 2 ^ 24 + 2 ^ 16 + seq % 2 ^ 16, 0] ∧ t.regs = s.regs) ∧
  (∀ (s : State) (seq kind target len : Nat) (signed : Bool), s.keeperRuns = true → s.coreOn = true → s.save.active = false →
       kind = 1 → target = 0 → len = 0 → s.on R.FW_STATUS_TEST_IMAGE = false →
       ∃ t, exec (.lifecycleSubmit seq kind target len signed) s = .next t ∧ t.save.active = true ∧ t.save.trigger = 5 ∧
         t.save.action = .restart ∧ t.save.change = some ⟨true, 0, 0, 0⟩ ∧ t.keeper.staging = [] ∧
         t.keeper.fifoOut = [0x87 * 2 ^ 24 + 2 * 2 ^ 16 + seq % 2 ^ 16, 0, 0]) ∧
  (∀ (s : State) (r : CmdRef) (c : Cmd) (b : AuthBlob), Accepts s r 0x0804 c → s.on R.FW_STATUS_TEST_IMAGE = false →
       ∃ t, exec (.lifecycleRequest r 1 0 0 b) s = .next t ∧ t.save.active = true ∧ t.save.trigger = 5 ∧ t.save.action = .restart ∧
         t.save.change = some ⟨true, 0, 0, 0⟩ ∧ Ended t c St.DONE 0 s.nextSaveSeq) ∧
  (∀ s : State, s.keeperRuns = true → s.rd R.LIFE_STATE_DEBUG = 1 → due s.now s.keeper.debugEnd = true → s.coreOn = true → s.save.active = false →
       ∃ t, exec .debugExpiry s = .next t ∧ t.save.active = true ∧ t.save.trigger = 5 ∧ t.save.action = .restart ∧ t.save.change = some ⟨true, 0, 0, 0⟩)

/-- The rails in power-up, service and shut-down (R399 to R405): failed ramps, retries, window faults, sense faults, hard limits, and the ends of
shut-down steps. -/
def Obligations.RailSequencing : Prop :=
  (∀ (s : State) (n : Nat), s.keeperRuns = true → s.rd R.KEEPER_STATUS_SEQ_STATE = 1 → n < 16 → s.rdN R.KEEPER_RAIL_STATUS_STATE n = 1 →
       (s.rail n).commandedAt + ms (s.railRd R.KEEPER_RAIL_TIME_RAMP_MS n) ≤ s.now →
       ∃ t, exec (.rampTimeout n) s = .next t ∧ t.rd R.KEEPER_STATUS_RETRIES = min 3 (s.rd R.KEEPER_STATUS_RETRIES + 1) ∧
         t.rdN R.KEEPER_RAIL_STATUS_LAST_FAULT n = 1 ∧ t.rd R.KEEPER_RAIL_FAILED_MASK = (s.rd R.KEEPER_RAIL_FAILED_MASK ||| 2 ^ n) % 2 ^ 16) ∧
  (∀ s : State, s.keeperRuns = true → s.rd R.KEEPER_STATUS_SEQ_STATE = 0 → due s.now s.keeper.retryAt = true → s.anyFeedOk = true →
       s.thermReleased = true → s.rd R.LIFE_STATE_LIFECYCLE ≠ 4 → s.keeper.flash.romRecovery = false → s.startVMet = true →
       ∃ t, exec .powerUpRetry s = .next t ∧ t.rd R.KEEPER_STATUS_SEQ_STATE = 1) ∧
  (∀ (s : State) (n mv : Nat), s.keeperRuns = true → s.coreOn = true → n < 16 → s.railUsed n = true → s.inWindow n mv = true →
       ∃ t, exec (.railWindowFault n mv) s = .next t ∧ t.rdN R.KEEPER_RAIL_STATUS_SENSE_FAULT n = 1 ∧ t.rdN R.KEEPER_RAIL_STATUS_STATE n = 2 ∧
         t.rdN R.KEEPER_RAIL_STATUS_LAST_FAULT n = 2 ∧ t.rdN R.KEEPER_RAIL_STATUS_READ_MV n = mv % 2 ^ 16 ∧ t.save = s.save) ∧
  (∀ (s : State) (n mv : Nat), s.keeperRuns = true → s.coreOn = true → n < 16 → s.railUsed n = true → s.inWindow n mv = false →
       ∃ t, exec (.railWindowFault n mv) s = .next t ∧ t.rdN R.KEEPER_RAIL_STATUS_STATE n = 3 ∧ t.rdN R.KEEPER_RAIL_STATUS_LAST_FAULT n = 2 ∧
         t.rdN R.KEEPER_RAIL_STATUS_READ_MV n = mv % 2 ^ 16 ∧ (t.rail n).faultAt = some s.now ∧ t.save = s.save) ∧
  (∀ (s : State) (n : Nat), s.keeperRuns = true → s.coreOn = true → s.save.active = false → n < 16 → s.rdN R.KEEPER_RAIL_STATUS_STATE n = 3 →
       due s.now ((s.rail n).faultAt.map (· + ms 5)) = true →
       ∃ t, exec (.railFaultHold n) s = .next t ∧ t.save.active = true ∧ t.save.step = 1 ∧ t.save.trigger = 6 ∧ t.save.action = .keep) ∧
  (∀ (s : State) (n mv : Nat), s.keeperRuns = true → s.coreOn = true → n < 16 → s.rdN R.KEEPER_RAIL_STATUS_SENSE_FAULT n = 1 →
       ∃ t, exec (.readVoutPoll n mv) s = .next t ∧ t.rdN R.KEEPER_RAIL_STATUS_READ_MV n = mv % 2 ^ 16 ∧
         t.rdN R.KEEPER_RAIL_STATUS_STATE n = (if s.inWindow n mv then 2 else 3)) ∧
  (∀ (s : State) (n : Nat), s.keeperRuns = true → n < 16 → s.railUsed n = true → (s.rail n).on = true →
       ∃ t, exec (.railHardLimitBreach n) s = .next t ∧ t.save.active = false ∧ t.rdN R.KEEPER_RAIL_STATUS_LAST_FAULT n = 3 ∧
         t.rd R.KEEPER_RAIL_FAILED_MASK = (s.rd R.KEEPER_RAIL_FAILED_MASK ||| 2 ^ n) % 2 ^ 16) ∧
  (∀ s : State, s.keeperRuns = true → s.rd R.KEEPER_STATUS_SEQ_STATE = 4 → s.rd R.KEEPER_STATUS_SEQ_STEP = 1 → s.keeper.abortShutdown = false →
       s.keeper.keepAfter = false →
       ∃ t, exec .shutdownStepEnd s = .next t ∧ t.rd R.KEEPER_STATUS_SEQ_STATE = 5 ∧
         t.keeper.holdEnd = some (s.now + ms (100 * s.rd R.KEEPER_CTRL_RESTART_HOLD_100MS))) ∧
  (∀ (s : State) (n : Nat), s.keeperRuns = true → s.rd R.KEEPER_STATUS_SEQ_STATE = 4 → n < 16 → s.rdN R.KEEPER_RAIL_STATUS_STATE n = 5 →
       (s.rail n).commandedAt + ms (s.railRd R.KEEPER_RAIL_TIME_DISCH_MS n) ≤ s.now →
       ∃ t, exec (.dischargeTimer n) s = .next t ∧ t.rdN R.KEEPER_RAIL_STATUS_LAST_FAULT n = 4 ∧
         t.rd R.KEEPER_RAIL_FAILED_MASK = (s.rd R.KEEPER_RAIL_FAILED_MASK ||| 2 ^ n) % 2 ^ 16) ∧
  (∀ (s : State) (n : Nat), s.keeperRuns = true → s.rd R.KEEPER_STATUS_SEQ_STATE = 4 → n < 16 → s.railUsed n = true → (s.rail n).on = true →
       s.railRd R.KEEPER_RAIL_CFG_STEP n < s.rd R.KEEPER_STATUS_SEQ_STEP →
       ∃ t, exec (.shutdownRailCollapse n) s = .next t ∧ t.rdN R.KEEPER_RAIL_STATUS_LAST_FAULT n = 2 ∧
         t.rd R.KEEPER_RAIL_FAILED_MASK = (s.rd R.KEEPER_RAIL_FAILED_MASK ||| 2 ^ n) % 2 ^ 16)

/-- What FEED_LOSS, FEED_RETURNING, FEED_OK, PMBUS_ALERT, RESTART_HOLD_END, HOLDUP_BANK_AT_START_V, START_V_TIMEOUT, SENSE_INPUT_REVERSED,
KEEPER_SUPPLY_LOW and KEEPER_SUPPLY_RECOVERED leave where they take effect (R398, R406 to R409, R412, R413). -/
def Obligations.FeedsAndSupply : Prop :=
  (∀ (s : State) (a : Bool), s.keeperRuns = true → s.feedOk a = true → s.feedOk (!a) = true →
       ∃ t, exec (.feedLoss a) s = .next t ∧ t.rd (fFeedState a) = 2 ∧ (t.feed a).returnEnd = none ∧
         t.rd R.KEEPER_FEED_STATUS_LOSSES = min (2 ^ R.KEEPER_FEED_STATUS_LOSSES.width - 1) (s.rd R.KEEPER_FEED_STATUS_LOSSES + 1)) ∧
  (∀ (s : State) (a : Bool), s.keeperRuns = true → s.feedOk a = true → s.feedOk (!a) = false → s.rd R.KEEPER_STATUS_SEQ_STATE = 2 →
       s.start.fwDone = true → s.save.active = false →
       ∃ t, exec (.feedLoss a) s = .next t ∧ t.save.active = true ∧ t.save.step = 1 ∧ t.save.trigger = 1 ∧ t.save.action = .shutdown ∧
         t.save.onBank = true) ∧
  (∀ (s : State) (a : Bool), s.keeperRuns = true → ((AMap.get? s.keeper.inputs (if a then 3 else 4)).map (·.chattering)).getD false = false →
       s.rd (fFeedState a) = 2 →
       ∃ t, exec (.feedReturning a) s = .next t ∧ t.rd (fFeedState a) = 3 ∧
         (t.feed a).returnEnd = some (s.now + ms (10 * s.rd R.KEEPER_CTRL_RETURN_10MS))) ∧
  (∀ (s : State) (a : Bool), s.keeperRuns = true → s.rd (fFeedState a) = 3 → due s.now (s.feed a).returnEnd = true →
       ∃ t, exec (.feedOk a) s = .next t ∧ t.rd (fFeedState a) = 1 ∧ (t.feed a).returnEnd = none ∧ (t.feed a).wasOk = true) ∧
  (∀ (s : State) (n w : Nat), s.keeperRuns = true → n < 16 → (s.acceptAlert true).1 = true →
       ∃ t, exec (.pmbusAlert n (some w)) s = .next t ∧ t.rdN R.KEEPER_RAIL_STATUS_LAST_FAULT n = 5 ∧
         t.rd R.KEEPER_STATUS_SEQ_STATE = s.rd R.KEEPER_STATUS_SEQ_STATE) ∧
  (∀ s : State, s.keeperRuns = true → s.rd R.KEEPER_STATUS_SEQ_STATE = 5 → due s.now s.keeper.holdEnd = true → s.anyFeedOk = true →
       s.thermReleased = true → s.rd R.LIFE_STATE_LIFECYCLE ≠ 4 → s.keeper.flash.romRecovery = false → s.startVMet = true →
       ∃ t, exec .restartHoldEnd s = .next t ∧ t.rd R.KEEPER_STATUS_SEQ_STATE = 1 ∧ t.keeper.holdEnd = none ∧ t.keeper.waitStart = false) ∧
  (∀ s : State, s.keeperRuns = true → s.rd R.KEEPER_STATUS_SEQ_STATE = 5 → due s.now s.keeper.holdEnd = true → s.anyFeedOk = false →
       ∃ t, exec .restartHoldEnd s = .next t ∧ t.rd R.KEEPER_STATUS_SEQ_STATE = 0 ∧ t.keeper.holdEnd = none ∧ t.keeper.waitStart = true) ∧
  (∀ (s : State) (mv : Nat), s.keeperRuns = true → s.rd R.KEEPER_SENSE_DIV_HOLDUP_DIV16 ≠ 0 →
       ∃ t, exec (.holdupBankAtStartV mv) s = .next t ∧ t.rd R.DUR_BANK_V_VBANK_MV = mv % 2 ^ R.DUR_BANK_V_VBANK_MV.width) ∧
  (∀ s : State, s.keeperRuns = true → due s.now s.keeper.startVEnd = true → s.keeper.waitStart = true → s.rd R.KEEPER_STATUS_SEQ_STATE = 0 →
       s.anyFeedOk = true → s.thermReleased = true → s.rd R.LIFE_STATE_LIFECYCLE ≠ 4 → s.keeper.flash.romRecovery = false →
       ∃ t, exec .startVTimeout s = .next t ∧ t.rd R.KEEPER_STATUS_SEQ_STATE = 1 ∧ t.keeper.startVEnd = none ∧ t.keeper.waitStart = false) ∧
  (∀ s : State, s.keeperRuns = true →
       ∃ t, exec (.senseInputReversed 2) s = .next t ∧ t.rd R.DUR_BANK_V_VBANK_MV = 0 ∧ t.dur.senseLost = true ∧ t.bankV = 0) ∧
  (∀ (s : State) (a : Bool), s.keeperRuns = true → s.feedOk (!a) = true →
       ∃ t, exec (.senseInputReversed (if a then 0 else 1)) s = .next t ∧ t.rd (fFeedState a) = 4 ∧ (t.feed a).returnEnd = none) ∧
  (∀ (s : State) (n : Nat), s.keeperRuns = true → s.coreOn = true → n < 16 → s.railUsed n = true →
       ∃ t, exec (.senseInputReversed (n + 3)) s = .next t ∧ t.rdN R.KEEPER_RAIL_STATUS_LAST_FAULT n = 6 ∧
         t.rdN R.KEEPER_RAIL_STATUS_STATE n = 6 ∧ t.coreOn = true) ∧
  (∀ (s : State) (mv : Nat), s.keeperRuns = true →
       ∃ t, exec (.keeperSupplyLow mv) s = .next t ∧ t.keeper.stopped = true ∧ t.save.active = false) ∧
  (∀ (s : State) (mv : Nat), s.keeper.powered = true → s.keeper.stopped = true →
       ∃ t, exec (.keeperSupplyRecovered mv) s = .next t ∧ t.keeper.stopped = false ∧ t.rd R.KEEPER_STATUS_VK_LOW = 0 ∧
         t.rd R.KEEPER_STATUS_VK_MV = mv % 2 ^ R.KEEPER_STATUS_VK_MV.width)

/-- What RESET_N_ASSERT, THERM_TRIP_N_ASSERT, JUNCTION_OVERTEMP, HARD_CUT_CONDITION, THERM_TRIP_RELEASE, THERM_TRIP_N_RELEASED, INPUT_STUCK_TIMER,
INPUT_UNMASK, OUTPUT_READBACK_MISMATCH, REFCLK_LOST, REFCLK_REGAINED and MGMT_BUS_HELD_LOW leave where they take effect (R450, R489 to R494). -/
def Obligations.SidebandInputsAndClocks : Prop :=
  (∀ (s : State) (q : QuenchReport), s.keeperRuns = true → (s.acceptInput 1 4 (sec 10)).1 = true → s.coreOn = true → s.save.active = false →
       7 ≤ s.start.step →
       ∃ t, exec (.resetNAssert q) s = .next t ∧ t.save.active = true ∧ t.save.step = 1 ∧ t.save.trigger = 2 ∧ t.save.action = .restart) ∧
  (∀ (s : State) (temp : Nat), s.keeperRuns = true → s.keeper.thermDriven = false → (s.acceptInput 2 4 (sec 60)).1 = true → s.coreOn = true →
       s.save.active = false → s.start.fwDone = true →
       ∃ t, exec (.thermTripNAssert temp) s = .next t ∧ t.save.active = true ∧ t.save.trigger = 7 ∧ t.save.action = .shutdown ∧
         t.save.onBank = true ∧ t.keeper.thermInput = true ∧ t.keeper.thermAt = some s.now) ∧
  (∀ (s : State) (temp : Nat), s.keeperRuns = true → s.coreOn = true → 115 ≤ temp → s.keeper.thermDriven = false → s.save.active = false →
       s.start.fwDone = true →
       ∃ t, exec (.junctionOvertemp temp) s = .next t ∧ t.keeper.thermDriven = true ∧ AMap.get? t.keeper.outputs 0x11 = some true ∧
         t.save.active = true ∧ t.save.trigger = 7 ∧ t.save.action = .shutdown) ∧
  (∀ (s : State) (temp : Nat), s.keeperRuns = true → s.coreOn = true → 125 ≤ temp →
       ∃ t, exec (.hardCutCondition temp) s = .next t ∧ t.coreOn = false ∧ t.save.active = false ∧ t.start.step = 0 ∧ t.crypt.dramKey = 0) ∧
  (∀ (s : State) (temp : Nat), s.keeperRuns = true → s.coreOn = false → temp < 70 → s.keeper.thermDriven = true →
       ∃ t, exec (.thermTripRelease temp) s = .next t ∧ t.keeper.thermDriven = false ∧ t.keeper.thermAt = none ∧
         AMap.get? t.keeper.outputs 0x11 = some false) ∧
  (∀ s : State, s.keeperRuns = true → s.keeper.thermDriven = false →
       ∃ t, exec .thermTripNReleased s = .next t ∧ t.keeper.thermInput = false ∧ (t.input 2).active = false) ∧
  (∀ (s : State) (code : Nat), s.keeperRuns = true → s.inputMasked code = false → (s.input code).active = true → code ≠ 6 →
       due s.now ((stuckTime code).map (· + (s.input code).since)) = true → (code = 2 → s.rd R.KEEPER_STATUS_SEQ_STATE = 0) →
       ∃ t, exec (.inputStuckTimer code) s = .next t ∧ (t.input code).stuck = true ∧ t.inputMasked code = true) ∧
  (∀ (s : State), s.keeperRuns = true → s.inputMasked 6 = false → due s.now (some (sec 2 + s.time.lastPps.getD 0)) = true →
       s.rd R.DOMAIN_TIME_CTRL_SOURCE = 1 →
       ∃ t, exec (.inputStuckTimer 6) s = .next t ∧ (t.input 6).stuck = true ∧ t.time.lastSync = none) ∧
  (∀ (s : State) (code : Nat), s.keeperRuns = true → 1 ≤ code → code ≤ 6 → s.inputMasked code = true →
       ∃ t, exec (.inputUnmask code) s = .next t ∧ t.input code = inputIdle ∧ (code = 3 → t.rd R.KEEPER_FEED_STATUS_A_STATE = 1) ∧
         (code = 4 → t.rd R.KEEPER_FEED_STATUS_B_STATE = 1)) ∧
  (∀ s : State, s.keeperRuns = true → AMap.get? s.keeper.outputs 0x12 = some true →
       ∃ t, exec (.outputReadbackMismatch 0x12 false) s = .next t ∧ t.keeper.feedA.badEn = true ∧ t.feedUsable true = false) ∧
  (∀ (s : State) (code : Nat), s.keeperRuns = true → 0x21 ≤ code → code ≤ 0x24 → s.keeper.clocksLost.contains code = false →
       ∃ t, exec (.refclkLost code) s = .next t ∧ t.keeper.clocksLost = s.keeper.clocksLost ++ [code] ∧ (code = 0x24 → t.time.onDdrClock = true)) ∧
  (∀ (s : State) (code : Nat), s.keeperRuns = true → s.keeper.clocksLost.contains code = true →
       ∃ t, exec (.refclkRegained code) s = .next t ∧ t.keeper.clocksLost = s.keeper.clocksLost.filter (· != code) ∧
         (code = 0x24 → t.time.onDdrClock = false)) ∧
  (∀ s : State, s.keeperRuns = true → s.keeper.mboxI3c = false →
       ∃ t, exec .mgmtBusHeldLow s = .next t ∧ t.out = s.out ++ [.mgmtBusReleased] ∧ t.regs = s.regs)

/-- What WORD_PROGRAM, BUFFER_PROGRAM, SECTOR_ERASE, ABORT, SEQUENCE_GAP_TIMEOUT, KEEPER_FLASH_OP_COMPLETE, KEEPER_LOG_APPEND, REPEAT_SLOT_TIMER,
LOG_SECTOR_ERASE, LOG_RECORD_SELECT and OP_HOURS_TICK leave where they take effect (R419 to R429). -/
def Obligations.KeeperFlashAndLog : Prop :=
  (∀ (s : State) (p : Path) (off word : Nat), s.pathOpen p = true → s.windowOpens p (s.windowAddr p (off / 4 * 4) / 0x10000) = true →
       s.keeper.flash.ops.length < 3 →
       ∃ t, exec (.wordProgram p off word) s = .next t ∧
         t.keeper.flash.ops = s.keeper.flash.ops ++ [⟨p, .word, s.windowAddr p (off / 4 * 4), [word % 2 ^ 32]⟩] ∧
         (t.windowPath p).busy = true ∧ (t.windowPath p).op = 1 ∧ (t.windowPath p).error = 0 ∧ t.keeper.flash.words = s.keeper.flash.words) ∧
  (∀ (s : State) (p : Path) (off : Nat) (words : List Nat), s.pathOpen p = true → words ≠ [] → off % 64 / 4 * 4 + 4 * words.length ≤ 64 →
       s.windowOpens p (s.windowAddr p (off / 4 * 4) / 0x10000) = true → s.keeper.flash.ops.length < 3 →
       ∃ t, exec (.bufferProgram p off words) s = .next t ∧
         t.keeper.flash.ops = s.keeper.flash.ops ++ [⟨p, .buffer, s.windowAddr p (off / 4 * 4), words.map (· % 2 ^ 32)⟩] ∧
         (t.windowPath p).busy = true ∧ (t.windowPath p).op = 2 ∧ (t.windowPath p).error = 0) ∧
  (∀ (s : State) (p : Path) (off : Nat), s.pathOpen p = true → s.windowOpens p (s.windowAddr p off / 0x10000) = true →
       s.keeper.flash.ops.length < 3 →
       ∃ t, exec (.sectorErase p off) s = .next t ∧
         t.keeper.flash.ops = s.keeper.flash.ops ++ [⟨p, .erase, s.windowAddr p off / 0x10000 * 0x10000, []⟩] ∧
         (t.windowPath p).busy = true ∧ (t.windowPath p).op = 3 ∧ (t.windowPath p).error = 0) ∧
  (∀ (s : State) (p : Path), s.pathOpen p = true →
       ∃ t, exec (.abort p) s = .next t ∧ (t.windowPath p).writes = [] ∧ (t.windowPath p).error = (s.windowPath p).error ∧
         t.keeper.flash.ops = s.keeper.flash.ops) ∧
  (∀ (s : State) (p : Path), s.keeperRuns = true → (s.windowPath p).writes ≠ [] → (s.windowPath p).lastWrite + ms 10 < s.now →
       ∃ t, exec (.sequenceGapTimeout p) s = .next t ∧ (t.windowPath p).writes = [] ∧ (t.windowPath p).error = 2) ∧
  (∀ (s : State) (p : Path) (a v retries : Nat) (rest : List KOp), s.keeperRuns = true → s.keeper.flash.ops = ⟨p, .word, a, [v]⟩ :: rest →
       s.flashWord (a / 4) &&& v = v →
       ∃ t, exec (.keeperFlashOpComplete retries true) s = .next t ∧ t.keeper.flash.ops = rest ∧ t.flashWord (a / 4) = v ∧
         (t.windowPath p).busy = false ∧ (t.windowPath p).error = 0) ∧
  (∀ (s : State) (p : Path) (a retries : Nat) (rest : List KOp), s.keeperRuns = true → s.keeper.flash.ops = ⟨p, .erase, a, []⟩ :: rest →
       ∃ t, exec (.keeperFlashOpComplete retries true) s = .next t ∧ t.keeper.flash.ops = rest ∧
         (∀ w, w / 0x4000 = a / 0x10000 → t.flashWord w = 0xFFFFFFFF) ∧ (t.windowPath p).busy = false ∧ (t.windowPath p).error = 0) ∧
  (∀ (s : State) (r : LogRecord) (rest : List LogRecord), s.keeperRuns = true → s.keeper.flash.ram = r :: rest → sec 1 ≤ s.logTokens →
       2 ≤ s.rd R.KEEPER_FLASH_WEAR_LOG_POOL → s.keeper.flash.log.length < s.keeper.flash.logSectors.length * 1024 →
       ∃ t, exec .keeperLogAppend s = .next t ∧ t.keeper.flash.ram = rest ∧
         t.keeper.flash.log = s.keeper.flash.log ++ [{ r with seq := s.keeper.flash.nextSeq }] ∧
         t.rd R.KEEPER_LOG_HEAD_SEQ = s.keeper.flash.nextSeq % 2 ^ 32) ∧
  (∀ (s : State) (f : LogFlood) (r : LogRecord), s.keeperRuns = true → s.keeper.flash.flood = some f → f.unwritten = true →
       f.last + sec 1 ≤ s.now → s.newestEvent = some r → r.slots.length < 3 → f.count ≤ 16777215 →
       ∃ t, exec .repeatSlotTimer s = .next t ∧ t.newestEvent = some { r with slots := r.slots ++ [f.count] } ∧
         t.keeper.flash.flood = some { f with unwritten := false, lastSlot := s.now }) ∧
  (∀ (s : State) (n retries : Nat) (rest : List Nat), s.keeperRuns = true → s.keeper.flash.pendingErase = n :: rest →
       ∃ t, exec (.logSectorErase retries true) s = .next t ∧ t.keeper.flash.pendingErase = rest ∧
         (t.sector n).erases = (s.sector n).erases + 1 ∧ (t.sector n).done = (t.sector n).started) ∧
  (∀ (s : State) (p : Path) (q : Nat) (r : LogRecord), s.pathOpen p = true → s.keeper.flash.log.find? (fun x => x.seq == q % 2 ^ 32) = some r →
       ∃ t, exec (.logRecordSelect p q) s = .next t ∧ t.rd R.KEEPER_LOG_STATUS_STATE = 2 ∧ t.rd R.KEEPER_LOG_SEL_SEQ = q % 2 ^ 32 ∧
         t.rdN R.KEEPER_LOG_DATA_DATA 0 = r.seq % 2 ^ 32) ∧
  (∀ (s : State) (p : Path) (q : Nat), s.pathOpen p = true → s.keeper.flash.log.find? (fun x => x.seq == q % 2 ^ 32) = none →
       ∃ t, exec (.logRecordSelect p q) s = .next t ∧ t.rd R.KEEPER_LOG_STATUS_STATE = 3 ∧ t.rd R.KEEPER_LOG_SEL_SEQ = q % 2 ^ 32) ∧
  (∀ s : State, s.keeper.powered = true → s.keeper.hourAt ≤ s.now →
       ∃ t, exec .opHoursTick s = .next t ∧ t.counter 1 = s.counter 1 + 1 ∧ t.keeper.hourAt = s.keeper.hourAt + sec 360 ∧ t.regs = s.regs)

/-- What FW_STAGE, FW_ACTIVATE, FW_COMMIT, FIRMWARE_LOAD_COMPLETE, TRIAL_TIMEOUT, WATCHDOG_EXPIRY and MGMT_CORE_MEMORY_UE leave where they take effect
(R435, R436, R441, R442, R446, R447). -/
def Obligations.FirmwareUpdates : Prop :=
  (∀ (s : State) (r : CmdRef) (c : Cmd) (host length : Nat) (p : Package), Accepts s r 0x0801 c → host % 64 = 0 → s.trialPending = false →
       length ≤ 64 * 2 ^ 20 → s.packageVerifies p = true → s.fresherThanFloors p = true →
       ∃ t, exec (.fwStage r host length p) s = .next t ∧ Ended t c St.DONE 0 0 ∧ t.rd (fSlot s.stageSlot) = 1 ∧
         t.slotPackage s.stageSlot = some p) ∧
  (∀ (s : State) (r : CmdRef) (c : Cmd) (slot : Nat) (p : Package), Accepts s r 0x0802 c → slot ≤ 1 → s.rd (fSlot slot) = 1 →
       s.slotPackage slot = some p → s.fresherThanFloors p = true →
       ∃ t, exec (.fwActivate r slot) s = .next t ∧ Ended t c St.DONE 0 s.nextSaveSeq ∧ t.rd (fSlot slot) = 2 ∧ t.save.active = true ∧
         t.save.trigger = 3 ∧ t.save.action = .restart ∧ t.save.activate = some slot) ∧
  (∀ (s : State) (r : CmdRef) (c : Cmd) (b : Nat) (p : Package), Accepts s r 0x0803 c → b ≤ 1 → s.rd R.FW_STATUS_RUN_SLOT = b →
       s.slotPackage b = some p → s.rd (fSlot b) = 2 → s.on R.FW_STATUS_RECOVERY = false →
       ∃ t, exec (.fwCommit r) s = .next t ∧ Ended t c St.DONE 0 0 ∧ t.rd (fSlot b) = 3 ∧ t.rd (fSlot (1 - b)) = 4 ∧
         t.rd R.FW_SETTINGS_OLD_KEPT = 0) ∧
  (∀ (s : State) (loads : List Nat) (migrated : List (Nat × Nat)), s.coreOn = true → s.start.step = 7 →
       ∃ t, exec (.firmwareLoadComplete loads migrated) s = .next t ∧ t.start.fwDone = true ∧ t.start.step = 8 ∧ t.rd R.FW_CTRL_LOCK = 1 ∧
         t.rd R.GLOBAL_STATUS_MGMT_READY = 1 ∧ t.rd R.FW_STATUS_CORES_OK = 15 ∧ t.fw.trialEnd = none) ∧
  (∀ (s : State) (q : QuenchReport) (b : Nat), s.keeperRuns = true → s.coreOn = true → s.start.fwDone = false → due s.now s.fw.trialEnd = true →
       [0, 1].find? (fun b => s.rd (fSlot b) == 2) = some b → s.keeper.deferred = none →
       ∃ t, exec (.trialTimeout q) s = .next t ∧ t.rd (fSlot b) = 5 ∧ t.start.step = 6 ∧ t.start.fwDone = false) ∧
  (∀ (s : State) (core : Nat) (cmds : List CmdRef), s.coreOn = true → s.start.fwDone = true → core < 4 →
       ∃ t, exec (.watchdogExpiry core cmds) s = .next t ∧
         t.rd R.FW_CORE_RESTARTS = (s.rd R.FW_CORE_RESTARTS + 1) % 2 ^ R.FW_CORE_RESTARTS.width ∧
         t.fw.coreRestarts = (if core = 0 then (s.fw.coreRestarts ++ [s.now]).filter (fun t => decide (s.now ≤ t + sec 600)) else s.fw.coreRestarts)) ∧
  (∀ (s : State) (core bank row : Nat) (cmds : List CmdRef), s.coreOn = true → s.start.fwDone = true → core < 4 →
       ∃ t, exec (.mgmtCoreMemoryUe core bank row cmds) s = .next t ∧
         t.rd R.FW_CORE_RESTARTS = (s.rd R.FW_CORE_RESTARTS + 1) % 2 ^ R.FW_CORE_RESTARTS.width)

/-- What POWER_ON, POWER_UP_STEP_END, FLASH_TRAINING_COMPLETE, DRAM_TRAINING_COMPLETE, JOURNAL_REPLAY_COMPLETE, RESTORE_UNIT and TWIN_PAGE_TIMEOUT
leave where they take effect (R392, R400, R449 to R460). -/
def Obligations.StartAndRestore : Prop :=
  (∀ (s : State) (fwOk mismatch : Bool), s.keeperRuns = false →
       ∃ t, exec (.powerOn fwOk mismatch) s = .next t ∧ t.keeper.powered = true ∧ t.keeper.stopped = false ∧ t.cmds = [] ∧
         t.counter 2 = s.counter 2 + 1 ∧ t.keeper.flash.romRecovery = !fwOk ∧ t.time.tai = 0 ∧ t.save.active = false) ∧
  (∀ (s : State) (q : QuenchReport), s.keeperRuns = true → s.rd R.KEEPER_STATUS_SEQ_STATE = 1 →
       s.nextPowerStep (s.rd R.KEEPER_STATUS_SEQ_STEP + 1) 8 = none →
       ∃ t, exec (.powerUpStepEnd q) s = .next t ∧ t.rd R.KEEPER_STATUS_SEQ_STATE = 2 ∧ t.start.step = 6 ∧ t.start.quenchEnd = s.now ∧
         t.mem.dram = [] ∧ t.cmds = [] ∧ t.keyRegs = []) ∧
  (∀ (s : State) (q : QuenchReport) (j : Nat), s.keeperRuns = true → s.rd R.KEEPER_STATUS_SEQ_STATE = 1 →
       s.nextPowerStep (s.rd R.KEEPER_STATUS_SEQ_STEP + 1) 8 = some j →
       ∃ t, exec (.powerUpStepEnd q) s = .next t ∧ t.rd R.KEEPER_STATUS_SEQ_STATE = 1 ∧
         t.rd R.KEEPER_STATUS_SEQ_STEP = j % 2 ^ R.KEEPER_STATUS_SEQ_STEP.width) ∧
  (∀ (s : State) (rs : List FlashReport), s.coreOn = true → s.start.step = 6 →
       ∃ t, exec (.flashTrainingComplete rs) s = .next t ∧ t.start.step = 7 ∧
         t.flash.perChannel = ((flashReference (rs.filter (fun r => decide (r.channel < 32) && r.dies != 0 && r.cause == 0))).map (·.dies)).getD 0) ∧
  (∀ (s : State) (rs : List DramReport), s.coreOn = true → s.start.dramDone = false → s.start.step = 6 → (s.dramTrained rs).1 = true →
       ∃ t, exec (.dramTrainingComplete rs) s = .next t ∧ t.start.dramDone = true ∧ t.start.step = 6) ∧
  (∀ (s : State) (failed : List FlashBlock) (erased mask : Nat) (ledgerOk : Bool), s.coreOn = true → s.start.step = 8 → s.failCode ≠ 1 →
       s.on R.FW_STATUS_RECOVERY = false → s.start.dramDone = false →
       ∃ t, exec (.journalReplayComplete true failed erased mask ledgerOk) s = .next t ∧ t.start.step = 10 ∧ t.start.tablesDone = true ∧
         t.start.keysDone = true ∧ t.start.ledgerOk = ledgerOk ∧ t.flash.erased = erased ∧ t.rd R.CIPHER_STATUS_START_DONE = 1) ∧
  (∀ (s : State) (bad : List Nat) (u : Nat), s.coreOn = true → 11 ≤ s.start.step → s.save.active = false → s.nextUnit = some u →
       ∃ t, exec (.restoreUnit bad false) s = .next t ∧ u ∉ t.start.units) ∧
  (∀ (s : State) (page m : Nat), s.media? (page * page4K) = some m → s.coreOn = true → due s.now (AMap.get? s.start.twinPages page) = true →
       ∃ t, exec (.twinPageTimeout page) s = .next t ∧ AMap.get? t.start.twinPages page = none ∧
         t.rd R.DUR_RESTORE_POISONED = (s.rd R.DUR_RESTORE_POISONED + 1) % 2 ^ R.DUR_RESTORE_POISONED.width)

/-- What PTP_MESSAGE, PPS_IN_EDGE, TAI_SECOND, PTP_PPS_OUT_FALL, SETTLE_LIMIT and AGG_WAIT_TIMER leave where they take effect (R324, R325, R329,
R350, R351, R489). -/
def Obligations.TimeUnit : Prop :=
  (∀ (s : State) (domain offset uncertainty utc : Nat) (ahead leap : Bool), s.coreOn = true → s.save.active = false →
       domain = s.rd R.DOMAIN_TIME_CTRL_PTP_DOMAIN → s.rd R.DOMAIN_TIME_CTRL_SOURCE ≠ 1 → s.rd R.DOMAIN_TIME_CTRL_SOURCE ≠ 2 →
       ∃ t, exec (.ptpMessage domain ahead offset uncertainty utc leap) s = .next t ∧
         t.rd R.DOMAIN_TIME_STATUS_TAI_UTC_S = utc % 2 ^ R.DOMAIN_TIME_STATUS_TAI_UTC_S.width ∧
         t.rd R.DOMAIN_TIME_OFFSET_OFFSET_NS = signed32 ahead offset ∧ t.time.lastSync = some s.now ∧
         ((s.time.stepped = false ∨ us (s.rd R.DOMAIN_TIME_LIMITS_STEP_US) < offset) →
           t.time.tai = (if ahead then s.time.tai - offset else s.time.tai + offset))) ∧
  (∀ (s : State) (uncertainty : Nat), s.coreOn = true → s.save.active = false → s.rd R.DOMAIN_TIME_CTRL_SOURCE = 1 →
       (s.acceptInput 6 1 (ms 900)).1 = true →
       ∃ t, exec (.ppsInEdge uncertainty) s = .next t ∧ t.time.lastPps = some s.now ∧ t.time.lastSync = some s.now) ∧
  (∀ s : State, s.coreOn = true → s.save.active = false → s.taiSeconds ≠ s.time.second →
       ∃ t, exec .taiSecond s = .next t ∧ t.time.second = s.taiSeconds ∧
         t.time.pulseEnd = some (s.now + (ms 100 - min (ms 100) (s.time.tai % sec 1)))) ∧
  (∀ s : State, s.coreOn = true → due s.now s.time.pulseEnd = true →
       exec .ptpPpsOutFall s = .next { s with time.pulseEnd := none }) ∧
  (∀ (s : State) (w : Window), s.meter.settling = some w → s.coreOn = true → s.save.active = false →
       due s.now (w.ended.map (· + sec (s.rd R.METER_CTRL_SETTLE_S))) = true →
       ∃ t, exec .settleLimit s = .next t ∧ t.meter.settling = none ∧ t.rd R.METER_STATUS_SETTLING = 0 ∧
         t.meter.last.map (·.id) = some w.id) ∧
  (∀ (s : State) (tenant start n : Nat) (a : Aggregate), s.meter.aggregates.find? (fun a => a.tenant == tenant && a.start == start) = some a →
       s.sinkRing = some n → s.coreOn = true → s.save.active = false → s.aggregateDue start = true →
       ∃ t, exec (.aggWaitTimer tenant start) s = .next t ∧ t.meter.aggregates = s.meter.aggregates.erase a)

/-- What PACE_MONITOR_SAMPLE, LOOP_PERIOD, AVS_RETRY, PORT_CTRL_WRITE and LINK_STATE_CHANGE leave where they take effect (R22, R24, R25, R28, R190, R473). -/
def Obligations.PaceAndPorts : Prop :=
  (∀ (s : State) (n mhz : Nat), s.coreOn = true → n < 64 → s.islandOn n = true →
       ∃ t, exec (.paceMonitorSample n mhz) s = .next t ∧ t.rdN R.PACE_MON_RATE_MHZ n = min 65535 mhz ∧ AMap.has t.pace.monitors n = true) ∧
  (∀ s : State, s.keeperRuns = true → s.coreOn = true → s.pace.retryAt = none →
       ∃ t, exec (.loopPeriod true) s = .next t ∧ t.rd R.PACE_STATUS_AVS_OK = 1 ∧ t.pace.avsFails = 0 ∧
         t.rd R.PACE_STATUS_VDD_MV = t.keeper.vddMv % 2 ^ R.PACE_STATUS_VDD_MV.width ∧
         t.rd R.PACE_REQUIRED_TARGET_MHZ = s.targetMhz % 2 ^ R.PACE_REQUIRED_TARGET_MHZ.width) ∧
  (∀ s : State, s.keeperRuns = true → due s.now s.pace.retryAt = true →
       ∃ t, exec (.avsRetry true) s = .next t ∧ t.pace.retryAt = none ∧ t.pace.avsFails = 0 ∧ t.rd R.PACE_STATUS_AVS_OK = 1 ∧
         t.out = s.out ++ [.avsVoltage s.keeper.vddMv]) ∧
  (∀ (s : State) (n v : Nat), s.coreOn = true → n < 16 → s.save.active = false → s.rdN R.PORT_CTRL_ENABLE n = 0 → v / 2 ^ 31 % 2 = 1 →
       ∃ t, exec (.portCtrlWrite n v) s = .next t ∧ t.rdN R.PORT_CTRL_ENABLE n = 1 ∧ (t.port n).link 0 = 1 ∧
         (t.port n).breakout = t.rdN R.PORT_CTRL_BREAKOUT n) ∧
  (∀ (s : State) (n v : Nat), s.coreOn = true → n < 16 → s.save.active = false → s.rdN R.PORT_CTRL_ENABLE n = 1 → v / 2 ^ 31 % 2 = 0 →
       ∃ t, exec (.portCtrlWrite n v) s = .next t ∧ t.rdN R.PORT_CTRL_ENABLE n = 0 ∧ (t.port n).link 0 = 0 ∧ (t.port n).opensAt = none ∧
         t.rdN R.PORT_STATUS_LANES_UP n = 0) ∧
  (∀ (s : State) (n sub link lanes polarity : Nat) (reversed : Bool), s.coreOn = true → n < 16 → s.rdN R.PORT_CTRL_ENABLE n ≠ 0 →
       sub < subPorts (s.port n).breakout → link ≤ 2 → s.inGap = false →
       ∃ t, exec (.linkStateChange n sub link lanes reversed polarity) s = .next t ∧ (t.port n).link sub = link ∧
         t.rdN R.PORT_STATUS_LANES_UP n = lanes % 2 ^ R.PORT_STATUS_LANES_UP.width ∧
         t.rdN R.PORT_STATUS_REVERSED n = (if reversed then 1 else 0)) ∧
  (∀ (s : State) (n sub link lanes polarity : Nat) (reversed : Bool), s.coreOn = true → n < 16 → s.rdN R.PORT_CTRL_ENABLE n ≠ 0 →
       sub < subPorts (s.port n).breakout → link ≤ 2 → s.inGap = true →
       ∃ t, exec (.linkStateChange n sub link lanes reversed polarity) s = .next t ∧ (t.port n).links = (s.port n).links ∧
         (sub, link) ∈ (t.port n).unreported)

/-- COUNTER_PAIR_CAPTURE answers a next state that holds the high half read with the low one and differs in nothing else (R464); GLOBAL_RESET_ARM
one in which RESET_ARMED is set for 1 ms, and GLOBAL_RESET_FIRE one in which a save with trigger 3 has begun, whose action is the restart
of the core (R470); RESET_ARM_EXPIRY clears RESET_ARMED. -/
def Obligations.ResetAndCounterRows : Prop :=
  (∀ (s : State) (p : Path) (off : Nat), s.reaches p off = true → off % 4 = 0 → roHalf 0 off = true → (off < 0x198000 ∨ 0x1A0000 ≤ off) →
       exec (.counterPairCapture p off) s = .next { s with captures := AMap.set s.captures (captureKey p off) (s.wordAt p (off + 4)) }) ∧
  (∀ s : State, s.reaches .pcie 0x1C = true → s.save.active = false →
       exec .globalResetArm s = .next { s.flag R.GLOBAL_STATUS_RESET_ARMED true with armedEnd := some (s.now + ms 1) }) ∧
  (∀ s : State, s.reaches .pcie 0x1C = true → s.save.active = false → s.on R.GLOBAL_STATUS_RESET_ARMED = true →
       ∃ t, exec .globalResetFire s = .next t ∧ t.save.active = true ∧ t.save.step = 1 ∧ t.save.trigger = 3 ∧ t.save.action = .restart ∧
         t.save.startedAt = s.now ∧ t.armedEnd = none ∧ t.on R.GLOBAL_STATUS_RESET_ARMED = false ∧ t.rd R.KEEPER_STATUS_SEQ_STATE = 3 ∧
         t.rd R.DUR_STATUS_SAVE_STEP = 1) ∧
  (∀ s : State, s.coreOn = true → due s.now s.armedEnd = true →
       exec .resetArmExpiry s = .next { s.flag R.GLOBAL_STATUS_RESET_ARMED false with armedEnd := none })

/-- What HOLDUP_TEST_DUE, HOLDUP_TEST_RETRY, HOLDUP_TEST_START, HOLDUP_TEST_V1_READ, HOLDUP_TEST_V_END, HOLDUP_TEST_TIMEOUT, HOLDUP_RECHARGE_DONE,
HOLDUP_STALE_TIMER and ESR_PULSE leave where they take effect (R145, R146, R410, R411, Table 19-2). -/
def Obligations.HoldupTest : Prop :=
  (∀ s : State, s.testMayBegin = true → s.keeper.holdup.retryAt = none → s.keeper.holdup.nextDue ≤ s.now →
       s.rd R.KEEPER_HOLDUP_CFG_RTEST_MOHM ≠ 0 →
       ∃ t, exec .holdupTestDue s = .next t ∧ t.rd R.KEEPER_HOLDUP_STATUS_TEST_STATE = 1 ∧ t.rd R.DUR_STATUS_TEST_ACTIVE = 1 ∧
         t.rd R.DUR_BUDGET_TEST_GIB = s.budgetFor (s.eUsable * 9 / 10) % 2 ^ R.DUR_BUDGET_TEST_GIB.width) ∧
  (∀ s : State, s.testMayBegin = true → s.keeper.holdup.retryAt = none → s.keeper.holdup.nextDue ≤ s.now →
       s.rd R.KEEPER_HOLDUP_CFG_RTEST_MOHM = 0 →
       ∃ t, exec .holdupTestDue s = .next t ∧ t.keeper.holdup.retryAt = some (s.now + sec 600) ∧
         t.rd R.KEEPER_HOLDUP_STATUS_TEST_STATE = 0) ∧
  (∀ s : State, s.testMayBegin = true → due s.now s.keeper.holdup.retryAt = true → s.rd R.KEEPER_HOLDUP_CFG_RTEST_MOHM ≠ 0 →
       ∃ t, exec .holdupTestRetry s = .next t ∧ t.rd R.KEEPER_HOLDUP_STATUS_TEST_STATE = 1 ∧ t.rd R.DUR_STATUS_TEST_ACTIVE = 1 ∧
         t.keeper.holdup.retryAt = none ∧
         t.rd R.DUR_BUDGET_TEST_GIB = s.budgetFor (s.eUsable * 9 / 10) % 2 ^ R.DUR_BUDGET_TEST_GIB.width) ∧
  (∀ (s : State) (v0 : Nat), s.keeperRuns = true → s.coreOn = true → s.save.active = false → s.rd R.KEEPER_HOLDUP_STATUS_TEST_STATE = 1 →
       s.anyFeedOk = true → s.dur.dirty.length * page4K ≤ s.rd R.DUR_BUDGET_TEST_GIB * gib →
       ∃ t, exec (.holdupTestStart v0) s = .next t ∧ t.rd R.KEEPER_HOLDUP_STATUS_TEST_STATE = 2 ∧
         AMap.get? t.keeper.outputs 0x14 = some true ∧ t.keeper.holdup.v0 = v0 ∧
         t.keeper.testEnd = some (s.now + sec (s.rd R.KEEPER_HOLDUP_CFG_TEST_MAX_S))) ∧
  (∀ (s : State) (v1 e : Nat), s.keeperRuns = true → s.rd R.KEEPER_HOLDUP_STATUS_TEST_STATE = 2 → s.keeper.holdup.v1 = 0 →
       s.keeper.holdup.v1At + us 100 ≤ s.now → s.stepEsr s.keeper.holdup.v0 v1 = some e →
       exec (.holdupTestV1Read v1) s = .next { s with keeper.holdup.v1 := v1, keeper.holdup.v1At := s.now }) ∧
  (∀ (s : State) (mv e : Nat), s.keeperRuns = true → s.rd R.KEEPER_HOLDUP_STATUS_TEST_STATE = 2 → s.keeper.holdup.v1 ≠ 0 → s.atVEnd mv = true →
       s.stepEsr s.keeper.holdup.v0 s.keeper.holdup.v1 = some e →
       50 ≤ discharged (s.now - s.keeper.holdup.v1At) (s.rd R.KEEPER_HOLDUP_CFG_RTEST_MOHM * 100 + e) s.keeper.holdup.v1 mv →
       discharged (s.now - s.keeper.holdup.v1At) (s.rd R.KEEPER_HOLDUP_CFG_RTEST_MOHM * 100 + e) s.keeper.holdup.v1 mv ≤ 50000 →
       ∃ t, exec (.holdupTestVEnd mv) s = .next t ∧ t.rd R.DUR_BANK_C_MF =
           discharged (s.now - s.keeper.holdup.v1At) (s.rd R.KEEPER_HOLDUP_CFG_RTEST_MOHM * 100 + e) s.keeper.holdup.v1 mv %
             2 ^ R.DUR_BANK_C_MF.width ∧
         t.rd R.KEEPER_HOLDUP_STATUS_LAST_RESULT = 1 ∧ t.rd R.KEEPER_HOLDUP_STATUS_TEST_STATE = 3 ∧ t.keeper.holdup.lastValid = some s.now ∧
         t.keeper.holdup.esr = e ∧ AMap.get? t.keeper.outputs 0x14 = some false) ∧
  (∀ s : State, s.keeperRuns = true → due s.now s.keeper.testEnd = true → s.rd R.KEEPER_HOLDUP_STATUS_TEST_STATE = 2 →
       ∃ t, exec .holdupTestTimeout s = .next t ∧ t.rd R.KEEPER_HOLDUP_STATUS_TEST_STATE = 3 ∧ t.rd R.KEEPER_HOLDUP_STATUS_LAST_RESULT = 4 ∧
         AMap.get? t.keeper.outputs 0x14 = some false ∧ t.keeper.holdup.retryAt = some (s.now + sec 600) ∧ t.keeper.testEnd = none) ∧
  (∀ (s : State) (mv : Nat), s.keeperRuns = true → s.rd R.KEEPER_HOLDUP_STATUS_TEST_STATE = 3 → s.save.active = false →
       99 * s.keeper.holdup.v0 ≤ 100 * mv →
       ∃ t, exec (.holdupRechargeDone mv) s = .next t ∧ t.rd R.KEEPER_HOLDUP_STATUS_TEST_STATE = 0 ∧ t.rd R.DUR_STATUS_TEST_ACTIVE = 0) ∧
  (∀ s : State, s.keeperRuns = true → s.coreOn = true → s.keeper.holdup.stale = false →
       s.keeper.holdup.lastValid.getD 0 + 2 * s.rd R.DUR_TEST_INTERVAL_H * sec 3600 ≤ s.now →
       ∃ t, exec .holdupStaleTimer s = .next t ∧ t.keeper.holdup.stale = true) ∧
  (∀ (s : State) (v0 v1 e : Nat), s.keeperRuns = true → s.keeper.holdup.lastPulse + sec 60 ≤ s.now → s.pulseMay = true → s.stepEsr v0 v1 = some e →
       s.keeper.holdup.esr ≤ 5 * e → e ≤ 5 * s.keeper.holdup.esr →
       ∃ t, exec (.esrPulse v0 v1) s = .next t ∧ t.rd R.KEEPER_HOLDUP_STATUS_TRACK_OK = 1 ∧ t.keeper.holdup.lastGood = s.now ∧
         t.keeper.holdup.lastPulse = s.now ∧ e ∈ t.keeper.holdup.pulses)

/-- What BUDGET_RECOMPUTATION, STAGE_FALL_TIMER, GATHER_APPLY, WRITE_BACK_ISSUE and DIRTY_MAP_CLEAR leave where they take effect (R136 to R138, R140,
R144, R147, R503). -/
def Obligations.DurabilityUnit : Prop :=
  (∀ (s : State) (mv : Nat), s.coreOn = true → s.start.tablesDone = true → s.save.active = false → s.dur.nextBudget ≤ s.now →
       ∃ t, exec (.budgetRecomputation mv) s = .next t ∧ t.dur.nextBudget = s.now + sec 10 ∧
         t.rd R.DUR_BUDGET_BUDGET_GIB = (s.readBank mv).budgetFor (s.readBank mv).eUsable % 2 ^ R.DUR_BUDGET_BUDGET_GIB.width) ∧
  (∀ (s : State) (k : Nat), s.coreOn = true → s.save.active = false → s.stage = k + 1 → k < 4 → s.on R.DUR_STATUS_OVER_BUDGET = false →
       due s.now ((AMap.get? s.dur.below (k + 1)).map (· + ms 1)) = true → (0 < k → due s.now ((AMap.get? s.dur.below k).map (· + ms 1)) = false) →
       ∃ t, exec .stageFallTimer s = .next t ∧ t.stage = k) ∧
  (∀ (s : State) (entry : Nat) (g : Gather), s.eng.gather.find? (fun g => g.id == entry) = some g → s.coreOn = true → s.entryApplies g = true →
       entry < s.eng.nextEntry →
       ∃ t, exec (.gatherApply entry) s = .next t ∧ t.eng.gather.all (fun h => h.id != entry) = true) ∧
  (∀ (s : State) (tagOk : Bool) (page : Nat) (p : DirtyPage), s.coreOn = true → s.start.tablesDone = true → (s.save.active = true → s.save.step = 5) →
       s.oldestPage = some (page, p) → s.floorBars programBytes = false → (tagOk = true ∧ s.tagOf page = p.tag ∨ s.pageMarks page ≠ []) →
       ∃ t, exec (.writeBackIssue tagOk) s = .next t ∧ (AMap.get? t.dur.dirty page).map (·.reading) = some true) ∧
  (∀ (s : State) (unit t : Nat), AMap.get? s.dur.map unit = some ⟨some t⟩ → s.coreOn = true → t + sec 10 ≤ s.now →
       exec (.dirtyMapClear unit) s = .next { s with dur.map := AMap.del s.dur.map unit })

/-- What SAVE_NOW, SAVE_STEP_COMPLETE, SAVE_SEQUENCE_END and BANK_AT_FLOOR leave where they take effect (R151, R152, R155, R158). -/
def Obligations.SaveSequence : Prop :=
  (∀ (s : State) (r : CmdRef) (c : Cmd) (action tag : Nat), Accepts s r 0x0905 c →
       ∃ t, exec (.saveNow r action tag) s = .next t ∧ Ended t c St.DONE 0 s.nextSaveSeq ∧ t.save.active = true ∧ t.save.step = 1 ∧
         t.save.trigger = 6 ∧ t.save.action = (if action = 1 then .restart else .keep)) ∧
  (∀ s : State, s.keeperRuns = true → s.save.active = true → s.saveWaits = false → s.save.step < 9 →
       ∃ t, exec .saveStepComplete s = .next t ∧ t.save.step = s.save.step + 1 ∧ t.save.active = true ∧
         t.rd R.DUR_STATUS_SAVE_STEP = (s.save.step + 1) % 2 ^ R.DUR_STATUS_SAVE_STEP.width) ∧
  (∀ (s : State) (mv : Nat) (q : QuenchReport), s.keeperRuns = true → s.save.active = true → s.save.step = 9 → s.save.action ≠ .restart →
       ∃ t, exec (.saveSequenceEnd mv q) s = .next t ∧ t.save.active = false ∧ t.save.incomplete = false ∧ t.save.lastStep = 9 ∧
         t.coreOn = false ∧ (s.save.change = none → t.ledger.records = s.save.records)) ∧
  (∀ (s : State) (mv : Nat) (q : QuenchReport), s.keeperRuns = true → s.save.active = true → s.save.step = 9 → s.save.action = .restart →
       s.save.change = none → s.rd R.LIFE_STATE_LIFECYCLE ≠ 4 →
       ∃ t, exec (.saveSequenceEnd mv q) s = .next t ∧ t.save.active = false ∧ t.save.lastStep = 9 ∧
         t.rd R.KEEPER_STATUS_SEQ_STATE = 2 ∧ t.start.step = 6) ∧
  (∀ s : State, s.keeperRuns = true → s.save.active = true → s.save.onBank = true →
       ∃ t, exec .bankAtFloor s = .next t ∧ t.save.active = false ∧ t.save.incomplete = true ∧ t.save.lastStep = s.save.step ∧ t.coreOn = false)

/-- What DIE_COMMAND_TIMEOUT, FLASH_REBUILD_COMPLETE, FLASH_READ_COMPLETE, FLASH_PROGRAM_COMPLETE, FLASH_ERASE_COMPLETE, RECLAIM, PLANISH, ANNEAL,
JOURNAL_FLUSH and JOURNAL_CHECKPOINT leave where they take effect (R268, R270 to R273, R275 to R278, R280). -/
def Obligations.FlashMedia : Prop :=
  (∀ (s : State) (ch die : Nat), s.coreOn = true → ch < 32 → s.rdN R.FLASH_CH_STATUS_STATE ch = 2 →
       ∃ t, exec (.dieCommandTimeout ch die true) s = .next t ∧ t.rdN R.FLASH_CH_STATUS_STATE ch = 3 ∧ t.rdN R.FLASH_CH_STATUS_OUT_CAUSE ch = 8) ∧
  (∀ (s : State) (ch die : Nat), s.coreOn = true → ch < 32 → die < 16 → (s.diesInService ch).contains die = true →
       ∃ t, exec (.dieCommandTimeout ch die false) s = .next t ∧
         t.rdN R.FLASH_CH_STATUS_DIES_OUT ch = (s.rdN R.FLASH_CH_STATUS_DIES_OUT ch + 2 ^ die) % 2 ^ R.FLASH_CH_STATUS_DIES_OUT.width) ∧
  (∀ s : State, s.coreOn = true → s.save.active = false → 0 < s.rd R.FLASH_REBUILD_LEFT_GIB →
       ∃ t, exec .flashRebuildComplete s = .next t ∧ t.rd R.FLASH_REBUILD_LEFT_GIB = 0 ∧
         (s.flash.wornOut = false → t.rd R.FLASH_STATUS_STATE = 1)) ∧
  (∀ (s : State) (page : FlashPage) (step : Nat), s.coreOn = true → s.readWaits page = false → step < 3 →
       ∃ t, exec (.flashReadComplete page step) s = .next t ∧ t.flash.lost = s.flash.lost.filter (· != page) ∧ t.regs = s.regs) ∧
  (∀ (s : State) (page : FlashPage), s.coreOn = true → s.readWaits page = false →
       ∃ t, exec (.flashReadComplete page 3) s = .next t ∧ t.flash.lost = s.flash.lost.filter (· != page) ∧
         t.rd R.FLASH_SOFT_DECODES = (s.rd R.FLASH_SOFT_DECODES + 1) % 2 ^ R.FLASH_SOFT_DECODES.width ∧
         (page, s.now + sec 10) ∈ t.flash.relocate) ∧
  (∀ (s : State) (page : FlashPage) (step : Nat), s.coreOn = true → s.readWaits page = false → 5 ≤ step →
       ∃ t, exec (.flashReadComplete page step) s = .next t ∧ page ∈ t.flash.lost ∧
         t.rd R.FLASH_UNCORRECTABLE = (s.rd R.FLASH_UNCORRECTABLE + 1) % 2 ^ R.FLASH_UNCORRECTABLE.width) ∧
  (∀ (s : State) (b : FlashBlock) (pages : List Nat) (micros : Nat), s.coreOn = true → s.dieServes b = true → (s.blockState b).retired = false →
       (s.blockState b).eraseOpen = false →
       ∃ t, exec (.flashProgramComplete b pages micros true) s = .next t ∧ (t.blockState b).programs = (s.blockState b).programs + 1 ∧
         t.flash.erased = s.flash.erased - programBytes ∧
         ∀ p ∈ pages, (AMap.get? s.dur.dirty p).map (fun x => (x.reading, x.again)) = some (true, false) → AMap.get? t.dur.dirty p = none) ∧
  (∀ (s : State) (b : FlashBlock), s.coreOn = true → s.eraseDue b = true → (s.save.active = true → s.save.step < 5) →
       ∃ t, exec (.flashEraseComplete b true) s = .next t ∧ (t.blockState b).erases = (s.blockState b).erases + 1 ∧
         (t.blockState b).eraseOpen = false ∧ t.flash.erased = s.flash.erased + s.blockBytes) ∧
  (∀ (s : State) (b : FlashBlock) (bytes : Nat), s.blockFree b = true → s.floorBars bytes = false →
       ∃ t, exec (.reclaim b bytes) s = .next t ∧ (t.blockState b).eraseOpen = true ∧ t.flash.erased = s.flash.erased - bytes ∧
         t.rd R.FLASH_RECLAIM_BYTES = (s.rd R.FLASH_RECLAIM_BYTES + bytes) % 2 ^ R.FLASH_RECLAIM_BYTES.width) ∧
  (∀ (s : State) (least most : FlashBlock) (bytes : Nat), s.blockFree least = true → s.blockFree most = true → s.spreadWide least most = true →
       s.floorBars s.blockBytes = false →
       ∃ t, exec (.planish least most bytes) s = .next t ∧ (t.blockState least).eraseOpen = true ∧
         (t.blockState most).programs = (s.blockState most).programs + 1 ∧ t.flash.erased = s.flash.erased - s.blockBytes) ∧
  (∀ (s : State) (b : FlashBlock) (bytes : Nat) (pages : List FlashPage), s.blockFree b = true → s.on R.FLASH_CTRL_PATROL_EN = true →
       s.floorBars bytes = false →
       ∃ t, exec (.anneal b bytes pages) s = .next t ∧ t.flash.erased = s.flash.erased - bytes ∧
         t.rd R.FLASH_ANNEAL_BYTES = (s.rd R.FLASH_ANNEAL_BYTES + bytes) % 2 ^ R.FLASH_ANNEAL_BYTES.width ∧
         ∀ p ∈ pages, t.flash.relocate.all (fun e => e.1 != p) = true) ∧
  (∀ s : State, s.coreOn = true → exec .journalFlush s = .next { s with flash.journal := 0 }) ∧
  (∀ s : State, s.coreOn = true → s.save.active = false → s.start.tablesDone = true → s.flash.checkpointAt ≤ s.now →
       exec .journalCheckpoint s = .next { s with flash.checkpointAt := s.now + sec 60 })

/-- What REFRESH_DUE, DRAM_SENSOR_READ, CA_PARITY_ERROR, SPPR_COMPLETE, NEAR_FILL_COMPLETE, DRAM_REQUEST_AGED, SCRUB, TABLE_RELOAD_COMPLETE and
POISON_REPAIR_COMPLETE leave where they take effect (R206, R253, R255 to R257, R259, R287, R294, R297). -/
def Obligations.DramAndIntegrity : Prop :=
  (∀ (s : State) (ch bank : Nat) (c : DramChannel), s.dramChannel ch = some c → s.coreOn = true → s.rdN R.DRAM_CH_STATUS_STATE ch = 2 →
       (AMap.get? s.dram.refreshed (ch * 256 + bank % 256)).getD 0 + s.refreshInterval c ≤ s.now →
       exec (.refreshDue ch bank) s = .next { s with dram.refreshed := AMap.set s.dram.refreshed (ch * 256 + bank % 256) s.now }) ∧
  (∀ (s : State) (ch temp : Nat) (c : DramChannel), s.dramChannel ch = some c → s.coreOn = true → ch < 24 →
       s.rdN R.DRAM_CH_STATUS_STATE ch = 2 → temp < 105 →
       ∃ t, exec (.dramSensorRead ch (some temp)) s = .next t ∧ t.rdN R.DRAM_CH_STATUS_TEMP_C ch = temp ∧
         (t.dramChannel ch).map (fun x => (x.hot, x.answered, x.silent)) = some (decide (85 < temp), s.now, false)) ∧
  (∀ (s : State) (ch retries : Nat), s.coreOn = true → 3 ≤ retries → ch < 24 → s.rdN R.DRAM_CH_STATUS_STATE ch = 2 →
       ∃ t, exec (.caParityError ch retries) s = .next t ∧ t.rdN R.DRAM_CH_STATUS_STATE ch = 3 ∧ t.rdN R.DRAM_CH_STATUS_OUT_CAUSE ch = 8 ∧
         t.rd R.DRAM_STATUS_IN_SERVICE = (s.rd R.DRAM_STATUS_IN_SERVICE - 1) % 2 ^ R.DRAM_STATUS_IN_SERVICE.width) ∧
  (∀ (s : State) (ch rank bank row : Nat), s.coreOn = true → s.dram.repairing.contains (rowKey ch rank bank row) = true →
       ∃ t, exec (.spprComplete ch rank bank row) s = .next t ∧ t.dram.repairing = s.dram.repairing.filter (· != rowKey ch rank bank row) ∧
         t.rd R.DRAM_PPR = (s.rd R.DRAM_PPR + 1) % 2 ^ R.DRAM_PPR.width) ∧
  (∀ (s : State) (bank w : Nat) (m : Miss), AMap.get? s.near.misses bank = some m → m.way = some w → s.coreOn = true → s.save.active = false →
       s.bankBusy (m.line * 64) = false → s.channelGone (m.line * 64) = false → s.behindAged m = false → s.eng.ops = [] →
       ∃ t, exec (.nearFillComplete bank false) s = .next t ∧ AMap.get? t.near.misses bank = none ∧
         (t.wayLine w).map (fun x => (x.line, x.state, x.data)) = some (m.line, if m.merged.isEmpty then .clean else .dirty,
           m.merged.foldl (fun d p => d.set p.1 p.2) (s.dramLine m.line))) ∧
  (∀ (s : State) (bank : Nat) (m : Miss), AMap.get? s.near.misses bank = some m → s.coreOn = true →
       m.since + us (s.rd R.DRAM_AGE_AGE_US) ≤ s.now →
       exec (.dramRequestAged bank) s = .next { s with near.misses := AMap.set s.near.misses bank { m with aged := true } }) ∧
  (∀ (s : State) (pct : Nat) (ue : Bool), s.coreOn = true → s.save.active = false → s.rd R.LIFE_STATE_POWER ≠ 2 → pct < 100 →
       exec (.scrub 0 pct none ue) s = .next (s.wr R.INTEG_SCRUB_STATUS_DRAM_PCT pct)) ∧
  (∀ (s : State) (pct a : Nat), s.coreOn = true → s.save.active = false → s.rd R.LIFE_STATE_POWER ≠ 2 → pct < 100 →
       ∃ t, exec (.scrub 0 pct (some (.dram a)) false) s = .next t ∧ t.rd R.DRAM_CE = (s.rd R.DRAM_CE + 1) % 2 ^ R.DRAM_CE.width ∧
         t.rd R.INTEG_SCRUB_STATUS_DRAM_PCT = pct) ∧
  (∀ (s : State) (kind entry : Nat) (ok : Bool), s.coreOn = true → s.integ.reloading.contains (kind, entry) = true →
       ∃ t, exec (.tableReloadComplete kind entry ok) s = .next t ∧
         t.integ.reloading = s.integ.reloading.filter (· != (kind, entry)) ∧
         t.integ.failed = s.integ.failed ++ (if ok then [] else [(kind, entry)])) ∧
  (∀ (s : State) (l : Nat) (d : List Byte), s.coreOn = true → s.integ.fixing.contains l = true → s.flashChunk l = some d →
       AMap.has s.mem.dramPoison l = true →
       ∃ t, exec (.poisonRepairComplete l true) s = .next t ∧ t.integ.fixing.contains l = false ∧
         (s.eng.ops = [] → AMap.has t.mem.dramPoison l = false))

/-- What CACHE_LOCK, CACHE_UNLOCK, CACHE_RANGE_INVALIDATE, NEAR_CACHE_DISABLE, NEAR_FLUSH_COMPLETE and NEAR_CACHE_ENABLE leave where they take effect
(R210, R212 to R215). -/
def Obligations.NearCacheRows : Prop :=
  (∀ (s : State) (r : CmdRef) (c : Cmd) (region off len i n : Nat) (repin : Bool) (x : Region), Accepts s r 0x0501 c → s.twin.holder = true →
       s.region? region = some x → x.shelf = false → s.lockVerdict region off len = .ok (i, repin, n) →
       ∃ t, exec (.cacheLock r region off len) s = .next t ∧ Ended t c St.DONE 0 i ∧ AMap.has t.near.locks i = true) ∧
  (∀ (s : State) (r : CmdRef) (c : Cmd) (region off len i n : Nat) (x : Region), Accepts s r 0x0502 c → s.twin.holder = true →
       s.region? region = some x → n = (if len = 0 then x.size - off else len) → off % 64 = 0 → n % 64 = 0 → off + n ≤ x.size →
       s.exactLock region off n = some i →
       ∃ t, exec (.cacheUnlock r region off len) s = .next t ∧ Ended t c St.DONE 0 0 ∧ AMap.has t.near.locks i = false) ∧
  (∀ (s : State) (r : CmdRef) (c : Cmd) (region off len n : Nat) (x : Region), Accepts s r 0x0503 c → s.region? region = some x →
       n = (if len = 0 then x.size - off else len) → off % 64 = 0 → n % 64 = 0 → off + n ≤ x.size →
       ∃ t, exec (.cacheRangeInvalidate r region off len) s = .next t ∧
         Ended t c St.DONE 0 (s.dropLines (s.rangeLines x off n) false).1) ∧
  (∀ (s : State) (maxLockWays : Nat), s.coreOn = true → s.rd R.NEAR_CTRL_ENABLE = 1 →
       ∃ t, exec (.nearCacheDisable maxLockWays) s = .next t ∧ t.rd R.NEAR_CTRL_ENABLE = 2 ∧
         t.rd R.NEAR_FLUSH_LEFT_LINES = s.residentLines.length % 2 ^ R.NEAR_FLUSH_LEFT_LINES.width ∧
         t.rd R.NEAR_CTRL_MAX_LOCK_WAYS = clampTo 0 12 maxLockWays ∧ t.near.reenable = false) ∧
  (∀ s : State, s.coreOn = true → s.rd R.NEAR_CTRL_ENABLE = 2 → s.near.reenable = false →
       ∃ t, exec .nearFlushComplete s = .next t ∧ t.rd R.NEAR_CTRL_ENABLE = 0 ∧ t.rd R.NEAR_FLUSH_LEFT_LINES = 0 ∧
         (s.eng.ops = [] → t.near.ways = [] ∧ t.near.victims = [])) ∧
  (∀ (s : State) (maxLockWays : Nat), s.coreOn = true → s.rd R.NEAR_CTRL_ENABLE = 0 →
       ∃ t, exec (.nearCacheEnable maxLockWays) s = .next t ∧ t.rd R.NEAR_CTRL_ENABLE = 1 ∧
         t.rd R.NEAR_CTRL_MAX_LOCK_WAYS = clampTo 0 12 maxLockWays)

/-- What REGION_CREATE, REGION_RESIZE, REGION_DESTROY, REGION_SET_FLAGS and ZERO_FILL_COMPLETE leave where the active takes the command:
a WRITABLE region is CREATING, and a grow RESIZING, until its zeros are written; a SHELF region is there at once; a shrink or a destroy under
which nothing runs ends at once (R36 to R43, R46, R55, R57). -/
def Obligations.RegionCommands : Prop :=
  (∀ (s : State) (r : CmdRef) (c : Cmd) (base size flags object key peer id : Nat) (x : Region), Accepts s r 0x0101 c → s.twin.holder = true →
       s.outboxFull = false → (s.inDomain && s.domain.dirFull) = false →
       (match s.newRegion base size flags (object % 262144) key with | .ok y => decide (y = (id, x)) | .error _ => false) = true →
       (match s.createRegion id x with | .ok _ => true | .error _ => false) = true → (x.mirrored && s.twinAccepts && peer != 0) = false →
       ∃ t, exec (.regionCreate r base size flags object key peer) s = .next t ∧ t.region? id = some x ∧
         (x.shelf = false → AMap.get? t.prot.creating id = some c.id ∧ StillRuns t c) ∧
         (x.shelf = true → Ended t c St.DONE 0 (pack [(4, id), (8, x.base)]))) ∧
  (∀ (s : State) (r : CmdRef) (c : Cmd) (region newSize peer id n : Nat) (x : Region), Accepts s r 0x0102 c → s.twin.holder = true →
       s.outboxFull = false → id = region % 262144 → n = regionSize newSize →
       (match s.resizeVerdict id n with | .ok y => decide (y = x) | .error _ => false) = true → n = x.size →
       ∃ t, exec (.regionResize r region newSize peer) s = .next t ∧ Ended t c St.DONE 0 0 ∧ t.region? id = some x) ∧
  (∀ (s : State) (r : CmdRef) (c : Cmd) (region newSize peer id n : Nat) (x : Region), Accepts s r 0x0102 c → s.twin.holder = true →
       s.outboxFull = false → id = region % 262144 → n = regionSize newSize →
       (match s.resizeVerdict id n with | .ok y => decide (y = x) | .error _ => false) = true → x.size < n → s.holds x = true →
       (match s.growRegion id x n with | .ok _ => true | .error _ => false) = true → (x.mirrored && s.twinAccepts && peer != 0) = false →
       ∃ t, exec (.regionResize r region newSize peer) s = .next t ∧ StillRuns t c ∧
         t.region? id = some { x with state := .resizing, newSize := n } ∧ AMap.get? t.prot.creating id = some c.id) ∧
  (∀ (s : State) (r : CmdRef) (c : Cmd) (region newSize peer id n : Nat) (x : Region), Accepts s r 0x0102 c → s.twin.holder = true →
       s.outboxFull = false → id = region % 262144 → n = regionSize newSize →
       (match s.resizeVerdict id n with | .ok y => decide (y = x) | .error _ => false) = true → n < x.size →
       s.eng.ops = [] → s.eng.gather = [] → s.ports.waiting = [] →
       ∃ t, exec (.regionResize r region newSize peer) s = .next t ∧ Ended t c St.DONE 0 0 ∧
         (t.region? id).map (fun y => (y.state, y.size)) = some (.active, n)) ∧
  (∀ (s : State) (r : CmdRef) (c : Cmd) (region id : Nat) (x : Region), Accepts s r 0x0103 c → s.twin.holder = true → s.outboxFull = false →
       id = region % 262144 → s.region? id = some x → s.isDirectory id = false → x.state = .active →
       s.eng.ops = [] → s.eng.gather = [] → s.eng.waiting = [] → s.ports.waiting = [] →
       ∃ t, exec (.regionDestroy r region) s = .next t ∧ Ended t c St.DONE 0 0 ∧ t.region? id = none) ∧
  (∀ (s : State) (r : CmdRef) (c : Cmd) (region set clear peer id : Nat) (x : Region), Accepts s r 0x0104 c → s.twin.holder = true →
       s.outboxFull = false → id = region % 262144 → s.region? id = some x → x.state = .active →
       (set ||| clear).testBit 0 = false → (set ||| clear).testBit 2 = false → Region.flagsValid (Region.withFlags x set clear) = true →
       ((Region.withFlags x set clear).mirrored = true → x.mirrored = false → x.owner = s.side ∧ s.twinAccepts = false) →
       ∃ t, exec (.regionSetFlags r region set clear peer) s = .next t ∧ Ended t c St.DONE 0 0 ∧
         (t.region? id).map (fun y => (y.mirrored, y.pinNear)) =
           some ((Region.withFlags x set clear).mirrored, (Region.withFlags x set clear).pinNear)) ∧
  (∀ (s : State) (region cmd : Nat) (c : Cmd) (x : Region), s.coreOn = true → s.save.active = false →
       AMap.get? s.prot.creating region = some cmd → s.region? region = some x → s.cmds.find? (fun d => d.id == cmd) = some c → c.orphan = false →
       ∃ t, exec (.zeroFillComplete region) s = .next t ∧ AMap.get? t.prot.creating region = none ∧
         (x.state = .creating → t.region? region = some { x with state := .active } ∧
           Ended t c St.DONE 0 (pack [(4, region), (8, x.base)])) ∧
         (x.state = .resizing → (t.region? region).map (fun y => (y.state, y.size)) = some (.active, x.newSize) ∧ Ended t c St.DONE 0 0))

/-- What PD_CREATE, PD_DESTROY, PD_BIND_REGION, PD_UNBIND_REGION, SPACEKEY_SET, GRACE_PERIOD_END, DRAIN_COMPLETE and DRAIN_LIMIT leave where
they take effect (R47 to R51, R55, R56). -/
def Obligations.ProtectionCommands : Prop :=
  (∀ (s : State) (r : CmdRef) (c : Cmd) (pd p : Nat), Accepts s r 0x0105 c → s.twin.holder = true → s.inDomain = false →
       (if pd = 0xFFFFFFFF then AMap.free s.prot.pds 0 65536 else some (pd % 65536)) = some p → AMap.has s.prot.pds p = false →
       ∃ t, exec (.pdCreate r pd) s = .next t ∧ AMap.get? t.prot.pds p = some ⟨0, none, 0⟩ ∧
         (s.founded = false → Ended t c St.DONE 0 (pack [(4, p)]))) ∧
  (∀ (s : State) (r : CmdRef) (c : Cmd) (pd p : Nat), Accepts s r 0x0106 c → s.twin.holder = true → s.inDomain = false → s.founded = false →
       p = pd % 65536 → AMap.has s.prot.pds p = true → s.prot.drains.any (fun d => d.removal == .pd p) = false → s.pdInUse p = false →
       s.eng.ops = [] → s.eng.gather = [] → s.ports.waiting = [] →
       ∃ t, exec (.pdDestroy r pd) s = .next t ∧ Ended t c St.DONE 0 0 ∧ AMap.get? t.prot.pds p = none ∧
         t.prot.bindings = s.prot.bindings.filter (fun e => e.1 / 262144 != p)) ∧
  (∀ (s : State) (r : CmdRef) (c : Cmd) (pd region access : Nat) (p : Pd) (x : Region), Accepts s r 0x0107 c → s.twin.holder = true →
       AMap.get? s.prot.pds (pd % 65536) = some p → s.region? (region % 262144) = some x → x.state ≠ .creating → x.state ≠ .destroying →
       (access = 1 → x.shelf = false) → s.unbinding (pd % 65536) (region % 262144) = false → s.prot.bindings.length < 524288 →
       ∃ t, exec (.pdBindRegion r pd region access) s = .next t ∧ Ended t c St.DONE 0 0 ∧
         AMap.get? t.prot.bindings (bindKey (pd % 65536) (region % 262144)) = some (access == 1)) ∧
  (∀ (s : State) (r : CmdRef) (c : Cmd) (pd region : Nat) (p : Pd) (x : Region), Accepts s r 0x0108 c → s.twin.holder = true →
       AMap.get? s.prot.pds (pd % 65536) = some p → s.region? (region % 262144) = some x → x.state ≠ .creating → x.state ≠ .destroying →
       s.isDirectory (region % 262144) = false → AMap.has s.prot.bindings (bindKey (pd % 65536) (region % 262144)) = true →
       s.prot.drains.any (fun d => d.removal == .unbind (pd % 65536) (region % 262144)) = false →
       s.eng.ops = [] → s.eng.gather = [] → s.ports.waiting = [] →
       ∃ t, exec (.pdUnbindRegion r pd region) s = .next t ∧ Ended t c St.DONE 0 0 ∧
         AMap.get? t.prot.bindings (bindKey (pd % 65536) (region % 262144)) = none) ∧
  (∀ (s : State) (r : CmdRef) (c : Cmd) (pd key grace : Nat) (p : Pd), Accepts s r 0x0109 c → s.twin.holder = true → s.inDomain = false →
       AMap.get? s.prot.pds (pd % 65536) = some p →
       ∃ t, exec (.spacekeySet r pd key grace) s = .next t ∧
         AMap.get? t.prot.pds (pd % 65536) = some { p with key := key, prev := if clampTo 0 10000 grace = 0 then none else some p.key } ∧
         (s.founded = false → Ended t c St.DONE 0 0)) ∧
  (∀ (s : State) (pd : Nat) (p : Pd), s.coreOn = true → AMap.get? s.prot.pds pd = some p → due s.now (AMap.get? s.prot.graceEnds pd) = true →
       ∃ t, exec (.gracePeriodEnd pd) s = .next t ∧ AMap.get? t.prot.pds pd = some { p with prev := none } ∧
         AMap.get? t.prot.graceEnds pd = none) ∧
  (∀ (s : State) (place pd region : Nat) (d : Drain) (c : Cmd), s.coreOn = true → s.save.active = false → s.prot.drains[place]? = some d →
       s.drained d = true → d.removal = .unbind pd region → d.cmd = some c.id → s.cmds.find? (fun k => k.id == c.id) = some c → c.orphan = false →
       ∃ t, exec (.drainComplete place) s = .next t ∧ t.prot.drains = s.prot.drains.erase d ∧ Ended t c St.DONE 0 0 ∧
         AMap.get? t.prot.bindings (bindKey pd region) = none) ∧
  (∀ (s : State) (place : Nat) (d : Drain) (o : Op), s.coreOn = true → s.save.active = false → s.prot.drains[place]? = some d →
       d.limit ≤ s.now → s.eng.ops.find? (fun x => x.id == o.id) = some o → d.ops.contains o.id = true →
       o.req.opcode ∈ [1, 2, 7] → o.status = none → o.responded = false → s.opReady o = false → s.eng.gather = [] →
       ∃ t, exec (.drainLimit place) s = .next t ∧
         (t.eng.ops.find? (fun x => x.id == o.id)).map (·.status) = some (some St.PARTIAL))

/-- What SHELF_OBJECT_CREATE, SHELF_OBJECT_DROP, SHELF_OBJECT_LOAD, SCHEDULE_LOAD, SCHEDULE_DROP, CURSOR_SYNC_TIMER, TIER_STAGE_WRITE,
TILE_FILL_PROGRESS, LOOKAHEAD_FILL, TILE_EVICTION_COMPLETE, TILE_RECOVERY_COMPLETE and TILE leave where they take effect (R219 to R240).
Cursor positions as TILE items of kind 5, and the kinds themselves, are the model's choice (assumption log 47). -/
def Obligations.ShelfCommands : Prop :=
  (∀ (s : State) (r : CmdRef) (c : Cmd) (id tileCode flags key size owner tag i : Nat) (x : Object), Accepts s r 0x0401 c → s.twin.holder = true →
       x = ⟨.loading, if tileCode ≤ 4 then tileCode else 2, flags % 2 == 1, key, clampTo 0x10000 0x40000000000 size, owner % 65536, tag % 2 ^ 128,
         [], [], [], true⟩ →
       (match s.objectVerdict id key owner x with | .ok j => decide (j = i) | .error _ => false) = true →
       ∃ t, exec (.shelfObjectCreate r id tileCode flags key size owner tag) s = .next t ∧ t.object? i = some x ∧
         Ended t c St.DONE 0 (pack [(4, i)])) ∧
  (∀ (s : State) (r : CmdRef) (c : Cmd) (id : Nat), Accepts s r 0x0403 c → s.twin.holder = true →
       AMap.has s.shelf.objects (id % 262144) = true → s.objectMapped (id % 262144) = false →
       ∃ t, exec (.shelfObjectDrop r id) s = .next t ∧ t.object? (id % 262144) = none ∧ Ended t c St.DONE 0 0 ∧
         t.shelf.tiles = s.shelf.tiles.filter (fun k => k.object != id % 262144)) ∧
  (∀ (s : State) (r : CmdRef) (c : Cmd) (id flags off host : Nat) (data : List Byte), Accepts s r 0x0402 c → s.twin.holder = true → host % 64 = 0 →
       s.loadVerdict (id % 262144) flags off data.length = none → s.stage = 0 → s.floorBars data.length = false →
       ∃ t, exec (.shelfObjectLoad r id flags off host data) s = .next t ∧ Ended t c St.DONE 0 0 ∧
         AMap.get? t.shelf.bytes (id % 262144) = some (Mem.writeN ((AMap.get? s.shelf.bytes (id % 262144)).getD []) off data)) ∧
  (∀ (s : State) (r : CmdRef) (c : Cmd) (id flags lookahead object pd cursors entries host i f : Nat) (list es : List Nat), Accepts s r 0x0404 c →
       s.twin.holder = true → host % 64 = 0 → es = (list.take (clampTo 1 4194304 entries)).map (· % 2 ^ 32) →
       (match s.scheduleVerdict id (object % 262144) (pd % 65536) (clampTo 1 1024 cursors) es with | .ok j => decide (j = (i, f)) | .error _ => false)
         = true →
       ∃ t, exec (.scheduleLoad r id flags lookahead object pd cursors entries host list) s = .next t ∧
         AMap.get? t.shelf.schedules i = some ⟨object % 262144, es, flags % 2 == 1, flags / 2 % 2 == 1, clampTo 1 64 lookahead, pd % 65536, f,
           List.replicate (clampTo 1 1024 cursors) 0⟩ ∧
         Ended t c St.DONE 0 (pack [(4, i), (4, f)])) ∧
  (∀ (s : State) (r : CmdRef) (c : Cmd) (id : Nat), Accepts s r 0x0405 c → s.twin.holder = true →
       AMap.has s.shelf.schedules (id % 4096) = true → s.eng.ops = [] →
       ∃ t, exec (.scheduleDrop r id) s = .next t ∧ AMap.has t.shelf.schedules (id % 4096) = false ∧ Ended t c St.DONE 0 0) ∧
  (∀ s : State, s.coreOn = true → s.isActive = true → s.paired = true → s.save.active = false → s.twin.cursorAt ≤ s.now →
       ∃ t, exec .cursorSyncTimer s = .next t ∧ t.twin.cursorAt = s.now + ms 1) ∧
  (∀ (s : State) (v : Nat), s.coreOn = true →
       ∃ t, exec (.tierStageWrite v) s = .next t ∧ t.rd R.TIER_STAGE_STAGE_GIB = s.stageLimit (v % 16384) % 2 ^ R.TIER_STAGE_STAGE_GIB.width) ∧
  (∀ (s : State) (o k p : Nat) (tagOk : Bool) (x : Object) (y : Tile), s.coreOn = true → s.save.active = false → s.object? o = some x →
       s.tile? o k = some y → y.state = .filling → Object.nextPage x y = some p →
       (x.header && p == 0 || (!s.flash.lost.contains (.shelf o k p) && tagOk && s.shelfPageFits x o y p)) = true →
       s.eng.ops = [] →
       ∃ t, exec (.tileFillProgress o k tagOk) s = .next t ∧ (t.tile? o k).map (·.pages) = some (y.pages ++ [p])) ∧
  (∀ (s : State) (o k : Nat) (x : Object), s.coreOn = true → s.isActive = true → s.save.active = false → s.start.admitted = true →
       s.demandWaits = false → s.lookaheadWants.head? = some (o, k) → s.object? o = some x → s.tileFits (Object.tileUnits x) false false = true →
       ∃ t, exec .lookaheadFill s = .next t ∧ (t.tile? o k).map (·.state) = some .filling) ∧
  (∀ (s : State) (o k : Nat) (y : Tile), s.coreOn = true → s.tile? o k = some y → y.state = .evicting → s.tileRefs o k = 0 →
       s.eng.ops = [] → s.near.loading = [] →
       ∃ t, exec (.tileEvictionComplete o k) s = .next t ∧ t.tile? o k = none) ∧
  (∀ (s : State) (o k p : Nat) (x : Object) (y : Tile), s.coreOn = true → s.object? o = some x → s.tile? o k = some y → y.recovering.head? = some p →
       s.eng.ops = [] →
       ∃ t, exec (.tileRecoveryComplete o k true) s = .next t ∧ (t.tile? o k).map (fun z => (z.pages, z.recovered)) = some (y.pages ++ [p], true)) ∧
  (∀ (s : State) (fields : List Nat) (data : List Byte) (o k : Nat), s.coreOn = true → s.linkUp = true → s.twin.holder = false →
       o = fields.getD 0 0 → k = fields.getD 1 0 →
       ∃ t, exec (.tile 0 fields data) s = .next t ∧ AMap.get? t.shelf.bytes o = some (Mem.writeN ((AMap.get? s.shelf.bytes o).getD []) k data)) ∧
  (∀ (s : State) (fields : List Nat) (data : List Byte) (o : Nat) (x : Schedule), s.coreOn = true → s.linkUp = true → s.twin.holder = false →
       o = fields.getD 0 0 → AMap.get? s.shelf.schedules o = some x →
       ∃ t, exec (.tile 5 fields data) s = .next t ∧
         AMap.get? t.shelf.schedules o = some { x with positions := (fields.drop 1).take x.positions.length })

/-- What QUEUE_CREATE, QUEUE_DESTROY, QP_CREATE, QP_MODIFY and QP_DESTROY leave where they take effect and nothing runs under what they remove
(R93, R118, R123, R124, R134). -/
def Obligations.QueueAndQpCommands : Prop :=
  (∀ (s : State) (r : CmdRef) (c : Cmd) (id pd key i : Nat), Accepts s r 0x0201 c → s.twin.holder = true → s.inDomain = false →
       s.queueVerdict (id % 2 ^ 32) (pd % 65536) key = none → i = id % 2 ^ 32 % 2 ^ 22 →
       ∃ t, exec (.queueCreate r id pd key) s = .next t ∧
         AMap.get? t.cerga.queues i = some ⟨id % 2 ^ 32 / 2 ^ 22, pd % 65536, key, false⟩ ∧ (s.founded = false → Ended t c St.DONE 0 0)) ∧
  (∀ (s : State) (r : CmdRef) (c : Cmd) (id i : Nat) (q : QueueRec), Accepts s r 0x0202 c → s.twin.holder = true → s.inDomain = false →
       s.founded = false → i = id % 2 ^ 32 % 2 ^ 22 → AMap.get? s.cerga.queues i = some q → q.gen = id % 2 ^ 32 / 2 ^ 22 → q.leaving = false →
       s.eng.ops = [] → s.eng.gather = [] → s.ports.waiting = [] →
       ∃ t, exec (.queueDestroy r id) s = .next t ∧ Ended t c St.DONE 0 0 ∧ AMap.get? t.cerga.queues i = none ∧
         AMap.get? t.cerga.destroyed i = some q.gen ∧ AMap.get? t.cerga.streams i = none) ∧
  (∀ (s : State) (r : CmdRef) (c : Cmd) (num pd q : Nat), Accepts s r 0x0203 c → s.twin.holder = true →
       (if num = 0xFFFFFFFF then AMap.free s.roce.qps 0 262144 else qpIndex (num % 2 ^ 24)) = some q → AMap.has s.roce.qps q = false →
       AMap.has s.prot.pds (pd % 65536) = true →
       ∃ t, exec (.qpCreate r num pd) s = .next t ∧ (t.qp? q).map (fun x => (x.state, x.pd)) = some (.init, pd % 65536) ∧
         Ended t c St.DONE 0 (pack [(4, q + 0x100000)])) ∧
  (∀ (s : State) (r : CmdRef) (c : Cmd) (num state q : Nat) (p : QpParams) (x : Qp), Accepts s r 0x0204 c → s.twin.holder = true →
       qpIndex (num % 2 ^ 24) = some q → s.qp? q = some x → s.prot.drains.any (fun d => d.removal == .qp q) = false →
       qpMayMove x (qpTarget state) = true → s.eng.ops = [] → s.eng.gather = [] → s.ports.waiting = [] →
       ∃ t, exec (.qpModify r num state p) s = .next t ∧ Ended t c St.DONE 0 0 ∧
         (t.qp? q).map (·.state) = some (if state = 1 then .init else if state = 2 then .rtr else if state = 3 then .rts else .err) ∧
         (state = 2 → (t.qp? q).map (fun y => (y.maxRd, y.minRnr, y.tclass, y.dqpn)) =
             some (clampTo 1 16 p.maxRd, p.minRnr % 32, p.tclass % 256, p.dqpn % 2 ^ 24) ∧
           (t.qp? q).map (fun y => (y.epsn, y.dip, y.flow, y.hop)) =
             some (p.psn % 2 ^ 24, p.dip % 2 ^ 128, p.flow % 2 ^ 20, clampTo 1 255 p.hop))) ∧
  (∀ (s : State) (r : CmdRef) (c : Cmd) (num q : Nat), Accepts s r 0x0205 c → s.twin.holder = true → qpIndex (num % 2 ^ 24) = some q →
       AMap.has s.roce.qps q = true → s.prot.drains.any (fun d => d.removal == .qp q) = false →
       s.eng.ops = [] → s.eng.gather = [] → s.ports.waiting = [] →
       ∃ t, exec (.qpDestroy r num) s = .next t ∧ Ended t c St.DONE 0 0 ∧ t.qp? q = none)

/-- What ACCOUNT_CREATE, ACCOUNT_BIND, METER_EXPORT_SETUP and SHAPER_SET leave where they take effect (R319, R320, R327, R330, R331). -/
def Obligations.MeterCommands : Prop :=
  (∀ (s : State) (r : CmdRef) (c : Cmd) (account mode tenant k : Nat), Accepts s r 0x0601 c → s.twin.holder = true → mode ≠ 1 →
       (if account = 0xFFFFFFFF then AMap.free s.meter.accounts 1 65535 else some (account % 65536)) = some k → k ≠ 0 →
       AMap.has s.meter.accounts k = false →
       ∃ t, exec (.accountCreate r account mode tenant) s = .next t ∧ AMap.get? t.meter.accounts k = some ⟨tenant, false⟩ ∧
         Ended t c St.DONE 0 (pack [(4, k)])) ∧
  (∀ (s : State) (r : CmdRef) (c : Cmd) (account tenant k : Nat), Accepts s r 0x0601 c → s.twin.holder = true → k = account % 65536 → k ≠ 0 →
       s.accountOpen k = true → s.accountBound k = false → AMap.wf s.meter.accounts = true →
       ∃ t, exec (.accountCreate r account 1 tenant) s = .next t ∧ ((AMap.get? t.meter.accounts k).map (·.closing)).getD true = true ∧
         Ended t c St.DONE 0 (pack [(4, k)])) ∧
  (∀ (s : State) (r : CmdRef) (c : Cmd) (kind target account : Nat), Accepts s r 0x0602 c → s.twin.holder = true →
       s.accountOpen (account % 65536) = true →
       (if kind = 1 then ((s.region? (target % 2 ^ 18)).map (fun x => !x.shelf)).getD false else AMap.has s.prot.pds (target % 65536)) = true →
       ∃ t, exec (.accountBind r kind target account) s = .next t ∧ Ended t c St.DONE 0 0 ∧
         (kind = 1 → (t.region? (target % 2 ^ 18)).map (·.account) = some (account % 65536)) ∧
         (kind ≠ 1 → (AMap.get? t.prot.pds (target % 65536)).map (·.account) = some (account % 65536))) ∧
  (∀ (s : State) (r : CmdRef) (c : Cmd) (ring flags first last : Nat), Accepts s r 0x0603 c →
       (flags.testBit 0 && s.meter.setups.any (fun e => e.1 != min ring 3 && e.2.enable &&
         decide (e.2.first ≤ last % 65536 ∧ first % 65536 ≤ e.2.last))) = false →
       ∃ t, exec (.meterExportSetup r ring flags first last) s = .next t ∧ Ended t c St.DONE 0 0 ∧
         AMap.get? t.meter.setups (min ring 3) =
           some ⟨flags.testBit 0, flags.testBit 1, flags.testBit 2, flags.testBit 3, first % 65536, last % 65536⟩) ∧
  (∀ (s : State) (r : CmdRef) (c : Cmd) (pd opsRate opsBurst bytesRate burstKib : Nat), Accepts s r 0x0604 c → s.twin.holder = true →
       AMap.has s.prot.pds (pd % 65536) = true → s.eng.waiting = [] → s.ports.waiting = [] →
       ∃ t, exec (.shaperSet r pd opsRate opsBurst bytesRate burstKib) s = .next t ∧ Ended t c St.DONE 0 0 ∧
         (AMap.get? t.meter.shapers (pd % 65536)).map (fun b => (b.opsRate, b.opsBurst, b.bytesRate, b.bytesBurst)) =
           some (if opsRate = 0 then 0 else clampTo 1000 100000000 opsRate, clampTo 1 1048576 opsBurst,
             if bytesRate = 0 then 0 else clampTo 1 1600000 bytesRate, clampTo 64 1048576 burstKib * 1024))

/-- What QUIESCE, RESUME, PACED_ENTRY_TIMER and PACED_EXIT leave where they take effect (R387 to R390). The save of LEVEL 3 is SAVE_NOW's. -/
def Obligations.PowerStateCommands : Prop :=
  (∀ (s : State) (r : CmdRef) (c : Cmd) (flags : Nat), Accepts s r 0x0906 c → s.rd R.LIFE_STATE_POWER ≠ 2 →
       ∃ t, exec (.quiesce r 1 flags) s = .next t ∧ Ended t c St.DONE 0 0 ∧ t.rd R.LIFE_STATE_POWER = 1) ∧
  (∀ (s : State) (r : CmdRef) (c : Cmd) (level flags : Nat), Accepts s r 0x0906 c → level ≠ 1 → level ≠ 3 → s.rd R.LIFE_STATE_POWER ≠ 2 →
       s.quiesceYields = false → (flags % 2 = 1 ∨ s.isActive = false) → s.eng.ops.all (fun o => o.responded) = true →
       ∃ t, exec (.quiesce r level flags) s = .next t ∧ Ended t c St.DONE 0 0 ∧ t.rd R.LIFE_STATE_POWER = 2 ∧ t.rd R.NEAR_CTRL_ENABLE = 0 ∧
         t.start.admitted = false) ∧
  (∀ (s : State) (r : CmdRef) (c : Cmd) (flags : Nat), Accepts s r 0x0906 c →
       ∃ t, exec (.quiesce r 3 flags) s = .next t ∧ Ended t c St.DONE 0 s.nextSaveSeq ∧ t.save.active = true ∧ t.save.trigger = 6 ∧
         t.save.action = .keep) ∧
  (∀ (s : State) (r : CmdRef) (c : Cmd) (mask : Nat), Accepts s r 0x0907 c → s.eng.waiting = [] → s.ports.waiting = [] →
       ∃ t, exec (.resume r mask) s = .next t ∧ Ended t c St.DONE 0 0 ∧
         (s.rd R.LIFE_STATE_POWER = 1 ∨ s.rd R.LIFE_STATE_POWER = 2 → t.rd R.LIFE_STATE_POWER = 0)) ∧
  (∀ s : State, s.coreOn = true → s.save.active = false → s.on R.LIFE_POWER_AUTO_PACED = true → s.rd R.LIFE_STATE_POWER = 0 → 11 ≤ s.start.step →
       ∃ t, exec .pacedEntryTimer s = .next t ∧ t.rd R.LIFE_STATE_POWER = 1 ∧ t.pace.automatic = true) ∧
  (∀ s : State, s.coreOn = true → s.save.active = false → s.pace.automatic = true → s.rd R.LIFE_STATE_POWER = 1 →
       ∃ t, exec .pacedExit s = .next t ∧ t.rd R.LIFE_STATE_POWER = 0 ∧ t.pace.automatic = false)

/-- Every Cerga request row: where its first packet is the next one of an open stream, carries the tag of the stream key, and admission takes it at
once, its sequence is received and an operation runs for it; fences and queries have then executed; a WRITE of one packet to a region that is not
MIRRORED has placed its bytes, and an atomic on a line in the near cache returns the old value. A CLIENT_ACKNOWLEDGEMENT moves RESP_ACK
(R60 to R62, R68, R73, R88 to R103, R108, R113 to R116, R231, R232). -/
def Obligations.CergaRequests : Prop :=
  (∀ (s : State) (p : CergaPacket) (q : QueueRec) (i : Nat), i = p.queue % 2 ^ 22 → p.tag = s.requestTag 1 p → CergaNext s 1 p q →
       Passes s (s.cergaRequest i 1 p false) →
       ∃ t, exec (.read p) s = .next t ∧ Admitted s t (s.cergaRequest i 1 p false) ∧ Stream.received (t.stream i) p.seq = true) ∧
  (∀ (s : State) (p : CergaPacket) (q : QueueRec) (i : Nat), i = p.queue % 2 ^ 22 → p.tag = s.requestTag 6 p → CergaNext s 6 p q →
       Passes s (s.cergaRequest i 6 p false) →
       ∃ t, exec (.fence p) s = .next t ∧ Admitted s t (s.cergaRequest i 6 p false) ∧ Stream.received (t.stream i) p.seq = true ∧
         (t.op? s.eng.nextOp).map (·.executed) = some true) ∧
  (∀ (s : State) (p : CergaPacket) (q : QueueRec) (i : Nat), i = p.queue % 2 ^ 22 → p.tag = s.requestTag 7 p → CergaNext s 7 p q →
       Passes s (s.cergaRequest i 7 p false) →
       ∃ t, exec (.shelfRead p) s = .next t ∧ Admitted s t (s.cergaRequest i 7 p false) ∧ Stream.received (t.stream i) p.seq = true) ∧
  (∀ (s : State) (p : CergaPacket) (q : QueueRec) (i : Nat), i = p.queue % 2 ^ 22 → p.tag = s.requestTag 8 p → CergaNext s 8 p q →
       Passes s (s.cergaRequest i 8 p false) →
       ∃ t, exec (.scheduleAdvance p) s = .next t ∧ Admitted s t (s.cergaRequest i 8 p false) ∧ Stream.received (t.stream i) p.seq = true ∧
         (t.op? s.eng.nextOp).map (·.executed) = some true) ∧
  (∀ (s : State) (p : CergaPacket) (q : QueueRec) (i : Nat), i = p.queue % 2 ^ 22 → p.tag = s.requestTag 9 p → CergaNext s 9 p q →
       Passes s (s.cergaRequest i 9 p false) →
       ∃ t, exec (.ledgerQuery p) s = .next t ∧ Admitted s t (s.cergaRequest i 9 p false) ∧ Stream.received (t.stream i) p.seq = true ∧
         (t.op? s.eng.nextOp).map (·.executed) = some true) ∧
  (∀ (s : State) (p : CergaPacket) (q : QueueRec) (i : Nat), i = p.queue % 2 ^ 22 → p.tag = s.requestTag 10 p → CergaNext s 10 p q →
       Passes s (s.cergaRequest i 10 p false) →
       ∃ t, exec (.hallmark p) s = .next t ∧ Admitted s t (s.cergaRequest i 10 p false) ∧ Stream.received (t.stream i) p.seq = true ∧
         (t.op? s.eng.nextOp).map (·.executed) = some true) ∧
  (∀ (s : State) (p : CergaPacket) (q : QueueRec) (i : Nat), i = p.queue % 2 ^ 22 → p.tag = s.requestTag 11 p → CergaNext s 11 p q →
       Passes s (s.cergaRequest i 11 p false) →
       ∃ t, exec (.timeQuery p) s = .next t ∧ Admitted s t (s.cergaRequest i 11 p false) ∧ Stream.received (t.stream i) p.seq = true ∧
         (t.op? s.eng.nextOp).map (·.executed) = some true) ∧
  (∀ (s : State) (p : CergaPacket) (q : QueueRec) (i m : Nat), i = p.queue % 2 ^ 22 → p.tag = s.requestTag 3 p → CergaNext s 3 p q →
       Passes s (s.cergaRequest i 3 p false) → s.media? (p.addr % pairSpace) = some m →
       ∃ t, exec (.cas8 p) s = .next t ∧ Admitted s t (s.cergaRequest i 3 p false) ∧ Stream.received (t.stream i) p.seq = true ∧
         (s.eng.ops = [] → s.eng.gather = [] → s.start.units = [] → s.integ.fixing = [] → (s.findWay (m / 64)).isSome = true →
           (s.access (m / 64)).1 = true → s.chunkPoison (m / 64) = false →
           (t.op? s.eng.nextOp).map (fun o => (o.executed, o.value)) = some (true, some (leNat (s.readRun m 8))))) ∧
  (∀ (s : State) (p : CergaPacket) (q : QueueRec) (i m : Nat), i = p.queue % 2 ^ 22 → p.tag = s.requestTag 4 p → CergaNext s 4 p q →
       Passes s (s.cergaRequest i 4 p false) → s.media? (p.addr % pairSpace) = some m →
       ∃ t, exec (.cas16 p) s = .next t ∧ Admitted s t (s.cergaRequest i 4 p false) ∧ Stream.received (t.stream i) p.seq = true ∧
         (s.eng.ops = [] → s.eng.gather = [] → s.start.units = [] → s.integ.fixing = [] → (s.findWay (m / 64)).isSome = true →
           (s.access (m / 64)).1 = true → s.chunkPoison (m / 64) = false →
           (t.op? s.eng.nextOp).map (fun o => (o.executed, o.value)) = some (true, some (leNat (s.readRun m 16))))) ∧
  (∀ (s : State) (p : CergaPacket) (q : QueueRec) (i m : Nat), i = p.queue % 2 ^ 22 → p.tag = s.requestTag 5 p → CergaNext s 5 p q →
       Passes s (s.cergaRequest i 5 p false) → s.media? (p.addr % pairSpace) = some m →
       ∃ t, exec (.fadd8 p) s = .next t ∧ Admitted s t (s.cergaRequest i 5 p false) ∧ Stream.received (t.stream i) p.seq = true ∧
         (s.eng.ops = [] → s.eng.gather = [] → s.start.units = [] → s.integ.fixing = [] → (s.findWay (m / 64)).isSome = true →
           (s.access (m / 64)).1 = true → s.chunkPoison (m / 64) = false →
           (t.op? s.eng.nextOp).map (fun o => (o.executed, o.value)) = some (true, some (leNat (s.readRun m 8))))) ∧
  (∀ (s : State) (p : CergaPacket) (q : QueueRec) (i : Nat), i = p.queue % 2 ^ 22 → p.tag = s.requestTag 2 p → CergaNext s 2 p q →
       Passes s (s.cergaRequest i 2 p false) →
       ∃ t, exec (.write p) s = .next t ∧ Admitted s t (s.cergaRequest i 2 p false) ∧ Stream.received (t.stream i) p.seq = true ∧
         (s.eng.ops = [] → s.start.units = [] → 0 < p.len → p.data.length = p.len →
           (s.targetRegion (s.cergaRequest i 2 p false)).map (·.mirrored) = some false → s.gatherRoom p.len = true →
           s.linesGone ((s.mediaPieces (p.addr % pairSpace) p.len).map (fun x => linesOf x.1 x.2)).flatten = false →
           (t.op? s.eng.nextOp).map (fun o => (o.arrived, o.placed)) = some (true, [(0, p.len)]))) ∧
  (∀ (s : State) (p : CergaPacket) (q : QueueRec) (i : Nat), i = p.queue % 2 ^ 22 → p.tag = s.requestTag 0x40 p → CergaReaches s p q →
       seqBelow (s.stream i).respAck p.seq = true →
       ∃ t, exec (.clientAcknowledgement p) s = .next t ∧ (t.stream i).respAck = p.seq ∧
         (t.stream i).cache = (s.stream i).cache.filter (fun c => !seqBelow c.seq p.seq))

/-- Every RoCEv2 row: where a packet reaches its QP's context with the PSN that the QP expects and admission takes it at once, an operation runs
for it and ePSN has moved past it, past all its responses for a READ; an opcode that no table names is counted in ROCE_DROP_OPCODE, and a CNP in
ROCE_CNP_RX (R120 to R122, R126, R127, R129). -/
def Obligations.RoceRequests : Prop :=
  (∀ (s : State) (p : RocePacket) (q : Nat) (x : Qp), RoceReaches s p q x → p.bth = 0x06 ∨ p.bth = 0x0A → writeSizes p 0 p.dmaLen = true →
       Passes s (s.roceRequest q x p) →
       ∃ t, exec (.rdmaWrite p) s = .next t ∧ Admitted s t (s.roceRequest q x p) ∧ (t.qp? q).map (·.epsn) = some ((x.epsn + 1) % 2 ^ 24)) ∧
  (∀ (s : State) (p : RocePacket) (q : Nat) (x : Qp), RoceReaches s p q x →
       s.outstanding q < x.maxRd →
       Passes s (s.roceRequest q x { p with bth := 0x0C }) →
       ∃ t, exec (.rdmaReadRequest p) s = .next t ∧ Admitted s t (s.roceRequest q x { p with bth := 0x0C }) ∧ (t.qp? q).map (·.epsn) = some ((x.epsn + rocePackets 1 (min gib p.dmaLen)) % 2 ^ 24)) ∧
  (∀ (s : State) (p : RocePacket) (q : Nat) (x : Qp), RoceReaches s p q x →
       s.outstanding q < x.maxRd →
       Passes s (s.roceRequest q x { p with bth := 0x13 }) →
       ∃ t, exec (.cmpswap p) s = .next t ∧ Admitted s t (s.roceRequest q x { p with bth := 0x13 }) ∧ (t.qp? q).map (·.epsn) = some ((x.epsn + 1) % 2 ^ 24)) ∧
  (∀ (s : State) (p : RocePacket) (q : Nat) (x : Qp), RoceReaches s p q x →
       s.outstanding q < x.maxRd →
       Passes s (s.roceRequest q x { p with bth := 0x14 }) →
       ∃ t, exec (.fetchadd p) s = .next t ∧ Admitted s t (s.roceRequest q x { p with bth := 0x14 }) ∧ (t.qp? q).map (·.epsn) = some ((x.epsn + 1) % 2 ^ 24)) ∧
  (∀ (s : State) (p : RocePacket) (q : Nat) (x : Qp), RoceReaches s p q x → sendOpcodes.contains p.bth = true → s.roceBehind q p.psn = false →
       s.eng.waiting = [] → s.shaperReady x.pd = true →
       ∃ t, exec (.roceUnsupportedOpcode p) s = .next t ∧ (t.qp? q).map (·.state) = some .err ∧
         t.rd R.ROCE_LAST_NAK_STATUS = St.DENIED_PROTECTION) ∧
  (∀ (s : State) (p : RocePacket) (q : Nat) (x : Qp), RoceReaches s p q x → ([6, 7, 8, 0x0A, 0x0C, 0x13, 0x14, 0x81] ++ sendOpcodes).contains p.bth = false →
       s.eng.waiting = [] → s.shaperReady x.pd = true →
       ∃ t, exec (.roceUnsupportedOpcode p) s = .next t ∧
         t.rd R.ROCE_DROP_OPCODE = (s.rd R.ROCE_DROP_OPCODE + 1) % 2 ^ R.ROCE_DROP_OPCODE.width ∧ t.roce.qps = s.roce.qps) ∧
  (∀ (s : State) (p : RocePacket) (q : Nat) (x : Qp), RoceReaches s p q x → s.eng.waiting = [] → s.shaperReady x.pd = true →
       ∃ t, exec (.cnp p) s = .next t ∧
         t.rd R.ROCE_CNP_RX = (s.rd R.ROCE_CNP_RX + 1) % 2 ^ R.ROCE_CNP_RX.width ∧ t.roce.qps = s.roce.qps)

/-- What CONTEXT_FETCH_COMPLETE, HELD_PACKET_ADMISSION, ACK_DELAY_TIMER, ASSEMBLY_TIMER_EXPIRY, STREAM_LAPSE, LEDGER_RELEASE_TIMEOUT,
QP_CONTEXT_FETCH_COMPLETE, ROCE_ASSEMBLY_TIMEOUT, PORT_ADMISSION_OPEN and SHAPER_RELEASE leave where they take effect (R25, R84, R96, R97, R99, R103,
R109, R126, R132, R330). -/
def Obligations.TransportRows : Prop :=
  (∀ (s : State) (index : Nat), s.admits = true → s.cerga.fetching.any (fun h => h.packet.queue % 2 ^ 22 == index) = true → s.contextRoom = true →
       ∃ t, exec (.contextFetchComplete index) s = .next t ∧ t.cerga.cache.contains index = true ∧
         t.cerga.fetching.any (fun h => h.packet.queue % 2 ^ 22 == index) = false) ∧
  (∀ (s : State) (queue seq : Nat) (h : HeldPacket), s.admits = true →
       s.cerga.held.find? (fun h => h.packet.queue == queue && h.packet.seq == seq) = some h → s.canProcess (queue % 2 ^ 22) h.opcode h.packet = true →
       h.packet.offset = 0 → Passes s (s.cergaRequest (queue % 2 ^ 22) h.opcode h.packet false) →
       ∃ t, exec (.heldPacketAdmission queue seq) s = .next t ∧ t.cerga.held = s.cerga.held.erase h ∧
         Admitted s t (s.cergaRequest (queue % 2 ^ 22) h.opcode h.packet false)) ∧
  (∀ (s : State) (index : Nat), s.coreOn = true → (s.stream index).state = .open → (s.stream index).uncovered.any (fun q => decide (q.2 ≤ s.now)) = true →
       ∃ t, exec (.ackDelayTimer index) s = .next t ∧ (t.stream index).uncovered = [] ∧ (t.stream index).sinceAck = 0) ∧
  (∀ (s : State) (tag i e : Nat) (o : Op), s.coreOn = true →
       s.eng.ops.find? (fun o => o.tag == tag && due s.now o.placedEnd && o.status.isNone && !o.arrived) = some o → o.req.src = .cerga i e →
       s.op? o.id = some o →
       ∃ t, exec (.assemblyTimerExpiry tag) s = .next t ∧ (t.op? o.id).map (·.status) = some (some St.PARTIAL)) ∧
  (∀ (s : State) (index : Nat), s.coreOn = true → (s.stream index).state = .open →
       (s.stream index).lastAt + sec (s.rd R.CERGA_TIMEOUTS_LAPSE_S) ≤ s.now → s.evictable index = true →
       ∃ t, exec (.streamLapse index) s = .next t ∧ (t.stream index).state = .lapsed ∧ (t.stream index).epoch = (s.stream index).epoch) ∧
  (∀ s : State, s.coreOn = true → due s.now s.ledger.releaseAt = true →
       ∃ t, exec .ledgerReleaseTimeout s = .next t ∧ t.ledger.releaseAt = none ∧ t.ledger.records.all (fun r => r.released) = true ∧
         t.ledger.records.length = s.ledger.records.length) ∧
  (∀ (s : State) (index : Nat), s.admits = true → s.roce.parked.any (fun p => qpIndex p.qpn == some index) = true → s.qpRoom = true →
       ∃ t, exec (.qpContextFetchComplete index) s = .next t ∧ t.roce.cache.contains index = true ∧
         t.roce.parked.any (fun p => qpIndex p.qpn == some index) = false) ∧
  (∀ (s : State) (tag q : Nat) (o : Op), s.coreOn = true →
       s.eng.ops.find? (fun o => o.tag == tag && due s.now o.placedEnd && o.status.isNone && !o.arrived) = some o → o.req.src = .roce q →
       s.op? o.id = some o →
       ∃ t, exec (.roceAssemblyTimeout tag) s = .next t ∧ (t.op? o.id).map (·.status) = some (some St.PARTIAL)) ∧
  (∀ (s : State) (n : Nat), s.coreOn = true → (s.port n).opensAt.isSome = true →
       (due s.now (s.port n).opensAt || decide ((s.port n).target ≤ s.rd R.PACE_MIN_MIN_MHZ)) = true → s.ports.waiting = [] →
       ∃ t, exec (.portAdmissionOpen n) s = .next t ∧ (t.port n).opensAt = none) ∧
  (∀ (s : State) (pd : Nat) (w : Waiter), s.admits = true → s.eng.waiting = [w] → w.stage = .shaper → w.req.pd = pd → s.shaperReady pd = true →
       s.fenced w.req = false → s.reloadWaits w.req = false → s.freeTag.isSome = true → s.mustHold w.req = false → s.op? s.eng.nextOp = none →
       s.ports.waiting = [] →
       ∃ t, exec (.shaperRelease pd) s = .next t ∧ t.eng.waiting = [] ∧ (t.op? s.eng.nextOp).map (·.req) = some w.req)

/-- What OPERATION_COMPLETION, TAG_WAIT_TIMEOUT, HOLD_ADMISSION, HOLD_TIMEOUT and RESTORE_WAIT_TIMEOUT leave where they take effect: an operation that
has reached its end has answered and, but for an atomic whose response waits for its acknowledgement, left its tag; a MEMOP's command ends with it (R69,
R75, R76, R87, R101, R148, R455). -/
def Obligations.EngineRows : Prop :=
  (∀ (s : State) (tag : Nat) (o : Op), s.coreOn = true → (s.save.active = true → s.save.step ≤ 2) →
       s.eng.ops.find? (fun o => o.tag == tag && s.opReady o) = some o → s.eng.waiting = [] → s.ports.waiting = [] →
       ∃ t, exec (.operationCompletion tag) s = .next t ∧ t.eng.ops.all (fun p => p.id != o.id || p.responded) = true ∧
         (atomicOp o.req.opcode = false → t.op? o.id = none) ∧ t.prot.drains.all (fun d => !d.ops.contains o.id) = true) ∧
  (∀ (s : State) (tag ring cmd : Nat) (o : Op) (c : Cmd), s.coreOn = true → s.save.active = false →
       s.eng.ops.find? (fun o => o.tag == tag && s.opReady o) = some o → o.req.src = .host ring cmd → o.req.opcode = 2 → o.status = none →
       o.degraded = false → s.cmds.find? (fun d => d.id == cmd) = some c → c.orphan = false → s.eng.waiting = [] → s.ports.waiting = [] →
       ∃ t, exec (.operationCompletion tag) s = .next t ∧ Ended t c St.DONE 0 0) ∧
  (∀ (s : State) (queue seq : Nat) (w : Waiter), s.coreOn = true → s.eng.waiting = [w] → w.stage = .tag → (s.sourceKey w.req.src).2 = queue →
       w.req.seq = seq → w.since + us 100 ≤ s.now →
       ∃ t, exec (.tagWaitTimeout queue seq) s = .next t ∧ t.eng.waiting = [] ∧ t.eng.ops = s.eng.ops) ∧
  (∀ (s : State) (queue seq ring cmd : Nat) (w : Waiter) (c : Cmd), s.coreOn = true → s.eng.waiting = [w] → w.stage = .tag →
       (s.sourceKey w.req.src).2 = queue → w.req.seq = seq → w.since + us 100 ≤ s.now → w.req.src = .host ring cmd →
       s.cmds.find? (fun d => d.id == cmd) = some c → c.orphan = false →
       ∃ t, exec (.tagWaitTimeout queue seq) s = .next t ∧ Ended t c St.BUSY 0 0) ∧
  (∀ (s : State) (w : Waiter), s.coreOn = true → s.save.active = false → s.eng.waiting = [w] → w.stage = .hold → s.freeTag.isSome = true →
       (s.holdAdmits w.req || !s.mustHold w.req) = true → s.op? s.eng.nextOp = none →
       ∃ t, exec .holdAdmission s = .next t ∧ t.eng.waiting = [] ∧ (t.op? s.eng.nextOp).map (·.req) = some w.req) ∧
  (∀ (s : State) (queue seq : Nat) (w : Waiter), s.coreOn = true → s.eng.waiting = [w] → w.stage = .hold → (s.sourceKey w.req.src).2 = queue →
       w.req.seq = seq → w.since + us (s.rd R.DUR_THRESH_HOLD_US) ≤ s.now →
       ∃ t, exec (.holdTimeout queue seq) s = .next t ∧ t.eng.waiting = [] ∧ t.eng.ops = s.eng.ops ∧
         t.rd R.DUR_HOLD_BUSY_COUNT = (s.rd R.DUR_HOLD_BUSY_COUNT + 1) % 2 ^ R.DUR_HOLD_BUSY_COUNT.width) ∧
  (∀ (s : State) (tag : Nat) (o : Op), s.coreOn = true → s.eng.ops.find? (fun o => o.tag == tag && !o.units.isEmpty && o.status.isNone) = some o →
       due s.now o.restoreEnd = true → s.op? o.id = some o →
       ∃ t, exec (.restoreWaitTimeout tag) s = .next t ∧ (t.op? o.id).map (·.status) = some (some St.RESTORING) ∧
         t.rd R.DUR_RESTORING = (s.rd R.DUR_RESTORING + 1) % 2 ^ R.DUR_RESTORING.width)

/-- What KEY_COMMIT from the random generator and from the key registers, KEY_DESTROY, OLD_TABLE_KEY_ERASED, CIPHER_OP, CONTEXT_SAVE,
CONTEXT_RESTORE and CLUSTER_FAULT leave where they take effect (R356 to R376). The XTS key pair of a HOST slot is open (assumption log 203). -/
def Obligations.KeyCommands : Prop :=
  (∀ (s : State) (r : CmdRef) (c : Cmd) (id type source flags wrapId blob k : Nat), Accepts s r 0x0301 c → s.twin.holder = true → k = id % 65536 →
       k ≠ 0 → AMap.has s.crypt.slots k = false → source ≠ 1 → source ≠ 2 →
       ∃ t, exec (.keyCommit r id type source flags wrapId blob) s = .next t ∧ Ended t c St.DONE 0 0 ∧
         (AMap.get? t.crypt.slots k).map (fun x => (x.type, x.exportable, x.destroying)) =
           some (if 1 ≤ type ∧ type ≤ 6 then type else 1, flags % 2 == 1 && type == 6, false)) ∧
  (∀ (s : State) (r : CmdRef) (c : Cmd) (id type flags wrapId blob k : Nat), Accepts s r 0x0301 c → s.twin.holder = true → k = id % 65536 →
       k ≠ 0 → AMap.has s.crypt.slots k = false → s.rd R.CIPHER_KEY_WORDS_WRITTEN = 255 → s.registerKey ≠ 0 →
       ∃ t, exec (.keyCommit r id type 1 flags wrapId blob) s = .next t ∧ Ended t c St.DONE 0 0 ∧ t.keyRegs = [] ∧
         t.rd R.CIPHER_KEY_WORDS_WRITTEN = 0 ∧
         (AMap.get? t.crypt.slots k).map (fun x => (x.type, x.exportable, x.key)) =
           some (if 1 ≤ type ∧ type ≤ 6 then type else 1, flags % 2 == 1 && type == 6, s.registerKey)) ∧
  (∀ (s : State) (r : CmdRef) (c : Cmd) (id flags k : Nat) (x : KeySlot), Accepts s r 0x0302 c → s.twin.holder = true → k = id % 65536 →
       AMap.get? s.crypt.slots k = some x → x.destroying = false → (flags % 2 = 0 → s.keyNamed k = false) → s.cascadeWaits k = false →
       s.eng.ops = [] → s.eng.gather = [] → s.eng.waiting = [] → s.ports.waiting = [] →
       ∃ t, exec (.keyDestroy r id flags) s = .next t ∧ Ended t c St.DONE 0 0 ∧ AMap.get? t.crypt.slots k = none ∧
         t.rd R.CIPHER_TABLE_OLD_PENDING = 1) ∧
  (∀ (s : State) (g : Nat) (rest : List Nat), s.crypt.erasing = g :: rest → s.keeper.powered = true →
       ∃ t, exec .oldTableKeyErased s = .next t ∧ t.crypt.erasing = rest ∧ t.rd R.CIPHER_TABLE_OLD_PENDING = (if rest = [] then 0 else 1)) ∧
  (∀ (s : State) (r : CmdRef) (c : Cmd) (p : CipherParams) (k : KeySlot), Accepts s r 0x0303 c → p.input % 64 = 0 → p.out % 64 = 0 → p.mode ≤ 1 →
       s.keySlot? p.slot Slot.HOST = some k → CipherParams.overLimit p 0 = false →
       ∃ t, exec (.cipherOp r p) s = .next t ∧ Ended t c St.DONE 0 0 ∧
         t.out = s.out ++ [.hostWrite p.out (xtsPair (p.mode == 0) (hostPair k.key) p.iv (CipherParams.body p))]) ∧
  (∀ (s : State) (r : CmdRef) (c : Cmd) (p : CipherParams) (k : KeySlot), Accepts s r 0x0303 c → p.input % 64 = 0 → p.out % 64 = 0 → p.mode = 2 →
       p.first = true → AMap.get? s.crypt.contexts p.context = none → s.keySlot? p.slot Slot.HOST = some k → CipherParams.overLimit p 0 = false →
       ∃ t, exec (.cipherOp r p) s = .next t ∧ Ended t c St.DONE 0 (leNat (beBytes 12 (p.slot * 2 ^ 80 + k.counter))) ∧
         AMap.has t.crypt.contexts p.context = !p.last ∧ (AMap.get? t.crypt.slots p.slot).map (·.counter) = some (k.counter + 1)) ∧
  (∀ (s : State) (r : CmdRef) (c : Cmd) (context form addr : Nat) (x : CipherContext), Accepts s r 0x0304 c → addr % 64 = 0 →
       AMap.get? s.crypt.contexts context = some x → (form = 1 → s.clearAllowed x = true) →
       ∃ t, exec (.contextSave r context form addr) s = .next t ∧ Ended t c St.DONE 0 0 ∧ t.crypt.contexts = s.crypt.contexts ∧
         (form = 1 → t.out = s.out ++ [.hostWrite addr x.record])) ∧
  (∀ (s : State) (r : CmdRef) (c : Cmd) (context addr : Nat) (record : List Byte), Accepts s r 0x0305 c → addr % 64 = 0 →
       AMap.has s.crypt.contexts context = false → s.clearAllowed (contextOf record) = true →
       ∃ t, exec (.contextRestore r context 1 addr record) s = .next t ∧ Ended t c St.DONE 0 0 ∧
         AMap.get? t.crypt.contexts context = some (contextOf record)) ∧
  (∀ (s : State) (cluster : Nat) (tags : List Nat) (hosts : List (CmdRef × Nat)), s.coreOn = true → cluster < 8 →
       (s.rd R.CIPHER_STATUS_CLUSTERS_OK).testBit cluster = true → s.eng.waiting = [] → s.ports.waiting = [] →
       ∃ t, exec (.clusterFault cluster tags hosts) s = .next t ∧
         t.rd R.CIPHER_STATUS_CLUSTERS_OK = s.rd R.CIPHER_STATUS_CLUSTERS_OK - 2 ^ cluster ∧
         t.eng.ops.all (fun o => !(tags.contains o.tag && !o.responded) || o.status.isSome) = true)

/-- What MEMOP_READ, MEMOP_WRITE, LEDGER_READ, DIAG_READ and HALLMARK_ISSUE leave where they take effect (R84, R87, R156, R310, R393, R395). -/
def Obligations.HostMemoryCommands : Prop :=
  (∀ (s : State) (r : CmdRef) (c : Cmd) (pd key addr len host : Nat), Accepts s r 0x0903 c → s.start.admitted = true → s.twin.yield = none →
       Passes s (s.memop c 1 pd key addr (min gib len) [] host) →
       ∃ t, exec (.memopRead r pd key addr len host) s = .next t ∧ StillRuns t c ∧
         Admitted s t (s.memop c 1 pd key addr (min gib len) [] host)) ∧
  (∀ (s : State) (r : CmdRef) (c : Cmd) (pd key addr len host : Nat) (data : List Byte), Accepts s r 0x0904 c → s.start.admitted = true →
       s.twin.yield = none → Passes s (s.memop c 2 pd key addr len (hostData data len) host) →
       ∃ t, exec (.memopWrite r pd key addr len host data) s = .next t ∧ StillRuns t c ∧
         Admitted s t (s.memop c 2 pd key addr len (hostData data len) host)) ∧
  (∀ (s : State) (r : CmdRef) (c : Cmd) (host start count flags : Nat) (part : List LedgerRecord), Accepts s r 0x0902 c → host % 64 = 0 →
       s.ledger.lost = false → part = ((s.readableRecords (flags / 2 % 4)).drop start).take (clampTo 1 69632 count) →
       ∃ t, exec (.ledgerRead r host start count flags) s = .next t ∧
         Ended t c St.DONE 0 (pack [(4, part.length), (4, s.ledger.records.length)]) ∧
         (part ≠ [] → t.out = s.out ++ [.hostWrite host ((part.map (fun x => s.ledgerBytes x true)).flatten)]) ∧
         (flags % 2 = 1 → t.ledger.records = releaseListed s.ledger.records part) ∧ (flags % 2 = 0 → t.ledger = s.ledger)) ∧
  (∀ (s : State) (r : CmdRef) (c : Cmd) (index count host k : Nat), Accepts s r 0x0901 c → host % 64 = 0 →
       k = min (clampTo 1 4096 count) (1048576 - index) → k ≠ 0 →
       ∃ t, exec (.diagRead r 1 index count host) s = .next t ∧ Ended t c St.DONE 0 k ∧
         t.out = s.out ++ [.hostWrite host (((rangeFrom index k).map s.ettEntry).flatten)]) ∧
  (∀ (s : State) (r : CmdRef) (c : Cmd) (challenge host : Nat), Accepts s r 0x0805 c → host % 64 = 0 →
       ∃ t, exec (.hallmarkIssue r challenge host) s = .next t ∧ Ended t c St.DONE 0 12827 ∧
         t.out[s.out.length]? = some (.hostWrite host (s.hallmarkReport challenge)))

/-- What RING_ENABLE, RING_DISABLE, CMD_TAIL, CPL_HEAD, EV_HEAD, EX_HEAD, DESCRIPTOR_FETCH, COMMAND_COMPLETION, COALESCING_TIMER,
FUNCTION_LEVEL_RESET, PCIE_LINK_DOWN, REPEAT_WINDOW_EXPIRY and STORM_SECOND_END leave where they take effect (R303 to R305, R311, R313, R314,
R316, R318, R482, R483). -/
def Obligations.RingRows : Prop :=
  (∀ (s : State) (k : RingKind) (n : Nat), s.coreOn = true → n < ringCount k → (s.on R.FW_STATUS_RECOVERY && k == .cmd && n != 0) = false →
       s.ringState k n = 0 →
       ∃ t, exec (.ringEnable k n) s = .next t ∧ t.rdN (fEnable k) n = 1 ∧ t.ringState k n = (if s.rdN (fBase k) n % 4096 = 0 then 1 else 3) ∧
         (s.rdN (fBase k) n % 4096 = 0 → t.rdN (fHostIndex k) n = 0)) ∧
  (∀ (s : State) (k : RingKind) (n : Nat), s.coreOn = true → n < ringCount k → s.rdN (fEnable k) n ≠ 0 →
       (k = .cmd → s.cmds.all (fun c => c.ring != n || c.orphan) = true) →
       (k = .cpl → (List.range 64).any (fun c => (s.ringState .cmd c == 1 || s.ringState .cmd c == 2) &&
         s.rdN R.RING_CMD_CFG_CPL_RING c == n) = false) →
       ∃ t, exec (.ringDisable k n) s = .next t ∧ t.ringState k n = 0 ∧ t.rdN (fEnable k) n = 0) ∧
  (∀ (s : State) (n v : Nat), s.coreOn = true → n < 64 → s.ringState .cmd n = 1 → v % 65536 < s.ringSize .cmd n →
       ∃ t, exec (.cmdTail n v) s = .next t ∧ t.rdN R.RING_CMD_PTRS_HOST_INDEX n = v % 65536) ∧
  (∀ (s : State) (n v : Nat), s.coreOn = true → n < 64 → s.ringState .cpl n = 1 → v % 65536 < s.ringSize .cpl n →
       ∃ t, exec (.cplHead n v) s = .next t ∧ t.rdN R.RING_CPL_PTRS_HOST_INDEX n = v % 65536) ∧
  (∀ (s : State) (m v : Nat), s.coreOn = true → m < 8 → s.ringState .ev m = 1 → v % 65536 < s.ringSize .ev m →
       ∃ t, exec (.evHead m v) s = .next t ∧ t.rdN R.RING_EV_PTRS_HOST_INDEX m = v % 65536) ∧
  (∀ (s : State) (k v : Nat), s.coreOn = true → k < 4 → s.ringState .ex k = 1 → v % 65536 < s.ringSize .ex k →
       ∃ t, exec (.exHead k v) s = .next t ∧ t.rdN R.RING_EX_PTRS_HOST_INDEX k = v % 65536) ∧
  (∀ (s : State) (n : Nat) (ds : List Descriptor), s.coreOn = true → s.save.active = false → s.nextRing = some n →
       ∃ t, exec (.descriptorFetch n ds false) s = .next t ∧ t.rrNext = (n + 1) % 64 ∧
         t.cmds.map (fun c => (c.ring, c.opcode, c.tag)) =
           s.cmds.map (fun c => (c.ring, c.opcode, c.tag)) ++ (ds.take (s.fetchable n)).map (fun d => (n, d.opcode, d.tag))) ∧
  (∀ (s : State) (r : CmdRef) (c : Cmd) (p : Nat), s.coreOn = true →
       s.cmds.find? (fun c => c.ring == r.ring && c.slot == r.slot && s.completable c) = some c → p = s.rdN R.RING_CMD_CFG_CPL_RING c.ring →
       ∃ t, exec (.commandCompletion r) s = .next t ∧ t.cmds = s.cmds.filter (fun d => d.id != c.id) ∧
         t.out[s.out.length]? = some (.ringEntry .cpl p (s.rdN R.RING_CPL_PTRS_H9_INDEX p) (.completion
           { tag := c.tag, opcode := c.opcode, status := c.status, detail := c.detail, sqHead := s.rdN R.RING_CMD_PTRS_H9_INDEX c.ring, sqRing := c.ring,
             result := c.result, phase := (s.ringUnit .cpl p).phase }))) ∧
  (∀ (s : State) (k : RingKind) (n : Nat), s.coreOn = true → k ≠ .cmd → n < ringCount k → s.ringState k n = 1 →
       due s.now (s.ringUnit k n).timer = true →
       ∃ t, exec (.coalescingTimer k n) s = .next t ∧ (t.ringUnit k n).timer = none ∧ (t.ringUnit k n).fresh = 0) ∧
  (∀ s : State, s.coreOn = true →
       ∃ t, exec .functionLevelReset s = .next t ∧ t.rings = [] ∧ t.msix = [] ∧ t.cmds.all (fun c => c.orphan) = true ∧
         t.rd R.GLOBAL_STATUS_RESET_ARMED = 0 ∧ t.armedEnd = none) ∧
  (∀ s : State, s.coreOn = true →
       ∃ t, exec .pcieLinkDown s = .next t ∧ t.rings = [] ∧ t.msix = [] ∧ t.cmds.all (fun c => c.orphan) = true) ∧
  (∀ (s : State) (src : Nat), s.coreOn = true → s.hubOn = true → 0 < (s.track src).pending →
       (s.track src).lastRecord + ms (s.rd R.EVENT_STORM_WINDOW_MS) ≤ s.now →
       ∃ t, exec (.repeatWindowExpiry src) s = .next t ∧ (t.track src).pending = 0 ∧ (t.track src).lastRecord = s.now ∧
         t.hub.nextId = s.hub.nextId + 1) ∧
  (∀ (s : State) (src : Nat), s.coreOn = true → s.hubOn = true → 0 < (s.track src).folded → (s.track src).second < s.secondNow →
       ∃ t, exec (.stormSecondEnd src) s = .next t ∧ (t.track src).folded = 0 ∧ (t.track src).second = s.secondNow ∧ (t.track src).inSecond = 0)

/-- Every witness question: where it reaches the active that keeps the record of the pair, a renewal, a mark or a cleared mark of the registered epoch and its
holder, a grant that nothing stands against, a registration that is not older, and a report of the standby change the record, and the answer echoes SEND_TIME
or names the epoch; one that is refused changes nothing and names the reason. A provisional grant lapses (R177 to R179, R338 to R341). -/
def Obligations.WitnessMessages : Prop :=
  (∀ (s : State) (h : DomainHeader) (w : WitnessRec) (lease : Nat), WitnessAsks s 1 h [lease] w → w.provisional = none → h.tokenEpoch = w.epoch → h.srcSide = w.side →
       ∃ t, exec (.witnessRenew h lease) s = .next t ∧
         AMap.get? t.domain.records h.srcPair = some { w with lastConfirm := some s.now, lease := clampTo 10 500 lease } ∧
         Replied t (DomainHeader.reply h 2 w.epoch [h.sendTime])) ∧
  (∀ (s : State) (h : DomainHeader) (w : WitnessRec) (lease : Nat), WitnessAsks s 1 h [lease] w → h.tokenEpoch < w.epoch →
       ∃ t, exec (.witnessRenew h lease) s = .next t ∧ AMap.get? t.domain.records h.srcPair = some w ∧
         Replied t (DomainHeader.reply h 3 w.epoch [Refuse.STALE_EPOCH, w.epoch])) ∧
  (∀ (s : State) (h : DomainHeader) (w : WitnessRec) (flags : Nat), WitnessAsks s 4 h [flags] w → WitnessRec.grantRefusal s.now h (flags % 2 == 1) w = none → h.srcPair ≠ 0 →
       ∃ t, exec (.grantRequest h flags) s = .next t ∧
         AMap.get? t.domain.records h.srcPair = some { w with epoch := w.epoch + 1, side := h.srcSide, lastConfirm := none, sync := 1 } ∧
         Replied t (DomainHeader.reply h 5 (w.epoch + 1) [w.epoch + 1])) ∧
  (∀ (s : State) (h : DomainHeader) (w : WitnessRec) (flags : Nat), WitnessAsks s 4 h [flags] w → WitnessRec.grantRefusal s.now h (flags % 2 == 1) w = none → h.srcPair = 0 →
       ∃ t, exec (.grantRequest h flags) s = .next t ∧
         AMap.get? t.domain.records h.srcPair = some { w with provisional := some (h.srcSide, s.now + w.leaseNs) } ∧
         Replied t (DomainHeader.reply h 5 w.epoch [w.epoch + 1])) ∧
  (∀ (s : State) (h : DomainHeader) (w : WitnessRec) (flags why : Nat), WitnessAsks s 4 h [flags] w → WitnessRec.grantRefusal s.now h (flags % 2 == 1) w = some why →
       ∃ t, exec (.grantRequest h flags) s = .next t ∧ AMap.get? t.domain.records h.srcPair = some w ∧
         Replied t (DomainHeader.reply h 3 w.epoch [why, w.epoch])) ∧
  (∀ (s : State) (h : DomainHeader) (w : WitnessRec), WitnessAsks s 6 h [] w → w.provisional = none → h.tokenEpoch = w.epoch → h.srcSide = w.side →
       ∃ t, exec (.markRequest h) s = .next t ∧ AMap.get? t.domain.records h.srcPair = some { w with mark := true } ∧
         Replied t (DomainHeader.reply h 7 w.epoch [])) ∧
  (∀ (s : State) (h : DomainHeader) (w : WitnessRec), WitnessAsks s 8 h [] w → h.tokenEpoch = w.epoch → h.srcSide = w.side →
       ∃ t, exec (.markClear h) s = .next t ∧ AMap.get? t.domain.records h.srcPair = some { w with mark := false } ∧
         Replied t (DomainHeader.reply h 2 w.epoch [h.sendTime])) ∧
  (∀ (s : State) (h : DomainHeader) (w : WitnessRec) (epoch side : Nat), WitnessAsks s 9 h [epoch, side] w → w.epoch ≤ epoch →
       ∃ t, exec (.epochRegister h epoch side) s = .next t ∧
         (AMap.get? t.domain.records h.srcPair).map (fun x => (x.epoch, x.side, x.provisional, x.mark)) = some (epoch, side, none, w.mark) ∧
         Replied t (DomainHeader.reply h 2 epoch [h.sendTime])) ∧
  (∀ (s : State) (h : DomainHeader) (w : WitnessRec) (sync : Nat), DomainTakes s 0x0A h [sync] → s.isActive = true →
       AMap.get? s.domain.records h.srcPair = some w → h.srcSide ≠ w.side →
       ∃ t, exec (.statusReport h sync) s = .next t ∧ AMap.get? t.domain.records h.srcPair = some { w with sync }) ∧
  (∀ (s : State) (pair : Nat) (w : WitnessRec) (p : Nat × Nat), s.coreOn = true → AMap.get? s.domain.records pair = some w → w.provisional = some p →
       p.2 ≤ s.now →
       ∃ t, exec (.provisionalGrantLapse pair) s = .next t ∧ AMap.get? t.domain.records pair = some { w with provisional := none })

/-- Every answer: a CONFIRM moves the lease end of a holder, or settles the cleared mark, metering copy or leave that it answers; a REFUSE of a renewal stops the
holder and one of a JOIN ends the command; a GRANT makes this H9 the holder of the granted epoch; a MARK_GRANT sets the mark; DIR_ACK, PUSH_ACK and JOIN_ACK move
the outbox, the pushes and the join on (R177 to R179, R341, R342, R345 to R349). -/
def Obligations.AnswersOfTheDomain : Prop :=
  (∀ (s : State) (h : DomainHeader) (q : DomainRequest) (sendTime : Nat), DomainAnswers s 2 h [sendTime] q → q.type = 1 → s.enough q.confirmed = true → s.twin.holder = true →
       s.twin.stopped = false → sendTime ≤ s.time.tai → (s.eng.ops = [] ∧ s.eng.gather = [] ∧ s.eng.waiting = []) →
       ∃ t, exec (.confirm h sendTime) s = .next t ∧
         t.twin.leaseEnd = some (max (s.twin.leaseEnd.getD 0) (q.firstAt + s.leaseL))) ∧
  (∀ (s : State) (h : DomainHeader) (q : DomainRequest) (sendTime : Nat), DomainAnswers s 2 h [sendTime] q → q.type = 8 ∨ q.type = 0x12 →
       ∃ t, exec (.confirm h sendTime) s = .next t ∧ t.asked h = none) ∧
  (∀ (s : State) (h : DomainHeader) (q : DomainRequest) (sendTime : Nat), DomainAnswers s 2 h [sendTime] q → q.type = 0x11 →
       ∃ t, exec (.confirm h sendTime) s = .next t ∧ t.rd R.DOMAIN_STATUS_STATE = 0 ∧ t.on R.DOMAIN_STATUS_WITNESS = false ∧
         t.domain.outbox = [] ∧ t.prot.regions = s.prot.regions ∧ t.prot.pds = s.prot.pds) ∧
  (∀ (s : State) (h : DomainHeader) (q : DomainRequest) (reason registered : Nat), DomainAnswers s 3 h [reason, registered] q → q.type = 1 → reason = Refuse.NOT_MEMBER ∨ reason = Refuse.CONDITION →
       s.enough q.refused = true → s.twin.holder = true →
       ∃ t, exec (.refuse h reason registered) s = .next t ∧ t.twin.stopped = true ∧ t.twin.leaseEnd = none) ∧
  (∀ (s : State) (h : DomainHeader) (q : DomainRequest) (reason registered : Nat) (c : Cmd), DomainAnswers s 3 h [reason, registered] q → q.type = 0x0F → reason ≠ Refuse.NOT_ACTIVE →
       s.domain.joinCmd = some c.id → s.domain.leaveCmd = none → s.cmds.find? (fun d => d.id == c.id) = some c → c.orphan = false →
       ∃ t, exec (.refuse h reason registered) s = .next t ∧ Ended t c St.DENIED_PROTECTION (joinReason q reason) 0 ∧
         t.rd R.DOMAIN_STATUS_STATE = 0 ∧ t.domain.joinCmd = none) ∧
  (∀ (s : State) (h : DomainHeader) (q : DomainRequest) (epoch : Nat), DomainAnswers s 5 h [epoch] q → q.type = 4 → q.cmd = none → s.enough q.confirmed = true → s.mayServe = true →
       s.twin.holder = false ∨ s.twin.stopped = true ∨ s.leaseValid = false → s.rd R.TWIN_TOKEN_EPOCH_VALUE < epoch →
       (s.eng.ops = [] ∧ s.eng.gather = [] ∧ s.eng.waiting = [] ∧ s.twin.ingress = [] ∧ s.ports.waiting = []) →
       ∃ t, exec (.grant h epoch) s = .next t ∧ t.twin.holder = true ∧ t.twin.stopped = false ∧
         t.rd R.TWIN_TOKEN_EPOCH_VALUE = epoch % 2 ^ R.TWIN_TOKEN_EPOCH_VALUE.width ∧ t.twin.leaseEnd = some (q.firstAt + s.leaseL)) ∧
  (∀ (s : State) (h : DomainHeader) (q : DomainRequest), DomainAnswers s 7 h [] q → q.type = 6 → s.enough q.confirmed = true → s.twin.holder = true → (s.eng.ops = [] ∧ s.eng.gather = [] ∧ s.eng.waiting = []) →
       ∃ t, exec (.markGrant h) s = .next t ∧ t.on R.TWIN_STATUS_SINGLE_RUNNING = true) ∧
  (∀ (s : State) (h : DomainHeader) (q : DomainRequest) (applied : Nat) (full : Bool) (unlisted : Nat), DomainAnswers s 0x0C h [applied, if full then 1 else 0, unlisted] q → q.type = 0x0B →
       ∃ t, exec (.dirAck h applied full unlisted) s = .next t ∧ t.domain.outbox = s.domain.outbox.filter (fun e => decide (applied < e.1)) ∧
         t.domain.dirFull = full ∧ t.domain.unlisted = unlisted) ∧
  (∀ (s : State) (h : DomainHeader) (q : DomainRequest) (seq detail : Nat), DomainAnswers s 0x0E h [seq, St.DONE, detail] q → q.type = 0x0D → q.fields.headD 0 = seq →
       s.memberReachable h.srcPair = true →
       ∃ t, exec (.pushAck h seq St.DONE detail) s = .next t ∧
         t.domain.pushes.all (fun x => !(x.pair == h.srcPair && x.seq == seq)) = true ∧
         (AMap.get? t.domain.members h.srcPair).map (·.acked) = some seq) ∧
  (∀ (s : State) (h : DomainHeader) (q : DomainRequest) (version count : Nat), DomainAnswers s 0x10 h [version, count] q → q.type = 0x0F → count ≠ 0 →
       ∃ t, exec (.joinAck h version count) s = .next t ∧ t.domain.joinLeft = some count ∧
         t.rd R.DOMAIN_DIR_VERSION_VERSION = version % 2 ^ R.DOMAIN_DIR_VERSION_VERSION.width ∧
         t.domain.outbox.length = s.prot.regions.length)

/-- Every membership request: a DIR_UPDATE that continues the sequence is applied, a JOIN of a new pair enters it and its record, a LEAVE of a pair that is no named
witness takes it out, a METER_RECORD is taken into the aggregate of its window, and a PUSH that applies at once is applied and answered (R329, R345 to R349). -/
def Obligations.MembershipMessages : Prop :=
  (∀ (s : State) (h : DomainHeader) (m : Member) (seq : Nat) (entries : List DirChange),
       DomainAsks s 0x0B h (seq :: (entries.map (fun c : DirChange => [c.action, c.base, c.size, c.region, h.srcPair, c.flags])).flatten) →
       s.founded = true → AMap.get? s.domain.members h.srcPair = some m → seq = m.applied + 1 →
       ∃ t, exec (.dirUpdate h seq entries) s = .next t ∧
         (AMap.get? t.domain.members h.srcPair).map (·.applied) = some (m.applied + entries.length)) ∧
  (∀ (s : State) (h : DomainHeader) (seq pd : Nat), DomainAsks s 0x0D h [seq, 0x0105, pd] → s.roleStrap = 1 → h.srcPair = 0 → s.rd R.DOMAIN_STATUS_STATE ≠ 1 →
       s.domain.pushing = none → s.domain.lastPush < seq → AMap.has s.prot.pds pd = false →
       ∃ t, exec (.push h seq 0x0105 [pd]) s = .next t ∧ AMap.has t.prot.pds pd = true ∧ t.domain.lastPush = seq ∧
         Replied t (DomainHeader.reply h 0x0E (s.rd R.TWIN_TOKEN_EPOCH_VALUE) [seq, St.DONE, 0])) ∧
  (∀ (s : State) (h : DomainHeader) (a b flags : Nat) (service : List Nat), DomainAsks s 0x0F h [a, b, 1, 1, flags] → s.founded = true → h.srcPair ≠ 0 →
       AMap.get? s.domain.members h.srcPair = none → flags % 2 = 0 →
       ∃ t, exec (.join h a b 1 1 flags service) s = .next t ∧
         (AMap.get? t.domain.members h.srcPair).map (fun m => (m.digestA, m.digestB, m.service)) = some (a, b, service) ∧
         AMap.get? t.domain.records h.srcPair = some (newRecord h.tokenEpoch h.srcSide (s.rd R.TWIN_CTRL_LEASE_MS))) ∧
  (∀ (s : State) (h : DomainHeader), DomainAsks s 0x11 h [] → s.domain.witnesses.contains h.srcPair = false → s.domain.newWitnesses.contains h.srcPair = false →
       ∃ t, exec (.leave h) s = .next t ∧ AMap.has t.domain.members h.srcPair = false ∧
         Replied t (DomainHeader.reply h 2 h.tokenEpoch [h.sendTime])) ∧
  (∀ (s : State) (h : DomainHeader) (fields : List Nat) (x : ExportRecord), DomainAsks s 0x12 h fields → s.founded = true → AMap.has s.domain.members h.srcPair = true →
       x = carriedExport fields → s.sinkRing.isSome = true → s.aggregateDue x.start = false →
       ∃ t, exec (.meterRecord h fields) s = .next t ∧
         t.meter.aggregates.any (fun a => a.tenant == x.tenant && a.start == x.start) = true ∧
         Replied t (DomainHeader.reply h 2 h.tokenEpoch [h.sendTime]))

/-- The commands and timers of the domain where they take effect: a join or a leave begins and sends its request, a new witness list is taken, an unreachable member is
evicted; requests are sent again, the standby reports, a silent manager counts as unreachable and a join that it does not answer ends (R338 to R340, R342, R348, R349, R354). -/
def Obligations.DomainCommandsAndTimers : Prop :=
  (∀ (s : State) (r : CmdRef) (c : Cmd) (keyId ip w0 w1 w2 peerRole : Nat), Accepts s r 0x0704 c → s.twin.holder = true → s.roleStrap = 1 →
       s.rd R.DOMAIN_STATUS_STATE = 0 → s.domain.joinCmd = none → s.keyOk keyId Slot.DOMAIN = true →
       ∃ t, exec (.domainJoin r 0 keyId ip w0 w1 w2 peerRole) s = .next t ∧ StillRuns t c ∧ t.rd R.DOMAIN_STATUS_STATE = 1 ∧
         t.domain.joinCmd = some c.id ∧ t.domain.requests.length = s.domain.requests.length + 1) ∧
  (∀ (s : State) (r : CmdRef) (c : Cmd) (keyId ip w0 w1 w2 peerRole : Nat), Accepts s r 0x0704 c → s.twin.holder = true → s.founded = true →
       [w0 % 8192, w1 % 8192, w2 % 8192].Nodup → [w0 % 8192, w1 % 8192, w2 % 8192].contains 0 = false →
       ∃ t, exec (.domainJoin r 2 keyId ip w0 w1 w2 peerRole) s = .next t ∧ Ended t c St.DONE 0 0 ∧
         t.domain.newWitnesses = [w0 % 8192, w1 % 8192, w2 % 8192]) ∧
  (∀ (s : State) (r : CmdRef) (c : Cmd) (pair : Nat), Accepts s r 0x0705 c → s.twin.holder = true → s.roleStrap = 1 →
       s.rd R.DOMAIN_STATUS_STATE = 2 → s.on R.DOMAIN_STATUS_WITNESS = false →
       ∃ t, exec (.domainLeave r 0 pair) s = .next t ∧ StillRuns t c ∧ t.rd R.DOMAIN_STATUS_STATE = 3 ∧ t.domain.leaveCmd = some c.id) ∧
  (∀ (s : State) (r : CmdRef) (c : Cmd) (pair : Nat), Accepts s r 0x0705 c → s.twin.holder = true → s.founded = true → pair % 8192 ≠ 0 →
       AMap.has s.domain.members (pair % 8192) = true → s.memberReachable (pair % 8192) = false →
       ∃ t, exec (.domainLeave r 1 pair) s = .next t ∧ Ended t c St.DONE 0 0 ∧ AMap.has t.domain.members (pair % 8192) = false) ∧
  (∀ s : State, s.coreOn = true → s.save.active = false →
       ∃ t, exec .domainResendTimer s = .next t ∧ t.domain.requests =
         s.domain.requests.map (fun q => if q.type ≠ 1 ∧ q.sentAt + us 500 ≤ s.now then { q with sentAt := s.now } else q)) ∧
  (∀ s : State, s.coreOn = true → s.save.active = false → s.paired = true → s.twin.holder = false → s.hasWitness = true → s.domain.reportAt ≤ s.now →
       ∃ t, exec .statusReportTimer s = .next t ∧ t.domain.reportAt = s.now + ms 100 ∧ t.out.length = s.out.length + s.witnessPairs.length) ∧
  (∀ (s : State) (x : Nat), s.coreOn = true → s.save.active = false → s.domain.lastAnswer = some x →
       x + ms (s.rd R.DOMAIN_CTRL_UNREACH_MS) < s.now →
       ∃ t, exec .managerReachTimeout s = .next t ∧ t.domain.lastAnswer = none) ∧
  (∀ (s : State) (c : Cmd), s.coreOn = true → s.save.active = false → due s.now s.domain.joinAt = true → s.domain.joinCmd = some c.id → s.domain.leaveCmd = none →
       s.cmds.find? (fun d => d.id == c.id) = some c → c.orphan = false →
       ∃ t, exec .joinTimeout s = .next t ∧ Ended t c St.DENIED_PROTECTION Why.PEER_UNREACHABLE 0 ∧ t.rd R.DOMAIN_STATUS_STATE = 0 ∧
         t.domain.joinCmd = none)

/-- What the link's rows leave where they take effect: a lost or dead link is DOWN and trains again after 1 s, training sends IDENT and ends with the link UP under a new
LINK_EPOCH, a frame in sequence is taken, a gap asks for a replay, kept frames are sent again, and the timers send what is due (R163 to R171, R196). -/
def Obligations.BrazeLinkRows : Prop :=
  (∀ (s : State), Linked s → s.twin.yield = none → NothingRuns s →
       ∃ t, exec .brazeLossOfSignal s = .next t ∧ t.rd R.TWIN_STATUS_LINK = 0 ∧ t.rd R.TWIN_STATUS_LANES = 0 ∧
         t.twin.trainAt = some (s.now + sec 1)) ∧
  (∀ (s : State), Linked s → s.twin.yield = none → NothingRuns s → s.twin.lastFrame + us (s.rd R.TWIN_CTRL_DEAD_US) ≤ s.now →
       ∃ t, exec .brazeDeadTimeout s = .next t ∧ t.rd R.TWIN_STATUS_LINK = 0 ∧ t.rd R.TWIN_STATUS_LANES = 0 ∧
         t.twin.trainAt = some (s.now + sec 1)) ∧
  (∀ (s : State), s.coreOn = true → s.paired = true → s.rd R.TWIN_STATUS_LINK = 0 ∨ s.rd R.TWIN_STATUS_LINK = 3 → due s.now s.twin.trainAt = true →
       s.keeper.clocksLost.contains 0x21 = false →
       ∃ t, exec .brazeTrainingRetry s = .next t ∧ t.rd R.TWIN_STATUS_LINK = 1 ∧ t.twin.trainAt = none ∧
         t.out = s.out ++ [.brazeIdent identityDigest s.side s.pairNo (s.rd R.TWIN_TOKEN_EPOCH_VALUE) (s.rd R.TWIN_LINK_EPOCH_VALUE)]) ∧
  (∀ (s : State) (identity side pair tokenEpoch linkEpoch : Nat), s.coreOn = true → s.twin.peer = some (identity % 2 ^ 64) →
       s.rd R.TWIN_STATUS_LINK = 1 → side ≠ s.side → pair = s.pairNo →
       exec (.ident identity side pair tokenEpoch linkEpoch) s =
         .next { s with twin.ident := some [tokenEpoch, linkEpoch], twin.peerDigest := identity }) ∧
  (∀ (s : State) (identity side pair tokenEpoch linkEpoch : Nat), s.coreOn = true → s.paired = true → s.start.presented = true →
       s.rd R.TWIN_STATUS_LINK = 1 → s.twin.peer ≠ some (identity % 2 ^ 64) ∨ side = s.side ∨ pair ≠ s.pairNo →
       ∃ t, exec (.ident identity side pair tokenEpoch linkEpoch) s = .next t ∧ t.rd R.TWIN_STATUS_LINK = 3 ∧
         t.twin.trainAt = some (s.now + sec 10)) ∧
  (∀ (s : State) (lanes link : Nat), s.coreOn = true → s.paired = true → s.rd R.TWIN_STATUS_LINK = 1 → 8 ≤ lanes →
       s.twin.ident = some [s.rd R.TWIN_TOKEN_EPOCH_VALUE, link] → s.rd R.TWIN_TOKEN_EPOCH_VALUE ≠ 0 →
       ∃ t, exec (.brazeTrainingComplete lanes) s = .next t ∧ t.rd R.TWIN_STATUS_LINK = 2 ∧
         t.rd R.TWIN_STATUS_LANES = (if 16 ≤ lanes then 16 else if 12 ≤ lanes then 12 else 8) ∧
         t.rd R.TWIN_LINK_EPOCH_VALUE = (max (s.rd R.TWIN_LINK_EPOCH_VALUE) link + 1) % 2 ^ R.TWIN_LINK_EPOCH_VALUE.width ∧
         t.twin.resyncDue = true ∧ t.twin.rxSeq = 0) ∧
  (∀ (s : State) (dir credit tokenEpoch : Nat) (cipher tag : List Byte), Linked s → tokenEpoch ≤ s.rd R.TWIN_TOKEN_EPOCH_VALUE →
       s.twin.opening = false → tag = frameTag s.twin.rxKey (s.rd R.TWIN_LINK_EPOCH_VALUE) dir credit tokenEpoch s.twin.rxSeq cipher →
       exec (.brazeFrame dir credit tokenEpoch s.twin.rxSeq cipher tag) s =
         .next { s with twin.lastFrame := s.now, twin.rxSeq := s.twin.rxSeq + 1, twin.discarding := false,
                        twin.credit := s.twin.credit + 32 + cipher.length }) ∧
  (∀ (s : State) (dir credit tokenEpoch seq : Nat) (cipher tag : List Byte), ItemTakes s → s.twin.rxSeq < seq → s.twin.replays.length < 16 →
       tag = frameTag s.twin.rxKey (s.rd R.TWIN_LINK_EPOCH_VALUE) dir credit tokenEpoch seq cipher →
       ∃ t, exec (.brazeFrame dir credit tokenEpoch seq cipher tag) s = .next t ∧ t.twin.discarding = true ∧ t.twin.rxSeq = s.twin.rxSeq ∧
         FrameSent s t (plainItem 0x12 (beBytes 8 s.twin.rxSeq))) ∧
  (∀ (s : State) (expected : Nat), ItemTakes s →
       ∃ t, exec (.replay expected) s = .next t ∧
         t.out = s.out ++ (s.twin.replayBuf.filter (fun f => decide (expected ≤ f.seq))).map Out.brazeFrame) ∧
  (∀ (s : State), Linked s → s.twin.announce = [] → s.twin.statusAt ≤ s.now →
       ∃ t, exec .statusSendTimer s = .next t ∧ FrameSent s t s.statusItem ∧ t.twin.statusAt = s.now + us 100) ∧
  (∀ (s : State), Linked s → due s.now s.twin.frameAt = true → s.twin.cut = [] → s.twin.frame ≠ [] →
       ∃ t, exec .mirrorFrameTimer s = .next t ∧ t.twin.frame = [] ∧ t.twin.frameAt = none ∧ t.twin.txSeq = s.twin.txSeq + 1) ∧
  (∀ (s : State) (since : Nat), Linked s → s.twin.homeSince = some since → s.rd R.TWIN_REVERT_REVERT_S ≠ 0 →
       since + sec (s.rd R.TWIN_REVERT_REVERT_S) ≤ s.now → s.twin.peerStatus.stage < 3 → s.on R.TWIN_STATUS_REVERT_SUPPRESSED = false →
       ∃ t, exec .revertTimer s = .next t ∧ FrameSent s t (ctrlItem 3 0) ∧ t.twin.homeSince = some s.now)

/-- What the mirror stream's rows leave where they take effect: the next record, once whole, stands in the gather buffer and is acknowledged, a dropped one counts as
used; an acknowledgement moves the active on, a late one counts the twin as unable to accept; Assay epochs close, digests and sampled reads are kept or compared,
and a verdict answers a tie-break (R170 to R174, R184 to R186). -/
def Obligations.MirrorStreamRows : Prop :=
  (∀ (s : State) (queue msn m : Nat) (p : MirrorPrefix) (data : List Byte), ItemTakes s → s.accepting = true → msn = (AMap.get? s.twin.accepted queue).getD 0 + 1 → s.twin.partials = [] →
       s.start.units = [] → s.twin.assayPeer = [] → s.twin.shadows = [] → s.twin.handover = none → s.mediaPieces p.addr data.length = [(m, data.length)] →
       ∃ t, exec (.mirror queue msn (32 + data.length) false p data) s = .next t ∧ AMap.get? t.twin.accepted queue = some msn ∧
         t.eng.gather.getLast?.map (fun g => (g.media, g.addr, g.data)) = some (m, p.addr, data) ∧ FrameSent s t t.ackItem) ∧
  (∀ (s : State) (queue msn offset : Nat) (data : List Byte) (x : PartialRecord), ItemTakes s → s.accepting = true → msn = (AMap.get? s.twin.accepted queue).getD 0 + 1 → s.twin.partials = [x] → x.queue = queue → x.msn = msn →
       x.len = 32 + (x.pieces.map (·.2.length)).sum + data.length → x.len ≠ 0 → x.epochEnd = false → s.start.units = [] → s.twin.assayPeer = [] → s.twin.shadows = [] → s.twin.handover = none →
       ∃ t, exec (.mirrorCont queue msn offset false data) s = .next t ∧ AMap.get? t.twin.accepted queue = some msn ∧ t.twin.partials = [] ∧
         FrameSent s t t.ackItem) ∧
  (∀ (s : State) (queue msn : Nat), ItemTakes s → s.accepting = true → msn = (AMap.get? s.twin.accepted queue).getD 0 + 1 → s.twin.partials = [] → s.twin.shadows = [] → s.twin.handover = none →
       ∃ t, exec (.dropRemainder queue msn) s = .next t ∧ AMap.get? t.twin.accepted queue = some msn ∧ t.eng = s.eng ∧ FrameSent s t t.ackItem) ∧
  (∀ (s : State) (msns : List Nat) (q : Nat), ItemTakes s → s.twin.holder = true → NothingRuns s → q < 32 →
       ∃ t, exec (.mirrorAck msns) s = .next t ∧ AMap.get? t.twin.acked q = some (msns.getD q 0) ∧
         t.twin.unacked = s.twin.unacked.filter (fun r => decide (msns.getD r.queue 0 < r.msn))) ∧
  (∀ (s : State), Linked s → s.twin.holder = true → s.twin.unacked.any (fun r => decide (r.at_ + us 500 ≤ s.now)) = true → NothingRuns s →
       s.twin.resync = none →
       ∃ t, exec .mirrorAckTimeout s = .next t ∧ t.twin.commands = [] ∧
         t.twin.localCommands = s.twin.localCommands ++ (s.twin.commands.map (·.command)).filter (fun m => m.opcode != opLoad)) ∧
  (∀ (s : State) (queue : Nat) (e : AssayEpoch), Linked s → s.twin.holder = true → AMap.get? s.twin.assayOpen queue = some e → 0 < e.count →
       65536 ≤ e.count ∨ e.openedAt + us 100 ≤ s.now → s.twin.assayPeer = [] →
       ∃ t, exec (.assayEpochClose queue) s = .next t ∧ AMap.get? t.twin.assayOpen queue = none ∧
         FrameSent s t { plainItem 0x0A (digestBody ((AMap.get? s.twin.sent queue).getD 0) e.count (beBytes 16 (AssayEpoch.mac e s.twin.assayKey)))
                         with queue }) ∧
  (∀ (s : State) (queue last count mac : Nat), ItemTakes s → s.twin.holder = true →
       s.twin.assayMine.find? (fun e => e.queue == queue && e.last == last) = none →
       exec (.assayDigest queue last count mac) s = .next { s with twin.assayPeer := s.twin.assayPeer ++ [(queue, last, count, mac)] }) ∧
  (∀ (s : State) (queue last count mac : Nat) (e : AssayClosed), ItemTakes s → s.twin.holder = true → s.twin.assayPeer = [] →
       s.twin.assayMine.find? (fun e => e.queue == queue && e.last == last) = some e → e.count ≠ count ∨ e.mac ≠ mac → e.pages = [] →
       ∃ t, exec (.assayDigest queue last count mac) s = .next t ∧
         t.rd R.TWIN_DIGEST_MISMATCH = (s.rd R.TWIN_DIGEST_MISMATCH + 1) % 2 ^ R.TWIN_DIGEST_MISMATCH.width ∧ t.twin.assayPeer = []) ∧
  (∀ (s : State) (addr len queue msn mac : Nat), ItemTakes s → s.twin.holder = false → s.twin.shadows = [] →
       (AMap.get? s.twin.accepted queue).getD 0 < msn →
       exec (.shadow addr len queue msn mac) s = .next { s with twin.shadows := [⟨addr, len, queue, msn, mac⟩] }) ∧
  (∀ (s : State) (addr len queue msn mac m : Nat), ItemTakes s → s.twin.holder = false → s.twin.shadows = [] → s.twin.recent = [] →
       msn ≤ (AMap.get? s.twin.accepted queue).getD 0 → s.media? addr = some m → (linesOf m len).any s.chunkPoison = true →
       exec (.shadow addr len queue msn mac) s = .next (s.bump R.TWIN_SHADOW_SKIP 1)) ∧
  (∀ (s : State) (p : Nat) (b : Bool), ItemTakes s → s.twin.tie = none → s.twin.diverged.contains (pageUnit p) = false → NothingRuns s →
       ∃ t, exec (.verdict [(p, b)]) s = .next t ∧ t.twin.tie = none ∧ FrameSent s t (plainItem 0x0C (verdictBody [(p, s.pagePasses p)]))) ∧
  (∀ (s : State) (stage d sync feedA feedB saveStep fraction : Nat) (accepting : Bool), ItemTakes s → NothingRuns s →
       ∃ t, exec (.status stage d sync feedA feedB saveStep accepting fraction) s = .next t ∧
         t.twin.peerStatus = ⟨d, stage, sync, feedA, feedB, saveStep, accepting, fraction⟩ ∧
         t.rd R.TWIN_STATUS_PEER_STAGE = stage % 2 ^ R.TWIN_STATUS_PEER_STAGE.width ∧
         t.on R.TWIN_STATUS_PEER_FEED_SINGLE = ((feedA == feedLoaded) != (feedB == feedLoaded)))

/-- What the lease's, the handover's and the resync's rows leave where they take effect: renewals are sent, acknowledged and move the lease end, questions to the witness go
out, an ended lease shows WAITING; a yield reaches its handover, the standby takes the token and the old active becomes standby; a resync starts, sends and takes
units and ends (R176 to R182, R187 to R189, R193 to R196). -/
def Obligations.LeaseAndHandoverRows : Prop :=
  (∀ (s : State) (sentAt : Nat), ItemTakes s → s.twin.holder = false →
       ∃ t, exec (.leaseRenew sentAt) s = .next t ∧ FrameSent s t (plainItem 8 (beBytes 8 sentAt)) ∧ t.twin.lastRenewSeen = some s.now ∧
         t.twin.viewEnd = some (s.now + s.leaseL + s.leaseG)) ∧
  (∀ (s : State) (sentAt : Nat), ItemTakes s → s.twin.holder = true → s.twin.stopped = false → sentAt ≤ s.now → NothingRuns s →
       ∃ t, exec (.leaseAck sentAt) s = .next t ∧ t.twin.leaseEnd = some (max (s.twin.leaseEnd.getD 0) (sentAt + s.leaseL)) ∧
         t.twin.viewEnd = some (max (s.twin.leaseEnd.getD 0) (sentAt + s.leaseL) + s.leaseG)) ∧
  (∀ (s : State), Linked s → s.twin.holder = true → s.twin.stopped = false → s.twin.renewAt ≤ s.now →
       ∃ t, exec .leaseRenewTimer s = .next t ∧ FrameSent s t (plainItem 7 (beBytes 8 s.now)) ∧ t.twin.renewAt = s.now + s.leaseL / 5) ∧
  (∀ (s : State), s.coreOn = true → s.twin.holder = true → s.twin.stopped = false → s.linkUp = false → s.hasWitness = true → s.twin.witnessAt ≤ s.now →
       ∃ t, exec .witnessRenewTimer s = .next t ∧ t.twin.witnessAt = s.now + s.leaseL / 5 ∧
         t.domain.requests = s.domain.requests.filter (fun q => q.type != 1 || decide (s.now < q.firstAt + s.leaseL)) ++
           s.witnessPairs.map (fun d => ⟨1, d, s.domain.nextMsg, [s.rd R.TWIN_CTRL_LEASE_MS], s.now, s.now, none, [], []⟩)) ∧
  (∀ (s : State), s.coreOn = true → s.twin.holder = false ∨ s.twin.stopped = true ∨ s.leaseValid = false → s.mayServe = true →
       due s.now s.twin.viewEnd = true → s.hasWitness = true → s.twin.forcing = none → s.twin.grantAt ≤ s.now →
       ∃ t, exec .grantRequestTimer s = .next t ∧ t.twin.grantAt = s.now + s.leaseL / 5 ∧
         t.domain.requests = s.domain.requests.filter (fun q => q.type != 4) ++
           s.witnessPairs.map (fun d => ⟨4, d, s.domain.nextMsg, [0], s.now, s.now, none, [], []⟩)) ∧
  (∀ (s : State), s.coreOn = true → s.paired = true → s.twin.holder = true → due s.now s.twin.leaseEnd = true → s.leaseValid = false → s.twin.yield = none →
       ∃ t, exec .leaseEnd s = .next t ∧ t.rd R.TWIN_STATUS_ROLE = 4 ∧ t.isActive = false) ∧
  (∀ (s : State), s.coreOn = true → s.paired = true → due s.now s.twin.viewEnd = true → s.twin.holder = false ∨ s.leaseValid = false ∨ s.twin.stopped = true →
       ∃ t, exec .leaseViewExpiry s = .next t ∧ t.twin.grantAt = min s.twin.grantAt s.now) ∧
  (∀ (s : State) (y : Yield), Linked s → s.twin.yield = some y → y.cause ≠ 4 → y.step = 2 → NothingRuns s →
       ∃ t, exec .yieldDrainBound s = .next t ∧ t.twin.yield = some { y with step := 3 } ∧
         FrameSent s t (plainItem 0x0D (handoverBody ((rangeFrom 0 32).map (fun q => (AMap.get? s.twin.sent q).getD 0))
           (s.rd R.TWIN_TOKEN_EPOCH_VALUE + 1) (match s.twin.leaseEnd with | some x => x - s.now | none => s.leaseL) false))) ∧
  (∀ (s : State) (msns : List Nat) (epoch leaseLeft : Nat) (save : Bool), ItemTakes s → s.twin.holder = false → s.save.active = false →
       s.mayServe = true → s.rd R.TWIN_STATUS_SYNC = 0 → s.rd R.TWIN_TOKEN_EPOCH_VALUE < epoch → msns.length = 32 →
       (rangeFrom 0 32).all (fun q => decide (msns.getD q 0 ≤ (AMap.get? s.twin.accepted q).getD 0)) = true →
       ∃ t, exec (.handover msns epoch leaseLeft save) s = .next t ∧ t.twin.holder = true ∧ t.twin.opening = true ∧
         t.rd R.TWIN_TOKEN_EPOCH_VALUE = epoch % 2 ^ R.TWIN_TOKEN_EPOCH_VALUE.width ∧ t.twin.leaseEnd = some (s.now + leaseLeft) ∧
         FrameSent s t (plainItem 0x0E (handoverBody msns epoch leaseLeft save))) ∧
  (∀ (s : State) (y : Yield), ItemTakes s → s.twin.yield = some y → y.step = 3 → y.cause ≠ 4 → y.cmd = none → s.twin.quiesceAfter = false →
       NothingRuns s →
       ∃ t, exec (.handoverAck (s.rd R.TWIN_TOKEN_EPOCH_VALUE + 1)) s = .next t ∧ t.twin.holder = false ∧ t.twin.yield = none ∧
         t.rd R.TWIN_STATUS_ROLE = 2 ∧
         t.rd R.TWIN_TOKEN_EPOCH_VALUE = (s.rd R.TWIN_TOKEN_EPOCH_VALUE + 1) % 2 ^ R.TWIN_TOKEN_EPOCH_VALUE.width) ∧
  (∀ (s : State) (value : Nat), ItemTakes s → s.twin.holder = false → s.inService = true →
       ∃ t, exec (.resyncCtrl 0 value) s = .next t ∧ t.rd R.TWIN_STATUS_SYNC = 2 ∧ t.twin.unanswered = false) ∧
  (∀ (s : State) (unit : Nat) (r : Resync), ItemTakes s → s.twin.resync = some r → s.twin.diverged ≠ [] →
       ∃ t, exec (.resyncCtrl 1 unit) s = .next t ∧ t.twin.resync = some { r with unacked := r.unacked.filter (· != unit) }) ∧
  (∀ (s : State) (value : Nat), ItemTakes s → s.twin.holder = false → s.rd R.TWIN_STATUS_SYNC = 2 →
       ∃ t, exec (.resyncCtrl 2 value) s = .next t ∧ t.rd R.TWIN_STATUS_SYNC = 0 ∧ t.start.presented = true) ∧
  (∀ (s : State) (unit m : Nat) (msns poison : List Nat) (data : List Byte), ItemTakes s → s.twin.holder = false → s.rd R.TWIN_STATUS_SYNC = 2 →
       s.media? (unit * unit2M) = some m → s.near.ways = [] → s.near.victims = [] → s.near.misses = [] →
       ∃ t, exec (.resyncData unit none msns poison data) s = .next t ∧ t.mem.dram = Mem.writeN s.mem.dram m (data.take unit2M) ∧
         FrameSent s t (ctrlItem 1 unit)) ∧
  (∀ (s : State) (r : Resync) (u m : Nat) (rest : List Nat), Linked s → s.twin.resync = some r → s.twin.diverged = u :: rest → s.isActive = true →
       s.twin.localCommands = [] → r.nextAt ≤ s.now → s.twin.peerStatus.stage ≠ 4 → s.start.units.contains u = false →
       s.media? (u * unit2M) = some m →
       ∃ t, exec .resyncUnitSend s = .next t ∧ t.twin.diverged = rest ∧
         t.twin.resync = some { r with unacked := r.unacked ++ [u], nextAt := s.now + s.unitTime } ∧
         t.rd R.TWIN_RESYNC_BYTES = (s.rd R.TWIN_RESYNC_BYTES + unit2M) % 2 ^ R.TWIN_RESYNC_BYTES.width)

/-- The commands of the twin unit where they take effect, and what COMMAND and STREAM_STATE items leave at a standby: a PD with the report of its number, and a stream's
opening, carried sequences and RESP_ACK, a QP's ePSN and the incarnation (R57, R95, R117, R133, R161, R193, R199). -/
def Obligations.TwinCommandsAndMirroredChanges : Prop :=
  (∀ (s : State) (r : CmdRef) (c : Cmd) (peer keyId home flags : Nat), Accepts s r 0x0701 c → flags % 2 = 1 → NothingRuns s → s.twin.yield = none →
       ∃ t, exec (.twinPair r peer keyId home flags) s = .next t ∧ Ended t c St.DONE 0 0 ∧ t.twin.peer = none ∧ t.twin.holder = true ∧
         t.rd R.TWIN_STATUS_LINK = 0 ∧ t.rd R.TWIN_STATUS_ROLE = 0 ∧ t.on R.TWIN_STATUS_SINGLE_RUNNING = true) ∧
  (∀ (s : State) (r : CmdRef) (c : Cmd) (peer keyId home flags : Nat), Accepts s r 0x0701 c → flags % 2 = 0 →
       s.keyOk keyId Slot.PAIRING = true → NothingRuns s → s.twin.yield = none →
       ∃ t, exec (.twinPair r peer keyId home flags) s = .next t ∧ Ended t c St.DONE 0 0 ∧ t.twin.peer = some peer ∧ t.twin.pairKey = keyId ∧
         t.rd R.TWIN_STATUS_LINK = 1 ∧ t.on R.TWIN_STATUS_HOME = !(home == 1)) ∧
  (∀ (s : State) (r : CmdRef) (c : Cmd) (tag : Nat), Accepts s r 0x0702 c → s.standbyCurrent = true → s.isActive = true →
       s.twin.resync = none → s.twin.yield = none →
       ∃ t, exec (.twinSwitch r 0 tag) s = .next t ∧ StillRuns t c ∧
         t.twin.yield = some ⟨1, 2, s.now, some c.id, tag, s.now + us 200⟩ ∧ t.rd R.TWIN_STATUS_ROLE = 3) ∧
  (∀ (s : State) (r : CmdRef) (c : Cmd) (tag : Nat), Accepts s r 0x0702 c → s.paired = true → s.twin.holder = false → s.mayServe = true →
       (match s.twin.lastRenewSeen with | some x => decide (s.now < x + s.leaseL + s.leaseG) | none => false) = false → s.hasWitness = false →
       NothingRuns s →
       ∃ t, exec (.twinSwitch r 1 tag) s = .next t ∧ Ended t c St.DONE 0 0 ∧ t.twin.holder = true ∧
         t.rd R.TWIN_TOKEN_EPOCH_VALUE = (s.rd R.TWIN_TOKEN_EPOCH_VALUE + 1) % 2 ^ R.TWIN_TOKEN_EPOCH_VALUE.width) ∧
  (∀ (s : State) (r : CmdRef) (c : Cmd) (mode : Nat), Accepts s r 0x0703 c → s.paired = true → s.twin.holder = true → s.linkUp = true →
       s.twin.refused = 0 → mode ≤ 1 → s.twin.localCommands ≠ [] →
       ∃ t, exec (.twinResync r mode) s = .next t ∧ Ended t c St.DONE 0 0 ∧ t.rd R.TWIN_STATUS_SYNC = 2 ∧
         (t.twin.resync).map (·.full) = some (mode == 1)) ∧
  (∀ (s : State) (number pd : Nat), ItemTakes s → s.twin.holder = false → s.accepting = true →
       ∃ t, exec (.command number 0x0105 [pd]) s = .next t ∧ AMap.has t.prot.pds pd = true ∧
         FrameSent s t (plainItem 6 (commandBody number Carry.REPORT [0]))) ∧
  (∀ (s : State) (number : Nat), ItemTakes s → s.twin.holder = true → s.twin.resync = none →
       ∃ t, exec (.command number Carry.REPORT [0]) s = .next t ∧ t.twin.commands = s.twin.commands.filter (fun c => c.number != number)) ∧
  (∀ (s : State) (i epoch base : Nat), ItemTakes s → s.twin.holder = false →
       ∃ t, exec (.streamState [0, i, epoch, base]) s = .next t ∧ (t.stream i).state = .open ∧ (t.stream i).epoch = epoch ∧
         t.rd R.CERGA_INCARNATION_VALUE = base % 65535 + 1) ∧
  (∀ (s : State) (i v : Nat), ItemTakes s → s.twin.holder = false → (s.stream i).state = .open → seqBelow (s.stream i).respAck v = true →
       ∃ t, exec (.streamState [3, i, (s.stream i).epoch, v]) s = .next t ∧ (t.stream i).respAck = v) ∧
  (∀ (s : State) (i q : Nat), ItemTakes s → s.twin.holder = false → (s.stream i).state = .open → seqBelow q (s.stream i).respAck = false →
       ∃ t, exec (.streamState [1, i, (s.stream i).epoch, q, 1]) s = .next t ∧ (t.stream i).carried = insertNat (q % 2 ^ 32) (s.stream i).carried) ∧
  (∀ (s : State) (q psn n : Nat) (x : Qp), ItemTakes s → s.twin.holder = false → s.qp? q = some x →
       ∃ t, exec (.streamState [4, q, 0, psn, n]) s = .next t ∧ t.qp? q = some { x with epsn := (psn + n) % 2 ^ 24, naked := false })
end

