-- ==== Sys2Proof/Laws/Maps.lean ====
section
/-! SUPPORT. Laws of sparse tables and byte memories: read after write, and the canonical form that every operation keeps. -/

namespace Sys2Proof

/-! ### Tables -/

@[simp] theorem AMap.get?_nil {α : Type} (i : Nat) : AMap.get? ([] : AMap α) i = none := rfl

@[simp] theorem AMap.get?_set_self {α : Type} (m : AMap α) (i : Nat) (v : α) : AMap.get? (AMap.set m i v) i = some v := by
  induction m with
  | nil => simp [AMap.set, AMap.get?]
  | cons e m ih =>
    obtain ⟨k, w⟩ := e
    simp only [AMap.set]
    split
    · simp [AMap.get?]
    · split
      · simp [AMap.get?]
      · rename_i _ h
        have hk : ¬ k = i := fun e => h e.symm
        simp [AMap.get?, hk, ih]

theorem AMap.get?_set_ne {α : Type} (m : AMap α) {i j : Nat} (v : α) (h : i ≠ j) :
    AMap.get? (AMap.set m i v) j = AMap.get? m j := by
  induction m with
  | nil => simp [AMap.set, AMap.get?, h]
  | cons e m ih =>
    obtain ⟨k, w⟩ := e
    simp only [AMap.set]
    split
    · simp [AMap.get?, h]
    · split
      · subst_vars; simp [AMap.get?, h]
      · simp only [AMap.get?, ih]

@[simp] theorem AMap.get?_del_self {α : Type} (m : AMap α) (i : Nat) : AMap.get? (AMap.del m i) i = none := by
  induction m with
  | nil => rfl
  | cons e m ih =>
    obtain ⟨k, w⟩ := e
    by_cases h : k = i <;> simp [AMap.del, AMap.get?, h, ih]

theorem AMap.get?_del_ne {α : Type} (m : AMap α) {i j : Nat} (h : i ≠ j) : AMap.get? (AMap.del m i) j = AMap.get? m j := by
  induction m with
  | nil => rfl
  | cons e m ih =>
    obtain ⟨k, w⟩ := e
    by_cases hk : k = i
    · subst hk; simp [AMap.del, AMap.get?, h, ih]
    · simp only [AMap.del, hk, if_false, AMap.get?, ih]

@[simp] theorem AMap.has_set_self {α : Type} (m : AMap α) (i : Nat) (v : α) : AMap.has (AMap.set m i v) i = true := by
  simp [AMap.has]

@[simp] theorem AMap.has_del_self {α : Type} (m : AMap α) (i : Nat) : AMap.has (AMap.del m i) i = false := by
  simp [AMap.has]

theorem AMap.above_set {α : Type} {k i : Nat} (h : k < i) (m : AMap α) (v : α) (hm : AMap.above k m = true) :
    AMap.above k (AMap.set m i v) = true := by
  cases m with
  | nil => simp [AMap.set, AMap.above, h]
  | cons e m =>
    obtain ⟨j, w⟩ := e
    simp only [AMap.set]
    split
    · simp [AMap.above, h]
    · split <;> simp_all [AMap.above]

/-- Storing keeps the canonical form. -/
theorem AMap.wf_set {α : Type} (m : AMap α) (i : Nat) (v : α) (h : AMap.wf m = true) : AMap.wf (AMap.set m i v) = true := by
  induction m with
  | nil => rfl
  | cons e m ih =>
    obtain ⟨k, w⟩ := e
    simp only [AMap.wf, Bool.and_eq_true] at h
    simp only [AMap.set]
    split
    · simp_all [AMap.wf, AMap.above]
    · split
      · subst_vars; simp [AMap.wf, h.1, h.2]
      · rename_i h1 h2
        have hlt : k < i := by omega
        simp [AMap.wf, AMap.above_set hlt m v h.1, ih h.2]

theorem AMap.above_trans {α : Type} {k j : Nat} (h : k < j) (m : AMap α) (hm : AMap.above j m = true) : AMap.above k m = true := by
  cases m with
  | nil => rfl
  | cons e m => simp only [AMap.above, decide_eq_true_eq] at *; omega

/-- Every key of a canonical table whose keys all lie above `k` is above `k`, and so is every key of a part of it. -/
theorem AMap.above_filter {α : Type} (p : Nat × α → Bool) (k : Nat) (m : AMap α) (h : AMap.wf m = true)
    (ha : AMap.above k m = true) : AMap.above k (m.filter p) = true := by
  induction m generalizing k with
  | nil => rfl
  | cons e m ih =>
    obtain ⟨j, w⟩ := e
    simp only [AMap.wf, Bool.and_eq_true] at h
    simp only [AMap.above, decide_eq_true_eq] at ha
    by_cases hp : p (j, w) = true
    · simp [List.filter, hp, AMap.above, ha]
    · simpa [List.filter, hp] using ih k h.2 (AMap.above_trans ha m h.1)

/-- A part of a canonical table is canonical. -/
theorem AMap.wf_filter {α : Type} (p : Nat × α → Bool) (m : AMap α) (h : AMap.wf m = true) : AMap.wf (m.filter p) = true := by
  induction m with
  | nil => rfl
  | cons e m ih =>
    obtain ⟨j, w⟩ := e
    simp only [AMap.wf, Bool.and_eq_true] at h
    by_cases hp : p (j, w) = true
    · simp [List.filter, hp, AMap.wf, AMap.above_filter p j m h.2 h.1, ih h.2]
    · simpa [List.filter, hp] using ih h.2

theorem AMap.del_eq_filter {α : Type} (m : AMap α) (i : Nat) : AMap.del m i = m.filter (fun e => e.1 != i) := by
  induction m with
  | nil => rfl
  | cons e m ih =>
    obtain ⟨k, w⟩ := e
    by_cases h : k = i
    · simp [AMap.del, h, ih]
    · have hb : (k != i) = true := by simpa using h
      simp [AMap.del, List.filter, h, hb, ih]

/-- Removing keeps the canonical form. -/
theorem AMap.wf_del {α : Type} (m : AMap α) (i : Nat) (h : AMap.wf m = true) : AMap.wf (AMap.del m i) = true := by
  rw [AMap.del_eq_filter]; exact AMap.wf_filter _ m h

/-- Changing an entry keeps the canonical form. -/
theorem AMap.wf_upd {α : Type} (m : AMap α) (i : Nat) (f : α → α) (h : AMap.wf m = true) : AMap.wf (AMap.upd m i f) = true := by
  unfold AMap.upd
  split
  · exact AMap.wf_set m i _ h
  · exact h

theorem AMap.get?_upd_self {α : Type} (m : AMap α) (i : Nat) (f : α → α) :
    AMap.get? (AMap.upd m i f) i = (AMap.get? m i).map f := by
  unfold AMap.upd
  split <;> simp_all

theorem AMap.get?_upd_ne {α : Type} (m : AMap α) {i j : Nat} (f : α → α) (h : i ≠ j) :
    AMap.get? (AMap.upd m i f) j = AMap.get? m j := by
  unfold AMap.upd
  split
  · exact AMap.get?_set_ne m _ h
  · rfl

/-! ### Byte memories -/

theorem Mem.read_write_self (m : Mem) (a : Nat) (b : Byte) : Mem.read (Mem.write m a b) a = b := by
  unfold Mem.read Mem.write
  split
  · simp_all
  · simp

theorem Mem.read_write_ne (m : Mem) {a c : Nat} (b : Byte) (h : a ≠ c) : Mem.read (Mem.write m a b) c = Mem.read m c := by
  unfold Mem.read Mem.write
  split
  · rw [AMap.get?_del_ne m h]
  · rw [AMap.get?_set_ne m b h]

theorem AMap.all_set {α : Type} (p : Nat × α → Bool) (m : AMap α) (i : Nat) (v : α) (h : m.all p = true) (hv : p (i, v) = true) :
    (AMap.set m i v).all p = true := by
  induction m with
  | nil => simp [AMap.set, hv]
  | cons e m ih =>
    obtain ⟨k, w⟩ := e
    simp only [List.all_cons, Bool.and_eq_true] at h
    simp only [AMap.set]
    split
    · simp [hv, h.1, h.2]
    · split
      · simp [hv, h.2]
      · simp [h.1, ih h.2]

/-- Writing a byte keeps the canonical form. -/
theorem Mem.wf_write (m : Mem) (a : Nat) (b : Byte) (h : Mem.wf m = true) : Mem.wf (Mem.write m a b) = true := by
  unfold Mem.wf at *
  simp only [Bool.and_eq_true] at *
  unfold Mem.write
  split
  · refine ⟨AMap.wf_del m a h.1, ?_⟩
    rw [AMap.del_eq_filter, List.all_filter]
    simp only [List.all_eq_true] at *
    intro x hx
    have h2 : ¬ x.2 = 0#8 := by simpa using h.2 x hx
    simp [h2]
  · rename_i hb
    exact ⟨AMap.wf_set m a b h.1, AMap.all_set _ m a b h.2 (by simpa using hb)⟩

/-- Writing a run keeps the canonical form. -/
theorem Mem.wf_writeN (bs : List Byte) (m : Mem) (a : Nat) (h : Mem.wf m = true) : Mem.wf (Mem.writeN m a bs) = true := by
  induction bs generalizing m a with
  | nil => exact h
  | cons b bs ih => exact ih _ _ (Mem.wf_write m a b h)

/-- A part of a canonical memory is canonical. -/
theorem Mem.wf_filter (p : Nat × Byte → Bool) (m : Mem) (h : Mem.wf m = true) : Mem.wf (m.filter p) = true := by
  unfold Mem.wf at *
  simp only [Bool.and_eq_true] at *
  refine ⟨AMap.wf_filter p m h.1, ?_⟩
  rw [List.all_filter]
  simp only [List.all_eq_true] at *
  intro x hx
  have h2 : ¬ x.2 = 0#8 := by simpa using h.2 x hx
  simp [h2]

/-- A run of bytes leaves every address outside it alone. -/
theorem Mem.read_writeN_outside (bs : List Byte) (m : Mem) (a c : Nat) (h : c < a ∨ a + bs.length ≤ c) :
    Mem.read (Mem.writeN m a bs) c = Mem.read m c := by
  induction bs generalizing m a with
  | nil => rfl
  | cons b bs ih =>
    simp only [List.length_cons] at h
    simp only [Mem.writeN]
    rw [ih _ _ (by omega), Mem.read_write_ne m b (by omega)]

/-- A run just written reads as it was written. -/
theorem Mem.read_writeN_inside (bs : List Byte) (m : Mem) (a k : Nat) (h : k < bs.length) :
    Mem.read (Mem.writeN m a bs) (a + k) = bs.getD k 0 := by
  induction bs generalizing m a k with
  | nil => simp at h
  | cons b bs ih =>
    simp only [Mem.writeN]
    cases k with
    | zero => rw [Mem.read_writeN_outside bs _ _ _ (by omega), Nat.add_zero, Mem.read_write_self]; rfl
    | succ k =>
      simp only [List.length_cons] at h
      have := ih (Mem.write m a b) (a + 1) k (by omega)
      rw [show a + (k + 1) = a + 1 + k by omega, this]; rfl

end Sys2Proof
end

