-- ==== Sys2Proof/Laws/State.lean ====
section
/-! SUPPORT. Laws of the state and of its register file: reading after writing, and folds that leave a part of the state alone. -/

namespace Sys2Proof.Machine

open Sys2Proof

/-! ### Register fields -/

/-- A field read after it is written: the value cut to its width. -/
@[simp] theorem State.rdN_wrN_self (s : State) (f : Fld) (n v : Nat) : (s.wrN f n v).rdN f n = v % 2 ^ f.width := by
  simp only [State.rdN, State.wrN]
  split <;> simp_all

/-- Another field keeps its value. -/
theorem State.rdN_wrN_ne (s : State) {f g : Fld} {n m : Nat} (v : Nat) (h : f.key n ≠ g.key m) :
    (s.wrN f n v).rdN g m = s.rdN g m := by
  simp only [State.rdN, State.wrN]
  split
  · simp [AMap.get?_del_ne s.regs h]
  · simp [AMap.get?_set_ne s.regs _ h]

@[simp] theorem State.rd_wr_self (s : State) (f : Fld) (v : Nat) : (s.wr f v).rd f = v % 2 ^ f.width := State.rdN_wrN_self s f 0 v

theorem State.rd_wr_ne (s : State) {f g : Fld} (v : Nat) (h : f.key 0 ≠ g.key 0) : (s.wr f v).rd g = s.rd g :=
  State.rdN_wrN_ne s v h

theorem State.rd_wrN_ne (s : State) {f g : Fld} {n : Nat} (v : Nat) (h : f.key n ≠ g.key 0) : (s.wrN f n v).rd g = s.rd g :=
  State.rdN_wrN_ne s v h

theorem State.rd_flag_self (s : State) (f : Fld) (b : Bool) (h : 0 < f.width) : (s.flag f b).rd f = if b then 1 else 0 := by
  have h2 : 1 < 2 ^ f.width := Nat.one_lt_two_pow (by omega)
  unfold State.flag State.rd
  rw [State.rdN_wrN_self]
  split <;> simp [Nat.mod_eq_of_lt h2]

theorem State.rd_flag_ne (s : State) {f g : Fld} (b : Bool) (h : f.key 0 ≠ g.key 0) : (s.flag f b).rd g = s.rd g :=
  State.rdN_wrN_ne s _ h

theorem State.on_flag_self (s : State) (f : Fld) (b : Bool) (h : 0 < f.width) : (s.flag f b).on f = b := by
  have := State.rd_flag_self s f b h
  unfold State.on
  unfold State.rd at this
  rw [this]; cases b <;> rfl

theorem State.on_wr_ne (s : State) {f g : Fld} (v : Nat) (h : f.key 0 ≠ g.key 0) : (s.wr f v).on g = s.on g := by
  unfold State.on; exact congrArg (· == 1) (State.rdN_wrN_ne s v h)

theorem State.on_wrN_ne (s : State) {f g : Fld} {n : Nat} (v : Nat) (h : f.key n ≠ g.key 0) : (s.wrN f n v).on g = s.on g := by
  unfold State.on; exact congrArg (· == 1) (State.rdN_wrN_ne s v h)

theorem State.on_flag_ne (s : State) {f g : Fld} (b : Bool) (h : f.key 0 ≠ g.key 0) : (s.flag f b).on g = s.on g := by
  unfold State.on; exact congrArg (· == 1) (State.rdN_wrN_ne s _ h)

/-- A counter after it is bumped. -/
@[simp] theorem State.rd_bump_self (s : State) (f : Fld) (k : Nat) : (s.bump f k).rd f = (s.rd f + k) % 2 ^ f.width :=
  State.rdN_wrN_self s f 0 _

theorem State.rd_bump_ne (s : State) {f g : Fld} (k : Nat) (h : f.key 0 ≠ g.key 0) : (s.bump f k).rd g = s.rd g :=
  State.rdN_wrN_ne s _ h

/-- A change of anything but the register file leaves every field's value. -/
theorem State.rdN_congr {s t : State} (h : t.regs = s.regs) (f : Fld) (n : Nat) : t.rdN f n = s.rdN f n := by
  unfold State.rdN; rw [h]

/-! ### Folds -/

/-- A fold whose every step keeps a part of the state keeps it. -/
theorem State.foldl_keep {α β : Type} (g : State → β) (f : State → α → State) (l : List α) (s : State)
    (h : ∀ s x, g (f s x) = g s) : g (l.foldl f s) = g s := by
  induction l generalizing s with
  | nil => rfl
  | cons a l ih => exact (ih (f s a)).trans (h s a)

@[simp] theorem State.foldl_regs {α : Type} (f : State → α → State) (l : List α) (s : State) (h : ∀ s x, (f s x).regs = s.regs) :
    (l.foldl f s).regs = s.regs := State.foldl_keep State.regs f l s h

@[simp] theorem State.foldl_captures {α : Type} (f : State → α → State) (l : List α) (s : State) (h : ∀ s x, (f s x).captures = s.captures) :
    (l.foldl f s).captures = s.captures := State.foldl_keep State.captures f l s h

@[simp] theorem State.foldl_keyRegs {α : Type} (f : State → α → State) (l : List α) (s : State) (h : ∀ s x, (f s x).keyRegs = s.keyRegs) :
    (l.foldl f s).keyRegs = s.keyRegs := State.foldl_keep State.keyRegs f l s h

@[simp] theorem State.foldl_time {α : Type} (f : State → α → State) (l : List α) (s : State) (h : ∀ s x, (f s x).time = s.time) :
    (l.foldl f s).time = s.time := State.foldl_keep State.time f l s h

@[simp] theorem State.foldl_hub {α : Type} (f : State → α → State) (l : List α) (s : State) (h : ∀ s x, (f s x).hub = s.hub) :
    (l.foldl f s).hub = s.hub := State.foldl_keep State.hub f l s h

@[simp] theorem State.foldl_rings {α : Type} (f : State → α → State) (l : List α) (s : State) (h : ∀ s x, (f s x).rings = s.rings) :
    (l.foldl f s).rings = s.rings := State.foldl_keep State.rings f l s h

@[simp] theorem State.foldl_msix {α : Type} (f : State → α → State) (l : List α) (s : State) (h : ∀ s x, (f s x).msix = s.msix) :
    (l.foldl f s).msix = s.msix := State.foldl_keep State.msix f l s h

@[simp] theorem State.foldl_cmds {α : Type} (f : State → α → State) (l : List α) (s : State) (h : ∀ s x, (f s x).cmds = s.cmds) :
    (l.foldl f s).cmds = s.cmds := State.foldl_keep State.cmds f l s h

@[simp] theorem State.foldl_nextCmd {α : Type} (f : State → α → State) (l : List α) (s : State) (h : ∀ s x, (f s x).nextCmd = s.nextCmd) :
    (l.foldl f s).nextCmd = s.nextCmd := State.foldl_keep State.nextCmd f l s h

@[simp] theorem State.foldl_rrNext {α : Type} (f : State → α → State) (l : List α) (s : State) (h : ∀ s x, (f s x).rrNext = s.rrNext) :
    (l.foldl f s).rrNext = s.rrNext := State.foldl_keep State.rrNext f l s h

@[simp] theorem State.foldl_armedEnd {α : Type} (f : State → α → State) (l : List α) (s : State) (h : ∀ s x, (f s x).armedEnd = s.armedEnd) :
    (l.foldl f s).armedEnd = s.armedEnd := State.foldl_keep State.armedEnd f l s h

@[simp] theorem State.foldl_keeper {α : Type} (f : State → α → State) (l : List α) (s : State) (h : ∀ s x, (f s x).keeper = s.keeper) :
    (l.foldl f s).keeper = s.keeper := State.foldl_keep State.keeper f l s h

@[simp] theorem State.foldl_fw {α : Type} (f : State → α → State) (l : List α) (s : State) (h : ∀ s x, (f s x).fw = s.fw) :
    (l.foldl f s).fw = s.fw := State.foldl_keep State.fw f l s h

@[simp] theorem State.foldl_start {α : Type} (f : State → α → State) (l : List α) (s : State) (h : ∀ s x, (f s x).start = s.start) :
    (l.foldl f s).start = s.start := State.foldl_keep State.start f l s h

@[simp] theorem State.foldl_save {α : Type} (f : State → α → State) (l : List α) (s : State) (h : ∀ s x, (f s x).save = s.save) :
    (l.foldl f s).save = s.save := State.foldl_keep State.save f l s h

@[simp] theorem State.foldl_prot {α : Type} (f : State → α → State) (l : List α) (s : State) (h : ∀ s x, (f s x).prot = s.prot) :
    (l.foldl f s).prot = s.prot := State.foldl_keep State.prot f l s h

@[simp] theorem State.foldl_eng {α : Type} (f : State → α → State) (l : List α) (s : State) (h : ∀ s x, (f s x).eng = s.eng) :
    (l.foldl f s).eng = s.eng := State.foldl_keep State.eng f l s h

@[simp] theorem State.foldl_near {α : Type} (f : State → α → State) (l : List α) (s : State) (h : ∀ s x, (f s x).near = s.near) :
    (l.foldl f s).near = s.near := State.foldl_keep State.near f l s h

@[simp] theorem State.foldl_dur {α : Type} (f : State → α → State) (l : List α) (s : State) (h : ∀ s x, (f s x).dur = s.dur) :
    (l.foldl f s).dur = s.dur := State.foldl_keep State.dur f l s h

@[simp] theorem State.foldl_ledger {α : Type} (f : State → α → State) (l : List α) (s : State) (h : ∀ s x, (f s x).ledger = s.ledger) :
    (l.foldl f s).ledger = s.ledger := State.foldl_keep State.ledger f l s h

@[simp] theorem State.foldl_cerga {α : Type} (f : State → α → State) (l : List α) (s : State) (h : ∀ s x, (f s x).cerga = s.cerga) :
    (l.foldl f s).cerga = s.cerga := State.foldl_keep State.cerga f l s h

@[simp] theorem State.foldl_roce {α : Type} (f : State → α → State) (l : List α) (s : State) (h : ∀ s x, (f s x).roce = s.roce) :
    (l.foldl f s).roce = s.roce := State.foldl_keep State.roce f l s h

@[simp] theorem State.foldl_twin {α : Type} (f : State → α → State) (l : List α) (s : State) (h : ∀ s x, (f s x).twin = s.twin) :
    (l.foldl f s).twin = s.twin := State.foldl_keep State.twin f l s h

@[simp] theorem State.foldl_shelf {α : Type} (f : State → α → State) (l : List α) (s : State) (h : ∀ s x, (f s x).shelf = s.shelf) :
    (l.foldl f s).shelf = s.shelf := State.foldl_keep State.shelf f l s h

@[simp] theorem State.foldl_meter {α : Type} (f : State → α → State) (l : List α) (s : State) (h : ∀ s x, (f s x).meter = s.meter) :
    (l.foldl f s).meter = s.meter := State.foldl_keep State.meter f l s h

@[simp] theorem State.foldl_mem {α : Type} (f : State → α → State) (l : List α) (s : State) (h : ∀ s x, (f s x).mem = s.mem) :
    (l.foldl f s).mem = s.mem := State.foldl_keep State.mem f l s h

@[simp] theorem State.foldl_domain {α : Type} (f : State → α → State) (l : List α) (s : State) (h : ∀ s x, (f s x).domain = s.domain) :
    (l.foldl f s).domain = s.domain := State.foldl_keep State.domain f l s h

@[simp] theorem State.foldl_crypt {α : Type} (f : State → α → State) (l : List α) (s : State) (h : ∀ s x, (f s x).crypt = s.crypt) :
    (l.foldl f s).crypt = s.crypt := State.foldl_keep State.crypt f l s h

@[simp] theorem State.foldl_out {α : Type} (f : State → α → State) (l : List α) (s : State) (h : ∀ s x, (f s x).out = s.out) :
    (l.foldl f s).out = s.out := State.foldl_keep State.out f l s h

@[simp] theorem State.foldl_pace {α : Type} (f : State → α → State) (l : List α) (s : State) (h : ∀ s x, (f s x).pace = s.pace) :
    (l.foldl f s).pace = s.pace := State.foldl_keep State.pace f l s h

@[simp] theorem State.foldl_ports {α : Type} (f : State → α → State) (l : List α) (s : State) (h : ∀ s x, (f s x).ports = s.ports) :
    (l.foldl f s).ports = s.ports := State.foldl_keep State.ports f l s h

@[simp] theorem State.foldl_dram {α : Type} (f : State → α → State) (l : List α) (s : State) (h : ∀ s x, (f s x).dram = s.dram) :
    (l.foldl f s).dram = s.dram := State.foldl_keep State.dram f l s h

@[simp] theorem State.foldl_flash {α : Type} (f : State → α → State) (l : List α) (s : State) (h : ∀ s x, (f s x).flash = s.flash) :
    (l.foldl f s).flash = s.flash := State.foldl_keep State.flash f l s h

@[simp] theorem State.foldl_integ {α : Type} (f : State → α → State) (l : List α) (s : State) (h : ∀ s x, (f s x).integ = s.integ) :
    (l.foldl f s).integ = s.integ := State.foldl_keep State.integ f l s h

@[simp] theorem State.foldl_trace {α : Type} (f : State → α → State) (l : List α) (s : State) (h : ∀ s x, (f s x).trace = s.trace) :
    (l.foldl f s).trace = s.trace := State.foldl_keep State.trace f l s h

@[simp] theorem State.foldl_free {α : Type} (f : State → α → State) (l : List α) (s : State) (h : ∀ s x, (f s x).free = s.free) :
    (l.foldl f s).free = s.free := State.foldl_keep State.free f l s h

@[simp] theorem State.foldl_pending {α : Type} (f : State → α → State) (l : List α) (s : State) (h : ∀ s x, (f s x).pending = s.pending) :
    (l.foldl f s).pending = s.pending := State.foldl_keep State.pending f l s h

end Sys2Proof.Machine
end

