-- ==== Sys2Proof/Laws/Ops.lean ====
section
/-! SUPPORT. What the shared operations leave alone: one law per operation, naming every part of the state that it keeps. -/

namespace Sys2Proof.Machine

open Sys2Proof

@[simp] theorem State.wrN_keeps (s : State) (f : Fld) (n v : Nat) :
    (State.wrN s f n v).captures = s.captures ∧
    (State.wrN s f n v).keyRegs = s.keyRegs ∧
    (State.wrN s f n v).time = s.time ∧
    (State.wrN s f n v).hub = s.hub ∧
    (State.wrN s f n v).rings = s.rings ∧
    (State.wrN s f n v).msix = s.msix ∧
    (State.wrN s f n v).cmds = s.cmds ∧
    (State.wrN s f n v).nextCmd = s.nextCmd ∧
    (State.wrN s f n v).rrNext = s.rrNext ∧
    (State.wrN s f n v).armedEnd = s.armedEnd ∧
    (State.wrN s f n v).keeper = s.keeper ∧
    (State.wrN s f n v).fw = s.fw ∧
    (State.wrN s f n v).start = s.start ∧
    (State.wrN s f n v).save = s.save ∧
    (State.wrN s f n v).prot = s.prot ∧
    (State.wrN s f n v).eng = s.eng ∧
    (State.wrN s f n v).near = s.near ∧
    (State.wrN s f n v).dur = s.dur ∧
    (State.wrN s f n v).ledger = s.ledger ∧
    (State.wrN s f n v).cerga = s.cerga ∧
    (State.wrN s f n v).roce = s.roce ∧
    (State.wrN s f n v).twin = s.twin ∧
    (State.wrN s f n v).shelf = s.shelf ∧
    (State.wrN s f n v).meter = s.meter ∧
    (State.wrN s f n v).mem = s.mem ∧
    (State.wrN s f n v).domain = s.domain ∧
    (State.wrN s f n v).crypt = s.crypt ∧
    (State.wrN s f n v).out = s.out ∧
    (State.wrN s f n v).pace = s.pace ∧
    (State.wrN s f n v).ports = s.ports ∧
    (State.wrN s f n v).dram = s.dram ∧
    (State.wrN s f n v).flash = s.flash ∧
    (State.wrN s f n v).integ = s.integ ∧
    (State.wrN s f n v).trace = s.trace ∧
    (State.wrN s f n v).free = s.free ∧
    (State.wrN s f n v).pending = s.pending := by
  first
  | (simp only [State.wrN]; simp; done)
  | (simp only [State.wrN]; (repeat' split) <;> simp; done)
  | (unfold State.wrN; (repeat' split) <;> simp; done)
  | (unfold State.wrN; repeat' apply And.intro
     all_goals (apply State.foldl_keep; intro s x; dsimp only; (repeat' split) <;> simp))

@[simp] theorem State.wr_keeps (s : State) (f : Fld) (v : Nat) :
    (State.wr s f v).captures = s.captures ∧
    (State.wr s f v).keyRegs = s.keyRegs ∧
    (State.wr s f v).time = s.time ∧
    (State.wr s f v).hub = s.hub ∧
    (State.wr s f v).rings = s.rings ∧
    (State.wr s f v).msix = s.msix ∧
    (State.wr s f v).cmds = s.cmds ∧
    (State.wr s f v).nextCmd = s.nextCmd ∧
    (State.wr s f v).rrNext = s.rrNext ∧
    (State.wr s f v).armedEnd = s.armedEnd ∧
    (State.wr s f v).keeper = s.keeper ∧
    (State.wr s f v).fw = s.fw ∧
    (State.wr s f v).start = s.start ∧
    (State.wr s f v).save = s.save ∧
    (State.wr s f v).prot = s.prot ∧
    (State.wr s f v).eng = s.eng ∧
    (State.wr s f v).near = s.near ∧
    (State.wr s f v).dur = s.dur ∧
    (State.wr s f v).ledger = s.ledger ∧
    (State.wr s f v).cerga = s.cerga ∧
    (State.wr s f v).roce = s.roce ∧
    (State.wr s f v).twin = s.twin ∧
    (State.wr s f v).shelf = s.shelf ∧
    (State.wr s f v).meter = s.meter ∧
    (State.wr s f v).mem = s.mem ∧
    (State.wr s f v).domain = s.domain ∧
    (State.wr s f v).crypt = s.crypt ∧
    (State.wr s f v).out = s.out ∧
    (State.wr s f v).pace = s.pace ∧
    (State.wr s f v).ports = s.ports ∧
    (State.wr s f v).dram = s.dram ∧
    (State.wr s f v).flash = s.flash ∧
    (State.wr s f v).integ = s.integ ∧
    (State.wr s f v).trace = s.trace ∧
    (State.wr s f v).free = s.free ∧
    (State.wr s f v).pending = s.pending := by
  first
  | (simp only [State.wr]; simp; done)
  | (simp only [State.wr]; (repeat' split) <;> simp; done)
  | (unfold State.wr; (repeat' split) <;> simp; done)
  | (unfold State.wr; repeat' apply And.intro
     all_goals (apply State.foldl_keep; intro s x; dsimp only; (repeat' split) <;> simp))

@[simp] theorem State.flag_keeps (s : State) (f : Fld) (b : Bool) :
    (State.flag s f b).captures = s.captures ∧
    (State.flag s f b).keyRegs = s.keyRegs ∧
    (State.flag s f b).time = s.time ∧
    (State.flag s f b).hub = s.hub ∧
    (State.flag s f b).rings = s.rings ∧
    (State.flag s f b).msix = s.msix ∧
    (State.flag s f b).cmds = s.cmds ∧
    (State.flag s f b).nextCmd = s.nextCmd ∧
    (State.flag s f b).rrNext = s.rrNext ∧
    (State.flag s f b).armedEnd = s.armedEnd ∧
    (State.flag s f b).keeper = s.keeper ∧
    (State.flag s f b).fw = s.fw ∧
    (State.flag s f b).start = s.start ∧
    (State.flag s f b).save = s.save ∧
    (State.flag s f b).prot = s.prot ∧
    (State.flag s f b).eng = s.eng ∧
    (State.flag s f b).near = s.near ∧
    (State.flag s f b).dur = s.dur ∧
    (State.flag s f b).ledger = s.ledger ∧
    (State.flag s f b).cerga = s.cerga ∧
    (State.flag s f b).roce = s.roce ∧
    (State.flag s f b).twin = s.twin ∧
    (State.flag s f b).shelf = s.shelf ∧
    (State.flag s f b).meter = s.meter ∧
    (State.flag s f b).mem = s.mem ∧
    (State.flag s f b).domain = s.domain ∧
    (State.flag s f b).crypt = s.crypt ∧
    (State.flag s f b).out = s.out ∧
    (State.flag s f b).pace = s.pace ∧
    (State.flag s f b).ports = s.ports ∧
    (State.flag s f b).dram = s.dram ∧
    (State.flag s f b).flash = s.flash ∧
    (State.flag s f b).integ = s.integ ∧
    (State.flag s f b).trace = s.trace ∧
    (State.flag s f b).free = s.free ∧
    (State.flag s f b).pending = s.pending := by
  first
  | (simp only [State.flag]; simp; done)
  | (simp only [State.flag]; (repeat' split) <;> simp; done)
  | (unfold State.flag; (repeat' split) <;> simp; done)
  | (unfold State.flag; repeat' apply And.intro
     all_goals (apply State.foldl_keep; intro s x; dsimp only; (repeat' split) <;> simp))

@[simp] theorem State.bump_keeps (s : State) (f : Fld) (k : Nat) :
    (State.bump s f k).captures = s.captures ∧
    (State.bump s f k).keyRegs = s.keyRegs ∧
    (State.bump s f k).time = s.time ∧
    (State.bump s f k).hub = s.hub ∧
    (State.bump s f k).rings = s.rings ∧
    (State.bump s f k).msix = s.msix ∧
    (State.bump s f k).cmds = s.cmds ∧
    (State.bump s f k).nextCmd = s.nextCmd ∧
    (State.bump s f k).rrNext = s.rrNext ∧
    (State.bump s f k).armedEnd = s.armedEnd ∧
    (State.bump s f k).keeper = s.keeper ∧
    (State.bump s f k).fw = s.fw ∧
    (State.bump s f k).start = s.start ∧
    (State.bump s f k).save = s.save ∧
    (State.bump s f k).prot = s.prot ∧
    (State.bump s f k).eng = s.eng ∧
    (State.bump s f k).near = s.near ∧
    (State.bump s f k).dur = s.dur ∧
    (State.bump s f k).ledger = s.ledger ∧
    (State.bump s f k).cerga = s.cerga ∧
    (State.bump s f k).roce = s.roce ∧
    (State.bump s f k).twin = s.twin ∧
    (State.bump s f k).shelf = s.shelf ∧
    (State.bump s f k).meter = s.meter ∧
    (State.bump s f k).mem = s.mem ∧
    (State.bump s f k).domain = s.domain ∧
    (State.bump s f k).crypt = s.crypt ∧
    (State.bump s f k).out = s.out ∧
    (State.bump s f k).pace = s.pace ∧
    (State.bump s f k).ports = s.ports ∧
    (State.bump s f k).dram = s.dram ∧
    (State.bump s f k).flash = s.flash ∧
    (State.bump s f k).integ = s.integ ∧
    (State.bump s f k).trace = s.trace ∧
    (State.bump s f k).free = s.free ∧
    (State.bump s f k).pending = s.pending := by
  first
  | (simp only [State.bump]; simp; done)
  | (simp only [State.bump]; (repeat' split) <;> simp; done)
  | (unfold State.bump; (repeat' split) <;> simp; done)
  | (unfold State.bump; repeat' apply And.intro
     all_goals (apply State.foldl_keep; intro s x; dsimp only; (repeat' split) <;> simp))

@[simp] theorem State.bumpSat_keeps (s : State) (f : Fld) (n k : Nat) :
    (State.bumpSat s f n k).captures = s.captures ∧
    (State.bumpSat s f n k).keyRegs = s.keyRegs ∧
    (State.bumpSat s f n k).time = s.time ∧
    (State.bumpSat s f n k).hub = s.hub ∧
    (State.bumpSat s f n k).rings = s.rings ∧
    (State.bumpSat s f n k).msix = s.msix ∧
    (State.bumpSat s f n k).cmds = s.cmds ∧
    (State.bumpSat s f n k).nextCmd = s.nextCmd ∧
    (State.bumpSat s f n k).rrNext = s.rrNext ∧
    (State.bumpSat s f n k).armedEnd = s.armedEnd ∧
    (State.bumpSat s f n k).keeper = s.keeper ∧
    (State.bumpSat s f n k).fw = s.fw ∧
    (State.bumpSat s f n k).start = s.start ∧
    (State.bumpSat s f n k).save = s.save ∧
    (State.bumpSat s f n k).prot = s.prot ∧
    (State.bumpSat s f n k).eng = s.eng ∧
    (State.bumpSat s f n k).near = s.near ∧
    (State.bumpSat s f n k).dur = s.dur ∧
    (State.bumpSat s f n k).ledger = s.ledger ∧
    (State.bumpSat s f n k).cerga = s.cerga ∧
    (State.bumpSat s f n k).roce = s.roce ∧
    (State.bumpSat s f n k).twin = s.twin ∧
    (State.bumpSat s f n k).shelf = s.shelf ∧
    (State.bumpSat s f n k).meter = s.meter ∧
    (State.bumpSat s f n k).mem = s.mem ∧
    (State.bumpSat s f n k).domain = s.domain ∧
    (State.bumpSat s f n k).crypt = s.crypt ∧
    (State.bumpSat s f n k).out = s.out ∧
    (State.bumpSat s f n k).pace = s.pace ∧
    (State.bumpSat s f n k).ports = s.ports ∧
    (State.bumpSat s f n k).dram = s.dram ∧
    (State.bumpSat s f n k).flash = s.flash ∧
    (State.bumpSat s f n k).integ = s.integ ∧
    (State.bumpSat s f n k).trace = s.trace ∧
    (State.bumpSat s f n k).free = s.free ∧
    (State.bumpSat s f n k).pending = s.pending := by
  first
  | (simp only [State.bumpSat]; simp; done)
  | (simp only [State.bumpSat]; (repeat' split) <;> simp; done)
  | (unfold State.bumpSat; (repeat' split) <;> simp; done)
  | (unfold State.bumpSat; repeat' apply And.intro
     all_goals (apply State.foldl_keep; intro s x; dsimp only; (repeat' split) <;> simp))

@[simp] theorem State.send_keeps (s : State) (o : Out) :
    (State.send s o).regs = s.regs ∧
    (State.send s o).captures = s.captures ∧
    (State.send s o).keyRegs = s.keyRegs ∧
    (State.send s o).time = s.time ∧
    (State.send s o).hub = s.hub ∧
    (State.send s o).rings = s.rings ∧
    (State.send s o).msix = s.msix ∧
    (State.send s o).cmds = s.cmds ∧
    (State.send s o).nextCmd = s.nextCmd ∧
    (State.send s o).rrNext = s.rrNext ∧
    (State.send s o).armedEnd = s.armedEnd ∧
    (State.send s o).keeper = s.keeper ∧
    (State.send s o).fw = s.fw ∧
    (State.send s o).start = s.start ∧
    (State.send s o).save = s.save ∧
    (State.send s o).prot = s.prot ∧
    (State.send s o).eng = s.eng ∧
    (State.send s o).near = s.near ∧
    (State.send s o).dur = s.dur ∧
    (State.send s o).ledger = s.ledger ∧
    (State.send s o).cerga = s.cerga ∧
    (State.send s o).roce = s.roce ∧
    (State.send s o).twin = s.twin ∧
    (State.send s o).shelf = s.shelf ∧
    (State.send s o).meter = s.meter ∧
    (State.send s o).mem = s.mem ∧
    (State.send s o).domain = s.domain ∧
    (State.send s o).crypt = s.crypt ∧
    (State.send s o).pace = s.pace ∧
    (State.send s o).ports = s.ports ∧
    (State.send s o).dram = s.dram ∧
    (State.send s o).flash = s.flash ∧
    (State.send s o).integ = s.integ ∧
    (State.send s o).trace = s.trace ∧
    (State.send s o).free = s.free ∧
    (State.send s o).pending = s.pending := by
  first
  | (simp only [State.send]; simp; done)
  | (simp only [State.send]; (repeat' split) <;> simp; done)
  | (unfold State.send; (repeat' split) <;> simp; done)
  | (unfold State.send; repeat' apply And.intro
     all_goals (apply State.foldl_keep; intro s x; dsimp only; (repeat' split) <;> simp))

@[simp] theorem State.note_keeps (s : State) (x : TraceItem) :
    (State.note s x).regs = s.regs ∧
    (State.note s x).captures = s.captures ∧
    (State.note s x).keyRegs = s.keyRegs ∧
    (State.note s x).time = s.time ∧
    (State.note s x).hub = s.hub ∧
    (State.note s x).rings = s.rings ∧
    (State.note s x).msix = s.msix ∧
    (State.note s x).cmds = s.cmds ∧
    (State.note s x).nextCmd = s.nextCmd ∧
    (State.note s x).rrNext = s.rrNext ∧
    (State.note s x).armedEnd = s.armedEnd ∧
    (State.note s x).keeper = s.keeper ∧
    (State.note s x).fw = s.fw ∧
    (State.note s x).start = s.start ∧
    (State.note s x).save = s.save ∧
    (State.note s x).prot = s.prot ∧
    (State.note s x).eng = s.eng ∧
    (State.note s x).near = s.near ∧
    (State.note s x).dur = s.dur ∧
    (State.note s x).ledger = s.ledger ∧
    (State.note s x).cerga = s.cerga ∧
    (State.note s x).roce = s.roce ∧
    (State.note s x).twin = s.twin ∧
    (State.note s x).shelf = s.shelf ∧
    (State.note s x).meter = s.meter ∧
    (State.note s x).mem = s.mem ∧
    (State.note s x).domain = s.domain ∧
    (State.note s x).crypt = s.crypt ∧
    (State.note s x).out = s.out ∧
    (State.note s x).pace = s.pace ∧
    (State.note s x).ports = s.ports ∧
    (State.note s x).dram = s.dram ∧
    (State.note s x).flash = s.flash ∧
    (State.note s x).integ = s.integ ∧
    (State.note s x).free = s.free ∧
    (State.note s x).pending = s.pending := by
  first
  | (simp only [State.note]; simp; done)
  | (simp only [State.note]; (repeat' split) <;> simp; done)
  | (unfold State.note; (repeat' split) <;> simp; done)
  | (unfold State.note; repeat' apply And.intro
     all_goals (apply State.foldl_keep; intro s x; dsimp only; (repeat' split) <;> simp))

@[simp] theorem State.queueLog_keeps (s : State) (r : LogRecord) :
    (State.queueLog s r).captures = s.captures ∧
    (State.queueLog s r).keyRegs = s.keyRegs ∧
    (State.queueLog s r).time = s.time ∧
    (State.queueLog s r).hub = s.hub ∧
    (State.queueLog s r).rings = s.rings ∧
    (State.queueLog s r).msix = s.msix ∧
    (State.queueLog s r).cmds = s.cmds ∧
    (State.queueLog s r).nextCmd = s.nextCmd ∧
    (State.queueLog s r).rrNext = s.rrNext ∧
    (State.queueLog s r).armedEnd = s.armedEnd ∧
    (State.queueLog s r).fw = s.fw ∧
    (State.queueLog s r).start = s.start ∧
    (State.queueLog s r).save = s.save ∧
    (State.queueLog s r).prot = s.prot ∧
    (State.queueLog s r).eng = s.eng ∧
    (State.queueLog s r).near = s.near ∧
    (State.queueLog s r).dur = s.dur ∧
    (State.queueLog s r).ledger = s.ledger ∧
    (State.queueLog s r).cerga = s.cerga ∧
    (State.queueLog s r).roce = s.roce ∧
    (State.queueLog s r).twin = s.twin ∧
    (State.queueLog s r).shelf = s.shelf ∧
    (State.queueLog s r).meter = s.meter ∧
    (State.queueLog s r).mem = s.mem ∧
    (State.queueLog s r).domain = s.domain ∧
    (State.queueLog s r).crypt = s.crypt ∧
    (State.queueLog s r).out = s.out ∧
    (State.queueLog s r).pace = s.pace ∧
    (State.queueLog s r).ports = s.ports ∧
    (State.queueLog s r).dram = s.dram ∧
    (State.queueLog s r).flash = s.flash ∧
    (State.queueLog s r).integ = s.integ ∧
    (State.queueLog s r).trace = s.trace ∧
    (State.queueLog s r).free = s.free ∧
    (State.queueLog s r).pending = s.pending := by
  first
  | (simp only [State.queueLog]; simp; done)
  | (simp only [State.queueLog]; (repeat' split) <;> simp; done)
  | (unfold State.queueLog; (repeat' split) <;> simp; done)
  | (unfold State.queueLog; repeat' apply And.intro
     all_goals (apply State.foldl_keep; intro s x; dsimp only; (repeat' split) <;> simp))

@[simp] theorem State.setCounter_keeps (s : State) (id v : Nat) :
    (State.setCounter s id v).captures = s.captures ∧
    (State.setCounter s id v).keyRegs = s.keyRegs ∧
    (State.setCounter s id v).time = s.time ∧
    (State.setCounter s id v).hub = s.hub ∧
    (State.setCounter s id v).rings = s.rings ∧
    (State.setCounter s id v).msix = s.msix ∧
    (State.setCounter s id v).cmds = s.cmds ∧
    (State.setCounter s id v).nextCmd = s.nextCmd ∧
    (State.setCounter s id v).rrNext = s.rrNext ∧
    (State.setCounter s id v).armedEnd = s.armedEnd ∧
    (State.setCounter s id v).fw = s.fw ∧
    (State.setCounter s id v).start = s.start ∧
    (State.setCounter s id v).save = s.save ∧
    (State.setCounter s id v).prot = s.prot ∧
    (State.setCounter s id v).eng = s.eng ∧
    (State.setCounter s id v).near = s.near ∧
    (State.setCounter s id v).dur = s.dur ∧
    (State.setCounter s id v).ledger = s.ledger ∧
    (State.setCounter s id v).cerga = s.cerga ∧
    (State.setCounter s id v).roce = s.roce ∧
    (State.setCounter s id v).twin = s.twin ∧
    (State.setCounter s id v).shelf = s.shelf ∧
    (State.setCounter s id v).meter = s.meter ∧
    (State.setCounter s id v).mem = s.mem ∧
    (State.setCounter s id v).domain = s.domain ∧
    (State.setCounter s id v).crypt = s.crypt ∧
    (State.setCounter s id v).out = s.out ∧
    (State.setCounter s id v).pace = s.pace ∧
    (State.setCounter s id v).ports = s.ports ∧
    (State.setCounter s id v).dram = s.dram ∧
    (State.setCounter s id v).flash = s.flash ∧
    (State.setCounter s id v).integ = s.integ ∧
    (State.setCounter s id v).trace = s.trace ∧
    (State.setCounter s id v).free = s.free ∧
    (State.setCounter s id v).pending = s.pending := by
  first
  | (simp only [State.setCounter]; simp; done)
  | (simp only [State.setCounter]; (repeat' split) <;> simp; done)
  | (unfold State.setCounter; (repeat' split) <;> simp; done)
  | (unfold State.setCounter; repeat' apply And.intro
     all_goals (apply State.foldl_keep; intro s x; dsimp only; (repeat' split) <;> simp))

@[simp] theorem State.keeperLog_keeps (s : State) (source sev detail : Nat) (core : Bool) :
    (State.keeperLog s source sev detail core).captures = s.captures ∧
    (State.keeperLog s source sev detail core).keyRegs = s.keyRegs ∧
    (State.keeperLog s source sev detail core).time = s.time ∧
    (State.keeperLog s source sev detail core).hub = s.hub ∧
    (State.keeperLog s source sev detail core).rings = s.rings ∧
    (State.keeperLog s source sev detail core).msix = s.msix ∧
    (State.keeperLog s source sev detail core).cmds = s.cmds ∧
    (State.keeperLog s source sev detail core).nextCmd = s.nextCmd ∧
    (State.keeperLog s source sev detail core).rrNext = s.rrNext ∧
    (State.keeperLog s source sev detail core).armedEnd = s.armedEnd ∧
    (State.keeperLog s source sev detail core).fw = s.fw ∧
    (State.keeperLog s source sev detail core).start = s.start ∧
    (State.keeperLog s source sev detail core).save = s.save ∧
    (State.keeperLog s source sev detail core).prot = s.prot ∧
    (State.keeperLog s source sev detail core).eng = s.eng ∧
    (State.keeperLog s source sev detail core).near = s.near ∧
    (State.keeperLog s source sev detail core).dur = s.dur ∧
    (State.keeperLog s source sev detail core).ledger = s.ledger ∧
    (State.keeperLog s source sev detail core).cerga = s.cerga ∧
    (State.keeperLog s source sev detail core).roce = s.roce ∧
    (State.keeperLog s source sev detail core).twin = s.twin ∧
    (State.keeperLog s source sev detail core).shelf = s.shelf ∧
    (State.keeperLog s source sev detail core).meter = s.meter ∧
    (State.keeperLog s source sev detail core).mem = s.mem ∧
    (State.keeperLog s source sev detail core).domain = s.domain ∧
    (State.keeperLog s source sev detail core).crypt = s.crypt ∧
    (State.keeperLog s source sev detail core).out = s.out ∧
    (State.keeperLog s source sev detail core).pace = s.pace ∧
    (State.keeperLog s source sev detail core).ports = s.ports ∧
    (State.keeperLog s source sev detail core).dram = s.dram ∧
    (State.keeperLog s source sev detail core).flash = s.flash ∧
    (State.keeperLog s source sev detail core).integ = s.integ ∧
    (State.keeperLog s source sev detail core).trace = s.trace ∧
    (State.keeperLog s source sev detail core).pending = s.pending := by
  first
  | (simp only [State.keeperLog]; simp; done)
  | (simp only [State.keeperLog]; (repeat' split) <;> simp; done)
  | (unfold State.keeperLog; (repeat' split) <;> simp; done)
  | (unfold State.keeperLog; repeat' apply And.intro
     all_goals (apply State.foldl_keep; intro s x; dsimp only; (repeat' split) <;> simp))

@[simp] theorem State.setRingUnit_keeps (s : State) (k : RingKind) (n : Nat) (u : RingUnit) :
    (State.setRingUnit s k n u).regs = s.regs ∧
    (State.setRingUnit s k n u).captures = s.captures ∧
    (State.setRingUnit s k n u).keyRegs = s.keyRegs ∧
    (State.setRingUnit s k n u).time = s.time ∧
    (State.setRingUnit s k n u).hub = s.hub ∧
    (State.setRingUnit s k n u).msix = s.msix ∧
    (State.setRingUnit s k n u).cmds = s.cmds ∧
    (State.setRingUnit s k n u).nextCmd = s.nextCmd ∧
    (State.setRingUnit s k n u).rrNext = s.rrNext ∧
    (State.setRingUnit s k n u).armedEnd = s.armedEnd ∧
    (State.setRingUnit s k n u).keeper = s.keeper ∧
    (State.setRingUnit s k n u).fw = s.fw ∧
    (State.setRingUnit s k n u).start = s.start ∧
    (State.setRingUnit s k n u).save = s.save ∧
    (State.setRingUnit s k n u).prot = s.prot ∧
    (State.setRingUnit s k n u).eng = s.eng ∧
    (State.setRingUnit s k n u).near = s.near ∧
    (State.setRingUnit s k n u).dur = s.dur ∧
    (State.setRingUnit s k n u).ledger = s.ledger ∧
    (State.setRingUnit s k n u).cerga = s.cerga ∧
    (State.setRingUnit s k n u).roce = s.roce ∧
    (State.setRingUnit s k n u).twin = s.twin ∧
    (State.setRingUnit s k n u).shelf = s.shelf ∧
    (State.setRingUnit s k n u).meter = s.meter ∧
    (State.setRingUnit s k n u).mem = s.mem ∧
    (State.setRingUnit s k n u).domain = s.domain ∧
    (State.setRingUnit s k n u).crypt = s.crypt ∧
    (State.setRingUnit s k n u).out = s.out ∧
    (State.setRingUnit s k n u).pace = s.pace ∧
    (State.setRingUnit s k n u).ports = s.ports ∧
    (State.setRingUnit s k n u).dram = s.dram ∧
    (State.setRingUnit s k n u).flash = s.flash ∧
    (State.setRingUnit s k n u).integ = s.integ ∧
    (State.setRingUnit s k n u).trace = s.trace ∧
    (State.setRingUnit s k n u).free = s.free ∧
    (State.setRingUnit s k n u).pending = s.pending := by
  first
  | (simp only [State.setRingUnit]; simp; done)
  | (simp only [State.setRingUnit]; (repeat' split) <;> simp; done)
  | (unfold State.setRingUnit; (repeat' split) <;> simp; done)
  | (unfold State.setRingUnit; repeat' apply And.intro
     all_goals (apply State.foldl_keep; intro s x; dsimp only; (repeat' split) <;> simp))

@[simp] theorem State.signalVector_keeps (s : State) (v ring : Nat) :
    (State.signalVector s v ring).regs = s.regs ∧
    (State.signalVector s v ring).captures = s.captures ∧
    (State.signalVector s v ring).keyRegs = s.keyRegs ∧
    (State.signalVector s v ring).time = s.time ∧
    (State.signalVector s v ring).hub = s.hub ∧
    (State.signalVector s v ring).rings = s.rings ∧
    (State.signalVector s v ring).cmds = s.cmds ∧
    (State.signalVector s v ring).nextCmd = s.nextCmd ∧
    (State.signalVector s v ring).rrNext = s.rrNext ∧
    (State.signalVector s v ring).armedEnd = s.armedEnd ∧
    (State.signalVector s v ring).keeper = s.keeper ∧
    (State.signalVector s v ring).fw = s.fw ∧
    (State.signalVector s v ring).start = s.start ∧
    (State.signalVector s v ring).save = s.save ∧
    (State.signalVector s v ring).prot = s.prot ∧
    (State.signalVector s v ring).eng = s.eng ∧
    (State.signalVector s v ring).near = s.near ∧
    (State.signalVector s v ring).dur = s.dur ∧
    (State.signalVector s v ring).ledger = s.ledger ∧
    (State.signalVector s v ring).cerga = s.cerga ∧
    (State.signalVector s v ring).roce = s.roce ∧
    (State.signalVector s v ring).twin = s.twin ∧
    (State.signalVector s v ring).shelf = s.shelf ∧
    (State.signalVector s v ring).meter = s.meter ∧
    (State.signalVector s v ring).mem = s.mem ∧
    (State.signalVector s v ring).domain = s.domain ∧
    (State.signalVector s v ring).crypt = s.crypt ∧
    (State.signalVector s v ring).pace = s.pace ∧
    (State.signalVector s v ring).ports = s.ports ∧
    (State.signalVector s v ring).dram = s.dram ∧
    (State.signalVector s v ring).flash = s.flash ∧
    (State.signalVector s v ring).integ = s.integ ∧
    (State.signalVector s v ring).trace = s.trace ∧
    (State.signalVector s v ring).free = s.free ∧
    (State.signalVector s v ring).pending = s.pending := by
  first
  | (simp only [State.signalVector]; simp; done)
  | (simp only [State.signalVector]; (repeat' split) <;> simp; done)
  | (unfold State.signalVector; (repeat' split) <;> simp; done)
  | (unfold State.signalVector; repeat' apply And.intro
     all_goals (apply State.foldl_keep; intro s x; dsimp only; (repeat' split) <;> simp))

@[simp] theorem State.signalRing_keeps (s : State) (k : RingKind) (n : Nat) :
    (State.signalRing s k n).regs = s.regs ∧
    (State.signalRing s k n).captures = s.captures ∧
    (State.signalRing s k n).keyRegs = s.keyRegs ∧
    (State.signalRing s k n).time = s.time ∧
    (State.signalRing s k n).hub = s.hub ∧
    (State.signalRing s k n).cmds = s.cmds ∧
    (State.signalRing s k n).nextCmd = s.nextCmd ∧
    (State.signalRing s k n).rrNext = s.rrNext ∧
    (State.signalRing s k n).armedEnd = s.armedEnd ∧
    (State.signalRing s k n).keeper = s.keeper ∧
    (State.signalRing s k n).fw = s.fw ∧
    (State.signalRing s k n).start = s.start ∧
    (State.signalRing s k n).save = s.save ∧
    (State.signalRing s k n).prot = s.prot ∧
    (State.signalRing s k n).eng = s.eng ∧
    (State.signalRing s k n).near = s.near ∧
    (State.signalRing s k n).dur = s.dur ∧
    (State.signalRing s k n).ledger = s.ledger ∧
    (State.signalRing s k n).cerga = s.cerga ∧
    (State.signalRing s k n).roce = s.roce ∧
    (State.signalRing s k n).twin = s.twin ∧
    (State.signalRing s k n).shelf = s.shelf ∧
    (State.signalRing s k n).meter = s.meter ∧
    (State.signalRing s k n).mem = s.mem ∧
    (State.signalRing s k n).domain = s.domain ∧
    (State.signalRing s k n).crypt = s.crypt ∧
    (State.signalRing s k n).pace = s.pace ∧
    (State.signalRing s k n).ports = s.ports ∧
    (State.signalRing s k n).dram = s.dram ∧
    (State.signalRing s k n).flash = s.flash ∧
    (State.signalRing s k n).integ = s.integ ∧
    (State.signalRing s k n).trace = s.trace ∧
    (State.signalRing s k n).pending = s.pending := by
  first
  | (simp only [State.signalRing]; simp; done)
  | (simp only [State.signalRing]; (repeat' split) <;> simp; done)
  | (unfold State.signalRing; (repeat' split) <;> simp; done)
  | (unfold State.signalRing; repeat' apply And.intro
     all_goals (apply State.foldl_keep; intro s x; dsimp only; (repeat' split) <;> simp))

@[simp] theorem State.ringWrite_keeps (s : State) (k : RingKind) (n : Nat) (quiet : Bool) (mk : Bool → RingEntry) :
    (State.ringWrite s k n quiet mk).captures = s.captures ∧
    (State.ringWrite s k n quiet mk).keyRegs = s.keyRegs ∧
    (State.ringWrite s k n quiet mk).time = s.time ∧
    (State.ringWrite s k n quiet mk).hub = s.hub ∧
    (State.ringWrite s k n quiet mk).cmds = s.cmds ∧
    (State.ringWrite s k n quiet mk).nextCmd = s.nextCmd ∧
    (State.ringWrite s k n quiet mk).rrNext = s.rrNext ∧
    (State.ringWrite s k n quiet mk).armedEnd = s.armedEnd ∧
    (State.ringWrite s k n quiet mk).keeper = s.keeper ∧
    (State.ringWrite s k n quiet mk).fw = s.fw ∧
    (State.ringWrite s k n quiet mk).start = s.start ∧
    (State.ringWrite s k n quiet mk).save = s.save ∧
    (State.ringWrite s k n quiet mk).prot = s.prot ∧
    (State.ringWrite s k n quiet mk).eng = s.eng ∧
    (State.ringWrite s k n quiet mk).near = s.near ∧
    (State.ringWrite s k n quiet mk).dur = s.dur ∧
    (State.ringWrite s k n quiet mk).ledger = s.ledger ∧
    (State.ringWrite s k n quiet mk).cerga = s.cerga ∧
    (State.ringWrite s k n quiet mk).roce = s.roce ∧
    (State.ringWrite s k n quiet mk).twin = s.twin ∧
    (State.ringWrite s k n quiet mk).shelf = s.shelf ∧
    (State.ringWrite s k n quiet mk).meter = s.meter ∧
    (State.ringWrite s k n quiet mk).mem = s.mem ∧
    (State.ringWrite s k n quiet mk).domain = s.domain ∧
    (State.ringWrite s k n quiet mk).crypt = s.crypt ∧
    (State.ringWrite s k n quiet mk).pace = s.pace ∧
    (State.ringWrite s k n quiet mk).ports = s.ports ∧
    (State.ringWrite s k n quiet mk).dram = s.dram ∧
    (State.ringWrite s k n quiet mk).flash = s.flash ∧
    (State.ringWrite s k n quiet mk).integ = s.integ ∧
    (State.ringWrite s k n quiet mk).trace = s.trace ∧
    (State.ringWrite s k n quiet mk).pending = s.pending := by
  first
  | (simp only [State.ringWrite]; simp; done)
  | (simp only [State.ringWrite]; (repeat' split) <;> simp; done)
  | (unfold State.ringWrite; (repeat' split) <;> simp; done)
  | (unfold State.ringWrite; repeat' apply And.intro
     all_goals (apply State.foldl_keep; intro s x; dsimp only; (repeat' split) <;> simp))

@[simp] theorem State.setTrack_keeps (s : State) (src : Nat) (t : SourceTrack) :
    (State.setTrack s src t).regs = s.regs ∧
    (State.setTrack s src t).captures = s.captures ∧
    (State.setTrack s src t).keyRegs = s.keyRegs ∧
    (State.setTrack s src t).time = s.time ∧
    (State.setTrack s src t).rings = s.rings ∧
    (State.setTrack s src t).msix = s.msix ∧
    (State.setTrack s src t).cmds = s.cmds ∧
    (State.setTrack s src t).nextCmd = s.nextCmd ∧
    (State.setTrack s src t).rrNext = s.rrNext ∧
    (State.setTrack s src t).armedEnd = s.armedEnd ∧
    (State.setTrack s src t).keeper = s.keeper ∧
    (State.setTrack s src t).fw = s.fw ∧
    (State.setTrack s src t).start = s.start ∧
    (State.setTrack s src t).save = s.save ∧
    (State.setTrack s src t).prot = s.prot ∧
    (State.setTrack s src t).eng = s.eng ∧
    (State.setTrack s src t).near = s.near ∧
    (State.setTrack s src t).dur = s.dur ∧
    (State.setTrack s src t).ledger = s.ledger ∧
    (State.setTrack s src t).cerga = s.cerga ∧
    (State.setTrack s src t).roce = s.roce ∧
    (State.setTrack s src t).twin = s.twin ∧
    (State.setTrack s src t).shelf = s.shelf ∧
    (State.setTrack s src t).meter = s.meter ∧
    (State.setTrack s src t).mem = s.mem ∧
    (State.setTrack s src t).domain = s.domain ∧
    (State.setTrack s src t).crypt = s.crypt ∧
    (State.setTrack s src t).out = s.out ∧
    (State.setTrack s src t).pace = s.pace ∧
    (State.setTrack s src t).ports = s.ports ∧
    (State.setTrack s src t).dram = s.dram ∧
    (State.setTrack s src t).flash = s.flash ∧
    (State.setTrack s src t).integ = s.integ ∧
    (State.setTrack s src t).trace = s.trace ∧
    (State.setTrack s src t).free = s.free ∧
    (State.setTrack s src t).pending = s.pending := by
  first
  | (simp only [State.setTrack]; simp; done)
  | (simp only [State.setTrack]; (repeat' split) <;> simp; done)
  | (unfold State.setTrack; (repeat' split) <;> simp; done)
  | (unfold State.setTrack; repeat' apply And.intro
     all_goals (apply State.foldl_keep; intro s x; dsimp only; (repeat' split) <;> simp))

@[simp] theorem State.writeEvent_keeps (s : State) (r : EventRecord) :
    (State.writeEvent s r).captures = s.captures ∧
    (State.writeEvent s r).keyRegs = s.keyRegs ∧
    (State.writeEvent s r).time = s.time ∧
    (State.writeEvent s r).hub = s.hub ∧
    (State.writeEvent s r).cmds = s.cmds ∧
    (State.writeEvent s r).nextCmd = s.nextCmd ∧
    (State.writeEvent s r).rrNext = s.rrNext ∧
    (State.writeEvent s r).armedEnd = s.armedEnd ∧
    (State.writeEvent s r).keeper = s.keeper ∧
    (State.writeEvent s r).fw = s.fw ∧
    (State.writeEvent s r).start = s.start ∧
    (State.writeEvent s r).save = s.save ∧
    (State.writeEvent s r).prot = s.prot ∧
    (State.writeEvent s r).eng = s.eng ∧
    (State.writeEvent s r).near = s.near ∧
    (State.writeEvent s r).dur = s.dur ∧
    (State.writeEvent s r).ledger = s.ledger ∧
    (State.writeEvent s r).cerga = s.cerga ∧
    (State.writeEvent s r).roce = s.roce ∧
    (State.writeEvent s r).twin = s.twin ∧
    (State.writeEvent s r).shelf = s.shelf ∧
    (State.writeEvent s r).meter = s.meter ∧
    (State.writeEvent s r).mem = s.mem ∧
    (State.writeEvent s r).domain = s.domain ∧
    (State.writeEvent s r).crypt = s.crypt ∧
    (State.writeEvent s r).pace = s.pace ∧
    (State.writeEvent s r).ports = s.ports ∧
    (State.writeEvent s r).dram = s.dram ∧
    (State.writeEvent s r).flash = s.flash ∧
    (State.writeEvent s r).integ = s.integ ∧
    (State.writeEvent s r).trace = s.trace ∧
    (State.writeEvent s r).pending = s.pending := by
  first
  | (simp only [State.writeEvent]; simp; done)
  | (simp only [State.writeEvent]; (repeat' split) <;> simp; done)
  | (unfold State.writeEvent; (repeat' split) <;> simp; done)
  | (unfold State.writeEvent; repeat' apply And.intro
     all_goals (apply State.foldl_keep; intro s x; dsimp only; (repeat' split) <;> simp))

@[simp] theorem State.holdEvent_keeps (s : State) (r : EventRecord) :
    (State.holdEvent s r).captures = s.captures ∧
    (State.holdEvent s r).keyRegs = s.keyRegs ∧
    (State.holdEvent s r).time = s.time ∧
    (State.holdEvent s r).rings = s.rings ∧
    (State.holdEvent s r).msix = s.msix ∧
    (State.holdEvent s r).cmds = s.cmds ∧
    (State.holdEvent s r).nextCmd = s.nextCmd ∧
    (State.holdEvent s r).rrNext = s.rrNext ∧
    (State.holdEvent s r).armedEnd = s.armedEnd ∧
    (State.holdEvent s r).keeper = s.keeper ∧
    (State.holdEvent s r).fw = s.fw ∧
    (State.holdEvent s r).start = s.start ∧
    (State.holdEvent s r).save = s.save ∧
    (State.holdEvent s r).prot = s.prot ∧
    (State.holdEvent s r).eng = s.eng ∧
    (State.holdEvent s r).near = s.near ∧
    (State.holdEvent s r).dur = s.dur ∧
    (State.holdEvent s r).ledger = s.ledger ∧
    (State.holdEvent s r).cerga = s.cerga ∧
    (State.holdEvent s r).roce = s.roce ∧
    (State.holdEvent s r).twin = s.twin ∧
    (State.holdEvent s r).shelf = s.shelf ∧
    (State.holdEvent s r).meter = s.meter ∧
    (State.holdEvent s r).mem = s.mem ∧
    (State.holdEvent s r).domain = s.domain ∧
    (State.holdEvent s r).crypt = s.crypt ∧
    (State.holdEvent s r).out = s.out ∧
    (State.holdEvent s r).pace = s.pace ∧
    (State.holdEvent s r).ports = s.ports ∧
    (State.holdEvent s r).dram = s.dram ∧
    (State.holdEvent s r).flash = s.flash ∧
    (State.holdEvent s r).integ = s.integ ∧
    (State.holdEvent s r).trace = s.trace ∧
    (State.holdEvent s r).free = s.free ∧
    (State.holdEvent s r).pending = s.pending := by
  first
  | (simp only [State.holdEvent]; simp; done)
  | (simp only [State.holdEvent]; (repeat' split) <;> simp; done)
  | (unfold State.holdEvent; (repeat' split) <;> simp; done)
  | (unfold State.holdEvent; repeat' apply And.intro
     all_goals (apply State.foldl_keep; intro s x; dsimp only; (repeat' split) <;> simp))

@[simp] theorem State.drainHub_keeps (s : State) :
    (State.drainHub s).captures = s.captures ∧
    (State.drainHub s).keyRegs = s.keyRegs ∧
    (State.drainHub s).time = s.time ∧
    (State.drainHub s).cmds = s.cmds ∧
    (State.drainHub s).nextCmd = s.nextCmd ∧
    (State.drainHub s).rrNext = s.rrNext ∧
    (State.drainHub s).armedEnd = s.armedEnd ∧
    (State.drainHub s).keeper = s.keeper ∧
    (State.drainHub s).fw = s.fw ∧
    (State.drainHub s).start = s.start ∧
    (State.drainHub s).save = s.save ∧
    (State.drainHub s).prot = s.prot ∧
    (State.drainHub s).eng = s.eng ∧
    (State.drainHub s).near = s.near ∧
    (State.drainHub s).dur = s.dur ∧
    (State.drainHub s).ledger = s.ledger ∧
    (State.drainHub s).cerga = s.cerga ∧
    (State.drainHub s).roce = s.roce ∧
    (State.drainHub s).twin = s.twin ∧
    (State.drainHub s).shelf = s.shelf ∧
    (State.drainHub s).meter = s.meter ∧
    (State.drainHub s).mem = s.mem ∧
    (State.drainHub s).domain = s.domain ∧
    (State.drainHub s).crypt = s.crypt ∧
    (State.drainHub s).pace = s.pace ∧
    (State.drainHub s).ports = s.ports ∧
    (State.drainHub s).dram = s.dram ∧
    (State.drainHub s).flash = s.flash ∧
    (State.drainHub s).integ = s.integ ∧
    (State.drainHub s).trace = s.trace ∧
    (State.drainHub s).pending = s.pending := by
  first
  | (simp only [State.drainHub]; simp; done)
  | (simp only [State.drainHub]; (repeat' split) <;> simp; done)
  | (unfold State.drainHub; (repeat' split) <;> simp; done)
  | (unfold State.drainHub; repeat' apply And.intro
     all_goals (apply State.foldl_keep; intro s x; dsimp only; (repeat' split) <;> simp))

@[simp] theorem State.closeEvent_keeps (s : State) (r : EventRecord) :
    (State.closeEvent s r).captures = s.captures ∧
    (State.closeEvent s r).keyRegs = s.keyRegs ∧
    (State.closeEvent s r).time = s.time ∧
    (State.closeEvent s r).cmds = s.cmds ∧
    (State.closeEvent s r).nextCmd = s.nextCmd ∧
    (State.closeEvent s r).rrNext = s.rrNext ∧
    (State.closeEvent s r).armedEnd = s.armedEnd ∧
    (State.closeEvent s r).fw = s.fw ∧
    (State.closeEvent s r).start = s.start ∧
    (State.closeEvent s r).save = s.save ∧
    (State.closeEvent s r).prot = s.prot ∧
    (State.closeEvent s r).eng = s.eng ∧
    (State.closeEvent s r).near = s.near ∧
    (State.closeEvent s r).dur = s.dur ∧
    (State.closeEvent s r).ledger = s.ledger ∧
    (State.closeEvent s r).cerga = s.cerga ∧
    (State.closeEvent s r).roce = s.roce ∧
    (State.closeEvent s r).twin = s.twin ∧
    (State.closeEvent s r).shelf = s.shelf ∧
    (State.closeEvent s r).meter = s.meter ∧
    (State.closeEvent s r).mem = s.mem ∧
    (State.closeEvent s r).domain = s.domain ∧
    (State.closeEvent s r).crypt = s.crypt ∧
    (State.closeEvent s r).pace = s.pace ∧
    (State.closeEvent s r).ports = s.ports ∧
    (State.closeEvent s r).dram = s.dram ∧
    (State.closeEvent s r).flash = s.flash ∧
    (State.closeEvent s r).integ = s.integ ∧
    (State.closeEvent s r).trace = s.trace ∧
    (State.closeEvent s r).pending = s.pending := by
  first
  | (simp only [State.closeEvent]; simp; done)
  | (simp only [State.closeEvent]; (repeat' split) <;> simp; done)
  | (unfold State.closeEvent; (repeat' split) <;> simp; done)
  | (unfold State.closeEvent; repeat' apply And.intro
     all_goals (apply State.foldl_keep; intro s x; dsimp only; (repeat' split) <;> simp))

@[simp] theorem State.closePending_keeps (s : State) (src : Nat) :
    (State.closePending s src).captures = s.captures ∧
    (State.closePending s src).keyRegs = s.keyRegs ∧
    (State.closePending s src).time = s.time ∧
    (State.closePending s src).cmds = s.cmds ∧
    (State.closePending s src).nextCmd = s.nextCmd ∧
    (State.closePending s src).rrNext = s.rrNext ∧
    (State.closePending s src).armedEnd = s.armedEnd ∧
    (State.closePending s src).fw = s.fw ∧
    (State.closePending s src).start = s.start ∧
    (State.closePending s src).save = s.save ∧
    (State.closePending s src).prot = s.prot ∧
    (State.closePending s src).eng = s.eng ∧
    (State.closePending s src).near = s.near ∧
    (State.closePending s src).dur = s.dur ∧
    (State.closePending s src).ledger = s.ledger ∧
    (State.closePending s src).cerga = s.cerga ∧
    (State.closePending s src).roce = s.roce ∧
    (State.closePending s src).twin = s.twin ∧
    (State.closePending s src).shelf = s.shelf ∧
    (State.closePending s src).meter = s.meter ∧
    (State.closePending s src).mem = s.mem ∧
    (State.closePending s src).domain = s.domain ∧
    (State.closePending s src).crypt = s.crypt ∧
    (State.closePending s src).pace = s.pace ∧
    (State.closePending s src).ports = s.ports ∧
    (State.closePending s src).dram = s.dram ∧
    (State.closePending s src).flash = s.flash ∧
    (State.closePending s src).integ = s.integ ∧
    (State.closePending s src).trace = s.trace ∧
    (State.closePending s src).pending = s.pending := by
  first
  | (simp only [State.closePending]; simp; done)
  | (simp only [State.closePending]; (repeat' split) <;> simp; done)
  | (unfold State.closePending; (repeat' split) <;> simp; done)
  | (unfold State.closePending; repeat' apply And.intro
     all_goals (apply State.foldl_keep; intro s x; dsimp only; (repeat' split) <;> simp))

@[simp] theorem State.closeFold_keeps (s : State) (src : Nat) :
    (State.closeFold s src).captures = s.captures ∧
    (State.closeFold s src).keyRegs = s.keyRegs ∧
    (State.closeFold s src).time = s.time ∧
    (State.closeFold s src).cmds = s.cmds ∧
    (State.closeFold s src).nextCmd = s.nextCmd ∧
    (State.closeFold s src).rrNext = s.rrNext ∧
    (State.closeFold s src).armedEnd = s.armedEnd ∧
    (State.closeFold s src).fw = s.fw ∧
    (State.closeFold s src).start = s.start ∧
    (State.closeFold s src).save = s.save ∧
    (State.closeFold s src).prot = s.prot ∧
    (State.closeFold s src).eng = s.eng ∧
    (State.closeFold s src).near = s.near ∧
    (State.closeFold s src).dur = s.dur ∧
    (State.closeFold s src).ledger = s.ledger ∧
    (State.closeFold s src).cerga = s.cerga ∧
    (State.closeFold s src).roce = s.roce ∧
    (State.closeFold s src).twin = s.twin ∧
    (State.closeFold s src).shelf = s.shelf ∧
    (State.closeFold s src).meter = s.meter ∧
    (State.closeFold s src).mem = s.mem ∧
    (State.closeFold s src).domain = s.domain ∧
    (State.closeFold s src).crypt = s.crypt ∧
    (State.closeFold s src).pace = s.pace ∧
    (State.closeFold s src).ports = s.ports ∧
    (State.closeFold s src).dram = s.dram ∧
    (State.closeFold s src).flash = s.flash ∧
    (State.closeFold s src).integ = s.integ ∧
    (State.closeFold s src).trace = s.trace ∧
    (State.closeFold s src).pending = s.pending := by
  first
  | (simp only [State.closeFold]; simp; done)
  | (simp only [State.closeFold]; (repeat' split) <;> simp; done)
  | (unfold State.closeFold; (repeat' split) <;> simp; done)
  | (unfold State.closeFold; repeat' apply And.intro
     all_goals (apply State.foldl_keep; intro s x; dsimp only; (repeat' split) <;> simp))

@[simp] theorem State.closeSecond_keeps (s : State) (src : Nat) :
    (State.closeSecond s src).captures = s.captures ∧
    (State.closeSecond s src).keyRegs = s.keyRegs ∧
    (State.closeSecond s src).time = s.time ∧
    (State.closeSecond s src).cmds = s.cmds ∧
    (State.closeSecond s src).nextCmd = s.nextCmd ∧
    (State.closeSecond s src).rrNext = s.rrNext ∧
    (State.closeSecond s src).armedEnd = s.armedEnd ∧
    (State.closeSecond s src).fw = s.fw ∧
    (State.closeSecond s src).start = s.start ∧
    (State.closeSecond s src).save = s.save ∧
    (State.closeSecond s src).prot = s.prot ∧
    (State.closeSecond s src).eng = s.eng ∧
    (State.closeSecond s src).near = s.near ∧
    (State.closeSecond s src).dur = s.dur ∧
    (State.closeSecond s src).ledger = s.ledger ∧
    (State.closeSecond s src).cerga = s.cerga ∧
    (State.closeSecond s src).roce = s.roce ∧
    (State.closeSecond s src).twin = s.twin ∧
    (State.closeSecond s src).shelf = s.shelf ∧
    (State.closeSecond s src).meter = s.meter ∧
    (State.closeSecond s src).mem = s.mem ∧
    (State.closeSecond s src).domain = s.domain ∧
    (State.closeSecond s src).crypt = s.crypt ∧
    (State.closeSecond s src).pace = s.pace ∧
    (State.closeSecond s src).ports = s.ports ∧
    (State.closeSecond s src).dram = s.dram ∧
    (State.closeSecond s src).flash = s.flash ∧
    (State.closeSecond s src).integ = s.integ ∧
    (State.closeSecond s src).trace = s.trace ∧
    (State.closeSecond s src).pending = s.pending := by
  first
  | (simp only [State.closeSecond]; simp; done)
  | (simp only [State.closeSecond]; (repeat' split) <;> simp; done)
  | (unfold State.closeSecond; (repeat' split) <;> simp; done)
  | (unfold State.closeSecond; repeat' apply And.intro
     all_goals (apply State.foldl_keep; intro s x; dsimp only; (repeat' split) <;> simp))

@[simp] theorem State.hubOccur_keeps (s : State) (src detail : Nat) (alt keeper cmd : Bool) :
    (State.hubOccur s src detail alt keeper cmd).captures = s.captures ∧
    (State.hubOccur s src detail alt keeper cmd).keyRegs = s.keyRegs ∧
    (State.hubOccur s src detail alt keeper cmd).time = s.time ∧
    (State.hubOccur s src detail alt keeper cmd).cmds = s.cmds ∧
    (State.hubOccur s src detail alt keeper cmd).nextCmd = s.nextCmd ∧
    (State.hubOccur s src detail alt keeper cmd).rrNext = s.rrNext ∧
    (State.hubOccur s src detail alt keeper cmd).armedEnd = s.armedEnd ∧
    (State.hubOccur s src detail alt keeper cmd).fw = s.fw ∧
    (State.hubOccur s src detail alt keeper cmd).start = s.start ∧
    (State.hubOccur s src detail alt keeper cmd).save = s.save ∧
    (State.hubOccur s src detail alt keeper cmd).prot = s.prot ∧
    (State.hubOccur s src detail alt keeper cmd).eng = s.eng ∧
    (State.hubOccur s src detail alt keeper cmd).near = s.near ∧
    (State.hubOccur s src detail alt keeper cmd).dur = s.dur ∧
    (State.hubOccur s src detail alt keeper cmd).ledger = s.ledger ∧
    (State.hubOccur s src detail alt keeper cmd).cerga = s.cerga ∧
    (State.hubOccur s src detail alt keeper cmd).roce = s.roce ∧
    (State.hubOccur s src detail alt keeper cmd).twin = s.twin ∧
    (State.hubOccur s src detail alt keeper cmd).shelf = s.shelf ∧
    (State.hubOccur s src detail alt keeper cmd).meter = s.meter ∧
    (State.hubOccur s src detail alt keeper cmd).mem = s.mem ∧
    (State.hubOccur s src detail alt keeper cmd).domain = s.domain ∧
    (State.hubOccur s src detail alt keeper cmd).crypt = s.crypt ∧
    (State.hubOccur s src detail alt keeper cmd).pace = s.pace ∧
    (State.hubOccur s src detail alt keeper cmd).ports = s.ports ∧
    (State.hubOccur s src detail alt keeper cmd).dram = s.dram ∧
    (State.hubOccur s src detail alt keeper cmd).flash = s.flash ∧
    (State.hubOccur s src detail alt keeper cmd).integ = s.integ ∧
    (State.hubOccur s src detail alt keeper cmd).trace = s.trace ∧
    (State.hubOccur s src detail alt keeper cmd).pending = s.pending := by
  first
  | (simp only [State.hubOccur]; simp; done)
  | (simp only [State.hubOccur]; (repeat' split) <;> simp; done)
  | (unfold State.hubOccur; (repeat' split) <;> simp; done)
  | (unfold State.hubOccur; repeat' apply And.intro
     all_goals (apply State.foldl_keep; intro s x; dsimp only; (repeat' split) <;> simp))

@[simp] theorem State.occur_keeps (s : State) (src detail : Nat) (alt keeper cmd : Bool) :
    (State.occur s src detail alt keeper cmd).captures = s.captures ∧
    (State.occur s src detail alt keeper cmd).keyRegs = s.keyRegs ∧
    (State.occur s src detail alt keeper cmd).time = s.time ∧
    (State.occur s src detail alt keeper cmd).cmds = s.cmds ∧
    (State.occur s src detail alt keeper cmd).nextCmd = s.nextCmd ∧
    (State.occur s src detail alt keeper cmd).rrNext = s.rrNext ∧
    (State.occur s src detail alt keeper cmd).armedEnd = s.armedEnd ∧
    (State.occur s src detail alt keeper cmd).fw = s.fw ∧
    (State.occur s src detail alt keeper cmd).start = s.start ∧
    (State.occur s src detail alt keeper cmd).save = s.save ∧
    (State.occur s src detail alt keeper cmd).prot = s.prot ∧
    (State.occur s src detail alt keeper cmd).eng = s.eng ∧
    (State.occur s src detail alt keeper cmd).near = s.near ∧
    (State.occur s src detail alt keeper cmd).dur = s.dur ∧
    (State.occur s src detail alt keeper cmd).ledger = s.ledger ∧
    (State.occur s src detail alt keeper cmd).cerga = s.cerga ∧
    (State.occur s src detail alt keeper cmd).roce = s.roce ∧
    (State.occur s src detail alt keeper cmd).twin = s.twin ∧
    (State.occur s src detail alt keeper cmd).shelf = s.shelf ∧
    (State.occur s src detail alt keeper cmd).meter = s.meter ∧
    (State.occur s src detail alt keeper cmd).mem = s.mem ∧
    (State.occur s src detail alt keeper cmd).domain = s.domain ∧
    (State.occur s src detail alt keeper cmd).crypt = s.crypt ∧
    (State.occur s src detail alt keeper cmd).pace = s.pace ∧
    (State.occur s src detail alt keeper cmd).ports = s.ports ∧
    (State.occur s src detail alt keeper cmd).dram = s.dram ∧
    (State.occur s src detail alt keeper cmd).flash = s.flash ∧
    (State.occur s src detail alt keeper cmd).integ = s.integ ∧
    (State.occur s src detail alt keeper cmd).trace = s.trace ∧
    (State.occur s src detail alt keeper cmd).pending = s.pending := by
  first
  | (simp only [State.occur]; simp; done)
  | (simp only [State.occur]; (repeat' split) <;> simp; done)
  | (unfold State.occur; (repeat' split) <;> simp; done)
  | (unfold State.occur; repeat' apply And.intro
     all_goals (apply State.foldl_keep; intro s x; dsimp only; (repeat' split) <;> simp))

@[simp] theorem State.raise_keeps (s : State) (src : Nat) (vs : List (Nat × Nat)) :
    (State.raise s src vs).captures = s.captures ∧
    (State.raise s src vs).keyRegs = s.keyRegs ∧
    (State.raise s src vs).time = s.time ∧
    (State.raise s src vs).cmds = s.cmds ∧
    (State.raise s src vs).nextCmd = s.nextCmd ∧
    (State.raise s src vs).rrNext = s.rrNext ∧
    (State.raise s src vs).armedEnd = s.armedEnd ∧
    (State.raise s src vs).fw = s.fw ∧
    (State.raise s src vs).start = s.start ∧
    (State.raise s src vs).save = s.save ∧
    (State.raise s src vs).prot = s.prot ∧
    (State.raise s src vs).eng = s.eng ∧
    (State.raise s src vs).near = s.near ∧
    (State.raise s src vs).dur = s.dur ∧
    (State.raise s src vs).ledger = s.ledger ∧
    (State.raise s src vs).cerga = s.cerga ∧
    (State.raise s src vs).roce = s.roce ∧
    (State.raise s src vs).twin = s.twin ∧
    (State.raise s src vs).shelf = s.shelf ∧
    (State.raise s src vs).meter = s.meter ∧
    (State.raise s src vs).mem = s.mem ∧
    (State.raise s src vs).domain = s.domain ∧
    (State.raise s src vs).crypt = s.crypt ∧
    (State.raise s src vs).pace = s.pace ∧
    (State.raise s src vs).ports = s.ports ∧
    (State.raise s src vs).dram = s.dram ∧
    (State.raise s src vs).flash = s.flash ∧
    (State.raise s src vs).integ = s.integ ∧
    (State.raise s src vs).trace = s.trace ∧
    (State.raise s src vs).pending = s.pending := by
  first
  | (simp only [State.raise]; simp; done)
  | (simp only [State.raise]; (repeat' split) <;> simp; done)
  | (unfold State.raise; (repeat' split) <;> simp; done)
  | (unfold State.raise; repeat' apply And.intro
     all_goals (apply State.foldl_keep; intro s x; dsimp only; (repeat' split) <;> simp))

@[simp] theorem State.raiseKeeper_keeps (s : State) (src : Nat) (vs : List (Nat × Nat)) :
    (State.raiseKeeper s src vs).captures = s.captures ∧
    (State.raiseKeeper s src vs).keyRegs = s.keyRegs ∧
    (State.raiseKeeper s src vs).time = s.time ∧
    (State.raiseKeeper s src vs).cmds = s.cmds ∧
    (State.raiseKeeper s src vs).nextCmd = s.nextCmd ∧
    (State.raiseKeeper s src vs).rrNext = s.rrNext ∧
    (State.raiseKeeper s src vs).armedEnd = s.armedEnd ∧
    (State.raiseKeeper s src vs).fw = s.fw ∧
    (State.raiseKeeper s src vs).start = s.start ∧
    (State.raiseKeeper s src vs).save = s.save ∧
    (State.raiseKeeper s src vs).prot = s.prot ∧
    (State.raiseKeeper s src vs).eng = s.eng ∧
    (State.raiseKeeper s src vs).near = s.near ∧
    (State.raiseKeeper s src vs).dur = s.dur ∧
    (State.raiseKeeper s src vs).ledger = s.ledger ∧
    (State.raiseKeeper s src vs).cerga = s.cerga ∧
    (State.raiseKeeper s src vs).roce = s.roce ∧
    (State.raiseKeeper s src vs).twin = s.twin ∧
    (State.raiseKeeper s src vs).shelf = s.shelf ∧
    (State.raiseKeeper s src vs).meter = s.meter ∧
    (State.raiseKeeper s src vs).mem = s.mem ∧
    (State.raiseKeeper s src vs).domain = s.domain ∧
    (State.raiseKeeper s src vs).crypt = s.crypt ∧
    (State.raiseKeeper s src vs).pace = s.pace ∧
    (State.raiseKeeper s src vs).ports = s.ports ∧
    (State.raiseKeeper s src vs).dram = s.dram ∧
    (State.raiseKeeper s src vs).flash = s.flash ∧
    (State.raiseKeeper s src vs).integ = s.integ ∧
    (State.raiseKeeper s src vs).trace = s.trace ∧
    (State.raiseKeeper s src vs).pending = s.pending := by
  first
  | (simp only [State.raiseKeeper]; simp; done)
  | (simp only [State.raiseKeeper]; (repeat' split) <;> simp; done)
  | (unfold State.raiseKeeper; (repeat' split) <;> simp; done)
  | (unfold State.raiseKeeper; repeat' apply And.intro
     all_goals (apply State.foldl_keep; intro s x; dsimp only; (repeat' split) <;> simp))

@[simp] theorem State.raiseTag_keeps (s : State) (src : Nat) (vs : List (Nat × Nat)) (tag : Nat) :
    (State.raiseTag s src vs tag).captures = s.captures ∧
    (State.raiseTag s src vs tag).keyRegs = s.keyRegs ∧
    (State.raiseTag s src vs tag).time = s.time ∧
    (State.raiseTag s src vs tag).cmds = s.cmds ∧
    (State.raiseTag s src vs tag).nextCmd = s.nextCmd ∧
    (State.raiseTag s src vs tag).rrNext = s.rrNext ∧
    (State.raiseTag s src vs tag).armedEnd = s.armedEnd ∧
    (State.raiseTag s src vs tag).fw = s.fw ∧
    (State.raiseTag s src vs tag).start = s.start ∧
    (State.raiseTag s src vs tag).save = s.save ∧
    (State.raiseTag s src vs tag).prot = s.prot ∧
    (State.raiseTag s src vs tag).eng = s.eng ∧
    (State.raiseTag s src vs tag).near = s.near ∧
    (State.raiseTag s src vs tag).dur = s.dur ∧
    (State.raiseTag s src vs tag).ledger = s.ledger ∧
    (State.raiseTag s src vs tag).cerga = s.cerga ∧
    (State.raiseTag s src vs tag).roce = s.roce ∧
    (State.raiseTag s src vs tag).twin = s.twin ∧
    (State.raiseTag s src vs tag).shelf = s.shelf ∧
    (State.raiseTag s src vs tag).meter = s.meter ∧
    (State.raiseTag s src vs tag).mem = s.mem ∧
    (State.raiseTag s src vs tag).domain = s.domain ∧
    (State.raiseTag s src vs tag).crypt = s.crypt ∧
    (State.raiseTag s src vs tag).pace = s.pace ∧
    (State.raiseTag s src vs tag).ports = s.ports ∧
    (State.raiseTag s src vs tag).dram = s.dram ∧
    (State.raiseTag s src vs tag).flash = s.flash ∧
    (State.raiseTag s src vs tag).integ = s.integ ∧
    (State.raiseTag s src vs tag).trace = s.trace ∧
    (State.raiseTag s src vs tag).pending = s.pending := by
  first
  | (simp only [State.raiseTag]; simp; done)
  | (simp only [State.raiseTag]; (repeat' split) <;> simp; done)
  | (unfold State.raiseTag; (repeat' split) <;> simp; done)
  | (unfold State.raiseTag; repeat' apply And.intro
     all_goals (apply State.foldl_keep; intro s x; dsimp only; (repeat' split) <;> simp))

@[simp] theorem State.updCmd_keeps (s : State) (id : Nat) (f : Cmd → Cmd) :
    (State.updCmd s id f).regs = s.regs ∧
    (State.updCmd s id f).captures = s.captures ∧
    (State.updCmd s id f).keyRegs = s.keyRegs ∧
    (State.updCmd s id f).time = s.time ∧
    (State.updCmd s id f).hub = s.hub ∧
    (State.updCmd s id f).rings = s.rings ∧
    (State.updCmd s id f).msix = s.msix ∧
    (State.updCmd s id f).nextCmd = s.nextCmd ∧
    (State.updCmd s id f).rrNext = s.rrNext ∧
    (State.updCmd s id f).armedEnd = s.armedEnd ∧
    (State.updCmd s id f).keeper = s.keeper ∧
    (State.updCmd s id f).fw = s.fw ∧
    (State.updCmd s id f).start = s.start ∧
    (State.updCmd s id f).save = s.save ∧
    (State.updCmd s id f).prot = s.prot ∧
    (State.updCmd s id f).eng = s.eng ∧
    (State.updCmd s id f).near = s.near ∧
    (State.updCmd s id f).dur = s.dur ∧
    (State.updCmd s id f).ledger = s.ledger ∧
    (State.updCmd s id f).cerga = s.cerga ∧
    (State.updCmd s id f).roce = s.roce ∧
    (State.updCmd s id f).twin = s.twin ∧
    (State.updCmd s id f).shelf = s.shelf ∧
    (State.updCmd s id f).meter = s.meter ∧
    (State.updCmd s id f).mem = s.mem ∧
    (State.updCmd s id f).domain = s.domain ∧
    (State.updCmd s id f).crypt = s.crypt ∧
    (State.updCmd s id f).out = s.out ∧
    (State.updCmd s id f).pace = s.pace ∧
    (State.updCmd s id f).ports = s.ports ∧
    (State.updCmd s id f).dram = s.dram ∧
    (State.updCmd s id f).flash = s.flash ∧
    (State.updCmd s id f).integ = s.integ ∧
    (State.updCmd s id f).trace = s.trace ∧
    (State.updCmd s id f).free = s.free ∧
    (State.updCmd s id f).pending = s.pending := by
  first
  | (simp only [State.updCmd]; simp; done)
  | (simp only [State.updCmd]; (repeat' split) <;> simp; done)
  | (unfold State.updCmd; (repeat' split) <;> simp; done)
  | (unfold State.updCmd; repeat' apply And.intro
     all_goals (apply State.foldl_keep; intro s x; dsimp only; (repeat' split) <;> simp))

@[simp] theorem State.startGrace_keeps (s : State) (cmd : Nat) :
    (State.startGrace s cmd).regs = s.regs ∧
    (State.startGrace s cmd).captures = s.captures ∧
    (State.startGrace s cmd).keyRegs = s.keyRegs ∧
    (State.startGrace s cmd).time = s.time ∧
    (State.startGrace s cmd).hub = s.hub ∧
    (State.startGrace s cmd).rings = s.rings ∧
    (State.startGrace s cmd).msix = s.msix ∧
    (State.startGrace s cmd).cmds = s.cmds ∧
    (State.startGrace s cmd).nextCmd = s.nextCmd ∧
    (State.startGrace s cmd).rrNext = s.rrNext ∧
    (State.startGrace s cmd).armedEnd = s.armedEnd ∧
    (State.startGrace s cmd).keeper = s.keeper ∧
    (State.startGrace s cmd).fw = s.fw ∧
    (State.startGrace s cmd).start = s.start ∧
    (State.startGrace s cmd).save = s.save ∧
    (State.startGrace s cmd).eng = s.eng ∧
    (State.startGrace s cmd).near = s.near ∧
    (State.startGrace s cmd).dur = s.dur ∧
    (State.startGrace s cmd).ledger = s.ledger ∧
    (State.startGrace s cmd).cerga = s.cerga ∧
    (State.startGrace s cmd).roce = s.roce ∧
    (State.startGrace s cmd).twin = s.twin ∧
    (State.startGrace s cmd).shelf = s.shelf ∧
    (State.startGrace s cmd).meter = s.meter ∧
    (State.startGrace s cmd).mem = s.mem ∧
    (State.startGrace s cmd).domain = s.domain ∧
    (State.startGrace s cmd).crypt = s.crypt ∧
    (State.startGrace s cmd).out = s.out ∧
    (State.startGrace s cmd).pace = s.pace ∧
    (State.startGrace s cmd).ports = s.ports ∧
    (State.startGrace s cmd).dram = s.dram ∧
    (State.startGrace s cmd).flash = s.flash ∧
    (State.startGrace s cmd).integ = s.integ ∧
    (State.startGrace s cmd).trace = s.trace ∧
    (State.startGrace s cmd).free = s.free ∧
    (State.startGrace s cmd).pending = s.pending := by
  first
  | (simp only [State.startGrace]; simp; done)
  | (simp only [State.startGrace]; (repeat' split) <;> simp; done)
  | (unfold State.startGrace; (repeat' split) <;> simp; done)
  | (unfold State.startGrace; repeat' apply And.intro
     all_goals (apply State.foldl_keep; intro s x; dsimp only; (repeat' split) <;> simp))

@[simp] theorem State.endCmd_keeps (s : State) (id status detail result : Nat) :
    (State.endCmd s id status detail result).captures = s.captures ∧
    (State.endCmd s id status detail result).keyRegs = s.keyRegs ∧
    (State.endCmd s id status detail result).time = s.time ∧
    (State.endCmd s id status detail result).nextCmd = s.nextCmd ∧
    (State.endCmd s id status detail result).rrNext = s.rrNext ∧
    (State.endCmd s id status detail result).armedEnd = s.armedEnd ∧
    (State.endCmd s id status detail result).fw = s.fw ∧
    (State.endCmd s id status detail result).start = s.start ∧
    (State.endCmd s id status detail result).save = s.save ∧
    (State.endCmd s id status detail result).eng = s.eng ∧
    (State.endCmd s id status detail result).near = s.near ∧
    (State.endCmd s id status detail result).dur = s.dur ∧
    (State.endCmd s id status detail result).ledger = s.ledger ∧
    (State.endCmd s id status detail result).cerga = s.cerga ∧
    (State.endCmd s id status detail result).roce = s.roce ∧
    (State.endCmd s id status detail result).twin = s.twin ∧
    (State.endCmd s id status detail result).shelf = s.shelf ∧
    (State.endCmd s id status detail result).meter = s.meter ∧
    (State.endCmd s id status detail result).mem = s.mem ∧
    (State.endCmd s id status detail result).domain = s.domain ∧
    (State.endCmd s id status detail result).crypt = s.crypt ∧
    (State.endCmd s id status detail result).pace = s.pace ∧
    (State.endCmd s id status detail result).ports = s.ports ∧
    (State.endCmd s id status detail result).dram = s.dram ∧
    (State.endCmd s id status detail result).flash = s.flash ∧
    (State.endCmd s id status detail result).integ = s.integ ∧
    (State.endCmd s id status detail result).trace = s.trace ∧
    (State.endCmd s id status detail result).pending = s.pending := by
  first
  | (simp only [State.endCmd]; simp; done)
  | (simp only [State.endCmd]; (repeat' split) <;> simp; done)
  | (unfold State.endCmd; (repeat' split) <;> simp; done)
  | (unfold State.endCmd; repeat' apply And.intro
     all_goals (apply State.foldl_keep; intro s x; dsimp only; (repeat' split) <;> simp))

@[simp] theorem State.refuse_keeps (s : State) (id reason : Nat) :
    (State.refuse s id reason).captures = s.captures ∧
    (State.refuse s id reason).keyRegs = s.keyRegs ∧
    (State.refuse s id reason).time = s.time ∧
    (State.refuse s id reason).nextCmd = s.nextCmd ∧
    (State.refuse s id reason).rrNext = s.rrNext ∧
    (State.refuse s id reason).armedEnd = s.armedEnd ∧
    (State.refuse s id reason).fw = s.fw ∧
    (State.refuse s id reason).start = s.start ∧
    (State.refuse s id reason).save = s.save ∧
    (State.refuse s id reason).eng = s.eng ∧
    (State.refuse s id reason).near = s.near ∧
    (State.refuse s id reason).dur = s.dur ∧
    (State.refuse s id reason).ledger = s.ledger ∧
    (State.refuse s id reason).cerga = s.cerga ∧
    (State.refuse s id reason).roce = s.roce ∧
    (State.refuse s id reason).twin = s.twin ∧
    (State.refuse s id reason).shelf = s.shelf ∧
    (State.refuse s id reason).meter = s.meter ∧
    (State.refuse s id reason).mem = s.mem ∧
    (State.refuse s id reason).domain = s.domain ∧
    (State.refuse s id reason).crypt = s.crypt ∧
    (State.refuse s id reason).pace = s.pace ∧
    (State.refuse s id reason).ports = s.ports ∧
    (State.refuse s id reason).dram = s.dram ∧
    (State.refuse s id reason).flash = s.flash ∧
    (State.refuse s id reason).integ = s.integ ∧
    (State.refuse s id reason).trace = s.trace ∧
    (State.refuse s id reason).pending = s.pending := by
  first
  | (simp only [State.refuse]; simp; done)
  | (simp only [State.refuse]; (repeat' split) <;> simp; done)
  | (unfold State.refuse; (repeat' split) <;> simp; done)
  | (unfold State.refuse; repeat' apply And.intro
     all_goals (apply State.foldl_keep; intro s x; dsimp only; (repeat' split) <;> simp))

@[simp] theorem State.finish_keeps (s : State) (id status : Nat) :
    (State.finish s id status).captures = s.captures ∧
    (State.finish s id status).keyRegs = s.keyRegs ∧
    (State.finish s id status).time = s.time ∧
    (State.finish s id status).nextCmd = s.nextCmd ∧
    (State.finish s id status).rrNext = s.rrNext ∧
    (State.finish s id status).armedEnd = s.armedEnd ∧
    (State.finish s id status).fw = s.fw ∧
    (State.finish s id status).start = s.start ∧
    (State.finish s id status).save = s.save ∧
    (State.finish s id status).eng = s.eng ∧
    (State.finish s id status).near = s.near ∧
    (State.finish s id status).dur = s.dur ∧
    (State.finish s id status).ledger = s.ledger ∧
    (State.finish s id status).cerga = s.cerga ∧
    (State.finish s id status).roce = s.roce ∧
    (State.finish s id status).twin = s.twin ∧
    (State.finish s id status).shelf = s.shelf ∧
    (State.finish s id status).meter = s.meter ∧
    (State.finish s id status).mem = s.mem ∧
    (State.finish s id status).domain = s.domain ∧
    (State.finish s id status).crypt = s.crypt ∧
    (State.finish s id status).pace = s.pace ∧
    (State.finish s id status).ports = s.ports ∧
    (State.finish s id status).dram = s.dram ∧
    (State.finish s id status).flash = s.flash ∧
    (State.finish s id status).integ = s.integ ∧
    (State.finish s id status).trace = s.trace ∧
    (State.finish s id status).pending = s.pending := by
  first
  | (simp only [State.finish]; simp; done)
  | (simp only [State.finish]; (repeat' split) <;> simp; done)
  | (unfold State.finish; (repeat' split) <;> simp; done)
  | (unfold State.finish; repeat' apply And.intro
     all_goals (apply State.foldl_keep; intro s x; dsimp only; (repeat' split) <;> simp))

@[simp] theorem State.cmdEvent_keeps (s : State) (c : Cmd) (src : Nat) (vs : List (Nat × Nat)) :
    (State.cmdEvent s c src vs).captures = s.captures ∧
    (State.cmdEvent s c src vs).keyRegs = s.keyRegs ∧
    (State.cmdEvent s c src vs).time = s.time ∧
    (State.cmdEvent s c src vs).nextCmd = s.nextCmd ∧
    (State.cmdEvent s c src vs).rrNext = s.rrNext ∧
    (State.cmdEvent s c src vs).armedEnd = s.armedEnd ∧
    (State.cmdEvent s c src vs).fw = s.fw ∧
    (State.cmdEvent s c src vs).start = s.start ∧
    (State.cmdEvent s c src vs).save = s.save ∧
    (State.cmdEvent s c src vs).prot = s.prot ∧
    (State.cmdEvent s c src vs).eng = s.eng ∧
    (State.cmdEvent s c src vs).near = s.near ∧
    (State.cmdEvent s c src vs).dur = s.dur ∧
    (State.cmdEvent s c src vs).ledger = s.ledger ∧
    (State.cmdEvent s c src vs).cerga = s.cerga ∧
    (State.cmdEvent s c src vs).roce = s.roce ∧
    (State.cmdEvent s c src vs).twin = s.twin ∧
    (State.cmdEvent s c src vs).shelf = s.shelf ∧
    (State.cmdEvent s c src vs).meter = s.meter ∧
    (State.cmdEvent s c src vs).mem = s.mem ∧
    (State.cmdEvent s c src vs).domain = s.domain ∧
    (State.cmdEvent s c src vs).crypt = s.crypt ∧
    (State.cmdEvent s c src vs).pace = s.pace ∧
    (State.cmdEvent s c src vs).ports = s.ports ∧
    (State.cmdEvent s c src vs).dram = s.dram ∧
    (State.cmdEvent s c src vs).flash = s.flash ∧
    (State.cmdEvent s c src vs).integ = s.integ ∧
    (State.cmdEvent s c src vs).trace = s.trace ∧
    (State.cmdEvent s c src vs).pending = s.pending := by
  first
  | (simp only [State.cmdEvent]; simp; done)
  | (simp only [State.cmdEvent]; (repeat' split) <;> simp; done)
  | (unfold State.cmdEvent; (repeat' split) <;> simp; done)
  | (unfold State.cmdEvent; repeat' apply And.intro
     all_goals (apply State.foldl_keep; intro s x; dsimp only; (repeat' split) <;> simp))

@[simp] theorem State.clamped_keeps (s : State) (k : Nat) :
    (State.clamped s k).captures = s.captures ∧
    (State.clamped s k).keyRegs = s.keyRegs ∧
    (State.clamped s k).time = s.time ∧
    (State.clamped s k).hub = s.hub ∧
    (State.clamped s k).rings = s.rings ∧
    (State.clamped s k).msix = s.msix ∧
    (State.clamped s k).cmds = s.cmds ∧
    (State.clamped s k).nextCmd = s.nextCmd ∧
    (State.clamped s k).rrNext = s.rrNext ∧
    (State.clamped s k).armedEnd = s.armedEnd ∧
    (State.clamped s k).keeper = s.keeper ∧
    (State.clamped s k).fw = s.fw ∧
    (State.clamped s k).start = s.start ∧
    (State.clamped s k).save = s.save ∧
    (State.clamped s k).prot = s.prot ∧
    (State.clamped s k).eng = s.eng ∧
    (State.clamped s k).near = s.near ∧
    (State.clamped s k).dur = s.dur ∧
    (State.clamped s k).ledger = s.ledger ∧
    (State.clamped s k).cerga = s.cerga ∧
    (State.clamped s k).roce = s.roce ∧
    (State.clamped s k).twin = s.twin ∧
    (State.clamped s k).shelf = s.shelf ∧
    (State.clamped s k).meter = s.meter ∧
    (State.clamped s k).mem = s.mem ∧
    (State.clamped s k).domain = s.domain ∧
    (State.clamped s k).crypt = s.crypt ∧
    (State.clamped s k).out = s.out ∧
    (State.clamped s k).pace = s.pace ∧
    (State.clamped s k).ports = s.ports ∧
    (State.clamped s k).dram = s.dram ∧
    (State.clamped s k).flash = s.flash ∧
    (State.clamped s k).integ = s.integ ∧
    (State.clamped s k).trace = s.trace ∧
    (State.clamped s k).free = s.free ∧
    (State.clamped s k).pending = s.pending := by
  first
  | (simp only [State.clamped]; simp; done)
  | (simp only [State.clamped]; (repeat' split) <;> simp; done)
  | (unfold State.clamped; (repeat' split) <;> simp; done)
  | (unfold State.clamped; repeat' apply And.intro
     all_goals (apply State.foldl_keep; intro s x; dsimp only; (repeat' split) <;> simp))

end Sys2Proof.Machine
end

