-- ==== Sys2Proof/Laws/Events.lean ====
section
/-! SUPPORT. Raising an event, ending a command and writing a ring entry change only the registers of the event hub, the keeper log's
drop count and the rings' own indexes; every other register field keeps its value. -/

namespace Sys2Proof.Machine

open Sys2Proof

/-- The register keys that raising an event can write. -/
def eventKeys : List Nat :=
  [R.EVENT_RAISED_COUNT.key 0, R.EVENT_LAST_VALID.key 0, R.EVENT_LAST_RING.key 0, R.EVENT_LAST_SEVERITY.key 0,
   R.EVENT_LAST_SOURCE.key 0, R.EVENT_REPEATS_COUNT.key 0, R.KEEPER_LOG_STATUS_DROPPED.key 0] ++
  (rangeFrom 0 8).map (fun m => R.RING_EV_PTRS_H9_INDEX.key m)

/-- A field that raising an event leaves alone. -/
def Fld.quiet (f : Fld) (n : Nat) : Bool := !eventKeys.contains (f.key n)

theorem Fld.quiet_ne {f : Fld} {n k : Nat} (h : Fld.quiet f n = true) (hk : k ∈ eventKeys) : k ≠ f.key n := by
  intro e; subst e; simp [Fld.quiet, hk] at h

theorem evIndex_mem (m : Nat) : R.RING_EV_PTRS_H9_INDEX.key m ∈ eventKeys := by
  have h : R.RING_EV_PTRS_H9_INDEX.key m = R.RING_EV_PTRS_H9_INDEX.key (m % 8) := by
    simp [Fld.key, R.RING_EV_PTRS_H9_INDEX]
  rw [h]
  have : m % 8 < 8 := Nat.mod_lt _ (by decide)
  generalize m % 8 = k at this
  have : k = 0 ∨ k = 1 ∨ k = 2 ∨ k = 3 ∨ k = 4 ∨ k = 5 ∨ k = 6 ∨ k = 7 := by omega
  rcases this with rfl | rfl | rfl | rfl | rfl | rfl | rfl | rfl <;> decide

section
variable (s : State) (f : Fld) (n : Nat)

@[simp] theorem State.rdN_send (o : Out) : (s.send o).rdN f n = s.rdN f n := rfl
@[simp] theorem State.rdN_setRingUnit (k : RingKind) (m : Nat) (u : RingUnit) : (s.setRingUnit k m u).rdN f n = s.rdN f n := rfl
@[simp] theorem State.rdN_setTrack (src : Nat) (t : SourceTrack) : (s.setTrack src t).rdN f n = s.rdN f n := rfl
@[simp] theorem State.rdN_updCmd (id : Nat) (g : Cmd → Cmd) : (s.updCmd id g).rdN f n = s.rdN f n := rfl

@[simp] theorem State.rdN_signalVector (v r : Nat) : (s.signalVector v r).rdN f n = s.rdN f n :=
  State.rdN_congr (by simp) f n

@[simp] theorem State.rdN_signalRing (k : RingKind) (m : Nat) : (s.signalRing k m).rdN f n = s.rdN f n := by
  simp [State.signalRing]

theorem State.rdN_ringWrite (k : RingKind) (m : Nat) (q : Bool) (mk : Bool → RingEntry) (h : (fH9Index k).key m ≠ f.key n) :
    (s.ringWrite k m q mk).rdN f n = s.rdN f n := by
  simp only [State.ringWrite]
  (repeat' split) <;> simp [State.rdN_wrN_ne _ _ h]

variable {f n} (h : Fld.quiet f n = true)
include h

theorem State.rdN_writeEvent (r : EventRecord) : (s.writeEvent r).rdN f n = s.rdN f n := by
  simp only [State.writeEvent]
  exact State.rdN_ringWrite _ _ _ _ _ _ _ (Fld.quiet_ne h (evIndex_mem _))

theorem State.rdN_holdEvent (r : EventRecord) : (s.holdEvent r).rdN f n = s.rdN f n := by
  have hk : R.EVENT_REPEATS_COUNT.key 0 ≠ f.key n := Fld.quiet_ne h (by decide)
  simp only [State.holdEvent]
  split
  · rfl
  · split
    · exact State.rdN_wrN_ne s _ hk
    · rfl

theorem State.rdN_queueLog (r : LogRecord) : (s.queueLog r).rdN f n = s.rdN f n := by
  have hk : R.KEEPER_LOG_STATUS_DROPPED.key 0 ≠ f.key n := Fld.quiet_ne h (by decide)
  simp only [State.queueLog]
  split
  · exact State.rdN_wrN_ne s _ hk
  · rfl

theorem State.rdN_setCounter (id v : Nat) : (s.setCounter id v).rdN f n = s.rdN f n := by
  simp only [State.setCounter]; rw [State.rdN_queueLog _ h]; exact State.rdN_congr rfl f n

theorem State.rdN_keeperLog (src sev detail : Nat) (core : Bool) : (s.keeperLog src sev detail core).rdN f n = s.rdN f n := by
  simp only [State.keeperLog]
  (repeat' split) <;> first | exact State.rdN_congr rfl f n | exact State.rdN_queueLog s h _

theorem State.rdN_closeEvent (r : EventRecord) : (s.closeEvent r).rdN f n = s.rdN f n := by
  simp only [State.closeEvent]
  (repeat' split) <;> (try simp only [State.rdN_writeEvent _ h, State.rdN_holdEvent _ h, State.rdN_keeperLog _ h]) <;>
    exact State.rdN_congr rfl f n

theorem State.rdN_closePending (src : Nat) : (s.closePending src).rdN f n = s.rdN f n := by
  simp only [State.closePending]
  split
  · rfl
  · rw [State.rdN_closeEvent _ h]; exact State.rdN_congr rfl f n

theorem State.rdN_closeFold (src : Nat) : (s.closeFold src).rdN f n = s.rdN f n := by
  simp only [State.closeFold]
  split
  · rfl
  · rw [State.rdN_closeEvent _ h]; exact State.rdN_congr rfl f n

theorem State.rdN_closeSecond (src : Nat) : (s.closeSecond src).rdN f n = s.rdN f n := by
  simp only [State.closeSecond]
  split
  · rfl
  · rw [State.rdN_closePending _ h, State.rdN_closeFold _ h]

theorem State.rdN_hubOccur (src detail : Nat) (alt keeper cmd : Bool) :
    (s.hubOccur src detail alt keeper cmd).rdN f n = s.rdN f n := by
  have h1 : R.EVENT_RAISED_COUNT.key 0 ≠ f.key n := Fld.quiet_ne h (by decide)
  have h2 : R.EVENT_LAST_VALID.key 0 ≠ f.key n := Fld.quiet_ne h (by decide)
  have h3 : R.EVENT_LAST_RING.key 0 ≠ f.key n := Fld.quiet_ne h (by decide)
  have h4 : R.EVENT_LAST_SEVERITY.key 0 ≠ f.key n := Fld.quiet_ne h (by decide)
  have h5 : R.EVENT_LAST_SOURCE.key 0 ≠ f.key n := Fld.quiet_ne h (by decide)
  have h6 : R.EVENT_REPEATS_COUNT.key 0 ≠ f.key n := Fld.quiet_ne h (by decide)
  simp only [State.hubOccur]
  (repeat' split) <;> simp only [State.bump, State.wr, State.rdN_setTrack, State.rdN_closeEvent _ h, State.rdN_closePending _ h,
    State.rdN_closeSecond _ h, State.rdN_wrN_ne _ _ h1, State.rdN_wrN_ne _ _ h2, State.rdN_wrN_ne _ _ h3, State.rdN_wrN_ne _ _ h4,
    State.rdN_wrN_ne _ _ h5, State.rdN_wrN_ne _ _ h6]

theorem State.rdN_occur (src detail : Nat) (alt keeper cmd : Bool) : (s.occur src detail alt keeper cmd).rdN f n = s.rdN f n := by
  simp only [State.occur]
  (repeat' split) <;> first | exact State.rdN_hubOccur s h .. | exact State.rdN_keeperLog s h .. | rfl

theorem State.rdN_raise (src : Nat) (vs : List (Nat × Nat)) : (s.raise src vs).rdN f n = s.rdN f n := by
  simp only [State.raise]; split
  · exact State.rdN_occur s h ..
  · rfl

theorem State.rdN_raiseKeeper (src : Nat) (vs : List (Nat × Nat)) : (s.raiseKeeper src vs).rdN f n = s.rdN f n := by
  simp only [State.raiseKeeper]; split
  · rw [State.rdN_occur _ h, State.rdN_keeperLog _ h]
  · exact State.rdN_keeperLog s h ..

theorem State.rdN_raiseTag (src : Nat) (vs : List (Nat × Nat)) (tag : Nat) : (s.raiseTag src vs tag).rdN f n = s.rdN f n := by
  simp only [State.raiseTag]; split
  · exact State.rdN_occur s h ..
  · rfl

omit h in
theorem State.rdN_startGrace (id : Nat) : (s.startGrace id).rdN f n = s.rdN f n := State.rdN_congr (by simp) f n

theorem State.rdN_endCmd (id status detail result : Nat) : (s.endCmd id status detail result).rdN f n = s.rdN f n := by
  simp only [State.endCmd]
  (repeat' split) <;> first | rfl | (rw [State.rdN_raiseTag _ h]; exact State.rdN_congr (by simp) f n) | exact State.rdN_congr rfl f n

theorem State.rdN_cmdEvent (c : Cmd) (src : Nat) (vs : List (Nat × Nat)) : (s.cmdEvent c src vs).rdN f n = s.rdN f n := by
  simp only [State.cmdEvent]; rw [State.rdN_updCmd, State.rdN_raiseTag _ h]

theorem State.rdN_drainHub : s.drainHub.rdN f n = s.rdN f n := by
  unfold State.drainHub
  apply State.foldl_keep (fun s => s.rdN f n)
  intro s x
  dsimp only
  (repeat' split) <;> first | exact State.rdN_congr rfl f n | (rw [State.rdN_writeEvent _ h]; exact State.rdN_congr rfl f n)

end

end Sys2Proof.Machine
end

