-- ==== Sys2Proof/Laws/Commands.lean ====
section
/-! SUPPORT. How a command row reaches its body, and how a command ends. -/

namespace Sys2Proof.Machine

open Sys2Proof

/-- The state a command's body starts from: the command runs. -/
def State.accepted (s : State) (c : Cmd) : State := s.updCmd c.id (fun c => { c with phase := .running })

/-- A command that is next to be accepted reaches its body. -/
theorem State.command_of_accepts {s : State} {r : CmdRef} {op : Nat} {c : Cmd} (h : Accepts s r op c) (body : Cmd → State → State) :
    s.command r op body = body c (s.accepted c) := by
  obtain ⟨h1, h2, h3, h4, h5, h6, -, -⟩ := h
  unfold State.command
  rw [h1]
  simp [h2, h3, h4, h5, h6, State.accepted]

theorem find?_map_id (l : List Cmd) (id : Nat) (f : Cmd → Cmd) (hf : ∀ c, (f c).id = c.id) :
    (l.map (fun c => if c.id = id then f c else c)).find? (fun d => d.id == id) = (l.find? (fun d => d.id == id)).map f := by
  induction l with
  | nil => rfl
  | cons a l ih =>
    by_cases h : a.id = id
    · simp [h, hf]
    · simp [h, ih]

theorem State.find?_updCmd (s : State) (id : Nat) (f : Cmd → Cmd) (hf : ∀ c, (f c).id = c.id) :
    (s.updCmd id f).cmds.find? (fun d => d.id == id) = (s.cmds.find? (fun d => d.id == id)).map f :=
  find?_map_id s.cmds id f hf

/-- The accepted command as the body finds it. -/
theorem State.find?_accepted {s : State} {r : CmdRef} {op : Nat} {c : Cmd} (h : Accepts s r op c) :
    (s.accepted c).cmds.find? (fun d => d.id == c.id) = some { c with phase := .running } := by
  unfold State.accepted
  rw [State.find?_updCmd s c.id _ (by intro _; rfl), h.2.2.2.2.2.2.1]
  rfl

/-- A command in flight on a ring that is still there ends as it is told. -/
theorem State.ended_endCmd {s : State} {c d : Cmd} (hd : s.cmds.find? (fun e => e.id == c.id) = some d) (ho : d.orphan = false)
    (st de re : Nat) : Ended (s.endCmd c.id st de re) c st de re := by
  unfold Ended State.endCmd
  rw [hd]
  simp only [ho, Bool.false_eq_true, if_false]
  rw [State.find?_updCmd s c.id _ (by intro _; rfl), hd]
  rfl

theorem State.ended_finish {s : State} {c d : Cmd} (hd : s.cmds.find? (fun e => e.id == c.id) = some d) (ho : d.orphan = false)
    (st : Nat) : Ended (s.finish c.id st) c st 0 0 := State.ended_endCmd hd ho st 0 0

theorem State.ended_refuse {s : State} {c d : Cmd} (hd : s.cmds.find? (fun e => e.id == c.id) = some d) (ho : d.orphan = false)
    (why : Nat) : Ended (s.refuse c.id why) c St.DENIED_PROTECTION why 0 := State.ended_endCmd hd ho _ why 0

/-- Ending a command changes nothing else where its ring is still there. -/
theorem State.endCmd_eq {s : State} {id : Nat} {d : Cmd} (hd : s.cmds.find? (fun e => e.id == id) = some d) (ho : d.orphan = false)
    (st de re : Nat) :
    s.endCmd id st de re = s.updCmd id (fun c => { c with phase := .ended, status := st, detail := de, result := re }) := by
  unfold State.endCmd
  rw [hd]
  simp [ho]

@[simp] theorem State.accepted_keeps (s : State) (c : Cmd) :
    (s.accepted c).regs = s.regs ∧ (s.accepted c).time = s.time ∧ (s.accepted c).rings = s.rings ∧
    (s.accepted c).keeper = s.keeper ∧ (s.accepted c).fw = s.fw ∧ (s.accepted c).start = s.start ∧
    (s.accepted c).save = s.save ∧ (s.accepted c).prot = s.prot ∧ (s.accepted c).eng = s.eng ∧
    (s.accepted c).near = s.near ∧ (s.accepted c).dur = s.dur ∧ (s.accepted c).ledger = s.ledger ∧
    (s.accepted c).cerga = s.cerga ∧ (s.accepted c).roce = s.roce ∧ (s.accepted c).twin = s.twin ∧
    (s.accepted c).shelf = s.shelf ∧ (s.accepted c).meter = s.meter ∧ (s.accepted c).mem = s.mem ∧
    (s.accepted c).domain = s.domain ∧ (s.accepted c).crypt = s.crypt ∧ (s.accepted c).out = s.out ∧
    (s.accepted c).pace = s.pace ∧ (s.accepted c).ports = s.ports ∧ (s.accepted c).dram = s.dram ∧
    (s.accepted c).flash = s.flash ∧ (s.accepted c).integ = s.integ ∧ (s.accepted c).pending = s.pending := by
  simp [State.accepted]

@[simp] theorem State.rdN_accepted (s : State) (c : Cmd) (f : Fld) (n : Nat) : (s.accepted c).rdN f n = s.rdN f n := rfl
@[simp] theorem State.rd_accepted (s : State) (c : Cmd) (f : Fld) : (s.accepted c).rd f = s.rd f := rfl
@[simp] theorem State.on_accepted (s : State) (c : Cmd) (f : Fld) : (s.accepted c).on f = s.on f := rfl

end Sys2Proof.Machine
end

