-- ==== Sys2Proof/Laws/Pair.lean ====
section
/-! SUPPORT. What sending an item to the twin, a message to the domain and a change of SYNC leave alone. -/

namespace Sys2Proof.Machine

open Sys2Proof

@[simp] theorem State.flushFrame_keeps (s : State) :
    (State.flushFrame s).regs = s.regs ∧
    (State.flushFrame s).captures = s.captures ∧
    (State.flushFrame s).keyRegs = s.keyRegs ∧
    (State.flushFrame s).time = s.time ∧
    (State.flushFrame s).hub = s.hub ∧
    (State.flushFrame s).rings = s.rings ∧
    (State.flushFrame s).msix = s.msix ∧
    (State.flushFrame s).cmds = s.cmds ∧
    (State.flushFrame s).nextCmd = s.nextCmd ∧
    (State.flushFrame s).rrNext = s.rrNext ∧
    (State.flushFrame s).armedEnd = s.armedEnd ∧
    (State.flushFrame s).keeper = s.keeper ∧
    (State.flushFrame s).fw = s.fw ∧
    (State.flushFrame s).start = s.start ∧
    (State.flushFrame s).save = s.save ∧
    (State.flushFrame s).prot = s.prot ∧
    (State.flushFrame s).eng = s.eng ∧
    (State.flushFrame s).near = s.near ∧
    (State.flushFrame s).dur = s.dur ∧
    (State.flushFrame s).ledger = s.ledger ∧
    (State.flushFrame s).cerga = s.cerga ∧
    (State.flushFrame s).roce = s.roce ∧
    (State.flushFrame s).shelf = s.shelf ∧
    (State.flushFrame s).meter = s.meter ∧
    (State.flushFrame s).mem = s.mem ∧
    (State.flushFrame s).domain = s.domain ∧
    (State.flushFrame s).crypt = s.crypt ∧
    (State.flushFrame s).pace = s.pace ∧
    (State.flushFrame s).ports = s.ports ∧
    (State.flushFrame s).dram = s.dram ∧
    (State.flushFrame s).flash = s.flash ∧
    (State.flushFrame s).integ = s.integ ∧
    (State.flushFrame s).trace = s.trace ∧
    (State.flushFrame s).free = s.free ∧
    (State.flushFrame s).pending = s.pending := by
  first
  | (simp only [State.flushFrame]; simp; done)
  | (simp only [State.flushFrame]; (repeat' split) <;> simp; done)
  | (unfold State.flushFrame; (repeat' split) <;> simp; done)

@[simp] theorem State.packItem_keeps (s : State) (i : BrazeItem) :
    (State.packItem s i).regs = s.regs ∧
    (State.packItem s i).captures = s.captures ∧
    (State.packItem s i).keyRegs = s.keyRegs ∧
    (State.packItem s i).time = s.time ∧
    (State.packItem s i).hub = s.hub ∧
    (State.packItem s i).rings = s.rings ∧
    (State.packItem s i).msix = s.msix ∧
    (State.packItem s i).cmds = s.cmds ∧
    (State.packItem s i).nextCmd = s.nextCmd ∧
    (State.packItem s i).rrNext = s.rrNext ∧
    (State.packItem s i).armedEnd = s.armedEnd ∧
    (State.packItem s i).keeper = s.keeper ∧
    (State.packItem s i).fw = s.fw ∧
    (State.packItem s i).start = s.start ∧
    (State.packItem s i).save = s.save ∧
    (State.packItem s i).prot = s.prot ∧
    (State.packItem s i).eng = s.eng ∧
    (State.packItem s i).near = s.near ∧
    (State.packItem s i).dur = s.dur ∧
    (State.packItem s i).ledger = s.ledger ∧
    (State.packItem s i).cerga = s.cerga ∧
    (State.packItem s i).roce = s.roce ∧
    (State.packItem s i).shelf = s.shelf ∧
    (State.packItem s i).meter = s.meter ∧
    (State.packItem s i).mem = s.mem ∧
    (State.packItem s i).domain = s.domain ∧
    (State.packItem s i).crypt = s.crypt ∧
    (State.packItem s i).pace = s.pace ∧
    (State.packItem s i).ports = s.ports ∧
    (State.packItem s i).dram = s.dram ∧
    (State.packItem s i).flash = s.flash ∧
    (State.packItem s i).integ = s.integ ∧
    (State.packItem s i).trace = s.trace ∧
    (State.packItem s i).free = s.free ∧
    (State.packItem s i).pending = s.pending := by
  first
  | (simp only [State.packItem]; simp; done)
  | (simp only [State.packItem]; (repeat' split) <;> simp; done)
  | (unfold State.packItem; (repeat' split) <;> simp; done)

@[simp] theorem State.sendItem_keeps (s : State) (i : BrazeItem) :
    (State.sendItem s i).regs = s.regs ∧
    (State.sendItem s i).captures = s.captures ∧
    (State.sendItem s i).keyRegs = s.keyRegs ∧
    (State.sendItem s i).time = s.time ∧
    (State.sendItem s i).hub = s.hub ∧
    (State.sendItem s i).rings = s.rings ∧
    (State.sendItem s i).msix = s.msix ∧
    (State.sendItem s i).cmds = s.cmds ∧
    (State.sendItem s i).nextCmd = s.nextCmd ∧
    (State.sendItem s i).rrNext = s.rrNext ∧
    (State.sendItem s i).armedEnd = s.armedEnd ∧
    (State.sendItem s i).keeper = s.keeper ∧
    (State.sendItem s i).fw = s.fw ∧
    (State.sendItem s i).start = s.start ∧
    (State.sendItem s i).save = s.save ∧
    (State.sendItem s i).prot = s.prot ∧
    (State.sendItem s i).eng = s.eng ∧
    (State.sendItem s i).near = s.near ∧
    (State.sendItem s i).dur = s.dur ∧
    (State.sendItem s i).ledger = s.ledger ∧
    (State.sendItem s i).cerga = s.cerga ∧
    (State.sendItem s i).roce = s.roce ∧
    (State.sendItem s i).shelf = s.shelf ∧
    (State.sendItem s i).meter = s.meter ∧
    (State.sendItem s i).mem = s.mem ∧
    (State.sendItem s i).domain = s.domain ∧
    (State.sendItem s i).crypt = s.crypt ∧
    (State.sendItem s i).pace = s.pace ∧
    (State.sendItem s i).ports = s.ports ∧
    (State.sendItem s i).dram = s.dram ∧
    (State.sendItem s i).flash = s.flash ∧
    (State.sendItem s i).integ = s.integ ∧
    (State.sendItem s i).trace = s.trace ∧
    (State.sendItem s i).free = s.free ∧
    (State.sendItem s i).pending = s.pending := by
  first
  | (simp only [State.sendItem]; simp; done)
  | (simp only [State.sendItem]; (repeat' split) <;> simp; done)
  | (unfold State.sendItem; (repeat' split) <;> simp; done)

@[simp] theorem State.sendDomainTo_keeps (s : State) (ip epoch type dst msgId : Nat) (fields : List Nat) :
    (State.sendDomainTo s ip epoch type dst msgId fields).captures = s.captures ∧
    (State.sendDomainTo s ip epoch type dst msgId fields).keyRegs = s.keyRegs ∧
    (State.sendDomainTo s ip epoch type dst msgId fields).time = s.time ∧
    (State.sendDomainTo s ip epoch type dst msgId fields).hub = s.hub ∧
    (State.sendDomainTo s ip epoch type dst msgId fields).rings = s.rings ∧
    (State.sendDomainTo s ip epoch type dst msgId fields).msix = s.msix ∧
    (State.sendDomainTo s ip epoch type dst msgId fields).cmds = s.cmds ∧
    (State.sendDomainTo s ip epoch type dst msgId fields).nextCmd = s.nextCmd ∧
    (State.sendDomainTo s ip epoch type dst msgId fields).rrNext = s.rrNext ∧
    (State.sendDomainTo s ip epoch type dst msgId fields).armedEnd = s.armedEnd ∧
    (State.sendDomainTo s ip epoch type dst msgId fields).keeper = s.keeper ∧
    (State.sendDomainTo s ip epoch type dst msgId fields).fw = s.fw ∧
    (State.sendDomainTo s ip epoch type dst msgId fields).start = s.start ∧
    (State.sendDomainTo s ip epoch type dst msgId fields).save = s.save ∧
    (State.sendDomainTo s ip epoch type dst msgId fields).prot = s.prot ∧
    (State.sendDomainTo s ip epoch type dst msgId fields).eng = s.eng ∧
    (State.sendDomainTo s ip epoch type dst msgId fields).near = s.near ∧
    (State.sendDomainTo s ip epoch type dst msgId fields).dur = s.dur ∧
    (State.sendDomainTo s ip epoch type dst msgId fields).ledger = s.ledger ∧
    (State.sendDomainTo s ip epoch type dst msgId fields).cerga = s.cerga ∧
    (State.sendDomainTo s ip epoch type dst msgId fields).roce = s.roce ∧
    (State.sendDomainTo s ip epoch type dst msgId fields).twin = s.twin ∧
    (State.sendDomainTo s ip epoch type dst msgId fields).shelf = s.shelf ∧
    (State.sendDomainTo s ip epoch type dst msgId fields).meter = s.meter ∧
    (State.sendDomainTo s ip epoch type dst msgId fields).mem = s.mem ∧
    (State.sendDomainTo s ip epoch type dst msgId fields).crypt = s.crypt ∧
    (State.sendDomainTo s ip epoch type dst msgId fields).pace = s.pace ∧
    (State.sendDomainTo s ip epoch type dst msgId fields).ports = s.ports ∧
    (State.sendDomainTo s ip epoch type dst msgId fields).dram = s.dram ∧
    (State.sendDomainTo s ip epoch type dst msgId fields).flash = s.flash ∧
    (State.sendDomainTo s ip epoch type dst msgId fields).integ = s.integ ∧
    (State.sendDomainTo s ip epoch type dst msgId fields).trace = s.trace ∧
    (State.sendDomainTo s ip epoch type dst msgId fields).free = s.free ∧
    (State.sendDomainTo s ip epoch type dst msgId fields).pending = s.pending := by
  first
  | (simp only [State.sendDomainTo]; simp; done)
  | (simp only [State.sendDomainTo]; (repeat' split) <;> simp; done)
  | (unfold State.sendDomainTo; (repeat' split) <;> simp; done)

@[simp] theorem State.sendDomain_keeps (s : State) (type dst msgId : Nat) (fields : List Nat) :
    (State.sendDomain s type dst msgId fields).captures = s.captures ∧
    (State.sendDomain s type dst msgId fields).keyRegs = s.keyRegs ∧
    (State.sendDomain s type dst msgId fields).time = s.time ∧
    (State.sendDomain s type dst msgId fields).hub = s.hub ∧
    (State.sendDomain s type dst msgId fields).rings = s.rings ∧
    (State.sendDomain s type dst msgId fields).msix = s.msix ∧
    (State.sendDomain s type dst msgId fields).cmds = s.cmds ∧
    (State.sendDomain s type dst msgId fields).nextCmd = s.nextCmd ∧
    (State.sendDomain s type dst msgId fields).rrNext = s.rrNext ∧
    (State.sendDomain s type dst msgId fields).armedEnd = s.armedEnd ∧
    (State.sendDomain s type dst msgId fields).keeper = s.keeper ∧
    (State.sendDomain s type dst msgId fields).fw = s.fw ∧
    (State.sendDomain s type dst msgId fields).start = s.start ∧
    (State.sendDomain s type dst msgId fields).save = s.save ∧
    (State.sendDomain s type dst msgId fields).prot = s.prot ∧
    (State.sendDomain s type dst msgId fields).eng = s.eng ∧
    (State.sendDomain s type dst msgId fields).near = s.near ∧
    (State.sendDomain s type dst msgId fields).dur = s.dur ∧
    (State.sendDomain s type dst msgId fields).ledger = s.ledger ∧
    (State.sendDomain s type dst msgId fields).cerga = s.cerga ∧
    (State.sendDomain s type dst msgId fields).roce = s.roce ∧
    (State.sendDomain s type dst msgId fields).twin = s.twin ∧
    (State.sendDomain s type dst msgId fields).shelf = s.shelf ∧
    (State.sendDomain s type dst msgId fields).meter = s.meter ∧
    (State.sendDomain s type dst msgId fields).mem = s.mem ∧
    (State.sendDomain s type dst msgId fields).crypt = s.crypt ∧
    (State.sendDomain s type dst msgId fields).pace = s.pace ∧
    (State.sendDomain s type dst msgId fields).ports = s.ports ∧
    (State.sendDomain s type dst msgId fields).dram = s.dram ∧
    (State.sendDomain s type dst msgId fields).flash = s.flash ∧
    (State.sendDomain s type dst msgId fields).integ = s.integ ∧
    (State.sendDomain s type dst msgId fields).trace = s.trace ∧
    (State.sendDomain s type dst msgId fields).free = s.free ∧
    (State.sendDomain s type dst msgId fields).pending = s.pending := by
  first
  | (simp only [State.sendDomain]; simp; done)
  | (simp only [State.sendDomain]; (repeat' split) <;> simp; done)
  | (unfold State.sendDomain; (repeat' split) <;> simp; done)

@[simp] theorem State.sendStatus_keeps (s : State) :
    (State.sendStatus s).regs = s.regs ∧
    (State.sendStatus s).captures = s.captures ∧
    (State.sendStatus s).keyRegs = s.keyRegs ∧
    (State.sendStatus s).time = s.time ∧
    (State.sendStatus s).hub = s.hub ∧
    (State.sendStatus s).rings = s.rings ∧
    (State.sendStatus s).msix = s.msix ∧
    (State.sendStatus s).cmds = s.cmds ∧
    (State.sendStatus s).nextCmd = s.nextCmd ∧
    (State.sendStatus s).rrNext = s.rrNext ∧
    (State.sendStatus s).armedEnd = s.armedEnd ∧
    (State.sendStatus s).keeper = s.keeper ∧
    (State.sendStatus s).fw = s.fw ∧
    (State.sendStatus s).start = s.start ∧
    (State.sendStatus s).save = s.save ∧
    (State.sendStatus s).prot = s.prot ∧
    (State.sendStatus s).eng = s.eng ∧
    (State.sendStatus s).near = s.near ∧
    (State.sendStatus s).dur = s.dur ∧
    (State.sendStatus s).ledger = s.ledger ∧
    (State.sendStatus s).cerga = s.cerga ∧
    (State.sendStatus s).roce = s.roce ∧
    (State.sendStatus s).shelf = s.shelf ∧
    (State.sendStatus s).meter = s.meter ∧
    (State.sendStatus s).mem = s.mem ∧
    (State.sendStatus s).domain = s.domain ∧
    (State.sendStatus s).crypt = s.crypt ∧
    (State.sendStatus s).pace = s.pace ∧
    (State.sendStatus s).ports = s.ports ∧
    (State.sendStatus s).dram = s.dram ∧
    (State.sendStatus s).flash = s.flash ∧
    (State.sendStatus s).integ = s.integ ∧
    (State.sendStatus s).trace = s.trace ∧
    (State.sendStatus s).free = s.free ∧
    (State.sendStatus s).pending = s.pending := by
  first
  | (simp only [State.sendStatus]; simp; done)
  | (simp only [State.sendStatus]; (repeat' split) <;> simp; done)
  | (unfold State.sendStatus; (repeat' split) <;> simp; done)

@[simp] theorem State.showSync_keeps (s : State) (c : Nat) :
    (State.showSync s c).captures = s.captures ∧
    (State.showSync s c).keyRegs = s.keyRegs ∧
    (State.showSync s c).time = s.time ∧
    (State.showSync s c).hub = s.hub ∧
    (State.showSync s c).rings = s.rings ∧
    (State.showSync s c).msix = s.msix ∧
    (State.showSync s c).cmds = s.cmds ∧
    (State.showSync s c).nextCmd = s.nextCmd ∧
    (State.showSync s c).rrNext = s.rrNext ∧
    (State.showSync s c).armedEnd = s.armedEnd ∧
    (State.showSync s c).keeper = s.keeper ∧
    (State.showSync s c).fw = s.fw ∧
    (State.showSync s c).start = s.start ∧
    (State.showSync s c).save = s.save ∧
    (State.showSync s c).prot = s.prot ∧
    (State.showSync s c).eng = s.eng ∧
    (State.showSync s c).near = s.near ∧
    (State.showSync s c).dur = s.dur ∧
    (State.showSync s c).ledger = s.ledger ∧
    (State.showSync s c).cerga = s.cerga ∧
    (State.showSync s c).roce = s.roce ∧
    (State.showSync s c).shelf = s.shelf ∧
    (State.showSync s c).meter = s.meter ∧
    (State.showSync s c).mem = s.mem ∧
    (State.showSync s c).crypt = s.crypt ∧
    (State.showSync s c).pace = s.pace ∧
    (State.showSync s c).ports = s.ports ∧
    (State.showSync s c).dram = s.dram ∧
    (State.showSync s c).flash = s.flash ∧
    (State.showSync s c).integ = s.integ ∧
    (State.showSync s c).trace = s.trace ∧
    (State.showSync s c).free = s.free ∧
    (State.showSync s c).pending = s.pending := by
  first
  | (simp only [State.showSync]; simp; done)
  | (simp only [State.showSync]; (repeat' split) <;> simp; done)
  | (unfold State.showSync; (repeat' split) <;> simp; done)

@[simp] theorem State.saveTwin_keeps (s : State) :
    (State.saveTwin s).captures = s.captures ∧
    (State.saveTwin s).keyRegs = s.keyRegs ∧
    (State.saveTwin s).time = s.time ∧
    (State.saveTwin s).hub = s.hub ∧
    (State.saveTwin s).rings = s.rings ∧
    (State.saveTwin s).msix = s.msix ∧
    (State.saveTwin s).cmds = s.cmds ∧
    (State.saveTwin s).nextCmd = s.nextCmd ∧
    (State.saveTwin s).rrNext = s.rrNext ∧
    (State.saveTwin s).armedEnd = s.armedEnd ∧
    (State.saveTwin s).keeper = s.keeper ∧
    (State.saveTwin s).fw = s.fw ∧
    (State.saveTwin s).start = s.start ∧
    (State.saveTwin s).save = s.save ∧
    (State.saveTwin s).prot = s.prot ∧
    (State.saveTwin s).eng = s.eng ∧
    (State.saveTwin s).near = s.near ∧
    (State.saveTwin s).dur = s.dur ∧
    (State.saveTwin s).ledger = s.ledger ∧
    (State.saveTwin s).cerga = s.cerga ∧
    (State.saveTwin s).roce = s.roce ∧
    (State.saveTwin s).shelf = s.shelf ∧
    (State.saveTwin s).meter = s.meter ∧
    (State.saveTwin s).mem = s.mem ∧
    (State.saveTwin s).crypt = s.crypt ∧
    (State.saveTwin s).pace = s.pace ∧
    (State.saveTwin s).ports = s.ports ∧
    (State.saveTwin s).dram = s.dram ∧
    (State.saveTwin s).flash = s.flash ∧
    (State.saveTwin s).integ = s.integ ∧
    (State.saveTwin s).trace = s.trace ∧
    (State.saveTwin s).free = s.free ∧
    (State.saveTwin s).pending = s.pending := by
  first
  | (simp only [State.saveTwin]; simp; done)
  | (simp only [State.saveTwin]; (repeat' split) <;> simp; done)
  | (unfold State.saveTwin; (repeat' split) <;> simp; done)

end Sys2Proof.Machine
end

