-- ==== Sys2Proof/Laws/Registers.lean ====
section
/-! SUPPORT. Writing one word of the register map touches only the fields of that word. -/

namespace Sys2Proof.Machine

open Sys2Proof

/-- A fold that skips the elements a test turns down runs over the others alone. -/
theorem foldl_filter_step {α : Type} (f : State → α → State) (p : α → Bool) (l : List α) (s : State)
    (h : ∀ s x, p x = false → f s x = s) : l.foldl f s = (l.filter p).foldl f s := by
  induction l generalizing s with
  | nil => rfl
  | cons a l ih =>
    by_cases ha : p a = true
    · simp [List.filter, ha, ih]
    · simp [List.filter, ha, h s a (by simpa using ha), ih]

/-- The word at `off` holds the fields `l`: a write of the word stores them one after the other. -/
theorem State.storeWord_fields (s : State) (off v : Nat) (l : List Fld)
    (hl : R.allFields.filter (fun f => (Fld.hit f off).isSome) = l) :
    s.storeWord off v = l.foldl (fun s f => match Fld.hit f off with
      | some (n, h) => if fixedRailField f n then s else s.storeField f n h v
      | none => s) s := by
  rw [← hl]
  unfold State.storeWord
  apply foldl_filter_step
  intro s x hx
  split
  · simp_all
  · rfl

/-- The fields of every block but GLOBAL. -/
def fieldsAbove : List Fld :=
  R.fieldsRING ++ R.fieldsPACE ++ R.fieldsPORT ++ R.fieldsCERGA ++ R.fieldsROCE ++ R.fieldsPROT ++ R.fieldsNEAR ++ R.fieldsDUR ++
  R.fieldsTWIN ++ R.fieldsTIER ++ R.fieldsDRAM ++ R.fieldsFLASH ++ R.fieldsINTEG ++ R.fieldsDOMAIN ++ R.fieldsMETER ++
  R.fieldsCIPHER ++ R.fieldsLIFE ++ R.fieldsKEEPER ++ R.fieldsFW ++ R.fieldsEVENT

theorem fieldsAbove_off : ∀ f ∈ fieldsAbove, 0x10000 ≤ f.off := by decide +kernel

theorem allFields_split : R.allFields = R.fieldsGLOBAL ++ fieldsAbove := by
  unfold R.allFields fieldsAbove
  repeat rw [List.append_assoc]

/-- `storeWord_fields` for a word of the GLOBAL block, where only that block's fields are looked at. -/
theorem State.storeWord_global (s : State) (off v : Nat) (l : List Fld) (ho : off < 0x10000)
    (hl : R.fieldsGLOBAL.filter (fun f => (Fld.hit f off).isSome) = l) :
    s.storeWord off v = l.foldl (fun s f => match Fld.hit f off with
      | some (n, h) => if fixedRailField f n then s else s.storeField f n h v
      | none => s) s := by
  apply State.storeWord_fields
  rw [allFields_split, List.filter_append, hl]
  have : fieldsAbove.filter (fun f => (Fld.hit f off).isSome) = [] := by
    apply List.filter_eq_nil_iff.2
    intro f hf
    have := fieldsAbove_off f hf
    have h : off < f.off := by omega
    simp [Fld.hit, h]
  rw [this, List.append_nil]

/-- Keeping the entries of a map whose keys pass a test keeps what such a key holds. -/
theorem AMap.get?_filter_key {α : Type} (m : AMap α) (p : Nat → Bool) (k : Nat) (h : p k = true) :
    AMap.get? (m.filter (fun e => p e.1)) k = AMap.get? m k := by
  induction m with
  | nil => rfl
  | cons e m ih =>
    obtain ⟨j, w⟩ := e
    by_cases hj : p j = true
    · simp [List.filter, hj, AMap.get?, ih]
    · have : ¬ j = k := by rintro rfl; exact hj h
      simp [List.filter, hj, AMap.get?, ih, this]

end Sys2Proof.Machine
end

