-- ==== Sys2Proof/Laws/Save.lean ====
section
/-! SUPPORT. What the start of a save writes. -/

namespace Sys2Proof.Machine

open Sys2Proof

@[simp] theorem State.setPower_save (s : State) (p : Nat) : (s.setPower p).save = s.save := by
  simp only [State.setPower]; split <;> simp

@[simp] theorem State.abortHoldupTest_save (s : State) (k : Nat) : (s.abortHoldupTest k).save = s.save := by
  simp only [State.abortHoldupTest]; split <;> simp

@[simp] theorem State.abortHoldupTest_time (s : State) (k : Nat) : (s.abortHoldupTest k).time = s.time := by
  simp only [State.abortHoldupTest]; split <;> simp

/-- A new save stands at step 1 with the trigger and action it was asked for. -/
theorem State.startSave_new (s : State) (trigger : Nat) (action : SaveAction) (tag : Option Nat) (change : Option Change)
    (activate : Option Nat) (h1 : s.coreOn = true) (h2 : s.save.active = false) :
    (s.startSave trigger action tag change activate).save = {
      active := true, step := 1, trigger := trigger, action := action, startedAt := s.now
      onBank := trigger == 1 || trigger == 7, change := change, activate := activate, intent := []
      intentWritten := false, lastStep := 0, incomplete := false
      bankMv := (s.abortHoldupTest 3).rd R.DUR_BANK_V_VBANK_MV, records := [] } := by
  simp [State.startSave, h1, h2, State.now]

theorem State.rdN_setPower (s : State) (p : Nat) {f : Fld} {n : Nat} (h : Fld.quiet f n = true)
    (h2 : R.LIFE_STATE_POWER.key 0 ≠ f.key n) : (s.setPower p).rdN f n = s.rdN f n := by
  unfold State.setPower
  split
  · rfl
  · rw [State.rdN_raiseKeeper _ h]; exact State.rdN_wrN_ne s _ h2

theorem State.rdN_abortHoldupTest (s : State) (k : Nat) {f : Fld} {n : Nat} (h : Fld.quiet f n = true)
    (h2 : R.KEEPER_HOLDUP_STATUS_TEST_STATE.key 0 ≠ f.key n) (h3 : R.KEEPER_HOLDUP_STATUS_LAST_RESULT.key 0 ≠ f.key n) :
    (s.abortHoldupTest k).rdN f n = s.rdN f n := by
  unfold State.abortHoldupTest
  split
  · dsimp only
    rw [State.rdN_raise _ h]
    refine (State.rdN_congr (s := (s.wr R.KEEPER_HOLDUP_STATUS_TEST_STATE 3).wr R.KEEPER_HOLDUP_STATUS_LAST_RESULT k) rfl f n).trans ?_
    unfold State.wr
    rw [State.rdN_wrN_ne _ _ h3, State.rdN_wrN_ne _ _ h2]
  · rfl

theorem State.rdN_sendDomain (s : State) (a b c : Nat) (l : List Nat) {f : Fld} {n : Nat} (h : R.DOMAIN_TX_MSGS.key 0 ≠ f.key n) :
    (s.sendDomain a b c l).rdN f n = s.rdN f n := by
  unfold State.sendDomain State.sendDomainTo
  exact (State.rdN_congr (s := s.bump R.DOMAIN_TX_MSGS 1) rfl f n).trans (State.rdN_wrN_ne s _ h)

theorem State.rdN_showSync (s : State) (c : Nat) {f : Fld} {n : Nat} (h : R.TWIN_STATUS_SYNC.key 0 ≠ f.key n)
    (h2 : R.DOMAIN_TX_MSGS.key 0 ≠ f.key n) : (s.showSync c).rdN f n = s.rdN f n := by
  have e : ((s.wr R.TWIN_STATUS_SYNC c).sendStatus).rdN f n = s.rdN f n :=
    (State.rdN_congr (by simp [State.wr]) f n).trans (State.rdN_wrN_ne s c h)
  unfold State.showSync
  split
  · rfl
  · dsimp only
    split
    · rw [← e]
      exact State.foldl_keep (fun s => s.rdN f n) _ _ _ (fun s d => State.rdN_sendDomain s _ _ _ _ h2)
    · exact e

theorem State.rdN_saveTwin (s : State) {f : Fld} {n : Nat} (h : R.TWIN_STATUS_SYNC.key 0 ≠ f.key n)
    (h2 : R.DOMAIN_TX_MSGS.key 0 ≠ f.key n) : s.saveTwin.rdN f n = s.rdN f n := by
  unfold State.saveTwin
  dsimp only
  rw [State.rdN_congr (State.sendStatus_keeps _).1 f n]
  split
  · exact (State.rdN_showSync _ 1 h h2).trans (State.rdN_congr rfl f n)
  · exact State.rdN_congr rfl f n

/-- The start of a save leaves every register field but those of the save step, the power state, the sequencer and a dropped
hold-up test, and those of the event hub, of SYNC and of the domain's counter. -/
theorem State.rdN_startSave (s : State) (trigger : Nat) (action : SaveAction) (tag : Option Nat) (change : Option Change)
    (activate : Option Nat) {f : Fld} {n : Nat} (h : Fld.quiet f n = true)
    (h2 : R.KEEPER_HOLDUP_STATUS_TEST_STATE.key 0 ≠ f.key n) (h3 : R.KEEPER_HOLDUP_STATUS_LAST_RESULT.key 0 ≠ f.key n)
    (h4 : R.LIFE_STATE_POWER.key 0 ≠ f.key n) (h5 : R.DUR_STATUS_SAVE_STEP.key 0 ≠ f.key n)
    (h6 : R.KEEPER_STATUS_SEQ_STATE.key 0 ≠ f.key n) (h7 : R.TWIN_STATUS_SYNC.key 0 ≠ f.key n)
    (h8 : R.DOMAIN_TX_MSGS.key 0 ≠ f.key n) :
    (s.startSave trigger action tag change activate).rdN f n = s.rdN f n := by
  unfold State.startSave
  split
  · rfl
  · split
    · refine (State.rdN_congr ?_ f n).trans (State.rdN_congr rfl f n)
      simp only [State.mergeChange]
      (repeat' split) <;> rfl
    · dsimp only
      rw [State.rdN_saveTwin _ h7 h8, State.rdN_occur _ h, State.rdN_keeperLog _ h, State.rdN_setPower _ _ h h4]
      unfold State.wr
      rw [State.rdN_wrN_ne _ _ h6, State.rdN_wrN_ne _ _ h5]
      refine (State.rdN_congr (s := s.abortHoldupTest 3) rfl f n).trans ?_
      exact State.rdN_abortHoldupTest s 3 h h2 h3

end Sys2Proof.Machine
end

