-- ==== Sys2Proof/Tests/Slice0.lean ====
section
/-! SUPPORT. Tests of one step or one check: ill-formed commands are refused, and states that meet the hypotheses of the statements. -/

set_option maxRecDepth 20000
set_option Elab.async false

open Sys2Proof Sys2Proof.Machine

namespace Sys2Proof.Tests
/-- The core runs. -/
def on : State := State.reset.wr R.KEEPER_STATUS_SEQ_STATE 2
/-- The core runs, and so does the keeper. -/
def up : State := { on with keeper.powered := true }
/-- GLOBAL_RESET has been armed, and its time is over. -/
def armed : State := { on.wr R.GLOBAL_STATUS_RESET_ARMED 1 with armedEnd := some 0 }
/-- An unpaired H9 that serves. -/
def holder : State := { up with twin.holder := true, start.presented := true, start.admitted := true, start.step := 11, start.tablesDone := true }
/-- Port 0 is enabled and its link is UP. -/
def portUp : State :=
  { (on.wrN R.PORT_CTRL_ENABLE 0 1).wr R.GLOBAL_OWN_IP4_ADDR 0x0A000005 with ports.port := [(0, { portIdle with links := [(0, 2)] })] }
/-- Feed A is OK; the core die is off. -/
def feedUp : State := { (State.reset.wr R.KEEPER_FEED_STATUS_A_STATE 1) with keeper.powered := true }
/-- The core runs with the rails of Table 19-1. -/
def rails : State := on
/-- A fetched command with this opcode. -/
def theCmd (op : Nat) : Cmd := ⟨1, 0, 0, op, 7, false, false, .fetched, 0, 0, 0, [], false, none, (0, 0, 0)⟩
/-- An unpaired H9 that serves, with that command in flight. -/
def cmdOf (op : Nat) : State := { (holder.wr R.LIFE_STATE_LIFECYCLE 2) with cmds := [theCmd op], nextCmd := 2 }
/-- A log record with this SEQ. -/
def newRec (n : Nat) : LogRecord := ⟨n, 1, 0, 0, 0, 0, 0, 0, false, false, false, 1, 0, []⟩
/-- The log holds record 7. -/
def logged : State := { up with keeper.flash.log := [newRec 7] }
/-- A Quench that finds nothing. -/
def quiet : QuenchReport := ⟨⟨0, 0, 0⟩, 0, []⟩
/-- A package that no floor turns away. -/
def fresh : Package := ⟨0x394C5346, 1, 0, 0, 0, 5, 0, 4096, [], Config.lisigorDigest, true⟩
/-- A TEST package with five empty images in clear. -/
def testPackage : Package :=
  { fresh with flags := 1, components := (rangeFrom 1 5).map (fun t => ⟨t, 0, 0, 0, 0, sha384 [], []⟩) }
/-- A BLANK H9 with DBG2 and FW_STAGE in flight. -/
def stagingOf : State := (((cmdOf 0x0801).wr R.LIFE_STATE_LIFECYCLE 0).wr R.LIFE_STATE_DEBUG 2)
/-- The writable region 1 lies at pair-local address 0, in the first 2 MiB of DRAM media. -/
def mapped : State :=
  { holder with prot.regions := [(1, ⟨.active, 0, 0x200000, 0, true, false, false, false, false, 0, 0, 0, 0⟩)]
                prot.extents := [⟨0, 1, 1, false, 0, 0⟩] }
/-- An admitted READ of a Cerga stream that waits for the line 0. -/
def aRead : Op :=
  ⟨3, 0, ⟨.cerga 0 0, 1, 0, 0, 0, 64, 0, 64, [], 0, none, 0, 64, 0, 0⟩, 0, some 1, false, false, [], true, none, [0], [], [], none, none, none, true, false,
    false, false, 0, 0, 0, false, false, [], [], []⟩
/-- An object of two tiles of 64 KiB with header pages. -/
def anObject : Object := ⟨.loading, 0, true, 5, 0x20000, 4, 9, [], [], [], true⟩
/-- A tile of object 0 that fills. -/
def aTile : Tile := ⟨0, 0, .filling, [], 0, [], rangeFrom 0 2, false, false, 0, 0, false, false⟩
/-- Queue 0x400003 of PD 4 has an open stream on an enabled port; PD 4 is bound to the writable region 1 and to region 2, which maps
object 0. -/
def streamOn : State :=
  { ((((((holder.wrN R.PORT_CTRL_ENABLE 0 1).wrN R.PORT_PFC_THRESH_KB 0 64).wr R.CERGA_CTRL_ENABLE 1).wr R.CERGA_CTRL_IPV4 1).wr R.CERGA_CTRL_UDP_PORT
      4792).wr R.LIFE_STATE_LIFECYCLE 2) with
    ports.port := [(0, { portIdle with links := [(0, 2)] })]
    prot.pds := [(4, ⟨7, none, 0⟩)]
    prot.bindings := [(4 * 262144 + 1, true), (4 * 262144 + 2, false)]
    prot.regions := [(1, ⟨.active, 0, 0x200000, 0x200000, true, false, false, false, false, 0, 5, 0, 0⟩),
      (2, ⟨.active, 0x200000, 0x200000, 0x200000, false, false, true, false, false, 0, 5, 0, 0⟩)]
    prot.extents := [⟨0, 1, 1, false, 0, 0⟩, ⟨1, 1, 2, true, 0, 0⟩]
    shelf.objects := [(0, { anObject with state := .ready })]
    cerga.queues := [(3, ⟨1, 4, 5, false⟩)]
    cerga.cache := [3]
    cerga.streams := [(3, { streamNone with state := .open, epoch := 9, key := some 77 })] }
/-- A request packet of that stream with this address, length and payload. -/
def packetOf (addr len : Nat) (data : List Byte) : CergaPacket :=
  { port := 0, ipv6 := false, fragment := false, options := false, extension := false, lengthOk := true, sumOk := true, udpPort := 4792, ver := 1,
    src := 5, dscp := 0, prio := none, ce := false, queued := 0, frame := 200, last := true, keyx := some 7, epoch := 9, queue := 0x400003,
    seq := 0, incarnation := 0, xmit := 0, addr, len, offset := 0, data, arrive := 0, tag := 0 }
/-- The packet with the tag of its stream key. -/
def tagged (opcode : Nat) (p : CergaPacket) : CergaPacket := { p with tag := streamOn.requestTag opcode p }
/-- A tag does not depend on the packet's tag. -/
theorem requestTag_tag (s : State) (opcode n : Nat) (p : CergaPacket) : s.requestTag opcode { p with tag := n } = s.requestTag opcode p := rfl
theorem tagged_ok (opcode : Nat) (p : CergaPacket) : (tagged opcode p).tag = streamOn.requestTag opcode (tagged opcode p) :=
  (requestTag_tag streamOn opcode _ p).symm
/-- The stream with a schedule of object 0. -/
def scheduled : State := { streamOn with shelf.schedules := [(0, ⟨0, [0, 1], true, true, 1, 4, 0, [0]⟩)] }
/-- QP 0x100000 of PD 4 is in RTS on the same port. -/
def qpOn : State :=
  { ((streamOn.wr R.ROCE_CTRL_ENABLE 1).wr R.ROCE_CTRL_IPV4 1) with roce.qps := [(0, { qpNew 4 with state := .rts, dip := 5 })], roce.cache := [0] }
/-- A request packet of that QP. -/
def rocePk (bth : Nat) (data : List Byte) : RocePacket :=
  { port := 0, ipv6 := false, udpPort := 4791, ipSumOk := true, icrcOk := true, dscp := 0, prio := none, ce := false, queued := 0, frame := 100,
    srcIp := 5, qpn := 0x100000, bth, psn := 0, ackReq := true, va := 64, rkey := 7, dmaLen := 8, swapAdd := 1, compare := 0, data }
/-- The active of a manager pair that has founded its domain, with member pair 3 and its record. -/
def manager : State :=
  { (((holder.wr R.DOMAIN_CTRL_ENABLE 1).wr R.DOMAIN_STATUS_ROLE 2).wr R.DOMAIN_STATUS_STATE 2).wr R.LIFE_STATE_LIFECYCLE 2 with
    domain.records := [(3, newRecord 5 1 100)], domain.members := [(3, newMember 8 9 [] 0)] }
/-- The active of a worker pair that has joined. -/
def worker : State := manager.wr R.DOMAIN_STATUS_ROLE 1
/-- A message header of this pair, side, epoch and MSG_ID. -/
def header (pair side epoch id : Nat) : DomainHeader :=
  ⟨false, false, false, false, true, true, 77, on.rd R.DOMAIN_CTRL_UDP_PORT, 1, pair, side, 4, epoch, id, 6, 0⟩
/-- The header with its tag. -/
def stamped (s : State) (type : Nat) (h : DomainHeader) (body : List Nat) : DomainHeader := { h with tag := s.domainTag type h body }
/-- A tag does not depend on the header's tag. -/
theorem domainTag_tag (s : State) (type n : Nat) (h : DomainHeader) (b : List Nat) :
    s.domainTag type { h with tag := n } b = s.domainTag type h b := rfl
theorem stamped_ok (s : State) (type : Nat) (h : DomainHeader) (b : List Nat) :
    (stamped s type h b).tag = s.domainTag type (stamped s type h b) b := (domainTag_tag s type _ h b).symm
/-- Request 11 of this type to this pair is open. -/
def asking (s : State) (type dst : Nat) (fields : List Nat) : State :=
  { s with domain.requests := [⟨type, dst, 11, fields, 0, 0, none, [], []⟩] }
/-- A worker that keeps the record of pair 0. -/
def keepsZero : State := { worker with domain.records := [(0, newRecord 5 1 100)] }
/-- The worker's DOMAIN_JOIN waits for its answer. -/
def joining : State :=
  { (worker.wr R.DOMAIN_STATUS_STATE 1) with domain.joinCmd := some 1, cmds := [{ theCmd 0x0704 with phase := .running }], nextCmd := 2 }
/-- The paired worker that does not hold the token. -/
def standby : State :=
  { worker.wr R.CIPHER_STATUS_CLUSTERS_OK 255 with twin.peer := some 9, twin.holder := false, domain.reportAt := 0 }
/-- A worker with two changes in its outbox. -/
def reporting : State := { worker with domain.outbox := [(1, 0, ⟨1, 0, 64, 1⟩), (2, 1, ⟨1, 0, 64, 1⟩)], domain.dirSeq := 2 }
/-- The manager with a push for pair 3 under way. -/
def pushing : State := { manager with domain.pushes := [⟨3, 2, 0x0105, [6], none, true⟩] }
/-- The manager aggregates on ring 0. -/
def sinking : State := { manager with meter.setups := [(0, ⟨true, false, false, true, 0, 10⟩)] }
/-- A worker outside its domain with DOMAIN_JOIN in flight and a domain key in slot 6. -/
def outside : State :=
  { (worker.wr R.DOMAIN_STATUS_STATE 0) with cmds := [theCmd 0x0704], nextCmd := 2, crypt.slots := [(6, ⟨4, false, 9, 1, false, 0, 0, 0⟩)] }
/-- The manager with a provisional grant on pair 3. -/
def lapsing : State := { manager with domain.records := [(3, { newRecord 5 1 100 with provisional := some (0, 0) })] }
/-- The holder of a pair whose link is UP; its lease ends at 1 s. -/
def linked : State :=
  { (((holder.wr R.TWIN_STATUS_LINK 2).wr R.CIPHER_STATUS_CLUSTERS_OK 255).wr R.LIFE_STATE_LIFECYCLE 2).wr R.TWIN_TOKEN_EPOCH_VALUE 5 with
    twin.peer := some 9, twin.leaseEnd := some 1000000000, twin.peerStatus.accepting := true, start.tablesDone := true, start.units := [] }
/-- Its standby, CURRENT. -/
def follower : State := { (linked.wr R.TWIN_STATUS_SYNC 0) with twin.holder := false, twin.leaseEnd := none }
/-- The follower with region 1 mapped at pair-local address 0. -/
def mirroring : State := { follower with prot.regions := mapped.prot.regions, prot.extents := mapped.prot.extents }
/-- The prefix of a mirror record of stream 3 at address 64. -/
def aPrefix : MirrorPrefix := ⟨64, 3, 5, 4, 0, 0, 9⟩
/-- A paired H9 whose link trains, after the peer's IDENT. -/
def training : State := { (linked.wr R.TWIN_STATUS_LINK 1) with twin.ident := some [5, 3] }
/-- A pair's command in flight. -/
def twinCmd (s : State) (op : Nat) : State := { s with cmds := [theCmd op], nextCmd := 2 }
/-- The first piece of a record of 4 bytes is here. -/
def twoPieces : State := { mirroring with twin.partials := [⟨2, 1, 36, aPrefix, [(0, [1, 2, 3])], false, []⟩] }
theorem verifies (t : Nat) : Component.verifies testPackage ⟨t, 0, 0, 0, 0, sha384 [], []⟩ = true := by
  have h : Package.test testPackage = true := rfl
  simp [Component.verifies, Component.plain, h]
theorem stages : Accepts stagingOf ⟨0, 0⟩ 0x0801 (theCmd 0x0801) ∧ 0 % 64 = 0 ∧ stagingOf.trialPending = false ∧ 4096 ≤ 64 * 2 ^ 20 ∧
    stagingOf.packageVerifies testPackage = true ∧ stagingOf.fresherThanFloors testPackage = true := by
  refine ⟨by decide +kernel, rfl, by decide +kernel, by decide, ?_, ?_⟩
  · have h : testPackage.components.all (Component.verifies testPackage) = true :=
      List.all_eq_true.mpr (fun c hc => by obtain ⟨t, _, rfl⟩ := List.mem_map.mp hc; exact verifies t)
    have l : stagingOf.rd R.LIFE_STATE_LIFECYCLE = 0 ∧ stagingOf.rd R.LIFE_STATE_DEBUG = 2 := by decide +kernel
    have e : testPackage.components.map (·.type) = [1, 2, 3, 4, 5] := rfl
    have f : testPackage.components.all Component.fits = true := rfl
    simp [State.packageVerifies, h, l, e, f]
    simp [testPackage, fresh]
  · have l : stagingOf.rd R.FW_OTP_EPOCH = 0 ∧ ∀ n < 5, stagingOf.rdN R.FW_FLOOR_SVN n = 0 := by decide +kernel
    simp [State.fresherThanFloors, testPackage, fresh, l.1, rangeFrom, l.2]

/-! ### Ill-formed commands are refused -/

/-- Each field of a `CmdRef` is checked: a number one too large for it is refused. -/
theorem test_wf_CmdRef : ([⟨2^6, 0⟩, ⟨0, 2^16⟩] : List CmdRef).all (fun x => x.fields.any (fun f => !f.fits)) = true := by decide

/-- Each field of a `Descriptor` is checked: a number one too large for it is refused. -/
theorem test_wf_Descriptor : ([⟨2^16, 0, false, false, false, false⟩, ⟨0, 2^64, false, false, false, false⟩] : List Descriptor).all (fun x => x.fields.any (fun f => !f.fits)) = true := by decide

/-- Each field of a `AuthBlob` is checked: a number one too large for it is refused. -/
theorem test_wf_AuthBlob : ([⟨2^32, 0, 0, 0, 0, 0, 0, 0, false, 0⟩, ⟨0, 2^32, 0, 0, 0, 0, 0, 0, false, 0⟩, ⟨0, 0, 2^32, 0, 0, 0, 0, 0, false, 0⟩, ⟨0, 0, 0, 2^64, 0, 0, 0, 0, false, 0⟩, ⟨0, 0, 0, 0, 2^256, 0, 0, 0, false, 0⟩, ⟨0, 0, 0, 0, 0, 2^64, 0, 0, false, 0⟩, ⟨0, 0, 0, 0, 0, 0, 2^384, 0, false, 0⟩, ⟨0, 0, 0, 0, 0, 0, 0, 2^384, false, 0⟩, ⟨0, 0, 0, 0, 0, 0, 0, 0, false, 2^64⟩] : List AuthBlob).all (fun x => x.fields.any (fun f => !f.fits)) = true := by decide

/-- Each field of a `Component` is checked: a number one too large for it is refused. -/
theorem test_wf_Component : ([⟨2^8, 0, 0, 0, 0, 0, []⟩, ⟨0, 2^32, 0, 0, 0, 0, []⟩, ⟨0, 0, 2^32, 0, 0, 0, []⟩, ⟨0, 0, 0, 2^96, 0, 0, []⟩, ⟨0, 0, 0, 0, 2^128, 0, []⟩, ⟨0, 0, 0, 0, 0, 2^384, []⟩] : List Component).all (fun x => x.fields.any (fun f => !f.fits)) = true := by decide

/-- Each field of a `Package` is checked: a number one too large for it is refused. -/
theorem test_wf_Package : ([⟨2^32, 0, 0, 0, 0, 0, 0, 0, [], 0, false⟩, ⟨0, 2^16, 0, 0, 0, 0, 0, 0, [], 0, false⟩, ⟨0, 0, 2^16, 0, 0, 0, 0, 0, [], 0, false⟩, ⟨0, 0, 0, 2^32, 0, 0, 0, 0, [], 0, false⟩, ⟨0, 0, 0, 0, 2^8, 0, 0, 0, [], 0, false⟩, ⟨0, 0, 0, 0, 0, 2^8, 0, 0, [], 0, false⟩, ⟨0, 0, 0, 0, 0, 0, 2^16, 0, [], 0, false⟩, ⟨0, 0, 0, 0, 0, 0, 0, 2^32, [], 0, false⟩] : List Package).all (fun x => x.fields.any (fun f => !f.fits)) = true := by decide

/-- Each field of a `CergaPacket` is checked: a number one too large for it is refused. -/
theorem test_wf_CergaPacket : ([⟨2^6, false, false, false, false, false, false, 0, 0, 0, 0, none, false, 0, 0, false, none, 0, 0, 0, 0, 0, 0, 0, 0, [], 0, 0⟩, ⟨0, false, false, false, false, false, false, 2^16, 0, 0, 0, none, false, 0, 0, false, none, 0, 0, 0, 0, 0, 0, 0, 0, [], 0, 0⟩, ⟨0, false, false, false, false, false, false, 0, 2^4, 0, 0, none, false, 0, 0, false, none, 0, 0, 0, 0, 0, 0, 0, 0, [], 0, 0⟩, ⟨0, false, false, false, false, false, false, 0, 0, 0, 2^6, none, false, 0, 0, false, none, 0, 0, 0, 0, 0, 0, 0, 0, [], 0, 0⟩, ⟨0, false, false, false, false, false, false, 0, 0, 0, 0, none, false, 0, 2^14, false, none, 0, 0, 0, 0, 0, 0, 0, 0, [], 0, 0⟩, ⟨0, false, false, false, false, false, false, 0, 0, 0, 0, none, false, 0, 0, false, none, 2^16, 0, 0, 0, 0, 0, 0, 0, [], 0, 0⟩, ⟨0, false, false, false, false, false, false, 0, 0, 0, 0, none, false, 0, 0, false, none, 0, 2^32, 0, 0, 0, 0, 0, 0, [], 0, 0⟩, ⟨0, false, false, false, false, false, false, 0, 0, 0, 0, none, false, 0, 0, false, none, 0, 0, 2^32, 0, 0, 0, 0, 0, [], 0, 0⟩, ⟨0, false, false, false, false, false, false, 0, 0, 0, 0, none, false, 0, 0, false, none, 0, 0, 0, 2^16, 0, 0, 0, 0, [], 0, 0⟩, ⟨0, false, false, false, false, false, false, 0, 0, 0, 0, none, false, 0, 0, false, none, 0, 0, 0, 0, 2^16, 0, 0, 0, [], 0, 0⟩, ⟨0, false, false, false, false, false, false, 0, 0, 0, 0, none, false, 0, 0, false, none, 0, 0, 0, 0, 0, 2^64, 0, 0, [], 0, 0⟩, ⟨0, false, false, false, false, false, false, 0, 0, 0, 0, none, false, 0, 0, false, none, 0, 0, 0, 0, 0, 0, 2^32, 0, [], 0, 0⟩, ⟨0, false, false, false, false, false, false, 0, 0, 0, 0, none, false, 0, 0, false, none, 0, 0, 0, 0, 0, 0, 0, 2^32, [], 0, 0⟩, ⟨0, false, false, false, false, false, false, 0, 0, 0, 0, none, false, 0, 0, false, none, 0, 0, 0, 0, 0, 0, 0, 0, [], 2^64, 0⟩, ⟨0, false, false, false, false, false, false, 0, 0, 0, 0, none, false, 0, 0, false, none, 0, 0, 0, 0, 0, 0, 0, 0, [], 0, 2^128⟩] : List CergaPacket).all (fun x => x.fields.any (fun f => !f.fits)) = true := by decide

/-- Each field of a `RocePacket` is checked: a number one too large for it is refused. -/
theorem test_wf_RocePacket : ([⟨2^6, false, 0, false, false, 0, none, false, 0, 0, 0, 0, 0, 0, false, 0, 0, 0, 0, 0, []⟩, ⟨0, false, 2^16, false, false, 0, none, false, 0, 0, 0, 0, 0, 0, false, 0, 0, 0, 0, 0, []⟩, ⟨0, false, 0, false, false, 2^6, none, false, 0, 0, 0, 0, 0, 0, false, 0, 0, 0, 0, 0, []⟩, ⟨0, false, 0, false, false, 0, none, false, 0, 2^14, 0, 0, 0, 0, false, 0, 0, 0, 0, 0, []⟩, ⟨0, false, 0, false, false, 0, none, false, 0, 0, 2^128, 0, 0, 0, false, 0, 0, 0, 0, 0, []⟩, ⟨0, false, 0, false, false, 0, none, false, 0, 0, 0, 2^24, 0, 0, false, 0, 0, 0, 0, 0, []⟩, ⟨0, false, 0, false, false, 0, none, false, 0, 0, 0, 0, 2^8, 0, false, 0, 0, 0, 0, 0, []⟩, ⟨0, false, 0, false, false, 0, none, false, 0, 0, 0, 0, 0, 2^24, false, 0, 0, 0, 0, 0, []⟩, ⟨0, false, 0, false, false, 0, none, false, 0, 0, 0, 0, 0, 0, false, 2^64, 0, 0, 0, 0, []⟩, ⟨0, false, 0, false, false, 0, none, false, 0, 0, 0, 0, 0, 0, false, 0, 2^32, 0, 0, 0, []⟩, ⟨0, false, 0, false, false, 0, none, false, 0, 0, 0, 0, 0, 0, false, 0, 0, 2^32, 0, 0, []⟩, ⟨0, false, 0, false, false, 0, none, false, 0, 0, 0, 0, 0, 0, false, 0, 0, 0, 2^64, 0, []⟩, ⟨0, false, 0, false, false, 0, none, false, 0, 0, 0, 0, 0, 0, false, 0, 0, 0, 0, 2^64, []⟩] : List RocePacket).all (fun x => x.fields.any (fun f => !f.fits)) = true := by decide

/-- Each field of a `MirrorPrefix` is checked: a number one too large for it is refused. -/
theorem test_wf_MirrorPrefix : ([⟨2^64, 0, 0, 0, 0, 0, 0⟩, ⟨0, 2^32, 0, 0, 0, 0, 0⟩, ⟨0, 0, 2^64, 0, 0, 0, 0⟩, ⟨0, 0, 0, 2^16, 0, 0, 0⟩, ⟨0, 0, 0, 0, 2^8, 0, 0⟩, ⟨0, 0, 0, 0, 0, 2^16, 0⟩, ⟨0, 0, 0, 0, 0, 0, 2^32⟩] : List MirrorPrefix).all (fun x => x.fields.any (fun f => !f.fits)) = true := by decide

/-- Each field of a `DramReport` is checked: a number one too large for it is refused. -/
theorem test_wf_DramReport : ([⟨2^4, 0, false, 0, 0, 0, 0, 0, 0, 0⟩, ⟨0, 2^2, false, 0, 0, 0, 0, 0, 0, 0⟩, ⟨0, 0, false, 0, 2^3, 0, 0, 0, 0, 0⟩, ⟨0, 0, false, 0, 0, 0, 0, 2^4, 0, 0⟩] : List DramReport).all (fun x => x.fields.any (fun f => !f.fits)) = true := by decide

/-- Each field of a `FlashReport` is checked: a number one too large for it is refused. -/
theorem test_wf_FlashReport : ([⟨2^5, 0, 0, 0, 0, 0, 0, 0⟩, ⟨0, 2^5, 0, 0, 0, 0, 0, 0⟩, ⟨0, 0, 0, 0, 0, 0, 2^4, 0⟩] : List FlashReport).all (fun x => x.fields.any (fun f => !f.fits)) = true := by decide

/-- Each field of a `FlashBlock` is checked: a number one too large for it is refused. -/
theorem test_wf_FlashBlock : ([⟨2^5, 0, 0⟩, ⟨0, 2^4, 0⟩, ⟨0, 0, 2^20⟩] : List FlashBlock).all (fun x => x.fields.any (fun f => !f.fits)) = true := by decide

/-- Each field of a `QpParams` is checked: a number one too large for it is refused. -/
theorem test_wf_QpParams : ([⟨2^8, 0, 0, 0, 0, 0, 0, 0⟩, ⟨0, 2^8, 0, 0, 0, 0, 0, 0⟩, ⟨0, 0, 2^8, 0, 0, 0, 0, 0⟩, ⟨0, 0, 0, 2^24, 0, 0, 0, 0⟩, ⟨0, 0, 0, 0, 2^24, 0, 0, 0⟩, ⟨0, 0, 0, 0, 0, 2^128, 0, 0⟩, ⟨0, 0, 0, 0, 0, 0, 2^32, 0⟩, ⟨0, 0, 0, 0, 0, 0, 0, 2^8⟩] : List QpParams).all (fun x => x.fields.any (fun f => !f.fits)) = true := by decide

/-- Each field of a `CipherParams` is checked: a number one too large for it is refused. -/
theorem test_wf_CipherParams : ([⟨2^8, false, false, 0, 0, 0, 0, 0, 0, 0, []⟩, ⟨0, false, false, 2^16, 0, 0, 0, 0, 0, 0, []⟩, ⟨0, false, false, 0, 2^16, 0, 0, 0, 0, 0, []⟩, ⟨0, false, false, 0, 0, 2^32, 0, 0, 0, 0, []⟩, ⟨0, false, false, 0, 0, 0, 2^32, 0, 0, 0, []⟩, ⟨0, false, false, 0, 0, 0, 0, 2^64, 0, 0, []⟩, ⟨0, false, false, 0, 0, 0, 0, 0, 2^64, 0, []⟩, ⟨0, false, false, 0, 0, 0, 0, 0, 0, 2^128, []⟩] : List CipherParams).all (fun x => x.fields.any (fun f => !f.fits)) = true := by decide

/-- Each field of a `QuenchReport` is checked: a number one too large for it is refused. -/
theorem test_wf_QuenchReport : ([⟨⟨0, 0, 0⟩, 2^32, []⟩] : List QuenchReport).all (fun x => x.fields.any (fun f => !f.fits)) = true := by decide

/-- Each field of a `DomainHeader` is checked: a number one too large for it is refused. -/
theorem test_wf_DomainHeader : ([⟨false, false, false, false, false, false, 2^128, 0, 0, 0, 0, 0, 0, 0, 0, 0⟩, ⟨false, false, false, false, false, false, 0, 2^16, 0, 0, 0, 0, 0, 0, 0, 0⟩, ⟨false, false, false, false, false, false, 0, 0, 2^4, 0, 0, 0, 0, 0, 0, 0⟩, ⟨false, false, false, false, false, false, 0, 0, 0, 2^13, 0, 0, 0, 0, 0, 0⟩, ⟨false, false, false, false, false, false, 0, 0, 0, 0, 2^1, 0, 0, 0, 0, 0⟩, ⟨false, false, false, false, false, false, 0, 0, 0, 0, 0, 2^64, 0, 0, 0, 0⟩, ⟨false, false, false, false, false, false, 0, 0, 0, 0, 0, 0, 2^32, 0, 0, 0⟩, ⟨false, false, false, false, false, false, 0, 0, 0, 0, 0, 0, 0, 2^32, 0, 0⟩, ⟨false, false, false, false, false, false, 0, 0, 0, 0, 0, 0, 0, 0, 2^64, 0⟩, ⟨false, false, false, false, false, false, 0, 0, 0, 0, 0, 0, 0, 0, 0, 2^128⟩] : List DomainHeader).all (fun x => x.fields.any (fun f => !f.fits)) = true := by decide

/-- Each field of a `DirChange` is checked: a number one too large for it is refused. -/
theorem test_wf_DirChange : ([⟨2^8, 0, 0, 0, 0⟩, ⟨0, 2^18, 0, 0, 0⟩, ⟨0, 0, 2^51, 0, 0⟩, ⟨0, 0, 0, 2^64, 0⟩, ⟨0, 0, 0, 0, 2^16⟩] : List DirChange).all (fun x => x.fields.any (fun f => !f.fits)) = true := by decide

/-- One operand too large for its field: each of these commands is refused. -/
theorem test_wf_rows_1 : ([
    .registerWrite (2^32) 0 false, .counterPairCapture .pcie (2^32), .portCtrlWrite (2^8) 0, .portAdmissionOpen (2^8),
    .svcAddressWrite (2^32) 0, .nearCacheDisable (2^4), .nearCacheEnable (2^4), .tierStageWrite (2^32), .ringEnable .cmd (2^8),
    .ringDisable .cmd (2^8), .cmdTail (2^8) 0, .cplHead (2^8) 0, .evHead (2^8) 0, .exHead (2^8) 0, .keeperCommit .pcie (2^32),
    .wordProgram .pcie (2^32) 0, .bufferProgram .pcie (2^32) [], .sectorErase .pcie (2^32), .logRecordSelect .pcie (2^32),
    .descriptorFetch (2^8) [] false] : List Instr).all (fun i => !i.wf) = true := by decide

/-- One operand too large for its field: each of these commands is refused. -/
theorem test_wf_rows_2 : ([
    .commandCompletion ⟨2^6, 0⟩, .coalescingTimer .cmd (2^8), .regionCreate ⟨0, 0⟩ (2^64) 0 0 0 0 0, .regionResize ⟨0, 0⟩ (2^32) 0
    0, .regionDestroy ⟨0, 0⟩ (2^32), .regionSetFlags ⟨0, 0⟩ (2^32) 0 0 0, .pdCreate ⟨0, 0⟩ (2^32), .pdDestroy ⟨0, 0⟩ (2^32),
    .pdBindRegion ⟨0, 0⟩ (2^32) 0 0, .pdUnbindRegion ⟨0, 0⟩ (2^32) 0, .spacekeySet ⟨0, 0⟩ (2^32) 0 0, .queueCreate ⟨0, 0⟩ (2^32) 0
    0, .queueDestroy ⟨0, 0⟩ (2^32), .qpCreate ⟨0, 0⟩ (2^32) 0, .qpModify ⟨0, 0⟩ (2^32) 0 ⟨0, 0, 0, 0, 0, 0, 0, 0⟩, .qpDestroy ⟨0,
    0⟩ (2^32), .keyCommit ⟨0, 0⟩ (2^32) 0 0 0 0 0, .keyDestroy ⟨0, 0⟩ (2^32) 0, .cipherOp ⟨0, 0⟩ ⟨2^8, false, false, 0, 0, 0, 0,
    0, 0, 0, []⟩, .contextSave ⟨0, 0⟩ (2^32) 0 0] : List Instr).all (fun i => !i.wf) = true := by decide

/-- One operand too large for its field: each of these commands is refused. -/
theorem test_wf_rows_3 : ([
    .contextRestore ⟨0, 0⟩ (2^32) 0 0 [], .shelfObjectCreate ⟨0, 0⟩ (2^32) 0 0 0 0 0 0, .shelfObjectLoad ⟨0, 0⟩ (2^32) 0 0 0 [],
    .shelfObjectDrop ⟨0, 0⟩ (2^32), .scheduleLoad ⟨0, 0⟩ (2^32) 0 0 0 0 0 0 0 [], .scheduleDrop ⟨0, 0⟩ (2^32), .cacheLock ⟨0, 0⟩
    (2^32) 0 0, .cacheUnlock ⟨0, 0⟩ (2^32) 0 0, .cacheRangeInvalidate ⟨0, 0⟩ (2^32) 0 0, .accountCreate ⟨0, 0⟩ (2^32) 0 0,
    .accountBind ⟨0, 0⟩ (2^32) 0 0, .meterExportSetup ⟨0, 0⟩ (2^8) 0 0 0, .shaperSet ⟨0, 0⟩ (2^32) 0 0 0 0, .twinPair ⟨0, 0⟩
    (2^64) 0 0 0, .twinSwitch ⟨0, 0⟩ (2^8) 0, .twinResync ⟨0, 0⟩ (2^8), .domainJoin ⟨0, 0⟩ (2^8) 0 0 0 0 0 0, .domainLeave ⟨0, 0⟩
    (2^8) 0, .fwStage ⟨0, 0⟩ (2^64) 0 ⟨0, 0, 0, 0, 0, 0, 0, 0, [], 0, false⟩, .fwActivate ⟨0, 0⟩ (2^8)] : List Instr).all (fun i => !i.wf) = true := by decide

/-- One operand too large for its field: each of these commands is refused. -/
theorem test_wf_rows_4 : ([
    .fwCommit ⟨2^6, 0⟩, .lifecycleRequest ⟨0, 0⟩ (2^32) 0 0 ⟨0, 0, 0, 0, 0, 0, 0, 0, false, 0⟩, .hallmarkIssue ⟨0, 0⟩ (2^256) 0,
    .diagRead ⟨0, 0⟩ (2^8) 0 0 0, .ledgerRead ⟨0, 0⟩ (2^64) 0 0 0, .memopRead ⟨0, 0⟩ (2^32) 0 0 0 0, .memopWrite ⟨0, 0⟩ (2^32) 0 0
    0 0 [], .saveNow ⟨0, 0⟩ (2^8) 0, .quiesce ⟨0, 0⟩ (2^8) 0, .resume ⟨0, 0⟩ (2^32), .mboxRead (2^64) 0, .mboxWrite (2^64) 0 0,
    .wake (2^64) false, .mboxStatus (2^64), .eventRead (2^64) 0 0, .authChunk (2^64) 0 [], .lifecycleSubmit (2^64) 0 0 0 false,
    .read ⟨2^6, false, false, false, false, false, false, 0, 0, 0, 0, none, false, 0, 0, false, none, 0, 0, 0, 0, 0, 0, 0, 0, [],
    0, 0⟩, .write ⟨2^6, false, false, false, false, false, false, 0, 0, 0, 0, none, false, 0, 0, false, none, 0, 0, 0, 0, 0, 0, 0,
    0, [], 0, 0⟩, .cas8 ⟨2^6, false, false, false, false, false, false, 0, 0, 0, 0, none, false, 0, 0, false, none, 0, 0, 0, 0, 0,
    0, 0, 0, [], 0, 0⟩] : List Instr).all (fun i => !i.wf) = true := by decide

/-- One operand too large for its field: each of these commands is refused. -/
theorem test_wf_rows_5 : ([
    .cas16 ⟨2^6, false, false, false, false, false, false, 0, 0, 0, 0, none, false, 0, 0, false, none, 0, 0, 0, 0, 0, 0, 0, 0, [],
    0, 0⟩, .fadd8 ⟨2^6, false, false, false, false, false, false, 0, 0, 0, 0, none, false, 0, 0, false, none, 0, 0, 0, 0, 0, 0, 0,
    0, [], 0, 0⟩, .fence ⟨2^6, false, false, false, false, false, false, 0, 0, 0, 0, none, false, 0, 0, false, none, 0, 0, 0, 0,
    0, 0, 0, 0, [], 0, 0⟩, .shelfRead ⟨2^6, false, false, false, false, false, false, 0, 0, 0, 0, none, false, 0, 0, false, none,
    0, 0, 0, 0, 0, 0, 0, 0, [], 0, 0⟩, .scheduleAdvance ⟨2^6, false, false, false, false, false, false, 0, 0, 0, 0, none, false,
    0, 0, false, none, 0, 0, 0, 0, 0, 0, 0, 0, [], 0, 0⟩, .ledgerQuery ⟨2^6, false, false, false, false, false, false, 0, 0, 0, 0,
    none, false, 0, 0, false, none, 0, 0, 0, 0, 0, 0, 0, 0, [], 0, 0⟩, .hallmark ⟨2^6, false, false, false, false, false, false,
    0, 0, 0, 0, none, false, 0, 0, false, none, 0, 0, 0, 0, 0, 0, 0, 0, [], 0, 0⟩, .timeQuery ⟨2^6, false, false, false, false,
    false, false, 0, 0, 0, 0, none, false, 0, 0, false, none, 0, 0, 0, 0, 0, 0, 0, 0, [], 0, 0⟩, .clientAcknowledgement ⟨2^6,
    false, false, false, false, false, false, 0, 0, 0, 0, none, false, 0, 0, false, none, 0, 0, 0, 0, 0, 0, 0, 0, [], 0, 0⟩,
    .ackDelayTimer (2^32), .assemblyTimerExpiry (2^64), .streamLapse (2^32), .heldPacketAdmission (2^32) 0, .contextFetchComplete
    (2^32), .tagWaitTimeout (2^32) 0, .rdmaWrite ⟨2^6, false, 0, false, false, 0, none, false, 0, 0, 0, 0, 0, 0, false, 0, 0, 0,
    0, 0, []⟩, .rdmaReadRequest ⟨2^6, false, 0, false, false, 0, none, false, 0, 0, 0, 0, 0, 0, false, 0, 0, 0, 0, 0, []⟩,
    .cmpswap ⟨2^6, false, 0, false, false, 0, none, false, 0, 0, 0, 0, 0, 0, false, 0, 0, 0, 0, 0, []⟩, .fetchadd ⟨2^6, false, 0,
    false, false, 0, none, false, 0, 0, 0, 0, 0, 0, false, 0, 0, 0, 0, 0, []⟩, .roceUnsupportedOpcode ⟨2^6, false, 0, false,
    false, 0, none, false, 0, 0, 0, 0, 0, 0, false, 0, 0, 0, 0, 0, []⟩] : List Instr).all (fun i => !i.wf) = true := by decide

/-- One operand too large for its field: each of these commands is refused. -/
theorem test_wf_rows_6 : ([
    .cnp ⟨2^6, false, 0, false, false, 0, none, false, 0, 0, 0, 0, 0, 0, false, 0, 0, 0, 0, 0, []⟩, .qpContextFetchComplete
    (2^32), .roceAssemblyTimeout (2^64), .operationCompletion (2^64), .zeroFillComplete (2^32), .drainComplete (2^32), .drainLimit
    (2^32), .gracePeriodEnd (2^32), .paceMonitorSample (2^8) 0, .gatherApply (2^64), .budgetRecomputation (2^32), .holdTimeout
    (2^32) 0, .dirtyMapClear (2^32), .saveSequenceEnd (2^32) ⟨⟨0, 0, 0⟩, 0, []⟩, .holdupTestStart (2^32), .holdupTestV1Read
    (2^32), .holdupTestVEnd (2^32), .holdupRechargeDone (2^32), .esrPulse (2^32) 0, .brazeTrainingComplete (2^8)] : List Instr).all (fun i => !i.wf) = true := by decide

/-- One operand too large for its field: each of these commands is refused. -/
theorem test_wf_rows_7 : ([
    .brazeFrame (2^1) 0 0 0 [] [], .mirror (2^5) 0 0 false ⟨0, 0, 0, 0, 0, 0, 0⟩ [], .mirrorCont (2^5) 0 0 false [],
    .dropRemainder (2^5) 0, .mirrorAck [2^32], .streamState [2^64], .command (2^32) 0 [], .leaseRenew (2^64), .leaseAck (2^64),
    .status (2^2) 0 0 0 0 0 false 0, .assayDigest (2^5) 0 0 0, .shadow (2^64) 0 0 0 0, .handover [] (2^32) 0 false, .handoverAck
    (2^32), .resyncData (2^32) none [] [] [], .resyncCtrl (2^32) 0, .tile (2^32) [] [], .replay (2^64), .ident (2^384) 0 0 0 0,
    .assayEpochClose (2^32)] : List Instr).all (fun i => !i.wf) = true := by decide

/-- One operand too large for its field: each of these commands is refused. -/
theorem test_wf_rows_8 : ([
    .nearFillComplete (2^16) false, .tileFillProgress (2^32) 0 false, .tileEvictionComplete (2^32) 0, .tileRecoveryComplete (2^32)
    0 false, .refreshDue (2^8) 0, .dramSensorRead (2^8) none, .dramRequestAged (2^16), .spprComplete (2^8) 0 0 0, .caParityError
    (2^8) 0, .dramTrainingComplete [⟨2^4, 0, false, 0, 0, 0, 0, 0, 0, 0⟩], .flashTrainingComplete [⟨2^5, 0, 0, 0, 0, 0, 0, 0⟩],
    .journalReplayComplete false [] (2^64) 0 false, .flashReadComplete (.image 0) (2^4), .flashProgramComplete ⟨2^5, 0, 0⟩ [] 0
    false, .flashEraseComplete ⟨2^5, 0, 0⟩ false, .dieCommandTimeout (2^8) 0 false, .reclaim ⟨2^5, 0, 0⟩ 0, .planish ⟨2^5, 0, 0⟩
    ⟨0, 0, 0⟩ 0, .anneal ⟨2^5, 0, 0⟩ 0 [], .scrub (2^8) 0 none false] : List Instr).all (fun i => !i.wf) = true := by decide

/-- One operand too large for its field: each of these commands is refused. -/
theorem test_wf_rows_9 : ([
    .tableReloadComplete (2^32) 0 false, .poisonRepairComplete (2^64) false, .shaperRelease (2^32), .witnessRenew ⟨false, false,
    false, false, false, false, 2^128, 0, 0, 0, 0, 0, 0, 0, 0, 0⟩ 0, .confirm ⟨false, false, false, false, false, false, 2^128, 0,
    0, 0, 0, 0, 0, 0, 0, 0⟩ 0, .refuse ⟨false, false, false, false, false, false, 2^128, 0, 0, 0, 0, 0, 0, 0, 0, 0⟩ 0 0,
    .grantRequest ⟨false, false, false, false, false, false, 2^128, 0, 0, 0, 0, 0, 0, 0, 0, 0⟩ 0, .grant ⟨false, false, false,
    false, false, false, 2^128, 0, 0, 0, 0, 0, 0, 0, 0, 0⟩ 0, .markRequest ⟨false, false, false, false, false, false, 2^128, 0, 0,
    0, 0, 0, 0, 0, 0, 0⟩, .markGrant ⟨false, false, false, false, false, false, 2^128, 0, 0, 0, 0, 0, 0, 0, 0, 0⟩, .markClear
    ⟨false, false, false, false, false, false, 2^128, 0, 0, 0, 0, 0, 0, 0, 0, 0⟩, .epochRegister ⟨false, false, false, false,
    false, false, 2^128, 0, 0, 0, 0, 0, 0, 0, 0, 0⟩ 0 0, .statusReport ⟨false, false, false, false, false, false, 2^128, 0, 0, 0,
    0, 0, 0, 0, 0, 0⟩ 0, .dirUpdate ⟨false, false, false, false, false, false, 2^128, 0, 0, 0, 0, 0, 0, 0, 0, 0⟩ 0 [], .dirAck
    ⟨false, false, false, false, false, false, 2^128, 0, 0, 0, 0, 0, 0, 0, 0, 0⟩ 0 false 0, .push ⟨false, false, false, false,
    false, false, 2^128, 0, 0, 0, 0, 0, 0, 0, 0, 0⟩ 0 0 [], .pushAck ⟨false, false, false, false, false, false, 2^128, 0, 0, 0, 0,
    0, 0, 0, 0, 0⟩ 0 0 0, .join ⟨false, false, false, false, false, false, 2^128, 0, 0, 0, 0, 0, 0, 0, 0, 0⟩ 0 0 0 0 0 [],
    .joinAck ⟨false, false, false, false, false, false, 2^128, 0, 0, 0, 0, 0, 0, 0, 0, 0⟩ 0 0, .leave ⟨false, false, false, false,
    false, false, 2^128, 0, 0, 0, 0, 0, 0, 0, 0, 0⟩] : List Instr).all (fun i => !i.wf) = true := by decide

/-- One operand too large for its field: each of these commands is refused. -/
theorem test_wf_rows_10 : ([
    .meterRecord ⟨false, false, false, false, false, false, 2^128, 0, 0, 0, 0, 0, 0, 0, 0, 0⟩ [], .provisionalGrantLapse (2^32),
    .aggWaitTimer (2^64) 0, .ptpMessage (2^8) false 0 0 0 false, .ppsInEdge (2^64), .clusterFault (2^3) [] [], .rampTimeout (2^8),
    .railWindowFault (2^8) 0, .railFaultHold (2^8), .readVoutPoll (2^8) 0, .railHardLimitBreach (2^8), .dischargeTimer (2^8),
    .pmbusAlert (2^8) none, .keeperSupplyLow (2^32), .keeperFlashOpComplete (2^8) false, .logSectorErase (2^8) false,
    .watchdogExpiry (2^4) [], .firmwareLoadComplete [2^32] [], .restoreWaitTimeout (2^64), .twinPageTimeout (2^40)] : List Instr).all (fun i => !i.wf) = true := by decide

/-- One operand too large for its field: each of these commands is refused. -/
theorem test_wf_rows_11 : ([
    .thermTripNAssert (2^16), .junctionOvertemp (2^16), .hardCutCondition (2^16), .thermTripRelease (2^16), .inputStuckTimer
    (2^8), .inputUnmask (2^8), .outputReadbackMismatch (2^8) false, .refclkLost (2^8), .refclkRegained (2^8), .linkStateChange
    (2^8) 0 0 0 false 0, .arpRequest (2^6) false 0, .repeatWindowExpiry (2^8), .stormSecondEnd (2^8), .senseInputReversed (2^8),
    .holdupBankAtStartV (2^32), .keeperSupplyRecovered (2^32), .mgmtCoreMemoryUe (2^4) 0 0 [], .shutdownRailCollapse (2^8)] : List Instr).all (fun i => !i.wf) = true := by decide

/-- With every operand 0 each command is well-formed. -/
theorem test_wf_zero_1 : ([
    .registerWrite 0 0 false, .counterPairCapture .pcie 0, .portCtrlWrite 0 0, .portAdmissionOpen 0, .globalResetArm,
    .globalResetFire, .resetArmExpiry, .svcAddressWrite 0 0, .nearCacheDisable 0, .nearCacheEnable 0, .tierStageWrite 0,
    .ringEnable .cmd 0, .ringDisable .cmd 0, .cmdTail 0 0, .cplHead 0 0, .evHead 0 0, .exHead 0 0, .keeperCommit .pcie 0,
    .wordProgram .pcie 0 0, .bufferProgram .pcie 0 [], .sectorErase .pcie 0, .abort .pcie, .sequenceGapTimeout .pcie,
    .logRecordSelect .pcie 0, .descriptorFetch 0 [] false, .commandCompletion ⟨0, 0⟩, .coalescingTimer .cmd 0,
    .functionLevelReset, .pcieLinkDown, .regionCreate ⟨0, 0⟩ 0 0 0 0 0 0, .regionResize ⟨0, 0⟩ 0 0 0, .regionDestroy ⟨0, 0⟩ 0,
    .regionSetFlags ⟨0, 0⟩ 0 0 0 0, .pdCreate ⟨0, 0⟩ 0, .pdDestroy ⟨0, 0⟩ 0, .pdBindRegion ⟨0, 0⟩ 0 0 0, .pdUnbindRegion ⟨0, 0⟩ 0
    0, .spacekeySet ⟨0, 0⟩ 0 0 0, .queueCreate ⟨0, 0⟩ 0 0 0, .queueDestroy ⟨0, 0⟩ 0, .qpCreate ⟨0, 0⟩ 0 0, .qpModify ⟨0, 0⟩ 0 0
    ⟨0, 0, 0, 0, 0, 0, 0, 0⟩, .qpDestroy ⟨0, 0⟩ 0, .keyCommit ⟨0, 0⟩ 0 0 0 0 0 0, .keyDestroy ⟨0, 0⟩ 0 0, .cipherOp ⟨0, 0⟩ ⟨0,
    false, false, 0, 0, 0, 0, 0, 0, 0, []⟩, .contextSave ⟨0, 0⟩ 0 0 0, .contextRestore ⟨0, 0⟩ 0 0 0 [], .shelfObjectCreate ⟨0, 0⟩
    0 0 0 0 0 0 0, .shelfObjectLoad ⟨0, 0⟩ 0 0 0 0 [], .shelfObjectDrop ⟨0, 0⟩ 0, .scheduleLoad ⟨0, 0⟩ 0 0 0 0 0 0 0 0 [],
    .scheduleDrop ⟨0, 0⟩ 0, .cacheLock ⟨0, 0⟩ 0 0 0, .cacheUnlock ⟨0, 0⟩ 0 0 0, .cacheRangeInvalidate ⟨0, 0⟩ 0 0 0, .accountCreate
    ⟨0, 0⟩ 0 0 0, .accountBind ⟨0, 0⟩ 0 0 0, .meterExportSetup ⟨0, 0⟩ 0 0 0 0, .shaperSet ⟨0, 0⟩ 0 0 0 0 0, .twinPair ⟨0, 0⟩ 0 0 0
    0, .twinSwitch ⟨0, 0⟩ 0 0, .twinResync ⟨0, 0⟩ 0, .domainJoin ⟨0, 0⟩ 0 0 0 0 0 0 0, .domainLeave ⟨0, 0⟩ 0 0, .fwStage ⟨0, 0⟩ 0
    0 ⟨0, 0, 0, 0, 0, 0, 0, 0, [], 0, false⟩, .fwActivate ⟨0, 0⟩ 0, .fwCommit ⟨0, 0⟩, .lifecycleRequest ⟨0, 0⟩ 0 0 0 ⟨0, 0, 0, 0,
    0, 0, 0, 0, false, 0⟩, .hallmarkIssue ⟨0, 0⟩ 0 0, .diagRead ⟨0, 0⟩ 0 0 0 0, .ledgerRead ⟨0, 0⟩ 0 0 0 0] : List Instr).all (fun i => i.wf) = true := by decide

/-- With every operand 0 each command is well-formed. -/
theorem test_wf_zero_2 : ([
    .memopRead ⟨0, 0⟩ 0 0 0 0 0, .memopWrite ⟨0, 0⟩ 0 0 0 0 0 [], .saveNow ⟨0, 0⟩ 0 0, .quiesce ⟨0, 0⟩ 0 0, .resume ⟨0, 0⟩ 0,
    .mboxRead 0 0, .mboxWrite 0 0 0, .wake 0 false, .mboxStatus 0, .eventRead 0 0 0, .authChunk 0 0 [], .lifecycleSubmit 0 0 0 0
    false, .read ⟨0, false, false, false, false, false, false, 0, 0, 0, 0, none, false, 0, 0, false, none, 0, 0, 0, 0, 0, 0, 0, 0,
    [], 0, 0⟩, .write ⟨0, false, false, false, false, false, false, 0, 0, 0, 0, none, false, 0, 0, false, none, 0, 0, 0, 0, 0, 0,
    0, 0, [], 0, 0⟩, .cas8 ⟨0, false, false, false, false, false, false, 0, 0, 0, 0, none, false, 0, 0, false, none, 0, 0, 0, 0,
    0, 0, 0, 0, [], 0, 0⟩, .cas16 ⟨0, false, false, false, false, false, false, 0, 0, 0, 0, none, false, 0, 0, false, none, 0, 0,
    0, 0, 0, 0, 0, 0, [], 0, 0⟩, .fadd8 ⟨0, false, false, false, false, false, false, 0, 0, 0, 0, none, false, 0, 0, false, none,
    0, 0, 0, 0, 0, 0, 0, 0, [], 0, 0⟩, .fence ⟨0, false, false, false, false, false, false, 0, 0, 0, 0, none, false, 0, 0, false,
    none, 0, 0, 0, 0, 0, 0, 0, 0, [], 0, 0⟩, .shelfRead ⟨0, false, false, false, false, false, false, 0, 0, 0, 0, none, false, 0,
    0, false, none, 0, 0, 0, 0, 0, 0, 0, 0, [], 0, 0⟩, .scheduleAdvance ⟨0, false, false, false, false, false, false, 0, 0, 0, 0,
    none, false, 0, 0, false, none, 0, 0, 0, 0, 0, 0, 0, 0, [], 0, 0⟩, .ledgerQuery ⟨0, false, false, false, false, false, false,
    0, 0, 0, 0, none, false, 0, 0, false, none, 0, 0, 0, 0, 0, 0, 0, 0, [], 0, 0⟩, .hallmark ⟨0, false, false, false, false,
    false, false, 0, 0, 0, 0, none, false, 0, 0, false, none, 0, 0, 0, 0, 0, 0, 0, 0, [], 0, 0⟩, .timeQuery ⟨0, false, false,
    false, false, false, false, 0, 0, 0, 0, none, false, 0, 0, false, none, 0, 0, 0, 0, 0, 0, 0, 0, [], 0, 0⟩,
    .clientAcknowledgement ⟨0, false, false, false, false, false, false, 0, 0, 0, 0, none, false, 0, 0, false, none, 0, 0, 0, 0,
    0, 0, 0, 0, [], 0, 0⟩, .ackDelayTimer 0, .assemblyTimerExpiry 0, .streamLapse 0, .heldPacketAdmission 0 0,
    .contextFetchComplete 0, .tagWaitTimeout 0 0, .ledgerReleaseTimeout, .rdmaWrite ⟨0, false, 0, false, false, 0, none, false, 0,
    0, 0, 0, 0, 0, false, 0, 0, 0, 0, 0, []⟩, .rdmaReadRequest ⟨0, false, 0, false, false, 0, none, false, 0, 0, 0, 0, 0, 0,
    false, 0, 0, 0, 0, 0, []⟩, .cmpswap ⟨0, false, 0, false, false, 0, none, false, 0, 0, 0, 0, 0, 0, false, 0, 0, 0, 0, 0, []⟩,
    .fetchadd ⟨0, false, 0, false, false, 0, none, false, 0, 0, 0, 0, 0, 0, false, 0, 0, 0, 0, 0, []⟩, .roceUnsupportedOpcode ⟨0,
    false, 0, false, false, 0, none, false, 0, 0, 0, 0, 0, 0, false, 0, 0, 0, 0, 0, []⟩, .cnp ⟨0, false, 0, false, false, 0, none,
    false, 0, 0, 0, 0, 0, 0, false, 0, 0, 0, 0, 0, []⟩, .qpContextFetchComplete 0, .roceAssemblyTimeout 0, .operationCompletion 0,
    .zeroFillComplete 0, .drainComplete 0, .drainLimit 0, .gracePeriodEnd 0, .loopPeriod false, .paceMonitorSample 0 0, .avsRetry
    false, .gatherApply 0, .writeBackIssue false, .budgetRecomputation 0, .stageFallTimer, .holdAdmission, .holdTimeout 0 0,
    .dirtyMapClear 0, .bankAtFloor, .saveStepComplete, .saveSequenceEnd 0 ⟨⟨0, 0, 0⟩, 0, []⟩, .holdupTestDue, .holdupTestStart 0,
    .holdupTestV1Read 0, .holdupTestVEnd 0, .holdupTestTimeout, .holdupRechargeDone 0, .holdupTestRetry, .holdupStaleTimer,
    .esrPulse 0 0, .brazeLossOfSignal, .brazeDeadTimeout, .brazeTrainingComplete 0, .brazeTrainingRetry, .brazeFrame 0 0 0 0 []
    [], .mirror 0 0 0 false ⟨0, 0, 0, 0, 0, 0, 0⟩ []] : List Instr).all (fun i => i.wf) = true := by decide

/-- With every operand 0 each command is well-formed. -/
theorem test_wf_zero_3 : ([
    .mirrorCont 0 0 0 false [], .dropRemainder 0 0, .mirrorAck [], .streamState [], .command 0 0 [], .leaseRenew 0, .leaseAck 0,
    .status 0 0 0 0 0 0 false 0, .assayDigest 0 0 0 0, .shadow 0 0 0 0 0, .verdict [], .handover [] 0 0 false, .handoverAck 0,
    .resyncData 0 none [] [] [], .resyncCtrl 0 0, .tile 0 [] [], .replay 0, .ident 0 0 0 0 0, .statusSendTimer, .leaseRenewTimer,
    .witnessRenewTimer, .grantRequestTimer, .leaseEnd, .leaseViewExpiry, .mirrorFrameTimer, .mirrorAckTimeout, .assayEpochClose 0,
    .yieldDrainBound, .resyncUnitSend, .revertTimer, .cursorSyncTimer, .nearFillComplete 0 false, .nearFlushComplete,
    .tileFillProgress 0 0 false, .lookaheadFill, .tileEvictionComplete 0 0, .tileRecoveryComplete 0 0 false, .refreshDue 0 0,
    .dramSensorRead 0 none, .dramRequestAged 0, .spprComplete 0 0 0 0, .caParityError 0 0, .dramTrainingComplete [],
    .flashTrainingComplete [], .journalReplayComplete false [] 0 0 false, .flashReadComplete (.image 0) 0, .flashProgramComplete
    ⟨0, 0, 0⟩ [] 0 false, .flashEraseComplete ⟨0, 0, 0⟩ false, .dieCommandTimeout 0 0 false, .flashRebuildComplete, .reclaim ⟨0,
    0, 0⟩ 0, .planish ⟨0, 0, 0⟩ ⟨0, 0, 0⟩ 0, .anneal ⟨0, 0, 0⟩ 0 [], .journalFlush, .journalCheckpoint, .scrub 0 0 none false,
    .tableReloadComplete 0 0 false, .poisonRepairComplete 0 false, .taiSecond, .settleLimit, .shaperRelease 0, .witnessRenew
    ⟨false, false, false, false, false, false, 0, 0, 0, 0, 0, 0, 0, 0, 0, 0⟩ 0, .confirm ⟨false, false, false, false, false,
    false, 0, 0, 0, 0, 0, 0, 0, 0, 0, 0⟩ 0, .refuse ⟨false, false, false, false, false, false, 0, 0, 0, 0, 0, 0, 0, 0, 0, 0⟩ 0 0,
    .grantRequest ⟨false, false, false, false, false, false, 0, 0, 0, 0, 0, 0, 0, 0, 0, 0⟩ 0, .grant ⟨false, false, false, false,
    false, false, 0, 0, 0, 0, 0, 0, 0, 0, 0, 0⟩ 0, .markRequest ⟨false, false, false, false, false, false, 0, 0, 0, 0, 0, 0, 0, 0,
    0, 0⟩, .markGrant ⟨false, false, false, false, false, false, 0, 0, 0, 0, 0, 0, 0, 0, 0, 0⟩, .markClear ⟨false, false, false,
    false, false, false, 0, 0, 0, 0, 0, 0, 0, 0, 0, 0⟩, .epochRegister ⟨false, false, false, false, false, false, 0, 0, 0, 0, 0,
    0, 0, 0, 0, 0⟩ 0 0, .statusReport ⟨false, false, false, false, false, false, 0, 0, 0, 0, 0, 0, 0, 0, 0, 0⟩ 0, .dirUpdate
    ⟨false, false, false, false, false, false, 0, 0, 0, 0, 0, 0, 0, 0, 0, 0⟩ 0 []] : List Instr).all (fun i => i.wf) = true := by decide

/-- With every operand 0 each command is well-formed. -/
theorem test_wf_zero_4 : ([
    .dirAck ⟨false, false, false, false, false, false, 0, 0, 0, 0, 0, 0, 0, 0, 0, 0⟩ 0 false 0, .push ⟨false, false, false, false,
    false, false, 0, 0, 0, 0, 0, 0, 0, 0, 0, 0⟩ 0 0 [], .pushAck ⟨false, false, false, false, false, false, 0, 0, 0, 0, 0, 0, 0,
    0, 0, 0⟩ 0 0 0, .join ⟨false, false, false, false, false, false, 0, 0, 0, 0, 0, 0, 0, 0, 0, 0⟩ 0 0 0 0 0 [], .joinAck ⟨false,
    false, false, false, false, false, 0, 0, 0, 0, 0, 0, 0, 0, 0, 0⟩ 0 0, .leave ⟨false, false, false, false, false, false, 0, 0,
    0, 0, 0, 0, 0, 0, 0, 0⟩, .meterRecord ⟨false, false, false, false, false, false, 0, 0, 0, 0, 0, 0, 0, 0, 0, 0⟩ [],
    .domainResendTimer, .statusReportTimer, .managerReachTimeout, .provisionalGrantLapse 0, .joinTimeout, .aggWaitTimer 0 0,
    .ptpMessage 0 false 0 0 0 false, .ppsInEdge 0, .clusterFault 0 [] [], .oldTableKeyErased, .debugExpiry, .pacedEntryTimer,
    .pacedExit, .powerOn false false, .powerUpStepEnd ⟨⟨0, 0, 0⟩, 0, []⟩, .rampTimeout 0, .powerUpRetry, .railWindowFault 0 0,
    .railFaultHold 0, .readVoutPoll 0 0, .railHardLimitBreach 0, .shutdownStepEnd, .dischargeTimer 0, .feedLoss false, .feedOk
    false, .pmbusAlert 0 none, .restartHoldEnd, .startVTimeout, .keeperSupplyLow 0, .keeperFlashOpComplete 0 false,
    .keeperLogAppend, .repeatSlotTimer, .logSectorErase 0 false, .watchdogExpiry 0 [], .firmwareLoadComplete [] [], .trialTimeout
    ⟨⟨0, 0, 0⟩, 0, []⟩, .restoreUnit [] false, .restoreWaitTimeout 0, .twinPageTimeout 0, .resetNAssert ⟨⟨0, 0, 0⟩, 0, []⟩,
    .thermTripNAssert 0, .junctionOvertemp 0, .hardCutCondition 0, .thermTripRelease 0, .inputStuckTimer 0, .inputUnmask 0,
    .outputReadbackMismatch 0 false, .refclkLost 0, .refclkRegained 0, .linkStateChange 0 0 0 0 false 0, .arpRequest 0 false 0,
    .repeatWindowExpiry 0, .stormSecondEnd 0, .feedReturning false, .senseInputReversed 0, .holdupBankAtStartV 0,
    .keeperSupplyRecovered 0, .thermTripNReleased, .opHoursTick, .ptpPpsOutFall, .mgmtCoreMemoryUe 0 0 0 [], .shutdownRailCollapse
    0, .mgmtBusHeldLow] : List Instr).all (fun i => i.wf) = true := by decide

/-! ### The hypotheses of each statement can be met -/

theorem witness_StepTakesTheFront_1 : ∃ (s : State) (c : Instr) (rest : List Instr), s.pending = c :: rest :=
  ⟨{ State.reset with pending := [.opHoursTick] }, .opHoursTick, [], by decide +kernel⟩

theorem witness_StepTakesTheFront_2 : ∃ s : State, s.pending = [] :=
  ⟨State.reset, by decide +kernel⟩

theorem witness_MemoriesStayCanonical_1 : ∃ s t : State, Mem.wf s.mem.dram = true ∧ Mem.wf s.mem.image = true ∧ step s = .next t :=
  ⟨State.reset, State.reset.tick, by decide, by decide, rfl⟩

theorem witness_QueueAndClockAreTheSteps_1 : ∃ (c : Instr) (s t : State), exec c s = .next t :=
  ⟨.opHoursTick, State.reset, State.reset, rfl⟩

theorem witness_QueueAndClockAreTheSteps_2 : ∃ (c : Instr) (s t : State), exec c s = .next t :=
  ⟨.opHoursTick, State.reset, State.reset, rfl⟩

theorem witness_MemoryFrame_1 : ∃ (c : Instr) (s t : State), exec c s = .next t ∧ ¬ WritesMemory c :=
  ⟨.opHoursTick, State.reset, State.reset, rfl, id⟩

theorem witness_TablesFrame_1 : ∃ (c : Instr) (s t : State), exec c s = .next t ∧ ¬ WritesPds c :=
  ⟨.opHoursTick, State.reset, State.reset, rfl, id⟩

theorem witness_TablesFrame_2 : ∃ (c : Instr) (s t : State), exec c s = .next t ∧ ¬ WritesRegions c :=
  ⟨.opHoursTick, State.reset, State.reset, rfl, id⟩

theorem witness_TablesFrame_3 : ∃ (c : Instr) (s t : State), exec c s = .next t ∧ ¬ WritesAccounts c :=
  ⟨.opHoursTick, State.reset, State.reset, rfl, id⟩

theorem witness_TablesFrame_4 : ∃ (c : Instr) (s t : State), exec c s = .next t ∧ ¬ WritesMembers c :=
  ⟨.opHoursTick, State.reset, State.reset, rfl, id⟩

theorem witness_SecretsFrame_1 : ∃ (c : Instr) (s t : State), exec c s = .next t ∧ ¬ WritesSlots c :=
  ⟨.opHoursTick, State.reset, State.reset, rfl, id⟩

theorem witness_SecretsFrame_2 : ∃ (c : Instr) (s t : State), exec c s = .next t ∧ ¬ WritesKeyRegs c :=
  ⟨.opHoursTick, State.reset, State.reset, rfl, id⟩

theorem witness_KeeperFlashFrame_1 : ∃ (c : Instr) (s t : State), exec c s = .next t ∧ ¬ WritesFlashWords c :=
  ⟨.opHoursTick, State.reset, State.reset, rfl, id⟩

theorem witness_KeeperFlashFrame_2 : ∃ (c : Instr) (s t : State), exec c s = .next t ∧ ¬ WritesLog c :=
  ⟨.opHoursTick, State.reset, State.reset, rfl, id⟩

theorem witness_KeeperFlashFrame_3 : ∃ (c : Instr) (s t : State), exec c s = .next t ∧ ¬ WritesDramLog c :=
  ⟨.opHoursTick, State.reset, State.reset, rfl, id⟩

theorem witness_KeeperFlashFrame_4 : ∃ (c : Instr) (s t : State), exec c s = .next t ∧ ¬ WritesFirmware c :=
  ⟨.opHoursTick, State.reset, State.reset, rfl, id⟩

theorem witness_QueuesAndLedgerFrame_1 : ∃ (c : Instr) (s t : State), exec c s = .next t ∧ ¬ WritesQueues c :=
  ⟨.opHoursTick, State.reset, State.reset, rfl, id⟩

theorem witness_QueuesAndLedgerFrame_2 : ∃ (c : Instr) (s t : State), exec c s = .next t ∧ ¬ WritesLedger c :=
  ⟨.opHoursTick, State.reset, State.reset, rfl, id⟩

theorem witness_QueuesAndLedgerFrame_3 : ∃ (c : Instr) (s t : State), exec c s = .next t ∧ ¬ WritesSave c :=
  ⟨.opHoursTick, State.reset, State.reset, rfl, id⟩

theorem witness_QueuesAndLedgerFrame_4 : ∃ (c : Instr) (s t : State), exec c s = .next t ∧ ¬ WritesCaptures c :=
  ⟨.opHoursTick, State.reset, State.reset, rfl, id⟩

theorem witness_ConfigurationFrame_1 : ∃ (c : Instr) (s t : State) (f : Fld) (n : Nat), exec c s = .next t ∧ ¬ WritesConfiguration c ∧ f ∈ R.fieldsPACE ++ R.fieldsCERGA ++ R.fieldsROCE ++ R.fieldsPROT ++ R.fieldsDUR ++ R.fieldsTWIN ++ R.fieldsDRAM ++ R.fieldsFLASH ++ R.fieldsINTEG ++ R.fieldsMETER ++ R.fieldsLIFE ++ R.fieldsEVENT ∧ f.acc = .rw :=
  ⟨.opHoursTick, State.reset, State.reset, R.DUR_WB_BG_PCT, 0, rfl, id, by simp [R.fieldsDUR], by decide⟩

theorem witness_EventRoutesAfterReset_1 : ∃ src : Nat, src < 256 ∧ isListedSource src = true :=
  ⟨0x10, by decide +kernel⟩

theorem witness_EventRoutesAfterReset_2 : ∃ src : Nat, src < 256 ∧ isListedSource src = false :=
  ⟨0x01, by decide +kernel⟩

theorem witness_SoftwareReset_1 : ∃ s : State, s.reaches .pcie 0x1C = true ∧ s.save.active = false :=
  ⟨on, by decide +kernel⟩

theorem witness_SoftwareReset_2 : ∃ s : State, s.reaches .pcie 0x1C = true ∧ s.save.active = false ∧ s.on R.GLOBAL_STATUS_RESET_ARMED = true :=
  ⟨armed, by decide +kernel⟩

theorem witness_SoftwareReset_3 : ∃ (s : State) (v : Nat), s.reaches .pcie 0x1C = true ∧ v % 2 ^ 32 ≠ 0xA55A ∧ v % 2 ^ 32 ≠ 0x5AA5 :=
  ⟨armed, 0, by decide +kernel⟩

theorem witness_SoftwareReset_4 : ∃ s : State, s.coreOn = true ∧ due s.now s.armedEnd = true :=
  ⟨armed, by decide +kernel⟩

theorem witness_SoftwareReset_5 : ∃ s : State, s.reaches .pcie 0x1C = true ∧ s.save.active = true :=
  ⟨{ on with save.active := true, save.step := 1 }, by decide +kernel⟩

theorem witness_RegisterAccesses_1 : ∃ (s : State) (off v : Nat), s.reaches .pcie off = true :=
  ⟨on, 0x20, 1, by decide +kernel⟩

theorem witness_RegisterAccesses_2 : ∃ (s : State) (v : Nat), s.reaches .pcie 0x20 = true :=
  ⟨on, 7, by decide +kernel⟩

theorem witness_RegisterAccesses_4 : ∃ (s : State) (p : Path) (off : Nat), s.reaches p off = true ∧ off % 4 = 0 ∧ roHalf 0 off = true ∧ off < 0x198000 :=
  ⟨up, .pcie, 0xA0020, by decide +kernel⟩

theorem witness_RegisterAccesses_5 : ∃ s : State, s.reaches .pcie 0x1C = true ∧ s.save.active = false :=
  ⟨on, by decide +kernel⟩

theorem witness_RegisterAccesses_6 : ∃ s : State, s.reaches .pcie 0x1C = true ∧ s.save.active = false ∧ s.on R.GLOBAL_STATUS_RESET_ARMED = true :=
  ⟨armed, by decide +kernel⟩

theorem witness_RegisterAccesses_7 : ∃ s : State, s.coreOn = true ∧ due s.now s.armedEnd = true :=
  ⟨armed, by decide +kernel⟩

theorem witness_RegisterAccesses_8 : ∃ (s : State) (v : Nat), s.reaches .pcie 0x38 = true ∧ s.isActive = true ∧ s.inGap = false ∧ s.start.presented = true ∧ s.save.active = false :=
  ⟨holder, 0x0A000001, by decide +kernel⟩

theorem witness_RegisterAccesses_9 : ∃ (s : State) (p : Path) (v : Nat), s.reaches p 0x190000 = true :=
  ⟨up, .mgmt, 0, by decide +kernel⟩

theorem witness_RegisterAccesses_10 : ∃ (s : State) (port addr : Nat), s.coreOn = true ∧ port < 64 ∧ s.rdN R.PORT_CTRL_ENABLE (port / 4) = 1 ∧ (s.port (port / 4)).link (port % 4) = 2 ∧ addr ≠ 0 ∧ addr = s.rd R.GLOBAL_OWN_IP4_ADDR :=
  ⟨portUp, 0, 0x0A000005, by decide +kernel⟩

theorem witness_MailboxAndLifeCycle_1 : ∃ (s : State) (seq off : Nat), s.keeperRuns = true ∧ mboxReaches off = true ∧ off < 0x198000 :=
  ⟨up, 1, 0x80000, by decide +kernel⟩

theorem witness_MailboxAndLifeCycle_2 : ∃ (s : State) (seq off v : Nat), s.keeperRuns = true ∧ mboxReaches off = true :=
  ⟨up, 1, 0x80000, 5, by decide +kernel⟩

theorem witness_MailboxAndLifeCycle_3 : ∃ (s : State) (seq : Nat) (ok : Bool), s.keeperRuns = true ∧ s.rd R.LIFE_STATE_LIFECYCLE ≠ 4 ∧ s.rd R.KEEPER_STATUS_SEQ_STATE = 6 ∧ s.anyFeedOk = false :=
  ⟨{ (State.reset.wr R.KEEPER_STATUS_SEQ_STATE 6) with keeper.powered := true }, 1, true, by decide +kernel⟩

theorem witness_MailboxAndLifeCycle_4 : ∃ (s : State) (seq : Nat), s.keeperRuns = true :=
  ⟨up, 1, by decide +kernel⟩

theorem witness_MailboxAndLifeCycle_5 : ∃ (s : State) (seq start : Nat) (r : LogRecord), s.keeperRuns = true ∧ s.keeper.flash.log.find? (fun x => x.seq == start % 2 ^ 32) = some r :=
  ⟨logged, 1, 7, { (newRec 7) with seq := 7 }, by decide +kernel⟩

theorem witness_MailboxAndLifeCycle_6 : ∃ (s : State) (seq off : Nat) (ws : List Nat), s.keeperRuns = true ∧ off % 4 = 0 ∧ 0 < off ∧ ws.length ≤ 60 ∧ off + 4 * ws.length ≤ 7512 :=
  ⟨up, 1, 4, [1, 2], by decide +kernel⟩

theorem witness_MailboxAndLifeCycle_7 : ∃ (s : State) (seq kind target len : Nat) (signed : Bool), s.keeperRuns = true ∧ s.coreOn = true ∧ s.save.active = false ∧ kind = 1 ∧ target = 0 ∧ len = 0 ∧ s.on R.FW_STATUS_TEST_IMAGE = false :=
  ⟨up, 1, 1, 0, 0, false, by decide +kernel⟩

theorem witness_MailboxAndLifeCycle_8 : ∃ (s : State) (r : CmdRef) (c : Cmd) (b : AuthBlob), Accepts s r 0x0804 c ∧ s.on R.FW_STATUS_TEST_IMAGE = false :=
  ⟨cmdOf 0x0804, ⟨0, 0⟩, theCmd 0x0804, ⟨0, 0, 0, 0, 0, 0, 0, 0, false, 0⟩, by decide +kernel⟩

theorem witness_MailboxAndLifeCycle_9 : ∃ s : State, s.keeperRuns = true ∧ s.rd R.LIFE_STATE_DEBUG = 1 ∧ due s.now s.keeper.debugEnd = true ∧ s.coreOn = true ∧ s.save.active = false :=
  ⟨{ (up.wr R.LIFE_STATE_DEBUG 1) with keeper.debugEnd := some 0 }, by decide +kernel⟩

theorem witness_RailSequencing_1 : ∃ (s : State) (n : Nat), s.keeperRuns = true ∧ s.rd R.KEEPER_STATUS_SEQ_STATE = 1 ∧ n < 16 ∧ s.rdN R.KEEPER_RAIL_STATUS_STATE n = 1 ∧ (s.rail n).commandedAt + ms (s.railRd R.KEEPER_RAIL_TIME_RAMP_MS n) ≤ s.now :=
  ⟨{ ((up.wr R.KEEPER_STATUS_SEQ_STATE 1).wrN R.KEEPER_RAIL_STATUS_STATE 0 1) with time.count := sec 1 }, 0, by decide +kernel⟩

theorem witness_RailSequencing_2 : ∃ s : State, s.keeperRuns = true ∧ s.rd R.KEEPER_STATUS_SEQ_STATE = 0 ∧ due s.now s.keeper.retryAt = true ∧ s.anyFeedOk = true ∧ s.thermReleased = true ∧ s.rd R.LIFE_STATE_LIFECYCLE ≠ 4 ∧ s.keeper.flash.romRecovery = false ∧ s.startVMet = true :=
  ⟨{ (feedUp.wr R.KEEPER_HOLDUP_CFG_START_V 0) with keeper.retryAt := some 0 }, by decide +kernel⟩

theorem witness_RailSequencing_3 : ∃ (s : State) (n mv : Nat), s.keeperRuns = true ∧ s.coreOn = true ∧ n < 16 ∧ s.railUsed n = true ∧ s.inWindow n mv = true :=
  ⟨{ rails with keeper.powered := true }, 0, 1800, by decide +kernel⟩

theorem witness_RailSequencing_4 : ∃ (s : State) (n mv : Nat), s.keeperRuns = true ∧ s.coreOn = true ∧ n < 16 ∧ s.railUsed n = true ∧ s.inWindow n mv = false :=
  ⟨{ rails with keeper.powered := true }, 0, 0, by decide +kernel⟩

theorem witness_RailSequencing_5 : ∃ (s : State) (n : Nat), s.keeperRuns = true ∧ s.coreOn = true ∧ s.save.active = false ∧ n < 16 ∧ s.rdN R.KEEPER_RAIL_STATUS_STATE n = 3 ∧ due s.now ((s.rail n).faultAt.map (· + ms 5)) = true :=
  ⟨{ (rails.wrN R.KEEPER_RAIL_STATUS_STATE 0 3) with keeper.powered := true, keeper.rails := [(0, ⟨true, 0, some 0⟩)], time.count := ms 5 }, 0, by decide +kernel⟩

theorem witness_RailSequencing_6 : ∃ (s : State) (n mv : Nat), s.keeperRuns = true ∧ s.coreOn = true ∧ n < 16 ∧ s.rdN R.KEEPER_RAIL_STATUS_SENSE_FAULT n = 1 :=
  ⟨{ (rails.wrN R.KEEPER_RAIL_STATUS_SENSE_FAULT 0 1) with keeper.powered := true }, 0, 5, by decide +kernel⟩

theorem witness_RailSequencing_7 : ∃ (s : State) (n : Nat), s.keeperRuns = true ∧ n < 16 ∧ s.railUsed n = true ∧ (s.rail n).on = true :=
  ⟨{ rails with keeper.powered := true, keeper.rails := [(0, ⟨true, 0, none⟩)] }, 0, by decide +kernel⟩

theorem witness_RailSequencing_8 : ∃ s : State, s.keeperRuns = true ∧ s.rd R.KEEPER_STATUS_SEQ_STATE = 4 ∧ s.rd R.KEEPER_STATUS_SEQ_STEP = 1 ∧ s.keeper.abortShutdown = false ∧ s.keeper.keepAfter = false :=
  ⟨{ (up.wr R.KEEPER_STATUS_SEQ_STATE 4).wr R.KEEPER_STATUS_SEQ_STEP 1 with time.count := 1 }, by decide +kernel⟩

theorem witness_RailSequencing_9 : ∃ (s : State) (n : Nat), s.keeperRuns = true ∧ s.rd R.KEEPER_STATUS_SEQ_STATE = 4 ∧ n < 16 ∧ s.rdN R.KEEPER_RAIL_STATUS_STATE n = 5 ∧ (s.rail n).commandedAt + ms (s.railRd R.KEEPER_RAIL_TIME_DISCH_MS n) ≤ s.now :=
  ⟨{ (up.wr R.KEEPER_STATUS_SEQ_STATE 4).wrN R.KEEPER_RAIL_STATUS_STATE 0 5 with time.count := sec 1 }, 0, by decide +kernel⟩

theorem witness_RailSequencing_10 : ∃ (s : State) (n : Nat), s.keeperRuns = true ∧ s.rd R.KEEPER_STATUS_SEQ_STATE = 4 ∧ n < 16 ∧ s.railUsed n = true ∧ (s.rail n).on = true ∧ s.railRd R.KEEPER_RAIL_CFG_STEP n < s.rd R.KEEPER_STATUS_SEQ_STEP :=
  ⟨{ (rails.wr R.KEEPER_STATUS_SEQ_STATE 4).wr R.KEEPER_STATUS_SEQ_STEP 7 with keeper.powered := true, keeper.rails := [(0, ⟨true, 0, none⟩)] }, 0, by decide +kernel⟩

theorem witness_FeedsAndSupply_1 : ∃ (s : State) (a : Bool), s.keeperRuns = true ∧ s.feedOk a = true ∧ s.feedOk (!a) = true :=
  ⟨{ feedUp.wr R.KEEPER_FEED_STATUS_B_STATE 1 with pending := [] }, true, by decide +kernel⟩

theorem witness_FeedsAndSupply_2 : ∃ (s : State) (a : Bool), s.keeperRuns = true ∧ s.feedOk a = true ∧ s.feedOk (!a) = false ∧ s.rd R.KEEPER_STATUS_SEQ_STATE = 2 ∧ s.start.fwDone = true ∧ s.save.active = false :=
  ⟨{ (up.wr R.KEEPER_FEED_STATUS_A_STATE 1) with start.fwDone := true }, true, by decide +kernel⟩

theorem witness_FeedsAndSupply_3 : ∃ (s : State) (a : Bool), s.keeperRuns = true ∧ ((AMap.get? s.keeper.inputs (if a then 3 else 4)).map (·.chattering)).getD false = false ∧ s.rd (fFeedState a) = 2 :=
  ⟨(up.wr R.KEEPER_FEED_STATUS_A_STATE 2), true, by decide +kernel⟩

theorem witness_FeedsAndSupply_4 : ∃ (s : State) (a : Bool), s.keeperRuns = true ∧ s.rd (fFeedState a) = 3 ∧ due s.now (s.feed a).returnEnd = true :=
  ⟨{ (up.wr R.KEEPER_FEED_STATUS_B_STATE 3) with keeper.feedB.returnEnd := some 0 }, false, by decide +kernel⟩

theorem witness_FeedsAndSupply_5 : ∃ (s : State) (n w : Nat), s.keeperRuns = true ∧ n < 16 ∧ (s.acceptAlert true).1 = true :=
  ⟨up, 2, 1, by decide +kernel⟩

theorem witness_FeedsAndSupply_6 : ∃ s : State, s.keeperRuns = true ∧ s.rd R.KEEPER_STATUS_SEQ_STATE = 5 ∧ due s.now s.keeper.holdEnd = true ∧ s.anyFeedOk = true ∧ s.thermReleased = true ∧ s.rd R.LIFE_STATE_LIFECYCLE ≠ 4 ∧ s.keeper.flash.romRecovery = false ∧ s.startVMet = true :=
  ⟨{ ((feedUp.wr R.KEEPER_HOLDUP_CFG_START_V 0).wr R.KEEPER_STATUS_SEQ_STATE 5) with keeper.holdEnd := some 0 }, by decide +kernel⟩

theorem witness_FeedsAndSupply_7 : ∃ s : State, s.keeperRuns = true ∧ s.rd R.KEEPER_STATUS_SEQ_STATE = 5 ∧ due s.now s.keeper.holdEnd = true ∧ s.anyFeedOk = false :=
  ⟨{ (up.wr R.KEEPER_STATUS_SEQ_STATE 5) with keeper.holdEnd := some 0 }, by decide +kernel⟩

theorem witness_FeedsAndSupply_8 : ∃ (s : State) (mv : Nat), s.keeperRuns = true ∧ s.rd R.KEEPER_SENSE_DIV_HOLDUP_DIV16 ≠ 0 :=
  ⟨(feedUp.wr R.KEEPER_SENSE_DIV_HOLDUP_DIV16 16), 30000, by decide +kernel⟩

theorem witness_FeedsAndSupply_9 : ∃ s : State, s.keeperRuns = true ∧ due s.now s.keeper.startVEnd = true ∧ s.keeper.waitStart = true ∧ s.rd R.KEEPER_STATUS_SEQ_STATE = 0 ∧ s.anyFeedOk = true ∧ s.thermReleased = true ∧ s.rd R.LIFE_STATE_LIFECYCLE ≠ 4 ∧ s.keeper.flash.romRecovery = false :=
  ⟨{ feedUp with keeper.startVEnd := some 0, keeper.waitStart := true }, by decide +kernel⟩

theorem witness_FeedsAndSupply_10 : ∃ s : State, s.keeperRuns = true :=
  ⟨up, by decide +kernel⟩

theorem witness_FeedsAndSupply_11 : ∃ (s : State) (a : Bool), s.keeperRuns = true ∧ s.feedOk (!a) = true :=
  ⟨feedUp, false, by decide +kernel⟩

theorem witness_FeedsAndSupply_12 : ∃ (s : State) (n : Nat), s.keeperRuns = true ∧ s.coreOn = true ∧ n < 16 ∧ s.railUsed n = true :=
  ⟨{ rails with keeper.powered := true }, 0, by decide +kernel⟩

theorem witness_FeedsAndSupply_13 : ∃ (s : State) (mv : Nat), s.keeperRuns = true :=
  ⟨{ up with save.active := true, save.step := 5 }, 2900, by decide +kernel⟩

theorem witness_FeedsAndSupply_14 : ∃ (s : State) (mv : Nat), s.keeper.powered = true ∧ s.keeper.stopped = true :=
  ⟨{ up with keeper.stopped := true }, 3200, by decide +kernel⟩

theorem witness_SidebandInputsAndClocks_1 : ∃ (s : State) (q : QuenchReport), s.keeperRuns = true ∧ (s.acceptInput 1 4 (sec 10)).1 = true ∧ s.coreOn = true ∧ s.save.active = false ∧ 7 ≤ s.start.step :=
  ⟨holder, quiet, by decide +kernel⟩

theorem witness_SidebandInputsAndClocks_2 : ∃ (s : State) (temp : Nat), s.keeperRuns = true ∧ s.keeper.thermDriven = false ∧ (s.acceptInput 2 4 (sec 60)).1 = true ∧ s.coreOn = true ∧ s.save.active = false ∧ s.start.fwDone = true :=
  ⟨{ holder with start.fwDone := true }, 70, by decide +kernel⟩

theorem witness_SidebandInputsAndClocks_3 : ∃ (s : State) (temp : Nat), s.keeperRuns = true ∧ s.coreOn = true ∧ 115 ≤ temp ∧ s.keeper.thermDriven = false ∧ s.save.active = false ∧ s.start.fwDone = true :=
  ⟨{ holder with start.fwDone := true }, 115, by decide +kernel⟩

theorem witness_SidebandInputsAndClocks_4 : ∃ (s : State) (temp : Nat), s.keeperRuns = true ∧ s.coreOn = true ∧ 125 ≤ temp :=
  ⟨{ rails with keeper.powered := true, keeper.rails := [(0, ⟨true, 0, none⟩)] }, 125, by decide +kernel⟩

theorem witness_SidebandInputsAndClocks_5 : ∃ (s : State) (temp : Nat), s.keeperRuns = true ∧ s.coreOn = false ∧ temp < 70 ∧ s.keeper.thermDriven = true :=
  ⟨{ feedUp with keeper.thermDriven := true }, 69, by decide +kernel⟩

theorem witness_SidebandInputsAndClocks_6 : ∃ s : State, s.keeperRuns = true ∧ s.keeper.thermDriven = false :=
  ⟨{ up with keeper.thermInput := true }, by decide +kernel⟩

theorem witness_SidebandInputsAndClocks_7 : ∃ (s : State) (code : Nat), s.keeperRuns = true ∧ s.inputMasked code = false ∧ (s.input code).active = true ∧ code ≠ 6 ∧ due s.now ((stuckTime code).map (· + (s.input code).since)) = true ∧ ((code = 2 → s.rd R.KEEPER_STATUS_SEQ_STATE = 0)) :=
  ⟨{ up with keeper.inputs := [(1, ⟨true, 0, false, false, []⟩)], time.count := sec 10 }, 1, by decide +kernel⟩

theorem witness_SidebandInputsAndClocks_8 : ∃ (s : State), s.keeperRuns = true ∧ s.inputMasked 6 = false ∧ due s.now (some (sec 2 + s.time.lastPps.getD 0)) = true ∧ s.rd R.DOMAIN_TIME_CTRL_SOURCE = 1 :=
  ⟨{ (up.wr R.DOMAIN_TIME_CTRL_SOURCE 1) with time.count := sec 2 }, by decide +kernel⟩

theorem witness_SidebandInputsAndClocks_9 : ∃ (s : State) (code : Nat), s.keeperRuns = true ∧ 1 ≤ code ∧ code ≤ 6 ∧ s.inputMasked code = true :=
  ⟨{ up with keeper.inputs := [(3, ⟨false, 0, false, true, []⟩)] }, 3, by decide +kernel⟩

theorem witness_SidebandInputsAndClocks_10 : ∃ s : State, s.keeperRuns = true ∧ AMap.get? s.keeper.outputs 0x12 = some true :=
  ⟨{ up with keeper.outputs := [(0x12, true)] }, by decide +kernel⟩

theorem witness_SidebandInputsAndClocks_11 : ∃ (s : State) (code : Nat), s.keeperRuns = true ∧ 0x21 ≤ code ∧ code ≤ 0x24 ∧ s.keeper.clocksLost.contains code = false :=
  ⟨up, 0x24, by decide +kernel⟩

theorem witness_SidebandInputsAndClocks_12 : ∃ (s : State) (code : Nat), s.keeperRuns = true ∧ s.keeper.clocksLost.contains code = true :=
  ⟨{ up with keeper.clocksLost := [0x24], time.onDdrClock := true }, 0x24, by decide +kernel⟩

theorem witness_SidebandInputsAndClocks_13 : ∃ s : State, s.keeperRuns = true ∧ s.keeper.mboxI3c = false :=
  ⟨up, by decide +kernel⟩

theorem witness_KeeperFlashAndLog_1 : ∃ (s : State) (p : Path) (off word : Nat), s.pathOpen p = true ∧ s.windowOpens p (s.windowAddr p (off / 4 * 4) / 0x10000) = true ∧ s.keeper.flash.ops.length < 3 :=
  ⟨{ up with keeper.flash.mgmt.page := 50 }, .mgmt, 8, 5, by decide +kernel⟩

theorem witness_KeeperFlashAndLog_2 : ∃ (s : State) (p : Path) (off : Nat) (words : List Nat), s.pathOpen p = true ∧ words ≠ [] ∧ off % 64 / 4 * 4 + 4 * words.length ≤ 64 ∧ s.windowOpens p (s.windowAddr p (off / 4 * 4) / 0x10000) = true ∧ s.keeper.flash.ops.length < 3 :=
  ⟨{ up with keeper.flash.mgmt.page := 50 }, .mgmt, 8, [5, 6], by decide +kernel⟩

theorem witness_KeeperFlashAndLog_3 : ∃ (s : State) (p : Path) (off : Nat), s.pathOpen p = true ∧ s.windowOpens p (s.windowAddr p off / 0x10000) = true ∧ s.keeper.flash.ops.length < 3 :=
  ⟨{ up with keeper.flash.mgmt.page := 50 }, .mgmt, 8, by decide +kernel⟩

theorem witness_KeeperFlashAndLog_4 : ∃ (s : State) (p : Path), s.pathOpen p = true :=
  ⟨{ up with keeper.flash.mgmt.writes := [(0x0AA8, 0xAA)] }, .mgmt, by decide +kernel⟩

theorem witness_KeeperFlashAndLog_5 : ∃ (s : State) (p : Path), s.keeperRuns = true ∧ (s.windowPath p).writes ≠ [] ∧ (s.windowPath p).lastWrite + ms 10 < s.now :=
  ⟨{ up with keeper.flash.mgmt.writes := [(0x0AA8, 0xAA)], time.count := ms 11 }, .mgmt, by decide +kernel⟩

theorem witness_KeeperFlashAndLog_6 : ∃ (s : State) (p : Path) (a v retries : Nat) (rest : List KOp), s.keeperRuns = true ∧ s.keeper.flash.ops = ⟨p, .word, a, [v]⟩ :: rest ∧ s.flashWord (a / 4) &&& v = v :=
  ⟨{ up with keeper.flash.ops := [⟨.mgmt, .word, 0x190000, [7]⟩] }, .mgmt, 0x190000, 7, 1, [], by decide +kernel⟩

theorem witness_KeeperFlashAndLog_7 : ∃ (s : State) (p : Path) (a retries : Nat) (rest : List KOp), s.keeperRuns = true ∧ s.keeper.flash.ops = ⟨p, .erase, a, []⟩ :: rest :=
  ⟨{ up with keeper.flash.ops := [⟨.mgmt, .erase, 0x190000, []⟩] }, .mgmt, 0x190000, 1, [], by decide +kernel⟩

theorem witness_KeeperFlashAndLog_8 : ∃ (s : State) (r : LogRecord) (rest : List LogRecord), s.keeperRuns = true ∧ s.keeper.flash.ram = r :: rest ∧ sec 1 ≤ s.logTokens ∧ 2 ≤ s.rd R.KEEPER_FLASH_WEAR_LOG_POOL ∧ s.keeper.flash.log.length < s.keeper.flash.logSectors.length * 1024 :=
  ⟨{ up with keeper.flash.ram := [newRec 0], keeper.flash.logSectors := [171] }, newRec 0, [], by decide +kernel⟩

theorem witness_KeeperFlashAndLog_9 : ∃ (s : State) (f : LogFlood) (r : LogRecord), s.keeperRuns = true ∧ s.keeper.flash.flood = some f ∧ f.unwritten = true ∧ f.last + sec 1 ≤ s.now ∧ s.newestEvent = some r ∧ r.slots.length < 3 ∧ f.count ≤ 16777215 :=
  ⟨{ logged with keeper.flash.flood := some ⟨1, 0, 0, false, 0, 1, 5, true, 0⟩, time.count := sec 2 }, ⟨1, 0, 0, false, 0, 1, 5, true, 0⟩, newRec 7, by decide +kernel⟩

theorem witness_KeeperFlashAndLog_10 : ∃ (s : State) (n retries : Nat) (rest : List Nat), s.keeperRuns = true ∧ s.keeper.flash.pendingErase = n :: rest :=
  ⟨{ up with keeper.flash.pendingErase := [171] }, 171, 0, [], by decide +kernel⟩

theorem witness_KeeperFlashAndLog_11 : ∃ (s : State) (p : Path) (q : Nat) (r : LogRecord), s.pathOpen p = true ∧ s.keeper.flash.log.find? (fun x => x.seq == q % 2 ^ 32) = some r :=
  ⟨logged, .mgmt, 7, newRec 7, by decide +kernel⟩

theorem witness_KeeperFlashAndLog_12 : ∃ (s : State) (p : Path) (q : Nat), s.pathOpen p = true ∧ s.keeper.flash.log.find? (fun x => x.seq == q % 2 ^ 32) = none :=
  ⟨logged, .mgmt, 8, by decide +kernel⟩

theorem witness_KeeperFlashAndLog_13 : ∃ s : State, s.keeper.powered = true ∧ s.keeper.hourAt ≤ s.now :=
  ⟨up, by decide +kernel⟩

theorem witness_FirmwareUpdates_1 : ∃ (s : State) (r : CmdRef) (c : Cmd) (host length : Nat) (p : Package), Accepts s r 0x0801 c ∧ host % 64 = 0 ∧ s.trialPending = false ∧ length ≤ 64 * 2 ^ 20 ∧ s.packageVerifies p = true ∧ s.fresherThanFloors p = true :=
  ⟨stagingOf, ⟨0, 0⟩, theCmd 0x0801, 0, 4096, testPackage, stages⟩

theorem witness_FirmwareUpdates_2 : ∃ (s : State) (r : CmdRef) (c : Cmd) (slot : Nat) (p : Package), Accepts s r 0x0802 c ∧ slot ≤ 1 ∧ s.rd (fSlot slot) = 1 ∧ s.slotPackage slot = some p ∧ s.fresherThanFloors p = true :=
  ⟨{ (cmdOf 0x0802).wr R.FW_STATUS_SLOT_A 1 with fw.slotA := some fresh }, ⟨0, 0⟩, theCmd 0x0802, 0, fresh, ⟨by decide +kernel, by decide, by decide +kernel, rfl, by simp [State.fresherThanFloors, fresh]; decide +kernel⟩⟩

theorem witness_FirmwareUpdates_3 : ∃ (s : State) (r : CmdRef) (c : Cmd) (b : Nat) (p : Package), Accepts s r 0x0803 c ∧ b ≤ 1 ∧ s.rd R.FW_STATUS_RUN_SLOT = b ∧ s.slotPackage b = some p ∧ s.rd (fSlot b) = 2 ∧ s.on R.FW_STATUS_RECOVERY = false :=
  ⟨{ (cmdOf 0x0803).wr R.FW_STATUS_SLOT_A 2 with fw.slotA := some fresh }, ⟨0, 0⟩, theCmd 0x0803, 0, fresh, ⟨by decide +kernel, by decide, by decide +kernel, rfl, by decide +kernel, by decide +kernel⟩⟩

theorem witness_FirmwareUpdates_4 : ∃ (s : State) (loads : List Nat) (migrated : List (Nat × Nat)), s.coreOn = true ∧ s.start.step = 7 :=
  ⟨{ on with start.step := 7 }, [0], [], by decide +kernel⟩

theorem witness_FirmwareUpdates_5 : ∃ (s : State) (q : QuenchReport) (b : Nat), s.keeperRuns = true ∧ s.coreOn = true ∧ s.start.fwDone = false ∧ due s.now s.fw.trialEnd = true ∧ [0, 1].find? (fun b => s.rd (fSlot b) == 2) = some b ∧ s.keeper.deferred = none :=
  ⟨{ (up.wr R.FW_STATUS_SLOT_B 2) with fw.trialEnd := some 0 }, quiet, 1, by decide +kernel⟩

theorem witness_FirmwareUpdates_6 : ∃ (s : State) (core : Nat) (cmds : List CmdRef), s.coreOn = true ∧ s.start.fwDone = true ∧ core < 4 :=
  ⟨{ on with start.fwDone := true }, 0, [], by decide +kernel⟩

theorem witness_FirmwareUpdates_7 : ∃ (s : State) (core bank row : Nat) (cmds : List CmdRef), s.coreOn = true ∧ s.start.fwDone = true ∧ core < 4 :=
  ⟨{ on with start.fwDone := true }, 1, 3, 4, [], by decide +kernel⟩

theorem witness_StartAndRestore_1 : ∃ (s : State) (fwOk mismatch : Bool), s.keeperRuns = false :=
  ⟨State.reset, true, false, by decide +kernel⟩

theorem witness_StartAndRestore_2 : ∃ (s : State) (q : QuenchReport), s.keeperRuns = true ∧ s.rd R.KEEPER_STATUS_SEQ_STATE = 1 ∧ s.nextPowerStep (s.rd R.KEEPER_STATUS_SEQ_STEP + 1) 8 = none :=
  ⟨{ (up.wr R.KEEPER_STATUS_SEQ_STATE 1).wr R.KEEPER_STATUS_SEQ_STEP 7 with keeper.hourAt := 0 }, quiet, by decide +kernel⟩

theorem witness_StartAndRestore_3 : ∃ (s : State) (q : QuenchReport) (j : Nat), s.keeperRuns = true ∧ s.rd R.KEEPER_STATUS_SEQ_STATE = 1 ∧ s.nextPowerStep (s.rd R.KEEPER_STATUS_SEQ_STEP + 1) 8 = some j :=
  ⟨{ (up.wr R.KEEPER_STATUS_SEQ_STATE 1).wr R.KEEPER_STATUS_SEQ_STEP 1 with keeper.hourAt := 0 }, quiet, 2, by decide +kernel⟩

theorem witness_StartAndRestore_4 : ∃ (s : State) (rs : List FlashReport), s.coreOn = true ∧ s.start.step = 6 :=
  ⟨{ on with start.step := 6 }, [⟨0, 8, 128, 2400, 3000, 1000, 0, 0⟩], by decide +kernel⟩

theorem witness_StartAndRestore_5 : ∃ (s : State) (rs : List DramReport), s.coreOn = true ∧ s.start.dramDone = false ∧ s.start.step = 6 ∧ (s.dramTrained rs).1 = true :=
  ⟨{ on with start.step := 6 }, (rangeFrom 0 4).map (fun n => ⟨n, 1, false, 64, 2, 16, 4800, 0, 0, 10⟩), by decide +kernel⟩

theorem witness_StartAndRestore_6 : ∃ (s : State) (failed : List FlashBlock) (erased mask : Nat) (ledgerOk : Bool), s.coreOn = true ∧ s.start.step = 8 ∧ s.failCode ≠ 1 ∧ s.on R.FW_STATUS_RECOVERY = false ∧ s.start.dramDone = false :=
  ⟨{ on with start.step := 8 }, [], 0, 255, true, by decide +kernel⟩

theorem witness_StartAndRestore_7 : ∃ (s : State) (bad : List Nat) (u : Nat), s.coreOn = true ∧ 11 ≤ s.start.step ∧ s.save.active = false ∧ s.nextUnit = some u :=
  ⟨{ holder with start.units := [5, 6] }, [], 5, by decide +kernel⟩

theorem witness_StartAndRestore_8 : ∃ (s : State) (page m : Nat), s.media? (page * page4K) = some m ∧ s.coreOn = true ∧ due s.now (AMap.get? s.start.twinPages page) = true :=
  ⟨{ mapped with start.twinPages := [(1, 0)] }, 1, 4096, by decide +kernel⟩

theorem witness_TimeUnit_1 : ∃ (s : State) (domain offset uncertainty utc : Nat) (ahead leap : Bool), s.coreOn = true ∧ s.save.active = false ∧ domain = s.rd R.DOMAIN_TIME_CTRL_PTP_DOMAIN ∧ s.rd R.DOMAIN_TIME_CTRL_SOURCE ≠ 1 ∧ s.rd R.DOMAIN_TIME_CTRL_SOURCE ≠ 2 :=
  ⟨on, 0, 40, 10, 37, true, false, by decide +kernel⟩

theorem witness_TimeUnit_2 : ∃ (s : State) (uncertainty : Nat), s.coreOn = true ∧ s.save.active = false ∧ s.rd R.DOMAIN_TIME_CTRL_SOURCE = 1 ∧ (s.acceptInput 6 1 (ms 900)).1 = true :=
  ⟨(up.wr R.DOMAIN_TIME_CTRL_SOURCE 1), 10, by decide +kernel⟩

theorem witness_TimeUnit_3 : ∃ s : State, s.coreOn = true ∧ s.save.active = false ∧ s.taiSeconds ≠ s.time.second :=
  ⟨{ on with time.tai := sec 61 }, by decide +kernel⟩

theorem witness_TimeUnit_4 : ∃ s : State, s.coreOn = true ∧ due s.now s.time.pulseEnd = true :=
  ⟨{ on with time.pulseEnd := some 0 }, by decide +kernel⟩

theorem witness_TimeUnit_5 : ∃ (s : State) (w : Window), s.meter.settling = some w ∧ s.coreOn = true ∧ s.save.active = false ∧ due s.now (w.ended.map (· + sec (s.rd R.METER_CTRL_SETTLE_S))) = true :=
  ⟨{ on with meter.settling := some ⟨3, 0, 0, 0, some 0, []⟩, time.count := sec 100 }, ⟨3, 0, 0, 0, some 0, []⟩, by decide +kernel⟩

theorem witness_TimeUnit_6 : ∃ (s : State) (tenant start n : Nat) (a : Aggregate), s.meter.aggregates.find? (fun a => a.tenant == tenant && a.start == start) = some a ∧ s.sinkRing = some n ∧ s.coreOn = true ∧ s.save.active = false ∧ s.aggregateDue start = true :=
  ⟨{ on with meter.aggregates := [⟨5, 0, [], 1, 0, 0⟩], meter.setups := [(0, ⟨true, false, false, true, 0, 9⟩)], time.tai := sec 900 }, 5, 0, 0, ⟨5, 0, [], 1, 0, 0⟩, by decide +kernel⟩

theorem witness_PaceAndPorts_1 : ∃ (s : State) (n mhz : Nat), s.coreOn = true ∧ n < 64 ∧ s.islandOn n = true :=
  ⟨on, 3, 1500, by decide +kernel⟩

theorem witness_PaceAndPorts_2 : ∃ s : State, s.keeperRuns = true ∧ s.coreOn = true ∧ s.pace.retryAt = none :=
  ⟨up, by decide +kernel⟩

theorem witness_PaceAndPorts_3 : ∃ s : State, s.keeperRuns = true ∧ due s.now s.pace.retryAt = true :=
  ⟨{ up with pace.retryAt := some 0 }, by decide +kernel⟩

theorem witness_PaceAndPorts_4 : ∃ (s : State) (n v : Nat), s.coreOn = true ∧ n < 16 ∧ s.save.active = false ∧ s.rdN R.PORT_CTRL_ENABLE n = 0 ∧ v / 2 ^ 31 % 2 = 1 :=
  ⟨on, 2, 0x80000000, by decide +kernel⟩

theorem witness_PaceAndPorts_5 : ∃ (s : State) (n v : Nat), s.coreOn = true ∧ n < 16 ∧ s.save.active = false ∧ s.rdN R.PORT_CTRL_ENABLE n = 1 ∧ v / 2 ^ 31 % 2 = 0 :=
  ⟨portUp, 0, 0, by decide +kernel⟩

theorem witness_PaceAndPorts_6 : ∃ (s : State) (n sub link lanes polarity : Nat) (reversed : Bool), s.coreOn = true ∧ n < 16 ∧ s.rdN R.PORT_CTRL_ENABLE n ≠ 0 ∧ sub < subPorts (s.port n).breakout ∧ link ≤ 2 ∧ s.inGap = false :=
  ⟨portUp, 0, 0, 1, 8, 0, false, by decide +kernel⟩

theorem witness_PaceAndPorts_7 : ∃ (s : State) (n sub link lanes polarity : Nat) (reversed : Bool), s.coreOn = true ∧ n < 16 ∧ s.rdN R.PORT_CTRL_ENABLE n ≠ 0 ∧ sub < subPorts (s.port n).breakout ∧ link ≤ 2 ∧ s.inGap = true :=
  ⟨{ portUp with twin.opening := true }, 0, 0, 1, 8, 0, false, by decide +kernel⟩

theorem witness_ResetAndCounterRows_1 : ∃ (s : State) (p : Path) (off : Nat), s.reaches p off = true ∧ off % 4 = 0 ∧ roHalf 0 off = true ∧ ((off < 0x198000 ∨ 0x1A0000 ≤ off)) :=
  ⟨up, .pcie, 0xA0020, by decide +kernel⟩

theorem witness_ResetAndCounterRows_2 : ∃ s : State, s.reaches .pcie 0x1C = true ∧ s.save.active = false :=
  ⟨on, by decide +kernel⟩

theorem witness_ResetAndCounterRows_3 : ∃ s : State, s.reaches .pcie 0x1C = true ∧ s.save.active = false ∧ s.on R.GLOBAL_STATUS_RESET_ARMED = true :=
  ⟨armed, by decide +kernel⟩

theorem witness_ResetAndCounterRows_4 : ∃ s : State, s.coreOn = true ∧ due s.now s.armedEnd = true :=
  ⟨armed, by decide +kernel⟩

theorem witness_HoldupTest_1 : ∃ s : State, s.testMayBegin = true ∧ s.keeper.holdup.retryAt = none ∧ s.keeper.holdup.nextDue ≤ s.now ∧ s.rd R.KEEPER_HOLDUP_CFG_RTEST_MOHM ≠ 0 :=
  ⟨up.wr R.KEEPER_HOLDUP_CFG_RTEST_MOHM 2000, by decide +kernel⟩

theorem witness_HoldupTest_2 : ∃ s : State, s.testMayBegin = true ∧ s.keeper.holdup.retryAt = none ∧ s.keeper.holdup.nextDue ≤ s.now ∧ s.rd R.KEEPER_HOLDUP_CFG_RTEST_MOHM = 0 :=
  ⟨up.wr R.KEEPER_HOLDUP_CFG_RTEST_MOHM 0, by decide +kernel⟩

theorem witness_HoldupTest_3 : ∃ s : State, s.testMayBegin = true ∧ due s.now s.keeper.holdup.retryAt = true ∧ s.rd R.KEEPER_HOLDUP_CFG_RTEST_MOHM ≠ 0 :=
  ⟨{ (up.wr R.KEEPER_HOLDUP_CFG_RTEST_MOHM 2000) with keeper.holdup.retryAt := some 0 }, by decide +kernel⟩

theorem witness_HoldupTest_4 : ∃ (s : State) (v0 : Nat), s.keeperRuns = true ∧ s.coreOn = true ∧ s.save.active = false ∧ s.rd R.KEEPER_HOLDUP_STATUS_TEST_STATE = 1 ∧ s.anyFeedOk = true ∧ s.dur.dirty.length * page4K ≤ s.rd R.DUR_BUDGET_TEST_GIB * gib :=
  ⟨(up.wr R.KEEPER_FEED_STATUS_A_STATE 1).wr R.KEEPER_HOLDUP_STATUS_TEST_STATE 1, 48000, by decide +kernel⟩

theorem witness_HoldupTest_5 : ∃ (s : State) (v1 e : Nat), s.keeperRuns = true ∧ s.rd R.KEEPER_HOLDUP_STATUS_TEST_STATE = 2 ∧ s.keeper.holdup.v1 = 0 ∧ s.keeper.holdup.v1At + us 100 ≤ s.now ∧ s.stepEsr s.keeper.holdup.v0 v1 = some e :=
  ⟨{ (up.wr R.KEEPER_HOLDUP_CFG_RTEST_MOHM 2000).wr R.KEEPER_HOLDUP_STATUS_TEST_STATE 2 with keeper.holdup.v0 := 48000, time.count := ms 1 }, 47000, 4255, by decide +kernel⟩

theorem witness_HoldupTest_6 : ∃ (s : State) (mv e : Nat), s.keeperRuns = true ∧ s.rd R.KEEPER_HOLDUP_STATUS_TEST_STATE = 2 ∧ s.keeper.holdup.v1 ≠ 0 ∧ s.atVEnd mv = true ∧ s.stepEsr s.keeper.holdup.v0 s.keeper.holdup.v1 = some e ∧ 50 ≤ discharged (s.now - s.keeper.holdup.v1At) (s.rd R.KEEPER_HOLDUP_CFG_RTEST_MOHM * 100 + e) s.keeper.holdup.v1 mv ∧ discharged (s.now - s.keeper.holdup.v1At) (s.rd R.KEEPER_HOLDUP_CFG_RTEST_MOHM * 100 + e) s.keeper.holdup.v1 mv ≤ 50000 :=
  ⟨{ (up.wr R.KEEPER_HOLDUP_CFG_RTEST_MOHM 2000).wr R.KEEPER_HOLDUP_STATUS_TEST_STATE 2 with keeper.holdup.v0 := 48000, keeper.holdup.v1 := 47000, keeper.holdup.v1At := 0, time.count := ms 64 }, 45500, 4255, by decide +kernel⟩

theorem witness_HoldupTest_7 : ∃ s : State, s.keeperRuns = true ∧ due s.now s.keeper.testEnd = true ∧ s.rd R.KEEPER_HOLDUP_STATUS_TEST_STATE = 2 :=
  ⟨{ (up.wr R.KEEPER_HOLDUP_STATUS_TEST_STATE 2) with keeper.testEnd := some 0 }, by decide +kernel⟩

theorem witness_HoldupTest_8 : ∃ (s : State) (mv : Nat), s.keeperRuns = true ∧ s.rd R.KEEPER_HOLDUP_STATUS_TEST_STATE = 3 ∧ s.save.active = false ∧ 99 * s.keeper.holdup.v0 ≤ 100 * mv :=
  ⟨{ (up.wr R.KEEPER_HOLDUP_STATUS_TEST_STATE 3) with keeper.holdup.v0 := 48000 }, 48000, by decide +kernel⟩

theorem witness_HoldupTest_9 : ∃ s : State, s.keeperRuns = true ∧ s.coreOn = true ∧ s.keeper.holdup.stale = false ∧ s.keeper.holdup.lastValid.getD 0 + 2 * s.rd R.DUR_TEST_INTERVAL_H * sec 3600 ≤ s.now :=
  ⟨{ up with time.count := sec 100000000 }, by decide +kernel⟩

theorem witness_HoldupTest_10 : ∃ (s : State) (v0 v1 e : Nat), s.keeperRuns = true ∧ s.keeper.holdup.lastPulse + sec 60 ≤ s.now ∧ s.pulseMay = true ∧ s.stepEsr v0 v1 = some e ∧ s.keeper.holdup.esr ≤ 5 * e ∧ e ≤ 5 * s.keeper.holdup.esr :=
  ⟨{ (up.wr R.KEEPER_HOLDUP_CFG_RTEST_MOHM 2000) with keeper.holdup.esr := 4000, time.count := sec 61 }, 48000, 47000, 4255, by decide +kernel⟩

theorem witness_DurabilityUnit_1 : ∃ (s : State) (mv : Nat), s.coreOn = true ∧ s.start.tablesDone = true ∧ s.save.active = false ∧ s.dur.nextBudget ≤ s.now :=
  ⟨{ on with start.tablesDone := true }, 48000, by decide +kernel⟩

theorem witness_DurabilityUnit_2 : ∃ (s : State) (k : Nat), s.coreOn = true ∧ s.save.active = false ∧ s.stage = k + 1 ∧ k < 4 ∧ s.on R.DUR_STATUS_OVER_BUDGET = false ∧ due s.now ((AMap.get? s.dur.below (k + 1)).map (· + ms 1)) = true ∧ ((0 < k → due s.now ((AMap.get? s.dur.below k).map (· + ms 1)) = false)) :=
  ⟨{ (on.wr R.DUR_STATUS_STAGE 4) with dur.below := [(4, 0)], time.count := ms 1 }, 3, by decide +kernel⟩

theorem witness_DurabilityUnit_3 : ∃ (s : State) (entry : Nat) (g : Gather), s.eng.gather.find? (fun g => g.id == entry) = some g ∧ s.coreOn = true ∧ s.entryApplies g = true ∧ entry < s.eng.nextEntry :=
  ⟨{ mapped with eng.gather := [⟨3, none, none, none, 0, 0, [7], 1, none, false, false, []⟩], eng.nextEntry := 4 }, 3, ⟨3, none, none, none, 0, 0, [7], 1, none, false, false, []⟩, by decide +kernel⟩

theorem witness_DurabilityUnit_4 : ∃ (s : State) (tagOk : Bool) (page : Nat) (p : DirtyPage), s.coreOn = true ∧ s.start.tablesDone = true ∧ ((s.save.active = true → s.save.step = 5)) ∧ s.oldestPage = some (page, p) ∧ s.floorBars programBytes = false ∧ ((tagOk = true ∧ s.tagOf page = p.tag ∨ s.pageMarks page ≠ [])) :=
  ⟨{ mapped with dur.dirty := [(0, ⟨0, 1, false, false, [], [], 0⟩)], mem.dramPoison := [(0, 1)], flash.erased := 300 * gib }, false, 0, ⟨0, 1, false, false, [], [], 0⟩, ⟨by decide +kernel, by decide, by decide, by decide +kernel, by decide +kernel, .inr (by decide +kernel)⟩⟩

theorem witness_DurabilityUnit_5 : ∃ (s : State) (unit t : Nat), AMap.get? s.dur.map unit = some ⟨some t⟩ ∧ s.coreOn = true ∧ t + sec 10 ≤ s.now :=
  ⟨{ on with dur.map := [(3, ⟨some 0⟩)], time.count := sec 10 }, 3, 0, by decide +kernel⟩

theorem witness_SaveSequence_1 : ∃ (s : State) (r : CmdRef) (c : Cmd) (action tag : Nat), Accepts s r 0x0905 c :=
  ⟨cmdOf 0x0905, ⟨0, 0⟩, theCmd 0x0905, 1, 7, by decide +kernel⟩

theorem witness_SaveSequence_2 : ∃ s : State, s.keeperRuns = true ∧ s.save.active = true ∧ s.saveWaits = false ∧ s.save.step < 9 :=
  ⟨{ up with save.active := true, save.step := 2 }, by decide +kernel⟩

theorem witness_SaveSequence_3 : ∃ (s : State) (mv : Nat) (q : QuenchReport), s.keeperRuns = true ∧ s.save.active = true ∧ s.save.step = 9 ∧ s.save.action ≠ .restart :=
  ⟨{ rails with keeper.powered := true, save.active := true, save.step := 9, save.action := .keep }, 40000, quiet, by decide +kernel⟩

theorem witness_SaveSequence_4 : ∃ (s : State) (mv : Nat) (q : QuenchReport), s.keeperRuns = true ∧ s.save.active = true ∧ s.save.step = 9 ∧ s.save.action = .restart ∧ s.save.change = none ∧ s.rd R.LIFE_STATE_LIFECYCLE ≠ 4 :=
  ⟨{ rails with keeper.powered := true, save.active := true, save.step := 9, save.action := .restart }, 40000, quiet, by decide +kernel⟩

theorem witness_SaveSequence_5 : ∃ s : State, s.keeperRuns = true ∧ s.save.active = true ∧ s.save.onBank = true :=
  ⟨{ rails with keeper.powered := true, save.active := true, save.step := 5, save.onBank := true }, by decide +kernel⟩

theorem witness_FlashMedia_1 : ∃ (s : State) (ch die : Nat), s.coreOn = true ∧ ch < 32 ∧ s.rdN R.FLASH_CH_STATUS_STATE ch = 2 :=
  ⟨(on.wrN R.FLASH_CH_STATUS_STATE 1 2), 1, 0, by decide +kernel⟩

theorem witness_FlashMedia_2 : ∃ (s : State) (ch die : Nat), s.coreOn = true ∧ ch < 32 ∧ die < 16 ∧ (s.diesInService ch).contains die = true :=
  ⟨{ (on.wrN R.FLASH_CH_STATUS_STATE 1 2) with flash.perChannel := 8 }, 1, 3, by decide +kernel⟩

theorem witness_FlashMedia_3 : ∃ s : State, s.coreOn = true ∧ s.save.active = false ∧ 0 < s.rd R.FLASH_REBUILD_LEFT_GIB :=
  ⟨on.wr R.FLASH_REBUILD_LEFT_GIB 5, by decide +kernel⟩

theorem witness_FlashMedia_4 : ∃ (s : State) (page : FlashPage) (step : Nat), s.coreOn = true ∧ s.readWaits page = false ∧ step < 3 :=
  ⟨on, .image 3, 0, by decide +kernel⟩

theorem witness_FlashMedia_5 : ∃ (s : State) (page : FlashPage), s.coreOn = true ∧ s.readWaits page = false :=
  ⟨on, .image 3, by decide +kernel⟩

theorem witness_FlashMedia_6 : ∃ (s : State) (page : FlashPage) (step : Nat), s.coreOn = true ∧ s.readWaits page = false ∧ 5 ≤ step :=
  ⟨on, .image 3, 5, by decide +kernel⟩

theorem witness_FlashMedia_7 : ∃ (s : State) (b : FlashBlock) (pages : List Nat) (micros : Nat), s.coreOn = true ∧ s.dieServes b = true ∧ (s.blockState b).retired = false ∧ (s.blockState b).eraseOpen = false :=
  ⟨{ (on.wrN R.FLASH_CH_STATUS_STATE 1 2) with flash.perChannel := 8 }, ⟨1, 2, 3⟩, [4], 600, by decide +kernel⟩

theorem witness_FlashMedia_8 : ∃ (s : State) (b : FlashBlock), s.coreOn = true ∧ s.eraseDue b = true ∧ ((s.save.active = true → s.save.step < 5)) :=
  ⟨{ on with flash.blocks := [((1 * 16 + 2) * 1048576 + 3, ⟨0, true, false, 0⟩)] }, ⟨1, 2, 3⟩, by decide +kernel⟩

theorem witness_FlashMedia_9 : ∃ (s : State) (b : FlashBlock) (bytes : Nat), s.blockFree b = true ∧ s.floorBars bytes = false :=
  ⟨{ (on.wrN R.FLASH_CH_STATUS_STATE 1 2) with flash.perChannel := 8, flash.erased := 300 * gib }, ⟨1, 2, 3⟩, 4096, by decide +kernel⟩

theorem witness_FlashMedia_10 : ∃ (s : State) (least most : FlashBlock) (bytes : Nat), s.blockFree least = true ∧ s.blockFree most = true ∧ s.spreadWide least most = true ∧ s.floorBars s.blockBytes = false :=
  ⟨{ ((on.wrN R.FLASH_CH_STATUS_STATE 1 2).wr R.FLASH_CTRL_PLANISH_SPREAD_10 1) with flash.perChannel := 8, flash.erased := 300 * gib, flash.blocks := [((1 * 16 + 2) * 1048576 + 4, ⟨5000, false, false, 0⟩)] }, ⟨1, 2, 3⟩, ⟨1, 2, 4⟩, 4096, by decide +kernel⟩

theorem witness_FlashMedia_11 : ∃ (s : State) (b : FlashBlock) (bytes : Nat) (pages : List FlashPage), s.blockFree b = true ∧ s.on R.FLASH_CTRL_PATROL_EN = true ∧ s.floorBars bytes = false :=
  ⟨{ ((on.wrN R.FLASH_CH_STATUS_STATE 1 2).wr R.FLASH_CTRL_PATROL_EN 1) with flash.perChannel := 8, flash.erased := 300 * gib }, ⟨1, 2, 3⟩, 4096, [.image 3], by decide +kernel⟩

theorem witness_FlashMedia_12 : ∃ s : State, s.coreOn = true :=
  ⟨on, by decide +kernel⟩

theorem witness_FlashMedia_13 : ∃ s : State, s.coreOn = true ∧ s.save.active = false ∧ s.start.tablesDone = true ∧ s.flash.checkpointAt ≤ s.now :=
  ⟨{ on with start.tablesDone := true }, by decide +kernel⟩

theorem witness_DramAndIntegrity_1 : ∃ (s : State) (ch bank : Nat) (c : DramChannel), s.dramChannel ch = some c ∧ s.coreOn = true ∧ s.rdN R.DRAM_CH_STATUS_STATE ch = 2 ∧ (AMap.get? s.dram.refreshed (ch * 256 + bank % 256)).getD 0 + s.refreshInterval c ≤ s.now :=
  ⟨{ (on.wrN R.DRAM_CH_STATUS_STATE 1 2) with dram.channels := [(1, ⟨false, false, 0, false, 4, []⟩)], time.count := 4000 }, 1, 3, ⟨false, false, 0, false, 4, []⟩, by decide +kernel⟩

theorem witness_DramAndIntegrity_2 : ∃ (s : State) (ch temp : Nat) (c : DramChannel), s.dramChannel ch = some c ∧ s.coreOn = true ∧ ch < 24 ∧ s.rdN R.DRAM_CH_STATUS_STATE ch = 2 ∧ temp < 105 :=
  ⟨{ (on.wrN R.DRAM_CH_STATUS_STATE 1 2) with dram.channels := [(1, ⟨false, false, 0, false, 4, []⟩)], time.count := 4000 }, 1, 90, ⟨false, false, 0, false, 4, []⟩, by decide +kernel⟩

theorem witness_DramAndIntegrity_3 : ∃ (s : State) (ch retries : Nat), s.coreOn = true ∧ 3 ≤ retries ∧ ch < 24 ∧ s.rdN R.DRAM_CH_STATUS_STATE ch = 2 :=
  ⟨(on.wrN R.DRAM_CH_STATUS_STATE 1 2).wr R.DRAM_STATUS_IN_SERVICE 8, 1, 3, by decide +kernel⟩

theorem witness_DramAndIntegrity_4 : ∃ (s : State) (ch rank bank row : Nat), s.coreOn = true ∧ s.dram.repairing.contains (rowKey ch rank bank row) = true :=
  ⟨{ on with dram.repairing := [rowKey 1 0 2 3] }, 1, 0, 2, 3, by decide +kernel⟩

theorem witness_DramAndIntegrity_5 : ∃ (s : State) (bank w : Nat) (m : Miss), AMap.get? s.near.misses bank = some m ∧ m.way = some w ∧ s.coreOn = true ∧ s.save.active = false ∧ s.bankBusy (m.line * 64) = false ∧ s.channelGone (m.line * 64) = false ∧ s.behindAged m = false ∧ s.eng.ops = [] :=
  ⟨{ on with near.misses := [(0, ⟨0, some 3, [(1, 7)], 0, false⟩)], near.ways := [(3, ⟨0, .filling, false, false, []⟩)] }, 0, 3, ⟨0, some 3, [(1, 7)], 0, false⟩, by decide +kernel⟩

theorem witness_DramAndIntegrity_6 : ∃ (s : State) (bank : Nat) (m : Miss), AMap.get? s.near.misses bank = some m ∧ s.coreOn = true ∧ m.since + us (s.rd R.DRAM_AGE_AGE_US) ≤ s.now :=
  ⟨{ on with near.misses := [(0, ⟨0, some 3, [], 0, false⟩)], time.count := sec 1 }, 0, ⟨0, some 3, [], 0, false⟩, by decide +kernel⟩

theorem witness_DramAndIntegrity_7 : ∃ (s : State) (pct : Nat) (ue : Bool), s.coreOn = true ∧ s.save.active = false ∧ s.rd R.LIFE_STATE_POWER ≠ 2 ∧ pct < 100 :=
  ⟨on, 40, false, by decide +kernel⟩

theorem witness_DramAndIntegrity_8 : ∃ (s : State) (pct a : Nat), s.coreOn = true ∧ s.save.active = false ∧ s.rd R.LIFE_STATE_POWER ≠ 2 ∧ pct < 100 :=
  ⟨on, 40, 4096, by decide +kernel⟩

theorem witness_DramAndIntegrity_9 : ∃ (s : State) (kind entry : Nat) (ok : Bool), s.coreOn = true ∧ s.integ.reloading.contains (kind, entry) = true :=
  ⟨{ on with integ.reloading := [(1, 5)] }, 1, 5, false, by decide +kernel⟩

theorem witness_DramAndIntegrity_10 : ∃ (s : State) (l : Nat) (d : List Byte), s.coreOn = true ∧ s.integ.fixing.contains l = true ∧ s.flashChunk l = some d ∧ AMap.has s.mem.dramPoison l = true :=
  ⟨{ mapped with integ.fixing := [3], mem.dramPoison := [(3, 1)] }, 3, List.replicate 64 0, by decide +kernel⟩

theorem witness_NearCacheRows_1 : ∃ (s : State) (r : CmdRef) (c : Cmd) (region off len i n : Nat) (repin : Bool) (x : Region), Accepts s r 0x0501 c ∧ s.twin.holder = true ∧ s.region? region = some x ∧ x.shelf = false ∧ s.lockVerdict region off len = .ok (i, repin, n) :=
  ⟨{ (cmdOf 0x0501).wr R.NEAR_CTRL_ENABLE 1 with prot := { mapped.prot with regions := [(1, ⟨.active, 0, 0x200000, 0, true, false, false, false, true, 0, 0, 0, 0⟩)] } }, ⟨0, 0⟩, theCmd 0x0501, 1, 0, 128, 0, 128, false, ⟨.active, 0, 0x200000, 0, true, false, false, false, true, 0, 0, 0, 0⟩, ⟨by decide +kernel, by decide, rfl, by decide, rfl⟩⟩

theorem witness_NearCacheRows_2 : ∃ (s : State) (r : CmdRef) (c : Cmd) (region off len i n : Nat) (x : Region), Accepts s r 0x0502 c ∧ s.twin.holder = true ∧ s.region? region = some x ∧ n = (if len = 0 then x.size - off else len) ∧ off % 64 = 0 ∧ n % 64 = 0 ∧ off + n ≤ x.size ∧ s.exactLock region off n = some i :=
  ⟨{ (cmdOf 0x0502) with prot := mapped.prot, near.locks := [(0, ⟨1, 0, 128⟩)] }, ⟨0, 0⟩, theCmd 0x0502, 1, 0, 128, 0, 128, ⟨.active, 0, 0x200000, 0, true, false, false, false, false, 0, 0, 0, 0⟩, by decide +kernel⟩

theorem witness_NearCacheRows_3 : ∃ (s : State) (r : CmdRef) (c : Cmd) (region off len n : Nat) (x : Region), Accepts s r 0x0503 c ∧ s.region? region = some x ∧ n = (if len = 0 then x.size - off else len) ∧ off % 64 = 0 ∧ n % 64 = 0 ∧ off + n ≤ x.size :=
  ⟨{ (cmdOf 0x0503) with prot := mapped.prot }, ⟨0, 0⟩, theCmd 0x0503, 1, 0, 128, 128, ⟨.active, 0, 0x200000, 0, true, false, false, false, false, 0, 0, 0, 0⟩, by decide +kernel⟩

theorem witness_NearCacheRows_4 : ∃ (s : State) (maxLockWays : Nat), s.coreOn = true ∧ s.rd R.NEAR_CTRL_ENABLE = 1 :=
  ⟨on.wr R.NEAR_CTRL_ENABLE 1, 20, by decide +kernel⟩

theorem witness_NearCacheRows_5 : ∃ s : State, s.coreOn = true ∧ s.rd R.NEAR_CTRL_ENABLE = 2 ∧ s.near.reenable = false :=
  ⟨on.wr R.NEAR_CTRL_ENABLE 2, by decide +kernel⟩

theorem witness_NearCacheRows_6 : ∃ (s : State) (maxLockWays : Nat), s.coreOn = true ∧ s.rd R.NEAR_CTRL_ENABLE = 0 :=
  ⟨on.wr R.NEAR_CTRL_ENABLE 0, 20, by decide +kernel⟩

theorem witness_RegionCommands_1 : ∃ (s : State) (r : CmdRef) (c : Cmd) (base size flags object key peer id : Nat) (x : Region), Accepts s r 0x0101 c ∧ s.twin.holder = true ∧ s.outboxFull = false ∧ (s.inDomain && s.domain.dirFull) = false ∧ (match s.newRegion base size flags (object % 262144) key with | .ok y => decide (y = (id, x)) | .error _ => false) = true ∧ (match s.createRegion id x with | .ok _ => true | .error _ => false) = true ∧ (x.mirrored && s.twinAccepts && peer != 0) = false :=
  ⟨{ (cmdOf 0x0101) with crypt.slots := [(5, ⟨1, false, 9, 1, false, 0, 0, 0⟩)], dram.order := [0], dram.gib := 8 }, ⟨0, 0⟩, theCmd 0x0101, 0xFFFFFFFFFFFFFFFF, 100, 1, 0, 5, 0, 0, ⟨.creating, 0, 0x200000, 0x200000, true, false, false, false, false, 0, 5, 0, 0⟩, by decide +kernel⟩

theorem witness_RegionCommands_2 : ∃ (s : State) (r : CmdRef) (c : Cmd) (region newSize peer id n : Nat) (x : Region), Accepts s r 0x0102 c ∧ s.twin.holder = true ∧ s.outboxFull = false ∧ id = region % 262144 ∧ n = regionSize newSize ∧ (match s.resizeVerdict id n with | .ok y => decide (y = x) | .error _ => false) = true ∧ n = x.size :=
  ⟨{ (cmdOf 0x0102) with prot := mapped.prot }, ⟨0, 0⟩, theCmd 0x0102, 1, 0x200000, 0, 1, 0x200000, ⟨.active, 0, 0x200000, 0, true, false, false, false, false, 0, 0, 0, 0⟩, by decide +kernel⟩

theorem witness_RegionCommands_3 : ∃ (s : State) (r : CmdRef) (c : Cmd) (region newSize peer id n : Nat) (x : Region), Accepts s r 0x0102 c ∧ s.twin.holder = true ∧ s.outboxFull = false ∧ id = region % 262144 ∧ n = regionSize newSize ∧ (match s.resizeVerdict id n with | .ok y => decide (y = x) | .error _ => false) = true ∧ x.size < n ∧ s.holds x = true ∧ (match s.growRegion id x n with | .ok _ => true | .error _ => false) = true ∧ (x.mirrored && s.twinAccepts && peer != 0) = false :=
  ⟨{ (cmdOf 0x0102) with prot := mapped.prot, dram.order := [0], dram.gib := 8 }, ⟨0, 0⟩, theCmd 0x0102, 1, 0x200001, 0, 1, 0x400000, ⟨.active, 0, 0x200000, 0, true, false, false, false, false, 0, 0, 0, 0⟩, by decide +kernel⟩

theorem witness_RegionCommands_4 : ∃ (s : State) (r : CmdRef) (c : Cmd) (region newSize peer id n : Nat) (x : Region), Accepts s r 0x0102 c ∧ s.twin.holder = true ∧ s.outboxFull = false ∧ id = region % 262144 ∧ n = regionSize newSize ∧ (match s.resizeVerdict id n with | .ok y => decide (y = x) | .error _ => false) = true ∧ n < x.size ∧ s.eng.ops = [] ∧ s.eng.gather = [] ∧ s.ports.waiting = [] :=
  ⟨{ (cmdOf 0x0102) with prot := { mapped.prot with regions := [(1, ⟨.active, 0, 0x400000, 0, true, false, false, false, false, 0, 0, 0, 0⟩)], extents := [⟨0, 2, 1, false, 0, 0⟩] } }, ⟨0, 0⟩, theCmd 0x0102, 1, 0x200000, 0, 1, 0x200000, ⟨.active, 0, 0x400000, 0, true, false, false, false, false, 0, 0, 0, 0⟩, by decide +kernel⟩

theorem witness_RegionCommands_5 : ∃ (s : State) (r : CmdRef) (c : Cmd) (region id : Nat) (x : Region), Accepts s r 0x0103 c ∧ s.twin.holder = true ∧ s.outboxFull = false ∧ id = region % 262144 ∧ s.region? id = some x ∧ s.isDirectory id = false ∧ x.state = .active ∧ s.eng.ops = [] ∧ s.eng.gather = [] ∧ s.eng.waiting = [] ∧ s.ports.waiting = [] :=
  ⟨{ (cmdOf 0x0103) with prot := mapped.prot }, ⟨0, 0⟩, theCmd 0x0103, 1, 1, ⟨.active, 0, 0x200000, 0, true, false, false, false, false, 0, 0, 0, 0⟩, by decide +kernel⟩

theorem witness_RegionCommands_6 : ∃ (s : State) (r : CmdRef) (c : Cmd) (region set clear peer id : Nat) (x : Region), Accepts s r 0x0104 c ∧ s.twin.holder = true ∧ s.outboxFull = false ∧ id = region % 262144 ∧ s.region? id = some x ∧ x.state = .active ∧ (set ||| clear).testBit 0 = false ∧ (set ||| clear).testBit 2 = false ∧ Region.flagsValid (Region.withFlags x set clear) = true ∧ (((Region.withFlags x set clear).mirrored = true → x.mirrored = false → x.owner = s.side ∧ s.twinAccepts = false)) :=
  ⟨{ (cmdOf 0x0104) with prot := mapped.prot }, ⟨0, 0⟩, theCmd 0x0104, 1, 18, 0, 0, 1, ⟨.active, 0, 0x200000, 0, true, false, false, false, false, 0, 0, 0, 0⟩, by decide +kernel⟩

theorem witness_RegionCommands_7 : ∃ (s : State) (region cmd : Nat) (c : Cmd) (x : Region), s.coreOn = true ∧ s.save.active = false ∧ AMap.get? s.prot.creating region = some cmd ∧ s.region? region = some x ∧ s.cmds.find? (fun d => d.id == cmd) = some c ∧ c.orphan = false :=
  ⟨{ (cmdOf 0x0101) with cmds := [{ theCmd 0x0101 with phase := .running }], prot := { mapped.prot with regions := [(1, ⟨.creating, 0, 0x200000, 0x200000, true, false, false, false, false, 0, 0, 0, 0⟩)], creating := [(1, 1)] } }, 1, 1, { theCmd 0x0101 with phase := .running }, ⟨.creating, 0, 0x200000, 0x200000, true, false, false, false, false, 0, 0, 0, 0⟩, by decide +kernel⟩

theorem witness_ProtectionCommands_1 : ∃ (s : State) (r : CmdRef) (c : Cmd) (pd p : Nat), Accepts s r 0x0105 c ∧ s.twin.holder = true ∧ s.inDomain = false ∧ (if pd = 0xFFFFFFFF then AMap.free s.prot.pds 0 65536 else some (pd % 65536)) = some p ∧ AMap.has s.prot.pds p = false :=
  ⟨cmdOf 0x0105, ⟨0, 0⟩, theCmd 0x0105, 0xFFFFFFFF, 0, by decide +kernel⟩

theorem witness_ProtectionCommands_2 : ∃ (s : State) (r : CmdRef) (c : Cmd) (pd p : Nat), Accepts s r 0x0106 c ∧ s.twin.holder = true ∧ s.inDomain = false ∧ s.founded = false ∧ p = pd % 65536 ∧ AMap.has s.prot.pds p = true ∧ s.prot.drains.any (fun d => d.removal == .pd p) = false ∧ s.pdInUse p = false ∧ s.eng.ops = [] ∧ s.eng.gather = [] ∧ s.ports.waiting = [] :=
  ⟨{ (cmdOf 0x0106) with prot.pds := [(4, ⟨7, none, 0⟩)], prot.bindings := [(4 * 262144 + 1, true)] }, ⟨0, 0⟩, theCmd 0x0106, 4, 4, by decide +kernel⟩

theorem witness_ProtectionCommands_3 : ∃ (s : State) (r : CmdRef) (c : Cmd) (pd region access : Nat) (p : Pd) (x : Region), Accepts s r 0x0107 c ∧ s.twin.holder = true ∧ AMap.get? s.prot.pds (pd % 65536) = some p ∧ s.region? (region % 262144) = some x ∧ x.state ≠ .creating ∧ x.state ≠ .destroying ∧ ((access = 1 → x.shelf = false)) ∧ s.unbinding (pd % 65536) (region % 262144) = false ∧ s.prot.bindings.length < 524288 :=
  ⟨{ (cmdOf 0x0107) with prot := { mapped.prot with pds := [(4, ⟨7, none, 0⟩)] } }, ⟨0, 0⟩, theCmd 0x0107, 4, 1, 1, ⟨7, none, 0⟩, ⟨.active, 0, 0x200000, 0, true, false, false, false, false, 0, 0, 0, 0⟩, by decide +kernel⟩

theorem witness_ProtectionCommands_4 : ∃ (s : State) (r : CmdRef) (c : Cmd) (pd region : Nat) (p : Pd) (x : Region), Accepts s r 0x0108 c ∧ s.twin.holder = true ∧ AMap.get? s.prot.pds (pd % 65536) = some p ∧ s.region? (region % 262144) = some x ∧ x.state ≠ .creating ∧ x.state ≠ .destroying ∧ s.isDirectory (region % 262144) = false ∧ AMap.has s.prot.bindings (bindKey (pd % 65536) (region % 262144)) = true ∧ s.prot.drains.any (fun d => d.removal == .unbind (pd % 65536) (region % 262144)) = false ∧ s.eng.ops = [] ∧ s.eng.gather = [] ∧ s.ports.waiting = [] :=
  ⟨{ (cmdOf 0x0108) with prot := { mapped.prot with pds := [(4, ⟨7, none, 0⟩)], bindings := [(4 * 262144 + 1, true)] } }, ⟨0, 0⟩, theCmd 0x0108, 4, 1, ⟨7, none, 0⟩, ⟨.active, 0, 0x200000, 0, true, false, false, false, false, 0, 0, 0, 0⟩, by decide +kernel⟩

theorem witness_ProtectionCommands_5 : ∃ (s : State) (r : CmdRef) (c : Cmd) (pd key grace : Nat) (p : Pd), Accepts s r 0x0109 c ∧ s.twin.holder = true ∧ s.inDomain = false ∧ AMap.get? s.prot.pds (pd % 65536) = some p :=
  ⟨{ (cmdOf 0x0109) with prot.pds := [(4, ⟨7, none, 0⟩)] }, ⟨0, 0⟩, theCmd 0x0109, 4, 8, 20000, ⟨7, none, 0⟩, by decide +kernel⟩

theorem witness_ProtectionCommands_6 : ∃ (s : State) (pd : Nat) (p : Pd), s.coreOn = true ∧ AMap.get? s.prot.pds pd = some p ∧ due s.now (AMap.get? s.prot.graceEnds pd) = true :=
  ⟨{ on with prot.pds := [(4, ⟨7, some 6, 0⟩)], prot.graceEnds := [(4, 0)] }, 4, ⟨7, some 6, 0⟩, by decide +kernel⟩

theorem witness_ProtectionCommands_7 : ∃ (s : State) (place pd region : Nat) (d : Drain) (c : Cmd), s.coreOn = true ∧ s.save.active = false ∧ s.prot.drains[place]? = some d ∧ s.drained d = true ∧ d.removal = .unbind pd region ∧ d.cmd = some c.id ∧ s.cmds.find? (fun k => k.id == c.id) = some c ∧ c.orphan = false :=
  ⟨{ (cmdOf 0x0108) with prot.bindings := [(4 * 262144 + 1, true)], prot.drains := [⟨some 1, none, .unbind 4 1, [], [], 5⟩] }, 0, 4, 1, ⟨some 1, none, .unbind 4 1, [], [], 5⟩, theCmd 0x0108, by decide +kernel⟩

theorem witness_ProtectionCommands_8 : ∃ (s : State) (place : Nat) (d : Drain) (o : Op), s.coreOn = true ∧ s.save.active = false ∧ s.prot.drains[place]? = some d ∧ d.limit ≤ s.now ∧ s.eng.ops.find? (fun x => x.id == o.id) = some o ∧ d.ops.contains o.id = true ∧ o.req.opcode ∈ [1, 2, 7] ∧ o.status = none ∧ o.responded = false ∧ s.opReady o = false ∧ s.eng.gather = [] :=
  ⟨{ on with prot.drains := [⟨none, none, .region 1, [3], [3], 0⟩], eng.ops := [aRead] }, 0, ⟨none, none, .region 1, [3], [3], 0⟩, aRead, by decide +kernel⟩

theorem witness_ShelfCommands_1 : ∃ (s : State) (r : CmdRef) (c : Cmd) (id tileCode flags key size owner tag i : Nat) (x : Object), Accepts s r 0x0401 c ∧ s.twin.holder = true ∧ x = ⟨.loading, if tileCode ≤ 4 then tileCode else 2, flags % 2 == 1, key, clampTo 0x10000 0x40000000000 size, owner % 65536, tag % 2 ^ 128, [], [], [], true⟩ ∧ (match s.objectVerdict id key owner x with | .ok j => decide (j = i) | .error _ => false) = true :=
  ⟨{ (((cmdOf 0x0401).wr R.FLASH_USER_GIB 8000)) with crypt.slots := [(5, ⟨1, false, 9, 1, false, 0, 0, 0⟩)], prot.pds := [(4, ⟨7, none, 0⟩)], flash.reserve := 2 ^ 50 }, ⟨0, 0⟩, theCmd 0x0401, 0xFFFFFFFF, 7, 1, 5, 3, 4, 9, 0, ⟨.loading, 2, true, 5, 0x10000, 4, 9, [], [], [], true⟩, by decide +kernel⟩

theorem witness_ShelfCommands_2 : ∃ (s : State) (r : CmdRef) (c : Cmd) (id : Nat), Accepts s r 0x0403 c ∧ s.twin.holder = true ∧ AMap.has s.shelf.objects (id % 262144) = true ∧ s.objectMapped (id % 262144) = false :=
  ⟨{ (cmdOf 0x0403) with shelf.objects := [(0, anObject)] }, ⟨0, 0⟩, theCmd 0x0403, 0, by decide +kernel⟩

theorem witness_ShelfCommands_3 : ∃ (s : State) (r : CmdRef) (c : Cmd) (id flags off host : Nat) (data : List Byte), Accepts s r 0x0402 c ∧ s.twin.holder = true ∧ host % 64 = 0 ∧ s.loadVerdict (id % 262144) flags off data.length = none ∧ s.stage = 0 ∧ s.floorBars data.length = false :=
  ⟨{ (cmdOf 0x0402) with shelf.objects := [(0, { anObject with size := 3 })], flash.reserve := 2 ^ 50, flash.erased := 2 ^ 50 }, ⟨0, 0⟩, theCmd 0x0402, 0, 0, 0, 64, [1, 2, 3], by decide +kernel⟩

theorem witness_ShelfCommands_4 : ∃ (s : State) (r : CmdRef) (c : Cmd) (id flags lookahead object pd cursors entries host i f : Nat) (list es : List Nat), Accepts s r 0x0404 c ∧ s.twin.holder = true ∧ host % 64 = 0 ∧ es = (list.take (clampTo 1 4194304 entries)).map (· % 2 ^ 32) ∧ (match s.scheduleVerdict id (object % 262144) (pd % 65536) (clampTo 1 1024 cursors) es with | .ok j => decide (j = (i, f)) | .error _ => false) = true :=
  ⟨{ (cmdOf 0x0404) with shelf.objects := [(0, anObject)], prot.pds := [(4, ⟨7, none, 0⟩)] }, ⟨0, 0⟩, theCmd 0x0404, 0xFFFF, 1, 99, 0, 4, 2, 2, 64, 0, 0, [0, 1], [0, 1], by decide +kernel⟩

theorem witness_ShelfCommands_5 : ∃ (s : State) (r : CmdRef) (c : Cmd) (id : Nat), Accepts s r 0x0405 c ∧ s.twin.holder = true ∧ AMap.has s.shelf.schedules (id % 4096) = true ∧ s.eng.ops = [] :=
  ⟨{ (cmdOf 0x0405) with shelf.objects := [(0, anObject)], shelf.schedules := [(0, ⟨0, [0, 1], true, true, 1, 4, 0, [0]⟩)] }, ⟨0, 0⟩, theCmd 0x0405, 4096, by decide +kernel⟩

theorem witness_ShelfCommands_6 : ∃ s : State, s.coreOn = true ∧ s.isActive = true ∧ s.paired = true ∧ s.save.active = false ∧ s.twin.cursorAt ≤ s.now :=
  ⟨{ holder with twin.peer := some 3, twin.leaseEnd := some 9 }, by decide +kernel⟩

theorem witness_ShelfCommands_7 : ∃ (s : State) (v : Nat), s.coreOn = true :=
  ⟨{ up with dram.order := [0], dram.gib := 64, start.tablesDone := true }, 3, by decide +kernel⟩

theorem witness_ShelfCommands_8 : ∃ (s : State) (o k p : Nat) (tagOk : Bool) (x : Object) (y : Tile), s.coreOn = true ∧ s.save.active = false ∧ s.object? o = some x ∧ s.tile? o k = some y ∧ y.state = .filling ∧ Object.nextPage x y = some p ∧ (x.header && p == 0 || (!s.flash.lost.contains (.shelf o k p) && tagOk && s.shelfPageFits x o y p)) = true ∧ s.eng.ops = [] :=
  ⟨{ on with shelf.objects := [(0, anObject)], shelf.tiles := [aTile] }, 0, 0, 0, true, anObject, aTile, by decide +kernel⟩

theorem witness_ShelfCommands_9 : ∃ (s : State) (o k : Nat) (x : Object), s.coreOn = true ∧ s.isActive = true ∧ s.save.active = false ∧ s.start.admitted = true ∧ s.demandWaits = false ∧ s.lookaheadWants.head? = some (o, k) ∧ s.object? o = some x ∧ s.tileFits (Object.tileUnits x) false false = true :=
  ⟨{ holder with shelf.objects := [(0, { anObject with state := .ready })], shelf.stage := rangeFrom 0 600, shelf.schedules := [(0, ⟨0, [1], true, true, 1, 4, 0, [0]⟩)] }, 0, 1, { anObject with state := .ready }, by decide +kernel⟩

theorem witness_ShelfCommands_10 : ∃ (s : State) (o k : Nat) (y : Tile), s.coreOn = true ∧ s.tile? o k = some y ∧ y.state = .evicting ∧ s.tileRefs o k = 0 ∧ s.eng.ops = [] ∧ s.near.loading = [] :=
  ⟨{ on with shelf.tiles := [{ aTile with state := .evicting }] }, 0, 0, { aTile with state := .evicting }, by decide +kernel⟩

theorem witness_ShelfCommands_11 : ∃ (s : State) (o k p : Nat) (x : Object) (y : Tile), s.coreOn = true ∧ s.object? o = some x ∧ s.tile? o k = some y ∧ y.recovering.head? = some p ∧ s.eng.ops = [] :=
  ⟨{ on with shelf.objects := [(0, anObject)], shelf.tiles := [{ aTile with state := .recovering, recovering := [0] }] }, 0, 0, 0, anObject, { aTile with state := .recovering, recovering := [0] }, by decide +kernel⟩

theorem witness_ShelfCommands_12 : ∃ (s : State) (fields : List Nat) (data : List Byte) (o k : Nat), s.coreOn = true ∧ s.linkUp = true ∧ s.twin.holder = false ∧ o = fields.getD 0 0 ∧ k = fields.getD 1 0 :=
  ⟨on.wr R.TWIN_STATUS_LINK 2, [0, 1], [5], 0, 1, by decide +kernel⟩

theorem witness_ShelfCommands_13 : ∃ (s : State) (fields : List Nat) (data : List Byte) (o : Nat) (x : Schedule), s.coreOn = true ∧ s.linkUp = true ∧ s.twin.holder = false ∧ o = fields.getD 0 0 ∧ AMap.get? s.shelf.schedules o = some x :=
  ⟨{ (on.wr R.TWIN_STATUS_LINK 2) with shelf.schedules := [(0, ⟨0, [0, 1], true, true, 1, 4, 0, [0]⟩)] }, [0, 1], [], 0, ⟨0, [0, 1], true, true, 1, 4, 0, [0]⟩, by decide +kernel⟩

theorem witness_QueueAndQpCommands_1 : ∃ (s : State) (r : CmdRef) (c : Cmd) (id pd key i : Nat), Accepts s r 0x0201 c ∧ s.twin.holder = true ∧ s.inDomain = false ∧ s.queueVerdict (id % 2 ^ 32) (pd % 65536) key = none ∧ i = id % 2 ^ 32 % 2 ^ 22 :=
  ⟨{ (cmdOf 0x0201) with crypt.slots := [(5, ⟨2, false, 9, 1, false, 0, 0, 0⟩)], prot.pds := [(4, ⟨7, none, 0⟩)] }, ⟨0, 0⟩, theCmd 0x0201, 0x400003, 4, 5, 3, by decide +kernel⟩

theorem witness_QueueAndQpCommands_2 : ∃ (s : State) (r : CmdRef) (c : Cmd) (id i : Nat) (q : QueueRec), Accepts s r 0x0202 c ∧ s.twin.holder = true ∧ s.inDomain = false ∧ s.founded = false ∧ i = id % 2 ^ 32 % 2 ^ 22 ∧ AMap.get? s.cerga.queues i = some q ∧ q.gen = id % 2 ^ 32 / 2 ^ 22 ∧ q.leaving = false ∧ s.eng.ops = [] ∧ s.eng.gather = [] ∧ s.ports.waiting = [] :=
  ⟨{ (cmdOf 0x0202) with cerga.queues := [(3, ⟨1, 4, 5, false⟩)], cerga.streams := [(3, streamNone)] }, ⟨0, 0⟩, theCmd 0x0202, 0x400003, 3, ⟨1, 4, 5, false⟩, by decide +kernel⟩

theorem witness_QueueAndQpCommands_3 : ∃ (s : State) (r : CmdRef) (c : Cmd) (num pd q : Nat), Accepts s r 0x0203 c ∧ s.twin.holder = true ∧ (if num = 0xFFFFFFFF then AMap.free s.roce.qps 0 262144 else qpIndex (num % 2 ^ 24)) = some q ∧ AMap.has s.roce.qps q = false ∧ AMap.has s.prot.pds (pd % 65536) = true :=
  ⟨{ (cmdOf 0x0203) with prot.pds := [(4, ⟨7, none, 0⟩)] }, ⟨0, 0⟩, theCmd 0x0203, 0xFFFFFFFF, 4, 0, by decide +kernel⟩

theorem witness_QueueAndQpCommands_4 : ∃ (s : State) (r : CmdRef) (c : Cmd) (num state q : Nat) (p : QpParams) (x : Qp), Accepts s r 0x0204 c ∧ s.twin.holder = true ∧ qpIndex (num % 2 ^ 24) = some q ∧ s.qp? q = some x ∧ s.prot.drains.any (fun d => d.removal == .qp q) = false ∧ qpMayMove x (qpTarget state) = true ∧ s.eng.ops = [] ∧ s.eng.gather = [] ∧ s.ports.waiting = [] :=
  ⟨{ (cmdOf 0x0204) with roce.qps := [(0, qpNew 4)] }, ⟨0, 0⟩, theCmd 0x0204, 0x100000, 2, 0, ⟨20, 33, 300, 5, 6, 7, 8, 0⟩, qpNew 4, by decide +kernel⟩

theorem witness_QueueAndQpCommands_5 : ∃ (s : State) (r : CmdRef) (c : Cmd) (num q : Nat), Accepts s r 0x0205 c ∧ s.twin.holder = true ∧ qpIndex (num % 2 ^ 24) = some q ∧ AMap.has s.roce.qps q = true ∧ s.prot.drains.any (fun d => d.removal == .qp q) = false ∧ s.eng.ops = [] ∧ s.eng.gather = [] ∧ s.ports.waiting = [] :=
  ⟨{ (cmdOf 0x0205) with roce.qps := [(0, qpNew 4)] }, ⟨0, 0⟩, theCmd 0x0205, 0x100000, 0, by decide +kernel⟩

theorem witness_MeterCommands_1 : ∃ (s : State) (r : CmdRef) (c : Cmd) (account mode tenant k : Nat), Accepts s r 0x0601 c ∧ s.twin.holder = true ∧ mode ≠ 1 ∧ (if account = 0xFFFFFFFF then AMap.free s.meter.accounts 1 65535 else some (account % 65536)) = some k ∧ k ≠ 0 ∧ AMap.has s.meter.accounts k = false :=
  ⟨cmdOf 0x0601, ⟨0, 0⟩, theCmd 0x0601, 0xFFFFFFFF, 2, 77, 1, by decide +kernel⟩

theorem witness_MeterCommands_2 : ∃ (s : State) (r : CmdRef) (c : Cmd) (account tenant k : Nat), Accepts s r 0x0601 c ∧ s.twin.holder = true ∧ k = account % 65536 ∧ k ≠ 0 ∧ s.accountOpen k = true ∧ s.accountBound k = false ∧ AMap.wf s.meter.accounts = true :=
  ⟨{ (cmdOf 0x0601) with meter.accounts := [(1, ⟨77, false⟩)] }, ⟨0, 0⟩, theCmd 0x0601, 1, 0, 1, by decide +kernel⟩

theorem witness_MeterCommands_3 : ∃ (s : State) (r : CmdRef) (c : Cmd) (kind target account : Nat), Accepts s r 0x0602 c ∧ s.twin.holder = true ∧ s.accountOpen (account % 65536) = true ∧ (if kind = 1 then ((s.region? (target % 2 ^ 18)).map (fun x => !x.shelf)).getD false else AMap.has s.prot.pds (target % 65536)) = true :=
  ⟨{ (cmdOf 0x0602) with prot.pds := [(4, ⟨7, none, 0⟩)], meter.accounts := [(1, ⟨77, false⟩)] }, ⟨0, 0⟩, theCmd 0x0602, 2, 4, 1, by decide +kernel⟩

theorem witness_MeterCommands_4 : ∃ (s : State) (r : CmdRef) (c : Cmd) (ring flags first last : Nat), Accepts s r 0x0603 c ∧ (flags.testBit 0 && s.meter.setups.any (fun e => e.1 != min ring 3 && e.2.enable && decide (e.2.first ≤ last % 65536 ∧ first % 65536 ≤ e.2.last))) = false :=
  ⟨cmdOf 0x0603, ⟨0, 0⟩, theCmd 0x0603, 2, 11, 0, 5, by decide +kernel⟩

theorem witness_MeterCommands_5 : ∃ (s : State) (r : CmdRef) (c : Cmd) (pd opsRate opsBurst bytesRate burstKib : Nat), Accepts s r 0x0604 c ∧ s.twin.holder = true ∧ AMap.has s.prot.pds (pd % 65536) = true ∧ s.eng.waiting = [] ∧ s.ports.waiting = [] :=
  ⟨{ (cmdOf 0x0604) with prot.pds := [(4, ⟨7, none, 0⟩)] }, ⟨0, 0⟩, theCmd 0x0604, 4, 5, 5, 0, 5, by decide +kernel⟩

theorem witness_PowerStateCommands_1 : ∃ (s : State) (r : CmdRef) (c : Cmd) (flags : Nat), Accepts s r 0x0906 c ∧ s.rd R.LIFE_STATE_POWER ≠ 2 :=
  ⟨cmdOf 0x0906, ⟨0, 0⟩, theCmd 0x0906, 0, by decide +kernel⟩

theorem witness_PowerStateCommands_2 : ∃ (s : State) (r : CmdRef) (c : Cmd) (level flags : Nat), Accepts s r 0x0906 c ∧ level ≠ 1 ∧ level ≠ 3 ∧ s.rd R.LIFE_STATE_POWER ≠ 2 ∧ s.quiesceYields = false ∧ ((flags % 2 = 1 ∨ s.isActive = false)) ∧ s.eng.ops.all (fun o => o.responded) = true :=
  ⟨cmdOf 0x0906, ⟨0, 0⟩, theCmd 0x0906, 2, 1, by decide +kernel⟩

theorem witness_PowerStateCommands_3 : ∃ (s : State) (r : CmdRef) (c : Cmd) (flags : Nat), Accepts s r 0x0906 c :=
  ⟨cmdOf 0x0906, ⟨0, 0⟩, theCmd 0x0906, 0, by decide +kernel⟩

theorem witness_PowerStateCommands_4 : ∃ (s : State) (r : CmdRef) (c : Cmd) (mask : Nat), Accepts s r 0x0907 c ∧ s.eng.waiting = [] ∧ s.ports.waiting = [] :=
  ⟨(cmdOf 0x0907).wr R.LIFE_STATE_POWER 2, ⟨0, 0⟩, theCmd 0x0907, 0xFF, by decide +kernel⟩

theorem witness_PowerStateCommands_5 : ∃ s : State, s.coreOn = true ∧ s.save.active = false ∧ s.on R.LIFE_POWER_AUTO_PACED = true ∧ s.rd R.LIFE_STATE_POWER = 0 ∧ 11 ≤ s.start.step :=
  ⟨holder.wr R.LIFE_POWER_AUTO_PACED 1, by decide +kernel⟩

theorem witness_PowerStateCommands_6 : ∃ s : State, s.coreOn = true ∧ s.save.active = false ∧ s.pace.automatic = true ∧ s.rd R.LIFE_STATE_POWER = 1 :=
  ⟨{ (holder.wr R.LIFE_STATE_POWER 1) with pace.automatic := true }, by decide +kernel⟩

theorem witness_CergaRequests_1 : ∃ (s : State) (p : CergaPacket) (q : QueueRec) (i : Nat), i = p.queue % 2 ^ 22 ∧ p.tag = s.requestTag 1 p ∧ CergaNext s 1 p q ∧ Passes s (s.cergaRequest i 1 p false) :=
  ⟨streamOn, tagged 1 (packetOf 64 8 []), ⟨1, 4, 5, false⟩, 3, ⟨rfl, tagged_ok _ _, by decide +kernel, by decide +kernel⟩⟩

theorem witness_CergaRequests_2 : ∃ (s : State) (p : CergaPacket) (q : QueueRec) (i : Nat), i = p.queue % 2 ^ 22 ∧ p.tag = s.requestTag 6 p ∧ CergaNext s 6 p q ∧ Passes s (s.cergaRequest i 6 p false) :=
  ⟨streamOn, tagged 6 (packetOf 0 1 []), ⟨1, 4, 5, false⟩, 3, ⟨rfl, tagged_ok _ _, by decide +kernel, by decide +kernel⟩⟩

theorem witness_CergaRequests_3 : ∃ (s : State) (p : CergaPacket) (q : QueueRec) (i : Nat), i = p.queue % 2 ^ 22 ∧ p.tag = s.requestTag 7 p ∧ CergaNext s 7 p q ∧ Passes s (s.cergaRequest i 7 p false) :=
  ⟨streamOn, tagged 7 (packetOf 0x200000 8 [255, 255, 255, 255]), ⟨1, 4, 5, false⟩, 3, ⟨rfl, tagged_ok _ _, by decide +kernel, by decide +kernel⟩⟩

theorem witness_CergaRequests_4 : ∃ (s : State) (p : CergaPacket) (q : QueueRec) (i : Nat), i = p.queue % 2 ^ 22 ∧ p.tag = s.requestTag 8 p ∧ CergaNext s 8 p q ∧ Passes s (s.cergaRequest i 8 p false) :=
  ⟨scheduled, tagged 8 (packetOf 0x200000 0 [0, 0, 0, 0, 255, 255, 255, 255]), ⟨1, 4, 5, false⟩, 3, ⟨rfl, tagged_ok _ _, by decide +kernel, by decide +kernel⟩⟩

theorem witness_CergaRequests_5 : ∃ (s : State) (p : CergaPacket) (q : QueueRec) (i : Nat), i = p.queue % 2 ^ 22 ∧ p.tag = s.requestTag 9 p ∧ CergaNext s 9 p q ∧ Passes s (s.cergaRequest i 9 p false) :=
  ⟨streamOn, tagged 9 (packetOf 0 0 (List.replicate 12 0)), ⟨1, 4, 5, false⟩, 3, ⟨rfl, tagged_ok _ _, by decide +kernel, by decide +kernel⟩⟩

theorem witness_CergaRequests_6 : ∃ (s : State) (p : CergaPacket) (q : QueueRec) (i : Nat), i = p.queue % 2 ^ 22 ∧ p.tag = s.requestTag 10 p ∧ CergaNext s 10 p q ∧ Passes s (s.cergaRequest i 10 p false) :=
  ⟨streamOn, tagged 10 (packetOf 0 0 (List.replicate 32 1)), ⟨1, 4, 5, false⟩, 3, ⟨rfl, tagged_ok _ _, by decide +kernel, by decide +kernel⟩⟩

theorem witness_CergaRequests_7 : ∃ (s : State) (p : CergaPacket) (q : QueueRec) (i : Nat), i = p.queue % 2 ^ 22 ∧ p.tag = s.requestTag 11 p ∧ CergaNext s 11 p q ∧ Passes s (s.cergaRequest i 11 p false) :=
  ⟨streamOn, tagged 11 (packetOf 0 0 []), ⟨1, 4, 5, false⟩, 3, ⟨rfl, tagged_ok _ _, by decide +kernel, by decide +kernel⟩⟩

theorem witness_CergaRequests_8 : ∃ (s : State) (p : CergaPacket) (q : QueueRec) (i m : Nat), i = p.queue % 2 ^ 22 ∧ p.tag = s.requestTag 3 p ∧ CergaNext s 3 p q ∧ Passes s (s.cergaRequest i 3 p false) ∧ s.media? (p.addr % pairSpace) = some m :=
  ⟨streamOn, tagged 3 (packetOf 64 8 (List.replicate 16 1)), ⟨1, 4, 5, false⟩, 3, 64, ⟨rfl, tagged_ok _ _, by decide +kernel, by decide +kernel, by decide +kernel⟩⟩

theorem witness_CergaRequests_9 : ∃ (s : State) (p : CergaPacket) (q : QueueRec) (i m : Nat), i = p.queue % 2 ^ 22 ∧ p.tag = s.requestTag 4 p ∧ CergaNext s 4 p q ∧ Passes s (s.cergaRequest i 4 p false) ∧ s.media? (p.addr % pairSpace) = some m :=
  ⟨streamOn, tagged 4 (packetOf 64 16 (List.replicate 32 1)), ⟨1, 4, 5, false⟩, 3, 64, ⟨rfl, tagged_ok _ _, by decide +kernel, by decide +kernel, by decide +kernel⟩⟩

theorem witness_CergaRequests_10 : ∃ (s : State) (p : CergaPacket) (q : QueueRec) (i m : Nat), i = p.queue % 2 ^ 22 ∧ p.tag = s.requestTag 5 p ∧ CergaNext s 5 p q ∧ Passes s (s.cergaRequest i 5 p false) ∧ s.media? (p.addr % pairSpace) = some m :=
  ⟨streamOn, tagged 5 (packetOf 64 8 (List.replicate 8 1)), ⟨1, 4, 5, false⟩, 3, 64, ⟨rfl, tagged_ok _ _, by decide +kernel, by decide +kernel, by decide +kernel⟩⟩

theorem witness_CergaRequests_11 : ∃ (s : State) (p : CergaPacket) (q : QueueRec) (i : Nat), i = p.queue % 2 ^ 22 ∧ p.tag = s.requestTag 2 p ∧ CergaNext s 2 p q ∧ Passes s (s.cergaRequest i 2 p false) :=
  ⟨streamOn, tagged 2 (packetOf 64 8 (List.replicate 8 1)), ⟨1, 4, 5, false⟩, 3, ⟨rfl, tagged_ok _ _, by decide +kernel, by decide +kernel⟩⟩

theorem witness_CergaRequests_12 : ∃ (s : State) (p : CergaPacket) (q : QueueRec) (i : Nat), i = p.queue % 2 ^ 22 ∧ p.tag = s.requestTag 0x40 p ∧ CergaReaches s p q ∧ seqBelow (s.stream i).respAck p.seq = true :=
  ⟨streamOn, tagged 0x40 { packetOf 0 0 [] with seq := 5 }, ⟨1, 4, 5, false⟩, 3, ⟨rfl, tagged_ok _ _, by decide +kernel, by decide +kernel⟩⟩

theorem witness_RoceRequests_1 : ∃ (s : State) (p : RocePacket) (q : Nat) (x : Qp), RoceReaches s p q x ∧ (p.bth = 0x06 ∨ p.bth = 0x0A) ∧ writeSizes p 0 p.dmaLen = true ∧ Passes s (s.roceRequest q x p) :=
  ⟨qpOn, rocePk 0x0A (List.replicate 8 3), 0, { qpNew 4 with state := .rts, dip := 5 }, by decide +kernel⟩

theorem witness_RoceRequests_2 : ∃ (s : State) (p : RocePacket) (q : Nat) (x : Qp), RoceReaches s p q x ∧ s.outstanding q < x.maxRd ∧ Passes s (s.roceRequest q x { p with bth := 0x0C }) :=
  ⟨qpOn, rocePk 0 [], 0, { qpNew 4 with state := .rts, dip := 5 }, by decide +kernel⟩

theorem witness_RoceRequests_3 : ∃ (s : State) (p : RocePacket) (q : Nat) (x : Qp), RoceReaches s p q x ∧ s.outstanding q < x.maxRd ∧ Passes s (s.roceRequest q x { p with bth := 0x13 }) :=
  ⟨qpOn, rocePk 0 [], 0, { qpNew 4 with state := .rts, dip := 5 }, by decide +kernel⟩

theorem witness_RoceRequests_4 : ∃ (s : State) (p : RocePacket) (q : Nat) (x : Qp), RoceReaches s p q x ∧ s.outstanding q < x.maxRd ∧ Passes s (s.roceRequest q x { p with bth := 0x14 }) :=
  ⟨qpOn, rocePk 0 [], 0, { qpNew 4 with state := .rts, dip := 5 }, by decide +kernel⟩

theorem witness_RoceRequests_5 : ∃ (s : State) (p : RocePacket) (q : Nat) (x : Qp), RoceReaches s p q x ∧ sendOpcodes.contains p.bth = true ∧ s.roceBehind q p.psn = false ∧ s.eng.waiting = [] ∧ s.shaperReady x.pd = true :=
  ⟨qpOn, rocePk 4 [], 0, { qpNew 4 with state := .rts, dip := 5 }, by decide +kernel⟩

theorem witness_RoceRequests_6 : ∃ (s : State) (p : RocePacket) (q : Nat) (x : Qp), RoceReaches s p q x ∧ ([6, 7, 8, 0x0A, 0x0C, 0x13, 0x14, 0x81] ++ sendOpcodes).contains p.bth = false ∧ s.eng.waiting = [] ∧ s.shaperReady x.pd = true :=
  ⟨qpOn, rocePk 0x30 [], 0, { qpNew 4 with state := .rts, dip := 5 }, by decide +kernel⟩

theorem witness_RoceRequests_7 : ∃ (s : State) (p : RocePacket) (q : Nat) (x : Qp), RoceReaches s p q x ∧ s.eng.waiting = [] ∧ s.shaperReady x.pd = true :=
  ⟨qpOn, rocePk 0 [], 0, { qpNew 4 with state := .rts, dip := 5 }, by decide +kernel⟩

theorem witness_TransportRows_1 : ∃ (s : State) (index : Nat), s.admits = true ∧ s.cerga.fetching.any (fun h => h.packet.queue % 2 ^ 22 == index) = true ∧ s.contextRoom = true :=
  ⟨{ streamOn with cerga.fetching := [⟨1, packetOf 64 8 [], 0⟩], cerga.cache := [] }, 3, by decide +kernel⟩

theorem witness_TransportRows_2 : ∃ (s : State) (queue seq : Nat) (h : HeldPacket), s.admits = true ∧ s.cerga.held.find? (fun h => h.packet.queue == queue && h.packet.seq == seq) = some h ∧ s.canProcess (queue % 2 ^ 22) h.opcode h.packet = true ∧ h.packet.offset = 0 ∧ Passes s (s.cergaRequest (queue % 2 ^ 22) h.opcode h.packet false) :=
  ⟨{ streamOn with cerga.held := [⟨1, packetOf 64 8 [], 0⟩], cerga.streams := [(3, { streamNone with state := .open, epoch := 9, key := some 77, cum := 1 })] }, 0x400003, 0, ⟨1, packetOf 64 8 [], 0⟩, by decide +kernel⟩

theorem witness_TransportRows_3 : ∃ (s : State) (index : Nat), s.coreOn = true ∧ (s.stream index).state = .open ∧ (s.stream index).uncovered.any (fun q => decide (q.2 ≤ s.now)) = true :=
  ⟨{ streamOn with cerga.streams := [(3, { streamNone with state := .open, epoch := 9, key := some 77, cum := 1, uncovered := [(0, 0)], sinceAck := 1 })] }, 3, by decide +kernel⟩

theorem witness_TransportRows_4 : ∃ (s : State) (tag i e : Nat) (o : Op), s.coreOn = true ∧ s.eng.ops.find? (fun o => o.tag == tag && due s.now o.placedEnd && o.status.isNone && !o.arrived) = some o ∧ o.req.src = .cerga i e ∧ s.op? o.id = some o :=
  ⟨{ streamOn with eng.ops := [{ aRead with placedEnd := some 0, arrived := false, req := { aRead.req with opcode := 2 } }] }, 0, 0, 0, { aRead with placedEnd := some 0, arrived := false, req := { aRead.req with opcode := 2 } }, by decide +kernel⟩

theorem witness_TransportRows_5 : ∃ (s : State) (index : Nat), s.coreOn = true ∧ (s.stream index).state = .open ∧ (s.stream index).lastAt + sec (s.rd R.CERGA_TIMEOUTS_LAPSE_S) ≤ s.now ∧ s.evictable index = true :=
  ⟨{ streamOn with time.count := 10 ^ 13 }, 3, by decide +kernel⟩

theorem witness_TransportRows_6 : ∃ s : State, s.coreOn = true ∧ due s.now s.ledger.releaseAt = true :=
  ⟨{ on with ledger.releaseAt := some 0, ledger.records := [⟨1, 0, 2, 4, 0, 3, 0, 0, 0, 0, 0, 0, false, false, false, false, 0, 0⟩] }, by decide +kernel⟩

theorem witness_TransportRows_7 : ∃ (s : State) (index : Nat), s.admits = true ∧ s.roce.parked.any (fun p => qpIndex p.qpn == some index) = true ∧ s.qpRoom = true :=
  ⟨{ qpOn with roce.parked := [rocePk 0x0A (List.replicate 8 3)], roce.cache := [] }, 0, by decide +kernel⟩

theorem witness_TransportRows_8 : ∃ (s : State) (tag q : Nat) (o : Op), s.coreOn = true ∧ s.eng.ops.find? (fun o => o.tag == tag && due s.now o.placedEnd && o.status.isNone && !o.arrived) = some o ∧ o.req.src = .roce q ∧ s.op? o.id = some o :=
  ⟨{ qpOn with eng.ops := [{ aRead with placedEnd := some 0, arrived := false, req := { aRead.req with opcode := 2, src := .roce 0 } }] }, 0, 0, { aRead with placedEnd := some 0, arrived := false, req := { aRead.req with opcode := 2, src := .roce 0 } }, by decide +kernel⟩

theorem witness_TransportRows_9 : ∃ (s : State) (n : Nat), s.coreOn = true ∧ (s.port n).opensAt.isSome = true ∧ (due s.now (s.port n).opensAt || decide ((s.port n).target ≤ s.rd R.PACE_MIN_MIN_MHZ)) = true ∧ s.ports.waiting = [] :=
  ⟨{ portUp with ports.port := [(0, { portIdle with opensAt := some 0 })] }, 0, by decide +kernel⟩

theorem witness_TransportRows_10 : ∃ (s : State) (pd : Nat) (w : Waiter), s.admits = true ∧ s.eng.waiting = [w] ∧ w.stage = .shaper ∧ w.req.pd = pd ∧ s.shaperReady pd = true ∧ s.fenced w.req = false ∧ s.reloadWaits w.req = false ∧ s.freeTag.isSome = true ∧ s.mustHold w.req = false ∧ s.op? s.eng.nextOp = none ∧ s.ports.waiting = [] :=
  ⟨{ streamOn with eng.waiting := [⟨aRead.req, .shaper, 0⟩] }, 0, ⟨aRead.req, .shaper, 0⟩, by decide +kernel⟩

theorem witness_EngineRows_1 : ∃ (s : State) (tag : Nat) (o : Op), s.coreOn = true ∧ ((s.save.active = true → s.save.step ≤ 2)) ∧ s.eng.ops.find? (fun o => o.tag == tag && s.opReady o) = some o ∧ s.eng.waiting = [] ∧ s.ports.waiting = [] :=
  ⟨{ streamOn with eng.ops := [{ aRead with lines := [] }] }, 0, { aRead with lines := [] }, by decide +kernel⟩

theorem witness_EngineRows_2 : ∃ (s : State) (tag ring cmd : Nat) (o : Op) (c : Cmd), s.coreOn = true ∧ s.save.active = false ∧ s.eng.ops.find? (fun o => o.tag == tag && s.opReady o) = some o ∧ o.req.src = .host ring cmd ∧ o.req.opcode = 2 ∧ o.status = none ∧ o.degraded = false ∧ s.cmds.find? (fun d => d.id == cmd) = some c ∧ c.orphan = false ∧ s.eng.waiting = [] ∧ s.ports.waiting = [] :=
  ⟨{ (cmdOf 0x0904) with eng.ops := [{ aRead with lines := [], executed := true, req := { aRead.req with src := .host 0 1, opcode := 2 } }] }, 0, 0, 1, { aRead with lines := [], executed := true, req := { aRead.req with src := .host 0 1, opcode := 2 } }, theCmd 0x0904, by decide +kernel⟩

theorem witness_EngineRows_3 : ∃ (s : State) (queue seq : Nat) (w : Waiter), s.coreOn = true ∧ s.eng.waiting = [w] ∧ w.stage = .tag ∧ (s.sourceKey w.req.src).2 = queue ∧ w.req.seq = seq ∧ w.since + us 100 ≤ s.now :=
  ⟨{ streamOn with eng.waiting := [⟨aRead.req, .tag, 0⟩], time.count := 10 ^ 6 }, 0, 0, ⟨aRead.req, .tag, 0⟩, by decide +kernel⟩

theorem witness_EngineRows_4 : ∃ (s : State) (queue seq ring cmd : Nat) (w : Waiter) (c : Cmd), s.coreOn = true ∧ s.eng.waiting = [w] ∧ w.stage = .tag ∧ (s.sourceKey w.req.src).2 = queue ∧ w.req.seq = seq ∧ w.since + us 100 ≤ s.now ∧ w.req.src = .host ring cmd ∧ s.cmds.find? (fun d => d.id == cmd) = some c ∧ c.orphan = false :=
  ⟨{ (cmdOf 0x0903) with eng.waiting := [⟨{ aRead.req with src := .host 0 1 }, .tag, 0⟩], time.count := 10 ^ 6 }, 0, 0, 0, 1, ⟨{ aRead.req with src := .host 0 1 }, .tag, 0⟩, theCmd 0x0903, by decide +kernel⟩

theorem witness_EngineRows_5 : ∃ (s : State) (w : Waiter), s.coreOn = true ∧ s.save.active = false ∧ s.eng.waiting = [w] ∧ w.stage = .hold ∧ s.freeTag.isSome = true ∧ (s.holdAdmits w.req || !s.mustHold w.req) = true ∧ s.op? s.eng.nextOp = none :=
  ⟨{ streamOn with eng.waiting := [⟨{ aRead.req with opcode := 2, data := List.replicate 64 1 }, .hold, 0⟩] }, ⟨{ aRead.req with opcode := 2, data := List.replicate 64 1 }, .hold, 0⟩, by decide +kernel⟩

theorem witness_EngineRows_6 : ∃ (s : State) (queue seq : Nat) (w : Waiter), s.coreOn = true ∧ s.eng.waiting = [w] ∧ w.stage = .hold ∧ (s.sourceKey w.req.src).2 = queue ∧ w.req.seq = seq ∧ w.since + us (s.rd R.DUR_THRESH_HOLD_US) ≤ s.now :=
  ⟨{ streamOn with eng.waiting := [⟨{ aRead.req with opcode := 2, src := .cerga 3 9 }, .hold, 0⟩], time.count := 10 ^ 9 }, 0x400003, 0, ⟨{ aRead.req with opcode := 2, src := .cerga 3 9 }, .hold, 0⟩, by decide +kernel⟩

theorem witness_EngineRows_7 : ∃ (s : State) (tag : Nat) (o : Op), s.coreOn = true ∧ s.eng.ops.find? (fun o => o.tag == tag && !o.units.isEmpty && o.status.isNone) = some o ∧ due s.now o.restoreEnd = true ∧ s.op? o.id = some o :=
  ⟨{ streamOn with eng.ops := [{ aRead with units := [0], restoreEnd := some 0 }] }, 0, { aRead with units := [0], restoreEnd := some 0 }, by decide +kernel⟩

theorem witness_KeyCommands_1 : ∃ (s : State) (r : CmdRef) (c : Cmd) (id type source flags wrapId blob k : Nat), Accepts s r 0x0301 c ∧ s.twin.holder = true ∧ k = id % 65536 ∧ k ≠ 0 ∧ AMap.has s.crypt.slots k = false ∧ source ≠ 1 ∧ source ≠ 2 :=
  ⟨cmdOf 0x0301, ⟨0, 0⟩, theCmd 0x0301, 5, 9, 0, 1, 0, 0, 5, by decide +kernel⟩

theorem witness_KeyCommands_2 : ∃ (s : State) (r : CmdRef) (c : Cmd) (id type flags wrapId blob k : Nat), Accepts s r 0x0301 c ∧ s.twin.holder = true ∧ k = id % 65536 ∧ k ≠ 0 ∧ AMap.has s.crypt.slots k = false ∧ s.rd R.CIPHER_KEY_WORDS_WRITTEN = 255 ∧ s.registerKey ≠ 0 :=
  ⟨{ (cmdOf 0x0301).wr R.CIPHER_KEY_WORDS_WRITTEN 255 with keyRegs := (rangeFrom 0 8).map (fun n => (n, n + 1)) }, ⟨0, 0⟩, theCmd 0x0301, 5, 6, 1, 0, 0, 5, by decide +kernel⟩

theorem witness_KeyCommands_3 : ∃ (s : State) (r : CmdRef) (c : Cmd) (id flags k : Nat) (x : KeySlot), Accepts s r 0x0302 c ∧ s.twin.holder = true ∧ k = id % 65536 ∧ AMap.get? s.crypt.slots k = some x ∧ x.destroying = false ∧ ((flags % 2 = 0 → s.keyNamed k = false)) ∧ s.cascadeWaits k = false ∧ s.eng.ops = [] ∧ s.eng.gather = [] ∧ s.eng.waiting = [] ∧ s.ports.waiting = [] :=
  ⟨{ (cmdOf 0x0302) with crypt.slots := [(5, ⟨2, false, 9, 1, false, 0, 0, 0⟩)], cerga.queues := [(3, ⟨1, 4, 5, false⟩)] }, ⟨0, 0⟩, theCmd 0x0302, 5, 1, 5, ⟨2, false, 9, 1, false, 0, 0, 0⟩, by decide +kernel⟩

theorem witness_KeyCommands_4 : ∃ (s : State) (g : Nat) (rest : List Nat), s.crypt.erasing = g :: rest ∧ s.keeper.powered = true :=
  ⟨{ up.wr R.CIPHER_TABLE_OLD_PENDING 1 with crypt.erasing := [0] }, 0, [], by decide +kernel⟩

theorem witness_KeyCommands_5 : ∃ (s : State) (r : CmdRef) (c : Cmd) (p : CipherParams) (k : KeySlot), Accepts s r 0x0303 c ∧ p.input % 64 = 0 ∧ p.out % 64 = 0 ∧ p.mode ≤ 1 ∧ s.keySlot? p.slot Slot.HOST = some k ∧ CipherParams.overLimit p 0 = false :=
  ⟨{ (cmdOf 0x0303) with crypt.slots := [(5, ⟨6, true, 9, 1, false, 0, 0, 0⟩)] }, ⟨0, 0⟩, theCmd 0x0303, ⟨0, true, true, 5, 0, 16, 0, 64, 128, 3, List.replicate 16 1⟩, ⟨6, true, 9, 1, false, 0, 0, 0⟩, by decide +kernel⟩

theorem witness_KeyCommands_6 : ∃ (s : State) (r : CmdRef) (c : Cmd) (p : CipherParams) (k : KeySlot), Accepts s r 0x0303 c ∧ p.input % 64 = 0 ∧ p.out % 64 = 0 ∧ p.mode = 2 ∧ p.first = true ∧ AMap.get? s.crypt.contexts p.context = none ∧ s.keySlot? p.slot Slot.HOST = some k ∧ CipherParams.overLimit p 0 = false :=
  ⟨{ (cmdOf 0x0303) with crypt.slots := [(5, ⟨6, true, 9, 1, false, 0, 0, 0⟩)] }, ⟨0, 0⟩, theCmd 0x0303, ⟨2, true, false, 5, 0, 16, 0, 64, 128, 3, List.replicate 16 1⟩, ⟨6, true, 9, 1, false, 0, 0, 0⟩, by decide +kernel⟩

theorem witness_KeyCommands_7 : ∃ (s : State) (r : CmdRef) (c : Cmd) (context form addr : Nat) (x : CipherContext), Accepts s r 0x0304 c ∧ addr % 64 = 0 ∧ AMap.get? s.crypt.contexts context = some x ∧ ((form = 1 → s.clearAllowed x = true)) :=
  ⟨{ (cmdOf 0x0304) with crypt.slots := [(5, ⟨6, true, 9, 1, false, 0, 0, 0⟩)], crypt.contexts := [(2, ⟨4, 5, 1, 0, 0, 0, 0, List.replicate 16 0, []⟩)] }, ⟨0, 0⟩, theCmd 0x0304, 2, 1, 64, ⟨4, 5, 1, 0, 0, 0, 0, List.replicate 16 0, []⟩, by decide +kernel⟩

theorem witness_KeyCommands_8 : ∃ (s : State) (r : CmdRef) (c : Cmd) (context addr : Nat) (record : List Byte), Accepts s r 0x0305 c ∧ addr % 64 = 0 ∧ AMap.has s.crypt.contexts context = false ∧ s.clearAllowed (contextOf record) = true :=
  ⟨{ (cmdOf 0x0305) with crypt.slots := [(5, ⟨6, true, 9, 1, false, 0, 0, 0⟩)] }, ⟨0, 0⟩, theCmd 0x0305, 2, 64, [4, 0, 5, 0, 1], by decide +kernel⟩

theorem witness_KeyCommands_9 : ∃ (s : State) (cluster : Nat) (tags : List Nat) (hosts : List (CmdRef × Nat)), s.coreOn = true ∧ cluster < 8 ∧ (s.rd R.CIPHER_STATUS_CLUSTERS_OK).testBit cluster = true ∧ s.eng.waiting = [] ∧ s.ports.waiting = [] :=
  ⟨{ holder.wr R.CIPHER_STATUS_CLUSTERS_OK 255 with eng.ops := [aRead] }, 3, [0], [], by decide +kernel⟩

theorem witness_HostMemoryCommands_1 : ∃ (s : State) (r : CmdRef) (c : Cmd) (pd key addr len host : Nat), Accepts s r 0x0903 c ∧ s.start.admitted = true ∧ s.twin.yield = none ∧ Passes s (s.memop c 1 pd key addr (min gib len) [] host) :=
  ⟨{ streamOn with cmds := [theCmd 0x0903], nextCmd := 2, start.tablesDone := true }, ⟨0, 0⟩, theCmd 0x0903, 4, 7, 64, 8, 64, by decide +kernel⟩

theorem witness_HostMemoryCommands_2 : ∃ (s : State) (r : CmdRef) (c : Cmd) (pd key addr len host : Nat) (data : List Byte), Accepts s r 0x0904 c ∧ s.start.admitted = true ∧ s.twin.yield = none ∧ Passes s (s.memop c 2 pd key addr len (hostData data len) host) :=
  ⟨{ streamOn with cmds := [theCmd 0x0904], nextCmd := 2, start.tablesDone := true }, ⟨0, 0⟩, theCmd 0x0904, 4, 7, 64, 8, 64, [1, 2], by decide +kernel⟩

theorem witness_HostMemoryCommands_3 : ∃ (s : State) (r : CmdRef) (c : Cmd) (host start count flags : Nat) (part : List LedgerRecord), Accepts s r 0x0902 c ∧ host % 64 = 0 ∧ s.ledger.lost = false ∧ part = ((s.readableRecords (flags / 2 % 4)).drop start).take (clampTo 1 69632 count) :=
  ⟨{ (cmdOf 0x0902) with ledger.records := [⟨1, 0, 2, 4, 0, 3, 0, 0, 0, 0, 0, 0, false, false, false, false, 0, 0⟩] }, ⟨0, 0⟩, theCmd 0x0902, 64, 0, 5, 1, [⟨1, 0, 2, 4, 0, 3, 0, 0, 0, 0, 0, 0, false, false, false, false, 0, 0⟩], by decide +kernel⟩

theorem witness_HostMemoryCommands_4 : ∃ (s : State) (r : CmdRef) (c : Cmd) (index count host k : Nat), Accepts s r 0x0901 c ∧ host % 64 = 0 ∧ k = min (clampTo 1 4096 count) (1048576 - index) ∧ k ≠ 0 :=
  ⟨cmdOf 0x0901, ⟨0, 0⟩, theCmd 0x0901, 0, 3, 64, 3, by decide +kernel⟩

theorem witness_HostMemoryCommands_5 : ∃ (s : State) (r : CmdRef) (c : Cmd) (challenge host : Nat), Accepts s r 0x0805 c ∧ host % 64 = 0 :=
  ⟨cmdOf 0x0805, ⟨0, 0⟩, theCmd 0x0805, 5, 64, by decide +kernel⟩

theorem witness_RingRows_1 : ∃ (s : State) (k : RingKind) (n : Nat), s.coreOn = true ∧ n < ringCount k ∧ (s.on R.FW_STATUS_RECOVERY && k == .cmd && n != 0) = false ∧ s.ringState k n = 0 :=
  ⟨on, .ev, 3, by decide +kernel⟩

theorem witness_RingRows_2 : ∃ (s : State) (k : RingKind) (n : Nat), s.coreOn = true ∧ n < ringCount k ∧ s.rdN (fEnable k) n ≠ 0 ∧ ((k = .cmd → s.cmds.all (fun c => c.ring != n || c.orphan) = true)) ∧ ((k = .cpl → (List.range 64).any (fun c => (s.ringState .cmd c == 1 || s.ringState .cmd c == 2) && s.rdN R.RING_CMD_CFG_CPL_RING c == n) = false)) :=
  ⟨(on.wrN R.RING_CMD_CFG_ENABLE 3 1).wrN R.RING_CMD_STATUS_STATE 3 1, .cmd, 3, by decide +kernel⟩

theorem witness_RingRows_3 : ∃ (s : State) (n v : Nat), s.coreOn = true ∧ n < 64 ∧ s.ringState .cmd n = 1 ∧ v % 65536 < s.ringSize .cmd n :=
  ⟨(on.wrN R.RING_CMD_CFG_SIZE_LOG2 3 6).wrN R.RING_CMD_STATUS_STATE 3 1, 3, 5, by decide +kernel⟩

theorem witness_RingRows_4 : ∃ (s : State) (n v : Nat), s.coreOn = true ∧ n < 64 ∧ s.ringState .cpl n = 1 ∧ v % 65536 < s.ringSize .cpl n :=
  ⟨(on.wrN R.RING_CPL_CFG_SIZE_LOG2 3 6).wrN R.RING_CPL_STATUS_STATE 3 1, 3, 5, by decide +kernel⟩

theorem witness_RingRows_5 : ∃ (s : State) (m v : Nat), s.coreOn = true ∧ m < 8 ∧ s.ringState .ev m = 1 ∧ v % 65536 < s.ringSize .ev m :=
  ⟨(on.wrN R.RING_EV_CFG_SIZE_LOG2 3 6).wrN R.RING_EV_STATUS_STATE 3 1, 3, 5, by decide +kernel⟩

theorem witness_RingRows_6 : ∃ (s : State) (k v : Nat), s.coreOn = true ∧ k < 4 ∧ s.ringState .ex k = 1 ∧ v % 65536 < s.ringSize .ex k :=
  ⟨(on.wrN R.RING_EX_CFG_SIZE_LOG2 3 6).wrN R.RING_EX_STATUS_STATE 3 1, 3, 5, by decide +kernel⟩

theorem witness_RingRows_7 : ∃ (s : State) (n : Nat) (ds : List Descriptor), s.coreOn = true ∧ s.save.active = false ∧ s.nextRing = some n :=
  ⟨(((((on.wrN R.RING_CMD_CFG_SIZE_LOG2 0 6).wrN R.RING_CMD_STATUS_STATE 0 1).wrN R.RING_CMD_PTRS_HOST_INDEX 0 2).wrN R.RING_CPL_CFG_SIZE_LOG2 0 6).wrN R.RING_CPL_STATUS_STATE 0 1), 0, [⟨0x0901, 7, false, false, true, false⟩], by decide +kernel⟩

theorem witness_RingRows_8 : ∃ (s : State) (r : CmdRef) (c : Cmd) (p : Nat), s.coreOn = true ∧ s.cmds.find? (fun c => c.ring == r.ring && c.slot == r.slot && s.completable c) = some c ∧ p = s.rdN R.RING_CMD_CFG_CPL_RING c.ring :=
  ⟨{ ((on.wrN R.RING_CPL_CFG_SIZE_LOG2 0 6).wrN R.RING_CPL_STATUS_STATE 0 1) with cmds := [{ theCmd 0x0901 with phase := .ended }] }, ⟨0, 0⟩, { theCmd 0x0901 with phase := .ended }, 0, by decide +kernel⟩

theorem witness_RingRows_9 : ∃ (s : State) (k : RingKind) (n : Nat), s.coreOn = true ∧ k ≠ .cmd ∧ n < ringCount k ∧ s.ringState k n = 1 ∧ due s.now (s.ringUnit k n).timer = true :=
  ⟨{ (on.wrN R.RING_EV_STATUS_STATE 3 1) with rings := [(131, { ringIdle with timer := some 0, fresh := 2 })] }, .ev, 3, by decide +kernel⟩

theorem witness_RingRows_10 : ∃ s : State, s.coreOn = true :=
  ⟨{ armed with cmds := [theCmd 0x0901, { theCmd 0x0901 with id := 2, phase := .running }, { theCmd 0x0901 with id := 3, phase := .ended }] }, by decide +kernel⟩

theorem witness_RingRows_11 : ∃ s : State, s.coreOn = true :=
  ⟨{ armed with cmds := [theCmd 0x0901, { theCmd 0x0901 with id := 2, phase := .running }, { theCmd 0x0901 with id := 3, phase := .ended }] }, by decide +kernel⟩

theorem witness_RingRows_12 : ∃ (s : State) (src : Nat), s.coreOn = true ∧ s.hubOn = true ∧ 0 < (s.track src).pending ∧ (s.track src).lastRecord + ms (s.rd R.EVENT_STORM_WINDOW_MS) ≤ s.now :=
  ⟨{ on with hub.tracks := [(3, { trackIdle with pending := 2 })], time.count := 10 ^ 13 }, 3, by decide +kernel⟩

theorem witness_RingRows_13 : ∃ (s : State) (src : Nat), s.coreOn = true ∧ s.hubOn = true ∧ 0 < (s.track src).folded ∧ (s.track src).second < s.secondNow :=
  ⟨{ on with hub.tracks := [(3, { trackIdle with folded := 2 })], time.count := 10 ^ 13 }, 3, by decide +kernel⟩

theorem witness_WitnessMessages_1 : ∃ (s : State) (h : DomainHeader) (w : WitnessRec) (lease : Nat), WitnessAsks s 1 h [lease] w ∧ w.provisional = none ∧ h.tokenEpoch = w.epoch ∧ h.srcSide = w.side :=
  ⟨manager, stamped manager 1 (header 3 1 5 9) [700], newRecord 5 1 100, 700, ⟨⟨⟨⟨stamped_ok _ _ _ _, by decide +kernel⟩, by decide +kernel⟩, by decide +kernel⟩, by decide +kernel, by decide +kernel, by decide +kernel⟩⟩

theorem witness_WitnessMessages_2 : ∃ (s : State) (h : DomainHeader) (w : WitnessRec) (lease : Nat), WitnessAsks s 1 h [lease] w ∧ h.tokenEpoch < w.epoch :=
  ⟨manager, stamped manager 1 (header 3 1 4 9) [700], newRecord 5 1 100, 700, ⟨⟨⟨⟨stamped_ok _ _ _ _, by decide +kernel⟩, by decide +kernel⟩, by decide +kernel⟩, by decide +kernel⟩⟩

theorem witness_WitnessMessages_3 : ∃ (s : State) (h : DomainHeader) (w : WitnessRec) (flags : Nat), WitnessAsks s 4 h [flags] w ∧ WitnessRec.grantRefusal s.now h (flags % 2 == 1) w = none ∧ h.srcPair ≠ 0 :=
  ⟨manager, stamped manager 4 (header 3 0 5 9) [1], newRecord 5 1 100, 1, ⟨⟨⟨⟨stamped_ok _ _ _ _, by decide +kernel⟩, by decide +kernel⟩, by decide +kernel⟩, by decide +kernel, by decide +kernel⟩⟩

theorem witness_WitnessMessages_4 : ∃ (s : State) (h : DomainHeader) (w : WitnessRec) (flags : Nat), WitnessAsks s 4 h [flags] w ∧ WitnessRec.grantRefusal s.now h (flags % 2 == 1) w = none ∧ h.srcPair = 0 :=
  ⟨keepsZero, stamped keepsZero 4 (header 0 1 5 9) [0], newRecord 5 1 100, 0, ⟨⟨⟨⟨stamped_ok _ _ _ _, by decide +kernel⟩, by decide +kernel⟩, by decide +kernel⟩, by decide +kernel, by decide +kernel⟩⟩

theorem witness_WitnessMessages_5 : ∃ (s : State) (h : DomainHeader) (w : WitnessRec) (flags why : Nat), WitnessAsks s 4 h [flags] w ∧ WitnessRec.grantRefusal s.now h (flags % 2 == 1) w = some why :=
  ⟨manager, stamped manager 4 (header 3 0 5 9) [0], newRecord 5 1 100, 0, 4, ⟨⟨⟨⟨stamped_ok _ _ _ _, by decide +kernel⟩, by decide +kernel⟩, by decide +kernel⟩, by decide +kernel⟩⟩

theorem witness_WitnessMessages_6 : ∃ (s : State) (h : DomainHeader) (w : WitnessRec), WitnessAsks s 6 h [] w ∧ w.provisional = none ∧ h.tokenEpoch = w.epoch ∧ h.srcSide = w.side :=
  ⟨manager, stamped manager 6 (header 3 1 5 9) [], newRecord 5 1 100, ⟨⟨⟨⟨stamped_ok _ _ _ _, by decide +kernel⟩, by decide +kernel⟩, by decide +kernel⟩, by decide +kernel, by decide +kernel, by decide +kernel⟩⟩

theorem witness_WitnessMessages_7 : ∃ (s : State) (h : DomainHeader) (w : WitnessRec), WitnessAsks s 8 h [] w ∧ h.tokenEpoch = w.epoch ∧ h.srcSide = w.side :=
  ⟨manager, stamped manager 8 (header 3 1 5 9) [], newRecord 5 1 100, ⟨⟨⟨⟨stamped_ok _ _ _ _, by decide +kernel⟩, by decide +kernel⟩, by decide +kernel⟩, by decide +kernel, by decide +kernel⟩⟩

theorem witness_WitnessMessages_8 : ∃ (s : State) (h : DomainHeader) (w : WitnessRec) (epoch side : Nat), WitnessAsks s 9 h [epoch, side] w ∧ w.epoch ≤ epoch :=
  ⟨manager, stamped manager 9 (header 3 1 5 9) [6, 0], newRecord 5 1 100, 6, 0, ⟨⟨⟨⟨stamped_ok _ _ _ _, by decide +kernel⟩, by decide +kernel⟩, by decide +kernel⟩, by decide +kernel⟩⟩

theorem witness_WitnessMessages_9 : ∃ (s : State) (h : DomainHeader) (w : WitnessRec) (sync : Nat), DomainTakes s 0x0A h [sync] ∧ s.isActive = true ∧ AMap.get? s.domain.records h.srcPair = some w ∧ h.srcSide ≠ w.side :=
  ⟨manager, stamped manager 0x0A (header 3 0 5 9) [0], newRecord 5 1 100, 0, ⟨⟨stamped_ok _ _ _ _, by decide +kernel⟩, by decide +kernel, by decide +kernel, by decide +kernel⟩⟩

theorem witness_WitnessMessages_10 : ∃ (s : State) (pair : Nat) (w : WitnessRec) (p : Nat × Nat), s.coreOn = true ∧ AMap.get? s.domain.records pair = some w ∧ w.provisional = some p ∧ p.2 ≤ s.now :=
  ⟨lapsing, 3, { newRecord 5 1 100 with provisional := some (0, 0) }, (0, 0), by decide +kernel⟩

theorem witness_AnswersOfTheDomain_1 : ∃ (s : State) (h : DomainHeader) (q : DomainRequest) (sendTime : Nat), DomainAnswers s 2 h [sendTime] q ∧ q.type = 1 ∧ s.enough q.confirmed = true ∧ s.twin.holder = true ∧ s.twin.stopped = false ∧ sendTime ≤ s.time.tai ∧ (s.eng.ops = [] ∧ s.eng.gather = [] ∧ s.eng.waiting = []) :=
  ⟨(asking worker 1 0 []), stamped (asking worker 1 0 []) 2 (header 0 0 5 11) [0], ⟨1, 0, 11, [], 0, 0, none, [], []⟩, 0, ⟨⟨⟨stamped_ok _ _ _ _, by decide +kernel⟩, by decide +kernel⟩, by decide +kernel, by decide +kernel, by decide +kernel, by decide +kernel, by decide +kernel, by decide +kernel⟩⟩

theorem witness_AnswersOfTheDomain_2 : ∃ (s : State) (h : DomainHeader) (q : DomainRequest) (sendTime : Nat), DomainAnswers s 2 h [sendTime] q ∧ (q.type = 8 ∨ q.type = 0x12) :=
  ⟨(asking worker 8 0 []), stamped (asking worker 8 0 []) 2 (header 0 0 5 11) [6], ⟨8, 0, 11, [], 0, 0, none, [], []⟩, 6, ⟨⟨⟨stamped_ok _ _ _ _, by decide +kernel⟩, by decide +kernel⟩, by decide +kernel⟩⟩

theorem witness_AnswersOfTheDomain_3 : ∃ (s : State) (h : DomainHeader) (q : DomainRequest) (sendTime : Nat), DomainAnswers s 2 h [sendTime] q ∧ q.type = 0x11 :=
  ⟨(asking worker 17 0 []), stamped (asking worker 17 0 []) 2 (header 0 0 5 11) [6], ⟨17, 0, 11, [], 0, 0, none, [], []⟩, 6, ⟨⟨⟨stamped_ok _ _ _ _, by decide +kernel⟩, by decide +kernel⟩, by decide +kernel⟩⟩

theorem witness_AnswersOfTheDomain_4 : ∃ (s : State) (h : DomainHeader) (q : DomainRequest) (reason registered : Nat), DomainAnswers s 3 h [reason, registered] q ∧ q.type = 1 ∧ (reason = Refuse.NOT_MEMBER ∨ reason = Refuse.CONDITION) ∧ s.enough q.refused = true ∧ s.twin.holder = true :=
  ⟨(asking worker 1 0 []), stamped (asking worker 1 0 []) 3 (header 0 0 5 11) [4, 5], ⟨1, 0, 11, [], 0, 0, none, [], []⟩, 4, 5, ⟨⟨⟨stamped_ok _ _ _ _, by decide +kernel⟩, by decide +kernel⟩, by decide +kernel, by decide +kernel, by decide +kernel, by decide +kernel⟩⟩

theorem witness_AnswersOfTheDomain_5 : ∃ (s : State) (h : DomainHeader) (q : DomainRequest) (reason registered : Nat) (c : Cmd), DomainAnswers s 3 h [reason, registered] q ∧ q.type = 0x0F ∧ reason ≠ Refuse.NOT_ACTIVE ∧ s.domain.joinCmd = some c.id ∧ s.domain.leaveCmd = none ∧ s.cmds.find? (fun d => d.id == c.id) = some c ∧ c.orphan = false :=
  ⟨(asking joining 15 0 [8, 9, 1, 1, 0]), stamped (asking joining 15 0 [8, 9, 1, 1, 0]) 3 (header 0 0 5 11) [4, 0], ⟨15, 0, 11, [8, 9, 1, 1, 0], 0, 0, none, [], []⟩, 4, 0, { theCmd 0x0704 with phase := .running }, ⟨⟨⟨stamped_ok _ _ _ _, by decide +kernel⟩, by decide +kernel⟩, by decide +kernel, by decide +kernel, by decide +kernel, by decide +kernel, by decide +kernel, by decide +kernel⟩⟩

theorem witness_AnswersOfTheDomain_6 : ∃ (s : State) (h : DomainHeader) (q : DomainRequest) (epoch : Nat), DomainAnswers s 5 h [epoch] q ∧ q.type = 4 ∧ q.cmd = none ∧ s.enough q.confirmed = true ∧ s.mayServe = true ∧ (s.twin.holder = false ∨ s.twin.stopped = true ∨ s.leaseValid = false) ∧ s.rd R.TWIN_TOKEN_EPOCH_VALUE < epoch ∧ (s.eng.ops = [] ∧ s.eng.gather = [] ∧ s.eng.waiting = [] ∧ s.twin.ingress = [] ∧ s.ports.waiting = []) :=
  ⟨(asking standby 4 0 []), stamped (asking standby 4 0 []) 5 (header 0 0 5 11) [6], ⟨4, 0, 11, [], 0, 0, none, [], []⟩, 6, ⟨⟨⟨stamped_ok _ _ _ _, by decide +kernel⟩, by decide +kernel⟩, by decide +kernel, by decide +kernel, by decide +kernel, by decide +kernel, by decide +kernel, by decide +kernel, by decide +kernel⟩⟩

theorem witness_AnswersOfTheDomain_7 : ∃ (s : State) (h : DomainHeader) (q : DomainRequest), DomainAnswers s 7 h [] q ∧ q.type = 6 ∧ s.enough q.confirmed = true ∧ s.twin.holder = true ∧ (s.eng.ops = [] ∧ s.eng.gather = [] ∧ s.eng.waiting = []) :=
  ⟨(asking worker 6 0 []), stamped (asking worker 6 0 []) 7 (header 0 0 5 11) [], ⟨6, 0, 11, [], 0, 0, none, [], []⟩, ⟨⟨⟨stamped_ok _ _ _ _, by decide +kernel⟩, by decide +kernel⟩, by decide +kernel, by decide +kernel, by decide +kernel, by decide +kernel⟩⟩

theorem witness_AnswersOfTheDomain_8 : ∃ (s : State) (h : DomainHeader) (q : DomainRequest) (applied : Nat) (full : Bool) (unlisted : Nat), DomainAnswers s 0x0C h [applied, if full then 1 else 0, unlisted] q ∧ q.type = 0x0B :=
  ⟨(asking reporting 11 0 []), stamped (asking reporting 11 0 []) 12 (header 0 0 5 11) [1, 1, 2], ⟨11, 0, 11, [], 0, 0, none, [], []⟩, 1, true, 2, ⟨⟨⟨stamped_ok _ _ _ _, by decide +kernel⟩, by decide +kernel⟩, by decide +kernel⟩⟩

theorem witness_AnswersOfTheDomain_9 : ∃ (s : State) (h : DomainHeader) (q : DomainRequest) (seq detail : Nat), DomainAnswers s 0x0E h [seq, St.DONE, detail] q ∧ q.type = 0x0D ∧ q.fields.headD 0 = seq ∧ s.memberReachable h.srcPair = true :=
  ⟨(asking pushing 13 3 [2]), stamped (asking pushing 13 3 [2]) 14 (header 3 0 5 11) [2, 0, 0], ⟨13, 3, 11, [2], 0, 0, none, [], []⟩, 2, 0, ⟨⟨⟨stamped_ok _ _ _ _, by decide +kernel⟩, by decide +kernel⟩, by decide +kernel, by decide +kernel, by decide +kernel⟩⟩

theorem witness_AnswersOfTheDomain_10 : ∃ (s : State) (h : DomainHeader) (q : DomainRequest) (version count : Nat), DomainAnswers s 0x10 h [version, count] q ∧ q.type = 0x0F ∧ count ≠ 0 :=
  ⟨(asking joining 15 0 []), stamped (asking joining 15 0 []) 16 (header 0 0 5 11) [9, 4], ⟨15, 0, 11, [], 0, 0, none, [], []⟩, 9, 4, ⟨⟨⟨stamped_ok _ _ _ _, by decide +kernel⟩, by decide +kernel⟩, by decide +kernel, by decide +kernel⟩⟩

theorem witness_MembershipMessages_1 : ∃ (s : State) (h : DomainHeader) (m : Member) (seq : Nat) (entries : List DirChange), DomainAsks s 0x0B h (seq :: (entries.map (fun c : DirChange => [c.action, c.base, c.size, c.region, h.srcPair, c.flags])).flatten) ∧ s.founded = true ∧ AMap.get? s.domain.members h.srcPair = some m ∧ seq = m.applied + 1 :=
  ⟨manager, stamped manager 0x0B (header 3 1 5 9) [1, 0, 64, 128, 7, 3, 1], newMember 8 9 [] 0, 1, [⟨0, 7, 64, 128, 1⟩], ⟨⟨⟨stamped_ok _ _ _ _, by decide +kernel⟩, by decide +kernel⟩, by decide +kernel, by decide +kernel, by decide +kernel⟩⟩

theorem witness_MembershipMessages_2 : ∃ (s : State) (h : DomainHeader) (seq pd : Nat), DomainAsks s 0x0D h [seq, 0x0105, pd] ∧ s.roleStrap = 1 ∧ h.srcPair = 0 ∧ s.rd R.DOMAIN_STATUS_STATE ≠ 1 ∧ s.domain.pushing = none ∧ s.domain.lastPush < seq ∧ AMap.has s.prot.pds pd = false :=
  ⟨worker, stamped worker 0x0D (header 0 1 5 9) [1, 0x0105, 6], 1, 6, ⟨⟨⟨stamped_ok _ _ _ _, by decide +kernel⟩, by decide +kernel⟩, by decide +kernel, by decide +kernel, by decide +kernel, by decide +kernel, by decide +kernel, by decide +kernel⟩⟩

theorem witness_MembershipMessages_3 : ∃ (s : State) (h : DomainHeader) (a b flags : Nat) (service : List Nat), DomainAsks s 0x0F h [a, b, 1, 1, flags] ∧ s.founded = true ∧ h.srcPair ≠ 0 ∧ AMap.get? s.domain.members h.srcPair = none ∧ flags % 2 = 0 :=
  ⟨manager, stamped manager 0x0F (header 4 1 5 9) [8, 9, 1, 1, 0], 8, 9, 0, [1, 2], ⟨⟨⟨stamped_ok _ _ _ _, by decide +kernel⟩, by decide +kernel⟩, by decide +kernel, by decide +kernel, by decide +kernel, by decide +kernel⟩⟩

theorem witness_MembershipMessages_4 : ∃ (s : State) (h : DomainHeader), DomainAsks s 0x11 h [] ∧ s.domain.witnesses.contains h.srcPair = false ∧ s.domain.newWitnesses.contains h.srcPair = false :=
  ⟨manager, stamped manager 0x11 (header 3 1 5 9) [], ⟨⟨⟨stamped_ok _ _ _ _, by decide +kernel⟩, by decide +kernel⟩, by decide +kernel, by decide +kernel⟩⟩

theorem witness_MembershipMessages_5 : ∃ (s : State) (h : DomainHeader) (fields : List Nat) (x : ExportRecord), DomainAsks s 0x12 h fields ∧ s.founded = true ∧ AMap.has s.domain.members h.srcPair = true ∧ x = carriedExport fields ∧ s.sinkRing.isSome = true ∧ s.aggregateDue x.start = false :=
  ⟨sinking, stamped sinking 0x12 (header 3 1 5 9) [1, 0, 4], [1, 0, 4], carriedExport [1, 0, 4], ⟨⟨⟨stamped_ok _ _ _ _, by decide +kernel⟩, by decide +kernel⟩, by decide +kernel, by decide +kernel, by decide +kernel, by decide +kernel, by decide +kernel⟩⟩

theorem witness_DomainCommandsAndTimers_1 : ∃ (s : State) (r : CmdRef) (c : Cmd) (keyId ip w0 w1 w2 peerRole : Nat), Accepts s r 0x0704 c ∧ s.twin.holder = true ∧ s.roleStrap = 1 ∧ s.rd R.DOMAIN_STATUS_STATE = 0 ∧ s.domain.joinCmd = none ∧ s.keyOk keyId Slot.DOMAIN = true :=
  ⟨outside, ⟨0, 0⟩, theCmd 0x0704, 6, 9, 0, 0, 0, 1, by decide +kernel⟩

theorem witness_DomainCommandsAndTimers_2 : ∃ (s : State) (r : CmdRef) (c : Cmd) (keyId ip w0 w1 w2 peerRole : Nat), Accepts s r 0x0704 c ∧ s.twin.holder = true ∧ s.founded = true ∧ [w0 % 8192, w1 % 8192, w2 % 8192].Nodup ∧ [w0 % 8192, w1 % 8192, w2 % 8192].contains 0 = false :=
  ⟨{ manager with cmds := [theCmd 0x0704], nextCmd := 2 }, ⟨0, 0⟩, theCmd 0x0704, 6, 9, 3, 4, 5, 1, by decide +kernel⟩

theorem witness_DomainCommandsAndTimers_3 : ∃ (s : State) (r : CmdRef) (c : Cmd) (pair : Nat), Accepts s r 0x0705 c ∧ s.twin.holder = true ∧ s.roleStrap = 1 ∧ s.rd R.DOMAIN_STATUS_STATE = 2 ∧ s.on R.DOMAIN_STATUS_WITNESS = false :=
  ⟨{ worker with cmds := [theCmd 0x0705], nextCmd := 2 }, ⟨0, 0⟩, theCmd 0x0705, 0, by decide +kernel⟩

theorem witness_DomainCommandsAndTimers_4 : ∃ (s : State) (r : CmdRef) (c : Cmd) (pair : Nat), Accepts s r 0x0705 c ∧ s.twin.holder = true ∧ s.founded = true ∧ pair % 8192 ≠ 0 ∧ AMap.has s.domain.members (pair % 8192) = true ∧ s.memberReachable (pair % 8192) = false :=
  ⟨{ manager with cmds := [theCmd 0x0705], nextCmd := 2, time.count := 10000000000 }, ⟨0, 0⟩, theCmd 0x0705, 3, by decide +kernel⟩

theorem witness_DomainCommandsAndTimers_5 : ∃ s : State, s.coreOn = true ∧ s.save.active = false :=
  ⟨{ asking worker 8 0 [] with time.count := 600000 }, by decide +kernel⟩

theorem witness_DomainCommandsAndTimers_6 : ∃ s : State, s.coreOn = true ∧ s.save.active = false ∧ s.paired = true ∧ s.twin.holder = false ∧ s.hasWitness = true ∧ s.domain.reportAt ≤ s.now :=
  ⟨standby, by decide +kernel⟩

theorem witness_DomainCommandsAndTimers_7 : ∃ (s : State) (x : Nat), s.coreOn = true ∧ s.save.active = false ∧ s.domain.lastAnswer = some x ∧ x + ms (s.rd R.DOMAIN_CTRL_UNREACH_MS) < s.now :=
  ⟨{ worker with domain.lastAnswer := some 0, time.count := 100000000000 }, 0, by decide +kernel⟩

theorem witness_DomainCommandsAndTimers_8 : ∃ (s : State) (c : Cmd), s.coreOn = true ∧ s.save.active = false ∧ due s.now s.domain.joinAt = true ∧ s.domain.joinCmd = some c.id ∧ s.domain.leaveCmd = none ∧ s.cmds.find? (fun d => d.id == c.id) = some c ∧ c.orphan = false :=
  ⟨{ joining with domain.joinAt := some 0 }, { theCmd 0x0704 with phase := .running }, by decide +kernel⟩

theorem witness_BrazeLinkRows_1 : ∃ (s : State), Linked s ∧ s.twin.yield = none ∧ NothingRuns s :=
  ⟨linked, by decide +kernel⟩

theorem witness_BrazeLinkRows_2 : ∃ (s : State), Linked s ∧ s.twin.yield = none ∧ NothingRuns s ∧ s.twin.lastFrame + us (s.rd R.TWIN_CTRL_DEAD_US) ≤ s.now :=
  ⟨{ linked with time.count := 900000000 }, by decide +kernel⟩

theorem witness_BrazeLinkRows_3 : ∃ (s : State), s.coreOn = true ∧ s.paired = true ∧ (s.rd R.TWIN_STATUS_LINK = 0 ∨ s.rd R.TWIN_STATUS_LINK = 3) ∧ due s.now s.twin.trainAt = true ∧ s.keeper.clocksLost.contains 0x21 = false :=
  ⟨{ (linked.wr R.TWIN_STATUS_LINK 0) with twin.trainAt := some 0 }, by decide +kernel⟩

theorem witness_BrazeLinkRows_4 : ∃ (s : State) (identity side pair tokenEpoch linkEpoch : Nat), s.coreOn = true ∧ s.twin.peer = some (identity % 2 ^ 64) ∧ s.rd R.TWIN_STATUS_LINK = 1 ∧ side ≠ s.side ∧ pair = s.pairNo :=
  ⟨training, 9, 1, 0, 5, 3, by decide +kernel⟩

theorem witness_BrazeLinkRows_5 : ∃ (s : State) (identity side pair tokenEpoch linkEpoch : Nat), s.coreOn = true ∧ s.paired = true ∧ s.start.presented = true ∧ s.rd R.TWIN_STATUS_LINK = 1 ∧ (s.twin.peer ≠ some (identity % 2 ^ 64) ∨ side = s.side ∨ pair ≠ s.pairNo) :=
  ⟨training, 8, 1, 0, 5, 3, by decide +kernel⟩

theorem witness_BrazeLinkRows_6 : ∃ (s : State) (lanes link : Nat), s.coreOn = true ∧ s.paired = true ∧ s.rd R.TWIN_STATUS_LINK = 1 ∧ 8 ≤ lanes ∧ s.twin.ident = some [s.rd R.TWIN_TOKEN_EPOCH_VALUE, link] ∧ s.rd R.TWIN_TOKEN_EPOCH_VALUE ≠ 0 :=
  ⟨training, 13, 3, by decide +kernel⟩

theorem witness_BrazeLinkRows_7 : ∃ (s : State) (dir credit tokenEpoch : Nat) (cipher tag : List Byte), Linked s ∧ tokenEpoch ≤ s.rd R.TWIN_TOKEN_EPOCH_VALUE ∧ s.twin.opening = false ∧ tag = frameTag s.twin.rxKey (s.rd R.TWIN_LINK_EPOCH_VALUE) dir credit tokenEpoch s.twin.rxSeq cipher :=
  ⟨linked, 1, 0, 5, [7], frameTag linked.twin.rxKey (linked.rd R.TWIN_LINK_EPOCH_VALUE) 1 0 5 linked.twin.rxSeq [7], ⟨by decide +kernel, by decide +kernel, by decide +kernel, rfl⟩⟩

theorem witness_BrazeLinkRows_8 : ∃ (s : State) (dir credit tokenEpoch seq : Nat) (cipher tag : List Byte), ItemTakes s ∧ s.twin.rxSeq < seq ∧ s.twin.replays.length < 16 ∧ tag = frameTag s.twin.rxKey (s.rd R.TWIN_LINK_EPOCH_VALUE) dir credit tokenEpoch seq cipher :=
  ⟨linked, 1, 0, 5, 3, [7], frameTag linked.twin.rxKey (linked.rd R.TWIN_LINK_EPOCH_VALUE) 1 0 5 3 [7], ⟨by decide +kernel, by decide +kernel, by decide +kernel, rfl⟩⟩

theorem witness_BrazeLinkRows_9 : ∃ (s : State) (expected : Nat), ItemTakes s :=
  ⟨linked, 3, by decide +kernel⟩

theorem witness_BrazeLinkRows_10 : ∃ (s : State), Linked s ∧ s.twin.announce = [] ∧ s.twin.statusAt ≤ s.now :=
  ⟨linked, by decide +kernel⟩

theorem witness_BrazeLinkRows_11 : ∃ (s : State), Linked s ∧ due s.now s.twin.frameAt = true ∧ s.twin.cut = [] ∧ s.twin.frame ≠ [] :=
  ⟨{ linked with twin.frame := [plainItem 4 []], twin.frameAt := some 0 }, by decide +kernel⟩

theorem witness_BrazeLinkRows_12 : ∃ (s : State) (since : Nat), Linked s ∧ s.twin.homeSince = some since ∧ s.rd R.TWIN_REVERT_REVERT_S ≠ 0 ∧ since + sec (s.rd R.TWIN_REVERT_REVERT_S) ≤ s.now ∧ s.twin.peerStatus.stage < 3 ∧ s.on R.TWIN_STATUS_REVERT_SUPPRESSED = false :=
  ⟨{ (follower.wr R.TWIN_REVERT_REVERT_S 1) with twin.homeSince := some 0, time.count := 2000000000 }, 0, by decide +kernel⟩

theorem witness_MirrorStreamRows_1 : ∃ (s : State) (queue msn m : Nat) (p : MirrorPrefix) (data : List Byte), ItemTakes s ∧ s.accepting = true ∧ msn = (AMap.get? s.twin.accepted queue).getD 0 + 1 ∧ s.twin.partials = [] ∧ s.start.units = [] ∧ s.twin.assayPeer = [] ∧ s.twin.shadows = [] ∧ s.twin.handover = none ∧ s.mediaPieces p.addr data.length = [(m, data.length)] :=
  ⟨mirroring, 2, 1, 64, aPrefix, [1, 2, 3], by decide +kernel⟩

theorem witness_MirrorStreamRows_2 : ∃ (s : State) (queue msn offset : Nat) (data : List Byte) (x : PartialRecord), ItemTakes s ∧ s.accepting = true ∧ msn = (AMap.get? s.twin.accepted queue).getD 0 + 1 ∧ s.twin.partials = [x] ∧ x.queue = queue ∧ x.msn = msn ∧ x.len = 32 + (x.pieces.map (·.2.length)).sum + data.length ∧ x.len ≠ 0 ∧ x.epochEnd = false ∧ s.start.units = [] ∧ s.twin.assayPeer = [] ∧ s.twin.shadows = [] ∧ s.twin.handover = none :=
  ⟨twoPieces, 2, 1, 35, [4], ⟨2, 1, 36, aPrefix, [(0, [1, 2, 3])], false, []⟩, by decide +kernel⟩

theorem witness_MirrorStreamRows_3 : ∃ (s : State) (queue msn : Nat), ItemTakes s ∧ s.accepting = true ∧ msn = (AMap.get? s.twin.accepted queue).getD 0 + 1 ∧ s.twin.partials = [] ∧ s.twin.shadows = [] ∧ s.twin.handover = none :=
  ⟨mirroring, 2, 1, by decide +kernel⟩

theorem witness_MirrorStreamRows_4 : ∃ (s : State) (msns : List Nat) (q : Nat), ItemTakes s ∧ s.twin.holder = true ∧ NothingRuns s ∧ q < 32 :=
  ⟨{ linked with twin.unacked := [⟨0, 1, 0⟩, ⟨0, 2, 0⟩] }, [1], 0, by decide +kernel⟩

theorem witness_MirrorStreamRows_5 : ∃ (s : State), Linked s ∧ s.twin.holder = true ∧ s.twin.unacked.any (fun r => decide (r.at_ + us 500 ≤ s.now)) = true ∧ NothingRuns s ∧ s.twin.resync = none :=
  ⟨{ linked with twin.unacked := [⟨0, 1, 0⟩], time.count := 600000, twin.commands := [⟨1, none, ⟨0x0105, [4]⟩⟩] }, by decide +kernel⟩

theorem witness_MirrorStreamRows_6 : ∃ (s : State) (queue : Nat) (e : AssayEpoch), Linked s ∧ s.twin.holder = true ∧ AMap.get? s.twin.assayOpen queue = some e ∧ 0 < e.count ∧ (65536 ≤ e.count ∨ e.openedAt + us 100 ≤ s.now) ∧ s.twin.assayPeer = [] :=
  ⟨{ linked with twin.assayOpen := [(2, ⟨1, List.replicate 16 0, [], [], 0⟩)], time.count := 200000 }, 2, ⟨1, List.replicate 16 0, [], [], 0⟩, by decide +kernel⟩

theorem witness_MirrorStreamRows_7 : ∃ (s : State) (queue last count mac : Nat), ItemTakes s ∧ s.twin.holder = true ∧ s.twin.assayMine.find? (fun e => e.queue == queue && e.last == last) = none :=
  ⟨linked, 2, 7, 3, 9, by decide +kernel⟩

theorem witness_MirrorStreamRows_8 : ∃ (s : State) (queue last count mac : Nat) (e : AssayClosed), ItemTakes s ∧ s.twin.holder = true ∧ s.twin.assayPeer = [] ∧ s.twin.assayMine.find? (fun e => e.queue == queue && e.last == last) = some e ∧ (e.count ≠ count ∨ e.mac ≠ mac) ∧ e.pages = [] :=
  ⟨{ linked with twin.assayMine := [⟨2, 7, 4, 9, []⟩] }, 2, 7, 3, 9, ⟨2, 7, 4, 9, []⟩, by decide +kernel⟩

theorem witness_MirrorStreamRows_9 : ∃ (s : State) (addr len queue msn mac : Nat), ItemTakes s ∧ s.twin.holder = false ∧ s.twin.shadows = [] ∧ (AMap.get? s.twin.accepted queue).getD 0 < msn :=
  ⟨mirroring, 64, 8, 2, 5, 7, by decide +kernel⟩

theorem witness_MirrorStreamRows_10 : ∃ (s : State) (addr len queue msn mac m : Nat), ItemTakes s ∧ s.twin.holder = false ∧ s.twin.shadows = [] ∧ s.twin.recent = [] ∧ msn ≤ (AMap.get? s.twin.accepted queue).getD 0 ∧ s.media? addr = some m ∧ (linesOf m len).any s.chunkPoison = true :=
  ⟨{ mirroring with mem.dramPoison := [(1, 1)] }, 64, 8, 2, 0, 7, 64, by decide +kernel⟩

theorem witness_MirrorStreamRows_11 : ∃ (s : State) (p : Nat) (b : Bool), ItemTakes s ∧ s.twin.tie = none ∧ s.twin.diverged.contains (pageUnit p) = false ∧ NothingRuns s :=
  ⟨mirroring, 0, true, by decide +kernel⟩

theorem witness_MirrorStreamRows_12 : ∃ (s : State) (stage d sync feedA feedB saveStep fraction : Nat) (accepting : Bool), ItemTakes s ∧ NothingRuns s :=
  ⟨linked, 2, 40, 0, 1, 1, 0, 100, true, by decide +kernel⟩

theorem witness_LeaseAndHandoverRows_1 : ∃ (s : State) (sentAt : Nat), ItemTakes s ∧ s.twin.holder = false :=
  ⟨follower, 7, by decide +kernel⟩

theorem witness_LeaseAndHandoverRows_2 : ∃ (s : State) (sentAt : Nat), ItemTakes s ∧ s.twin.holder = true ∧ s.twin.stopped = false ∧ sentAt ≤ s.now ∧ NothingRuns s :=
  ⟨linked, 0, by decide +kernel⟩

theorem witness_LeaseAndHandoverRows_3 : ∃ (s : State), Linked s ∧ s.twin.holder = true ∧ s.twin.stopped = false ∧ s.twin.renewAt ≤ s.now :=
  ⟨linked, by decide +kernel⟩

theorem witness_LeaseAndHandoverRows_4 : ∃ (s : State), s.coreOn = true ∧ s.twin.holder = true ∧ s.twin.stopped = false ∧ s.linkUp = false ∧ s.hasWitness = true ∧ s.twin.witnessAt ≤ s.now :=
  ⟨{ standby with twin.holder := true }, by decide +kernel⟩

theorem witness_LeaseAndHandoverRows_5 : ∃ (s : State), s.coreOn = true ∧ (s.twin.holder = false ∨ s.twin.stopped = true ∨ s.leaseValid = false) ∧ s.mayServe = true ∧ due s.now s.twin.viewEnd = true ∧ s.hasWitness = true ∧ s.twin.forcing = none ∧ s.twin.grantAt ≤ s.now :=
  ⟨{ standby with twin.viewEnd := some 0 }, by decide +kernel⟩

theorem witness_LeaseAndHandoverRows_6 : ∃ (s : State), s.coreOn = true ∧ s.paired = true ∧ s.twin.holder = true ∧ due s.now s.twin.leaseEnd = true ∧ s.leaseValid = false ∧ s.twin.yield = none :=
  ⟨{ linked with time.count := 1000000000 }, by decide +kernel⟩

theorem witness_LeaseAndHandoverRows_7 : ∃ (s : State), s.coreOn = true ∧ s.paired = true ∧ due s.now s.twin.viewEnd = true ∧ (s.twin.holder = false ∨ s.leaseValid = false ∨ s.twin.stopped = true) :=
  ⟨{ follower with twin.viewEnd := some 0, twin.grantAt := 7 }, by decide +kernel⟩

theorem witness_LeaseAndHandoverRows_8 : ∃ (s : State) (y : Yield), Linked s ∧ s.twin.yield = some y ∧ y.cause ≠ 4 ∧ y.step = 2 ∧ NothingRuns s :=
  ⟨{ linked with twin.yield := some ⟨1, 2, 0, none, 0, 200000⟩ }, ⟨1, 2, 0, none, 0, 200000⟩, by decide +kernel⟩

theorem witness_LeaseAndHandoverRows_9 : ∃ (s : State) (msns : List Nat) (epoch leaseLeft : Nat) (save : Bool), ItemTakes s ∧ s.twin.holder = false ∧ s.save.active = false ∧ s.mayServe = true ∧ s.rd R.TWIN_STATUS_SYNC = 0 ∧ s.rd R.TWIN_TOKEN_EPOCH_VALUE < epoch ∧ msns.length = 32 ∧ (rangeFrom 0 32).all (fun q => decide (msns.getD q 0 ≤ (AMap.get? s.twin.accepted q).getD 0)) = true :=
  ⟨follower, List.replicate 32 0, 6, 500, false, by decide +kernel⟩

theorem witness_LeaseAndHandoverRows_10 : ∃ (s : State) (y : Yield), ItemTakes s ∧ s.twin.yield = some y ∧ y.step = 3 ∧ y.cause ≠ 4 ∧ y.cmd = none ∧ s.twin.quiesceAfter = false ∧ NothingRuns s :=
  ⟨{ linked with twin.yield := some ⟨1, 3, 0, none, 0, 200000⟩ }, ⟨1, 3, 0, none, 0, 200000⟩, by decide +kernel⟩

theorem witness_LeaseAndHandoverRows_11 : ∃ (s : State) (value : Nat), ItemTakes s ∧ s.twin.holder = false ∧ s.inService = true :=
  ⟨follower, 0, by decide +kernel⟩

theorem witness_LeaseAndHandoverRows_12 : ∃ (s : State) (unit : Nat) (r : Resync), ItemTakes s ∧ s.twin.resync = some r ∧ s.twin.diverged ≠ [] :=
  ⟨{ linked with twin.resync := some ⟨true, none, [3, 4], 0⟩, twin.diverged := [5] }, 3, ⟨true, none, [3, 4], 0⟩, by decide +kernel⟩

theorem witness_LeaseAndHandoverRows_13 : ∃ (s : State) (value : Nat), ItemTakes s ∧ s.twin.holder = false ∧ s.rd R.TWIN_STATUS_SYNC = 2 :=
  ⟨follower.wr R.TWIN_STATUS_SYNC 2, 0, by decide +kernel⟩

theorem witness_LeaseAndHandoverRows_14 : ∃ (s : State) (unit m : Nat) (msns poison : List Nat) (data : List Byte), ItemTakes s ∧ s.twin.holder = false ∧ s.rd R.TWIN_STATUS_SYNC = 2 ∧ s.media? (unit * unit2M) = some m ∧ s.near.ways = [] ∧ s.near.victims = [] ∧ s.near.misses = [] :=
  ⟨mirroring.wr R.TWIN_STATUS_SYNC 2, 0, 0, [], [], [1], by decide +kernel⟩

theorem witness_LeaseAndHandoverRows_15 : ∃ (s : State) (r : Resync) (u m : Nat) (rest : List Nat), Linked s ∧ s.twin.resync = some r ∧ s.twin.diverged = u :: rest ∧ s.isActive = true ∧ s.twin.localCommands = [] ∧ r.nextAt ≤ s.now ∧ s.twin.peerStatus.stage ≠ 4 ∧ s.start.units.contains u = false ∧ s.media? (u * unit2M) = some m :=
  ⟨{ mirroring with twin.holder := true, twin.leaseEnd := some 9, twin.resync := some ⟨true, none, [], 0⟩, twin.diverged := [0] }, ⟨true, none, [], 0⟩, 0, 0, [], by decide +kernel⟩

theorem witness_TwinCommandsAndMirroredChanges_1 : ∃ (s : State) (r : CmdRef) (c : Cmd) (peer keyId home flags : Nat), Accepts s r 0x0701 c ∧ flags % 2 = 1 ∧ NothingRuns s ∧ s.twin.yield = none :=
  ⟨twinCmd linked 0x0701, ⟨0, 0⟩, theCmd 0x0701, 9, 5, 0, 1, by decide +kernel⟩

theorem witness_TwinCommandsAndMirroredChanges_2 : ∃ (s : State) (r : CmdRef) (c : Cmd) (peer keyId home flags : Nat), Accepts s r 0x0701 c ∧ flags % 2 = 0 ∧ s.keyOk keyId Slot.PAIRING = true ∧ NothingRuns s ∧ s.twin.yield = none :=
  ⟨{ cmdOf 0x0701 with crypt.slots := [(5, ⟨3, false, 9, 1, false, 0, 0, 0⟩)] }, ⟨0, 0⟩, theCmd 0x0701, 9, 5, 0, 0, by decide +kernel⟩

theorem witness_TwinCommandsAndMirroredChanges_3 : ∃ (s : State) (r : CmdRef) (c : Cmd) (tag : Nat), Accepts s r 0x0702 c ∧ s.standbyCurrent = true ∧ s.isActive = true ∧ s.twin.resync = none ∧ s.twin.yield = none :=
  ⟨twinCmd (linked.wr R.TWIN_STATUS_SYNC 0) 0x0702, ⟨0, 0⟩, theCmd 0x0702, 77, by decide +kernel⟩

theorem witness_TwinCommandsAndMirroredChanges_4 : ∃ (s : State) (r : CmdRef) (c : Cmd) (tag : Nat), Accepts s r 0x0702 c ∧ s.paired = true ∧ s.twin.holder = false ∧ s.mayServe = true ∧ (match s.twin.lastRenewSeen with | some x => decide (s.now < x + s.leaseL + s.leaseG) | none => false) = false ∧ s.hasWitness = false ∧ NothingRuns s :=
  ⟨twinCmd follower 0x0702, ⟨0, 0⟩, theCmd 0x0702, 77, by decide +kernel⟩

theorem witness_TwinCommandsAndMirroredChanges_5 : ∃ (s : State) (r : CmdRef) (c : Cmd) (mode : Nat), Accepts s r 0x0703 c ∧ s.paired = true ∧ s.twin.holder = true ∧ s.linkUp = true ∧ s.twin.refused = 0 ∧ mode ≤ 1 ∧ s.twin.localCommands ≠ [] :=
  ⟨twinCmd {linked with twin.localCommands := [⟨0x0105, [4]⟩] } 0x0703, ⟨0, 0⟩, theCmd 0x0703, 1, by decide +kernel⟩

theorem witness_TwinCommandsAndMirroredChanges_6 : ∃ (s : State) (number pd : Nat), ItemTakes s ∧ s.twin.holder = false ∧ s.accepting = true :=
  ⟨follower, 3, 6, by decide +kernel⟩

theorem witness_TwinCommandsAndMirroredChanges_7 : ∃ (s : State) (number : Nat), ItemTakes s ∧ s.twin.holder = true ∧ s.twin.resync = none :=
  ⟨{ linked with twin.commands := [⟨3, none, ⟨0x0105, [4]⟩⟩] }, 3, by decide +kernel⟩

theorem witness_TwinCommandsAndMirroredChanges_8 : ∃ (s : State) (i epoch base : Nat), ItemTakes s ∧ s.twin.holder = false :=
  ⟨follower, 3, 9, 4, by decide +kernel⟩

theorem witness_TwinCommandsAndMirroredChanges_9 : ∃ (s : State) (i v : Nat), ItemTakes s ∧ s.twin.holder = false ∧ (s.stream i).state = .open ∧ seqBelow (s.stream i).respAck v = true :=
  ⟨{ follower with cerga.streams := [(3, { streamNone with state := .open, epoch := 9 })] }, 3, 5, by decide +kernel⟩

theorem witness_TwinCommandsAndMirroredChanges_10 : ∃ (s : State) (i q : Nat), ItemTakes s ∧ s.twin.holder = false ∧ (s.stream i).state = .open ∧ seqBelow q (s.stream i).respAck = false :=
  ⟨{ follower with cerga.streams := [(3, { streamNone with state := .open, epoch := 9 })] }, 3, 5, by decide +kernel⟩

theorem witness_TwinCommandsAndMirroredChanges_11 : ∃ (s : State) (q psn n : Nat) (x : Qp), ItemTakes s ∧ s.twin.holder = false ∧ s.qp? q = some x :=
  ⟨{ follower with roce.qps := [(0, { qpNew 4 with state := .rts })] }, 0, 7, 2, { qpNew 4 with state := .rts }, by decide +kernel⟩

end Sys2Proof.Tests
end

/-! The software reset: what each value written to GLOBAL_RESET does to RESET_ARMED and to the save (R470). -/

namespace Sys2Proof.Machine

open Sys2Proof

/-! ### The PCIe path to GLOBAL_RESET -/

/-- PCIe reaches no register while the core die has no power (R450). -/
theorem State.coreOn_of_reaches_pcie {s : State} {off : Nat} (h : s.reaches .pcie off = true) : s.coreOn = true := by
  simp only [State.reaches, Bool.and_eq_true] at h
  obtain ⟨⟨hcore, _⟩, _⟩ := h
  exact hcore

/-- A whole-word write to GLOBAL_RESET over PCIe hands its low 32 bits to the key. -/
theorem exec_registerWrite_globalReset {s : State} (h : s.reaches .pcie 0x1C = true) (v : Nat) :
    exec (.registerWrite 0x1C v true) s = .next (s.resetKey (v % 2 ^ 32)) := by
  have hword : s.writePath .pcie 0x1C v = s.resetKey (v % 2 ^ 32) := by
    simp [State.writePath, State.writeCore, h]
  exact congrArg Host.Outcome.next hword

/-! ### RESET_ARMED -/

@[simp] theorem State.disarm_save (s : State) : s.disarm.save = s.save := by simp [State.disarm]

@[simp] theorem State.disarm_armedEnd (s : State) : s.disarm.armedEnd = none := rfl

@[simp] theorem State.disarm_on_resetArmed (s : State) : s.disarm.on R.GLOBAL_STATUS_RESET_ARMED = false :=
  State.on_flag_self s R.GLOBAL_STATUS_RESET_ARMED false (by decide)

@[simp] theorem State.disarm_coreOn (s : State) : s.disarm.coreOn = s.coreOn := by
  have hseq : s.disarm.rd R.KEEPER_STATUS_SEQ_STATE = s.rd R.KEEPER_STATUS_SEQ_STATE :=
    State.rd_wr_ne s 0 (by decide)
  simp only [State.coreOn, hseq]

theorem State.arm_on_resetArmed {s : State} (h : s.save.active = false) : s.arm.on R.GLOBAL_STATUS_RESET_ARMED = true := by
  simp only [State.arm, h]
  exact State.on_flag_self s R.GLOBAL_STATUS_RESET_ARMED true (by decide)

theorem State.arm_armedEnd {s : State} (h : s.save.active = false) : s.arm.armedEnd = some (s.now + ms 1) := by
  simp [State.arm, h]

@[simp] theorem State.arm_save (s : State) : s.arm.save = s.save := by
  unfold State.arm
  split <;> simp

theorem State.arm_of_saving {s : State} (h : s.save.active = true) : s.arm = s := by simp [State.arm, h]

/-! ### The second write -/

theorem State.fire_of_saving {s : State} (h : s.save.active = true) : s.fire = s := by simp [State.fire, h]

theorem State.fire_of_armed {s : State} (h : s.save.active = false) (harmed : s.on R.GLOBAL_STATUS_RESET_ARMED = true) :
    s.fire = s.disarm.startSave 3 .restart none none none := by
  simp [State.fire, h, harmed]

/-! ### The three cases of the key, and the end of the 1 ms -/

theorem exec_globalReset_first {s : State} (h : s.reaches .pcie 0x1C = true) :
    exec (.registerWrite 0x1C 0xA55A true) s = .next s.arm :=
  exec_registerWrite_globalReset h 0xA55A

theorem exec_globalReset_second {s : State} (h : s.reaches .pcie 0x1C = true) :
    exec (.registerWrite 0x1C 0x5AA5 true) s = .next s.fire :=
  exec_registerWrite_globalReset h 0x5AA5

theorem exec_globalReset_other {s : State} (h : s.reaches .pcie 0x1C = true) {v : Nat} (hfirst : v % 2 ^ 32 ≠ 0xA55A)
    (hsecond : v % 2 ^ 32 ≠ 0x5AA5) : exec (.registerWrite 0x1C v true) s = .next s.disarm := by
  rw [exec_registerWrite_globalReset h, State.resetKey, if_neg hfirst, if_neg hsecond]

theorem exec_resetArmExpiry_due {s : State} (hcore : s.coreOn = true) (hdue : due s.now s.armedEnd = true) :
    exec .resetArmExpiry s = .next s.disarm :=
  congrArg Host.Outcome.next (if_pos (by simp [hcore, hdue]))

/-- Settles O13: each write is the key's case for its value, and the second write's save is the new one of `startSave_new`. -/
theorem softwareReset : Obligations.SoftwareReset := by
  unfold Obligations.SoftwareReset
  refine ⟨?firstWrite, ?secondWrite, ?otherWrite, ?expiry, ?saving⟩
  case firstWrite =>
    intro s hreach hidle
    exact ⟨s.arm, exec_globalReset_first hreach, State.arm_on_resetArmed hidle, State.arm_armedEnd hidle,
      State.arm_save s⟩
  case secondWrite =>
    intro s hreach hidle harmed
    have hnew := State.startSave_new s.disarm 3 .restart none none none
      ((State.disarm_coreOn s).trans (State.coreOn_of_reaches_pcie hreach)) (by simpa using hidle)
    refine ⟨s.fire, exec_globalReset_second hreach, ?_⟩
    rw [State.fire_of_armed hidle harmed, hnew]
    exact ⟨rfl, rfl, rfl, rfl⟩
  case otherWrite =>
    intro s v hreach hfirst hsecond
    exact ⟨s.disarm, exec_globalReset_other hreach hfirst hsecond, State.disarm_on_resetArmed s, State.disarm_armedEnd s,
      State.disarm_save s⟩
  case expiry =>
    intro s hcore hdue
    exact ⟨s.disarm, exec_resetArmExpiry_due hcore hdue, State.disarm_on_resetArmed s, State.disarm_armedEnd s,
      State.disarm_save s⟩
  case saving =>
    intro s hreach hsaving
    constructor
    · rw [exec_globalReset_first hreach, State.arm_of_saving hsaving]
    · rw [exec_globalReset_second hreach, State.fire_of_saving hsaving]

end Sys2Proof.Machine

/-! The event routes after reset: each register stands at its field's value after reset, which for EVENT_ROUTE_s depends on whether
Table 24-2 lists source s (R479). -/

namespace Sys2Proof.Machine

open Sys2Proof

/-- The reset state lists no register, so every field reads its value after reset. -/
theorem State.rdN_reset (f : Fld) (n : Nat) : State.reset.rdN f n = f.reset n := rfl

/-! ### The two fields of EVENT_ROUTE_s -/

theorem routeOff_reset_of_listed {src : Nat} (h : isListedSource src = true) : State.reset.rdN R.EVENT_ROUTE_OFF src = 0 :=
  (State.rdN_reset R.EVENT_ROUTE_OFF src).trans (if_pos h)

theorem routeOff_reset_of_reserved {src : Nat} (h : isListedSource src = false) : State.reset.rdN R.EVENT_ROUTE_OFF src = 1 :=
  (State.rdN_reset R.EVENT_ROUTE_OFF src).trans (if_neg (Bool.eq_false_iff.mp h))

/-- Two groups of 16 sources share a ring: the field's 32 sources to a ring are ⌊group / 2⌋. -/
theorem routeRing_reset_of_listed {src : Nat} (h : isListedSource src = true) :
    State.reset.rdN R.EVENT_ROUTE_RING src = src / 16 / 2 := by
  have hgroup : src / 16 / 2 = src / 32 := Nat.div_div_eq_div_mul src 16 2
  rw [hgroup]
  exact (State.rdN_reset R.EVENT_ROUTE_RING src).trans (if_pos h)

theorem routeRing_reset_of_reserved {src : Nat} (h : isListedSource src = false) :
    State.reset.rdN R.EVENT_ROUTE_RING src = 0 :=
  (State.rdN_reset R.EVENT_ROUTE_RING src).trans (if_neg (Bool.eq_false_iff.mp h))

/-! ### A source of a low group and one of a high group -/

theorem isListedSource_authFailAlarm : isListedSource Ev.CERGA_AUTH_FAIL_ALARM = true := by decide

theorem isListedSource_monitorFault : isListedSource Ev.FIRMWARE_PACE_MONITOR_FAULT = true := by decide

/-- Settles O12: each route stands at its value after reset; CERGA.AUTH_FAIL_ALARM (group 1) goes to ring 0 and
FIRMWARE_PACE.MONITOR_FAULT (group 15) to ring 7. -/
theorem eventRoutesAfterReset : Obligations.EventRoutesAfterReset := by
  unfold Obligations.EventRoutesAfterReset
  refine ⟨?listed, ?reserved, ?group1, ?group15⟩
  case listed =>
    intro src _ hlisted
    exact ⟨routeOff_reset_of_listed hlisted, routeRing_reset_of_listed hlisted⟩
  case reserved =>
    intro src _ hreserved
    exact ⟨routeOff_reset_of_reserved hreserved, routeRing_reset_of_reserved hreserved⟩
  case group1 =>
    exact ⟨Ev.CERGA_AUTH_FAIL_ALARM, isListedSource_authFailAlarm, rfl,
      routeRing_reset_of_listed isListedSource_authFailAlarm⟩
  case group15 =>
    exact ⟨Ev.FIRMWARE_PACE_MONITOR_FAULT, isListedSource_monitorFault, rfl,
      routeRing_reset_of_listed isListedSource_monitorFault⟩

end Sys2Proof.Machine

/-! What a piece of the model may write. One relation, `Keeps W s t`, says of the parts that the frame statements speak of that they stand
in `t` as in `s`, but for those that `W` names; the two memories stay canonical, and the queue and the clock are left alone. -/

namespace Sys2Proof.Machine

open Sys2Proof

/-! ### The configuration fields -/

/-- The blocks whose software-written fields the configuration frame speaks of. -/
def configBlocks : List Fld :=
  R.fieldsPACE ++ R.fieldsCERGA ++ R.fieldsROCE ++ R.fieldsPROT ++ R.fieldsDUR ++ R.fieldsTWIN ++ R.fieldsDRAM ++ R.fieldsFLASH ++
  R.fieldsINTEG ++ R.fieldsMETER ++ R.fieldsLIFE ++ R.fieldsEVENT

/-- The software-written fields of these blocks. -/
def configFields : List Fld := configBlocks.filter (fun f => f.acc == .rw)

/-- Where the registers of a series lie: the low bit of the field, the first and the last offset. -/
def Fld.span (f : Fld) : Nat × Nat × Nat := (f.lo, f.off, f.off + f.stride * (f.count - 1))

/-- The spans of the configuration fields, written out so that a test against them is cheap. -/
def configSpans : List (Nat × Nat × Nat) :=
  [(16, 0x80000, 0x80000), (8, 0x80000, 0x80000), (0, 0x80000, 0x80000), (16, 0xA0000, 0xA0000), (2, 0xA0000, 0xA0000),
   (1, 0xA0000, 0xA0000), (0, 0xA0000, 0xA0000), (20, 0xA0004, 0xA0004), (0, 0xA0004, 0xA0004), (24, 0xA0008, 0xA0008),
   (0, 0xA0008, 0xA0008), (16, 0xA000C, 0xA000C), (0, 0xA000C, 0xA000C), (0, 0xA001C, 0xA001C), (12, 0xB0000, 0xB0000),
   (2, 0xB0000, 0xB0000), (1, 0xB0000, 0xB0000), (0, 0xB0000, 0xB0000), (16, 0xB0004, 0xB0004), (0, 0xB0004, 0xB0004),
   (16, 0xC0000, 0xC0000), (0, 0xC0000, 0xC0000), (16, 0xE0000, 0xE0000), (0, 0xE0000, 0xE0000), (25, 0xE0004, 0xE0004),
   (18, 0xE0004, 0xE0004), (0, 0xE0004, 0xE0004), (0, 0xE0008, 0xE0008), (0, 0xE000C, 0xE000C), (25, 0xE0010, 0xE0010),
   (14, 0xE0010, 0xE0010), (0, 0xE0010, 0xE0010), (16, 0xE0014, 0xE0014), (0, 0xE0060, 0xE0060), (23, 0xF0000, 0xF0000),
   (9, 0xF0000, 0xF0000), (0, 0xF0004, 0xF0004), (8, 0xF0008, 0xF0008), (0, 0xF0008, 0xF0008), (0, 0xF000C, 0xF000C),
   (0, 0xF0010, 0xF0010), (24, 0x110000, 0x110000), (16, 0x110000, 0x110000), (8, 0x110000, 0x110000), (1, 0x110000, 0x110000),
   (0, 0x110000, 0x110000), (0, 0x110004, 0x110004), (0, 0x110008, 0x110008), (0, 0x11000C, 0x11000C), (8, 0x110010, 0x110010),
   (0, 0x110010, 0x110010), (28, 0x130000, 0x130000), (20, 0x130000, 0x130000), (12, 0x130000, 0x130000),
   (5, 0x130000, 0x130000), (0, 0x130000, 0x130000), (24, 0x140000, 0x140000), (24, 0x140004, 0x140004),
   (16, 0x140004, 0x140004), (16, 0x160000, 0x160000), (0, 0x160000, 0x160000), (0, 0x160010, 0x160010), (1, 0x180004, 0x180004),
   (0, 0x180004, 0x180004), (16, 0x1B0000, 0x1B0000), (0, 0x1B0000, 0x1B0000), (31, 0x1B0100, 0x1B04FC), (0, 0x1B0100, 0x1B04FC)]

theorem configSpans_eq : configFields.map Fld.span = configSpans := by decide +kernel

/-- A field begins at another bit than the fields of a span, or its series ends before that one begins, or begins after it. -/
def Fld.apart (f : Fld) (x : Nat × Nat × Nat) : Bool :=
  !Nat.beq f.lo x.1 || Nat.blt (Fld.span f).2.2 x.2.1 || Nat.blt x.2.2 f.off

/-- A field that begins inside a register pair, of a series that is not empty. -/
def Fld.sound (f : Fld) : Bool := Nat.blt f.lo 64 && Nat.blt 0 f.count

/-- A field whose registers are no configuration. -/
def Fld.free (f : Fld) : Bool := Fld.sound f && configSpans.all (Fld.apart f)

theorem configFields_sound : ∀ g ∈ configFields, Fld.sound g = true := by decide +kernel

theorem Fld.key_ne_of_apart {f g : Fld} (hf : Fld.sound f = true) (hg : Fld.sound g = true) (h : Fld.apart f (Fld.span g) = true)
    (n m : Nat) : f.key n ≠ g.key m := by
  simp only [Fld.sound, Bool.and_eq_true, Nat.blt_eq] at hf hg
  obtain ⟨hflo, hfcount⟩ := hf
  obtain ⟨hglo, hgcount⟩ := hg
  have hfn : f.stride * (n % f.count) ≤ f.stride * (f.count - 1) :=
    Nat.mul_le_mul_left _ (Nat.le_pred_of_lt (Nat.mod_lt n hfcount))
  have hgm : g.stride * (m % g.count) ≤ g.stride * (g.count - 1) :=
    Nat.mul_le_mul_left _ (Nat.le_pred_of_lt (Nat.mod_lt m hgcount))
  simp only [Fld.apart, Fld.span, Bool.or_eq_true, Bool.not_eq_true', Nat.blt_eq, ← Bool.not_eq_true, Nat.beq_eq] at h
  simp only [Fld.key]
  omega

theorem Fld.key_ne_config {f g : Fld} (hf : Fld.free f = true) (hg : g ∈ configFields) (n m : Nat) : f.key n ≠ g.key m := by
  simp only [Fld.free, Bool.and_eq_true, List.all_eq_true] at hf
  obtain ⟨hsound, hapart⟩ := hf
  have hspan : Fld.span g ∈ configSpans := configSpans_eq ▸ List.mem_map_of_mem hg
  exact Fld.key_ne_of_apart hsound (configFields_sound g hg) (hapart _ hspan) n m

/-! ### The relation -/

/-- The parts that a piece of the model may write. -/
structure Writes where
  mem : Prop
  pds : Prop
  regions : Prop
  accounts : Prop
  members : Prop
  slots : Prop
  keyRegs : Prop
  words : Prop
  log : Prop
  badRows : Prop
  fw : Prop
  queues : Prop
  ledger : Prop
  save : Prop
  captures : Prop
  config : Prop

/-- DRAM's contents and the durability image are canonical. -/
def Memories.Canonical (m : Memories) : Prop := Mem.wf m.dram = true ∧ Mem.wf m.image = true

section
variable {m : Memories} {dram image : Mem} {p q : AMap Nat} {a : Nat} {bs : List Byte}

/-- Poison marks are no contents. -/
theorem Memories.Canonical.marks (h : m.Canonical) : Memories.Canonical ⟨m.dram, p, m.image, q⟩ := h

theorem Memories.Canonical.dramWriteN (h : m.Canonical) : Memories.Canonical ⟨Mem.writeN m.dram a bs, p, m.image, q⟩ :=
  ⟨Mem.wf_writeN bs _ a h.1, h.2⟩

theorem Memories.Canonical.dramFilter {f : Nat × Byte → Bool} (h : m.Canonical) :
    Memories.Canonical ⟨m.dram.filter f, p, m.image, q⟩ :=
  ⟨Mem.wf_filter f _ h.1, h.2⟩

theorem Memories.Canonical.imageWriteN (h : m.Canonical) : Memories.Canonical ⟨m.dram, p, Mem.writeN m.image a bs, q⟩ :=
  ⟨h.1, Mem.wf_writeN bs _ a h.2⟩

theorem Memories.Canonical.imageFilter {f : Nat × Byte → Bool} (h : m.Canonical) :
    Memories.Canonical ⟨m.dram, p, m.image.filter f, q⟩ :=
  ⟨h.1, Mem.wf_filter f _ h.2⟩

theorem Memories.Canonical.empty : Memories.Canonical ⟨[], p, [], q⟩ := ⟨rfl, rfl⟩

theorem Memories.Canonical.emptyDram (h : m.Canonical) : Memories.Canonical ⟨[], p, m.image, q⟩ := ⟨rfl, h.2⟩

end

/-- The parts of a state that the frame statements speak of. -/
structure Parts where
  count : Nat
  mem : Memories
  pds : AMap Pd
  regions : AMap Region
  accounts : AMap Account
  members : AMap Member
  slots : AMap KeySlot
  keyRegs : AMap Nat
  words : AMap Nat
  log : List LogRecord
  badRows : List DramError
  fw : Firmware
  queues : AMap QueueRec
  ledger : Ledger
  save : Save
  captures : AMap Nat
  regs : AMap Nat

def State.parts (s : State) : Parts :=
  ⟨s.time.count, s.mem, s.prot.pds, s.prot.regions, s.meter.accounts, s.domain.members, s.crypt.slots, s.keyRegs, s.keeper.flash.words,
    s.keeper.flash.log, s.dram.log, s.fw, s.cerga.queues, s.ledger, s.save, s.captures, s.regs⟩

/-- `W` allows the parts to change from `p` to `q`. -/
structure Parts.Allows (W : Writes) (p q : Parts) : Prop where
  count : q.count = p.count
  canonical : p.mem.Canonical → q.mem.Canonical
  mem : ¬ W.mem → q.mem = p.mem
  pds : ¬ W.pds → q.pds = p.pds
  regions : ¬ W.regions → q.regions = p.regions
  accounts : ¬ W.accounts → q.accounts = p.accounts
  members : ¬ W.members → q.members = p.members
  slots : ¬ W.slots → q.slots = p.slots
  keyRegs : ¬ W.keyRegs → q.keyRegs = p.keyRegs
  words : ¬ W.words → q.words = p.words
  log : ¬ W.log → q.log = p.log
  badRows : ¬ W.badRows → q.badRows = p.badRows
  fw : ¬ W.fw → q.fw = p.fw
  queues : ¬ W.queues → q.queues = p.queues
  ledger : ¬ W.ledger → q.ledger = p.ledger
  save : ¬ W.save → q.save = p.save
  captures : ¬ W.captures → q.captures = p.captures
  regs : ¬ W.config → q.regs = p.regs

section
variable {W : Writes} {p : Parts}

theorem Parts.Allows.refl : Parts.Allows W p p :=
  ⟨rfl, id, fun _ => rfl, fun _ => rfl, fun _ => rfl, fun _ => rfl, fun _ => rfl, fun _ => rfl, fun _ => rfl, fun _ => rfl,
    fun _ => rfl, fun _ => rfl, fun _ => rfl, fun _ => rfl, fun _ => rfl, fun _ => rfl, fun _ => rfl, fun _ => rfl⟩

theorem Parts.Allows.setMem {x : Memories} (hmem : W.mem) (hx : p.mem.Canonical → x.Canonical) : Parts.Allows W p { p with mem := x } :=
  { Parts.Allows.refl with canonical := hx, mem := absurd hmem }

theorem Parts.Allows.setPds {x} (hpds : W.pds) : Parts.Allows W p { p with pds := x } :=
  { Parts.Allows.refl with pds := absurd hpds }

theorem Parts.Allows.setRegions {x} (hregions : W.regions) : Parts.Allows W p { p with regions := x } :=
  { Parts.Allows.refl with regions := absurd hregions }

theorem Parts.Allows.setAccounts {x} (haccounts : W.accounts) : Parts.Allows W p { p with accounts := x } :=
  { Parts.Allows.refl with accounts := absurd haccounts }

theorem Parts.Allows.setMembers {x} (hmembers : W.members) : Parts.Allows W p { p with members := x } :=
  { Parts.Allows.refl with members := absurd hmembers }

theorem Parts.Allows.setSlots {x} (hslots : W.slots) : Parts.Allows W p { p with slots := x } :=
  { Parts.Allows.refl with slots := absurd hslots }

theorem Parts.Allows.setKeyRegs {x} (hkeyRegs : W.keyRegs) : Parts.Allows W p { p with keyRegs := x } :=
  { Parts.Allows.refl with keyRegs := absurd hkeyRegs }

theorem Parts.Allows.setWords {x} (hwords : W.words) : Parts.Allows W p { p with words := x } :=
  { Parts.Allows.refl with words := absurd hwords }

theorem Parts.Allows.setLog {x} (hlog : W.log) : Parts.Allows W p { p with log := x } :=
  { Parts.Allows.refl with log := absurd hlog }

theorem Parts.Allows.setBadRows {x} (hbadRows : W.badRows) : Parts.Allows W p { p with badRows := x } :=
  { Parts.Allows.refl with badRows := absurd hbadRows }

theorem Parts.Allows.setFw {x} (hfw : W.fw) : Parts.Allows W p { p with fw := x } :=
  { Parts.Allows.refl with fw := absurd hfw }

theorem Parts.Allows.setQueues {x} (hqueues : W.queues) : Parts.Allows W p { p with queues := x } :=
  { Parts.Allows.refl with queues := absurd hqueues }

theorem Parts.Allows.setLedger {x} (hledger : W.ledger) : Parts.Allows W p { p with ledger := x } :=
  { Parts.Allows.refl with ledger := absurd hledger }

theorem Parts.Allows.setSave {x} (hsave : W.save) : Parts.Allows W p { p with save := x } :=
  { Parts.Allows.refl with save := absurd hsave }

theorem Parts.Allows.setCaptures {x} (hcaptures : W.captures) : Parts.Allows W p { p with captures := x } :=
  { Parts.Allows.refl with captures := absurd hcaptures }

theorem Parts.Allows.setTables {x y} (hpds : W.pds) (hregions : W.regions) : Parts.Allows W p { p with pds := x, regions := y } :=
  { Parts.Allows.refl with pds := absurd hpds, regions := absurd hregions }

theorem Parts.Allows.setRegs {x} (hconfig : W.config) : Parts.Allows W p { p with regs := x } :=
  { Parts.Allows.refl with regs := absurd hconfig }

end

/-- From `s` to `t` no part is written but those that `W` names, the memories stay canonical, and the queue and the unstepped count are
left alone. -/
structure Keeps (W : Writes) (s t : State) : Prop where
  pending : t.pending = s.pending
  count : t.time.count = s.time.count
  canonical : s.mem.Canonical → t.mem.Canonical
  mem : ¬ W.mem → t.mem = s.mem
  pds : ¬ W.pds → t.prot.pds = s.prot.pds
  regions : ¬ W.regions → t.prot.regions = s.prot.regions
  accounts : ¬ W.accounts → t.meter.accounts = s.meter.accounts
  members : ¬ W.members → t.domain.members = s.domain.members
  slots : ¬ W.slots → t.crypt.slots = s.crypt.slots
  keyRegs : ¬ W.keyRegs → t.keyRegs = s.keyRegs
  words : ¬ W.words → t.keeper.flash.words = s.keeper.flash.words
  log : ¬ W.log → t.keeper.flash.log = s.keeper.flash.log
  badRows : ¬ W.badRows → t.dram.log = s.dram.log
  fw : ¬ W.fw → t.fw = s.fw
  queues : ¬ W.queues → t.cerga.queues = s.cerga.queues
  ledger : ¬ W.ledger → t.ledger = s.ledger
  save : ¬ W.save → t.save = s.save
  captures : ¬ W.captures → t.captures = s.captures
  config : ¬ W.config → ∀ f ∈ configFields, ∀ n, t.rdN f n = s.rdN f n

/-- A row's outcome keeps what its next state keeps. -/
def KeepsOut (W : Writes) (s : State) (o : Host.Outcome State Fault Refusal) : Prop := ∀ t, o = .next t → Keeps W s t

/-- A change that can be turned down keeps what the changed state keeps. -/
def KeepsOk (W : Writes) (s : State) (r : Except Nat State) : Prop := ∀ t, r = .ok t → Keeps W s t

section
variable {W : Writes} {s₀ s t : State}

theorem Keeps.refl : Keeps W s s :=
  ⟨rfl, rfl, id, fun _ => rfl, fun _ => rfl, fun _ => rfl, fun _ => rfl, fun _ => rfl, fun _ => rfl, fun _ => rfl, fun _ => rfl,
    fun _ => rfl, fun _ => rfl, fun _ => rfl, fun _ => rfl, fun _ => rfl, fun _ => rfl, fun _ => rfl, fun _ _ _ _ => rfl⟩

theorem Keeps.trans (h : Keeps W s₀ s) (k : Keeps W s t) : Keeps W s₀ t where
  pending := k.pending.trans h.pending
  count := k.count.trans h.count
  canonical := k.canonical ∘ h.canonical
  mem w := (k.mem w).trans (h.mem w)
  pds w := (k.pds w).trans (h.pds w)
  regions w := (k.regions w).trans (h.regions w)
  accounts w := (k.accounts w).trans (h.accounts w)
  members w := (k.members w).trans (h.members w)
  slots w := (k.slots w).trans (h.slots w)
  keyRegs w := (k.keyRegs w).trans (h.keyRegs w)
  words w := (k.words w).trans (h.words w)
  log w := (k.log w).trans (h.log w)
  badRows w := (k.badRows w).trans (h.badRows w)
  fw w := (k.fw w).trans (h.fw w)
  queues w := (k.queues w).trans (h.queues w)
  ledger w := (k.ledger w).trans (h.ledger w)
  save w := (k.save w).trans (h.save w)
  captures w := (k.captures w).trans (h.captures w)
  config w f hf n := (k.config w f hf n).trans (h.config w f hf n)

/-- Storing fields of the state changes of its tracked parts none but those of `p`, which `W` allows. -/
theorem Keeps.store {regs captures keyRegs time hub rings msix cmds nextCmd rrNext armedEnd keeper fw start save prot eng near dur ledger
    cerga roce twin shelf meter mem domain crypt out pace ports dram flash integ trace free} {p : Parts} (h : Keeps W s₀ s) (hp :
    Parts.Allows W s.parts p)
    (e : (⟨time.count, mem, prot.pds, prot.regions, meter.accounts, domain.members, crypt.slots, keyRegs, keeper.flash.words,
      keeper.flash.log, dram.log, fw, cerga.queues, ledger, save, captures, regs⟩ : Parts) = p) :
    Keeps W s₀ ⟨regs, captures, keyRegs, time, hub, rings, msix, cmds, nextCmd, rrNext, armedEnd, keeper, fw, start, save, prot, eng,
      near, dur, ledger, cerga, roce, twin, shelf, meter, mem, domain, crypt, out, pace, ports, dram, flash, integ, trace, free,
      s.pending⟩ := by
  subst e
  exact h.trans ⟨rfl, hp.count, hp.canonical, hp.mem, hp.pds, hp.regions, hp.accounts, hp.members, hp.slots, hp.keyRegs, hp.words,
    hp.log, hp.badRows, hp.fw, hp.queues, hp.ledger, hp.save, hp.captures, fun w f _ n => State.rdN_congr (hp.regs w) f n⟩

/-- Storing fields of the state that are not tracked. -/
theorem Keeps.upd {regs captures keyRegs time hub rings msix cmds nextCmd rrNext armedEnd keeper fw start save prot eng near dur ledger
    cerga roce twin shelf meter mem domain crypt out pace ports dram flash integ trace free} (h : Keeps W s₀ s)
    (e : (⟨time.count, mem, prot.pds, prot.regions, meter.accounts, domain.members, crypt.slots, keyRegs, keeper.flash.words,
      keeper.flash.log, dram.log, fw, cerga.queues, ledger, save, captures, regs⟩ : Parts) = s.parts) :
    Keeps W s₀ ⟨regs, captures, keyRegs, time, hub, rings, msix, cmds, nextCmd, rrNext, armedEnd, keeper, fw, start, save, prot, eng,
      near, dur, ledger, cerga, roce, twin, shelf, meter, mem, domain, crypt, out, pace, ports, dram, flash, integ, trace, free,
      s.pending⟩ :=
  h.store .refl e

/-! ### Register fields -/

/-- Storing a field that is no configuration. -/
theorem Keeps.wrN {f : Fld} {n v : Nat} (h : Keeps W s₀ s) (hf : Fld.free f = true) : Keeps W s₀ (s.wrN f n v) := by
  refine h.trans ⟨by simp, by simp, by simp, by simp, by simp, by simp, by simp, by simp, by simp, by simp, by simp, by simp, by simp,
    by simp, by simp, by simp, by simp, by simp, fun _ g hg m => ?_⟩
  exact State.rdN_wrN_ne s v (Fld.key_ne_config hf hg n m)

/-- Storing any field, where the configuration may be written. -/
theorem Keeps.wrNConfig {f : Fld} {n v : Nat} (h : Keeps W s₀ s) (hconfig : W.config) : Keeps W s₀ (s.wrN f n v) := by
  refine h.trans ⟨by simp, by simp, by simp, by simp, by simp, by simp, by simp, by simp, by simp, by simp, by simp, by simp, by simp,
    by simp, by simp, by simp, by simp, by simp, fun w => absurd hconfig w⟩

theorem Keeps.wr {f : Fld} {v : Nat} (h : Keeps W s₀ s) (hf : Fld.free f = true) : Keeps W s₀ (s.wr f v) := h.wrN hf

theorem Keeps.wrConfig {f : Fld} {v : Nat} (h : Keeps W s₀ s) (hconfig : W.config) : Keeps W s₀ (s.wr f v) := h.wrNConfig hconfig

theorem Keeps.flag {f : Fld} {b : Bool} (h : Keeps W s₀ s) (hf : Fld.free f = true) : Keeps W s₀ (s.flag f b) := h.wrN hf

theorem Keeps.bump {f : Fld} {k : Nat} (h : Keeps W s₀ s) (hf : Fld.free f = true) : Keeps W s₀ (s.bump f k) := h.wrN hf

theorem Keeps.bumpSat {f : Fld} {n k : Nat} (h : Keeps W s₀ s) (hf : Fld.free f = true) : Keeps W s₀ (s.bumpSat f n k) := h.wrN hf

/-! ### Control -/

theorem Keeps.ite {c : Prop} [Decidable c] {a b : State} (ha : Keeps W s₀ a) (hb : Keeps W s₀ b) : Keeps W s₀ (if c then a else b) := by
  split
  · exact ha
  · exact hb

/-- What both branches are made from is kept once. -/
theorem Keeps.iteOn {c : Prop} [Decidable c] {x a b : State} (h : Keeps W s₀ x) (ha : Keeps W s₀ x → Keeps W s₀ a)
    (hb : Keeps W s₀ x → Keeps W s₀ b) : Keeps W s₀ (if c then a else b) := .ite (ha h) (hb h)

/-- A change made under a condition. -/
theorem Keeps.when {c : Prop} [Decidable c] {a b : State} (h : Keeps W s₀ b) (ha : Keeps W s₀ b → Keeps W s₀ a) :
    Keeps W s₀ (if c then a else b) := .ite (ha h) h

theorem Keeps.unless {c : Prop} [Decidable c] {a b : State} (h : Keeps W s₀ a) (hb : Keeps W s₀ a → Keeps W s₀ b) :
    Keeps W s₀ (if c then a else b) := .ite h (hb h)

theorem Keeps.iteSndSnd {α β : Type} {c : Prop} [Decidable c] {a b : α × β × State} (ha : Keeps W s₀ a.2.2) (hb : Keeps W s₀ b.2.2) :
    Keeps W s₀ (if c then a else b).2.2 := by
  split
  · exact ha
  · exact hb

theorem Keeps.iteFst {α : Type} {c : Prop} [Decidable c] {a b : State × α} (ha : Keeps W s₀ a.1) (hb : Keeps W s₀ b.1) :
    Keeps W s₀ (if c then a else b).1 := by
  split
  · exact ha
  · exact hb

theorem Keeps.iteSnd {α : Type} {c : Prop} [Decidable c] {a b : α × State} (ha : Keeps W s₀ a.2) (hb : Keeps W s₀ b.2) :
    Keeps W s₀ (if c then a else b).2 := by
  split
  · exact ha
  · exact hb

theorem Keeps.foldl {α : Type} {f : State → α → State} {l : List α} (hf : ∀ s x, Keeps W s₀ s → Keeps W s₀ (f s x))
    (h : Keeps W s₀ s) : Keeps W s₀ (l.foldl f s) := by
  induction l generalizing s with
  | nil => exact h
  | cons x l ih => exact ih (hf s x h)

/-- A fold that carries the state beside something else. -/
theorem Keeps.foldlPair {α β : Type} {f : State × β → α → State × β} {l : List α} {p : State × β}
    (hf : ∀ p x, Keeps W s₀ p.1 → Keeps W s₀ (f p x).1) (h : Keeps W s₀ p.1) : Keeps W s₀ (l.foldl f p).1 := by
  induction l generalizing p with
  | nil => exact h
  | cons x l ih => exact ih (hf p x h)

/-- A fold that carries the state behind something else. -/
theorem Keeps.foldlPairSnd {α β : Type} {f : β × State → α → β × State} {l : List α} {p : β × State}
    (hf : ∀ p x, Keeps W s₀ p.2 → Keeps W s₀ (f p x).2) (h : Keeps W s₀ p.2) : Keeps W s₀ (l.foldl f p).2 := by
  induction l generalizing p with
  | nil => exact h
  | cons x l ih => exact ih (hf p x h)

theorem KeepsOut.next (h : Keeps W s₀ t) : KeepsOut W s₀ (.next t) := by
  rintro u ⟨⟩
  exact h

theorem KeepsOut.ite {c : Prop} [Decidable c] {a b : Host.Outcome State Fault Refusal} (ha : KeepsOut W s₀ a) (hb : KeepsOut W s₀ b) :
    KeepsOut W s₀ (if c then a else b) := by
  split
  · exact ha
  · exact hb

theorem KeepsOk.ok (h : Keeps W s₀ t) : KeepsOk W s₀ (.ok t) := by
  rintro u ⟨⟩
  exact h

theorem KeepsOk.error {e : Nat} : KeepsOk W s₀ (.error e) := by rintro u ⟨⟩

theorem KeepsOk.ite {c : Prop} [Decidable c] {a b : Except Nat State} (ha : KeepsOk W s₀ a) (hb : KeepsOk W s₀ b) :
    KeepsOk W s₀ (if c then a else b) := by
  split
  · exact ha
  · exact hb

end

/-! ### Fields that are chosen by an index -/

theorem fState_free (k : RingKind) : Fld.free (fState k) = true := by cases k <;> rfl

theorem fDbErr_free (k : RingKind) : Fld.free (fDbErr k) = true := by cases k <;> rfl

theorem fEnable_free (k : RingKind) : Fld.free (fEnable k) = true := by cases k <;> rfl

theorem fH9Index_free (k : RingKind) : Fld.free (fH9Index k) = true := by cases k <;> rfl

theorem fHostIndex_free (k : RingKind) : Fld.free (fHostIndex k) = true := by cases k <;> rfl

theorem fFeedState_free (a : Bool) : Fld.free (fFeedState a) = true := by cases a <;> rfl

theorem fSlot_free (k : Nat) : Fld.free (fSlot k) = true := by unfold fSlot; split <;> rfl

/-! ### The functions of the model, each from what it calls -/

theorem Keeps.setWindowPath {W : Writes} {s₀ s : State} {p : Path} {w : WindowPath} (h : Keeps W s₀ s) : Keeps W s₀ (s.setWindowPath p w)
    := by
  unfold State.setWindowPath
  split
  · exact .upd h rfl
  · exact .upd h rfl

theorem Keeps.windowError {W : Writes} {s₀ s : State} {p : Path} {code : Nat} (h : Keeps W s₀ s) : Keeps W s₀ (s.windowError p code)
    :=
  .setWindowPath h

theorem Keeps.setSector {W : Writes} {s₀ s : State} {n : Nat} {x : Sector} (h : Keeps W s₀ s) : Keeps W s₀ (s.setSector n x) :=
  .upd h rfl

theorem Keeps.flagStarted {W : Writes} {s₀ s : State} {n : Nat} (h : Keeps W s₀ s) : Keeps W s₀ (s.flagStarted n) :=
  .setSector h

theorem Keeps.beginOp {W : Writes} {s₀ s : State} {op : KOp} (h : Keeps W s₀ s) : Keeps W s₀ (s.beginOp op) :=
  .ite (.flagStarted h) h

theorem Keeps.submitOp {W : Writes} {s₀ s : State} {op : KOp} (h : Keeps W s₀ s) : Keeps W s₀ (s.submitOp op) :=
  .ite (.windowError h) (.ite (.windowError h) (.when (.upd (.setWindowPath h) rfl) (fun h => .beginOp h)))

theorem Keeps.windowWrite {W : Writes} {s₀ s : State} {p : Path} {off : Nat} {v : Nat} (h : Keeps W s₀ s) : Keeps W s₀
    (s.windowWrite p off v) := by
  unfold State.windowWrite
  dsimp only
  refine .ite (.setWindowPath (.ite (.windowError h) h)) ?_
  split
  · exact .setWindowPath (.ite (.windowError h) h)
  · exact .windowError (.ite (.windowError h) h)
  · exact .submitOp (.ite (.windowError h) h)
  · exact .submitOp (.ite (.windowError h) h)
  · exact .submitOp (.ite (.windowError h) h)

theorem Keeps.storeField {W : Writes} {s₀ s : State} {f : Fld} {n k v : Nat} (h : Keeps W s₀ s) (hconfig : W.config) :
    Keeps W s₀ (s.storeField f n k v) := by
  unfold State.storeField
  dsimp only
  split
  · exact .ite (.wrNConfig h hconfig) (.wrNConfig h hconfig)
  · exact .wrNConfig h hconfig
  · exact h

theorem Keeps.storeWord {W : Writes} {s₀ s : State} {off : Nat} {v : Nat} (h : Keeps W s₀ s) (hconfig : W.config) : Keeps W s₀
    (s.storeWord off v) := by
  unfold State.storeWord
  refine .foldl (fun _ _ h => ?_) h
  split
  · exact .ite h (.storeField h hconfig)
  · exact h

theorem Keeps.countErase {W : Writes} {s₀ s : State} {n : Nat} (h : Keeps W s₀ s) : Keeps W s₀ (s.countErase n) :=
  .wr (.setSector h) rfl

theorem Keeps.writeCopy {W : Writes} {s₀ s : State} {first : Nat} (h : Keeps W s₀ s) : Keeps W s₀ (s.writeCopy first) :=
  .countErase (.flagStarted h)

theorem Keeps.commitKeeper {W : Writes} {s₀ s : State} (h : Keeps W s₀ s) : Keeps W s₀ (s.commitKeeper) :=
  .upd h rfl

theorem Keeps.driveFeeds {W : Writes} {s₀ s : State} (h : Keeps W s₀ s) : Keeps W s₀ (s.driveFeeds) :=
  .upd (.flag (.flag h rfl) rfl) rfl

theorem Keeps.showRecord {W : Writes} {s₀ s : State} {r : LogRecord} (h : Keeps W s₀ s) : Keeps W s₀ (s.showRecord r) :=
  .foldl (fun _ _ h => .wrN h rfl) h

theorem Keeps.selectRecord {W : Writes} {s₀ s : State} {q : Nat} (h : Keeps W s₀ s) : Keeps W s₀ (s.selectRecord q) := by
  unfold State.selectRecord
  dsimp only
  split
  · exact .wr (.showRecord (.wr h rfl)) rfl
  · exact .wr (.wr h rfl) rfl

theorem Keeps.writeKeeperWin {W : Writes} {s₀ s : State} {p : Path} {off : Nat} {v : Nat} (h : Keeps W s₀ s) (hconfig : W.config) :
    Keeps W s₀ (s.writeKeeperWin p off v) :=
  .ite (.windowWrite h) (.ite (.when (.storeWord h hconfig) (fun h => .writeCopy (.commitKeeper h))) (.ite (.driveFeeds (.storeWord h
    hconfig)) (.ite (.setWindowPath h) (.ite (.selectRecord h) (.storeWord h hconfig)))))

theorem Keeps.arm {W : Writes} {s₀ s : State} (h : Keeps W s₀ s) : Keeps W s₀ (s.arm) :=
  .ite h (.upd (.wr h rfl) rfl)

theorem Keeps.mergeChange {W : Writes} {s₀ s : State} {x1 : Option Change} (h : Keeps W s₀ s) (hsave : W.save) : Keeps W s₀
    (s.mergeChange x1) := by
  unfold State.mergeChange
  split
  · exact h
  · split
    · exact .ite (.store h (.setSave hsave) rfl) (.ite (.upd h rfl) (.store h (.setSave hsave) rfl))
    · exact .store h (.setSave hsave) rfl

theorem Keeps.queueLog {W : Writes} {s₀ s : State} {r : LogRecord} (h : Keeps W s₀ s) : Keeps W s₀ (s.queueLog r) :=
  .ite (.upd (.bumpSat h rfl) rfl) (.upd h rfl)

theorem Keeps.keeperLog {W : Writes} {s₀ s : State} {source : Nat} {sev : Nat} {detail : Nat} {core : Bool} (h : Keeps W s₀ s) :
    Keeps W s₀ (s.keeperLog source sev detail core) := by
  unfold State.keeperLog
  split
  · exact .ite (.upd h rfl) (.ite (.queueLog h) (.upd (.queueLog h) rfl))
  · exact .ite (.queueLog h) (.upd (.queueLog h) rfl)

theorem Keeps.setRingUnit {W : Writes} {s₀ s : State} {k : RingKind} {n : Nat} {u : RingUnit} (h : Keeps W s₀ s) : Keeps W s₀
    (s.setRingUnit k n u) :=
  .upd h rfl

theorem Keeps.send {W : Writes} {s₀ s : State} {o : Out} (h : Keeps W s₀ s) : Keeps W s₀ (s.send o) :=
  .upd h rfl

theorem Keeps.signalVector {W : Writes} {s₀ s : State} {v : Nat} {ring : Nat} (h : Keeps W s₀ s) : Keeps W s₀ (s.signalVector v ring) :=
  .ite (.upd h rfl) (.ite h (.send (.upd h rfl)))

theorem Keeps.signalRing {W : Writes} {s₀ s : State} {k : RingKind} {n : Nat} (h : Keeps W s₀ s) : Keeps W s₀ (s.signalRing k n) :=
  .signalVector (.setRingUnit h)

theorem Keeps.ringWrite {W : Writes} {s₀ s : State} {k : RingKind} {n : Nat} {quiet : Bool} {mk : Bool → RingEntry} (h : Keeps W s₀ s) :
    Keeps W s₀ (s.ringWrite k n quiet mk) :=
  .ite (.setRingUnit (.wrN (.send h) (fH9Index_free _))) (.when (.setRingUnit (.wrN (.send h) (fH9Index_free _))) (fun h => .signalRing
    h))

theorem Keeps.writeEvent {W : Writes} {s₀ s : State} {r : EventRecord} (h : Keeps W s₀ s) : Keeps W s₀ (s.writeEvent r) := by
  unfold State.writeEvent
  exact .ringWrite (.setRingUnit h)

theorem Keeps.holdEvent {W : Writes} {s₀ s : State} {r : EventRecord} (h : Keeps W s₀ s) : Keeps W s₀ (s.holdEvent r) :=
  .ite (.upd h rfl) (.ite (.upd (.bump h rfl) rfl) (.upd h rfl))

theorem Keeps.closeEvent {W : Writes} {s₀ s : State} {r : EventRecord} (h : Keeps W s₀ s) : Keeps W s₀ (s.closeEvent r) :=
  .ite (.ite (.keeperLog (.upd h rfl)) (.upd h rfl)) (.iteOn (.ite (.keeperLog (.upd h rfl)) (.upd h rfl)) (fun h => .writeEvent h) (fun
    h => .holdEvent h))

theorem Keeps.setTrack {W : Writes} {s₀ s : State} {src : Nat} {t : SourceTrack} (h : Keeps W s₀ s) : Keeps W s₀ (s.setTrack src t)
    :=
  .upd h rfl

theorem Keeps.closePending {W : Writes} {s₀ s : State} {src : Nat} (h : Keeps W s₀ s) : Keeps W s₀ (s.closePending src) :=
  .ite h (.closeEvent (.setTrack h))

theorem Keeps.closeFold {W : Writes} {s₀ s : State} {src : Nat} (h : Keeps W s₀ s) : Keeps W s₀ (s.closeFold src) :=
  .ite h (.closeEvent (.setTrack h))

theorem Keeps.closeSecond {W : Writes} {s₀ s : State} {src : Nat} (h : Keeps W s₀ s) : Keeps W s₀ (s.closeSecond src) :=
  .ite h (.closePending (.closeFold h))

theorem Keeps.hubOccur {W : Writes} {s₀ s : State} {src : Nat} {detail : Nat} {alt : Bool} {keeper : Bool} {cmd : Bool} (h : Keeps W s₀
    s) : Keeps W s₀ (s.hubOccur src detail alt keeper cmd) :=
  .ite (.when (.setTrack (.setTrack (.bump (.unless (.wr (.wr (.wr (.wr (.bump h rfl) rfl) rfl) rfl) rfl) (fun h => .setTrack
    (.closeSecond h))) rfl))) (fun h => .closePending h)) (.iteOn (.setTrack (.unless (.unless (.wr (.wr (.wr (.wr (.bump h rfl) rfl)
    rfl) rfl) rfl) (fun h => .setTrack (.closeSecond h))) (fun h => .closePending h))) (fun h => .setTrack (.bump h rfl)) (fun h =>
    .closeEvent (.setTrack h)))

theorem Keeps.occur {W : Writes} {s₀ s : State} {src : Nat} {detail : Nat} {alt : Bool} {keeper : Bool} {cmd : Bool} (h : Keeps W s₀ s) :
    Keeps W s₀ (s.occur src detail alt keeper cmd) :=
  .ite (.hubOccur h) (.ite (.keeperLog h) h)

theorem Keeps.raise {W : Writes} {s₀ s : State} {src : Nat} {vs : List (Nat × Nat)} (h : Keeps W s₀ s) : Keeps W s₀ (s.raise src vs)
    :=
  .ite (.occur h) h

theorem Keeps.abortHoldupTest {W : Writes} {s₀ s : State} {result : Nat} (h : Keeps W s₀ s) : Keeps W s₀ (s.abortHoldupTest result)
    :=
  .ite (.raise (.upd (.wr (.wr h rfl) rfl) rfl)) h

theorem Keeps.raiseKeeper {W : Writes} {s₀ s : State} {src : Nat} {vs : List (Nat × Nat)} (h : Keeps W s₀ s) : Keeps W s₀
    (s.raiseKeeper src vs) :=
  .ite (.occur (.keeperLog h)) (.keeperLog h)

theorem Keeps.setPower {W : Writes} {s₀ s : State} {p : Nat} (h : Keeps W s₀ s) : Keeps W s₀ (s.setPower p) :=
  .ite h (.raiseKeeper (.wr h rfl))

theorem Keeps.flushFrame {W : Writes} {s₀ s : State} (h : Keeps W s₀ s) : Keeps W s₀ (s.flushFrame) :=
  .ite h (.upd (.send h) rfl)

theorem Keeps.packItem {W : Writes} {s₀ s : State} {i : BrazeItem} (h : Keeps W s₀ s) : Keeps W s₀ (s.packItem i) :=
  .upd (.ite (.flushFrame h) h) rfl

theorem Keeps.sendItem {W : Writes} {s₀ s : State} {i : BrazeItem} (h : Keeps W s₀ s) : Keeps W s₀ (s.sendItem i) :=
  .ite (.flushFrame (.foldl (fun _ _ h => .packItem h) h)) h

theorem Keeps.sendStatus {W : Writes} {s₀ s : State} (h : Keeps W s₀ s) : Keeps W s₀ (s.sendStatus) :=
  .ite (.sendItem h) h

theorem Keeps.sendDomainTo {W : Writes} {s₀ s : State} {ip : Nat} {epoch : Nat} {type : Nat} {dst : Nat} {msgId : Nat} {fields : List
    Nat} (h : Keeps W s₀ s) : Keeps W s₀ (s.sendDomainTo ip epoch type dst msgId fields) :=
  .upd (.send (.bump h rfl)) rfl

theorem Keeps.sendDomain {W : Writes} {s₀ s : State} {type : Nat} {dst : Nat} {msgId : Nat} {fields : List Nat} (h : Keeps W s₀ s) :
    Keeps W s₀ (s.sendDomain type dst msgId fields) :=
  .sendDomainTo h

theorem Keeps.showSync {W : Writes} {s₀ s : State} {c : Nat} (h : Keeps W s₀ s) : Keeps W s₀ (s.showSync c) :=
  .ite h (.ite (.foldl (fun _ _ h => .sendDomain h) (.sendStatus (.wr h rfl))) (.sendStatus (.wr h rfl)))

theorem Keeps.saveTwin {W : Writes} {s₀ s : State} (h : Keeps W s₀ s) : Keeps W s₀ (s.saveTwin) :=
  .sendStatus (.ite (.showSync (.upd h rfl)) (.upd h rfl))

theorem Keeps.startSave {W : Writes} {s₀ s : State} {trigger : Nat} {action : SaveAction} {tag : Option Nat} {change : Option Change}
    {activate : Option Nat} (h : Keeps W s₀ s) (hsave : W.save) : Keeps W s₀ (s.startSave trigger action tag change activate) :=
  .ite h (.ite (.mergeChange (.store h (.setSave hsave) rfl) hsave) (.saveTwin (.occur (.keeperLog (.setPower (.wr (.wr (.store
    (.abortHoldupTest h) (.setSave hsave) rfl) rfl) rfl))))))

theorem Keeps.disarm {W : Writes} {s₀ s : State} (h : Keeps W s₀ s) : Keeps W s₀ (s.disarm) :=
  .upd (.wr h rfl) rfl

theorem Keeps.fire {W : Writes} {s₀ s : State} (h : Keeps W s₀ s) (hsave : W.save) : Keeps W s₀ (s.fire) :=
  .ite h (.startSave (.disarm h) hsave)

theorem Keeps.resetKey {W : Writes} {s₀ s : State} {v : Nat} (h : Keeps W s₀ s) (hsave : W.save) : Keeps W s₀ (s.resetKey v) :=
  .ite (.arm h) (.ite (.fire h hsave) (.disarm h))

theorem Keeps.announceNow {W : Writes} {s₀ s : State} (h : Keeps W s₀ s) : Keeps W s₀ (s.announceNow) :=
  .foldl (fun _ _ h => .send (.send h)) h

theorem Keeps.startAnnounce {W : Writes} {s₀ s : State} (h : Keeps W s₀ s) : Keeps W s₀ (s.startAnnounce) := by
  have ha := Keeps.announceNow h
  unfold State.startAnnounce
  generalize s.announceNow = t at ha ⊢
  exact .upd ha rfl

theorem Keeps.writeService {W : Writes} {s₀ s : State} {off : Nat} {v : Nat} (h : Keeps W s₀ s) (hconfig : W.config) : Keeps W s₀
    (s.writeService off v) := by
  have hs := Keeps.storeWord (off := off) (v := v) h hconfig
  unfold State.writeService
  exact .ite (.startAnnounce hs) hs

theorem Keeps.clamped {W : Writes} {s₀ s : State} {k : Nat} (h : Keeps W s₀ s) : Keeps W s₀ (s.clamped k) :=
  .ite h (.bump h rfl)

theorem Keeps.drainHub {W : Writes} {s₀ s : State} (h : Keeps W s₀ s) : Keeps W s₀ (s.drainHub) :=
  .foldl (fun _ _ h => .ite (.upd h rfl) (.ite (.writeEvent (.upd h rfl)) (.upd (.upd h rfl) rfl))) h

theorem Keeps.writeExport {W : Writes} {s₀ s : State} {n : Nat} {r : ExportRecord} (h : Keeps W s₀ s) : Keeps W s₀ (s.writeExport n r) :=
    by
  unfold State.writeExport
  exact .ringWrite (.bump (.upd h rfl) rfl)

theorem Keeps.drainExports {W : Writes} {s₀ s : State} {n : Nat} (h : Keeps W s₀ s) : Keeps W s₀ (s.drainExports n) :=
  .wr (.foldl (fun _ _ h => .ite (.upd (.writeExport h) rfl) h) h) rfl

theorem Keeps.ringError {W : Writes} {s₀ s : State} {n : Nat} (h : Keeps W s₀ s) : Keeps W s₀ (s.ringError n) :=
  .raise h

theorem Keeps.enableRing {W : Writes} {s₀ s : State} {k : RingKind} {n : Nat} (h : Keeps W s₀ s) : Keeps W s₀ (s.enableRing k n) :=
  .ite (.ite (.drainHub (.setRingUnit (.wrN (.wrN (.wrN (.wrN h (fEnable_free _)) (fState_free _)) (fH9Index_free _)) (fHostIndex_free
    _)))) (.when (.setRingUnit (.wrN (.wrN (.wrN (.wrN h (fEnable_free _)) (fState_free _)) (fH9Index_free _)) (fHostIndex_free _))) (fun
    h => .drainExports h))) (.ringError (.wrN (.wrN h (fEnable_free _)) (fState_free _)))

theorem Keeps.startRing {W : Writes} {s₀ s : State} {k : RingKind} {n : Nat} (h : Keeps W s₀ s) : Keeps W s₀ (s.startRing k n) :=
  .ite h (.ite h (.ite (.enableRing h) (.ite (.setRingUnit (.wrN h (fEnable_free _))) h)))

theorem Keeps.settleDrain {W : Writes} {s₀ s : State} {n : Nat} (h : Keeps W s₀ s) : Keeps W s₀ (s.settleDrain n) :=
  .ite (.when (.setRingUnit (.wrN h (fState_free _))) (fun h => .enableRing h)) h

theorem Keeps.stopRing {W : Writes} {s₀ s : State} {k : RingKind} {n : Nat} (h : Keeps W s₀ s) : Keeps W s₀ (s.stopRing k n) := by
  unfold State.stopRing
  refine .ite h ?_
  split
  · exact .settleDrain (.wrN (.setRingUnit (.wrN h (fEnable_free _))) (fState_free _))
  · exact .ite (.ringError h) (.setRingUnit (.wrN (.wrN h (fEnable_free _)) (fState_free _)))
  · exact .setRingUnit (.wrN (.wrN h (fEnable_free _)) (fState_free _))

theorem Keeps.writeRing {W : Writes} {s₀ s : State} {off v : Nat} (h : Keeps W s₀ s) (hconfig : W.config) :
    Keeps W s₀ (s.writeRing off v) := by
  generalize hf : State.writeRing = f
  delta State.writeRing at hf
  subst hf
  dsimp -zeta only
  generalize ringGroup off = p
  cases p with
  | none => exact h
  | some p =>
    exact .ite (.when (.ite (.clamped h) h) (fun h => .storeWord h hconfig)) (.ite (.ite (.when (.ite (.clamped h) h) (fun h => .wrN
      (.storeWord h hconfig) (fEnable_free _))) (.iteOn (.when (.ite (.clamped h) h) (fun h => .wrN (.storeWord h hconfig) (fEnable_free
      _))) (fun h => .startRing h) (fun h => .stopRing h))) (.storeWord (.ite (.clamped h) h) hconfig))

theorem Keeps.doorbell {W : Writes} {s₀ s : State} {k : RingKind} {n : Nat} {v : Nat} (h : Keeps W s₀ s) : Keeps W s₀ (s.doorbell k n v)
    :=
  .ite h (.ite (.ringError (.wrN h (fDbErr_free _))) (.wrN h (fHostIndex_free _)))

theorem Keeps.headDoorbell {W : Writes} {s₀ s : State} {k : RingKind} {n : Nat} {v : Nat} (h : Keeps W s₀ s) : Keeps W s₀
    (s.headDoorbell k n v) :=
  .ite (.setRingUnit (.doorbell h)) (.doorbell h)

theorem Keeps.writeDoorbell {W : Writes} {s₀ s : State} {off : Nat} {v : Nat} (h : Keeps W s₀ s) : Keeps W s₀ (s.writeDoorbell off v) :=
  .ite (.doorbell h) (.ite (.headDoorbell h) (.ite (.drainHub (.headDoorbell h)) (.ite (.drainExports (.headDoorbell h)) h)))

theorem Keeps.writeMsix {W : Writes} {s₀ s : State} {o : Nat} {v : Nat} (h : Keeps W s₀ s) : Keeps W s₀ (s.writeMsix o v) :=
  .ite (.ite (.send (.upd (.upd h rfl) rfl)) (.upd h rfl)) h

theorem Keeps.setPort {W : Writes} {s₀ s : State} {n : Nat} {p : Port} (h : Keeps W s₀ s) : Keeps W s₀ (s.setPort n p) :=
  .upd h rfl

theorem Keeps.awaitPace {W : Writes} {s₀ s : State} {n : Nat} (h : Keeps W s₀ s) : Keeps W s₀ (s.awaitPace n) :=
  .ite (.setPort h) (.setPort h)

theorem Keeps.linkView {W : Writes} {s₀ s : State} {n : Nat} (h : Keeps W s₀ s) : Keeps W s₀ (s.linkView n) :=
  .wrN h rfl

theorem Keeps.setLink {W : Writes} {s₀ s : State} {n : Nat} {sub : Nat} {link : Nat} (h : Keeps W s₀ s) : Keeps W s₀ (s.setLink n sub
    link) :=
  .ite h (.raise (.linkView (.setPort h)))

theorem Keeps.lowerWaits {W : Writes} {s₀ s : State} (h : Keeps W s₀ s) : Keeps W s₀ (s.lowerWaits) :=
  .upd h rfl

theorem Keeps.portChanged {W : Writes} {s₀ s : State} {n : Nat} {en : Nat} {rate : Nat} (h : Keeps W s₀ s) : Keeps W s₀
    (s.portChanged n en rate) :=
  .ite (.foldl (fun _ _ h => .setLink h) (.awaitPace (.setPort h))) (.ite (.lowerWaits (.setPort (.wrN (.wrN (.wrN (.foldl (fun _ _ h =>
    .setLink h) h) rfl) rfl) rfl))) (.ite (.awaitPace h) (.lowerWaits h)))

theorem Keeps.writePortCtrl {W : Writes} {s₀ s : State} {n : Nat} {v : Nat} (h : Keeps W s₀ s) : Keeps W s₀ (s.writePortCtrl n v) :=
  .unless (.wrN (.wrN (.wrN (.wrN (.wrN h rfl) rfl) rfl) rfl) rfl) (fun h => .portChanged h)

theorem Keeps.disableNear {W : Writes} {s₀ s : State} (h : Keeps W s₀ s) : Keeps W s₀ (s.disableNear) :=
  .ite (.upd (.wr (.wr h rfl) rfl) rfl) (.upd h rfl)

theorem Keeps.nearViews {W : Writes} {s₀ s : State} (h : Keeps W s₀ s) : Keeps W s₀ (s.nearViews) :=
  .wr (.wr (.wr (.wr h rfl) rfl) rfl) rfl

theorem Keeps.raiseTag {W : Writes} {s₀ s : State} {src : Nat} {vs : List (Nat × Nat)} {tag : Nat} (h : Keeps W s₀ s) : Keeps W s₀
    (s.raiseTag src vs tag) :=
  .ite (.occur h) h

theorem Keeps.startGrace {W : Writes} {s₀ s : State} {cmd : Nat} (h : Keeps W s₀ s) : Keeps W s₀ (s.startGrace cmd) := by
  unfold State.startGrace
  split
  · exact h
  · exact .upd h rfl

theorem Keeps.updCmd {W : Writes} {s₀ s : State} {id : Nat} {f : Cmd → Cmd} (h : Keeps W s₀ s) : Keeps W s₀ (s.updCmd id f) :=
  .upd h rfl

theorem Keeps.endCmd {W : Writes} {s₀ s : State} {id : Nat} {status : Nat} {detail : Nat} {result : Nat} (h : Keeps W s₀ s) : Keeps
    W s₀ (s.endCmd id status detail result) := by
  unfold State.endCmd
  split
  · exact h
  · exact .ite (.raiseTag (.upd (.startGrace h) rfl)) (.updCmd h)

theorem Keeps.refuse {W : Writes} {s₀ s : State} {id : Nat} {reason : Nat} (h : Keeps W s₀ s) : Keeps W s₀ (s.refuse id reason) :=
  .endCmd h

theorem Keeps.loadEnds {W : Writes} {s₀ s : State} {w : Option Nat × Nat × Bool} (h : Keeps W s₀ s) : Keeps W s₀ (s.loadEnds w) :=
  .flag (.upd h rfl) rfl

theorem Keeps.setVictims {W : Writes} {s₀ s : State} {b : Nat} {v : List Line} (h : Keeps W s₀ s) : Keeps W s₀ (s.setVictims b v) :=
  .upd h rfl

theorem Keeps.touch {W : Writes} {s₀ s : State} {w : Nat} (h : Keeps W s₀ s) : Keeps W s₀ (s.touch w) :=
  .upd h rfl

theorem Keeps.setWay {W : Writes} {s₀ s : State} {w : Nat} {x : Line} (h : Keeps W s₀ s) : Keeps W s₀ (s.setWay w x) :=
  .upd h rfl

theorem Keeps.writeLine {W : Writes} {s₀ s : State} {x : Line} (h : Keeps W s₀ s) (hmem : W.mem) :
    Keeps W s₀ (s.writeLine x) :=
  .store h (.setMem hmem .dramWriteN) rfl

theorem Keeps.toVictim {W : Writes} {s₀ s : State} {x : Line} (h : Keeps W s₀ s) (hmem : W.mem) : Keeps W s₀ (s.toVictim x) := by
  unfold State.toVictim
  refine .ite (.setVictims h) ?_
  split
  · exact .setVictims h
  · exact .setVictims (.ite (.bump (.writeLine h hmem) rfl) h)

theorem Keeps.vacate {W : Writes} {s₀ s : State} {w : Nat} (h : Keeps W s₀ s) (hmem : W.mem) : Keeps W s₀ (s.vacate w) := by
  unfold State.vacate
  split
  · exact .toVictim (.upd h rfl) hmem
  · exact h

theorem Keeps.recall {W : Writes} {s₀ s : State} {x : Line} (h : Keeps W s₀ s) (hmem : W.mem) : Keeps W s₀ (s.recall x) := by
  unfold State.recall
  dsimp only
  split
  · exact .touch (.setWay (.vacate (.bump (.setVictims h) rfl) hmem))
  · exact .toVictim (.bump (.setVictims h) rfl) hmem

theorem Keeps.moveWay {W : Writes} {s₀ s : State} {w : Nat} {e : Nat} (h : Keeps W s₀ s) : Keeps W s₀ (s.moveWay w e) := by
  unfold State.moveWay
  split
  · exact .upd (.setWay (.upd h rfl)) rfl
  · exact h

theorem Keeps.lockLine {W : Writes} {s₀ s : State} {l : Nat} (h : Keeps W s₀ s) (hmem : W.mem) : Keeps W s₀ (s.lockLine l) := by
  unfold State.lockLine
  dsimp only
  split
  · split
    · refine .touch ?_
      refine .moveWay ?_
      refine .ite ?_ h
      split
      · exact .recall h hmem
      · exact h
    · refine .upd ?_ rfl
      refine .ite ?_ h
      split
      · exact .recall h hmem
      · exact h
  · split
    · refine .touch ?_
      refine .setWay ?_
      refine .ite ?_ h
      split
      · exact .recall h hmem
      · exact h
    · split
      · refine .touch ?_
        refine .setWay ?_
        refine .vacate ?_ hmem
        refine .ite ?_ h
        split
        · exact .recall h hmem
        · exact h
      · refine .ite ?_ h
        split
        · exact .recall h hmem
        · exact h

theorem Keeps.sendCommand {W : Writes} {s₀ s : State} {cmd : Option Nat} {m : MirrorCommand} (h : Keeps W s₀ s) : Keeps W s₀
    (s.sendCommand cmd m) :=
  .sendItem (.upd h rfl)

theorem Keeps.mirrorCommand {W : Writes} {s₀ s : State} {c : Cmd} {params : List Nat} (h : Keeps W s₀ s) : Keeps W s₀
    (s.mirrorCommand c params) :=
  .ite h (.ite (.updCmd (.sendCommand h)) (.upd h rfl))

theorem Keeps.finishLock {W : Writes} {s₀ s : State} {w : Option Nat × Nat × Bool} {e : LockRange} (h : Keeps W s₀ s) (hmem : W.mem)
    : Keeps W s₀ (s.finishLock w e) := by
  unfold State.finishLock
  dsimp only
  split
  · exact .nearViews (.foldl (fun _ _ h => .lockLine h hmem) (.loadEnds h))
  · exact .ite (.nearViews (.refuse (.upd (.loadEnds h) rfl))) (.nearViews (.endCmd (.foldl (fun _ _ h => .lockLine h hmem)
      (.mirrorCommand (.loadEnds h)))))

theorem Keeps.updTile {W : Writes} {s₀ s : State} {o : Nat} {k : Nat} {f : Tile → Tile} (h : Keeps W s₀ s) : Keeps W s₀ (s.updTile o k f)
    :=
  .upd h rfl

theorem Keeps.startEvict {W : Writes} {s₀ s : State} {o : Nat} {k : Nat} (h : Keeps W s₀ s) : Keeps W s₀ (s.startEvict o k) :=
  .updTile h

theorem Keeps.startTile {W : Writes} {s₀ s : State} {o : Nat} {k : Nat} {want : Nat} {demand : Bool} (h : Keeps W s₀ s) : Keeps W s₀
    (s.startTile o k want demand) := by
  unfold State.startTile
  split
  · exact h
  · refine .ite h ?_
    refine .ite (.when (.bump (.upd h rfl) rfl) (fun h => .bump h rfl)) ?_
    refine .ite h ?_
    split
    · exact .startEvict h
    · exact h

theorem Keeps.settleLock {W : Writes} {s₀ s : State} {w : Option Nat × Nat × Bool} (h : Keeps W s₀ s) (hmem : W.mem) : Keeps W s₀
    (s.settleLock w) := by
  unfold State.settleLock
  split
  · split
    · exact .refuse (.loadEnds h)
    · exact .loadEnds h
  · exact .ite (.finishLock h hmem) (.foldl (fun _ _ h => .startTile h) h)

theorem Keeps.settleLocks {W : Writes} {s₀ s : State} (h : Keeps W s₀ s) (hmem : W.mem) : Keeps W s₀ (s.settleLocks) :=
  .foldl (fun _ _ h => .settleLock h hmem) h

theorem Keeps.reloadLocks {W : Writes} {s₀ s : State} (h : Keeps W s₀ s) (hmem : W.mem) : Keeps W s₀ (s.reloadLocks) :=
  .ite (.nearViews (.settleLocks (.upd h rfl) hmem)) h

theorem Keeps.enableNear {W : Writes} {s₀ s : State} (h : Keeps W s₀ s) (hmem : W.mem) : Keeps W s₀ (s.enableNear) :=
  .ite (.reloadLocks (.wr h rfl) hmem) (.ite (.upd h rfl) h)

theorem Keeps.writeNearCtrl {W : Writes} {s₀ s : State} {v : Nat} (h : Keeps W s₀ s) (hmem : W.mem) : Keeps W s₀ (s.writeNearCtrl v)
    :=
  .ite (.wr h rfl) (.ite (.disableNear (.wr h rfl)) (.enableNear (.wr h rfl) hmem))

theorem Keeps.countThrottle {W : Writes} {s₀ s : State} (h : Keeps W s₀ s) : Keeps W s₀ (s.countThrottle) := by
  unfold State.countThrottle
  split
  · exact .upd (.bump h rfl) rfl
  · exact h

theorem Keeps.setStage {W : Writes} {s₀ s : State} {k : Nat} (h : Keeps W s₀ s) : Keeps W s₀ (s.setStage k) :=
  .ite h (.sendStatus (.raise (.upd (.countThrottle (.wr h rfl)) rfl)))

theorem Keeps.overViews {W : Writes} {s₀ s : State} (h : Keeps W s₀ s) : Keeps W s₀ (s.overViews) :=
  .ite (.ite h (.wr h rfl)) (.ite (.raise (.wr h rfl)) h)

theorem Keeps.compareD {W : Writes} {s₀ s : State} (h : Keeps W s₀ s) : Keeps W s₀ (s.compareD) := by
  unfold State.compareD
  exact .when (.overViews (.wr (.wr (.wr (.upd (.ite (.setStage h) h) rfl) rfl) rfl) rfl)) (fun h => .setStage h)

theorem Keeps.shrinkStage {W : Writes} {s₀ s : State} (h : Keeps W s₀ s) : Keeps W s₀ (s.shrinkStage) := by
  unfold State.shrinkStage
  refine .ite ?_ h
  split
  · exact .startEvict h
  · exact h

theorem Keeps.evictStale {W : Writes} {s₀ s : State} (h : Keeps W s₀ s) : Keeps W s₀ (s.evictStale) :=
  .upd h rfl

theorem Keeps.tierViews {W : Writes} {s₀ s : State} (h : Keeps W s₀ s) : Keeps W s₀ (s.tierViews) :=
  .wr (.wr (.wr (.wr (.wr (.wr (.wr (.wr (.shrinkStage (.evictStale h)) rfl) rfl) rfl) rfl) rfl) rfl) rfl) rfl

theorem Keeps.settleStage {W : Writes} {s₀ s : State} (h : Keeps W s₀ s) : Keeps W s₀ (s.settleStage) :=
  .tierViews (.flag (.ite (.upd h rfl) (.upd h rfl)) rfl)

theorem Keeps.writeStage {W : Writes} {s₀ s : State} {v : Nat} (h : Keeps W s₀ s) : Keeps W s₀ (s.writeStage v) :=
  .ite (.settleStage (.wr h rfl)) (.wr h rfl)

theorem Keeps.writeDomainPair {W : Writes} {s₀ s : State} {v : Nat} (h : Keeps W s₀ s) (hconfig : W.config) : Keeps W s₀
    (s.writeDomainPair v) :=
  .ite h (.storeWord h hconfig)

theorem Keeps.writeKeyWord {W : Writes} {s₀ s : State} {n : Nat} {v : Nat} (h : Keeps W s₀ s) (hkeyRegs : W.keyRegs) : Keeps W s₀
    (s.writeKeyWord n v) :=
  .wr (.store h (.setKeyRegs hkeyRegs) rfl) rfl

theorem Keeps.keepDummies {W : Writes} {s₀ s : State} (h : Keeps W s₀ s) : Keeps W s₀ (s.keepDummies) :=
  .ite (.wr h rfl) h

theorem Keeps.writeCore {W : Writes} {s₀ s : State} {off : Nat} {v : Nat} (h : Keeps W s₀ s) (hmem : W.mem) (hkeyRegs : W.keyRegs)
    (hsave : W.save) (hconfig : W.config) : Keeps W s₀ (s.writeCore off v) :=
  .ite (.resetKey h hsave) (.ite (.writeService h hconfig) (.ite (.writeRing h hconfig) (.ite (.writeDoorbell h) (.ite (.writeMsix h)
    (.ite (.writePortCtrl h) (.ite (.writeNearCtrl h hmem) (.ite (.when (.storeWord h hconfig) (fun h => .compareD h)) (.ite (.writeStage
    h) (.ite (.writeDomainPair h hconfig) (.ite (.writeKeyWord h hkeyRegs) (.ite (.keepDummies (.storeWord h hconfig)) (.when (.storeWord
    h hconfig) (fun h => .drainHub h)))))))))))))

theorem Keeps.writePath {W : Writes} {s₀ s : State} {p : Path} {off : Nat} {v : Nat} (h : Keeps W s₀ s) (hmem : W.mem) (hkeyRegs :
    W.keyRegs) (hsave : W.save) (hconfig : W.config) : Keeps W s₀ (s.writePath p off v) :=
  .ite h (.ite (.writeKeeperWin h hconfig) (.writeCore h hmem hkeyRegs hsave hconfig))

theorem KeepsOut.registerWrite {W : Writes} {s₀ s : State} {off : Nat} {v : Nat} {full : Bool} (h : Keeps W s₀ s) (hmem : W.mem)
    (hkeyRegs : W.keyRegs) (hsave : W.save) (hconfig : W.config) : KeepsOut W s₀ (execRegisterWrite off v full s) :=
  .next (.ite (.writePath h hmem hkeyRegs hsave hconfig) (.ite (.wr h rfl) h))

theorem Keeps.windowRead {W : Writes} {s₀ s : State} {p : Path} {off : Nat} (h : Keeps W s₀ s) : Keeps W s₀ (s.windowRead p off).2
    :=
  .ite h (.windowError h)

theorem Keeps.readPath {W : Writes} {s₀ s : State} {p : Path} {off : Nat} (h : Keeps W s₀ s) (hcaptures : W.captures) : Keeps W s₀
    (s.readPath p off).2 := by
  unfold State.readPath
  refine .iteSnd (.windowRead h) ?_
  refine .iteSnd (.store (.ite (.countThrottle h) h) (.setCaptures hcaptures) rfl) ?_
  refine .iteSnd ?_ h
  split
  · exact .store h (.setCaptures hcaptures) rfl
  · exact h

theorem KeepsOut.counterPairCapture {W : Writes} {s₀ s : State} {p : Path} {off : Nat} (h : Keeps W s₀ s) (hcaptures : W.captures) :
    KeepsOut W s₀ (execCounterPairCapture p off s) :=
  .next (.ite (.readPath h hcaptures) h)

theorem KeepsOut.portCtrlWrite {W : Writes} {s₀ s : State} {n : Nat} {v : Nat} (h : Keeps W s₀ s) : KeepsOut W s₀ (execPortCtrlWrite n v
    s) :=
  .next (.ite (.writePortCtrl h) h)

theorem Keeps.failTag {W : Writes} {s₀ s : State} {p : CergaPacket} (h : Keeps W s₀ s) : Keeps W s₀ (s.failTag p) :=
  .when (.upd (.bump h rfl) rfl) (fun h => .raise h)

theorem Keeps.setStream {W : Writes} {s₀ s : State} {i : Nat} {x : Stream} (h : Keeps W s₀ s) : Keeps W s₀ (s.setStream i x) :=
  .upd h rfl

theorem Keeps.updStream {W : Writes} {s₀ s : State} {i : Nat} {f : Stream → Stream} (h : Keeps W s₀ s) : Keeps W s₀ (s.updStream i f) :=
  .setStream h

theorem Keeps.chargeIn {W : Writes} {s₀ s : State} {w : Nat} {account : Nat} {i : Nat} {n : Nat} (h : Keeps W s₀ s) : Keeps W s₀
    (s.chargeIn w account i n) := by
  unfold State.chargeIn
  refine .ite h ?_
  refine .ite (.upd h rfl) ?_
  split
  · exact .ite (.upd h rfl) h
  · exact h

theorem Keeps.chargeIngress {W : Writes} {s₀ s : State} {i : Nat} {window : Nat} {frame : Nat} (h : Keeps W s₀ s) : Keeps W s₀
    (s.chargeIngress i window frame) :=
  .chargeIn h

theorem Keeps.shaperTake {W : Writes} {s₀ s : State} {pd : Nat} {len : Nat} (h : Keeps W s₀ s) : Keeps W s₀ (s.shaperTake pd len) :=
    by
  unfold State.shaperTake
  split
  · exact .upd h rfl
  · exact h

theorem Keeps.meterSync {W : Writes} {s₀ s : State} (h : Keeps W s₀ s) : Keeps W s₀ (s.meterSync) :=
  .flag (.ite h (.raise (.flag h rfl))) rfl

theorem Keeps.holdExport {W : Writes} {s₀ s : State} {n : Nat} {r : ExportRecord} (h : Keeps W s₀ s) : Keeps W s₀ (s.holdExport n r)
    := by
  unfold State.holdExport
  refine .ite (.raise (.wr (.upd h rfl) rfl)) ?_
  split
  · exact .raise (.bump (.upd h rfl) rfl)
  · exact .raise (.wr (.upd h rfl) rfl)

theorem Keeps.exportRecord {W : Writes} {s₀ s : State} {n : Nat} {r : ExportRecord} (h : Keeps W s₀ s) : Keeps W s₀ (s.exportRecord n r)
    :=
  .ite (.writeExport h) (.holdExport h)

theorem Keeps.addContribution {W : Writes} {s₀ s : State} {r : ExportRecord} (h : Keeps W s₀ s) : Keeps W s₀ (s.addContribution r)
    := by
  unfold State.addContribution
  split
  · exact h
  · exact .ite (.exportRecord h) (.ite (.upd h rfl) (.upd h rfl))

theorem Keeps.sendRequest {W : Writes} {s₀ s : State} {type : Nat} {dsts : List Nat} {fields : List Nat} {cmd : Option Nat} (h : Keeps W
    s₀ s) : Keeps W s₀ (s.sendRequest type dsts fields cmd) :=
  .foldl (fun _ _ h => .sendDomain (.upd h rfl)) (.upd h rfl)

theorem Keeps.aggregateCopy {W : Writes} {s₀ s : State} {r : ExportRecord} (h : Keeps W s₀ s) : Keeps W s₀ (s.aggregateCopy r) := by
  unfold State.aggregateCopy
  refine .ite (.addContribution h) ?_
  refine .ite ?_ h
  refine .sendRequest ?_
  split
  · exact .ite (.raise (.upd h rfl)) h
  · exact h

theorem Keeps.exportAccount {W : Writes} {s₀ s : State} {w : Window} {account : Nat} {c : Charges} (h : Keeps W s₀ s) : Keeps W s₀
    (s.exportAccount w account c) := by
  unfold State.exportAccount
  split
  · exact h
  · exact .ite h (.when (.exportRecord h) (fun h => .aggregateCopy h))

theorem Keeps.freeAccounts {W : Writes} {s₀ s : State} (h : Keeps W s₀ s) (haccounts : W.accounts) : Keeps W s₀ (s.freeAccounts) :=
  .wr (.store h (.setAccounts haccounts) rfl) rfl

theorem Keeps.settled {W : Writes} {s₀ s : State} {w : Window} (h : Keeps W s₀ s) (haccounts : W.accounts) : Keeps W s₀ (s.settled w) :=
  .freeAccounts (.foldl (fun _ _ h => .exportAccount h) (.upd h rfl)) haccounts

theorem Keeps.settleWindow {W : Writes} {s₀ s : State} (h : Keeps W s₀ s) (haccounts : W.accounts) : Keeps W s₀ (s.settleWindow) :=
    by
  unfold State.settleWindow
  split
  · exact h
  · exact .meterSync (.settled (.bump (.upd h rfl) rfl) haccounts)

theorem Keeps.settleIfDone {W : Writes} {s₀ s : State} (h : Keeps W s₀ s) (haccounts : W.accounts) : Keeps W s₀ (s.settleIfDone) :=
    by
  unfold State.settleIfDone
  split
  · exact .ite h (.settleWindow h haccounts)
  · exact h

theorem Keeps.closeWindow {W : Writes} {s₀ s : State} {flags : Nat} (h : Keeps W s₀ s) (haccounts : W.accounts) : Keeps W s₀
    (s.closeWindow flags) :=
  .meterSync (.settleIfDone (.upd (.settleWindow h haccounts) rfl) haccounts)

theorem Keeps.closeDue {W : Writes} {s₀ s : State} (h : Keeps W s₀ s) (haccounts : W.accounts) : Keeps W s₀ (s.closeDue) :=
  .ite (.closeWindow h haccounts) h

theorem Keeps.recordDenial {W : Writes} {s₀ s : State} {pd : Nat} {d : Denial} (h : Keeps W s₀ s) : Keeps W s₀ (s.recordDenial pd d)
    := by
  unfold State.recordDenial
  refine .ite h ?_
  refine .ite ?_ ?_
  · refine .bump ?_ rfl
    split
    · exact .wr (.wr (.wr (.wr (.wr h rfl) rfl) rfl) rfl) rfl
    · exact .wr (.wr (.wr (.wr (.wr h rfl) rfl) rfl) rfl) rfl
  · refine .ite ?_ ?_
    · refine .when ?_ (fun h => .raise h)
      refine .upd ?_ rfl
      refine .bump ?_ rfl
      split
      · exact .wr (.wr (.wr (.wr (.wr h rfl) rfl) rfl) rfl) rfl
      · exact .wr (.wr (.wr (.wr (.wr h rfl) rfl) rfl) rfl) rfl
    · split
      · exact .wr (.wr (.wr (.wr (.wr h rfl) rfl) rfl) rfl) rfl
      · exact .wr (.wr (.wr (.wr (.wr h rfl) rfl) rfl) rfl) rfl

theorem Keeps.chargeClamps {W : Writes} {s₀ s : State} {window : Nat} {account : Nat} {k : Nat} (h : Keeps W s₀ s) : Keeps W s₀
    (s.chargeClamps window account k) :=
  .chargeIn h

theorem Keeps.charge {W : Writes} {s₀ s : State} {account : Nat} {i : Nat} {n : Nat} (h : Keeps W s₀ s) : Keeps W s₀ (s.charge account i
    n) :=
  .chargeIn h

theorem Keeps.updOp {W : Writes} {s₀ s : State} {id : Nat} {f : Op → Op} (h : Keeps W s₀ s) : Keeps W s₀ (s.updOp id f) :=
  .upd h rfl

theorem Keeps.endOp {W : Writes} {s₀ s : State} {id : Nat} {st : Nat} (h : Keeps W s₀ s) : Keeps W s₀ (s.endOp id st) :=
  .updOp h

theorem Keeps.demandTile {W : Writes} {s₀ s : State} {o : Nat} {k : Nat} {off : Nat} (h : Keeps W s₀ s) : Keeps W s₀ (s.demandTile o k
    off) := by
  unfold State.demandTile
  split
  · exact .ite (.updTile (.updTile h)) (.updTile h)
  · exact .startTile h

theorem Keeps.consult {W : Writes} {s₀ s : State} {ls : List Nat} (h : Keeps W s₀ s) (hmem : W.mem) : Keeps W s₀ (s.consult ls) :=
    by
  unfold State.consult
  refine .foldl (fun _ _ h => ?_) h
  split
  · exact .recall h hmem
  · exact h

theorem Keeps.startFillAs {W : Writes} {s₀ s : State} {l : Nat} {lock : Bool} (h : Keeps W s₀ s) (hmem : W.mem) : Keeps W s₀
    (s.startFillAs l lock) := by
  unfold State.startFillAs
  split
  · exact .upd (.touch (.setWay (.vacate h hmem))) rfl
  · exact .upd h rfl

theorem Keeps.startFill {W : Writes} {s₀ s : State} {l : Nat} (h : Keeps W s₀ s) (hmem : W.mem) : Keeps W s₀ (s.startFill l) :=
  .startFillAs h hmem

theorem Keeps.access {W : Writes} {s₀ s : State} {l : Nat} (h : Keeps W s₀ s) (hmem : W.mem) : Keeps W s₀ (s.access l).2 := by
  unfold State.access
  split
  · exact .iteSnd h (.touch (.bump h rfl))
  · split
    · exact .recall (.bump h rfl) hmem
    · exact .iteSnd (.bump h rfl) (.iteSnd (.bump (.bump h rfl) rfl) (.startFill (.bump h rfl) hmem))

theorem Keeps.issueLines {W : Writes} {s₀ s : State} {id : Nat} {ls : List Nat} (h : Keeps W s₀ s) (hmem : W.mem) : Keeps W s₀
    (s.issueLines id ls) :=
  .updOp (.foldlPair (fun _ _ h => .access h hmem) h)

theorem Keeps.tileLines {W : Writes} {s₀ s : State} {o : Op} {ms : List Nat} (h : Keeps W s₀ s) (hmem : W.mem) : Keeps W s₀
    (s.tileLines o ms).2 :=
  .iteSnd h (.iteSnd (.iteSnd h (.consult h hmem)) (.issueLines h hmem))

theorem Keeps.serveTile {W : Writes} {s₀ s : State} {o : Op} (h : Keeps W s₀ s) (hmem : W.mem) : Keeps W s₀ (s.serveTile o) := by
  unfold State.serveTile
  dsimp only
  split
  · split
    · exact .endOp h
    · refine .ite ?_ (.ite h (.demandTile h))
      refine .ite (.endOp (.ite h (.demandTile h))) ?_
      refine .ite (.tileLines (.ite h (.demandTile h)) hmem) ?_
      split
      · exact .unless (.updOp (.tileLines (.ite h (.demandTile h)) hmem)) (fun h => .demandTile h)
      · exact .updOp (.tileLines (.ite h (.demandTile h)) hmem)
  · exact h

theorem Keeps.fresh {W : Writes} {s₀ s : State} {bits : Nat} (h : Keeps W s₀ s) : Keeps W s₀ (s.fresh bits).2 :=
  .upd h rfl

theorem Keeps.noteWrites {W : Writes} {s₀ s : State} {q : Nat} {msn : Nat} {a : Nat} {n : Nat} (h : Keeps W s₀ s) : Keeps W s₀
    (s.noteWrites q msn a n) :=
  .upd h rfl

theorem Keeps.assayRecord {W : Writes} {s₀ s : State} {q : Nat} {p : MirrorPrefix} {data : List Byte} (h : Keeps W s₀ s) : Keeps W
    s₀ (s.assayRecord q p data) :=
  .upd h rfl

theorem Keeps.closeAssay {W : Writes} {s₀ s : State} {q : Nat} {last : Nat} (h : Keeps W s₀ s) : Keeps W s₀ (s.closeAssay q last) :=
    by
  unfold State.closeAssay
  split
  · exact h
  · exact .ite h (.sendItem (.upd h rfl))

theorem Keeps.sendRecord {W : Writes} {s₀ s : State} {q : Nat} {p : MirrorPrefix} {data : List Byte} (h : Keeps W s₀ s) : Keeps W s₀
    (s.sendRecord q p data).2 :=
  .iteSnd (.when (.foldl (fun _ _ h => .packItem h) (.packItem (.upd (.noteWrites (.assayRecord (.upd h rfl))) rfl))) (fun h =>
    .closeAssay h)) (.when (.upd (.sendItem (.upd (.noteWrites (.assayRecord (.upd h rfl))) rfl)) rfl) (fun h => .closeAssay h))

theorem Keeps.wantMark {W : Writes} {s₀ s : State} (h : Keeps W s₀ s) : Keeps W s₀ (s.wantMark) :=
  .ite h (.ite (.wr h rfl) (.ite h (.sendRequest h)))

theorem Keeps.markUnits {W : Writes} {s₀ s : State} {us : List Nat} (h : Keeps W s₀ s) : Keeps W s₀ (s.markUnits us) :=
  .upd h rfl

theorem Keeps.markSingle {W : Writes} {s₀ s : State} {a : Nat} {n : Nat} (h : Keeps W s₀ s) : Keeps W s₀ (s.markSingle a n) :=
  .ite (.markUnits h) h

theorem Keeps.mirrorData {W : Writes} {s₀ s : State} {src : Source} {seq : Nat} {pd : Nat} {epoch : Nat} {a : Nat} {data : List Byte}
    {atomic : Bool} (h : Keeps W s₀ s) : Keeps W s₀ (s.mirrorData src seq pd epoch a data atomic).2 :=
  .iteSnd (.iteSnd (.sendRecord h) (.sendRecord h)) (.iteSnd (.markSingle (.wantMark h)) (.wantMark h))

theorem Keeps.markDirty {W : Writes} {s₀ s : State} {page : Nat} {pd : Nat} (h : Keeps W s₀ s) : Keeps W s₀ (s.markDirty page pd) :=
    by
  unfold State.markDirty
  split
  · exact .ite (.upd h rfl) h
  · exact .upd h rfl

theorem Keeps.markRun {W : Writes} {s₀ s : State} {m : Nat} {n : Nat} {pd : Nat} (h : Keeps W s₀ s) : Keeps W s₀ (s.markRun m n pd)
    :=
  .ite h (.compareD (.foldl (fun _ _ h => .markDirty h) h))

theorem Keeps.placeData {W : Writes} {s₀ s : State} {id : Nat} {seq : Nat} {off : Nat} {data : List Byte} {atomic : Bool} (h : Keeps W s₀
    s) : Keeps W s₀ (s.placeData id seq off data atomic) := by
  unfold State.placeData
  split
  · exact h
  · exact .updOp (.foldlPair (fun _ _ h => .markRun (.upd h rfl)) (.when (.iteSnd (.mirrorData h) h) (fun h => .updOp h)))

theorem Keeps.runAtomic {W : Writes} {s₀ s : State} {o : Op} {m : Nat} (h : Keeps W s₀ s) : Keeps W s₀ (s.runAtomic o m) := by
  unfold State.runAtomic
  dsimp only
  refine .ite (.updOp (.fresh (.bump h rfl))) ?_
  split
  · exact .updOp (.bump h rfl)
  · refine .placeData ?_
    split
    · exact .upd (.updOp (.bump h rfl)) rfl
    · exact .updOp (.bump h rfl)

theorem Keeps.placeHeld {W : Writes} {s₀ s : State} {id fuel : Nat} (h : Keeps W s₀ s) : Keeps W s₀ (s.placeHeld id fuel) := by
  induction fuel generalizing s with
  | zero => exact h
  | succ fuel ih =>
    unfold State.placeHeld
    split
    · exact h
    · split
      · exact h
      · exact .ite (ih (.placeData (.updOp h))) h

theorem Keeps.advanceOp {W : Writes} {s₀ s : State} {id : Nat} (h : Keeps W s₀ s) (hmem : W.mem) : Keeps W s₀ (s.advanceOp id) := by
  unfold State.advanceOp
  dsimp only
  split
  · exact h
  · refine .ite h ?_
    refine .ite (.endOp h) ?_
    refine .ite (.ite (.ite (.updOp h) (.serveTile (.ite (.updOp (.bump h rfl)) h) hmem)) (.ite h (.ite (.updOp h) (.ite (.issueLines h
      hmem) (.updOp (.consult (.bump h rfl) hmem)))))) ?_
    refine .ite ?_ (.ite (.ite h (.placeHeld (.ite h (.ite (.placeData (.updOp h)) (.updOp h))))) (.updOp h))
    split
    · exact h
    · refine .ite h ?_
      refine .ite ?_ (.ite (.runAtomic h) h)
      split
      · exact .when (.issueLines h hmem) (fun h => .runAtomic h)
      · exact .issueLines h hmem

theorem Keeps.admitRequest {W : Writes} {s₀ s : State} {q : Request} {full : Bool} (h : Keeps W s₀ s) (hmem : W.mem) (haccounts :
    W.accounts) : Keeps W s₀ (s.admitRequest q full) := by
  unfold State.admitRequest
  split
  · exact .upd h rfl
  · refine .advanceOp ?_ hmem
    refine .unless ?_ (fun h => .upd (.bump h rfl) rfl)
    refine .iteOn ?_ (fun h => .charge h) (fun h => .chargeIn h)
    refine .unless ?_ (fun h => .chargeClamps h)
    refine .ite ?_ ?_
    · refine .chargeIn ?_
      split
      · exact .iteOn (.upd (.closeDue h haccounts) rfl) (fun h => .raise (.bump h rfl)) (fun h => .recordDenial h)
      · exact .upd (.closeDue h haccounts) rfl
    · split
      · exact .iteOn (.upd (.closeDue h haccounts) rfl) (fun h => .raise (.bump h rfl)) (fun h => .recordDenial h)
      · exact .upd (.closeDue h haccounts) rfl

theorem Keeps.tryAdmit {W : Writes} {s₀ s : State} {q : Request} {shaped : Bool} (h : Keeps W s₀ s) (hmem : W.mem) (haccounts :
    W.accounts) : Keeps W s₀ (s.tryAdmit q shaped) :=
  .ite (.upd h rfl) (.ite (.upd (.ite h (.shaperTake h)) rfl) (.ite (.upd (.ite h (.shaperTake h)) rfl) (.ite (.upd (.ite h (.shaperTake
    h)) rfl) (.iteOn (.ite h (.shaperTake h)) (fun h => .upd h rfl) (fun h => .admitRequest h hmem haccounts)))))

theorem Keeps.dropWaiter {W : Writes} {s₀ s : State} {w : Waiter} (h : Keeps W s₀ s) : Keeps W s₀ (s.dropWaiter w) :=
  .upd h rfl

theorem Keeps.moveWaiters {W : Writes} {s₀ s : State} (h : Keeps W s₀ s) (hmem : W.mem) (haccounts : W.accounts) : Keeps W s₀
    (s.moveWaiters) :=
  .ite h (.foldl (fun _ _ h => .ite (.tryAdmit (.dropWaiter h) hmem haccounts) h) h)

theorem Keeps.sendStreamState {W : Writes} {s₀ s : State} {fields : List Nat} (h : Keeps W s₀ s) : Keeps W s₀ (s.sendStreamState fields)
    :=
  .sendItem h

theorem Keeps.carryStream {W : Writes} {s₀ s : State} {fields : List Nat} (h : Keeps W s₀ s) : Keeps W s₀ (s.carryStream fields) :=
  .ite (.sendStreamState h) h

theorem Keeps.applyRespAck {W : Writes} {s₀ s : State} {i : Nat} {v : Nat} (h : Keeps W s₀ s) (hmem : W.mem) (haccounts : W.accounts) :
    Keeps W s₀ (s.applyRespAck i v) :=
  .ite h (.moveWaiters (.carryStream (.upd (.setStream h) rfl)) hmem haccounts)

theorem Keeps.countTx {W : Writes} {s₀ s : State} {p : Nat} (h : Keeps W s₀ s) : Keeps W s₀ (s.countTx p) :=
  .wrN h rfl

theorem Keeps.cergaSendAs {W : Writes} {s₀ s : State} {i : Nat} {epoch : Nat} {window : Nat} {opcode : Nat} {seq : Nat} {status : Nat}
    {credit : Nat} {info : Nat} {last : Bool} {payload : List Byte} (h : Keeps W s₀ s) : Keeps W s₀ (s.cergaSendAs i epoch window opcode
    seq status credit info last payload) :=
  .chargeIn (.setStream (.countTx (.send h)))

theorem Keeps.refuseAs {W : Writes} {s₀ s : State} {i : Nat} {opcode : Nat} {p : CergaPacket} {status : Nat} (h : Keeps W s₀ s) :
    Keeps W s₀ (s.refuseAs i opcode p status) :=
  .cergaSendAs h

theorem Keeps.abortedReset {W : Writes} {s₀ s : State} {i : Nat} {opcode : Nat} {p : CergaPacket} (h : Keeps W s₀ s) : Keeps W s₀
    (s.abortedReset i opcode p) :=
  .refuseAs h

theorem Keeps.cergaNakAs {W : Writes} {s₀ s : State} {i : Nat} {epoch : Nat} {seq : Nat} {reason : Nat} (h : Keeps W s₀ s) : Keeps W
    s₀ (s.cergaNakAs i epoch seq reason) :=
  .cergaSendAs h

theorem Keeps.streamReset {W : Writes} {s₀ s : State} {i : Nat} {p : CergaPacket} (h : Keeps W s₀ s) : Keeps W s₀ (s.streamReset i p) :=
  .bump (.cergaNakAs h) rfl

theorem Keeps.cergaNak {W : Writes} {s₀ s : State} {i : Nat} {seq : Nat} {reason : Nat} (h : Keeps W s₀ s) : Keeps W s₀ (s.cergaNak i seq
    reason) :=
  .cergaNakAs h

theorem Keeps.cergaSend {W : Writes} {s₀ s : State} {i : Nat} {window : Nat} {opcode : Nat} {seq : Nat} {status : Nat} {credit : Nat}
    {info : Nat} {last : Bool} {payload : List Byte} (h : Keeps W s₀ s) : Keeps W s₀ (s.cergaSend i window opcode seq status credit info
    last payload) :=
  .cergaSendAs h

theorem Keeps.cergaAck {W : Writes} {s₀ s : State} {i : Nat} (h : Keeps W s₀ s) : Keeps W s₀ (s.cergaAck i) := by
  unfold State.cergaAck
  exact .updStream (.cergaSend h)

theorem Keeps.ackNew {W : Writes} {s₀ s : State} {i : Nat} {d : Nat} (h : Keeps W s₀ s) : Keeps W s₀ (s.ackNew i d) :=
  .ite (.cergaAck (.updStream h)) (.updStream h)

theorem Keeps.submit {W : Writes} {s₀ s : State} {q : Request} (h : Keeps W s₀ s) (hmem : W.mem) (haccounts : W.accounts) : Keeps W
    s₀ (s.submit q) :=
  .ite (.upd h rfl) (.tryAdmit h hmem haccounts)

theorem Keeps.advanceAll {W : Writes} {s₀ s : State} (h : Keeps W s₀ s) (hmem : W.mem) : Keeps W s₀ (s.advanceAll) :=
  .foldl (fun _ _ h => .advanceOp h hmem) h

theorem Keeps.enterPiece {W : Writes} {s₀ s : State} {o : Op} {off : Nat} {d : List Byte} (h : Keeps W s₀ s) (hmem : W.mem) : Keeps
    W s₀ (s.enterPiece o off d) :=
  .advanceAll (.updOp h) hmem

theorem Keeps.placePacket {W : Writes} {s₀ s : State} {i : Nat} {p : CergaPacket} (h : Keeps W s₀ s) (hmem : W.mem) : Keeps W s₀
    (s.placePacket i p) := by
  unfold State.placePacket
  split
  · exact .chargeIngress h
  · exact .unless (.chargeIngress h) (fun h => .enterPiece h hmem)

theorem Keeps.processPacket {W : Writes} {s₀ s : State} {i : Nat} {opcode : Nat} {p : CergaPacket} (h : Keeps W s₀ s) (hmem : W.mem)
    (haccounts : W.accounts) : Keeps W s₀ (s.processPacket i opcode p) :=
  .ite (.submit h hmem haccounts) (.placePacket h hmem)

theorem Keeps.newPacket {W : Writes} {s₀ s : State} {i : Nat} {opcode : Nat} {p : CergaPacket} (h : Keeps W s₀ s) (hmem : W.mem)
    (haccounts : W.accounts) : Keeps W s₀ (s.newPacket i opcode p) :=
  .ite (.chargeIngress (.cergaNak (.bump h rfl))) (.ite (.ite (.chargeIngress (.raise (.cergaNak h))) (.ackNew (.upd (.updStream h)
    rfl))) (.ackNew (.processPacket (.updStream h) hmem haccounts)))

theorem Keeps.cergaRespond {W : Writes} {s₀ s : State} {i : Nat} {window : Nat} {seq : Nat} {opcode : Nat} {status : Nat} {info : Nat}
    {last : Bool} {payload : List Byte} (h : Keeps W s₀ s) : Keeps W s₀ (s.cergaRespond i window seq opcode status info last payload) :=
  .cergaSend h

theorem Keeps.duplicateFirst {W : Writes} {s₀ s : State} {i : Nat} {opcode : Nat} {p : CergaPacket} (h : Keeps W s₀ s) (hmem : W.mem)
    (haccounts : W.accounts) : Keeps W s₀ (s.duplicateFirst i opcode p) := by
  unfold State.duplicateFirst
  refine .ite (.ite (.ite (.chargeIngress h) (.submit h hmem haccounts)) (.chargeIngress (.cergaNak (.bump h rfl)))) ?_
  refine .ite (.chargeIngress h) ?_
  split
  · exact .cergaRespond (.chargeIngress h)
  · exact .iteOn (.chargeIngress h) (fun h => .cergaNak h) (fun h => .cergaRespond h)

theorem Keeps.cergaViews {W : Writes} {s₀ s : State} (h : Keeps W s₀ s) : Keeps W s₀ (s.cergaViews) :=
  .wr (.wr h rfl) rfl

theorem Keeps.openStream {W : Writes} {s₀ s : State} {i : Nat} {p : CergaPacket} (h : Keeps W s₀ s) : Keeps W s₀ (s.openStream i p)
    :=
  .cergaViews (.carryStream (.setStream h))

theorem Keeps.dropUnadmitted {W : Writes} {s₀ s : State} {i : Nat} (h : Keeps W s₀ s) : Keeps W s₀ (s.dropUnadmitted i) :=
  .upd h rfl

theorem Keeps.notActive {W : Writes} {s₀ s : State} {i : Nat} {opcode : Nat} {p : CergaPacket} (h : Keeps W s₀ s) : Keeps W s₀
    (s.notActive i opcode p) :=
  .when (.chargeIngress h) (fun h => .charge (.refuseAs h))

theorem Keeps.lookAside {W : Writes} {s₀ s : State} {i : Nat} (h : Keeps W s₀ s) : Keeps W s₀ (s.lookAside i) :=
  .upd h rfl

theorem Keeps.cacheContext {W : Writes} {s₀ s : State} {i : Nat} (h : Keeps W s₀ s) : Keeps W s₀ (s.cacheContext i) := by
  unfold State.cacheContext
  refine .cergaViews ?_
  refine .lookAside ?_
  refine .ite (.upd h rfl) ?_
  split
  · exact .upd h rfl
  · exact h

theorem Keeps.roceViews {W : Writes} {s₀ s : State} (h : Keeps W s₀ s) : Keeps W s₀ (s.roceViews) :=
  .wr (.wr h rfl) rfl

theorem Keeps.park {W : Writes} {s₀ s : State} {q : Nat} {p : RocePacket} (h : Keeps W s₀ s) : Keeps W s₀ (s.park q p) :=
  .ite (.raise (.bump h rfl)) (.roceViews (.upd h rfl))

theorem Keeps.chargeRoce {W : Writes} {s₀ s : State} {x : Qp} {window : Nat} {frame : Nat} (h : Keeps W s₀ s) : Keeps W s₀
    (s.chargeRoce x window frame) :=
  .chargeIn h

theorem Keeps.roceSend {W : Writes} {s₀ s : State} {q : Nat} {port : Nat} {window : Nat} {bth : Nat} {psn : Nat} {syn : Option Nat}
    {payload : List Byte} (h : Keeps W s₀ s) : Keeps W s₀ (s.roceSend q port window bth psn syn payload) := by
  unfold State.roceSend
  split
  · exact h
  · exact .chargeIn (.countTx (.send h))

theorem Keeps.setQp {W : Writes} {s₀ s : State} {q : Nat} {x : Qp} (h : Keeps W s₀ s) : Keeps W s₀ (s.setQp q x) :=
  .upd h rfl

theorem Keeps.sendCnp {W : Writes} {s₀ s : State} {q : Nat} {p : RocePacket} (h : Keeps W s₀ s) : Keeps W s₀ (s.sendCnp q p) := by
  unfold State.sendCnp
  split
  · exact h
  · exact .ite (.roceSend (.bump (.setQp h) rfl)) h

theorem Keeps.lastNak {W : Writes} {s₀ s : State} {q : Nat} {status : Nat} (h : Keeps W s₀ s) : Keeps W s₀ (s.lastNak q status) :=
  .wr (.wr h rfl) rfl

theorem Keeps.setQpErr {W : Writes} {s₀ s : State} {q : Nat} {x : Qp} (h : Keeps W s₀ s) : Keeps W s₀ (s.setQpErr q x) :=
  .setQp h

theorem Keeps.qpToErr {W : Writes} {s₀ s : State} {q : Nat} {psn : Nat} {status : Nat} (h : Keeps W s₀ s) : Keeps W s₀ (s.qpToErr q psn
    status) := by
  unfold State.qpToErr
  split
  · exact h
  · exact .ite h (.raise (.setQpErr h))

theorem Keeps.roceNakNow {W : Writes} {s₀ s : State} {q : Nat} {port : Nat} {window : Nat} {psn : Nat} {syn : Nat} {fatal : Option Nat}
    (h : Keeps W s₀ s) : Keeps W s₀ (s.roceNakNow q port window psn syn fatal) := by
  unfold State.roceNakNow
  split
  · exact .qpToErr (.roceSend h)
  · exact .roceSend h

theorem Keeps.roceNakInOrder {W : Writes} {s₀ s : State} {q : Nat} {port : Nat} {window : Nat} {psn : Nat} {syn : Nat} {fatal : Option
    Nat} (h : Keeps W s₀ s) : Keeps W s₀ (s.roceNakInOrder q port window psn syn fatal) := by
  unfold State.roceNakInOrder
  refine .ite ?_ (.roceNakNow h)
  split
  · exact .setQp h
  · exact h

theorem Keeps.roceNak {W : Writes} {s₀ s : State} {q : Nat} {port : Nat} {window : Nat} {psn : Nat} {status : Nat} {invalid : Bool}
    (h : Keeps W s₀ s) : Keeps W s₀ (s.roceNak q port window psn status invalid) :=
  .ite (.roceNakInOrder (.lastNak h)) (.ite (.lastNak h) (.roceNakInOrder (.lastNak h)))

theorem Keeps.roceInvalid {W : Writes} {s₀ s : State} {q : Nat} {port : Nat} {psn : Nat} (h : Keeps W s₀ s) : Keeps W s₀
    (s.roceInvalid q port psn) :=
  .roceNakInOrder (.lastNak h)

theorem Keeps.roceMore {W : Writes} {s₀ s : State} {q : Nat} {x : Qp} {p : RocePacket} {f : Nat} {off : Nat} (h : Keeps W s₀ s)
    (hmem : W.mem) : Keeps W s₀ (s.roceMore q x p f off) := by
  unfold State.roceMore
  refine .ite (.chargeRoce (.upd h rfl)) ?_
  split
  · exact .chargeRoce h
  · exact .unless (.chargeRoce h) (fun h => .enterPiece h hmem)

theorem Keeps.roceWrite {W : Writes} {s₀ s : State} {q : Nat} {x : Qp} {p : RocePacket} (h : Keeps W s₀ s) (hmem : W.mem) (haccounts :
    W.accounts) : Keeps W s₀ (s.roceWrite q x p) := by
  unfold State.roceWrite
  split
  · exact .ite (.roceInvalid (.chargeRoce h)) (.roceMore (.setQp h) hmem)
  · exact .ite (.roceInvalid (.chargeRoce h)) (.submit (.setQp h) hmem haccounts)

theorem Keeps.roceTake {W : Writes} {s₀ s : State} {q : Nat} {x : Qp} {p : RocePacket} (h : Keeps W s₀ s) (hmem : W.mem) (haccounts :
    W.accounts) : Keeps W s₀ (s.roceTake q x p) :=
  .ite (.roceWrite h hmem haccounts) (.ite (.roceInvalid (.chargeRoce h)) (.submit h hmem haccounts))

theorem Keeps.roceNew {W : Writes} {s₀ s : State} {q : Nat} {x : Qp} {p : RocePacket} (h : Keeps W s₀ s) (hmem : W.mem) (haccounts :
    W.accounts) : Keeps W s₀ (s.roceNew q x p) :=
  .roceTake (.setQp h) hmem haccounts

theorem Keeps.settleAcks {W : Writes} {s₀ s : State} {q : Nat} {window : Nat} (h : Keeps W s₀ s) : Keeps W s₀ (s.settleAcks q window) :=
    by
  unfold State.settleAcks
  split
  · exact h
  · exact .foldl (fun _ _ h => .roceSend h) (.setQp h)

theorem Keeps.roceDuplicate {W : Writes} {s₀ s : State} {q : Nat} {x : Qp} {p : RocePacket} (h : Keeps W s₀ s) (hmem : W.mem)
    (haccounts : W.accounts) : Keeps W s₀ (s.roceDuplicate q x p) := by
  unfold State.roceDuplicate
  split
  · exact .roceTake (.setQp h) hmem haccounts
  · refine .ite (.ite (.roceInvalid (.chargeRoce (.bump h rfl))) (.submit (.bump h rfl) hmem haccounts)) ?_
    refine .ite (.settleAcks (.setQp (.chargeRoce (.bump h rfl)))) ?_
    refine .ite ?_ (.roceInvalid (.chargeRoce (.bump h rfl)))
    split
    · exact .roceSend (.chargeRoce (.bump h rfl))
    · exact .unless (.chargeRoce (.bump h rfl)) (fun h => .roceNak h)

theorem Keeps.rocePacket {W : Writes} {s₀ s : State} {q : Nat} {p : RocePacket} (h : Keeps W s₀ s) (hmem : W.mem) (haccounts :
    W.accounts) : Keeps W s₀ (s.rocePacket q p) := by
  unfold State.rocePacket
  split
  · exact .bump h rfl
  · exact .ite (.bump h rfl) (.ite (.chargeRoce h) (.ite (.roceNak (.chargeRoce (.sendCnp (.setQp h)))) (.ite (.roceNew (.sendCnp (.setQp
      h)) hmem haccounts) (.ite (.roceDuplicate (.sendCnp (.setQp h)) hmem haccounts) (.unless (.chargeRoce (.sendCnp (.setQp h))) (fun h
      => .bump (.roceNakInOrder (.setQp h)) rfl))))))

theorem Keeps.cacheQp {W : Writes} {s₀ s : State} {q : Nat} (h : Keeps W s₀ s) : Keeps W s₀ (s.cacheQp q) := by
  unfold State.cacheQp
  refine .ite (.roceViews (.upd h rfl)) ?_
  split
  · exact .roceViews (.upd h rfl)
  · exact .roceViews h

theorem Keeps.receiveRoce {W : Writes} {s₀ s : State} {p : RocePacket} (h : Keeps W s₀ s) (hmem : W.mem) (haccounts : W.accounts) :
    Keeps W s₀ (s.receiveRoce p) := by
  unfold State.receiveRoce
  refine .ite h ?_
  refine .ite (.bump (.bump h rfl) rfl) ?_
  refine .ite (.bump (.bump h rfl) rfl) ?_
  refine .ite (.bump (.bump h rfl) rfl) ?_
  refine .ite (.bump (.bump h rfl) rfl) ?_
  split
  · exact .bump (.bump h rfl) rfl
  · exact .ite (.bump (.bump h rfl) rfl) (.ite (.park (.bump h rfl)) (.ite (.rocePacket (.cacheQp (.bump h rfl)) hmem haccounts) (.park
      (.bump (.bump h rfl) rfl))))

theorem KeepsOut.globalResetArm {W : Writes} {s₀ s : State} (h : Keeps W s₀ s) : KeepsOut W s₀ (execGlobalResetArm s) :=
  .next (.ite (.arm h) h)

theorem KeepsOut.globalResetFire {W : Writes} {s₀ s : State} (h : Keeps W s₀ s) (hsave : W.save) : KeepsOut W s₀
    (execGlobalResetFire s) :=
  .next (.ite (.fire h hsave) h)

theorem KeepsOut.resetArmExpiry {W : Writes} {s₀ s : State} (h : Keeps W s₀ s) : KeepsOut W s₀ (execResetArmExpiry s) :=
  .next (.ite (.disarm h) h)

theorem KeepsOut.svcAddressWrite {W : Writes} {s₀ s : State} {off : Nat} {v : Nat} (h : Keeps W s₀ s) (hmem : W.mem) (hkeyRegs :
    W.keyRegs) (hsave : W.save) (hconfig : W.config) : KeepsOut W s₀ (execSvcAddressWrite off v s) :=
  .next (.ite (.writePath h hmem hkeyRegs hsave hconfig) h)

theorem KeepsOut.nearCacheDisable {W : Writes} {s₀ s : State} {maxLockWays : Nat} (h : Keeps W s₀ s) : KeepsOut W s₀
    (execNearCacheDisable maxLockWays s) :=
  .next (.ite (.disableNear (.wr h rfl)) h)

theorem KeepsOut.nearCacheEnable {W : Writes} {s₀ s : State} {maxLockWays : Nat} (h : Keeps W s₀ s) (hmem : W.mem) : KeepsOut W s₀
    (execNearCacheEnable maxLockWays s) :=
  .next (.ite (.enableNear (.wr h rfl) hmem) h)

theorem KeepsOut.tierStageWrite {W : Writes} {s₀ s : State} {v : Nat} (h : Keeps W s₀ s) : KeepsOut W s₀ (execTierStageWrite v s) :=
  .next (.ite (.writeStage h) h)

theorem KeepsOut.ringEnable {W : Writes} {s₀ s : State} {k : RingKind} {n : Nat} (h : Keeps W s₀ s) : KeepsOut W s₀ (execRingEnable k n
    s) :=
  .next (.startRing h)

theorem KeepsOut.ringDisable {W : Writes} {s₀ s : State} {k : RingKind} {n : Nat} (h : Keeps W s₀ s) : KeepsOut W s₀
    (execRingDisable k n s) :=
  .next (.stopRing h)

theorem KeepsOut.cmdTail {W : Writes} {s₀ s : State} {n : Nat} {v : Nat} (h : Keeps W s₀ s) : KeepsOut W s₀ (execCmdTail n v s) :=
  .next (.doorbell h)

theorem KeepsOut.cplHead {W : Writes} {s₀ s : State} {n : Nat} {v : Nat} (h : Keeps W s₀ s) : KeepsOut W s₀ (execCplHead n v s) :=
  .next (.headDoorbell h)

theorem KeepsOut.evHead {W : Writes} {s₀ s : State} {m : Nat} {v : Nat} (h : Keeps W s₀ s) : KeepsOut W s₀ (execEvHead m v s) :=
  .next (.drainHub (.headDoorbell h))

theorem KeepsOut.exHead {W : Writes} {s₀ s : State} {k : Nat} {v : Nat} (h : Keeps W s₀ s) : KeepsOut W s₀ (execExHead k v s) :=
  .next (.drainExports (.headDoorbell h))

theorem KeepsOut.keeperCommit {W : Writes} {s₀ s : State} {p : Path} {v : Nat} (h : Keeps W s₀ s) (hmem : W.mem) (hkeyRegs : W.keyRegs)
    (hsave : W.save) (hconfig : W.config) : KeepsOut W s₀ (execKeeperCommit p v s) :=
  .next (.writePath h hmem hkeyRegs hsave hconfig)

theorem KeepsOut.wordProgram {W : Writes} {s₀ s : State} {p : Path} {off : Nat} {word : Nat} (h : Keeps W s₀ s) : KeepsOut W s₀
    (execWordProgram p off word s) :=
  .next (.ite (.submitOp h) h)

theorem KeepsOut.bufferProgram {W : Writes} {s₀ s : State} {p : Path} {off : Nat} {words : List Nat} (h : Keeps W s₀ s) : KeepsOut W
    s₀ (execBufferProgram p off words s) :=
  .next (.ite h (.ite (.windowError h) (.submitOp h)))

theorem KeepsOut.sectorErase {W : Writes} {s₀ s : State} {p : Path} {off : Nat} (h : Keeps W s₀ s) : KeepsOut W s₀ (execSectorErase p off
    s) :=
  .next (.ite (.submitOp h) h)

theorem KeepsOut.abort {W : Writes} {s₀ s : State} {p : Path} (h : Keeps W s₀ s) : KeepsOut W s₀ (execAbort p s) :=
  .next (.ite (.setWindowPath h) h)

theorem KeepsOut.sequenceGapTimeout {W : Writes} {s₀ s : State} {p : Path} (h : Keeps W s₀ s) : KeepsOut W s₀
    (execSequenceGapTimeout p s) :=
  .next (.ite (.windowError h) h)

theorem KeepsOut.logRecordSelect {W : Writes} {s₀ s : State} {p : Path} {q : Nat} (h : Keeps W s₀ s) : KeepsOut W s₀
    (execLogRecordSelect p q s) :=
  .next (.ite (.selectRecord h) h)

theorem Keeps.note {W : Writes} {s₀ s : State} {x : TraceItem} (h : Keeps W s₀ s) : Keeps W s₀ (s.note x) :=
  .ite (.upd h rfl) h

theorem Keeps.enterDescriptor {W : Writes} {s₀ s : State} {n : Nat} {d : Descriptor} (h : Keeps W s₀ s) : Keeps W s₀
    (s.enterDescriptor n d) :=
  .wrN (.upd (.note h) rfl) (fH9Index_free _)

theorem KeepsOut.descriptorFetch {W : Writes} {s₀ s : State} {n : Nat} {ds : List Descriptor} {error : Bool} (h : Keeps W s₀ s) :
    KeepsOut W s₀ (execDescriptorFetch n ds error s) :=
  .next (.ite h (.ite (.ringError (.wrN h (fState_free _))) (.upd (.foldl (fun _ _ h => .enterDescriptor h) h) rfl)))

theorem Keeps.writeCompletion {W : Writes} {s₀ s : State} {c : Cmd} (h : Keeps W s₀ s) : Keeps W s₀ (s.writeCompletion c) :=
  .settleDrain (.upd (.startGrace (.ringWrite h)) rfl)

theorem KeepsOut.commandCompletion {W : Writes} {s₀ s : State} {r : CmdRef} (h : Keeps W s₀ s) :
    KeepsOut W s₀ (execCommandCompletion r s) := by
  refine .next ?_
  split
  · exact .ite (.writeCompletion h) h
  · exact h

theorem KeepsOut.coalescingTimer {W : Writes} {s₀ s : State} {k : RingKind} {n : Nat} (h : Keeps W s₀ s) : KeepsOut W s₀
    (execCoalescingTimer k n s) :=
  .next (.ite (.signalRing h) h)

theorem Keeps.orphanCommands {W : Writes} {s₀ s : State} (h : Keeps W s₀ s) : Keeps W s₀ (s.orphanCommands) :=
  .foldl (fun _ _ h => .raiseTag (.startGrace h)) (.upd h rfl)

theorem configFields_outside_rings : ∀ g ∈ configFields, (Fld.span g).2.2 < 0x10000 ∨ 0x11200 ≤ g.off := by decide +kernel

/-- The block of the rings holds no configuration field. -/
theorem Keeps.resetRings {W : Writes} {s₀ s : State} (h : Keeps W s₀ s) : Keeps W s₀ (s.resetBlock 0x10000 0x11200) := by
  refine h.trans ⟨rfl, rfl, id, fun _ => rfl, fun _ => rfl, fun _ => rfl, fun _ => rfl, fun _ => rfl, fun _ => rfl, fun _ => rfl,
    fun _ => rfl, fun _ => rfl, fun _ => rfl, fun _ => rfl, fun _ => rfl, fun _ => rfl, fun _ => rfl, fun _ => rfl, fun _ g hg n => ?_⟩
  have hsound := configFields_sound g hg
  simp only [Fld.sound, Bool.and_eq_true, Nat.blt_eq] at hsound
  obtain ⟨hlo, hcount⟩ := hsound
  have hn : g.stride * (n % g.count) ≤ g.stride * (g.count - 1) :=
    Nat.mul_le_mul_left _ (Nat.le_pred_of_lt (Nat.mod_lt n hcount))
  have hkey : (decide (g.key n < 0x10000 * 64) || decide (0x11200 * 64 ≤ g.key n)) = true := by
    have hout := configFields_outside_rings g hg
    simp only [Fld.span] at hout
    simp only [Bool.or_eq_true, decide_eq_true_eq]
    simp only [Fld.key]
    omega
  have hget : AMap.get? (s.resetBlock 0x10000 0x11200).regs (g.key n) = AMap.get? s.regs (g.key n) :=
    AMap.get?_filter_key s.regs (fun k => decide (k < 0x10000 * 64) || decide (0x11200 * 64 ≤ k)) (g.key n) hkey
  simp only [State.rdN, hget]

theorem Keeps.dropRings {W : Writes} {s₀ s : State} (h : Keeps W s₀ s) : Keeps W s₀ (s.dropRings) := by
  have hr := Keeps.resetRings h
  unfold State.dropRings
  generalize s.resetBlock 0x10000 0x11200 = t at hr ⊢
  exact .upd hr rfl

theorem KeepsOut.functionLevelReset {W : Writes} {s₀ s : State} (h : Keeps W s₀ s) : KeepsOut W s₀
    (execFunctionLevelReset s) :=
  .next (.ite (.upd (.wr (.orphanCommands (.dropRings h)) rfl) rfl) h)

theorem KeepsOut.pcieLinkDown {W : Writes} {s₀ s : State} (h : Keeps W s₀ s) : KeepsOut W s₀ (execPcieLinkDown s) :=
  .next (.ite (.orphanCommands (.dropRings h)) h)

theorem Keeps.finish {W : Writes} {s₀ s : State} {id : Nat} {status : Nat} (h : Keeps W s₀ s) : Keeps W s₀ (s.finish id status) :=
  .endCmd h

theorem Keeps.command {W : Writes} {s₀ s : State} {r : CmdRef} {opcode : Nat} {body : Cmd → State → State}
    (hbody : ∀ c s, Keeps W s₀ s → Keeps W s₀ (body c s)) (h : Keeps W s₀ s) : Keeps W s₀ (s.command r opcode body) := by
  unfold State.command
  split
  · exact h
  · refine .ite ?_ h
    split
    · exact .finish (.updCmd h)
    · exact hbody _ _ (.updCmd h)

theorem Keeps.ifHolder {W : Writes} {s₀ s : State} {c : Cmd} {f : State → State} (hf : ∀ s, Keeps W s₀ s → Keeps W s₀ (f s))
    (h : Keeps W s₀ s) : Keeps W s₀ (s.ifHolder c f) :=
  .ite (hf _ h) (.finish h)

theorem Keeps.protViews {W : Writes} {s₀ s : State} (h : Keeps W s₀ s) : Keeps W s₀ (s.protViews) :=
  .wr (.wr (.wr (.wr (.wr (.wr h rfl) rfl) rfl) rfl) rfl) rfl

theorem Keeps.setRegion {W : Writes} {s₀ s : State} {r : Nat} {x : Region} (h : Keeps W s₀ s) (hregions : W.regions) : Keeps W s₀
    (s.setRegion r x) :=
  .store h (.setRegions hregions) rfl

theorem Keeps.addExtents {W : Writes} {s₀ s : State} {es : List Extent} (h : Keeps W s₀ s) : Keeps W s₀ (s.addExtents es) :=
  .upd h rfl

theorem KeepsOk.createRegion {W : Writes} {s₀ s : State} {id : Nat} {r : Region} (h : Keeps W s₀ s) (hregions : W.regions) : KeepsOk
    W s₀ (s.createRegion id r) := by
  unfold State.createRegion
  refine .ite (.ite .error (.ok (.protViews (.setRegion (.addExtents h) hregions)))) ?_
  refine .ite ?_ (.ok (.protViews (.setRegion h hregions)))
  split
  · exact .error
  · exact .ok (.protViews (.setRegion (.addExtents h) hregions))

theorem Keeps.sendOutbox {W : Writes} {s₀ s : State} (h : Keeps W s₀ s) : Keeps W s₀ (s.sendOutbox) :=
  .ite (.wr h rfl) (.sendRequest (.wr h rfl))

theorem Keeps.internalWrite {W : Writes} {s₀ s : State} {a : Nat} {data : List Byte} (h : Keeps W s₀ s) : Keeps W s₀
    (s.internalWrite a data) :=
  .foldlPair (fun _ _ h => .markRun (.upd h rfl)) (.mirrorData h)

theorem Keeps.writeDirectory {W : Writes} {s₀ s : State} (h : Keeps W s₀ s) : Keeps W s₀ (s.writeDirectory) :=
  .ite h (.ite (.wr (.upd h rfl) rfl) (.internalWrite (.unless (.foldl (fun _ _ h => .internalWrite h) (.internalWrite (.internalWrite
    (.wr (.upd h rfl) rfl)))) (fun h => .internalWrite h))))

theorem Keeps.relist {W : Writes} {s₀ s : State} (h : Keeps W s₀ s) : Keeps W s₀ (s.relist) :=
  .writeDirectory (.ite (.upd h rfl) (.raise (.upd (.upd h rfl) rfl)))

theorem Keeps.reportRegion {W : Writes} {s₀ s : State} {id : Nat} {action : Nat} {r : Region} (h : Keeps W s₀ s) : Keeps W s₀
    (s.reportRegion id action r) :=
  .ite (.sendOutbox (.upd h rfl)) (.ite (.relist (.upd h rfl)) h)

theorem Keeps.settleRegion {W : Writes} {s₀ s : State} {c : Cmd} {id : Nat} {r : Region} (h : Keeps W s₀ s) : Keeps W s₀
    (s.settleRegion c id r) :=
  .endCmd (.reportRegion (.mirrorCommand h))

theorem KeepsOk.growRegion {W : Writes} {s₀ s : State} {id : Nat} {r : Region} {size : Nat} (h : Keeps W s₀ s) : KeepsOk W s₀
    (s.growRegion id r size) := by
  unfold State.growRegion
  refine .ite ?_ (.ok h)
  split
  · exact .error
  · exact .ok (.protViews (.addExtents h))

theorem Keeps.settleResize {W : Writes} {s₀ s : State} {c : Cmd} {id : Nat} {r : Region} {n : Nat} (h : Keeps W s₀ s) (hregions :
    W.regions) : Keeps W s₀ (s.settleResize c id r n) :=
  .finish (.protViews (.reportRegion (.mirrorCommand (.setRegion h hregions))))

theorem Keeps.unbind {W : Writes} {s₀ s : State} {pd : Nat} {region : Nat} (h : Keeps W s₀ s) : Keeps W s₀ (s.unbind pd region) :=
  .protViews (.upd h rfl)

theorem Keeps.unlockEntry {W : Writes} {s₀ s : State} {i : Nat} (h : Keeps W s₀ s) : Keeps W s₀ (s.unlockEntry i) := by
  unfold State.unlockEntry
  split
  · exact h
  · refine .nearViews ?_
    refine .foldl (fun _ _ h => ?_) (.upd h rfl)
    split
    · exact .upd h rfl
    · split
      · exact .upd h rfl
      · exact h

theorem Keeps.unlockRegion {W : Writes} {s₀ s : State} {region : Nat} (h : Keeps W s₀ s) : Keeps W s₀ (s.unlockRegion region) :=
  .foldl (fun _ _ h => .unlockEntry h) h

theorem Keeps.clearImage {W : Writes} {s₀ s : State} {a n : Nat} (h : Keeps W s₀ s) (hmem : W.mem) :
    Keeps W s₀ (s.clearImage a n) :=
  .store h (.setMem hmem .imageFilter) rfl

theorem Keeps.forgetObjectLines {W : Writes} {s₀ s : State} {object : Nat} (h : Keeps W s₀ s) : Keeps W s₀ (s.forgetObjectLines object) :=
  .nearViews (.upd h rfl)

theorem Keeps.destroyPd {W : Writes} {s₀ s : State} {pd : Nat} (h : Keeps W s₀ s) (hpds : W.pds) : Keeps W s₀ (s.destroyPd pd) :=
  .protViews (.store h (.setPds hpds) rfl)

theorem Keeps.destroyQueue {W : Writes} {s₀ s : State} {i : Nat} (h : Keeps W s₀ s) (hqueues : W.queues) : Keeps W s₀
    (s.destroyQueue i) := by
  unfold State.destroyQueue
  split
  · exact h
  · exact .cergaViews (.store (.dropUnadmitted h) (.setQueues hqueues) rfl)

theorem Keeps.dropParked {W : Writes} {s₀ s : State} {q : Nat} (h : Keeps W s₀ s) : Keeps W s₀ (s.dropParked q) :=
  .roceViews (.upd h rfl)

theorem Keeps.destroyQp {W : Writes} {s₀ s : State} {q : Nat} (h : Keeps W s₀ s) : Keeps W s₀ (s.destroyQp q) :=
  .roceViews (.upd (.dropParked h) rfl)

theorem Keeps.initQp {W : Writes} {s₀ s : State} {q : Nat} (h : Keeps W s₀ s) : Keeps W s₀ (s.initQp q) := by
  unfold State.initQp
  split
  · exact h
  · exact .setQp (.dropParked h)

theorem Keeps.wakeLine {W : Writes} {s₀ s : State} {l : Nat} (h : Keeps W s₀ s) : Keeps W s₀ (s.wakeLine l) :=
  .upd h rfl

theorem Keeps.retryFill {W : Writes} {s₀ s : State} {l : Nat} (h : Keeps W s₀ s) (hmem : W.mem) : Keeps W s₀ (s.retryFill l) :=
  .ite h (.ite (.wakeLine h) (.startFill h hmem))

theorem Keeps.nextFill {W : Writes} {s₀ s : State} {b : Nat} (h : Keeps W s₀ s) (hmem : W.mem) : Keeps W s₀ (s.nextFill b) :=
  .foldl (fun _ _ h => .retryFill h hmem) h

theorem Keeps.installFill {W : Writes} {s₀ s : State} {b : Nat} {ue : Bool} (h : Keeps W s₀ s) (hmem : W.mem) : Keeps W s₀
    (s.installFill b ue) := by
  unfold State.installFill
  split
  · exact h
  · refine .wakeLine ?_
    split
    · exact .setWay (.upd h rfl)
    · exact .ite (.upd h rfl) (.writeLine (.upd h rfl) hmem)

theorem Keeps.dropLine {W : Writes} {s₀ s : State} {l : Nat} {all : Bool} (h : Keeps W s₀ s) (hmem : W.mem) : Keeps W s₀ (s.dropLine l
    all).2 := by
  unfold State.dropLine
  dsimp only
  split
  · split
    · exact .iteOn (.when (.ite (.nextFill (.installFill h hmem) hmem) h) (fun h => .writeLine h hmem)) (fun h => .setWay h) (fun h =>
        .upd h rfl)
    · exact .ite (.nextFill (.installFill h hmem) hmem) h
  · split
    · exact .setVictims (.when (.ite (.nextFill (.installFill h hmem) hmem) h) (fun h => .writeLine h hmem))
    · exact .ite (.nextFill (.installFill h hmem) hmem) h

theorem Keeps.dropLines {W : Writes} {s₀ s : State} {ls : List Nat} {all : Bool} (h : Keeps W s₀ s) (hmem : W.mem) : Keeps W s₀
    (s.dropLines ls all).2 :=
  .foldlPairSnd (fun _ _ h => .dropLine h hmem) h

theorem Keeps.dropUnits {W : Writes} {s₀ s : State} {units : List Nat} {all : Bool} (h : Keeps W s₀ s) (hmem : W.mem) :
    Keeps W s₀ (s.dropUnits units all) :=
  .store (.nearViews (.dropLines h hmem)) (.setMem hmem .marks) rfl

theorem Keeps.flashViews {W : Writes} {s₀ s : State} (h : Keeps W s₀ s) : Keeps W s₀ (s.flashViews) :=
  .wr (.wr (.wr (.wr (.wr (.wr (.wr (.wr h rfl) rfl) rfl) rfl) rfl) rfl) rfl) rfl

theorem Keeps.dropObject {W : Writes} {s₀ s : State} {id : Nat} (h : Keeps W s₀ s) (hmem : W.mem) : Keeps W s₀ (s.dropObject id) :=
  .flashViews (.tierViews (.upd (.dropUnits h hmem) rfl))

theorem Keeps.markScheduled {W : Writes} {s₀ s : State} {o : Nat} (h : Keeps W s₀ s) (hregions : W.regions) : Keeps W s₀
    (s.markScheduled o) :=
  .store h (.setRegions hregions) rfl

theorem Keeps.dropSchedule {W : Writes} {s₀ s : State} {id : Nat} (h : Keeps W s₀ s) (hregions : W.regions) : Keeps W s₀
    (s.dropSchedule id) := by
  unfold State.dropSchedule
  split
  · exact h
  · exact .tierViews (.markScheduled (.upd h rfl) hregions)

theorem Keeps.newTableKey {W : Writes} {s₀ s : State} (h : Keeps W s₀ s) :
    Keeps W s₀ (s.newTableKey) :=
  .upd (.fresh (bits := 256) h) rfl

theorem Keeps.keyViews {W : Writes} {s₀ s : State} (h : Keeps W s₀ s) : Keeps W s₀ (s.keyViews) :=
  .wr (.wr h rfl) rfl

theorem Keeps.removeSlot {W : Writes} {s₀ s : State} {slot : Nat} (h : Keeps W s₀ s) (hslots : W.slots) : Keeps W s₀ (s.removeSlot slot)
    :=
  .keyViews (.wr (.wr (.newTableKey (.store h (.setSlots hslots) rfl)) rfl) rfl)

theorem Keeps.queuePush {W : Writes} {s₀ s : State} {cmd : Option Nat} {opcode : Nat} {params : List Nat} {p : Nat} (h : Keeps W s₀ s)
    (hmembers : W.members) : Keeps W s₀ (s.queuePush cmd opcode params p) := by
  unfold State.queuePush
  split
  · exact h
  · exact .store h (.setMembers hmembers) rfl

theorem Keeps.queuePushes {W : Writes} {s₀ s : State} {cmd : Option Nat} {opcode : Nat} {params : List Nat} (h : Keeps W s₀ s)
    (hmembers : W.members) : Keeps W s₀ (s.queuePushes cmd opcode params) :=
  .foldl (fun _ _ h => .queuePush h hmembers) h

theorem Keeps.settlePushes {W : Writes} {s₀ s : State} (h : Keeps W s₀ s) : Keeps W s₀ (s.settlePushes) :=
  .foldl (fun _ _ h => .ite h (.endCmd (.upd h rfl))) (.wr h rfl)

theorem Keeps.sendPushes {W : Writes} {s₀ s : State} (h : Keeps W s₀ s) : Keeps W s₀ (s.sendPushes) := by
  unfold State.sendPushes
  refine .foldl (fun _ _ h => ?_) h
  refine .ite h ?_
  split
  · exact h
  · exact .sendRequest (.upd h rfl)

theorem Keeps.finishPushed {W : Writes} {s₀ s : State} {c : Cmd} {params : List Nat} {result : Nat} (h : Keeps W s₀ s) (hmembers :
    W.members) : Keeps W s₀ (s.finishPushed c params result) :=
  .ite (.endCmd h) (.settlePushes (.sendPushes (.upd (.queuePushes h hmembers) rfl)))

theorem Keeps.mirrorChange {W : Writes} {s₀ s : State} {opcode : Nat} {params : List Nat} (h : Keeps W s₀ s) : Keeps W s₀
    (s.mirrorChange opcode params) :=
  .ite h (.ite (.sendCommand h) (.upd h rfl))

theorem Keeps.keepAnswer {W : Writes} {s₀ s : State} {a : DomainAnswer} (h : Keeps W s₀ s) : Keeps W s₀ (s.keepAnswer a) :=
  .upd h rfl

theorem Keeps.answerDomain {W : Writes} {s₀ s : State} {a : DomainAnswer} (h : Keeps W s₀ s) : Keeps W s₀ (s.answerDomain a) :=
  .sendDomainTo (.keepAnswer h)

theorem Keeps.endPush {W : Writes} {s₀ s : State} {status : Nat} {detail : Nat} (h : Keeps W s₀ s) : Keeps W s₀ (s.endPush status detail)
    := by
  unfold State.endPush
  split
  · exact h
  · exact .answerDomain (.mirrorChange (.upd h rfl))

theorem Keeps.setSync {W : Writes} {s₀ s : State} {c : Nat} (h : Keeps W s₀ s) (hmem : W.mem) : Keeps W s₀ (s.setSync c) :=
  .ite (.reloadLocks (.wr (.showSync h) rfl) hmem) (.showSync h)

theorem Keeps.sendTiles {W : Writes} {s₀ s : State} {o reload fuel off : Nat} {d : List Byte} (h : Keeps W s₀ s) :
    Keeps W s₀ (s.sendTiles o reload fuel off d) := by
  induction fuel generalizing s off d with
  | zero => exact h
  | succ fuel ih =>
    unfold State.sendTiles
    exact .ite h (ih (.sendItem h))

theorem Keeps.sendTile {W : Writes} {s₀ s : State} {o : Nat} {k : Nat} (h : Keeps W s₀ s) : Keeps W s₀ (s.sendTile o k) := by
  unfold State.sendTile
  split
  · exact h
  · exact .sendTiles h

theorem Keeps.sendObjects {W : Writes} {s₀ s : State} (h : Keeps W s₀ s) : Keeps W s₀ (s.sendObjects) :=
  .foldl (fun _ _ h => .upd (.foldl (fun _ _ h => .sendTile h) h) rfl) h

theorem Keeps.reportInd {W : Writes} {s₀ s : State} (h : Keeps W s₀ s) : Keeps W s₀ (s.reportInd) := by
  unfold State.reportInd
  split
  · exact h
  · exact .raiseKeeper (.upd h rfl)

theorem Keeps.reportLinks {W : Writes} {s₀ s : State} (h : Keeps W s₀ s) : Keeps W s₀ (s.reportLinks) :=
  .foldl (fun _ _ h => .foldl (fun _ _ h => .setLink h) (.setPort h)) h

theorem Keeps.twinViews {W : Writes} {s₀ s : State} (h : Keeps W s₀ s) : Keeps W s₀ (s.twinViews) :=
  .upd (.unless (.wr (.flag (.wr h rfl) rfl) rfl) (fun h => .reportInd (.reportLinks h))) rfl

theorem Keeps.endResync {W : Writes} {s₀ s : State} (h : Keeps W s₀ s) (hmem : W.mem) : Keeps W s₀ (s.endResync) :=
  .sendObjects (.twinViews (.raise (.ite (.when (.wr (.setSync (.sendItem (.upd h rfl)) hmem) rfl) (fun h => .sendRequest h)) (.setSync
    (.sendItem (.upd h rfl)) hmem))))

theorem Keeps.settleResync {W : Writes} {s₀ s : State} (h : Keeps W s₀ s) (hmem : W.mem) : Keeps W s₀ (s.settleResync) := by
  unfold State.settleResync
  split
  · exact .ite (.endResync h hmem) (.twinViews h)
  · exact h

theorem Keeps.carryStreams {W : Writes} {s₀ s : State} (h : Keeps W s₀ s) : Keeps W s₀ (s.carryStreams) :=
  .foldl (fun _ _ h => .foldl (fun _ _ h => .carryStream h) (.carryStream h)) (.foldl (fun _ _ h => .ite (.foldl (fun _ _ h =>
    .carryStream (.carryStream h)) (.carryStream (.carryStream h))) h) (.carryStream h))

theorem Keeps.replayNext {W : Writes} {s₀ s : State} (h : Keeps W s₀ s) (hmem : W.mem) : Keeps W s₀ (s.replayNext) := by
  unfold State.replayNext
  split
  · exact .upd (.sendCommand h) rfl
  · exact .settleResync (.carryStreams (.upd h rfl)) hmem
  · exact h

theorem Keeps.cmdEvent {W : Writes} {s₀ s : State} {c : Cmd} {src : Nat} {vs : List (Nat × Nat)} (h : Keeps W s₀ s) : Keeps W s₀
    (s.cmdEvent c src vs) :=
  .updCmd (.raiseTag h)

theorem Keeps.startResync {W : Writes} {s₀ s : State} {full : Bool} {cmd : Option Nat} (h : Keeps W s₀ s) (hmem : W.mem) : Keeps W
    s₀ (s.startResync full cmd) := by
  unfold State.startResync
  refine .ite h ?_
  refine .replayNext ?_ hmem
  split
  · exact .cmdEvent (.setSync (.sendItem (.upd (.ite (.markUnits h) h) rfl)) hmem)
  · exact .raise (.setSync (.sendItem (.upd (.ite (.markUnits h) h) rfl)) hmem)

theorem Keeps.ifDomainWide {W : Writes} {s₀ s : State} {c : Cmd} {f : State → State}
    (hf : ∀ s, Keeps W s₀ s → Keeps W s₀ (f s)) (h : Keeps W s₀ s) : Keeps W s₀ (s.ifDomainWide c f) :=
  .ite (.refuse h) (hf _ h)

theorem Keeps.createPd {W : Writes} {s₀ s : State} {pd : Nat} (h : Keeps W s₀ s) (hpds : W.pds) : Keeps W s₀ (s.createPd pd) :=
  .protViews (.store h (.setPds hpds) rfl)

theorem KeepsOut.pdCreate {W : Writes} {s₀ s : State} {r : CmdRef} {pd : Nat} (h : Keeps W s₀ s) (hpds : W.pds) (hmembers : W.members) :
    KeepsOut W s₀ (execPdCreate r pd s) := by
  unfold execPdCreate
  dsimp only
  refine .next ?_
  refine .command (fun _ _ h => ?_) h
  refine .ifHolder (fun _ h => ?_) h
  refine .ifDomainWide (fun _ h => ?_) h
  split
  · exact .refuse h
  · exact .ite (.refuse h) (.finishPushed (.mirrorCommand (.createPd h hpds)) hmembers)

theorem Keeps.bind {W : Writes} {s₀ s : State} {pd : Nat} {region : Nat} {rw : Bool} (h : Keeps W s₀ s) : Keeps W s₀ (s.bind pd region
    rw) :=
  .protViews (.upd h rfl)

theorem KeepsOut.pdBindRegion {W : Writes} {s₀ s : State} {r : CmdRef} {pd : Nat} {region : Nat} {access : Nat} (h : Keeps W s₀ s) :
    KeepsOut W s₀ (execPdBindRegion r pd region access s) := by
  unfold execPdBindRegion
  dsimp only
  refine .next ?_
  refine .command (fun _ _ h => ?_) h
  refine .ifHolder (fun _ h => ?_) h
  split
  · exact .refuse h
  · exact .refuse h
  · exact .ite (.refuse h) (.ite (.refuse h) (.ite (.updCmd h) (.ite (.refuse h) (.finish (.clamped (.mirrorCommand (.bind h)))))))

theorem Keeps.setSpaceKey {W : Writes} {s₀ s : State} {pd : Nat} {key : Nat} {grace : Nat} {until_ : Option Nat} (h : Keeps W s₀ s)
    (hpds : W.pds) : Keeps W s₀ (s.setSpaceKey pd key grace until_) :=
  .store h (.setPds hpds) rfl

theorem KeepsOut.spacekeySet {W : Writes} {s₀ s : State} {r : CmdRef} {pd : Nat} {key : Nat} {grace : Nat} (h : Keeps W s₀ s) (hpds :
    W.pds) (hmembers : W.members) : KeepsOut W s₀ (execSpacekeySet r pd key grace s) :=
  .next (.command (fun _ _ h => .ifHolder (fun _ h => .ifDomainWide (fun _ h => .ite (.refuse h) (.finishPushed (.mirrorCommand (.clamped
    (.upd (.setSpaceKey h hpds) rfl))) hmembers)) h) h) h)

theorem Keeps.createQueue {W : Writes} {s₀ s : State} {id : Nat} {pd : Nat} {key : Nat} (h : Keeps W s₀ s) (hqueues : W.queues) :
    Keeps W s₀ (s.createQueue id pd key) :=
  .cergaViews (.store h (.setQueues hqueues) rfl)

theorem KeepsOut.queueCreate {W : Writes} {s₀ s : State} {r : CmdRef} {id : Nat} {pd : Nat} {key : Nat} (h : Keeps W s₀ s) (hmembers :
    W.members) (hqueues : W.queues) : KeepsOut W s₀ (execQueueCreate r id pd key s) := by
  unfold execQueueCreate
  dsimp only
  refine .next ?_
  refine .command (fun _ _ h => ?_) h
  refine .ifHolder (fun _ h => ?_) h
  refine .ifDomainWide (fun _ h => ?_) h
  split
  · exact .refuse h
  · exact .finishPushed (.mirrorCommand (.createQueue h hqueues)) hmembers

theorem Keeps.createQp {W : Writes} {s₀ s : State} {q : Nat} {pd : Nat} (h : Keeps W s₀ s) : Keeps W s₀ (s.createQp q pd) :=
  .roceViews (.setQp h)

theorem KeepsOut.qpCreate {W : Writes} {s₀ s : State} {r : CmdRef} {num : Nat} {pd : Nat} (h : Keeps W s₀ s) : KeepsOut W s₀
    (execQpCreate r num pd s) := by
  unfold execQpCreate
  dsimp only
  refine .next ?_
  refine .command (fun _ _ h => ?_) h
  refine .ifHolder (fun _ h => ?_) h
  split
  · exact .refuse h
  · exact .ite (.refuse h) (.ite (.refuse h) (.endCmd (.mirrorCommand (.createQp h))))

theorem Keeps.modifyQp {W : Writes} {s₀ s : State} {q : Nat} {goal : Nat} {p : QpParams} (h : Keeps W s₀ s) : Keeps W s₀ (s.modifyQp q
    goal p) := by
  unfold State.modifyQp
  split
  · exact h
  · exact .ite (.setQp h) (.ite (.setQp h) (.qpToErr h))

theorem Keeps.commitSlot {W : Writes} {s₀ s : State} {id : Nat} {type : Nat} {exportable : Bool} {key : Nat} (h : Keeps W s₀ s)
    (hslots : W.slots) : Keeps W s₀ (s.commitSlot id type exportable key) :=
  .keyViews (.store h (.setSlots hslots) rfl)

theorem Keeps.clearKeyRegs {W : Writes} {s₀ s : State} (h : Keeps W s₀ s) (hkeyRegs : W.keyRegs) : Keeps W s₀ (s.clearKeyRegs) :=
  .wr (.store h (.setKeyRegs hkeyRegs) rfl) rfl

theorem KeepsOut.keyCommit {W : Writes} {s₀ s : State} {r : CmdRef} {id : Nat} {type : Nat} {source : Nat} {flags : Nat} {wrapId : Nat}
    {blob : Nat} (h : Keeps W s₀ s) (hslots : W.slots) (hkeyRegs : W.keyRegs) : KeepsOut W s₀ (execKeyCommit r id type source flags
    wrapId blob s) := by
  unfold execKeyCommit
  dsimp only
  refine .next ?_
  refine .command (fun _ _ h => ?_) h
  refine .ifHolder (fun _ h => ?_) h
  refine .ite (.refuse h) ?_
  refine .ite (.refuse h) ?_
  refine .ite (.finish (.clamped (.mirrorCommand (.commitSlot (.fresh h) hslots)))) ?_
  refine .ite (.ite (.refuse h) (.finish (.clamped (.mirrorCommand (.commitSlot (.clearKeyRegs h hkeyRegs) hslots))))) ?_
  split
  · exact .finish (.clamped (.mirrorCommand (.commitSlot h hslots)))
  · exact .refuse h

theorem Keeps.beginDestroy {W : Writes} {s₀ s : State} {k : Nat} (h : Keeps W s₀ s) (hregions : W.regions) (hslots : W.slots) :
    Keeps W s₀ (s.beginDestroy k) :=
  .store (.foldl (fun _ _ h => .dropUnadmitted h) (.foldl (fun _ _ h => .store h (.setRegions hregions) rfl) h)) (.setSlots hslots) rfl

theorem Keeps.runXts {W : Writes} {s₀ s : State} {c : Cmd} {p : CipherParams} {key : Nat} (h : Keeps W s₀ s) : Keeps W s₀ (s.runXts c p
    key) :=
  .finish (.send h)

theorem Keeps.setContext {W : Writes} {s₀ s : State} {i : Nat} {x : Option CipherContext} (h : Keeps W s₀ s) : Keeps W s₀
    (s.setContext i x) := by
  unfold State.setContext
  refine .keyViews ?_
  split
  · exact .upd h rfl
  · exact .upd h rfl

theorem Keeps.runStream {W : Writes} {s₀ s : State} {c : Cmd} {p : CipherParams} {key : Nat} {x : CipherContext} (h : Keeps W s₀ s)
    : Keeps W s₀ (s.runStream c p key x) :=
  .ite (.refuse (.bump (.send (.setContext h)) rfl)) (.endCmd (.unless (.setContext h) (fun h => .send h)))

theorem Keeps.nextVector {W : Writes} {s₀ s : State} {slot : Nat} (h : Keeps W s₀ s) (hslots : W.slots) : Keeps W s₀ (s.nextVector slot)
    :=
  .store h (.setSlots hslots) rfl

theorem KeepsOut.cipherOp {W : Writes} {s₀ s : State} {r : CmdRef} {params : CipherParams} (h : Keeps W s₀ s) (hslots : W.slots) :
    KeepsOut W s₀ (execCipherOp r params s) := by
  unfold execCipherOp
  dsimp only
  refine .next ?_
  refine .command (fun _ _ h => ?_) h
  refine .ite (.refuse h) ?_
  split
  · exact .refuse h
  · refine .ite (.ite (.finish h) (.runXts (.clamped h))) ?_
    refine .ite (.refuse h) ?_
    refine .ite (.finish h) ?_
    split
    · exact .runStream (.clamped h)
    · exact .runStream (.ite (.nextVector (.clamped h) hslots) (.clamped h))

theorem KeepsOut.contextSave {W : Writes} {s₀ s : State} {r : CmdRef} {context : Nat} {form : Nat} {addr : Nat} (h : Keeps W s₀ s) :
    KeepsOut W s₀ (execContextSave r context form addr s) := by
  unfold execContextSave
  refine .next ?_
  refine .command (fun _ _ h => ?_) h
  refine .ite (.refuse h) ?_
  split
  · exact .refuse h
  · exact .ite (.refuse h) (.finish (.send (.clamped h)))

theorem KeepsOut.contextRestore {W : Writes} {s₀ s : State} {r : CmdRef} {context : Nat} {form : Nat} {addr : Nat} {record : List Byte}
    (h : Keeps W s₀ s) : KeepsOut W s₀ (execContextRestore r context form addr record s) := by
  unfold execContextRestore
  refine .next ?_
  refine .command (fun _ _ h => ?_) h
  refine .ite (.refuse h) ?_
  split
  · exact .refuse h
  · exact .ite (.finish (.setContext (.clamped h))) (.refuse h)

theorem Keeps.setObject {W : Writes} {s₀ s : State} {o : Nat} {x : Object} (h : Keeps W s₀ s) : Keeps W s₀ (s.setObject o x) :=
  .upd h rfl

theorem Keeps.createObject {W : Writes} {s₀ s : State} {id : Nat} {code : Nat} {header : Bool} {key : Nat} {size : Nat} {owner : Nat}
    {tag : Nat} (h : Keeps W s₀ s) : Keeps W s₀ (s.createObject id code header key size owner tag) :=
  .flashViews (.tierViews (.setObject h))

theorem KeepsOut.shelfObjectCreate {W : Writes} {s₀ s : State} {r : CmdRef} {id : Nat} {tileCode : Nat} {flags : Nat} {key : Nat}
    {size : Nat} {owner : Nat} {tag : Nat} (h : Keeps W s₀ s) : KeepsOut W s₀ (execShelfObjectCreate r id tileCode flags key size owner
      tag s) := by
  unfold execShelfObjectCreate
  dsimp only
  refine .next ?_
  refine .command (fun _ _ h => ?_) h
  refine .ifHolder (fun _ h => ?_) h
  split
  · exact .refuse h
  · exact .endCmd (.clamped (.mirrorCommand (.createObject h)))

theorem Keeps.waitForErase {W : Writes} {s₀ s : State} (h : Keeps W s₀ s) : Keeps W s₀ (s.waitForErase) :=
  .raise (.upd h rfl)

theorem Keeps.reloadTile {W : Writes} {s₀ s : State} {o : Nat} {k : Nat} (h : Keeps W s₀ s) : Keeps W s₀ (s.reloadTile o k) := by
  unfold State.reloadTile
  dsimp only
  split
  · exact .when (.updTile (.upd h rfl)) (fun h => .startEvict h)
  · exact .updTile (.upd h rfl)

theorem Keeps.programPage {W : Writes} {s₀ s : State} {page : FlashPage} {tag : Nat} (h : Keeps W s₀ s) : Keeps W s₀ (s.programPage page
    tag) :=
  .upd h rfl

theorem Keeps.programTile {W : Writes} {s₀ s : State} {x : Object} {o : Nat} {k : Nat} (h : Keeps W s₀ s) : Keeps W s₀
    (s.programTile x o k) :=
  .foldl (fun _ _ h => .programPage h) h

theorem Keeps.loadPiece {W : Writes} {s₀ s : State} {o : Nat} {off : Nat} {data : List Byte} (h : Keeps W s₀ s) : Keeps W s₀
    (s.loadPiece o off data).2 := by
  unfold State.loadPiece
  dsimp only
  split
  · exact h
  · split
    · exact .flashViews (.foldl (fun _ _ h => .programTile h) (.upd (.foldl (fun _ _ h => .reloadTile h) h) rfl))
    · exact .iteSnd (.flashViews (.setObject (.foldl (fun _ _ h => .programTile h) (.upd (.foldl (fun _ _ h => .reloadTile h) h) rfl))))
        (.flashViews (.foldl (fun _ _ h => .programTile h) (.upd (.foldl (fun _ _ h => .reloadTile h) h) rfl)))

theorem Keeps.noTwinCopy {W : Writes} {s₀ s : State} {o : Nat} (h : Keeps W s₀ s) : Keeps W s₀ (s.noTwinCopy o) :=
  .upd h rfl

theorem KeepsOut.shelfObjectLoad {W : Writes} {s₀ s : State} {r : CmdRef} {id : Nat} {flags : Nat} {off : Nat} {host : Nat} {data : List
    Byte} (h : Keeps W s₀ s) (hmem : W.mem) : KeepsOut W s₀ (execShelfObjectLoad r id flags off host data s) := by
  unfold execShelfObjectLoad
  refine .next ?_
  refine .command (fun _ _ h => ?_) h
  refine .ifHolder (fun _ h => ?_) h
  refine .ite (.refuse h) ?_
  split
  · exact .refuse h
  · exact .ite (.updCmd h) (.ite (.updCmd (.waitForErase h)) (.finish (.advanceAll (.ite (.ite (.cmdEvent (.loadPiece h)) (.loadPiece h))
      (.iteOn (.ite (.cmdEvent (.loadPiece h)) (.loadPiece h)) (fun h => .mirrorCommand (.sendTiles h)) (fun h => .noTwinCopy h))) hmem)))

theorem KeepsOut.shelfObjectDrop {W : Writes} {s₀ s : State} {r : CmdRef} {id : Nat} (h : Keeps W s₀ s) (hmem : W.mem) : KeepsOut W
    s₀ (execShelfObjectDrop r id s) :=
  .next (.command (fun _ _ h => .ifHolder (fun _ h => .ite (.refuse h) (.ite (.refuse h) (.finish (.dropObject (.mirrorCommand h)
    hmem)))) h) h)

theorem Keeps.loadSchedule {W : Writes} {s₀ s : State} {id : Nat} {x : Schedule} (h : Keeps W s₀ s) (hregions : W.regions) : Keeps W
    s₀ (s.loadSchedule id x) :=
  .tierViews (.markScheduled (.upd h rfl) hregions)

theorem KeepsOut.scheduleLoad {W : Writes} {s₀ s : State} {r : CmdRef} {id : Nat} {flags : Nat} {lookahead : Nat} {object : Nat} {pd :
    Nat} {cursors : Nat} {entries : Nat} {host : Nat} {list : List Nat} (h : Keeps W s₀ s) (hregions : W.regions) : KeepsOut W s₀
    (execScheduleLoad r id flags lookahead object pd cursors entries host list s) := by
  unfold execScheduleLoad
  refine .next ?_
  refine .command (fun _ _ h => ?_) h
  refine .ifHolder (fun _ h => ?_) h
  refine .ite (.refuse h) ?_
  split
  · exact .refuse h
  · exact .endCmd (.clamped (.mirrorCommand (.loadSchedule h hregions)))

theorem KeepsOut.scheduleDrop {W : Writes} {s₀ s : State} {r : CmdRef} {id : Nat} (h : Keeps W s₀ s) (hmem : W.mem) (hregions :
    W.regions) : KeepsOut W s₀ (execScheduleDrop r id s) :=
  .next (.command (fun _ _ h => .ifHolder (fun _ h => .ite (.refuse h) (.finish (.advanceAll (.dropSchedule (.mirrorCommand h) hregions)
    hmem))) h) h)

theorem Keeps.applyLock {W : Writes} {s₀ s : State} {region : Nat} {off : Nat} {len : Nat} {i : Nat} {repin : Bool} {cmd : Option Nat} (h
    : Keeps W s₀ s) (hmem : W.mem) : Keeps W s₀ (s.applyLock region off len i repin cmd) :=
  .nearViews (.settleLock (.wr (.upd (.ite h (.upd h rfl)) rfl) rfl) hmem)

theorem KeepsOut.cacheLock {W : Writes} {s₀ s : State} {r : CmdRef} {region : Nat} {off : Nat} {len : Nat} (h : Keeps W s₀ s) (hmem :
    W.mem) : KeepsOut W s₀ (execCacheLock r region off len s) := by
  unfold execCacheLock
  refine .next ?_
  refine .command (fun _ _ h => ?_) h
  refine .ifHolder (fun _ h => ?_) h
  split
  · exact .refuse h
  · exact .applyLock h hmem

theorem KeepsOut.cacheUnlock {W : Writes} {s₀ s : State} {r : CmdRef} {region : Nat} {off : Nat} {len : Nat} (h : Keeps W s₀ s) :
    KeepsOut W s₀ (execCacheUnlock r region off len s) := by
  unfold execCacheUnlock
  refine .next ?_
  refine .command (fun _ _ h => ?_) h
  refine .ifHolder (fun _ h => ?_) h
  split
  · exact .refuse h
  · refine .ite (.refuse h) ?_
    split
    · exact .refuse h
    · exact .finish (.unlockEntry (.mirrorCommand h))

theorem KeepsOut.cacheRangeInvalidate {W : Writes} {s₀ s : State} {r : CmdRef} {region : Nat} {off : Nat} {len : Nat} (h : Keeps W s₀ s)
    (hmem : W.mem) : KeepsOut W s₀ (execCacheRangeInvalidate r region off len s) := by
  unfold execCacheRangeInvalidate
  refine .next ?_
  refine .command (fun _ _ h => ?_) h
  split
  · exact .refuse h
  · exact .ite (.refuse h) (.endCmd (.advanceAll (.nearViews (.dropLines h hmem)) hmem))

theorem Keeps.closeAccount {W : Writes} {s₀ s : State} {k : Nat} (h : Keeps W s₀ s) (haccounts : W.accounts) : Keeps W s₀
    (s.closeAccount k) :=
  .freeAccounts (.store h (.setAccounts haccounts) rfl) haccounts

theorem Keeps.createAccount {W : Writes} {s₀ s : State} {k : Nat} {tenant : Nat} (h : Keeps W s₀ s) (haccounts : W.accounts) : Keeps
    W s₀ (s.createAccount k tenant) :=
  .freeAccounts (.store h (.setAccounts haccounts) rfl) haccounts

theorem KeepsOut.accountCreate {W : Writes} {s₀ s : State} {r : CmdRef} {account : Nat} {mode : Nat} {tenant : Nat} (h : Keeps W s₀ s)
    (haccounts : W.accounts) : KeepsOut W s₀ (execAccountCreate r account mode tenant s) := by
  unfold execAccountCreate
  dsimp only
  refine .next ?_
  refine .command (fun _ _ h => ?_) h
  refine .ifHolder (fun _ h => ?_) h
  refine .ite (.ite (.refuse h) (.ite (.refuse h) (.endCmd (.mirrorCommand (.closeAccount h haccounts))))) ?_
  split
  · exact .refuse h
  · exact .ite (.refuse h) (.endCmd (.clamped (.mirrorCommand (.createAccount h haccounts))))

theorem Keeps.bindAccount {W : Writes} {s₀ s : State} {region : Bool} {target : Nat} {k : Nat} (h : Keeps W s₀ s) (hpds : W.pds)
    (hregions : W.regions) : Keeps W s₀ (s.bindAccount region target k) :=
  .ite (.store h (.setRegions hregions) rfl) (.store h (.setPds hpds) rfl)

theorem KeepsOut.accountBind {W : Writes} {s₀ s : State} {r : CmdRef} {kind : Nat} {target : Nat} {account : Nat} (h : Keeps W s₀ s)
    (hpds : W.pds) (hregions : W.regions) : KeepsOut W s₀ (execAccountBind r kind target account s) :=
  .next (.command (fun _ _ h => .ifHolder (fun _ h => .ite (.refuse h) (.ite (.refuse h) (.finish (.clamped (.mirrorCommand (.bindAccount
    h hpds hregions)))))) h) h)

theorem KeepsOut.meterExportSetup {W : Writes} {s₀ s : State} {r : CmdRef} {ring : Nat} {flags : Nat} {first : Nat} {last : Nat} (h :
    Keeps W s₀ s) : KeepsOut W s₀ (execMeterExportSetup r ring flags first last s) :=
  .next (.command (fun _ _ h => .ite (.refuse h) (.finish (.clamped (.upd h rfl)))) h)

theorem Keeps.setShaper {W : Writes} {s₀ s : State} {pd : Nat} {opsRate : Nat} {opsBurst : Nat} {bytesRate : Nat} {burst : Nat} (h :
    Keeps W s₀ s) : Keeps W s₀ (s.setShaper pd opsRate opsBurst bytesRate burst) :=
  .upd h rfl

theorem Keeps.pumpCut {W : Writes} {s₀ s : State} (h : Keeps W s₀ s) : Keeps W s₀ (s.pumpCut) :=
  .foldl (fun _ _ h => .sendItem h) (.upd h rfl)

theorem Keeps.flushStream {W : Writes} {s₀ s : State} (h : Keeps W s₀ s) : Keeps W s₀ (s.flushStream) :=
  .pumpCut (.flushFrame h)

theorem Keeps.endSwitch {W : Writes} {s₀ s : State} {cmd : Option Nat} {reason : Option Nat} (h : Keeps W s₀ s) : Keeps W s₀
    (s.endSwitch cmd reason) := by
  unfold State.endSwitch
  split
  · exact h
  · split
    · exact .refuse h
    · exact .finish h

theorem Keeps.stickEntries {W : Writes} {s₀ s : State} (h : Keeps W s₀ s) : Keeps W s₀ (s.stickEntries) :=
  .upd h rfl

theorem Keeps.restartQueues {W : Writes} {s₀ s : State} (h : Keeps W s₀ s) : Keeps W s₀ (s.restartQueues) :=
  .stickEntries (.upd h rfl)

theorem Keeps.releaseAnswers {W : Writes} {s₀ s : State} (h : Keeps W s₀ s) : Keeps W s₀ (s.releaseAnswers) :=
  .foldl (fun _ _ h => .answerDomain h) (.upd h rfl)

theorem Keeps.localiseCommands {W : Writes} {s₀ s : State} (h : Keeps W s₀ s) : Keeps W s₀ (s.localiseCommands) :=
  .releaseAnswers (.upd (.foldl (fun _ _ h => .noTwinCopy h) h) rfl)

theorem Keeps.releaseStuck {W : Writes} {s₀ s : State} (h : Keeps W s₀ s) (hmem : W.mem) : Keeps W s₀ (s.releaseStuck) := by
  unfold State.releaseStuck
  refine .advanceAll ?_ hmem
  refine .upd ?_ rfl
  refine .foldl (fun _ _ h => ?_) h
  split
  · exact .updOp (.markUnits h)
  · exact .markUnits h

theorem Keeps.releaseUnderMark {W : Writes} {s₀ s : State} (h : Keeps W s₀ s) (hmem : W.mem) : Keeps W s₀ (s.releaseUnderMark) :=
  .ite (.releaseStuck h hmem) h

theorem Keeps.gainMark {W : Writes} {s₀ s : State} (h : Keeps W s₀ s) (hmem : W.mem) : Keeps W s₀ (s.gainMark) :=
  .twinViews (.releaseUnderMark (.raise (.wr h rfl)) hmem)

theorem Keeps.resendStuck {W : Writes} {s₀ s : State} (h : Keeps W s₀ s) : Keeps W s₀ (s.resendStuck) :=
  .foldl (fun _ _ h => .upd (.mirrorData h) rfl) h

theorem Keeps.recheckAccept {W : Writes} {s₀ s : State} (h : Keeps W s₀ s) (hmem : W.mem) : Keeps W s₀ (s.recheckAccept) :=
  .ite (.ite (.resendStuck h) h) (.twinViews (.releaseUnderMark (.when (.localiseCommands (.stickEntries h)) (fun h => .wantMark h))
    hmem))

theorem Keeps.registerEpoch {W : Writes} {s₀ s : State} (h : Keeps W s₀ s) : Keeps W s₀ (s.registerEpoch) :=
  .ite (.sendRequest (.upd h rfl)) (.upd h rfl)

theorem Keeps.newIncarnation {W : Writes} {s₀ s : State} (h : Keeps W s₀ s) : Keeps W s₀ (s.newIncarnation) :=
  .carryStream (.wr (.upd h rfl) rfl)

theorem Keeps.restoreAsHolder {W : Writes} {s₀ s : State} (h : Keeps W s₀ s) : Keeps W s₀ (s.restoreAsHolder) :=
  .ite (.newIncarnation (.wr (.wr (.upd h rfl) rfl) rfl)) h

theorem Keeps.tokenInd {W : Writes} {s₀ s : State} {b : Bool} (h : Keeps W s₀ s) : Keeps W s₀ (s.tokenInd b) :=
  .upd h rfl

theorem Keeps.restoreDone {W : Writes} {s₀ s : State} (h : Keeps W s₀ s) (hmem : W.mem) : Keeps W s₀ (s.restoreDone) :=
  .reloadLocks (.raise (.wr h rfl)) hmem

theorem Keeps.firstAdmission {W : Writes} {s₀ s : State} (h : Keeps W s₀ s) (hmem : W.mem) (hledger : W.ledger) : Keeps W s₀
    (s.firstAdmission) :=
  .ite h (.ite (.ite (.restoreDone (.wr (.upd h rfl) rfl) hmem) (.wr (.wr (.upd h rfl) rfl) rfl)) (.iteOn (.ite (.restoreDone (.wr (.upd
    h rfl) rfl) hmem) (.wr (.wr (.upd h rfl) rfl) rfl)) (fun h => .newIncarnation h) (fun h => .raise (.newIncarnation (.store h
    (.setLedger hledger) rfl)))))

theorem Keeps.startTraining {W : Writes} {s₀ s : State} (h : Keeps W s₀ s) : Keeps W s₀ (s.startTraining) :=
  .send (.upd (.wr h rfl) rfl)

theorem Keeps.startYield {W : Writes} {s₀ s : State} {cause : Nat} {cmd : Option Nat} {tag : Nat} (h : Keeps W s₀ s) : Keeps W s₀
    (s.startYield cause cmd tag).2 :=
  .iteSnd (.twinViews (.ite (.raise (.upd h rfl)) (.upd h rfl))) (.ite (.raise h) h)

theorem Keeps.flagWindow {W : Writes} {s₀ s : State} {f : Nat} (h : Keeps W s₀ s) : Keeps W s₀ (s.flagWindow f) :=
  .upd h rfl

theorem Keeps.setCounter {W : Writes} {s₀ s : State} {id : Nat} {v : Nat} (h : Keeps W s₀ s) : Keeps W s₀ (s.setCounter id v) :=
  .queueLog (.upd h rfl)

theorem Keeps.fillBuckets {W : Writes} {s₀ s : State} (h : Keeps W s₀ s) : Keeps W s₀ (s.fillBuckets) :=
  .upd h rfl

theorem Keeps.tagResult {W : Writes} {s₀ s : State} {i : Nat} {c : CachedResult} (h : Keeps W s₀ s) : Keeps W s₀ (s.tagResult i c)
    := by
  unfold State.tagResult
  split
  · exact h
  · exact .updStream (.upd h rfl)

theorem Keeps.resumeStream {W : Writes} {s₀ s : State} {i : Nat} (h : Keeps W s₀ s) : Keeps W s₀ (s.resumeStream i) :=
  .ite h (.foldl (fun _ _ h => .tagResult h) (.setStream h))

theorem Keeps.switchOver {W : Writes} {s₀ s : State} {cause : Nat} {startedAt : Nat} {cmd : Option Nat} {tag : Nat} (h : Keeps W s₀ s) :
    Keeps W s₀ (s.switchOver cause startedAt cmd tag) := by
  unfold State.switchOver
  split
  · exact .raise (.bump (.wr (.wr h rfl) rfl) rfl)
  · exact .updCmd (.raiseTag (.bump (.wr (.wr h rfl) rfl) rfl))

theorem Keeps.probeResync {W : Writes} {s₀ s : State} {cmd : Nat} {full : Bool} (h : Keeps W s₀ s) : Keeps W s₀ (s.probeResync cmd full)
    := by
  unfold State.probeResync
  split
  · exact h
  · exact .updCmd (.upd (.sendCommand (.sendItem h)) rfl)

theorem KeepsOut.twinResync {W : Writes} {s₀ s : State} {r : CmdRef} {mode : Nat} (h : Keeps W s₀ s) (hmem : W.mem) : KeepsOut W s₀
    (execTwinResync r mode s) :=
  .next (.command (fun _ _ h => .ite (.refuse h) (.ite (.finish h) (.ite (.refuse h) (.ite (.finish (.probeResync (.clamped h))) (.finish
    (.startResync (.clamped h) hmem)))))) h)

theorem KeepsOut.domainCommand {W : Writes} {s₀ s : State} {r : CmdRef} {opcode : Nat} {f : Cmd → State → State}
    (hf : ∀ c s, Keeps W s₀ s → Keeps W s₀ (f c s)) (h : Keeps W s₀ s) : KeepsOut W s₀ (s.domainCommand r opcode f) :=
  .next (.command (fun c _ h => .ifHolder (hf c) h) h)

theorem Keeps.beginJoin {W : Writes} {s₀ s : State} {c : Cmd} {keyId : Nat} {ip : Nat} {peerRole : Nat} (h : Keeps W s₀ s) : Keeps W
    s₀ (s.beginJoin c keyId ip peerRole) :=
  .ite (.refuse h) (.ite (.refuse h) (.sendRequest (.wr (.upd (.foldl (fun _ _ h => .wrN h rfl) h) rfl) rfl)))

theorem Keeps.mirrorDomain {W : Writes} {s₀ s : State} (h : Keeps W s₀ s) : Keeps W s₀ (s.mirrorDomain) :=
  .mirrorChange h

theorem Keeps.setWitnesses {W : Writes} {s₀ s : State} {c : Cmd} {ws : List Nat} (h : Keeps W s₀ s) : Keeps W s₀ (s.setWitnesses c ws) :=
  .ite (.refuse h) (.finish (.mirrorDomain (.sendRequest (.upd h rfl))))

theorem Keeps.beginLeave {W : Writes} {s₀ s : State} {c : Cmd} (h : Keeps W s₀ s) : Keeps W s₀ (s.beginLeave c) :=
  .ite (.refuse h) (.ite (.refuse h) (.sendRequest (.wr (.upd h rfl) rfl)))

theorem Keeps.dropMember {W : Writes} {s₀ s : State} {p : Nat} (h : Keeps W s₀ s) (hmembers : W.members) : Keeps W s₀ (s.dropMember p) :=
  .store h (.setMembers hmembers) rfl

theorem Keeps.evict {W : Writes} {s₀ s : State} {c : Cmd} {p : Nat} (h : Keeps W s₀ s) (hmembers : W.members) : Keeps W s₀ (s.evict c p)
    :=
  .ite (.refuse h) (.ite (.refuse h) (.finish (.cmdEvent (.settlePushes (.relist (.mirrorChange (.dropMember h hmembers)))))))

theorem KeepsOut.domainLeave {W : Writes} {s₀ s : State} {r : CmdRef} {mode : Nat} {pair : Nat} (h : Keeps W s₀ s) (hmembers : W.members)
    : KeepsOut W s₀ (execDomainLeave r mode pair s) :=
  .domainCommand (fun _ _ h => .ite (.refuse h) (.ite (.beginLeave (.clamped h)) (.evict (.clamped h) hmembers))) h

theorem Keeps.fwError {W : Writes} {s₀ s : State} {reason : Nat} {comp : Nat} (h : Keeps W s₀ s) : Keeps W s₀ (s.fwError reason comp) :=
  .wr (.wr h rfl) rfl

theorem Keeps.eraseSector {W : Writes} {s₀ s : State} {n : Nat} (h : Keeps W s₀ s) (hwords : W.words) : Keeps W s₀ (s.eraseSector n)
    :=
  .countErase (.store h (.setWords hwords) rfl)

theorem Keeps.eraseArea {W : Writes} {s₀ s : State} {first : Nat} {count : Nat} (h : Keeps W s₀ s) (hwords : W.words) : Keeps W s₀
    (s.eraseArea first count) :=
  .foldl (fun _ _ h => .eraseSector (.flagStarted h) hwords) h

theorem Keeps.writeKeeperSlot {W : Writes} {s₀ s : State} {b : Nat} (h : Keeps W s₀ s) (hwords : W.words) : Keeps W s₀
    (s.writeKeeperSlot b) :=
  .ite (.eraseArea (.eraseArea h hwords) hwords) (.eraseArea (.eraseArea h hwords) hwords)

theorem Keeps.setSlotPackage {W : Writes} {s₀ s : State} {b : Nat} {p : Option Package} (h : Keeps W s₀ s) (hfw : W.fw) : Keeps W s₀
    (s.setSlotPackage b p) :=
  .ite (.store h (.setFw hfw) rfl) (.store h (.setFw hfw) rfl)

theorem KeepsOut.fwStage {W : Writes} {s₀ s : State} {r : CmdRef} {host : Nat} {length : Nat} {p : Package} (h : Keeps W s₀ s)
    (hwords : W.words) (hfw : W.fw) : KeepsOut W s₀ (execFwStage r host length p s) :=
  .next (.command (fun _ _ h => .ite (.refuse h) (.ite (.refuse (.fwError h)) (.ite (.refuse (.fwError h)) (.ite (.refuse (.fwError
    (.writeKeeperSlot (.setSlotPackage (.wr h (fSlot_free _)) hfw) hwords))) (.iteOn (.writeKeeperSlot (.setSlotPackage (.wr h
    (fSlot_free _)) hfw) hwords) (fun h => .refuse (.fwError h)) (fun h => .finish (.setSlotPackage (.wr h (fSlot_free _)) hfw))))))) h)

theorem KeepsOut.fwActivate {W : Writes} {s₀ s : State} {r : CmdRef} {slot : Nat} (h : Keeps W s₀ s) (hsave : W.save) : KeepsOut W
    s₀ (execFwActivate r slot s) := by
  unfold execFwActivate
  refine .next ?_
  refine .command (fun _ _ h => ?_) h
  refine .ite (.refuse h) ?_
  refine .ite ?_ (.ite (.endCmd (.startSave (.wr h (fSlot_free _)) hsave)) (.refuse (.fwError h)))
  split
  · exact .refuse (.fwError h)
  · exact .ite (.endCmd (.startSave (.wr h (fSlot_free _)) hsave)) (.refuse (.fwError h))

theorem KeepsOut.fwCommit {W : Writes} {s₀ s : State} {r : CmdRef} (h : Keeps W s₀ s) : KeepsOut W s₀ (execFwCommit r s) := by
  unfold execFwCommit
  dsimp only
  refine .next ?_
  refine .command (fun _ _ h => ?_) h
  split
  · exact .ite (.finish (.wr (.wr (.wr (.wr (.writeCopy (.foldl (fun _ _ h => .wrN h rfl) h)) rfl) (fSlot_free _)) (fSlot_free _)) rfl))
      (.refuse (.fwError h))
  · exact .refuse (.fwError h)

theorem Keeps.newNonce {W : Writes} {s₀ s : State} (h : Keeps W s₀ s) :
    Keeps W s₀ (s.newNonce) :=
  .foldl (fun _ _ h => .wrN (.fresh (bits := 32) h) rfl) h

theorem Keeps.applyDebug {W : Writes} {s₀ s : State} {c : Change} (h : Keeps W s₀ s) : Keeps W s₀ (s.applyDebug c) :=
  .raiseKeeper (.ite (.upd (.wr (.wr h rfl) rfl) rfl) (.upd (.wr (.wr h rfl) rfl) rfl))

theorem Keeps.deriveXts {W : Writes} {s₀ s : State} (h : Keeps W s₀ s) (hslots : W.slots) : Keeps W s₀ (s.deriveXts) :=
  .store h (.setSlots hslots) rfl

theorem Keeps.eraseMedia {W : Writes} {s₀ s : State} (h : Keeps W s₀ s) (hmem : W.mem) (hpds : W.pds) (hregions : W.regions) (haccounts :
    W.accounts) (hmembers : W.members) (hslots : W.slots) (hqueues : W.queues) (hledger : W.ledger) :
    Keeps W s₀ (s.eraseMedia) :=
  .protViews (.keyViews (.store (.wr (.wr (.store (.upd (.store (.store (.upd (.store (.store (.upd (.store h (.setTables hpds hregions)
    rfl) rfl) (.setLedger hledger) rfl) (.setQueues hqueues) rfl) rfl) (.setAccounts haccounts) rfl) (.setMem hmem (fun _ => .empty))
    rfl) rfl) (.setMembers hmembers) rfl) rfl) rfl) (.setSlots hslots) rfl))

theorem KeepsOut.hallmarkIssue {W : Writes} {s₀ s : State} {r : CmdRef} {challenge : Nat} {host : Nat} (h : Keeps W s₀ s) : KeepsOut
    W s₀ (execHallmarkIssue r challenge host s) :=
  .next (.command (fun _ _ h => .ite (.refuse h) (.endCmd (.cmdEvent (.send h)))) h)

theorem KeepsOut.diagRead {W : Writes} {s₀ s : State} {r : CmdRef} {space : Nat} {index : Nat} {count : Nat} {host : Nat} (h : Keeps W s₀
    s) : KeepsOut W s₀ (execDiagRead r space index count host s) :=
  .next (.command (fun _ _ h => .ite (.refuse h) (.endCmd (.clamped (.ite h (.send h))))) h)

theorem KeepsOut.ledgerRead {W : Writes} {s₀ s : State} {r : CmdRef} {host : Nat} {start : Nat} {count : Nat} {flags : Nat} (h : Keeps W
    s₀ s) (hledger : W.ledger) : KeepsOut W s₀ (execLedgerRead r host start count flags s) :=
  .next (.command (fun _ _ h => .ite (.refuse h) (.ite (.finish (.clamped h)) (.endCmd (.clamped (.when (.ite h (.send h)) (fun h =>
    .store h (.setLedger hledger) rfl)))))) h)

theorem Keeps.submitMemop {W : Writes} {s₀ s : State} {c : Cmd} {q : Request} {clamps : Nat} (h : Keeps W s₀ s) (hmem : W.mem)
    (haccounts : W.accounts) : Keeps W s₀ (s.submitMemop c q clamps) :=
  .ite (.finish (.updCmd h)) (.ite (.updCmd (.updCmd h)) (.submit (.ite (.clamped (.updCmd h)) (.updCmd h)) hmem haccounts))

theorem KeepsOut.memopRead {W : Writes} {s₀ s : State} {r : CmdRef} {pd : Nat} {key : Nat} {addr : Nat} {len : Nat} {host : Nat} (h :
    Keeps W s₀ s) (hmem : W.mem) (haccounts : W.accounts) : KeepsOut W s₀ (execMemopRead r pd key addr len host s) :=
  .next (.command (fun _ _ h => .submitMemop h hmem haccounts) h)

theorem KeepsOut.memopWrite {W : Writes} {s₀ s : State} {r : CmdRef} {pd : Nat} {key : Nat} {addr : Nat} {len : Nat} {host : Nat}
    {data : List Byte} (h : Keeps W s₀ s) (hmem : W.mem) (haccounts : W.accounts) : KeepsOut W s₀ (execMemopWrite r pd key addr len host
      data s) :=
  .next (.command (fun _ _ h => .submitMemop h hmem haccounts) h)

theorem KeepsOut.saveNow {W : Writes} {s₀ s : State} {r : CmdRef} {action : Nat} {tag : Nat} (h : Keeps W s₀ s) (hsave : W.save) :
    KeepsOut W s₀ (execSaveNow r action tag s) :=
  .next (.command (fun _ _ h => .endCmd (.startSave (.clamped h) hsave)) h)

theorem Keeps.deriveTarget {W : Writes} {s₀ s : State} (h : Keeps W s₀ s) : Keeps W s₀ (s.deriveTarget) :=
  .wr (.wr h rfl) rfl

theorem Keeps.flushNear {W : Writes} {s₀ s : State} (h : Keeps W s₀ s) (hmem : W.mem) : Keeps W s₀ (s.flushNear) :=
  .nearViews (.upd (.dropLines (.foldl (fun _ _ h => .installFill h hmem) h) hmem) rfl)

theorem Keeps.codewordWritten {W : Writes} {s₀ s : State} {page : FlashPage} {tag : Nat} (h : Keeps W s₀ s) : Keeps W s₀
    (s.codewordWritten page tag) :=
  .upd (.programPage h) rfl

theorem Keeps.mergeImage {W : Writes} {s₀ s : State} {a : Nat} {d : List Byte} {lost : List Nat} (h : Keeps W s₀ s) (hmem : W.mem) :
    Keeps W s₀ (s.mergeImage a d lost) :=
  .foldl (fun _ _ h => .codewordWritten h) (.store h (.setMem hmem .imageWriteN) rfl)

theorem Keeps.mergeEntry {W : Writes} {s₀ s : State} {g : Gather} (h : Keeps W s₀ s) (hmem : W.mem) : Keeps W s₀ (s.mergeEntry g) :=
  .mergeImage h hmem

theorem Keeps.setMark {W : Writes} {s₀ s : State} {l : Nat} {b : Bool} (h : Keeps W s₀ s) (hmem : W.mem) :
    Keeps W s₀ (s.setMark l b) := by
  unfold State.setMark
  dsimp only
  split
  · split
    · exact .ite (.store h (.setMem hmem .marks) rfl) (.setWay h)
    · exact h
  · exact .ite (.setVictims h) (.store h (.setMem hmem .marks) rfl)

theorem Keeps.poisonChunks {W : Writes} {s₀ s : State} {ls : List Nat} (h : Keeps W s₀ s) (hmem : W.mem) : Keeps W s₀
    (s.poisonChunks ls) :=
  .foldl (fun _ _ h => .raise h) (.bump (.foldl (fun _ _ h => .setMark h hmem) h) rfl)

theorem Keeps.retagPage {W : Writes} {s₀ s : State} {page : Nat} (h : Keeps W s₀ s) : Keeps W s₀ (s.retagPage page) :=
  .upd h rfl

theorem Keeps.retagChunk {W : Writes} {s₀ s t : State} {l : Nat} (h : Keeps W s₀ t) : Keeps W s₀ (s.retagChunk t l) :=
  .ite (.retagPage h) (.upd h rfl)

theorem Keeps.applyLine {W : Writes} {s₀ s : State} {l o : Nat} {bs : List Byte} {whole : Bool} (h : Keeps W s₀ s) (hmem : W.mem) :
    Keeps W s₀ (s.applyLine l o bs whole) := by
  have hr : Keeps W s₀ (match s.findWay l with
      | some _ => s
      | none => match s.findVictim l with
        | some x => s.recall x
        | none => s) := by
    split
    · exact h
    · split
      · exact .recall h hmem
      · exact h
  unfold State.applyLine
  extract_lets _ upd
  split
  · split
    · exact .ite (.store hr (.setMem hmem .marks) rfl) (.setWay hr)
    · exact hr
  · split
    · exact .setVictims hr
    · exact .store hr (.setMem hmem .dramWriteN) rfl

theorem Keeps.applyBytes {W : Writes} {s₀ s : State} {fuel m : Nat} {bs : List Byte} (h : Keeps W s₀ s) (hmem : W.mem) :
    Keeps W s₀ (s.applyBytes fuel m bs) := by
  induction fuel generalizing s m bs with
  | zero => exact h
  | succ fuel ih =>
    unfold State.applyBytes
    exact .ite h (ih (.retagChunk (.applyLine h hmem)))

theorem Keeps.applyEntry {W : Writes} {s₀ s : State} {g : Gather} (h : Keeps W s₀ s) (hmem : W.mem) : Keeps W s₀ (s.applyEntry g) :=
  .upd (.poisonChunks (.applyBytes (.ite (.mergeEntry h hmem) h) hmem) hmem) rfl

theorem Keeps.settleDram {W : Writes} {s₀ s : State} (h : Keeps W s₀ s) (hmem : W.mem) : Keeps W s₀ (s.settleDram) :=
  .flushNear (.foldl (fun _ _ h => .applyEntry h hmem) h) hmem

theorem Keeps.paceViews {W : Writes} {s₀ s : State} (h : Keeps W s₀ s) : Keeps W s₀ (s.paceViews) := by
  unfold State.paceViews
  dsimp only
  split
  · exact .wr (.wr (.wr (.foldl (fun _ _ h => .wrN h rfl) h) rfl) rfl) rfl
  · exact .wr (.foldl (fun _ _ h => .wrN h rfl) h) rfl

theorem Keeps.dramState {W : Writes} {s₀ s : State} {old : Nat} {new : Nat} (h : Keeps W s₀ s) : Keeps W s₀ (s.dramState old new) :=
  .foldl (fun _ _ h => .ite (.wrN h rfl) h) h

theorem Keeps.cleanPage {W : Writes} {s₀ s : State} {page : Nat} (h : Keeps W s₀ s) : Keeps W s₀ (s.cleanPage page) := by
  unfold State.cleanPage
  exact .compareD (.ite (.upd h rfl) (.upd (.upd h rfl) rfl))

theorem Keeps.mapPage {W : Writes} {s₀ s : State} {page : Nat} (h : Keeps W s₀ s) (hmem : W.mem) : Keeps W s₀ (s.mapPage page) := by
  unfold State.mapPage
  split
  · exact h
  · rename_i p _
    have hw : Keeps W s₀ (match s.localOf (page * page4K) with
        | some a =>
          { s with mem.image := Mem.writeN s.mem.image a p.snapshot
                   mem.imagePoison := imageMarks s.mem.imagePoison a p.marks }.codewordWritten (.image (a / page4K)) (s.pageTag a
                     p.snapshot)
        | none => s) := by
      split
      · exact .codewordWritten (.store h (.setMem hmem .imageWriteN) rfl)
      · exact h
    exact .ite h (.ite (.upd (.upd (.bump hw rfl) rfl) rfl) (.cleanPage (.upd (.bump hw rfl) rfl)))

theorem Keeps.cleanLine {W : Writes} {s₀ s : State} {l : Nat} (h : Keeps W s₀ s) (hmem : W.mem) : Keeps W s₀ (s.cleanLine l) := by
  unfold State.cleanLine
  split
  · split
    · exact .ite (.setWay (.writeLine h hmem)) h
    · exact h
  · split
    · exact .ite (.setVictims (.writeLine h hmem)) h
    · exact h

theorem Keeps.snapshotPage {W : Writes} {s₀ s : State} {page : Nat} {p : DirtyPage} (h : Keeps W s₀ s) (hmem : W.mem) : Keeps W s₀
    (s.snapshotPage page p) :=
  .upd (.foldl (fun _ _ h => .cleanLine h hmem) h) rfl

theorem Keeps.programDirty {W : Writes} {s₀ s : State} {page : Nat} (h : Keeps W s₀ s) (hmem : W.mem) :
    Keeps W s₀ (s.programDirty page) := by
  unfold State.programDirty
  split
  · exact h
  · refine .ite ?_ (.upd (.mapPage (.snapshotPage h hmem) hmem) rfl)
    split
    · exact .store h (.setMem hmem .marks) rfl
    · exact h

theorem Keeps.programAll {W : Writes} {s₀ s : State} (h : Keeps W s₀ s) (hmem : W.mem) : Keeps W s₀ (s.programAll) :=
  .flashViews (.foldl (fun _ _ h => .programDirty h hmem) h)

theorem Keeps.enterQuiesce {W : Writes} {s₀ s : State} (h : Keeps W s₀ s) (hmem : W.mem) : Keeps W s₀ (s.enterQuiesce) :=
  .twinViews (.sendStatus (.paceViews (.setPower (.dramState (.programAll (.when (.settleDram (.upd h rfl) hmem) (fun h => .raise (.wr
    (.wr h rfl) rfl))) hmem)))))

theorem Keeps.quiesce {W : Writes} {s₀ s : State} {c : Cmd} {force : Bool} {clamps : Nat} (h : Keeps W s₀ s) (hmem : W.mem) : Keeps
    W s₀ (s.quiesce c force clamps) :=
  .ite (.refuse h) (.ite (.finish (.clamped h)) (.ite (.startYield (.upd (.clamped h) rfl)) (.finish (.enterQuiesce (.clamped h) hmem))))

theorem KeepsOut.quiesce {W : Writes} {s₀ s : State} {r : CmdRef} {level : Nat} {flags : Nat} (h : Keeps W s₀ s) (hmem : W.mem)
    (hsave : W.save) : KeepsOut W s₀ (execQuiesce r level flags s) :=
  .next (.command (fun _ _ h => .ite (.updCmd (.upd h rfl)) (.ite (.ite (.finish h) (.finish (.deriveTarget (.upd (.setPower h) rfl))))
    (.ite (.endCmd (.startSave h hsave)) (.quiesce h hmem)))) h)

theorem Keeps.startFails {W : Writes} {s₀ s : State} {code : Nat} (h : Keeps W s₀ s) : Keeps W s₀ (s.startFails code) :=
  .ite h (.wr (.wr h rfl) rfl)

theorem Keeps.cipherTests {W : Writes} {s₀ s : State} {mask : Nat} (h : Keeps W s₀ s) : Keeps W s₀ (s.cipherTests mask) :=
  .when (.foldl (fun _ _ h => .raise h) (.wr h rfl)) (fun h => .startFails h)

theorem Keeps.leaveQuiesce {W : Writes} {s₀ s : State} {mask : Nat} (h : Keeps W s₀ s) (hmem : W.mem) (haccounts : W.accounts)
    (hledger : W.ledger) : Keeps W s₀ (s.leaveQuiesce mask) :=
  .unless (.paceViews (.cipherTests (.setPower (.dramState h)))) (fun h => .moveWaiters (.firstAdmission (.twinViews (.sendStatus
    (.enableNear (.upd h rfl) hmem))) hmem hledger) hmem haccounts)

theorem KeepsOut.resume {W : Writes} {s₀ s : State} {r : CmdRef} {mask : Nat} (h : Keeps W s₀ s) (hmem : W.mem) (haccounts : W.accounts)
    (hledger : W.ledger) : KeepsOut W s₀ (execResume r mask s) :=
  .next (.command (fun _ _ h => .ite (.finish (.leaveQuiesce h hmem haccounts hledger)) (.ite (.finish (.deriveTarget (.upd (.setPower h)
    rfl))) (.finish h))) h)

theorem Keeps.reply {W : Writes} {s₀ s : State} {op : Nat} {seq : Nat} {status : Nat} {ws : List Nat} (h : Keeps W s₀ s) : Keeps W
    s₀ (s.reply op seq status ws) :=
  .upd h rfl

theorem KeepsOut.mboxRead {W : Writes} {s₀ s : State} {seq : Nat} {off : Nat} (h : Keeps W s₀ s) (hcaptures : W.captures) : KeepsOut
    W s₀ (execMboxRead seq off s) :=
  .next (.ite h (.ite (.reply (.readPath h hcaptures)) (.reply h)))

theorem KeepsOut.mboxWrite {W : Writes} {s₀ s : State} {seq : Nat} {off : Nat} {v : Nat} (h : Keeps W s₀ s) (hmem : W.mem) (hkeyRegs :
    W.keyRegs) (hsave : W.save) (hconfig : W.config) : KeepsOut W s₀ (execMboxWrite seq off v s) :=
  .next (.ite h (.ite (.reply (.writePath h hmem hkeyRegs hsave hconfig)) (.reply h)))

theorem Keeps.setRail {W : Writes} {s₀ s : State} {n : Nat} {r : Rail} (h : Keeps W s₀ s) : Keeps W s₀ (s.setRail n r) :=
  .upd h rfl

theorem Keeps.commandRail {W : Writes} {s₀ s : State} {on : Bool} {n : Nat} (h : Keeps W s₀ s) : Keeps W s₀ (s.commandRail on n) :=
  .ite (.wrN (.send (.setRail h)) rfl) (.unless (.send (.setRail h)) (fun h => .wrN h rfl))

theorem KeepsOut.mboxStatus {W : Writes} {s₀ s : State} {seq : Nat} (h : Keeps W s₀ s) : KeepsOut W s₀ (execMboxStatus seq s) :=
  .next (.ite (.reply h) h)

theorem KeepsOut.eventRead {W : Writes} {s₀ s : State} {seq : Nat} {start : Nat} {count : Nat} (h : Keeps W s₀ s) : KeepsOut W s₀
    (execEventRead seq start count s) :=
  .next (.ite (.reply h) h)

theorem KeepsOut.authChunk {W : Writes} {s₀ s : State} {seq : Nat} {off : Nat} {words : List Nat} (h : Keeps W s₀ s) : KeepsOut W s₀
    (execAuthChunk seq off words s) :=
  .next (.ite h (.ite (.reply h) (.reply (.upd h rfl))))

theorem KeepsOut.ackDelayTimer {W : Writes} {s₀ s : State} {index : Nat} (h : Keeps W s₀ s) : KeepsOut W s₀ (execAckDelayTimer index s) :=
  .next (.ite (.cergaAck h) h)

theorem KeepsOut.assemblyTimerExpiry {W : Writes} {s₀ s : State} {tag : Nat} (h : Keeps W s₀ s) (hmem : W.mem) : KeepsOut W s₀
    (execAssemblyTimerExpiry tag s) := by
  unfold execAssemblyTimerExpiry
  refine .next ?_
  split
  · exact h
  · split
    · exact .ite (.advanceAll (.raise (.bump (.endOp h) rfl)) hmem) h
    · exact h

theorem KeepsOut.streamLapse {W : Writes} {s₀ s : State} {index : Nat} (h : Keeps W s₀ s) : KeepsOut W s₀ (execStreamLapse index s)
    :=
  .next (.ite (.cergaViews (.bump (.setStream h) rfl)) h)

theorem KeepsOut.heldPacketAdmission {W : Writes} {s₀ s : State} {queue : Nat} {seq : Nat} (h : Keeps W s₀ s) (hmem : W.mem)
    (haccounts : W.accounts) : KeepsOut W s₀ (execHeldPacketAdmission queue seq s) := by
  unfold execHeldPacketAdmission
  refine .next ?_
  split
  · exact h
  · exact .ite (.processPacket (.upd h rfl) hmem haccounts) h

theorem Keeps.coverResponse {W : Writes} {s₀ s : State} {i : Nat} {seq : Nat} {packets : Nat} (h : Keeps W s₀ s) : Keeps W s₀
    (s.coverResponse i seq packets) :=
  .updStream h

theorem Keeps.cacheResult {W : Writes} {s₀ s : State} {i : Nat} {e : CachedResult} {reserve : Nat} (h : Keeps W s₀ s) : Keeps W s₀
    (s.cacheResult i e reserve) :=
  .updStream h

theorem Keeps.rememberRetry {W : Writes} {s₀ s : State} {q : Nat} {psn : Nat} {n : Nat} (h : Keeps W s₀ s) : Keeps W s₀
    (s.rememberRetry q psn n) := by
  unfold State.rememberRetry
  split
  · exact .setQp h
  · exact h

theorem Keeps.settleOwed {W : Writes} {s₀ s : State} {q window fuel : Nat} (h : Keeps W s₀ s) :
    Keeps W s₀ (s.settleOwed q window fuel) := by
  induction fuel generalizing s with
  | zero => exact h
  | succ fuel ih =>
    unfold State.settleOwed
    split
    · exact h
    · split
      · exact h
      · exact .ite h (ih (.roceNakNow (.setQp h)))

theorem Keeps.settleQp {W : Writes} {s₀ s : State} {q : Nat} {window : Nat} (h : Keeps W s₀ s) : Keeps W s₀ (s.settleQp q window) :=
  .settleOwed (.settleAcks h)

theorem Keeps.busyRequest {W : Writes} {s₀ s : State} {w : Waiter} (h : Keeps W s₀ s) : Keeps W s₀ (s.busyRequest w) := by
  unfold State.busyRequest
  dsimp only
  split
  · exact .when (.coverResponse (.cergaRespond (.charge (.dropWaiter h)))) (fun h => .cacheResult h)
  · exact .settleQp (.roceNak (.when (.charge (.dropWaiter h)) (fun h => .rememberRetry h)))
  · exact .finish (.charge (.dropWaiter h))

theorem KeepsOut.tagWaitTimeout {W : Writes} {s₀ s : State} {queue : Nat} {seq : Nat} (h : Keeps W s₀ s) (hmem : W.mem) (haccounts :
    W.accounts) : KeepsOut W s₀ (execTagWaitTimeout queue seq s) := by
  unfold execTagWaitTimeout
  refine .next ?_
  split
  · exact .ite (.moveWaiters (.busyRequest h) hmem haccounts) h
  · exact h

theorem Keeps.releaseRecords {W : Writes} {s₀ s : State} {p : LedgerRecord → Bool} (h : Keeps W s₀ s) (hledger : W.ledger) : Keeps W
    s₀ (s.releaseRecords p).2 :=
  .store h (.setLedger hledger) rfl

theorem KeepsOut.ledgerReleaseTimeout {W : Writes} {s₀ s : State} (h : Keeps W s₀ s) (hledger : W.ledger) : KeepsOut W s₀
    (execLedgerReleaseTimeout s) :=
  .next (.ite (.store (.releaseRecords h hledger) (.setLedger hledger) rfl) h)

theorem KeepsOut.qpContextFetchComplete {W : Writes} {s₀ s : State} {index : Nat} (h : Keeps W s₀ s) (hmem : W.mem) (haccounts :
    W.accounts) : KeepsOut W s₀ (execQpContextFetchComplete index s) :=
  .next (.ite h (.foldl (fun _ _ h => .rocePacket h hmem haccounts) (.cacheQp (.upd h rfl))))

theorem KeepsOut.roceAssemblyTimeout {W : Writes} {s₀ s : State} {tag : Nat} (h : Keeps W s₀ s) (hmem : W.mem) : KeepsOut W s₀
    (execRoceAssemblyTimeout tag s) := by
  unfold execRoceAssemblyTimeout
  refine .next ?_
  split
  · exact h
  · split
    · exact .ite (.advanceAll (.ite (.roceNak (.endOp h)) (.endOp h)) hmem) h
    · exact h

theorem Keeps.poisonedData {W : Writes} {s₀ s : State} {a : Nat} {marks : List Nat} {data : List Byte} (h : Keeps W s₀ s) :
    Keeps W s₀ ((s.poisonedData a marks data).2) :=
  .iteSnd h (.fresh (bits := 8 * data.length) h)

theorem Keeps.chargeEnd {W : Writes} {s₀ s : State} {o : Op} {st : Nat} (h : Keeps W s₀ s) : Keeps W s₀ (s.chargeEnd o st) :=
  .ite h (.ite (.chargeIn h) (.ite (.chargeIn h) (.chargeIn h)))

theorem Keeps.carryState {W : Writes} {s₀ s : State} {o : Op} {st : Nat} (h : Keeps W s₀ s) : Keeps W s₀ (s.carryState o st) := by
  unfold State.carryState
  refine .ite h ?_
  split
  · exact .unless (.sendStreamState (.ite (.updStream h) h)) (fun h => .sendStreamState h)
  · exact .unless (.sendStreamState h) (fun h => .sendStreamState h)
  · exact h

theorem Keeps.sampleShadow {W : Writes} {s₀ s : State} {o : Op} {data : List Byte} {poisoned : Bool} (h : Keeps W s₀ s) : Keeps W s₀
    (s.sampleShadow o data poisoned) :=
  .ite (.ite (.upd h rfl) (.ite (.bump (.upd h rfl) rfl) (.sendItem (.upd h rfl)))) h

theorem Keeps.evictRequest {W : Writes} {s₀ s : State} {o : Nat} {k : Nat} (h : Keeps W s₀ s) : Keeps W s₀ (s.evictRequest o k) :=
    by
  unfold State.evictRequest
  split
  · exact .ite h (.ite (.startEvict h) (.bump (.updTile h) rfl))
  · exact h

theorem Keeps.setCursor {W : Writes} {s₀ s : State} {id : Nat} {c : Nat} {p : Nat} (h : Keeps W s₀ s) : Keeps W s₀ (s.setCursor id c p)
    := by
  unfold State.setCursor
  split
  · exact h
  · exact .ite (.foldl (fun _ _ h => .evictRequest h) (.upd h rfl)) (.upd h rfl)

theorem Keeps.advanceCursor {W : Writes} {s₀ s : State} {c : Nat} {tile : Nat} (h : Keeps W s₀ s) : Keeps W s₀ (s.advanceCursor c tile)
    := by
  unfold State.advanceCursor
  split
  · exact h
  · refine .ite (.setCursor h) ?_
    split
    · exact .setCursor h
    · exact .bump h rfl

theorem Keeps.cergaData {W : Writes} {s₀ s : State} {i window seq opcode status len a : Nat} {marks : List Nat} {fuel off : Nat}
    {d : List Byte} (h : Keeps W s₀ s) : Keeps W s₀ (s.cergaData i window seq opcode status len a marks fuel off d) := by
  induction fuel generalizing s a off d with
  | zero => exact h
  | succ fuel ih =>
    unfold State.cergaData
    exact .ite (.cergaRespond h) (ih (.cergaRespond h))

theorem Keeps.ledgerQuery {W : Writes} {s₀ s : State} {queue : Nat} {d : List Byte} {again : Bool} (h : Keeps W s₀ s) (hledger :
    W.ledger) : Keeps W s₀ (s.ledgerQuery queue d again).2.2 :=
  .iteSndSnd (.iteSndSnd h (.releaseRecords h hledger)) h

theorem Keeps.cergaReport {W : Writes} {s₀ s : State} {i window seq fuel off : Nat} {d : List Byte} (h : Keeps W s₀ s) :
    Keeps W s₀ (s.cergaReport i window seq fuel off d) := by
  induction fuel generalizing s off d with
  | zero => exact h
  | succ fuel ih =>
    unfold State.cergaReport
    exact .ite (.cergaRespond h) (ih (.cergaRespond h))

theorem Keeps.roceData {W : Writes} {s₀ s : State} {q port window a : Nat} {marks : List Nat} {first : Bool} {fuel psn : Nat}
    {d : List Byte} (h : Keeps W s₀ s) : Keeps W s₀ (s.roceData q port window a marks first fuel psn d) := by
  induction fuel generalizing s a first psn d with
  | zero => exact h
  | succ fuel ih =>
    unfold State.roceData
    exact .ite (.roceNak h) (.ite (.roceSend h) (ih (.roceSend h)))

theorem Keeps.respondRoce {W : Writes} {s₀ s : State} {o : Op} {q : Nat} {st : Nat} {data : List Byte} {marks : List Nat} (h : Keeps W s₀
    s) : Keeps W s₀ (s.respondRoce o q st data marks) := by
  unfold State.respondRoce
  dsimp only
  refine .ite h ?_
  refine .ite ?_ (.ite (.ite (.lastNak h) h) (.ite (.roceData (.ite (.lastNak h) h)) (.roceNak (.when (.ite (.lastNak h) h) (fun h =>
    .rememberRetry h)))))
  refine .ite (.roceData (.ite (.lastNak h) h)) ?_
  refine .ite (.roceSend (.ite (.lastNak h) h)) ?_
  split
  · exact .setQp (.roceSend (.ite (.lastNak h) h))
  · exact .roceSend (.ite (.lastNak h) h)

theorem Keeps.respondHost {W : Writes} {s₀ s : State} {o : Op} {cmd : Nat} {st : Nat} {data : List Byte} {marks : List Nat} (h : Keeps W
    s₀ s) : Keeps W s₀ (s.respondHost o cmd st data marks) :=
  .ite (.endCmd (.ite (.send h) h)) (.iteOn (.ite (.send h) h) (fun h => .endCmd h) (fun h => .endCmd h))

theorem Keeps.moveCursor {W : Writes} {s₀ s : State} {o : Op} (h : Keeps W s₀ s) : Keeps W s₀ (s.moveCursor o) := by
  unfold State.moveCursor
  dsimp only
  split
  · exact h
  · split
    · split
      · exact h
      · split
        · exact .setCursor h
        · exact .bump h rfl
    · exact h

theorem Keeps.loseEntry {W : Writes} {s₀ s : State} {g : Gather} (h : Keeps W s₀ s) : Keeps W s₀ (s.loseEntry g) := by
  unfold State.loseEntry
  split
  · exact .updOp (.upd h rfl)
  · exact .upd h rfl

theorem Keeps.cutOps {W : Writes} {s₀ s : State} {ids : List Nat} {atomics : Bool} (h : Keeps W s₀ s) : Keeps W s₀ (s.cutOps ids atomics)
    :=
  .foldl (fun _ _ h => .loseEntry h) (.upd h rfl)

theorem KeepsOut.drainLimit {W : Writes} {s₀ s : State} {place : Nat} (h : Keeps W s₀ s) : KeepsOut W s₀ (execDrainLimit place s) :=
    by
  unfold execDrainLimit
  refine .next ?_
  split
  · exact .ite (.cutOps h) h
  · exact h

theorem KeepsOut.gracePeriodEnd {W : Writes} {s₀ s : State} {pd : Nat} (h : Keeps W s₀ s) (hpds : W.pds) : KeepsOut W s₀
    (execGracePeriodEnd pd s) := by
  unfold execGracePeriodEnd
  refine .next ?_
  split
  · exact .ite (.store h (.setPds hpds) rfl) h
  · exact h

theorem Keeps.throttleViews {W : Writes} {s₀ s : State} (h : Keeps W s₀ s) : Keeps W s₀ (s.throttleViews) :=
  .ite (.unless (.upd (.bump (.flag (.wr h rfl) rfl) rfl) rfl) (fun h => .raise (.upd h rfl))) (.ite (.ite (.upd (.flag (.wr h rfl) rfl)
    rfl) (.when (.upd (.flag (.wr h rfl) rfl) rfl) (fun h => .occur h))) (.flag (.wr h rfl) rfl))

theorem Keeps.ceilingViews {W : Writes} {s₀ s : State} (h : Keeps W s₀ s) : Keeps W s₀ (s.ceilingViews) :=
  .when (.upd (.flag h rfl) rfl) (fun h => .raise h)

theorem Keeps.avsSend {W : Writes} {s₀ s : State} {v : Nat} {answered : Bool} (h : Keeps W s₀ s) : Keeps W s₀ (s.avsSend v answered)
    :=
  .ite (.send (.wr (.wr (.upd h rfl) rfl) rfl)) (.ite (.raiseKeeper (.wr (.upd (.upd h rfl) rfl) rfl)) (.upd h rfl))

theorem Keeps.stepVoltage {W : Writes} {s₀ s : State} {answered : Bool} (h : Keeps W s₀ s) : Keeps W s₀ (s.stepVoltage answered) :=
  .ite (.upd h rfl) (.avsSend (.upd h rfl))

theorem Keeps.checkMonitors {W : Writes} {s₀ s : State} (h : Keeps W s₀ s) : Keeps W s₀ (s.checkMonitors) :=
  .ite (.raiseKeeper (.upd h rfl)) (.upd h rfl)

theorem KeepsOut.loopPeriod {W : Writes} {s₀ s : State} {answered : Bool} (h : Keeps W s₀ s) : KeepsOut W s₀ (execLoopPeriod answered s)
    :=
  .next (.ite h (.throttleViews (.ceilingViews (.stepVoltage (.checkMonitors (.deriveTarget (.paceViews h)))))))

theorem KeepsOut.paceMonitorSample {W : Writes} {s₀ s : State} {n : Nat} {mhz : Nat} (h : Keeps W s₀ s) : KeepsOut W s₀
    (execPaceMonitorSample n mhz s) :=
  .next (.ite h (.when (.paceViews (.upd (.upd (.wrN h rfl) rfl) rfl)) (fun h => .raise h)))

theorem KeepsOut.avsRetry {W : Writes} {s₀ s : State} {answered : Bool} (h : Keeps W s₀ s) : KeepsOut W s₀ (execAvsRetry answered s)
    :=
  .next (.ite h (.ite (.send (.wr (.upd h rfl) rfl)) (.upd h rfl)))

theorem KeepsOut.gatherApply {W : Writes} {s₀ s : State} {entry : Nat} (h : Keeps W s₀ s) (hmem : W.mem) : KeepsOut W s₀
    (execGatherApply entry s) := by
  unfold execGatherApply
  refine .next ?_
  split
  · exact .ite (.nearViews (.advanceAll (.applyEntry h hmem) hmem)) h
  · exact h

theorem Keeps.tagMismatch {W : Writes} {s₀ s : State} (h : Keeps W s₀ s) : Keeps W s₀ (s.tagMismatch) :=
  .raise (.bump h rfl)

theorem Keeps.decidePage {W : Writes} {s₀ s : State} {pg : Nat} {mine : Bool} {peers : Bool} (h : Keeps W s₀ s) (hmem : W.mem) :
    Keeps W s₀ (s.decidePage pg mine peers) := by
  unfold State.decidePage
  refine .ite (.ite (.raise (.wantMark (.markUnits h))) h) ?_
  refine .ite (.raise (.ite h (.markUnits h))) ?_
  refine .raise ?_
  split
  · exact .poisonChunks h hmem
  · exact h

theorem Keeps.settleTie {W : Writes} {s₀ s : State} (h : Keeps W s₀ s) (hmem : W.mem) : Keeps W s₀ (s.settleTie) := by
  unfold State.settleTie
  split
  · exact h
  · exact .ite (.twinViews (.advanceAll (.ite (.startResync (.upd (.foldl (fun _ _ h => .decidePage h hmem) (.upd h rfl)) rfl) hmem)
      (.ite (.startYield (.foldl (fun _ _ h => .decidePage h hmem) (.upd h rfl))) (.foldl (fun _ _ h => .decidePage h hmem) (.upd h
      rfl)))) hmem)) h

theorem Keeps.startTie {W : Writes} {s₀ s : State} {pages : List Nat} (h : Keeps W s₀ s) (hmem : W.mem) : Keeps W s₀ (s.startTie pages) :=
  .ite h (.settleTie (.sendItem (.upd h rfl)) hmem)

theorem KeepsOut.writeBackIssue {W : Writes} {s₀ s : State} {tagOk : Bool} (h : Keeps W s₀ s) (hmem : W.mem) : KeepsOut W s₀
    (execWriteBackIssue tagOk s) := by
  unfold execWriteBackIssue
  refine .next ?_
  refine .ite h ?_
  split
  · exact h
  · refine .ite (.waitForErase h) ?_
    refine .ite ?_ (.nearViews (.snapshotPage h hmem))
    refine .ite ?_ (.poisonChunks (.tagMismatch h) hmem)
    split
    · exact .startTie (.tagMismatch h) hmem
    · exact .tagMismatch h

theorem Keeps.budgetViews {W : Writes} {s₀ s : State} (h : Keeps W s₀ s) : Keeps W s₀ (s.budgetViews) :=
  .wr (.wr (.wr (.wr (.wr h rfl) rfl) rfl) rfl) rfl

theorem Keeps.budgetEvents {W : Writes} {s₀ s : State} {old : Nat} {new : Nat} {input : Nat} (h : Keeps W s₀ s) : Keeps W s₀
    (s.budgetEvents old new input) :=
  .when (.when (.ite (.raise h) h) (fun h => .raise h)) (fun h => .raise h)

theorem Keeps.recomputeBudget {W : Writes} {s₀ s : State} (h : Keeps W s₀ s) : Keeps W s₀ (s.recomputeBudget) :=
  .ite h (.compareD (.upd (.budgetEvents (.wr (.budgetViews h) rfl)) rfl))

theorem Keeps.readBank {W : Writes} {s₀ s : State} {mv : Nat} (h : Keeps W s₀ s) : Keeps W s₀ (s.readBank mv) :=
  .upd (.wr (.ite (.raise h) h) rfl) rfl

theorem KeepsOut.budgetRecomputation {W : Writes} {s₀ s : State} {mv : Nat} (h : Keeps W s₀ s) : KeepsOut W s₀
    (execBudgetRecomputation mv s) :=
  .next (.ite (.recomputeBudget (.readBank h)) h)

theorem KeepsOut.stageFallTimer {W : Writes} {s₀ s : State} (h : Keeps W s₀ s) : KeepsOut W s₀ (execStageFallTimer s) :=
  .next (.ite (.setStage h) h)

theorem KeepsOut.holdAdmission {W : Writes} {s₀ s : State} (h : Keeps W s₀ s) (hmem : W.mem) (haccounts : W.accounts) : KeepsOut W
    s₀ (execHoldAdmission s) := by
  unfold execHoldAdmission
  refine .next ?_
  split
  · exact .ite (.moveWaiters (.admitRequest (.dropWaiter h) hmem haccounts) hmem haccounts) h
  · exact h

theorem KeepsOut.holdTimeout {W : Writes} {s₀ s : State} {queue : Nat} {seq : Nat} (h : Keeps W s₀ s) (hmem : W.mem) (haccounts :
    W.accounts) : KeepsOut W s₀ (execHoldTimeout queue seq s) := by
  unfold execHoldTimeout
  refine .next ?_
  split
  · exact .ite (.moveWaiters (.bump (.busyRequest h) rfl) hmem haccounts) h
  · exact h

theorem KeepsOut.dirtyMapClear {W : Writes} {s₀ s : State} {unit : Nat} (h : Keeps W s₀ s) : KeepsOut W s₀ (execDirtyMapClear unit s) :=
    by
  unfold execDirtyMapClear
  refine .next ?_
  split
  · exact .ite (.upd h rfl) h
  · exact h

theorem Keeps.reachOff {W : Writes} {s₀ s : State} (h : Keeps W s₀ s) : Keeps W s₀ (s.reachOff) :=
  .ite (.when (.setPower (.driveFeeds (.upd (.wr (.wr h rfl) rfl) rfl))) (fun h => .upd (.wr h rfl) rfl)) (.unless (.setPower
    (.driveFeeds (.upd (.wr (.wr h rfl) rfl) rfl))) (fun h => .upd (.wr h rfl) rfl))

theorem Keeps.shutFrom {W : Writes} {s₀ s : State} {k : Nat} (h : Keeps W s₀ s) : Keeps W s₀ (s.shutFrom k) := by
  induction k generalizing s with
  | zero => exact .reachOff h
  | succ k ih =>
    unfold State.shutFrom
    exact .unless (.foldl (fun _ _ h => .commandRail h) (.wr h rfl)) ih

theorem Keeps.coreDown {W : Writes} {s₀ s : State} (h : Keeps W s₀ s) (hconfig : W.config) : Keeps W s₀ (s.coreDown) :=
  .store h (.setRegs hconfig) rfl

theorem Keeps.startShutdown {W : Writes} {s₀ s : State} (h : Keeps W s₀ s) (hconfig : W.config) : Keeps W s₀ (s.startShutdown) :=
  .shutFrom (.coreDown (.wr h rfl) hconfig)

theorem Keeps.loseCore {W : Writes} {s₀ s : State} (h : Keeps W s₀ s) (hsave : W.save) (hconfig : W.config) : Keeps W s₀
    (s.loseCore) :=
  .ite (.coreDown (.store (.when (.wr (.wr (.keeperLog h) rfl) rfl) (fun h => .wr h rfl)) (.setSave hsave) rfl) hconfig) h

theorem KeepsOut.bankAtFloor {W : Writes} {s₀ s : State} (h : Keeps W s₀ s) (hsave : W.save) (hconfig : W.config) : KeepsOut W s₀
    (execBankAtFloor s) :=
  .next (.ite (.startShutdown (.loseCore h hsave hconfig) hconfig) h)

theorem Keeps.saveYield {W : Writes} {s₀ s : State} (h : Keeps W s₀ s) : Keeps W s₀ (s.saveYield) :=
  .startYield h

theorem Keeps.dropUntaken {W : Writes} {s₀ s : State} (h : Keeps W s₀ s) : Keeps W s₀ (s.dropUntaken) :=
  .upd h rfl

theorem Keeps.saveBraze {W : Writes} {s₀ s : State} (h : Keeps W s₀ s) : Keeps W s₀ (s.saveBraze) :=
  .wr (.wr (.markUnits (.upd (.localiseCommands h) rfl)) rfl) rfl

theorem Keeps.undoLocks {W : Writes} {s₀ s : State} (h : Keeps W s₀ s) : Keeps W s₀ (s.undoLocks) :=
  .upd (.foldl (fun _ _ h => .upd h rfl) h) rfl

theorem Keeps.saveBlocks {W : Writes} {s₀ s : State} (h : Keeps W s₀ s) : Keeps W s₀ (s.saveBlocks) :=
  .upd h rfl

theorem Keeps.saveRecord {W : Writes} {s₀ s : State} (h : Keeps W s₀ s) : Keeps W s₀ (s.saveRecord) :=
  .wr (.wr (.wr h rfl) rfl) rfl

theorem Keeps.setBlock {W : Writes} {s₀ s : State} {b : FlashBlock} {x : BlockState} (h : Keeps W s₀ s) : Keeps W s₀ (s.setBlock b x) :=
  .upd h rfl

theorem Keeps.checkWorn {W : Writes} {s₀ s : State} (h : Keeps W s₀ s) : Keeps W s₀ (s.checkWorn) :=
  .ite (.recomputeBudget (.raise (.wr (.upd h rfl) rfl))) h

theorem Keeps.retireBlock {W : Writes} {s₀ s : State} {b : FlashBlock} (h : Keeps W s₀ s) : Keeps W s₀ (s.retireBlock b) :=
  .ite (.flashViews (.when (.upd (.raise (.bump (.setBlock h) rfl)) rfl) (fun h => .raise (.upd h rfl)))) (.flashViews (.checkWorn
    (.raise (.upd (.raise (.bump (.setBlock h) rfl)) rfl))))

theorem Keeps.writeLedger {W : Writes} {s₀ s : State} (h : Keeps W s₀ s) (hledger : W.ledger) : Keeps W s₀ (s.writeLedger) :=
  .raise (.store (.ite h (.raise h)) (.setLedger hledger) rfl)

theorem Keeps.endSave {W : Writes} {s₀ s : State} {mv : Nat} (h : Keeps W s₀ s) (hledger : W.ledger) (hsave : W.save) : Keeps W s₀
    (s.endSave mv) :=
  .store (.wr (.wr (.wr (.keeperLog (.when (.writeLedger (.foldl (fun _ _ h => .retireBlock h) (.upd h rfl)) hledger) (fun h =>
    .setCounter (.wr h rfl)))) rfl) rfl) rfl) (.setSave hsave) rfl

theorem Keeps.keepUnconfirmed {W : Writes} {s₀ s : State} (h : Keeps W s₀ s) : Keeps W s₀ (s.keepUnconfirmed) :=
  .upd h rfl

theorem Keeps.quenchGrace {W : Writes} {s₀ s : State} (h : Keeps W s₀ s) (hpds : W.pds) : Keeps W s₀ (s.quenchGrace) :=
  .store h (.setPds hpds) rfl

theorem Keeps.abandonJoin {W : Writes} {s₀ s : State} (h : Keeps W s₀ s) : Keeps W s₀ (s.abandonJoin) :=
  .upd (.when (.ite (.wr (.foldl (fun _ _ h => .ite h (.wrN h rfl)) h) rfl) h) (fun h => .wr h rfl)) rfl

theorem Keeps.quenchDomain {W : Writes} {s₀ s : State} (h : Keeps W s₀ s) : Keeps W s₀ (s.quenchDomain) :=
  .upd (.abandonJoin h) rfl

theorem Keeps.quenchTwin {W : Writes} {s₀ s : State} (h : Keeps W s₀ s) : Keeps W s₀ (s.quenchTwin) :=
  .upd (.localiseCommands h) rfl

theorem Keeps.quenchTransports {W : Writes} {s₀ s : State} (h : Keeps W s₀ s) : Keeps W s₀ (s.quenchTransports) :=
  .roceViews (.cergaViews (.foldl (fun _ _ h => .wrN (.wrN h rfl) rfl) (.upd (.upd (.upd h rfl) rfl) rfl)))

theorem Keeps.quenchEngines {W : Writes} {s₀ s : State} (h : Keeps W s₀ s) : Keeps W s₀ (s.quenchEngines) :=
  .nearViews (.unless (.flag (.upd (.upd (.upd h rfl) rfl) rfl) rfl) (fun h => .wr h rfl))

theorem Keeps.quenchHost {W : Writes} {s₀ s : State} (h : Keeps W s₀ s) (hcaptures : W.captures) : Keeps W s₀
    (s.quenchHost) :=
  .wr (.wr (.wr (.wr (.upd (.upd (.store (.dropRings h) (.setCaptures hcaptures) rfl) rfl) rfl) rfl) rfl) rfl) rfl

theorem Keeps.quenchRecords {W : Writes} {s₀ s : State} (h : Keeps W s₀ s) : Keeps W s₀ (s.quenchRecords) :=
  .ite h (.wr (.upd h rfl) rfl)

theorem Keeps.writeRepair {W : Writes} {s₀ s : State} {kind : Nat} {m : Nat} {spare : Nat} {row : Nat} (h : Keeps W s₀ s) : Keeps W
    s₀ (s.writeRepair kind m spare row) :=
  .wr (.wrN (.wrN (.wrN (.wrN h rfl) rfl) rfl) rfl) rfl

theorem Keeps.queueRepair {W : Writes} {s₀ s : State} {m : Nat} {row : Nat} (h : Keeps W s₀ s) : Keeps W s₀ (s.queueRepair m row) :=
  .ite h (.ite (.raise h) (.ite (.raise (.writeRepair h)) (.raise (.bumpSat (.writeRepair h) rfl))))

theorem Keeps.quenchSweep {W : Writes} {s₀ s : State} {q : QuenchReport} (h : Keeps W s₀ s) : Keeps W s₀ (s.quenchSweep q) :=
  .foldl (fun _ _ h => .queueRepair h) (.wr (.wr (.wr h rfl) rfl) rfl)

theorem Keeps.sampleStraps {W : Writes} {s₀ s : State} {x : Straps} (h : Keeps W s₀ s) : Keeps W s₀ (s.sampleStraps x) :=
  .upd (.wr (.wr (.wr (.flag (.wr (.wr (.wr (.wr (.wr h rfl) rfl) rfl) rfl) rfl) rfl) rfl) rfl) rfl) rfl

theorem Keeps.strapEvents {W : Writes} {s₀ s : State} (h : Keeps W s₀ s) : Keeps W s₀ (s.strapEvents) :=
  .when (.ite (.raise h) h) (fun h => .raise h)

theorem Keeps.testDue {W : Writes} {s₀ s : State} (h : Keeps W s₀ s) : Keeps W s₀ (s.testDue) :=
  .ite (.raise (.upd h rfl)) (.compareD (.wr (.wr (.wr (.upd h rfl) rfl) rfl) rfl))

theorem KeepsOut.holdupTestDue {W : Writes} {s₀ s : State} (h : Keeps W s₀ s) : KeepsOut W s₀ (execHoldupTestDue s) :=
  .next (.ite (.testDue h) h)

theorem Keeps.testLoad {W : Writes} {s₀ s : State} {b : Bool} (h : Keeps W s₀ s) : Keeps W s₀ (s.testLoad b) :=
  .upd h rfl

theorem KeepsOut.holdupTestStart {W : Writes} {s₀ s : State} {v0 : Nat} (h : Keeps W s₀ s) : KeepsOut W s₀ (execHoldupTestStart v0 s) :=
  .next (.ite (.upd (.testLoad (.wr h rfl)) rfl) h)

theorem KeepsOut.holdupTestV1Read {W : Writes} {s₀ s : State} {v1 : Nat} (h : Keeps W s₀ s) : KeepsOut W s₀ (execHoldupTestV1Read v1 s)
    := by
  unfold execHoldupTestV1Read
  refine .next ?_
  refine .ite ?_ h
  split
  · exact .upd h rfl
  · exact .abortHoldupTest h

theorem KeepsOut.holdupTestTimeout {W : Writes} {s₀ s : State} (h : Keeps W s₀ s) : KeepsOut W s₀ (execHoldupTestTimeout s) :=
  .next (.ite (.abortHoldupTest h) h)

theorem KeepsOut.holdupRechargeDone {W : Writes} {s₀ s : State} {mv : Nat} (h : Keeps W s₀ s) : KeepsOut W s₀
    (execHoldupRechargeDone mv s) :=
  .next (.ite (.when (.when (.readBank (.wr (.wr h rfl) rfl)) (fun h => .recomputeBudget h)) (fun h => .raiseKeeper h)) h)

theorem KeepsOut.holdupTestRetry {W : Writes} {s₀ s : State} (h : Keeps W s₀ s) : KeepsOut W s₀ (execHoldupTestRetry s) :=
  .next (.ite (.testDue h) h)

theorem KeepsOut.holdupStaleTimer {W : Writes} {s₀ s : State} (h : Keeps W s₀ s) : KeepsOut W s₀ (execHoldupStaleTimer s) :=
  .next (.ite (.when (.raise (.upd h rfl)) (fun h => .recomputeBudget h)) h)

theorem Keeps.trackEsr {W : Writes} {s₀ s : State} {e : Nat} (h : Keeps W s₀ s) : Keeps W s₀ (s.trackEsr e) :=
  .upd (.wr (.wr h rfl) rfl) rfl

theorem KeepsOut.esrPulse {W : Writes} {s₀ s : State} {v0 : Nat} {v1 : Nat} (h : Keeps W s₀ s) : KeepsOut W s₀ (execEsrPulse v0 v1 s) :=
    by
  unfold execEsrPulse
  dsimp only
  refine .next ?_
  refine .ite h ?_
  split
  · exact .trackEsr (.upd h rfl)
  · exact .ite (.when (.raise (.wr (.upd h rfl) rfl)) (fun h => .recomputeBudget h)) (.upd h rfl)

theorem Keeps.deriveLinkKeys {W : Writes} {s₀ s : State} (h : Keeps W s₀ s) : Keeps W s₀ (s.deriveLinkKeys) :=
  .upd h rfl

theorem Keeps.dropStage {W : Writes} {s₀ s : State} (h : Keeps W s₀ s) (hmem : W.mem) : Keeps W s₀ (s.dropStage) :=
  .tierViews (.flag (.upd (.dropUnits h hmem) rfl) rfl)

theorem Keeps.leaveDomainWork {W : Writes} {s₀ s : State} (h : Keeps W s₀ s) : Keeps W s₀ (s.leaveDomainWork) :=
  .foldl (fun _ _ h => .finish h) (.foldl (fun _ _ h => .endCmd h) (.upd (.abandonJoin h) rfl))

theorem Keeps.discardPackets {W : Writes} {s₀ s : State} (h : Keeps W s₀ s) : Keeps W s₀ (s.discardPackets) :=
  .upd h rfl

theorem Keeps.restoreAsStandby {W : Writes} {s₀ s : State} (h : Keeps W s₀ s) : Keeps W s₀ (s.restoreAsStandby) :=
  .ite (.wr (.wr (.upd h rfl) rfl) rfl) h

theorem Keeps.supersede {W : Writes} {s₀ s : State} (h : Keeps W s₀ s) (hledger : W.ledger) : Keeps W s₀ (s.supersede) :=
  .ite h (.raise (.store h (.setLedger hledger) rfl))

theorem Keeps.unitDone {W : Writes} {s₀ s : State} {u : Nat} (h : Keeps W s₀ s) (hmem : W.mem) : Keeps W s₀ (s.unitDone u) :=
  .advanceAll (.ite (.restoreDone (.wr (.upd h rfl) rfl) hmem) (.wr (.upd h rfl) rfl)) hmem

theorem Keeps.askTwinPage {W : Writes} {s₀ s : State} {page : Nat} (h : Keeps W s₀ s) : Keeps W s₀ (s.askTwinPage page) :=
  .sendItem (.upd h rfl)

theorem Keeps.restorePoisoned {W : Writes} {s₀ s : State} {m : Nat} (h : Keeps W s₀ s) (hmem : W.mem) : Keeps W s₀
    (s.restorePoisoned m) :=
  .poisonChunks (.bump h rfl) hmem

theorem Keeps.compareAssay {W : Writes} {s₀ s : State} {q : Nat} {last : Nat} (h : Keeps W s₀ s) (hmem : W.mem) : Keeps W s₀
    (s.compareAssay q last) := by
  unfold State.compareAssay
  split
  · exact .ite (.upd h rfl) (.startTie (.raise (.bump (.upd h rfl) rfl)) hmem)
  · exact h

theorem Keeps.compareShadow {W : Writes} {s₀ s : State} {x : ShadowRead} (h : Keeps W s₀ s) (hmem : W.mem) : Keeps W s₀
    (s.compareShadow x) := by
  unfold State.compareShadow
  refine .ite (.bump h rfl) ?_
  split
  · exact h
  · exact .ite (.bump h rfl) (.ite h (.startTie (.bump h rfl) hmem))

theorem Keeps.settleShadows {W : Writes} {s₀ s : State} (h : Keeps W s₀ s) (hmem : W.mem) : Keeps W s₀ (s.settleShadows) :=
  .foldl (fun _ _ h => .compareShadow h hmem) (.upd h rfl)

theorem Keeps.sendMirrorAck {W : Writes} {s₀ s : State} (h : Keeps W s₀ s) : Keeps W s₀ (s.sendMirrorAck) :=
  .sendItem h

theorem Keeps.carriedBase {W : Writes} {s₀ s : State} {base : Nat} (h : Keeps W s₀ s) : Keeps W s₀ (s.carriedBase base) :=
  .wr (.ite h (.upd h rfl)) rfl

theorem Keeps.carriedOpening {W : Writes} {s₀ s : State} {i : Nat} {epoch : Nat} {base : Nat} (h : Keeps W s₀ s) : Keeps W s₀
    (s.carriedOpening i epoch base) :=
  .unless (.carriedBase h) (fun h => .cergaViews (.setStream h))

theorem Keeps.updCarried {W : Writes} {s₀ s : State} {i : Nat} {epoch : Nat} {f : Stream → Stream} (h : Keeps W s₀ s) : Keeps W s₀
    (s.updCarried i epoch f) :=
  .ite (.setStream h) h

theorem Keeps.carriedPsns {W : Writes} {s₀ s : State} {q : Nat} {psn : Nat} {n : Nat} (h : Keeps W s₀ s) : Keeps W s₀ (s.carriedPsns q
    psn n) := by
  unfold State.carriedPsns
  split
  · exact .setQp h
  · exact h

theorem Keeps.carriedAtomic {W : Writes} {s₀ s : State} {q : Nat} {psn : Nat} {bth : Nat} {value : Nat} (h : Keeps W s₀ s) : Keeps W
    s₀ (s.carriedAtomic q psn bth value) := by
  unfold State.carriedAtomic
  split
  · exact .setQp h
  · exact h

theorem Keeps.catchUp {W : Writes} {s₀ s : State} {p : Nat} (h : Keeps W s₀ s) (hmembers : W.members) : Keeps W s₀ (s.catchUp p) :=
  .foldl (fun _ _ h => .queuePush h hmembers) (.foldl (fun _ _ h => .queuePush (.queuePush h hmembers) hmembers) (.upd h rfl))

theorem Keeps.enterMember {W : Writes} {s₀ s : State} {p : Nat} {digestA : Nat} {digestB : Nat} {service : List Nat} (h : Keeps W s₀ s)
    (hmembers : W.members) : Keeps W s₀ (s.enterMember p digestA digestB service) :=
  .catchUp (.store h (.setMembers hmembers) rfl) hmembers

theorem Keeps.recordRegion {W : Writes} {s₀ s : State} {pair : Nat} {action : Nat} {e : DirEntry} (h : Keeps W s₀ s) (hmembers :
    W.members) : Keeps W s₀ (s.recordRegion pair action e) := by
  unfold State.recordRegion
  split
  · exact h
  · exact .ite (.store h (.setMembers hmembers) rfl) (.when (.store h (.setMembers hmembers) rfl) (fun h => .upd h rfl))

theorem Keeps.applyCarried {W : Writes} {s₀ s : State} {opcode : Nat} {p : List Nat} (h : Keeps W s₀ s) (hmembers : W.members) :
    Keeps W s₀ (s.applyCarried opcode p) :=
  .ite (.upd h rfl) (.ite (.enterMember h hmembers) (.ite (.relist (.dropMember h hmembers)) (.ite (.relist (.recordRegion h hmembers))
    (.ite (.store h (.setMembers hmembers) rfl) (.ite (.wr (.upd h rfl) rfl) (.ite (.store h (.setMembers hmembers) rfl) (.ite (.wr (.upd
    h rfl) rfl) (.ite (.upd h rfl) (.ite (.keepAnswer h) h)))))))))

theorem Keeps.notePush {W : Writes} {s₀ s : State} {opcode : Nat} {params : List Nat} (h : Keeps W s₀ s) (hmembers : W.members) :
    Keeps W s₀ (s.notePush opcode params) :=
  .ite (.queuePushes h hmembers) h

theorem Keeps.applyQpModify {W : Writes} {s₀ s : State} {p : List Nat} (h : Keeps W s₀ s) : Keeps W s₀ (s.applyQpModify p) :=
  .ite (.initQp h) (.roceViews (.modifyQp h))

theorem KeepsOk.applyKey {W : Writes} {s₀ s : State} {p : List Nat} (h : Keeps W s₀ s) (hslots : W.slots) : KeepsOk W s₀ (s.applyKey p)
    := by
  unfold State.applyKey
  dsimp only
  split
  · exact .ok (.commitSlot h hslots)
  · exact .error

theorem Keeps.applyLoad {W : Writes} {s₀ s : State} {o : Nat} {off : Nat} {n : Nat} (h : Keeps W s₀ s) : Keeps W s₀ (s.applyLoad o off n)
    :=
  .upd (.loadPiece h) rfl

theorem Keeps.applySchedule {W : Writes} {s₀ s : State} {p : List Nat} (h : Keeps W s₀ s) (hregions : W.regions) : Keeps W s₀
    (s.applySchedule p) :=
  .loadSchedule h hregions

theorem Keeps.extendLease {W : Writes} {s₀ s : State} {sentAt : Nat} (h : Keeps W s₀ s) (hmem : W.mem) (haccounts : W.accounts)
    (hledger : W.ledger) : Keeps W s₀ (s.extendLease sentAt) :=
  .moveWaiters (.sendOutbox (.firstAdmission (.twinViews (.ite (.releaseUnderMark (.wantMark (.upd h rfl)) hmem) (.upd h rfl))) hmem
    hledger))
    hmem haccounts

theorem Keeps.peerFeed {W : Writes} {s₀ s : State} {feed : Nat} {old : Nat} {new : Nat} (h : Keeps W s₀ s) : Keeps W s₀ (s.peerFeed feed
    old new) :=
  .ite (.raise h) h

theorem Keeps.followSync {W : Writes} {s₀ s : State} {old : Nat} {sync : Nat} (h : Keeps W s₀ s) (hmem : W.mem) : Keeps W s₀
    (s.followSync old sync) := by
  unfold State.followSync
  split
  · exact .ite (.setSync (.markUnits (.upd h rfl)) hmem) h
  · exact .ite (.setSync h hmem) h

theorem Keeps.retagRun {W : Writes} {s₀ s : State} {m : Nat} {n : Nat} (h : Keeps W s₀ s) : Keeps W s₀ (s.retagRun m n) :=
  .foldl (fun _ _ h => .retagPage h) h

theorem Keeps.answerTile {W : Writes} {s₀ s : State} {o : Nat} {k : Nat} {p : Nat} (h : Keeps W s₀ s) : Keeps W s₀ (s.answerTile o k p)
    := by
  unfold State.answerTile
  split
  · exact .sendItem h
  · exact .ite (.sendItem h) (.sendItem h)

theorem Keeps.pageStaged {W : Writes} {s₀ s : State} {x : Object} {o : Nat} {k : Nat} {p : Nat} (h : Keeps W s₀ s) (hmem : W.mem) :
    Keeps W s₀ (s.pageStaged x o k p) :=
  .tierViews (.settleLocks (.advanceAll (.updTile h) hmem) hmem)

theorem Keeps.announceDue {W : Writes} {s₀ s : State} (h : Keeps W s₀ s) : Keeps W s₀ (s.announceDue) :=
  .ite (.upd (.announceNow h) rfl) h

theorem Keeps.demandUnit {W : Writes} {s₀ s : State} {u : Nat} (h : Keeps W s₀ s) : Keeps W s₀ (s.demandUnit u) :=
  .ite (.upd (.bump h rfl) rfl) h

theorem KeepsOut.cursorSyncTimer {W : Writes} {s₀ s : State} (h : Keeps W s₀ s) : KeepsOut W s₀ (execCursorSyncTimer s) :=
  .next (.ite (.upd (.foldl (fun _ _ h => .sendItem h) h) rfl) h)

theorem Keeps.logUe {W : Writes} {s₀ s : State} {a : Nat} (h : Keeps W s₀ s) (hbadRows : W.badRows) : Keeps W s₀ (s.logUe a) :=
  .store (.wr (.wr (.wr (.wr (.wr (.wr (.wr (.wr h rfl) rfl) rfl) rfl) rfl) rfl) rfl) rfl) (.setBadRows hbadRows) rfl

theorem Keeps.setDramChannel {W : Writes} {s₀ s : State} {n : Nat} {c : DramChannel} (h : Keeps W s₀ s) : Keeps W s₀
    (s.setDramChannel n c) :=
  .upd h rfl

theorem Keeps.startRepair {W : Writes} {s₀ s : State} {k : Nat} (h : Keeps W s₀ s) : Keeps W s₀ (s.startRepair k) := by
  unfold State.startRepair
  dsimp only
  split
  · exact h
  · exact .ite h (.ite (.raise h) (.upd (.wrN (.setDramChannel h) rfl) rfl))

theorem Keeps.rowWorn {W : Writes} {s₀ s : State} {k : Nat} (h : Keeps W s₀ s) : Keeps W s₀ (s.rowWorn k) :=
  .ite (.startRepair h) h

theorem Keeps.dropFills {W : Writes} {s₀ s : State} (h : Keeps W s₀ s) (hmem : W.mem) : Keeps W s₀ (s.dropFills) := by
  unfold State.dropFills
  refine .foldl (fun _ _ h => ?_) h
  refine .nextFill ?_ hmem
  refine .wakeLine ?_
  refine .upd ?_ rfl
  split
  · exact .foldl (fun _ _ h => .mergeImage h hmem) h
  · exact h

theorem Keeps.mergeGather {W : Writes} {s₀ s : State} (h : Keeps W s₀ s) (hmem : W.mem) : Keeps W s₀ (s.mergeGather) :=
  .upd (.foldl (fun _ _ h => .mergeEntry h hmem) h) rfl

theorem Keeps.selfTestYield {W : Writes} {s₀ s : State} (h : Keeps W s₀ s) : Keeps W s₀ (s.selfTestYield) :=
  .startYield h

theorem Keeps.dramOut {W : Writes} {s₀ s : State} {n : Nat} {cause : Nat} (h : Keeps W s₀ s) (hmem : W.mem) : Keeps W s₀ (s.dramOut n
    cause) :=
  .ite h (.advanceAll (.when (.dropFills (.mergeGather (.foldl (fun _ _ h => .endOp h) (.raise (.paceViews (.wr (.wr (.wrN (.wrN h rfl)
    rfl) rfl) rfl)))) hmem) hmem) (fun h => .selfTestYield h)) hmem)

theorem KeepsOut.nearFlushComplete {W : Writes} {s₀ s : State} (h : Keeps W s₀ s) (hmem : W.mem) : KeepsOut W s₀
    (execNearFlushComplete s) :=
  .next (.ite (.advanceAll (.foldl (fun _ _ h => .wakeLine h) (.when (.upd (.raise (.wr (.wr (.flushNear h hmem) rfl) rfl)) rfl) (fun h
    => .enableNear h hmem))) hmem) h)

theorem KeepsOut.lookaheadFill {W : Writes} {s₀ s : State} (h : Keeps W s₀ s) : KeepsOut W s₀ (execLookaheadFill s) := by
  unfold execLookaheadFill
  refine .next ?_
  refine .ite h ?_
  split
  · exact h
  · exact .ite (.tierViews (.startTile h)) (.raise (.bump h rfl))

theorem KeepsOut.tileEvictionComplete {W : Writes} {s₀ s : State} {o : Nat} {k : Nat} (h : Keeps W s₀ s) (hmem : W.mem) : KeepsOut W
    s₀ (execTileEvictionComplete o k s) := by
  unfold execTileEvictionComplete
  refine .next ?_
  split
  · exact h
  · exact .ite h (.ite (.tierViews (.advanceAll (.updTile h) hmem)) (.tierViews (.settleLocks (.advanceAll (.settleStage (.bump (.upd
      (.dropUnits h hmem) rfl) rfl)) hmem) hmem)))

theorem KeepsOut.refreshDue {W : Writes} {s₀ s : State} {ch : Nat} {bank : Nat} (h : Keeps W s₀ s) : KeepsOut W s₀ (execRefreshDue ch
    bank s) := by
  unfold execRefreshDue
  refine .next ?_
  split
  · exact .ite (.upd h rfl) h
  · exact h

theorem KeepsOut.dramSensorRead {W : Writes} {s₀ s : State} {ch : Nat} {temp : Option Nat} (h : Keeps W s₀ s) (hmem : W.mem) :
    KeepsOut W s₀ (execDramSensorRead ch temp s) := by
  unfold execDramSensorRead
  refine .next ?_
  split
  · exact h
  · refine .ite h ?_
    split
    · exact .ite (.raise (.setDramChannel h)) h
    · exact .when (.when (.setDramChannel (.wrN h rfl)) (fun h => .raise h)) (fun h => .dramOut h hmem)

theorem KeepsOut.dramRequestAged {W : Writes} {s₀ s : State} {bank : Nat} (h : Keeps W s₀ s) : KeepsOut W s₀ (execDramRequestAged bank s)
    := by
  unfold execDramRequestAged
  refine .next ?_
  split
  · exact h
  · exact .ite (.upd h rfl) h

theorem KeepsOut.spprComplete {W : Writes} {s₀ s : State} {ch : Nat} {rank : Nat} {bank : Nat} {row : Nat} (h : Keeps W s₀ s) (hmem :
    W.mem) : KeepsOut W s₀ (execSpprComplete ch rank bank row s) :=
  .next (.ite (.advanceAll (.raise (.bump (.upd h rfl) rfl)) hmem) h)

theorem KeepsOut.caParityError {W : Writes} {s₀ s : State} {ch : Nat} {retries : Nat} (h : Keeps W s₀ s) (hmem : W.mem) : KeepsOut W
    s₀ (execCaParityError ch retries s) :=
  .next (.ite (.dramOut h hmem) h)

theorem Keeps.dramFails {W : Writes} {s₀ s : State} {r : DramReport} {cause : Nat} (h : Keeps W s₀ s) : Keeps W s₀ (s.dramFails r cause)
    :=
  .raise (.when (.raise (.wrN (.wrN (.wrN h rfl) rfl) rfl)) (fun h => .raise h))

theorem Keeps.dramPasses {W : Writes} {s₀ s : State} {r : DramReport} (h : Keeps W s₀ s) : Keeps W s₀ (s.dramPasses r) :=
  .upd (.wrN (.wrN (.wrN h rfl) rfl) rfl) rfl

theorem Keeps.dramChannelEnds {W : Writes} {s₀ s : State} {ref : Option DramReport} {r : DramReport} (h : Keeps W s₀ s) : Keeps W s₀
    (State.dramChannelEnds ref s r) :=
  .ite (.dramFails h) (.ite (.dramPasses h) (.dramFails h))

theorem Keeps.dramFresh {W : Writes} {s₀ s : State} (h : Keeps W s₀ s) : Keeps W s₀ (s.dramFresh) :=
  .upd h rfl

theorem Keeps.hardRepairs {W : Writes} {s₀ s : State} (h : Keeps W s₀ s) : Keeps W s₀ (s.hardRepairs) :=
  .upd (.bump (.foldl (fun _ _ h => .raise h) h) rfl) rfl

theorem Keeps.dramViews {W : Writes} {s₀ s : State} {present : List DramReport} {passed : List DramReport} {x : DramReport} (h : Keeps W
    s₀ s) : Keeps W s₀ (s.dramViews present passed x) :=
  .wr (.wr (.wr (.wr (.flag (.wr (.wr (.wr h rfl) rfl) rfl) rfl) rfl) rfl) rfl) rfl

theorem Keeps.dramTrained {W : Writes} {s₀ s : State} {rs : List DramReport} (h : Keeps W s₀ s) : Keeps W s₀ (s.dramTrained rs).2 :=
  .iteSnd (.hardRepairs (.dramViews (.upd (.foldl (fun _ _ h => .dramChannelEnds h) (.dramFresh h)) rfl))) (.raise (.hardRepairs
    (.dramViews (.upd (.foldl (fun _ _ h => .dramChannelEnds h) (.dramFresh h)) rfl))))

theorem Keeps.reallocate {W : Writes} {s₀ s : State} (h : Keeps W s₀ s) : Keeps W s₀ (s.reallocate) := by
  unfold State.reallocate
  refine .ite h ?_
  refine .wr ?_ rfl
  refine .foldl (fun _ _ h => ?_) (.upd h rfl)
  split
  · exact .addExtents h
  · exact h

theorem Keeps.loadQps {W : Writes} {s₀ s : State} {kept : Bool} (h : Keeps W s₀ s) : Keeps W s₀ (s.loadQps kept) := by
  unfold State.loadQps
  refine .roceViews ?_
  refine .foldl (fun _ _ h => ?_) h
  split
  · exact .ite (.setQp h) (.qpToErr h)
  · exact .qpToErr h

theorem Keeps.checkLedger {W : Writes} {s₀ s : State} (h : Keeps W s₀ s) (hledger : W.ledger) : Keeps W s₀ (s.checkLedger) :=
  .ite (.raise (.unless (.store h (.setLedger hledger) rfl) (fun h => .wr h rfl))) (.store h (.setLedger hledger) rfl)

theorem Keeps.resumeWindows {W : Writes} {s₀ s : State} {kept : Bool} (h : Keeps W s₀ s) (haccounts : W.accounts) : Keeps W s₀
    (s.resumeWindows kept) :=
  .ite (.upd h rfl) (.when (.settleWindow h haccounts) (fun h => .settleWindow (.closeWindow h haccounts) haccounts))

theorem Keeps.loadBlocks {W : Writes} {s₀ s : State} (h : Keeps W s₀ s) (haccounts : W.accounts) (hledger : W.ledger) : Keeps W s₀
    (s.loadBlocks) :=
  .checkLedger (.resumeWindows (.upd (.loadQps h) rfl) haccounts) hledger

theorem Keeps.beginRestore {W : Writes} {s₀ s : State} {units : List Nat} (h : Keeps W s₀ s) : Keeps W s₀ (s.beginRestore units) :=
  .wr (.upd h rfl) rfl

theorem Keeps.startRole {W : Writes} {s₀ s : State} (h : Keeps W s₀ s) (hledger : W.ledger) : Keeps W s₀ (s.startRole) :=
  .ite (.upd (.beginRestore h) rfl) (.iteOn (.wr (.startTraining (.upd h rfl)) rfl) (fun h => .upd (.beginRestore h) rfl) (fun h =>
    .supersede (.wr (.beginRestore h) rfl) hledger))

theorem Keeps.openService {W : Writes} {s₀ s : State} (h : Keeps W s₀ s) (hmem : W.mem) (hledger : W.ledger) : Keeps W s₀
    (s.openService) :=
  .ite (.startFails (.raise (.upd h rfl))) (.firstAdmission (.twinViews (.tokenInd (.upd (.startRole (.unless (.raise (.upd h rfl)) (fun
    h => .wr h rfl)) hledger) rfl))) hmem hledger)

theorem Keeps.proceed {W : Writes} {s₀ s : State} (h : Keeps W s₀ s) (hmem : W.mem) (haccounts : W.accounts) (hledger : W.ledger) :
    Keeps W s₀ (s.proceed) :=
  .ite (.recomputeBudget (.openService (.settleStage (.reallocate (.loadBlocks h haccounts hledger))) hmem hledger)) h

theorem KeepsOut.dramTrainingComplete {W : Writes} {s₀ s : State} {rs : List DramReport} (h : Keeps W s₀ s) (hmem : W.mem)
    (haccounts : W.accounts) (hledger : W.ledger) : KeepsOut W s₀ (execDramTrainingComplete rs s) :=
  .next (.ite h (.iteOn (.flashViews (.wr (.dramTrained h) rfl)) (fun h => .proceed (.upd h rfl) hmem haccounts hledger) (fun h =>
    .startFails h)))

theorem Keeps.flashChannelEnds {W : Writes} {s₀ s : State} {ref : Option FlashReport} {r : FlashReport} (h : Keeps W s₀ s) : Keeps W
    s₀ (State.flashChannelEnds ref s r) :=
  .iteOn (.wrN (.wrN (.wrN h rfl) rfl) rfl) (fun h => .wrN h rfl) (fun h => .raise (.raise (.wrN h rfl)))

theorem Keeps.flashPools {W : Writes} {s₀ s : State} {dies : Nat} (h : Keeps W s₀ s) : Keeps W s₀ (s.flashPools dies) :=
  .ite h (.upd (.wr h rfl) rfl)

theorem Keeps.formGroups {W : Writes} {s₀ s : State} (h : Keeps W s₀ s) : Keeps W s₀ (s.formGroups) :=
  .upd h rfl

theorem Keeps.flashTrained {W : Writes} {s₀ s : State} {rs : List FlashReport} (h : Keeps W s₀ s) : Keeps W s₀ (s.flashTrained rs)
    :=
  .iteOn (.formGroups (.flashViews (.flashPools (.wr (.wr (.upd (.foldl (fun _ _ h => .flashChannelEnds h) (.foldl (fun _ _ h => .wrN h
    rfl) h)) rfl) rfl) rfl)))) (fun h => .startFails (.raise (.wr h rfl))) (fun h => .wr h rfl)

theorem KeepsOut.flashTrainingComplete {W : Writes} {s₀ s : State} {rs : List FlashReport} (h : Keeps W s₀ s) : KeepsOut W s₀
    (execFlashTrainingComplete rs s) :=
  .next (.ite h (.upd (.flashTrained h) rfl))

theorem Keeps.moveOut {W : Writes} {s₀ s : State} {k : Nat} (h : Keeps W s₀ s) : Keeps W s₀ (s.moveOut k) :=
  .upd h rfl

theorem Keeps.openErase {W : Writes} {s₀ s : State} {b : FlashBlock} (h : Keeps W s₀ s) : Keeps W s₀ (s.openErase b) :=
  .upd (.moveOut (.setBlock h)) rfl

theorem Keeps.closeOpenBlocks {W : Writes} {s₀ s : State} (h : Keeps W s₀ s) : Keeps W s₀ (s.closeOpenBlocks) :=
  .foldl (fun _ _ h => .retireBlock h) (.upd (.foldl (fun _ _ h => .openErase h) h) rfl)

theorem Keeps.redoErases {W : Writes} {s₀ s : State} {failed : List FlashBlock} (h : Keeps W s₀ s) : Keeps W s₀ (s.redoErases failed) :=
  .foldl (fun _ _ h => .ite (.retireBlock h) h) (.foldl (fun _ _ h => .raise (.bump (.upd h rfl) rfl)) h)

theorem Keeps.rebuildKeys {W : Writes} {s₀ s : State} (h : Keeps W s₀ s) (hslots : W.slots) : Keeps W s₀ (s.rebuildKeys) :=
  .keyViews (.wr (.setCounter (.deriveXts (.upd (.store h (.setSlots hslots) rfl) rfl) hslots)) rfl)

theorem Keeps.replayed {W : Writes} {s₀ s : State} {failed : List FlashBlock} {erased : Nat} {mask : Nat} {ledgerOk : Bool} (h : Keeps W
    s₀ s) (hslots : W.slots) : Keeps W s₀ (s.replayed failed erased mask ledgerOk) :=
  .rebuildKeys (.cipherTests (.cergaViews (.tierViews (.nearViews (.flashViews (.protViews (.upd (.when (.wr (.upd (.closeOpenBlocks
    (.redoErases h)) rfl) rfl) (fun h => .raise h)) rfl))))))) hslots

theorem KeepsOut.journalReplayComplete {W : Writes} {s₀ s : State} {ok : Bool} {failed : List FlashBlock} {erased : Nat} {mask : Nat}
    {ledgerOk : Bool} (h : Keeps W s₀ s) (hmem : W.mem) (haccounts : W.accounts) (hslots : W.slots) (hledger : W.ledger) :
    KeepsOut W s₀ (execJournalReplayComplete ok failed erased mask ledgerOk s) :=
  .next (.ite h (.ite (.startFails (.raise h)) (.proceed (.replayed h hslots) hmem haccounts hledger)))

theorem Keeps.suspendErase {W : Writes} {s₀ s : State} {page : FlashPage} (h : Keeps W s₀ s) : Keeps W s₀ (s.suspendErase page) :=
    by
  unfold State.suspendErase
  split
  · exact .upd h rfl
  · exact h

theorem KeepsOut.flashReadComplete {W : Writes} {s₀ s : State} {page : FlashPage} {step : Nat} (h : Keeps W s₀ s) : KeepsOut W s₀
    (execFlashReadComplete page step s) :=
  .next (.ite h (.when (.ite (.bump (.upd (.suspendErase h) rfl) rfl) (.ite (.bump (.upd (.suspendErase h) rfl) rfl) (.when (.upd
    (.suspendErase h) rfl) (fun h => .raise (.bump h rfl))))) (fun h => .upd h rfl)))

theorem Keeps.blockProgrammed {W : Writes} {s₀ s : State} {b : FlashBlock} (h : Keeps W s₀ s) : Keeps W s₀ (s.blockProgrammed b) :=
  .setBlock h

theorem Keeps.programTime {W : Writes} {s₀ s : State} {b : FlashBlock} {micros : Nat} (h : Keeps W s₀ s) : Keeps W s₀ (s.programTime b
    micros) :=
  .wrN (.ite (.upd (.upd h rfl) rfl) (.upd h rfl)) rfl

theorem Keeps.placePage {W : Writes} {s₀ s : State} {k : Nat} {page : Nat} (h : Keeps W s₀ s) : Keeps W s₀ (s.placePage k page) :=
    by
  unfold State.placePage
  split
  · exact .upd h rfl
  · exact h

theorem Keeps.startRebuild {W : Writes} {s₀ s : State} {dies : Nat} (h : Keeps W s₀ s) : Keeps W s₀ (s.startRebuild dies) :=
  .ite (.wr h rfl) (.wr (.wr h rfl) rfl)

theorem Keeps.loseDie {W : Writes} {s₀ s : State} {k : Nat} (h : Keeps W s₀ s) : Keeps W s₀ (s.loseDie k) := by
  unfold State.loseDie
  refine .ite ?_ (.upd h rfl)
  split
  · exact .upd h rfl
  · exact .upd h rfl

theorem Keeps.flashChannelOut {W : Writes} {s₀ s : State} {ch : Nat} {cause : Nat} (h : Keeps W s₀ s) : Keeps W s₀
    (s.flashChannelOut ch cause) :=
  .ite h (.recomputeBudget (.flashViews (.startRebuild (.raise (.foldl (fun _ _ h => .loseDie h) (.wrN (.wrN h rfl) rfl))))))

theorem Keeps.dieOut {W : Writes} {s₀ s : State} {ch : Nat} {d : Nat} (h : Keeps W s₀ s) : Keeps W s₀ (s.dieOut ch d) :=
  .ite h (.iteOn (.startRebuild (.loseDie (.raise (.wrN h rfl)))) (fun h => .flashChannelOut h) (fun h => .recomputeBudget (.flashViews
    h)))

theorem Keeps.dieFailure {W : Writes} {s₀ s : State} {b : FlashBlock} (h : Keeps W s₀ s) : Keeps W s₀ (s.dieFailure b) :=
  .ite (.dieOut (.upd h rfl)) (.upd h rfl)

theorem KeepsOut.flashProgramComplete {W : Writes} {s₀ s : State} {b : FlashBlock} {pages : List Nat} {micros : Nat} {ok : Bool} (h :
    Keeps W s₀ s) (hmem : W.mem) : KeepsOut W s₀ (execFlashProgramComplete b pages micros ok s) :=
  .next (.ite h (.ite (.flashViews (.foldl (fun _ _ h => .placePage (.mapPage h hmem)) (.blockProgrammed (.programTime (.upd h rfl)))))
    (.ite (.dieFailure (.upd h rfl)) (.dieFailure (.retireBlock h)))))

theorem Keeps.eraseEnds {W : Writes} {s₀ s : State} {k : Nat} (h : Keeps W s₀ s) : Keeps W s₀ (s.eraseEnds k) :=
  .upd h rfl

theorem Keeps.noteSwept {W : Writes} {s₀ s : State} {b : FlashBlock} {erased : Bool} (h : Keeps W s₀ s) : Keeps W s₀ (s.noteSwept b
    erased) :=
  .ite h (.when (.ite (.upd h rfl) h) (fun h => .upd (.wr h rfl) rfl))

theorem Keeps.checkEndurance {W : Writes} {s₀ s : State} (h : Keeps W s₀ s) : Keeps W s₀ (s.checkEndurance) :=
  .ite (.raise (.upd h rfl)) h

theorem KeepsOut.flashEraseComplete {W : Writes} {s₀ s : State} {b : FlashBlock} {ok : Bool} (h : Keeps W s₀ s) : KeepsOut W s₀
    (execFlashEraseComplete b ok s) :=
  .next (.ite h (.ite (.noteSwept (.checkEndurance (.flashViews (.upd (.eraseEnds (.setBlock h)) rfl)))) (.eraseEnds (.noteSwept
    (.dieFailure (.retireBlock h))))))

theorem KeepsOut.dieCommandTimeout {W : Writes} {s₀ s : State} {ch : Nat} {die : Nat} {bus : Bool} (h : Keeps W s₀ s) : KeepsOut W
    s₀ (execDieCommandTimeout ch die bus s) :=
  .next (.ite h (.ite (.flashChannelOut h) (.dieOut h)))

theorem KeepsOut.flashRebuildComplete {W : Writes} {s₀ s : State} (h : Keeps W s₀ s) : KeepsOut W s₀ (execFlashRebuildComplete s) :=
  .next (.ite (.raise (.ite (.wr h rfl) (.wr (.wr h rfl) rfl))) h)

theorem KeepsOut.reclaim {W : Writes} {s₀ s : State} {b : FlashBlock} {bytes : Nat} (h : Keeps W s₀ s) : KeepsOut W s₀ (execReclaim b
    bytes s) :=
  .next (.ite h (.ite (.waitForErase h) (.flashViews (.openErase (.bump (.upd h rfl) rfl)))))

theorem KeepsOut.planish {W : Writes} {s₀ s : State} {least : FlashBlock} {most : FlashBlock} {bytes : Nat} (h : Keeps W s₀ s) :
    KeepsOut W s₀ (execPlanish least most bytes s) :=
  .next (.ite h (.ite (.waitForErase h) (.flashViews (.openErase (.blockProgrammed (.upd (.bump (.upd h rfl) rfl) rfl))))))

theorem KeepsOut.anneal {W : Writes} {s₀ s : State} {b : FlashBlock} {bytes : Nat} {pages : List FlashPage} (h : Keeps W s₀ s) :
    KeepsOut W s₀ (execAnneal b bytes pages s) :=
  .next (.ite h (.ite (.waitForErase h) (.flashViews (.foldl (fun _ _ h => .upd h rfl) (.bump (.upd h rfl) rfl)))))

theorem KeepsOut.journalFlush {W : Writes} {s₀ s : State} (h : Keeps W s₀ s) : KeepsOut W s₀ (execJournalFlush s) :=
  .next (.ite (.upd h rfl) h)

theorem KeepsOut.journalCheckpoint {W : Writes} {s₀ s : State} (h : Keeps W s₀ s) : KeepsOut W s₀ (execJournalCheckpoint s) :=
  .next (.ite (.upd h rfl) h)

theorem Keeps.scrubProgress {W : Writes} {s₀ s : State} {memory : Nat} {pct : Nat} (h : Keeps W s₀ s) : Keeps W s₀ (s.scrubProgress
    memory pct) :=
  .ite (.ite (.bumpSat (.wr h rfl) rfl) (.wr h rfl)) (.ite (.wr h rfl) h)

theorem Keeps.dramCe {W : Writes} {s₀ s : State} {a : Nat} (h : Keeps W s₀ s) : Keeps W s₀ (s.dramCe a) :=
  .iteOn (.bumpSat (.bump h rfl) rfl) (fun h => .rowWorn (.upd h rfl)) (fun h => .upd h rfl)

theorem Keeps.loseStream {W : Writes} {s₀ s : State} {i : Nat} (h : Keeps W s₀ s) : Keeps W s₀ (s.loseStream i) :=
  .raise (.cergaViews (.ite h (.setStream (.dropUnadmitted h))))

theorem Keeps.dropContext {W : Writes} {s₀ s : State} {i : Nat} (h : Keeps W s₀ s) : Keeps W s₀ (s.dropContext i) :=
  .cergaViews (.upd h rfl)

theorem Keeps.loseHeld {W : Writes} {s₀ s : State} {i : Nat} (h : Keeps W s₀ s) : Keeps W s₀ (s.loseHeld i) := by
  unfold State.loseHeld
  split
  · exact .bump (.updStream (.upd h rfl)) rfl
  · exact h

theorem Keeps.takeOff {W : Writes} {s₀ s : State} {memory : Nat} {what : Nat} {m : Nat} {row : Nat} (h : Keeps W s₀ s) : Keeps W s₀
    (s.takeOff memory what m row) :=
  .upd h rfl

theorem Keeps.rowOut {W : Writes} {s₀ s : State} {kind : Nat} {i : Nat} {m : Nat} {row : Nat} (h : Keeps W s₀ s) : Keeps W s₀
    (s.rowOut kind i m row) := by
  unfold State.rowOut
  split
  · exact .takeOff h
  · exact h

theorem Keeps.lastSram {W : Writes} {s₀ s : State} {m : Nat} {row : Nat} {ue : Bool} (h : Keeps W s₀ s) : Keeps W s₀ (s.lastSram m row
    ue) :=
  .wr (.wr (.flag (.wr h rfl) rfl) rfl) rfl

theorem Keeps.sramUe {W : Writes} {s₀ s : State} {m : Nat} {row : Nat} (h : Keeps W s₀ s) : Keeps W s₀ (s.sramUe m row) :=
  .queueRepair (.lastSram (.bump h rfl))

theorem Keeps.sramCe {W : Writes} {s₀ s : State} {m : Nat} {row : Nat} (h : Keeps W s₀ s) : Keeps W s₀ (s.sramCe m row) :=
  .when (.upd (.lastSram (.bump h rfl)) rfl) (fun h => .queueRepair h)

theorem Keeps.refill {W : Writes} {s₀ s : State} {l : Nat} {lock : Bool} (h : Keeps W s₀ s) (hmem : W.mem) : Keeps W s₀ (s.refill l lock)
    :=
  .ite (.ite (.startFillAs h hmem) h) (.ite (.lockLine h hmem) h)

theorem Keeps.dropRemainder {W : Writes} {s₀ s : State} {q : Nat} {msn : Nat} (h : Keeps W s₀ s) : Keeps W s₀ (s.dropRemainder q msn) :=
  .ite (.sendItem (.upd h rfl)) h

theorem Keeps.releaseAtomic {W : Writes} {s₀ s : State} {g : Gather} (h : Keeps W s₀ s) : Keeps W s₀ (s.releaseAtomic g) := by
  unfold State.releaseAtomic
  split
  · exact .upd h rfl
  · exact h

theorem Keeps.failAtomic {W : Writes} {s₀ s : State} {l : Nat} (h : Keeps W s₀ s) : Keeps W s₀ (s.failAtomic l) := by
  unfold State.failAtomic
  dsimp only
  split
  · refine .releaseAtomic ?_
    refine .loseEntry ?_
    split
    · refine .markUnits ?_
      refine .dropRemainder ?_
      split
      · exact .updOp (.fresh h)
      · exact .fresh h
    · split
      · exact .updOp (.fresh h)
      · exact .fresh h
  · exact h

theorem Keeps.nearUe {W : Writes} {s₀ s : State} {l : Nat} (h : Keeps W s₀ s) (hmem : W.mem) : Keeps W s₀ (s.nearUe l) := by
  unfold State.nearUe
  split
  · split
    · exact .ite (.poisonChunks h hmem) (.refill (.setVictims h) hmem)
    · exact h
  · split
    · exact h
    · exact .ite (.poisonChunks (.failAtomic h) hmem) (.ite (.nearViews (.refill (.upd h rfl) hmem)) h)

theorem Keeps.retireWay {W : Writes} {s₀ s : State} {l : Nat} {m : Nat} {row : Nat} (h : Keeps W s₀ s) : Keeps W s₀ (s.retireWay l m row)
    := by
  unfold State.retireWay
  split
  · exact .takeOff (.upd h rfl)
  · exact h

theorem Keeps.gatherUe {W : Writes} {s₀ s : State} {id : Nat} {byte : Nat} (h : Keeps W s₀ s) : Keeps W s₀ (s.gatherUe id byte) :=
    by
  unfold State.gatherUe
  split
  · exact h
  · refine .ite ?_ (.when (.raise (.bump (.markUnits (.upd h rfl)) rfl)) (fun h => .selfTestYield h))
    refine .releaseAtomic ?_
    refine .loseEntry ?_
    split
    · refine .dropRemainder ?_
      split
      · exact .updOp h
      · exact h
    · split
      · exact .updOp h
      · exact h

theorem KeepsOut.tableReloadComplete {W : Writes} {s₀ s : State} {kind : Nat} {entry : Nat} {ok : Bool} (h : Keeps W s₀ s) (hmem : W.mem)
    (haccounts : W.accounts) : KeepsOut W s₀ (execTableReloadComplete kind entry ok s) :=
  .next (.ite h (.ite (.moveWaiters (.upd h rfl) hmem haccounts) (.moveWaiters (.raise (.upd (.upd h rfl) rfl)) hmem haccounts)))

theorem Keeps.setSynced {W : Writes} {s₀ s : State} {b : Bool} (h : Keeps W s₀ s) : Keeps W s₀ (s.setSynced b) :=
  .ite h (.meterSync (.flag (.upd h rfl) rfl))

theorem Keeps.judgeSync {W : Writes} {s₀ s : State} (h : Keeps W s₀ s) : Keeps W s₀ (s.judgeSync) :=
  .ite (.ite (.setSynced (.upd h rfl)) (.upd h rfl)) (.ite (.setSynced (.upd h rfl)) (.upd h rfl))

theorem Keeps.growUncertainty {W : Writes} {s₀ s : State} (h : Keeps W s₀ s) : Keeps W s₀ (s.growUncertainty) :=
  .ite (.judgeSync h) (.judgeSync (.wr h rfl))

theorem Keeps.announceTime {W : Writes} {s₀ s : State} (h : Keeps W s₀ s) : Keeps W s₀ (s.announceTime) :=
  .ite (.send h) h

theorem Keeps.sample {W : Writes} {s₀ s : State} {account : Nat} {i : Nat} {n : Nat} (h : Keeps W s₀ s) : Keeps W s₀ (s.sample account i
    n) :=
  .charge h

theorem Keeps.sampleResidency {W : Writes} {s₀ s : State} (h : Keeps W s₀ s) : Keeps W s₀ (s.sampleResidency) :=
  .ite h (.upd (.foldl (fun _ _ h => .sample h) (.foldl (fun _ _ h => .sample h) (.foldl (fun _ _ h => .ite (.sample h) h) h))) rfl)

theorem KeepsOut.taiSecond {W : Writes} {s₀ s : State} (h : Keeps W s₀ s) (haccounts : W.accounts) : KeepsOut W s₀ (execTaiSecond s)
    :=
  .next (.ite h (.announceTime (.sampleResidency (.closeDue (.meterSync (.growUncertainty (.upd h rfl))) haccounts))))

theorem KeepsOut.settleLimit {W : Writes} {s₀ s : State} (h : Keeps W s₀ s) (haccounts : W.accounts) : KeepsOut W s₀
    (execSettleLimit s) := by
  unfold execSettleLimit
  refine .next ?_
  split
  · exact .ite (.settleWindow h haccounts) h
  · exact h

theorem Keeps.heardMember {W : Writes} {s₀ s : State} {p : Nat} (h : Keeps W s₀ s) (hmembers : W.members) : Keeps W s₀
    (s.heardMember p) := by
  unfold State.heardMember
  split
  · exact h
  · exact .ite (.store h (.setMembers hmembers) rfl) (.writeDirectory (.sendPushes (.when (.store h (.setMembers hmembers) rfl) (fun h =>
      .catchUp h hmembers))))

theorem Keeps.answerMirrored {W : Writes} {s₀ s : State} {a : DomainAnswer} (h : Keeps W s₀ s) : Keeps W s₀ (s.answerMirrored a) :=
  .iteOn (.mirrorChange h) (fun h => .upd h rfl) (fun h => .answerDomain h)

theorem Keeps.setRecord {W : Writes} {s₀ s : State} {pair : Nat} {r : WitnessRec} (h : Keeps W s₀ s) : Keeps W s₀ (s.setRecord pair r) :=
  .mirrorChange (.upd h rfl)

theorem Keeps.noteAnswer {W : Writes} {s₀ s : State} {r : DomainRequest} {yes : Bool} (h : Keeps W s₀ s) : Keeps W s₀ (s.noteAnswer r
    yes) :=
  .upd h rfl

theorem Keeps.answeredNow {W : Writes} {s₀ s : State} {r : DomainRequest} (h : Keeps W s₀ s) : Keeps W s₀ (s.answeredNow r) :=
  .upd h rfl

theorem Keeps.noteRegistered {W : Writes} {s₀ s : State} {p : Nat} (h : Keeps W s₀ s) : Keeps W s₀ (s.noteRegistered p) :=
  .ite h (.ite (.writeDirectory (.mirrorDomain (.upd (.upd h rfl) rfl))) (.upd h rfl))

theorem Keeps.leftDomain {W : Writes} {s₀ s : State} (h : Keeps W s₀ s) : Keeps W s₀ (s.leftDomain) := by
  unfold State.leftDomain
  dsimp only
  split
  · exact .finish (.cmdEvent (.mirrorDomain (.wr (.wr (.wr (.upd h rfl) rfl) rfl) rfl)))
  · exact .raise (.mirrorDomain (.wr (.wr (.wr (.upd h rfl) rfl) rfl) rfl))

theorem Keeps.stopHolder {W : Writes} {s₀ s : State} (h : Keeps W s₀ s) : Keeps W s₀ (s.stopHolder) :=
  .ite (.twinViews (.upd h rfl)) h

theorem Keeps.endRound {W : Writes} {s₀ s : State} {r : DomainRequest} (h : Keeps W s₀ s) : Keeps W s₀ (s.endRound r) :=
  .upd h rfl

theorem Keeps.joinRefused {W : Writes} {s₀ s : State} {reason : Nat} (h : Keeps W s₀ s) : Keeps W s₀ (s.joinRefused reason) := by
  unfold State.joinRefused
  dsimp only
  split
  · exact .refuse (.abandonJoin h)
  · exact .abandonJoin h

theorem Keeps.leaveRefused {W : Writes} {s₀ s : State} (h : Keeps W s₀ s) : Keeps W s₀ (s.leaveRefused) := by
  unfold State.leaveRefused
  dsimp only
  split
  · exact .refuse (.wr (.upd h rfl) rfl)
  · exact .wr (.upd h rfl) rfl

theorem Keeps.applyDirChange {W : Writes} {s₀ s : State} {p : Nat} {x : Nat × DirChange} (h : Keeps W s₀ s) (hmembers : W.members) :
    Keeps W s₀ (s.applyDirChange p x) := by
  unfold State.applyDirChange
  split
  · exact h
  · exact .ite (.mirrorChange (.recordRegion (.store h (.setMembers hmembers) rfl) hmembers)) h

theorem Keeps.settleJoin {W : Writes} {s₀ s : State} (h : Keeps W s₀ s) : Keeps W s₀ (s.settleJoin) := by
  unfold State.settleJoin
  split
  · exact h
  · exact .ite (.endCmd (.cmdEvent (.mirrorDomain (.wr (.upd h rfl) rfl)))) h

theorem Keeps.pushKey {W : Writes} {s₀ s : State} {slot : Nat} {key : Nat} (h : Keeps W s₀ s) (hslots : W.slots) : Keeps W s₀
    (s.pushKey slot key) :=
  .ite h (.mirrorChange (.commitSlot h hslots))

theorem Keeps.applyPush {W : Writes} {s₀ s : State} {opcode : Nat} {p : List Nat} (h : Keeps W s₀ s) (hpds : W.pds) (hslots : W.slots)
    (hqueues : W.queues) : Keeps W s₀ (s.applyPush opcode p) := by
  unfold State.applyPush
  split
  · exact .ite h (.mirrorChange (.createPd h hpds))
  · exact .mirrorChange (.setSpaceKey h hpds)
  · exact .ite h (.mirrorChange (.createQueue (.pushKey h hslots) hqueues))
  · exact h

theorem KeepsOut.provisionalGrantLapse {W : Writes} {s₀ s : State} {pair : Nat} (h : Keeps W s₀ s) : KeepsOut W s₀
    (execProvisionalGrantLapse pair s) := by
  unfold execProvisionalGrantLapse
  refine .next ?_
  split
  · split
    · exact .ite (.setRecord h) h
    · exact h
  · exact h

theorem KeepsOut.aggWaitTimer {W : Writes} {s₀ s : State} {tenant : Nat} {start : Nat} (h : Keeps W s₀ s) : KeepsOut W s₀
    (execAggWaitTimer tenant start s) := by
  unfold execAggWaitTimer
  refine .next ?_
  split
  · exact .ite (.exportRecord (.upd h rfl)) h
  · exact h

theorem Keeps.meterStep {W : Writes} {s₀ s : State} {forward : Bool} (h : Keeps W s₀ s) (haccounts : W.accounts) : Keeps W s₀
    (s.meterStep forward) :=
  .when (.raise (.flagWindow h)) (fun h => .flagWindow (.closeWindow h haccounts))

theorem Keeps.stepTime {W : Writes} {s₀ s : State} {tai : Nat} (h : Keeps W s₀ s) (haccounts : W.accounts) : Keeps W s₀ (s.stepTime tai)
    :=
  .meterStep (.raise (.bump (.upd h rfl) rfl)) haccounts

theorem Keeps.correct {W : Writes} {s₀ s : State} {ahead : Bool} {n : Nat} {uncertainty : Nat} (h : Keeps W s₀ s) (haccounts :
    W.accounts) : Keeps W s₀ (s.correct ahead n uncertainty) :=
  .judgeSync (.upd (.ite (.stepTime (.wr (.wr h rfl) rfl) haccounts) (.upd (.wr (.wr h rfl) rfl) rfl)) rfl)

theorem KeepsOut.ptpMessage {W : Writes} {s₀ s : State} {domain : Nat} {ahead : Bool} {offset : Nat} {uncertainty : Nat} {utc : Nat}
    {leap : Bool} (h : Keeps W s₀ s) (haccounts : W.accounts) : KeepsOut W s₀ (execPtpMessage domain ahead offset uncertainty utc leap s)
      :=
  .next (.ite h (.ite (.unless (.flag (.wr h rfl) rfl) (fun h => .stepTime h haccounts)) (.correct (.flag (.wr h rfl) rfl) haccounts)))

theorem Keeps.setInput {W : Writes} {s₀ s : State} {code : Nat} {i : SideInput} (h : Keeps W s₀ s) : Keeps W s₀ (s.setInput code i)
    :=
  .upd h rfl

theorem Keeps.acceptInput {W : Writes} {s₀ s : State} {code : Nat} {limit : Nat} {window : Nat} (h : Keeps W s₀ s) : Keeps W s₀
    (s.acceptInput code limit window).2 :=
  .iteSnd h (.iteSnd (.raiseKeeper (.setInput h)) (.setInput h))

theorem KeepsOut.ppsInEdge {W : Writes} {s₀ s : State} {uncertainty : Nat} (h : Keeps W s₀ s) (haccounts : W.accounts) : KeepsOut W
    s₀ (execPpsInEdge uncertainty s) :=
  .next (.ite h (.ite (.upd (.acceptInput h) rfl) (.ite (.correct (.upd (.acceptInput h) rfl) haccounts) (.correct (.upd (.acceptInput h)
    rfl) haccounts))))

theorem Keeps.failCipherOp {W : Writes} {s₀ s : State} {w : CmdRef × Nat} (h : Keeps W s₀ s) : Keeps W s₀ (s.failCipherOp w) := by
  unfold State.failCipherOp
  split
  · exact h
  · exact .finish (.setContext h)

theorem KeepsOut.clusterFault {W : Writes} {s₀ s : State} {cluster : Nat} {tags : List Nat} {hosts : List (CmdRef × Nat)} (h : Keeps W s₀
    s) : KeepsOut W s₀ (execClusterFault cluster tags hosts s) :=
  .next (.ite h (.when (.unless (.raise (.bump (.foldl (fun _ _ h => .failCipherOp h) (.foldl (fun _ _ h => .endOp h) (.paceViews (.wr h
    rfl)))) rfl)) (fun h => .selfTestYield h)) (fun h => .twinViews (.upd h rfl))))

theorem KeepsOut.oldTableKeyErased {W : Writes} {s₀ s : State} (h : Keeps W s₀ s) : KeepsOut W s₀ (execOldTableKeyErased s) := by
  unfold execOldTableKeyErased
  refine .next ?_
  split
  · exact h
  · exact .ite h (.raise (.flag (.upd (.countErase (.flagStarted h)) rfl) rfl))

theorem KeepsOut.pacedEntryTimer {W : Writes} {s₀ s : State} (h : Keeps W s₀ s) : KeepsOut W s₀ (execPacedEntryTimer s) :=
  .next (.ite (.deriveTarget (.upd (.setPower h) rfl)) h)

theorem KeepsOut.pacedExit {W : Writes} {s₀ s : State} (h : Keeps W s₀ s) : KeepsOut W s₀ (execPacedExit s) :=
  .next (.ite (.deriveTarget (.upd (.setPower h) rfl)) h)

theorem Keeps.freshKeeper {W : Writes} {s₀ s : State} (h : Keeps W s₀ s) : Keeps W s₀ (s.freshKeeper) :=
  .upd h rfl

theorem Keeps.powerOnRegs {W : Writes} {s₀ s : State} (h : Keeps W s₀ s) (hconfig : W.config) : Keeps W s₀ (s.powerOnRegs) :=
  .store h (.setRegs hconfig) rfl

theorem Keeps.checkLifecycle {W : Writes} {s₀ s : State} {mismatch : Bool} (h : Keeps W s₀ s) : Keeps W s₀ (s.checkLifecycle mismatch) :=
  .ite (.raiseKeeper (.wr (.upd h rfl) rfl)) h

theorem Keeps.flashStart {W : Writes} {s₀ s : State} (h : Keeps W s₀ s) (hwords : W.words) : Keeps W s₀ (s.flashStart) :=
  .setCounter (.foldl (fun _ _ h => .keeperLog (.eraseSector h hwords)) (.upd h rfl))

theorem Keeps.beginPowerUpStep {W : Writes} {s₀ s : State} {k : Nat} (h : Keeps W s₀ s) : Keeps W s₀ (s.beginPowerUpStep k) :=
  .foldl (fun _ _ h => .commandRail h) (.ite (.send (.upd (.wr h rfl) rfl)) (.wr h rfl))

theorem Keeps.abortPowerUp {W : Writes} {s₀ s : State} {n : Nat} (h : Keeps W s₀ s) (hconfig : W.config) : Keeps W s₀
    (s.abortPowerUp n) :=
  .startShutdown (.upd (.wr (.raiseKeeper h) rfl) rfl) hconfig

theorem Keeps.failRail {W : Writes} {s₀ s : State} {n : Nat} {fault : Nat} (h : Keeps W s₀ s) : Keeps W s₀ (s.failRail n fault) :=
  .wr (.wrN (.wrN h rfl) rfl) rfl

theorem KeepsOut.rampTimeout {W : Writes} {s₀ s : State} {n : Nat} (h : Keeps W s₀ s) (hconfig : W.config) : KeepsOut W s₀
    (execRampTimeout n s) :=
  .next (.ite (.abortPowerUp (.failRail h) hconfig) h)

theorem KeepsOut.railWindowFault {W : Writes} {s₀ s : State} {n : Nat} {mv : Nat} (h : Keeps W s₀ s) : KeepsOut W s₀
    (execRailWindowFault n mv s) :=
  .next (.ite (.iteOn (.wrN (.wrN (.raiseKeeper h) rfl) rfl) (fun h => .raiseKeeper (.wrN (.wrN h rfl) rfl)) (fun h => .setRail (.wrN h
    rfl))) h)

theorem KeepsOut.railFaultHold {W : Writes} {s₀ s : State} {n : Nat} (h : Keeps W s₀ s) (hsave : W.save) : KeepsOut W s₀
    (execRailFaultHold n s) :=
  .next (.ite (.ite (.setRail h) (.startSave (.setRail h) hsave)) h)

theorem KeepsOut.readVoutPoll {W : Writes} {s₀ s : State} {n : Nat} {mv : Nat} (h : Keeps W s₀ s) : KeepsOut W s₀ (execReadVoutPoll n mv
    s) :=
  .next (.ite (.ite (.setRail (.wrN (.wrN h rfl) rfl)) (.setRail (.wrN (.ite (.wrN h rfl) (.wrN (.raiseKeeper (.wrN h rfl)) rfl)) rfl)))
    h)

theorem Keeps.cutFrom {W : Writes} {s₀ s : State} {step : Nat} (h : Keeps W s₀ s) : Keeps W s₀ (s.cutFrom step) :=
  .ite (.shutFrom (.wr h rfl)) (.unless (.foldl (fun _ _ h => .commandRail h) (.wr (.wr h rfl) rfl)) (fun h => .shutFrom h))

theorem KeepsOut.railHardLimitBreach {W : Writes} {s₀ s : State} {n : Nat} (h : Keeps W s₀ s) (hsave : W.save) (hconfig : W.config)
    : KeepsOut W s₀ (execRailHardLimitBreach n s) :=
  .next (.ite (.cutFrom (.commandRail (.loseCore (.failRail (.raiseKeeper h)) hsave hconfig))) h)

theorem Keeps.advanceShutdown {W : Writes} {s₀ s : State} (h : Keeps W s₀ s) : Keeps W s₀ (s.advanceShutdown) :=
  .ite h (.shutFrom h)

theorem KeepsOut.shutdownStepEnd {W : Writes} {s₀ s : State} (h : Keeps W s₀ s) : KeepsOut W s₀ (execShutdownStepEnd s) :=
  .next (.ite (.advanceShutdown (.foldl (fun _ _ h => .ite (.wrN h rfl) h) h)) h)

theorem KeepsOut.dischargeTimer {W : Writes} {s₀ s : State} {n : Nat} (h : Keeps W s₀ s) : KeepsOut W s₀ (execDischargeTimer n s) :=
  .next (.ite (.advanceShutdown (.raiseKeeper (.failRail h))) h)

theorem Keeps.setFeed {W : Writes} {s₀ s : State} {a : Bool} {f : Feed} (h : Keeps W s₀ s) : Keeps W s₀ (s.setFeed a f) :=
  .ite (.upd h rfl) (.upd h rfl)

theorem Keeps.bothFeedsLost {W : Writes} {s₀ s : State} (h : Keeps W s₀ s) (hsave : W.save) (hconfig : W.config) : Keeps W s₀
    (s.bothFeedsLost) := by
  unfold State.bothFeedsLost
  exact .ite (.startShutdown (.driveFeeds (.upd h (by rfl))) hconfig) (.ite (.store (.driveFeeds (.upd h (by rfl))) (.setSave hsave) (by
    rfl)) (.iteOn (.driveFeeds (.upd h (by rfl))) (fun h => .startSave h hsave) (fun h => .driveFeeds (.upd h (by rfl)))))

theorem KeepsOut.feedLoss {W : Writes} {s₀ s : State} {a : Bool} (h : Keeps W s₀ s) (hsave : W.save) (hconfig : W.config) : KeepsOut
    W s₀ (execFeedLoss a s) :=
  .next (.ite (.ite (.unless (.abortHoldupTest (.when (.upd (.raiseKeeper (.driveFeeds (.bumpSat (.setFeed (.wr h (fFeedState_free _)))
    rfl))) rfl) (fun h => .raiseKeeper h))) (fun h => .bothFeedsLost h hsave hconfig)) (.setFeed (.wr h (fFeedState_free _)))) h)

theorem Keeps.acceptAlert {W : Writes} {s₀ s : State} {answered : Bool} (h : Keeps W s₀ s) : Keeps W s₀ (s.acceptAlert answered).2
    :=
  .iteSnd h (.when (.acceptInput h) (fun h => .setInput h))

theorem KeepsOut.pmbusAlert {W : Writes} {s₀ s : State} {n : Nat} {status : Option Nat} (h : Keeps W s₀ s) (hconfig : W.config) :
    KeepsOut W s₀ (execPmbusAlert n status s) :=
  .next (.ite (.ite (.wrN (.raiseKeeper (.iteSnd (.acceptAlert h) h)) rfl) (.ite (.abortPowerUp (.failRail (.wrN (.raiseKeeper (.iteSnd
    (.acceptAlert h) h)) rfl)) hconfig) (.ite (.when (.failRail (.wrN (.raiseKeeper (.iteSnd (.acceptAlert h) h)) rfl)) (fun h =>
    .advanceShutdown h)) (.wrN (.raiseKeeper (.iteSnd (.acceptAlert h) h)) rfl)))) (.iteSnd (.acceptAlert h) h))

theorem Keeps.appendLog {W : Writes} {s₀ s : State} {r : LogRecord} (h : Keeps W s₀ s) (hlog : W.log) : Keeps W s₀ (s.appendLog r)
    :=
  .wr (.wr (.store h (.setLog hlog) rfl) rfl) rfl

theorem Keeps.releaseTail {W : Writes} {s₀ s : State} (h : Keeps W s₀ s) (hlog : W.log) : Keeps W s₀ (s.releaseTail) :=
  .wr (.store (.foldl (fun _ _ h => .appendLog h hlog) h) (.setLog hlog) rfl) rfl

theorem Keeps.countRetries {W : Writes} {s₀ s : State} {n : Nat} (h : Keeps W s₀ s) : Keeps W s₀ (s.countRetries n) :=
  .ite (.raiseKeeper (.upd (.upd (.wr h rfl) rfl) rfl)) (.ite (.upd (.upd (.wr h rfl) rfl) rfl) (.upd (.wr h rfl) rfl))

theorem Keeps.retireSector {W : Writes} {s₀ s : State} {n : Nat} (h : Keeps W s₀ s) : Keeps W s₀ (s.retireSector n) :=
  .ite (.when (.wr (.raiseKeeper (.bumpSat (.setSector h) rfl)) rfl) (fun h => .raiseKeeper h)) (.ite (.when (.wr (.raiseKeeper (.bumpSat
    (.setSector h) rfl)) rfl) (fun h => .raiseKeeper h)) (.raiseKeeper (.bumpSat (.setSector h) rfl)))

theorem Keeps.setFlashWord {W : Writes} {s₀ s : State} {w : Nat} {v : Nat} (h : Keeps W s₀ s) (hwords : W.words) : Keeps W s₀
    (s.setFlashWord w v) :=
  .store h (.setWords hwords) rfl

theorem Keeps.updNewestEvent {W : Writes} {s₀ s : State} {f : LogRecord → LogRecord} (h : Keeps W s₀ s) (hlog : W.log) : Keeps W s₀
    (s.updNewestEvent f) :=
  .ite (.upd h rfl) (.store h (.setLog hlog) rfl)

theorem KeepsOut.repeatSlotTimer {W : Writes} {s₀ s : State} (h : Keeps W s₀ s) (hlog : W.log) : KeepsOut W s₀ (execRepeatSlotTimer s) :=
    by
  unfold execRepeatSlotTimer
  refine .next ?_
  split
  · exact h
  · exact .ite (.ite (.upd (.updNewestEvent h hlog) rfl) (.upd (.queueLog h) rfl)) h

theorem KeepsOut.logSectorErase {W : Writes} {s₀ s : State} {retries : Nat} {ok : Bool} (h : Keeps W s₀ s) (hwords : W.words) :
    KeepsOut W s₀ (execLogSectorErase retries ok s) := by
  unfold execLogSectorErase
  refine .next ?_
  split
  · exact h
  · exact .ite (.ite (.eraseSector (.upd (.countRetries (.flagStarted h)) rfl) hwords) (.retireSector (.upd (.countRetries (.flagStarted
      h)) rfl))) h

theorem Keeps.restartMgmtCore {W : Writes} {s₀ s : State} {core : Nat} {cmds : List CmdRef} (h : Keeps W s₀ s) (hfw : W.fw) : Keeps
    W s₀ (s.restartMgmtCore core cmds) := by
  unfold State.restartMgmtCore
  refine .ite ?_ ?_
  · refine .when ?_ (fun h => .selfTestYield h)
    refine .store ?_ (.setFw hfw) rfl
    refine .foldl (fun _ _ h => ?_) (.raise (.bump h rfl))
    split
    · exact .endCmd h
    · exact h
  · refine .foldl (fun _ _ h => ?_) (.raise (.bump h rfl))
    split
    · exact .endCmd h
    · exact h

theorem KeepsOut.watchdogExpiry {W : Writes} {s₀ s : State} {core : Nat} {cmds : List CmdRef} (h : Keeps W s₀ s) (hfw : W.fw) :
    KeepsOut W s₀ (execWatchdogExpiry core cmds s) :=
  .next (.ite (.restartMgmtCore h hfw) h)

theorem Keeps.setLive {W : Writes} {s₀ s : State} {b : Nat} (h : Keeps W s₀ s) : Keeps W s₀ (s.setLive b) :=
  .wr (.wr (.wr h rfl) rfl) rfl

theorem Keeps.revertTrial {W : Writes} {s₀ s : State} {b : Nat} (h : Keeps W s₀ s) : Keeps W s₀ (s.revertTrial b) :=
  .raise (.when (.bump (.wr h (fSlot_free _)) rfl) (fun h => .wr (.setLive h) rfl))

theorem Keeps.measure {W : Writes} {s₀ s : State} (h : Keeps W s₀ s) (hfw : W.fw) : Keeps W s₀ (s.measure) :=
  .store h (.setFw hfw) rfl

theorem Keeps.enterRecovery {W : Writes} {s₀ s : State} (h : Keeps W s₀ s) : Keeps W s₀ (s.enterRecovery) :=
  .raise (.startFails (.wr h rfl))

theorem KeepsOut.restoreWaitTimeout {W : Writes} {s₀ s : State} {tag : Nat} (h : Keeps W s₀ s) : KeepsOut W s₀
    (execRestoreWaitTimeout tag s) := by
  unfold execRestoreWaitTimeout
  refine .next ?_
  split
  · exact .ite (.bump (.endOp h) rfl) h
  · exact h

theorem KeepsOut.twinPageTimeout {W : Writes} {s₀ s : State} {page : Nat} (h : Keeps W s₀ s) (hmem : W.mem) : KeepsOut W s₀
    (execTwinPageTimeout page s) := by
  unfold execTwinPageTimeout
  refine .next ?_
  split
  · exact h
  · exact .ite (.unless (.restorePoisoned (.upd h rfl) hmem) (fun h => .unitDone h hmem)) h

theorem Keeps.thermalTrip {W : Writes} {s₀ s : State} {cause : Nat} {temp : Nat} (h : Keeps W s₀ s) (hsave : W.save) (hconfig : W.config)
    : Keeps W s₀ (s.thermalTrip cause temp) :=
  .ite (.startShutdown (.upd (.upd (.raiseKeeper h) rfl) rfl) hconfig) (.ite (.ite (.startSave (.upd (.raiseKeeper h) rfl) hsave)
    (.startShutdown (.upd (.raiseKeeper h) rfl) hconfig)) (.upd (.raiseKeeper h) rfl))

theorem KeepsOut.thermTripNAssert {W : Writes} {s₀ s : State} {temp : Nat} (h : Keeps W s₀ s) (hsave : W.save) (hconfig : W.config)
    : KeepsOut W s₀ (execThermTripNAssert temp s) :=
  .next (.ite h (.when (.upd (.acceptInput h) rfl) (fun h => .thermalTrip h hsave hconfig)))

theorem KeepsOut.junctionOvertemp {W : Writes} {s₀ s : State} {temp : Nat} (h : Keeps W s₀ s) (hsave : W.save) (hconfig : W.config)
    : KeepsOut W s₀ (execJunctionOvertemp temp s) :=
  .next (.ite (.thermalTrip (.upd h rfl) hsave hconfig) h)

theorem KeepsOut.hardCutCondition {W : Writes} {s₀ s : State} {temp : Nat} (h : Keeps W s₀ s) (hsave : W.save) (hconfig : W.config)
    : KeepsOut W s₀ (execHardCutCondition temp s) :=
  .next (.ite (.cutFrom (.loseCore (.raiseKeeper h) hsave hconfig)) h)

theorem KeepsOut.inputStuckTimer {W : Writes} {s₀ s : State} {code : Nat} (h : Keeps W s₀ s) : KeepsOut W s₀ (execInputStuckTimer code s)
    :=
  .next (.ite (.when (.raiseKeeper (.setInput h)) (fun h => .upd h rfl)) h)

theorem KeepsOut.outputReadbackMismatch {W : Writes} {s₀ s : State} {code : Nat} {readsHigh : Bool} (h : Keeps W s₀ s) : KeepsOut W
    s₀ (execOutputReadbackMismatch code readsHigh s) :=
  .next (.ite (.upd h rfl) (.ite (.ite (.driveFeeds (.upd (.raiseKeeper h) rfl)) (.ite (.driveFeeds (.upd (.raiseKeeper h) rfl)) (.ite
    (.iteOn (.raiseKeeper h) (fun h => .recomputeBudget (.upd h rfl)) (fun h => .abortHoldupTest h)) (.raiseKeeper h)))) h))

theorem Keeps.brazeRetrain {W : Writes} {s₀ s : State} (h : Keeps W s₀ s) : Keeps W s₀ (s.brazeRetrain) :=
  .ite (.upd h rfl) h

theorem KeepsOut.refclkRegained {W : Writes} {s₀ s : State} {code : Nat} (h : Keeps W s₀ s) : KeepsOut W s₀ (execRefclkRegained code s) :=
  .next (.ite (.ite (.upd (.upd h rfl) rfl) (.ite (.brazeRetrain (.upd h rfl)) (.upd h rfl))) h)

theorem KeepsOut.linkStateChange {W : Writes} {s₀ s : State} {n : Nat} {sub : Nat} {link : Nat} {lanes : Nat} {reversed : Bool}
    {polarity : Nat} (h : Keeps W s₀ s) : KeepsOut W s₀ (execLinkStateChange n sub link lanes reversed polarity s) :=
  .next (.ite h (.iteOn (.wrN (.wrN (.wrN h rfl) rfl) rfl) (fun h => .setPort h) (fun h => .setLink h)))

theorem KeepsOut.arpRequest {W : Writes} {s₀ s : State} {port : Nat} {ipv6 : Bool} {addr : Nat} (h : Keeps W s₀ s) : KeepsOut W s₀
    (execArpRequest port ipv6 addr s) :=
  .next (.ite h (.ite (.wrN h rfl) (.ite (.send (.countTx (.wrN h rfl))) (.ite (.send (.countTx (.wrN h rfl))) (.wrN h rfl)))))

theorem KeepsOut.repeatWindowExpiry {W : Writes} {s₀ s : State} {src : Nat} (h : Keeps W s₀ s) : KeepsOut W s₀
    (execRepeatWindowExpiry src s) :=
  .next (.ite (.closePending h) h)

theorem KeepsOut.stormSecondEnd {W : Writes} {s₀ s : State} {src : Nat} (h : Keeps W s₀ s) : KeepsOut W s₀ (execStormSecondEnd src s) :=
  .next (.ite (.setTrack (.closeSecond h)) h)

theorem KeepsOut.feedReturning {W : Writes} {s₀ s : State} {a : Bool} (h : Keeps W s₀ s) : KeepsOut W s₀ (execFeedReturning a s) :=
  .next (.ite (.setFeed (.wr h (fFeedState_free _))) h)

theorem KeepsOut.senseInputReversed {W : Writes} {s₀ s : State} {input : Nat} (h : Keeps W s₀ s) (hsave : W.save) (hconfig : W.config) :
    KeepsOut W s₀ (execSenseInputReversed input s) :=
  .next (.ite h (.ite (.when (.driveFeeds (.setFeed (.wr (.raiseKeeper h) (fFeedState_free _)))) (fun h => .bothFeedsLost h hsave
    hconfig)) (.ite (.upd (.raise (.wr (.raiseKeeper h) rfl)) rfl) (.ite (.wrN (.abortPowerUp (.failRail (.raiseKeeper h)) hconfig) rfl)
    (.when (.raiseKeeper h) (fun h => .wrN (.wrN h rfl) rfl))))))

theorem KeepsOut.keeperSupplyRecovered {W : Writes} {s₀ s : State} {mv : Nat} (h : Keeps W s₀ s) : KeepsOut W s₀
    (execKeeperSupplyRecovered mv s) :=
  .next (.ite (.upd (.wr (.wr h rfl) rfl) rfl) h)

theorem KeepsOut.opHoursTick {W : Writes} {s₀ s : State} (h : Keeps W s₀ s) : KeepsOut W s₀ (execOpHoursTick s) :=
  .next (.ite (.upd (.setCounter h) rfl) h)

theorem KeepsOut.ptpPpsOutFall {W : Writes} {s₀ s : State} (h : Keeps W s₀ s) : KeepsOut W s₀ (execPtpPpsOutFall s) :=
  .next (.ite (.upd h rfl) h)

theorem KeepsOut.mgmtCoreMemoryUe {W : Writes} {s₀ s : State} {core : Nat} {bank : Nat} {row : Nat} {cmds : List CmdRef} (h : Keeps W s₀
    s) (hfw : W.fw) : KeepsOut W s₀ (execMgmtCoreMemoryUe core bank row cmds s) :=
  .next (.ite (.restartMgmtCore (.sramUe h) hfw) h)

theorem KeepsOut.shutdownRailCollapse {W : Writes} {s₀ s : State} {n : Nat} (h : Keeps W s₀ s) : KeepsOut W s₀
    (execShutdownRailCollapse n s) :=
  .next (.ite (.cutFrom (.failRail h)) h)

theorem KeepsOut.mgmtBusHeldLow {W : Writes} {s₀ s : State} (h : Keeps W s₀ s) : KeepsOut W s₀ (execMgmtBusHeldLow s) :=
  .next (.ite (.send h) h)

theorem Keeps.windowPacket {W : Writes} {s₀ s : State} {i opcode : Nat} {p : CergaPacket} (h : Keeps W s₀ s) (hmem : W.mem) (haccounts :
    W.accounts) :
    Keeps W s₀ (s.windowPacket i opcode p) := by
  generalize hf : State.windowPacket = f
  delta State.windowPacket at hf
  subst hf
  dsimp -zeta only
  generalize Stream.classify (s.stream i) p.seq = w
  cases w with
  | fresh => exact .newPacket h hmem haccounts
  | duplicate => exact .cergaAck (.ite (.duplicateFirst (.bump h rfl) hmem haccounts) (.chargeIngress (.bump h rfl)))
  | outside => exact .chargeIngress (.cergaNak (.bump h rfl))

theorem Keeps.noneArrival {W : Writes} {s₀ s : State} {i : Nat} {opcode : Nat} {p : CergaPacket} (h : Keeps W s₀ s) (hmem : W.mem)
    (haccounts : W.accounts) : Keeps W s₀ (s.noneArrival i opcode p) :=
  .ite (.chargeIngress (.abortedReset h)) (.ite (.windowPacket (.openStream h) hmem haccounts) (.chargeIngress (.streamReset h)))

theorem Keeps.streamArrival {W : Writes} {s₀ s : State} {i : Nat} {opcode : Nat} {p : CergaPacket} (h : Keeps W s₀ s) (hmem : W.mem)
    (haccounts : W.accounts) : Keeps W s₀ (s.streamArrival i opcode p) := by
  unfold State.streamArrival
  refine .ite (.when (.chargeIngress h) (fun h => .applyRespAck h hmem haccounts)) ?_
  refine .ite (.ite (.chargeIngress (.abortedReset h)) (.chargeIngress (.streamReset h))) ?_
  split
  · exact .noneArrival h hmem haccounts
  · exact .ite (.windowPacket h hmem haccounts) (.ite (.ite (.chargeIngress (.cergaNakAs h)) (.cergaViews (.noneArrival (.setStream
      (.dropUnadmitted h)) hmem haccounts))) (.chargeIngress (.bump h rfl)))
  · exact .ite (.chargeIngress (.streamReset h)) (.ite (.ite (.windowPacket (.openStream h) hmem haccounts) (.chargeIngress (.streamReset
      h))) (.chargeIngress (.bump h rfl)))

theorem Keeps.authenticate {W : Writes} {s₀ s : State} {opcode : Nat} {p : CergaPacket} (h : Keeps W s₀ s) (hmem : W.mem) (haccounts :
    W.accounts) : Keeps W s₀ (s.authenticate opcode p) := by
  unfold State.authenticate
  exact .ite (.failTag h) (.ite (.streamArrival (.updStream h) hmem haccounts) (.notActive (.updStream h)))

theorem Keeps.receiveCerga {W : Writes} {s₀ s : State} {opcode : Nat} {p : CergaPacket} (h : Keeps W s₀ s) (hmem : W.mem) (haccounts :
    W.accounts) : Keeps W s₀ (s.receiveCerga opcode p) := by
  unfold State.receiveCerga
  dsimp only
  refine .ite h ?_
  refine .ite (.bump (.bump h rfl) rfl) ?_
  split
  · exact .bump (.bump h rfl) rfl
  · exact .ite (.bump (.bump h rfl) rfl) (.ite (.upd (.bump h rfl) rfl) (.ite (.authenticate (.cacheContext (.bump h rfl)) hmem
      haccounts) (.bump (.upd (.bump h rfl) rfl) rfl)))

theorem Keeps.receiveArrival {W : Writes} {s₀ s : State} {x1 : Arrival} (h : Keeps W s₀ s) (hmem : W.mem) (haccounts : W.accounts) :
    Keeps W s₀ (s.receiveArrival x1) := by
  unfold State.receiveArrival
  split
  · exact .receiveCerga h hmem haccounts
  · exact .receiveRoce h hmem haccounts

theorem Keeps.takeArrival {W : Writes} {s₀ s : State} {a : Arrival} (h : Keeps W s₀ s) (hmem : W.mem) (haccounts : W.accounts) :
    Keeps W s₀ (s.takeArrival a) := by
  unfold State.takeArrival
  refine .ite (.upd h rfl) ?_
  split
  · exact .ite (.upd h rfl) (.bump h rfl)
  · exact .receiveArrival h hmem haccounts

theorem Keeps.drainPorts {W : Writes} {s₀ s : State} (h : Keeps W s₀ s) (hmem : W.mem) (haccounts : W.accounts) : Keeps W s₀
    (s.drainPorts) :=
  .foldlPair (fun _ _ h => .iteFst (.upd h rfl) (.takeArrival h hmem haccounts)) (.upd h rfl)

theorem KeepsOut.portAdmissionOpen {W : Writes} {s₀ s : State} {n : Nat} (h : Keeps W s₀ s) (hmem : W.mem) (haccounts : W.accounts)
    : KeepsOut W s₀ (execPortAdmissionOpen n s) :=
  .next (.ite (.drainPorts (.setPort h) hmem haccounts) h)

theorem KeepsOut.regionCreate {W : Writes} {s₀ s : State} {r : CmdRef} {base size flags object key peer : Nat} (h : Keeps W s₀ s)
    (hregions : W.regions) :
    KeepsOut W s₀ (execRegionCreate r base size flags object key peer s) := by
  refine .next (.command (fun c s h => .ifHolder (fun s h => .ite (.finish h) (.ite (.refuse h) ?_)) h) h)
  split
  · exact .refuse h
  · rename_i id x _
    split
    · exact .refuse h
    · rename_i t ht
      have hk := KeepsOk.createRegion h hregions t ht
      exact .ite (.refuse h) (.ite (.settleRegion (.clamped hk)) (.upd (.clamped hk) rfl))

theorem Keeps.clearMedia {W : Writes} {s₀ s : State} {m n : Nat} (h : Keeps W s₀ s) (hmem : W.mem) :
    Keeps W s₀ (s.clearMedia m n) := by
  unfold State.clearMedia
  refine .compareD (.nearViews ?_)
  dsimp only
  exact .store h (.setMem hmem .dramFilter) rfl

theorem Keeps.releaseRange {W : Writes} {s₀ s : State} {region : Nat} {a : Nat} {n : Nat} (h : Keeps W s₀ s) (hmem : W.mem) : Keeps
    W s₀ (s.releaseRange region a n) :=
  .protViews (.upd (.clearImage (.foldl (fun _ _ h => .clearMedia h hmem) h) hmem) rfl)

theorem Keeps.destroyRegion {W : Writes} {s₀ s : State} {id : Nat} (h : Keeps W s₀ s) (hmem : W.mem) (hregions : W.regions) : Keeps
    W s₀ (s.destroyRegion id) := by
  unfold State.destroyRegion
  split
  · exact h
  · exact .protViews (.store (.iteOn (.unlockRegion h) (fun h => .releaseRange h hmem) (fun h => .forgetObjectLines h)) (.setRegions
      hregions) rfl)

theorem Keeps.destroyReported {W : Writes} {s₀ s : State} {id : Nat} (h : Keeps W s₀ s) (hmem : W.mem) (hregions : W.regions) :
    Keeps W s₀ (s.destroyReported id) := by
  unfold State.destroyReported
  split
  · exact h
  · exact .reportRegion (.destroyRegion h hmem hregions)

theorem Keeps.cascadeKey {W : Writes} {s₀ s : State} {slot : Nat} (h : Keeps W s₀ s) (hmem : W.mem) (hregions : W.regions) (hslots :
    W.slots) (hqueues : W.queues) : Keeps W s₀ (s.cascadeKey slot) :=
  .removeSlot (.foldl (fun _ _ h => .destroyQueue h hqueues) (.foldl (fun _ _ h => .dropObject (.foldl (fun _ _ h => .dropSchedule h
    hregions) h) hmem) (.foldl (fun _ _ h => .destroyReported h hmem hregions) h))) hslots

theorem Keeps.applyRemoval {W : Writes} {s₀ s : State} {x1 : Removal} (h : Keeps W s₀ s) (hmem : W.mem) (hpds : W.pds) (hregions :
    W.regions) (hslots : W.slots) (hqueues : W.queues) : Keeps W s₀ (s.applyRemoval x1) := by
  unfold State.applyRemoval
  split
  · exact .unbind h
  · exact .destroyReported h hmem hregions
  · split
    · exact h
    · exact .reportRegion (.setRegion (.ite (.releaseRange h hmem) h) hregions)
  · exact .destroyPd h hpds
  · exact .destroyQueue h hqueues
  · exact .destroyQp h
  · exact .initQp h
  · exact .cascadeKey h hmem hregions hslots hqueues

theorem Keeps.finishDrain {W : Writes} {s₀ s : State} {d : Drain} (h : Keeps W s₀ s) (hmem : W.mem) (hpds : W.pds) (hregions : W.regions)
    (hmembers : W.members) (hslots : W.slots) (hqueues : W.queues) : Keeps W s₀ (s.finishDrain d) := by
  have hd : Keeps W s₀ { s with prot.drains := s.prot.drains.erase d } := .upd h rfl
  unfold State.finishDrain
  dsimp only
  split
  · exact .iteOn (.mirrorCommand (.applyRemoval hd hmem hpds hregions hslots hqueues)) (fun h => .finishPushed h hmembers) (fun h =>
      .finish h)
  · exact .when (.mirrorChange (.applyRemoval hd hmem hpds hregions hslots hqueues)) (fun h => .endPush h)

theorem Keeps.startDrain {W : Writes} {s₀ s : State} {cmd : Option Nat} {push : Option Nat} {r : Removal} (h : Keeps W s₀ s) (hmem :
    W.mem) (hpds : W.pds) (hregions : W.regions) (haccounts : W.accounts) (hmembers : W.members) (hslots : W.slots) (hqueues : W.queues)
    : Keeps W s₀ (s.startDrain cmd push r) := by
  unfold State.startDrain
  refine .drainPorts ?_ hmem haccounts
  refine .ite ?_ ?_
  · refine .finishDrain ?_ hmem hpds hregions hmembers hslots hqueues
    split
    · exact .store (.upd h rfl) (.setQueues hqueues) rfl
    · exact .upd h rfl
  · split
    · exact .store (.upd h rfl) (.setQueues hqueues) rfl
    · exact .upd h rfl

theorem KeepsOut.regionResize {W : Writes} {s₀ s : State} {r : CmdRef} {region newSize peer : Nat} (h : Keeps W s₀ s) (hmem : W.mem)
    (hpds : W.pds) (hregions : W.regions) (haccounts : W.accounts) (hmembers : W.members) (hslots : W.slots) (hqueues : W.queues) :
    KeepsOut W s₀ (execRegionResize r region newSize peer s) := by
  refine .next (.command (fun c s h => .ifHolder (fun s h => .ite (.finish h) ?_) h) h)
  split
  · exact .refuse h
  · refine .ite (.finish (.clamped h)) (.ite ?_ (.startDrain (.setRegion (.clamped h) hregions) hmem hpds hregions haccounts hmembers
      hslots hqueues))
    split
    · exact .refuse h
    · rename_i t ht
      have hk := KeepsOk.growRegion h t ht
      exact .ite (.refuse h) (.ite (.settleResize (.clamped hk) hregions) (.upd (.setRegion (.clamped hk) hregions) rfl))

theorem KeepsOut.regionDestroy {W : Writes} {s₀ s : State} {r : CmdRef} {region : Nat} (h : Keeps W s₀ s) (hmem : W.mem) (hpds : W.pds)
    (hregions : W.regions) (haccounts : W.accounts) (hmembers : W.members) (hslots : W.slots) (hqueues : W.queues) : KeepsOut
    W s₀ (execRegionDestroy r region s) := by
  unfold execRegionDestroy
  refine .next ?_
  refine .command (fun _ _ h => ?_) h
  refine .ifHolder (fun _ h => ?_) h
  refine .ite (.finish h) ?_
  split
  · exact .refuse h
  · exact .ite (.refuse h) (.ite (.refuse h) (.startDrain (.setRegion h hregions) hmem hpds hregions haccounts hmembers hslots hqueues))

theorem KeepsOk.setRegionFlags {W : Writes} {s₀ s : State} {id : Nat} {r : Region} {set : Nat} {clear : Nat} {owner : Nat} (h : Keeps W
    s₀ s) (hmem : W.mem) (hregions : W.regions) : KeepsOk W s₀ (s.setRegionFlags id r set clear owner) := by
  unfold State.setRegionFlags
  refine .ite ?_ (.ite (.ok (.setRegion (.releaseRange (.ite (.unlockRegion h) h) hmem) hregions)) (.ok (.setRegion (.ite (.unlockRegion
    h) h) hregions)))
  split
  · exact .error
  · exact .ok (.protViews (.setRegion (.addExtents (.ite (.unlockRegion h) h)) hregions))

theorem KeepsOut.regionSetFlags {W : Writes} {s₀ s : State} {r : CmdRef} {region set clear peer : Nat} (h : Keeps W s₀ s) (hmem : W.mem)
    (hregions : W.regions) :
    KeepsOut W s₀ (execRegionSetFlags r region set clear peer s) := by
  refine .next (.command (fun c s h => .ifHolder (fun s h => .ite (.finish h) ?_) h) h)
  split
  · exact .refuse h
  · refine .ite (.refuse h) (.ite (.refuse h) (.ite (.refuse h) (.ite (.refuse h) ?_)))
    split
    · exact .refuse h
    · rename_i t ht
      have hk : Keeps W s₀ t := KeepsOk.setRegionFlags h hmem hregions t ht
      refine .finish (.when ?_ (fun h => .startResync (.markUnits h) hmem))
      split
      · exact .reportRegion (.mirrorCommand hk)
      · exact .mirrorCommand hk

theorem KeepsOut.pdDestroy {W : Writes} {s₀ s : State} {r : CmdRef} {pd : Nat} (h : Keeps W s₀ s) (hmem : W.mem) (hpds : W.pds)
    (hregions : W.regions) (haccounts : W.accounts) (hmembers : W.members) (hslots : W.slots) (hqueues : W.queues) : KeepsOut W s₀
    (execPdDestroy r pd s) :=
  .next (.command (fun _ _ h => .ifHolder (fun _ h => .ifDomainWide (fun _ h => .ite (.refuse h) (.ite (.refuse h) (.startDrain h hmem
    hpds hregions haccounts hmembers hslots hqueues))) h) h) h)

theorem KeepsOut.pdUnbindRegion {W : Writes} {s₀ s : State} {r : CmdRef} {pd : Nat} {region : Nat} (h : Keeps W s₀ s) (hmem : W.mem)
    (hpds : W.pds) (hregions : W.regions) (haccounts : W.accounts) (hmembers : W.members) (hslots : W.slots) (hqueues : W.queues) :
    KeepsOut W s₀ (execPdUnbindRegion r pd region s) := by
  unfold execPdUnbindRegion
  dsimp only
  refine .next ?_
  refine .command (fun _ _ h => ?_) h
  refine .ifHolder (fun _ h => ?_) h
  split
  · exact .refuse h
  · exact .refuse h
  · exact .ite (.refuse h) (.ite (.refuse h) (.ite (.refuse h) (.startDrain h hmem hpds hregions haccounts hmembers hslots hqueues)))

theorem KeepsOut.queueDestroy {W : Writes} {s₀ s : State} {r : CmdRef} {id : Nat} (h : Keeps W s₀ s) (hmem : W.mem) (hpds : W.pds)
    (hregions : W.regions) (haccounts : W.accounts) (hmembers : W.members) (hslots : W.slots) (hqueues : W.queues) : KeepsOut W s₀
    (execQueueDestroy r id s) :=
  .next (.command (fun _ _ h => .ifHolder (fun _ h => .ifDomainWide (fun _ h => .ite (.refuse h) (.startDrain (.dropUnadmitted h) hmem
    hpds hregions haccounts hmembers hslots hqueues)) h) h) h)

theorem KeepsOut.qpModify {W : Writes} {s₀ s : State} {r : CmdRef} {num : Nat} {state : Nat} {p : QpParams} (h : Keeps W s₀ s) (hmem :
    W.mem) (hpds : W.pds) (hregions : W.regions) (haccounts : W.accounts) (hmembers : W.members) (hslots : W.slots) (hqueues : W.queues)
    : KeepsOut W s₀ (execQpModify r num state p s) := by
  unfold execQpModify
  refine .next ?_
  refine .command (fun _ _ h => ?_) h
  refine .ifHolder (fun _ h => ?_) h
  split
  · exact .refuse h
  · split
    · exact .refuse h
    · exact .ite (.refuse h) (.ite (.refuse h) (.ite (.startDrain (.clamped h) hmem hpds hregions haccounts hmembers hslots hqueues)
        (.finish (.roceViews (.mirrorCommand (.ite (.modifyQp (.clamped h)) (.cmdEvent (.setQpErr (.clamped h)))))))))

theorem KeepsOut.qpDestroy {W : Writes} {s₀ s : State} {r : CmdRef} {num : Nat} (h : Keeps W s₀ s) (hmem : W.mem) (hpds : W.pds)
    (hregions : W.regions) (haccounts : W.accounts) (hmembers : W.members) (hslots : W.slots) (hqueues : W.queues) : KeepsOut W s₀
    (execQpDestroy r num s) := by
  unfold execQpDestroy
  refine .next ?_
  refine .command (fun _ _ h => ?_) h
  refine .ifHolder (fun _ h => ?_) h
  split
  · exact .refuse h
  · exact .ite (.refuse h) (.startDrain (.dropParked h) hmem hpds hregions haccounts hmembers hslots hqueues)

theorem KeepsOut.keyDestroy {W : Writes} {s₀ s : State} {r : CmdRef} {id : Nat} {flags : Nat} (h : Keeps W s₀ s) (hmem : W.mem)
    (hpds : W.pds) (hregions : W.regions) (haccounts : W.accounts) (hmembers : W.members) (hslots : W.slots) (hqueues : W.queues) :
    KeepsOut W s₀ (execKeyDestroy r id flags s) := by
  unfold execKeyDestroy
  dsimp only
  refine .next ?_
  refine .command (fun _ _ h => ?_) h
  refine .ifHolder (fun _ h => ?_) h
  split
  · exact .refuse h
  · exact .ite (.refuse h) (.ite (.refuse h) (.ite (.updCmd h) (.startDrain (.beginDestroy h hregions hslots) hmem hpds hregions
      haccounts hmembers hslots hqueues)))

theorem KeepsOut.shaperSet {W : Writes} {s₀ s : State} {r : CmdRef} {pd : Nat} {opsRate : Nat} {opsBurst : Nat} {bytesRate : Nat}
    {burstKib : Nat} (h : Keeps W s₀ s) (hmem : W.mem) (haccounts : W.accounts) : KeepsOut W s₀ (execShaperSet r pd opsRate opsBurst
      bytesRate burstKib s) :=
  .next (.command (fun _ _ h => .ifHolder (fun _ h => .ite (.refuse h) (.drainPorts (.moveWaiters (.finish (.clamped (.mirrorCommand
    (.setShaper h)))) hmem haccounts) hmem haccounts)) h) h)

theorem Keeps.reopen {W : Writes} {s₀ s : State} (h : Keeps W s₀ s) (hmem : W.mem) (haccounts : W.accounts) : Keeps W s₀ (s.reopen)
    :=
  .drainPorts (.moveWaiters (.foldl (fun _ _ h => .takeArrival h hmem haccounts) (.upd h rfl)) hmem haccounts) hmem haccounts

theorem Keeps.voidYield {W : Writes} {s₀ s : State} {reason : Nat} {serve : Bool} (h : Keeps W s₀ s) (hmem : W.mem) (haccounts :
    W.accounts) : Keeps W s₀ (s.voidYield reason serve) := by
  unfold State.voidYield
  split
  · exact h
  · exact .iteOn (.endSwitch (.upd h rfl)) (fun h => .reopen (.twinViews h) hmem haccounts) (fun h => .twinViews (.bump (.upd h rfl) rfl))

theorem Keeps.openAdmission {W : Writes} {s₀ s : State} (h : Keeps W s₀ s) (hmem : W.mem) (haccounts : W.accounts) (hledger : W.ledger) :
    Keeps W s₀ (s.openAdmission) :=
  .reopen (.settleLocks (.sendPushes (.sendOutbox (.firstAdmission (.twinViews (.sendStatus (.restoreAsHolder (.startAnnounce (.tokenInd
    (.upd h rfl)))))) hmem hledger))) hmem) hmem haccounts

theorem Keeps.linkDown {W : Writes} {s₀ s : State} {code : Nat} {retry : Nat} (h : Keeps W s₀ s) (hmem : W.mem) (haccounts : W.accounts)
    (hledger : W.ledger) : Keeps W s₀ (s.linkDown code retry) :=
  .ite (.twinViews (.advanceAll (.ite (.iteOn (.ite (.iteOn (.when (.restartQueues (.upd (.localiseCommands (.voidYield (.raise
    (.markUnits (.upd (.wr (.wr (.flushStream h) rfl) rfl) rfl))) hmem haccounts)) rfl)) (fun h => .setSync h hmem)) (fun h => .gainMark
    h hmem) (fun h => .recheckAccept h hmem)) (.restartQueues (.upd (.voidYield (.raise (.markUnits (.upd (.wr (.wr (.flushStream h) rfl)
    rfl) rfl))) hmem haccounts) rfl))) (fun h => .registerEpoch h) (fun h => .openAdmission h hmem haccounts hledger)) (.ite (.iteOn
    (.when (.restartQueues (.upd (.localiseCommands (.voidYield (.raise (.markUnits (.upd (.wr (.wr (.flushStream h) rfl) rfl) rfl)))
    hmem haccounts)) rfl)) (fun h => .setSync h hmem)) (fun h => .gainMark h hmem) (fun h => .recheckAccept h hmem)) (.restartQueues
    (.upd (.voidYield (.raise (.markUnits (.upd (.wr (.wr (.flushStream h) rfl) rfl) rfl))) hmem haccounts) rfl)))) hmem)) h

theorem KeepsOut.twinPair {W : Writes} {s₀ s : State} {r : CmdRef} {peer : Nat} {keyId : Nat} {home : Nat} {flags : Nat} (h : Keeps W s₀
    s) (hmem : W.mem) (haccounts : W.accounts) (hledger : W.ledger) : KeepsOut W s₀ (execTwinPair r peer keyId home flags s) :=
  .next (.command (fun _ _ h => .ite (.finish (.twinViews (.releaseStuck (.clamped (.tokenInd (.wr (.wr (.wr (.wr (.upd (.linkDown h hmem
    haccounts hledger) rfl) rfl) rfl) rfl) rfl))) hmem))) (.ite (.refuse h) (.finish (.twinViews (.clamped (.wr (.flag (.startTraining
    (.upd (.linkDown h hmem haccounts hledger) rfl)) rfl) rfl)))))) h)

theorem Keeps.openAsHolder {W : Writes} {s₀ s : State} (h : Keeps W s₀ s) (hmem : W.mem) (haccounts : W.accounts) (hledger : W.ledger) :
    Keeps W s₀ (s.openAsHolder) :=
  .openAdmission (.registerEpoch h) hmem haccounts hledger

theorem Keeps.takeToken {W : Writes} {s₀ s : State} {epoch : Nat} {leaseEnd : Option Nat} {sync : Nat} {yielded : Bool} (h : Keeps W s₀
    s) (hmem : W.mem) (haccounts : W.accounts) (hledger : W.ledger) : Keeps W s₀ (s.takeToken epoch leaseEnd sync yielded) :=
  .iteOn (.foldl (fun _ _ h => .resumeStream h) (.setCounter (.fillBuckets (.flagWindow (.wr (.wr (.restartQueues (.upd h rfl)) rfl)
    rfl))))) (fun h => .twinViews h) (fun h => .openAsHolder h hmem haccounts hledger)

theorem KeepsOut.twinSwitch {W : Writes} {s₀ s : State} {r : CmdRef} {mode tag : Nat} (h : Keeps W s₀ s) (hmem : W.mem) (haccounts :
    W.accounts) (hledger : W.ledger) :
    KeepsOut W s₀ (execTwinSwitch r mode tag s) := by
  refine .next (.command (fun c s h => .ite (.refuse h) (.ite (.ite (.finish h) (.ite (.refuse h) (.ite (.refuse h) ?_))) (.ite (.refuse
    h) (.ite (.refuse h) (.ite (.refuse h) (.ite (.clamped (.sendRequest (.upd h rfl))) (.finish (.switchOver (.unless (.clamped
    (.takeToken h hmem haccounts hledger)) (fun h => .gainMark h hmem)))))))))) h)
  have hy : Keeps W s₀ (s.startYield 1 (some c.id) tag).2 := .startYield h
  split
  · rename_i t ht
    rw [ht] at hy
    exact .clamped hy
  · rename_i t ht
    rw [ht] at hy
    exact .refuse hy

theorem Keeps.zeroFill {W : Writes} {s₀ s : State} {a : Nat} {n : Nat} (h : Keeps W s₀ s) (hmem : W.mem) : Keeps W s₀ (s.zeroFill a n) :=
  .clearImage (.foldl (fun _ _ h => .clearMedia h hmem) h) hmem

theorem Keeps.found {W : Writes} {s₀ s : State} {c : Cmd} {keyId : Nat} {ws : List Nat} (h : Keeps W s₀ s) (hmem : W.mem) (hregions :
    W.regions) (hmembers : W.members) :
    Keeps W s₀ (s.found c keyId ws) := by
  unfold State.found
  refine .ite (.refuse h) (.ite (.refuse h) ?_)
  dsimp only
  cases hc : s.createRegion 0 (directoryRegion s.side) with
  | error e => exact .refuse h
  | ok t =>
    exact .finish (.relist (.mirrorDomain (.wr (.mirrorChange (.store (.mirrorChange (.zeroFill (KeepsOk.createRegion h hregions t hc)
      hmem)) (.setMembers hmembers) rfl)) rfl)))

theorem KeepsOut.domainJoin {W : Writes} {s₀ s : State} {r : CmdRef} {mode : Nat} {keyId : Nat} {managerIp : Nat} {w0 : Nat} {w1 : Nat}
    {w2 : Nat} {peerRole : Nat} (h : Keeps W s₀ s) (hmem : W.mem) (hregions : W.regions) (hmembers : W.members) : KeepsOut W s₀
    (execDomainJoin r mode keyId managerIp w0 w1 w2 peerRole s) :=
  .domainCommand (fun _ _ h => .ite (.refuse h) (.ite (.refuse h) (.ite (.beginJoin (.clamped h)) (.ite (.found (.clamped h) hmem
    hregions hmembers) (.setWitnesses (.clamped h)))))) h

theorem Keeps.newRootKeys {W : Writes} {s₀ s : State} (h : Keeps W s₀ s) (hmem : W.mem) (hpds : W.pds) (hregions : W.regions) (haccounts
    : W.accounts) (hmembers : W.members) (hslots : W.slots) (hqueues : W.queues) (hledger : W.ledger) :
    Keeps W s₀ (s.newRootKeys) := by
  have he := Keeps.eraseMedia (.fresh (bits := 256) (.fresh (bits := 256) h)) hmem hpds hregions haccounts hmembers hslots hqueues hledger
  unfold State.newRootKeys
  dsimp only
  generalize State.eraseMedia _ = t at he ⊢
  exact .wr (.wr (.deriveXts (.store he (.setSlots hslots) rfl) hslots) rfl) rfl

theorem Keeps.destroyRootKeys {W : Writes} {s₀ s : State} (h : Keeps W s₀ s) (hmem : W.mem) (hpds : W.pds) (hregions : W.regions)
    (haccounts : W.accounts) (hmembers : W.members) (hslots : W.slots) (hqueues : W.queues) (hledger : W.ledger) :
    Keeps W s₀ (s.destroyRootKeys) := by
  have he := Keeps.eraseMedia h hmem hpds hregions haccounts hmembers hslots hqueues hledger
  unfold State.destroyRootKeys
  generalize s.eraseMedia = t at he ⊢
  exact .upd he rfl

theorem Keeps.applyLifecycle {W : Writes} {s₀ s : State} {c : Change} (h : Keeps W s₀ s) (hmem : W.mem) (hpds : W.pds) (hregions :
    W.regions) (haccounts : W.accounts) (hmembers : W.members) (hslots : W.slots) (hqueues : W.queues) (hledger : W.ledger) : Keeps
    W s₀ (s.applyLifecycle c) :=
  .raiseKeeper (.ite (.newRootKeys (.ite (.upd (.wr (.wr (.wr (.wr (.writeCopy h) rfl) rfl) rfl) rfl) rfl) (.foldl (fun _ _ h => .wrN h
    rfl) (.upd (.upd (.wr (.wr (.wr (.wr (.writeCopy h) rfl) rfl) rfl) rfl) rfl) rfl))) hmem hpds hregions haccounts hmembers hslots
    hqueues hledger) (.ite (.upd (.wr (.destroyRootKeys (.upd (.wr (.wr (.wr (.wr (.writeCopy h) rfl) rfl) rfl) rfl) rfl) hmem hpds
    hregions haccounts hmembers hslots hqueues hledger) rfl) rfl) (.when (.upd (.wr (.wr (.wr (.wr (.writeCopy h) rfl) rfl) rfl) rfl)
    rfl) (fun h => .destroyRootKeys h hmem hpds hregions haccounts hmembers hslots hqueues hledger))))

theorem Keeps.applyChange {W : Writes} {s₀ s : State} {c : Change} (h : Keeps W s₀ s) (hmem : W.mem) (hpds : W.pds) (hregions :
    W.regions) (haccounts : W.accounts) (hmembers : W.members) (hslots : W.slots) (hqueues : W.queues) (hledger : W.ledger) : Keeps
    W s₀ (s.applyChange c) :=
  .ite (.applyDebug h) (.applyLifecycle h hmem hpds hregions haccounts hmembers hslots hqueues hledger)

theorem Keeps.requestChange {W : Writes} {s₀ s : State} {debug : Bool} {target len : Nat} {b : AuthBlob} {tag : Option Nat} (h : Keeps W
    s₀ s) (hmem : W.mem) (hpds : W.pds) (hregions : W.regions) (haccounts : W.accounts) (hmembers : W.members) (hslots : W.slots)
    (hqueues : W.queues) (hledger : W.ledger) (hsave : W.save) :
    Keeps W s₀ ((s.requestChange debug target len b tag).2) := by
  have hn : Keeps W s₀ (if debug && target == 0 then s else s.newNonce) := .ite h (.newNonce h)
  have hr (why : Nat) : Keeps W s₀ (s.wr R.LIFE_AUTH_STATUS_REASON why) := .wr h rfl
  have hb : Keeps W s₀ (((if debug && target == 0 then s else s.newNonce).bump R.LIFE_AUTH_FAIL 1).wr R.LIFE_AUTH_STATUS_REASON
    Why.AUTH_FAIL) := .wr (.bump hn rfl) rfl
  unfold State.requestChange
  refine .iteSnd (hr Why.BAD_PARAM) (.iteSnd (hr Why.BAD_TRANSITION) (.iteSnd ?_ (.iteSnd (.upd (.wr (.wr hn rfl) rfl) rfl) (.iteSnd
    (.startSave (.wr hn rfl) hsave) (.applyChange (.wr hn rfl) hmem hpds hregions haccounts hmembers hslots hqueues hledger)))))
  cases tag with
  | none => exact .raiseKeeper hb
  | some t => exact .raiseTag hb

theorem KeepsOut.lifecycleRequest {W : Writes} {s₀ s : State} {r : CmdRef} {kind : Nat} {target : Nat} {len : Nat} {b : AuthBlob} (h :
    Keeps W s₀ s) (hmem : W.mem) (hpds : W.pds) (hregions : W.regions) (haccounts : W.accounts) (hmembers : W.members) (hslots : W.slots)
    (hqueues : W.queues) (hledger : W.ledger) (hsave : W.save) : KeepsOut W s₀ (execLifecycleRequest r kind target len b s)
    :=
  .next (.command (fun _ _ h => .ite (.endCmd (.clamped (.requestChange h hmem hpds hregions haccounts hmembers hslots hqueues hledger
    hsave))) (.refuse (.when (.requestChange h hmem hpds hregions haccounts hmembers hslots hqueues hledger hsave) (fun h => .updCmd
    h)))) h)

theorem Keeps.startPowerUp {W : Writes} {s₀ s : State} (h : Keeps W s₀ s) :
    Keeps W s₀ (s.startPowerUp) := by
  unfold State.startPowerUp
  generalize List.range 16 = l
  exact .setPower (.foldl (fun _ _ h => .commandRail h) (.upd (.foldl (fun _ _ h => .wrN (.wrN h rfl) rfl) (.wr (.wr (.wr (.upd h rfl)
    rfl) rfl) rfl)) rfl))

theorem Keeps.tryPowerUp {W : Writes} {s₀ s : State} {anyway : Bool} (h : Keeps W s₀ s) : Keeps W s₀ (s.tryPowerUp anyway) :=
  .ite (.ite (.startPowerUp h) (.upd h rfl)) h

theorem Keeps.wake {W : Writes} {s₀ s : State} (h : Keeps W s₀ s) : Keeps W s₀ (s.wake) :=
  .ite h (.ite (.tryPowerUp (.driveFeeds (.upd (.wr (.wr h rfl) rfl) rfl))) (.ite (.upd h rfl) h))

theorem KeepsOut.wake {W : Writes} {s₀ s : State} {seq : Nat} {imageOk : Bool} (h : Keeps W s₀ s) : KeepsOut W s₀ (execWake seq imageOk
    s) :=
  .next (.ite h (.ite (.reply h) (.ite (.wake (.reply h)) (.wake (.reply (.ite (.upd h rfl) h))))))

theorem KeepsOut.lifecycleSubmit {W : Writes} {s₀ s : State} {seq : Nat} {kind : Nat} {target : Nat} {len : Nat} {signed : Bool} (h :
    Keeps W s₀ s) (hmem : W.mem) (hpds : W.pds) (hregions : W.regions) (haccounts : W.accounts) (hmembers : W.members) (hslots : W.slots)
    (hqueues : W.queues) (hledger : W.ledger) (hsave : W.save) : KeepsOut W s₀ (execLifecycleSubmit seq kind target len signed s) :=
  .next (.ite h (.reply (.upd (.requestChange h hmem hpds hregions haccounts hmembers hslots hqueues hledger hsave) rfl)))

theorem Keeps.arrive {W : Writes} {s₀ s : State} {a : Arrival} (h : Keeps W s₀ s) (hmem : W.mem) (haccounts : W.accounts) : Keeps W
    s₀ (s.arrive a) :=
  .ite h (.ite (.wrN (.setPort (.wrN (.ite h (.closeDue h haccounts)) rfl)) rfl) (.unless (.when (.setPort (.wrN (.ite h (.closeDue h
    haccounts)) rfl)) (fun h => .wrN (.send h) rfl)) (fun h => .drainPorts (.upd (.note h) rfl) hmem haccounts)))

theorem KeepsOut.read {W : Writes} {s₀ s : State} {p : CergaPacket} (h : Keeps W s₀ s) (hmem : W.mem) (haccounts : W.accounts) :
    KeepsOut W s₀ (execRead p s) :=
  .next (.arrive h hmem haccounts)

theorem KeepsOut.write {W : Writes} {s₀ s : State} {p : CergaPacket} (h : Keeps W s₀ s) (hmem : W.mem) (haccounts : W.accounts) :
    KeepsOut W s₀ (execWrite p s) :=
  .next (.arrive h hmem haccounts)

theorem KeepsOut.cas8 {W : Writes} {s₀ s : State} {p : CergaPacket} (h : Keeps W s₀ s) (hmem : W.mem) (haccounts : W.accounts) :
    KeepsOut W s₀ (execCas8 p s) :=
  .next (.arrive h hmem haccounts)

theorem KeepsOut.cas16 {W : Writes} {s₀ s : State} {p : CergaPacket} (h : Keeps W s₀ s) (hmem : W.mem) (haccounts : W.accounts) :
    KeepsOut W s₀ (execCas16 p s) :=
  .next (.arrive h hmem haccounts)

theorem KeepsOut.fadd8 {W : Writes} {s₀ s : State} {p : CergaPacket} (h : Keeps W s₀ s) (hmem : W.mem) (haccounts : W.accounts) :
    KeepsOut W s₀ (execFadd8 p s) :=
  .next (.arrive h hmem haccounts)

theorem KeepsOut.fence {W : Writes} {s₀ s : State} {p : CergaPacket} (h : Keeps W s₀ s) (hmem : W.mem) (haccounts : W.accounts) :
    KeepsOut W s₀ (execFence p s) :=
  .next (.arrive h hmem haccounts)

theorem KeepsOut.shelfRead {W : Writes} {s₀ s : State} {p : CergaPacket} (h : Keeps W s₀ s) (hmem : W.mem) (haccounts : W.accounts)
    : KeepsOut W s₀ (execShelfRead p s) :=
  .next (.arrive h hmem haccounts)

theorem KeepsOut.scheduleAdvance {W : Writes} {s₀ s : State} {p : CergaPacket} (h : Keeps W s₀ s) (hmem : W.mem) (haccounts : W.accounts)
    : KeepsOut W s₀ (execScheduleAdvance p s) :=
  .next (.arrive h hmem haccounts)

theorem KeepsOut.ledgerQuery {W : Writes} {s₀ s : State} {p : CergaPacket} (h : Keeps W s₀ s) (hmem : W.mem) (haccounts : W.accounts) :
    KeepsOut W s₀ (execLedgerQuery p s) :=
  .next (.arrive h hmem haccounts)

theorem KeepsOut.hallmark {W : Writes} {s₀ s : State} {p : CergaPacket} (h : Keeps W s₀ s) (hmem : W.mem) (haccounts : W.accounts) :
    KeepsOut W s₀ (execHallmark p s) :=
  .next (.arrive h hmem haccounts)

theorem KeepsOut.timeQuery {W : Writes} {s₀ s : State} {p : CergaPacket} (h : Keeps W s₀ s) (hmem : W.mem) (haccounts : W.accounts)
    : KeepsOut W s₀ (execTimeQuery p s) :=
  .next (.arrive h hmem haccounts)

theorem KeepsOut.clientAcknowledgement {W : Writes} {s₀ s : State} {p : CergaPacket} (h : Keeps W s₀ s) (hmem : W.mem) (haccounts :
    W.accounts) : KeepsOut W s₀ (execClientAcknowledgement p s) :=
  .next (.arrive h hmem haccounts)

theorem KeepsOut.contextFetchComplete {W : Writes} {s₀ s : State} {index : Nat} (h : Keeps W s₀ s) (hmem : W.mem) (haccounts :
    W.accounts) : KeepsOut W s₀ (execContextFetchComplete index s) :=
  .next (.ite h (.foldl (fun _ _ h => .authenticate h hmem haccounts) (.cacheContext (.upd h rfl))))

theorem KeepsOut.rdmaWrite {W : Writes} {s₀ s : State} {p : RocePacket} (h : Keeps W s₀ s) (hmem : W.mem) (haccounts : W.accounts) :
    KeepsOut W s₀ (execRdmaWrite p s) :=
  .next (.ite (.arrive h hmem haccounts) h)

theorem KeepsOut.rdmaReadRequest {W : Writes} {s₀ s : State} {p : RocePacket} (h : Keeps W s₀ s) (hmem : W.mem) (haccounts : W.accounts)
    : KeepsOut W s₀ (execRdmaReadRequest p s) :=
  .next (.arrive h hmem haccounts)

theorem KeepsOut.cmpswap {W : Writes} {s₀ s : State} {p : RocePacket} (h : Keeps W s₀ s) (hmem : W.mem) (haccounts : W.accounts) :
    KeepsOut W s₀ (execCmpswap p s) :=
  .next (.arrive h hmem haccounts)

theorem KeepsOut.fetchadd {W : Writes} {s₀ s : State} {p : RocePacket} (h : Keeps W s₀ s) (hmem : W.mem) (haccounts : W.accounts) :
    KeepsOut W s₀ (execFetchadd p s) :=
  .next (.arrive h hmem haccounts)

theorem KeepsOut.roceUnsupportedOpcode {W : Writes} {s₀ s : State} {p : RocePacket} (h : Keeps W s₀ s) (hmem : W.mem) (haccounts :
    W.accounts) : KeepsOut W s₀ (execRoceUnsupportedOpcode p s) :=
  .next (.ite h (.arrive h hmem haccounts))

theorem KeepsOut.cnp {W : Writes} {s₀ s : State} {p : RocePacket} (h : Keeps W s₀ s) (hmem : W.mem) (haccounts : W.accounts) :
    KeepsOut W s₀ (execCnp p s) :=
  .next (.arrive h hmem haccounts)

theorem Keeps.respondCerga {W : Writes} {s₀ s : State} {o : Op} {i st : Nat} {data : List Byte} {marks : List Nat} (h : Keeps W s₀ s)
    (hledger : W.ledger) :
    Keeps W s₀ (s.respondCerga o i st data marks) := by
  exact .coverResponse (.when (.ite (.cergaRespond h) (.ite (.cergaRespond h) (.ite (.cergaData h) (.ite (.cergaRespond h) (.ite
    (.cergaRespond (.ledgerQuery h hledger)) (.ite (.raise (.cergaReport h)) (.ite (.cergaRespond h) (.cergaRespond h)))))))) (fun h =>
    .cacheResult h))

theorem Keeps.completeOp {W : Writes} {s₀ s : State} {o : Op} (h : Keeps W s₀ s) (hmem : W.mem) (haccounts : W.accounts) (hledger :
    W.ledger) : Keeps W s₀ (s.completeOp o) := by
  unfold State.completeOp
  refine .tierViews ?_
  refine .moveWaiters ?_ hmem haccounts
  refine .advanceAll ?_ hmem
  refine .settleIfDone ?_ haccounts
  refine .upd ?_ rfl
  split
  · refine .settleQp ?_
    refine .iteOn ?_ (fun h => .updOp h) (fun h => .upd h rfl)
    refine .ite ?_ ?_
    · refine .moveCursor ?_
      split
      · exact .respondCerga (.when (.when (.carryState (.chargeEnd (.note (.when (.when (.when (.poisonedData h) (fun h => .bump h rfl))
          (fun h => .raise h)) (fun h => .raise h))))) (fun h => .sampleShadow h)) (fun h => .advanceCursor h)) hledger
      · exact .respondRoce (.when (.when (.carryState (.chargeEnd (.note (.when (.when (.when (.poisonedData h) (fun h => .bump h rfl))
          (fun h => .raise h)) (fun h => .raise h))))) (fun h => .sampleShadow h)) (fun h => .advanceCursor h))
      · exact .respondHost (.when (.when (.carryState (.chargeEnd (.note (.when (.when (.when (.poisonedData h) (fun h => .bump h rfl))
          (fun h => .raise h)) (fun h => .raise h))))) (fun h => .sampleShadow h)) (fun h => .advanceCursor h))
    · split
      · exact .respondCerga (.when (.when (.carryState (.chargeEnd (.note (.when (.when (.when (.poisonedData h) (fun h => .bump h rfl))
          (fun h => .raise h)) (fun h => .raise h))))) (fun h => .sampleShadow h)) (fun h => .advanceCursor h)) hledger
      · exact .respondRoce (.when (.when (.carryState (.chargeEnd (.note (.when (.when (.when (.poisonedData h) (fun h => .bump h rfl))
          (fun h => .raise h)) (fun h => .raise h))))) (fun h => .sampleShadow h)) (fun h => .advanceCursor h))
      · exact .respondHost (.when (.when (.carryState (.chargeEnd (.note (.when (.when (.when (.poisonedData h) (fun h => .bump h rfl))
          (fun h => .raise h)) (fun h => .raise h))))) (fun h => .sampleShadow h)) (fun h => .advanceCursor h))
  · refine .iteOn ?_ (fun h => .updOp h) (fun h => .upd h rfl)
    refine .ite ?_ ?_
    · refine .moveCursor ?_
      split
      · exact .respondCerga (.when (.when (.carryState (.chargeEnd (.note (.when (.when (.when (.poisonedData h) (fun h => .bump h rfl))
          (fun h => .raise h)) (fun h => .raise h))))) (fun h => .sampleShadow h)) (fun h => .advanceCursor h)) hledger
      · exact .respondRoce (.when (.when (.carryState (.chargeEnd (.note (.when (.when (.when (.poisonedData h) (fun h => .bump h rfl))
          (fun h => .raise h)) (fun h => .raise h))))) (fun h => .sampleShadow h)) (fun h => .advanceCursor h))
      · exact .respondHost (.when (.when (.carryState (.chargeEnd (.note (.when (.when (.when (.poisonedData h) (fun h => .bump h rfl))
          (fun h => .raise h)) (fun h => .raise h))))) (fun h => .sampleShadow h)) (fun h => .advanceCursor h))
    · split
      · exact .respondCerga (.when (.when (.carryState (.chargeEnd (.note (.when (.when (.when (.poisonedData h) (fun h => .bump h rfl))
          (fun h => .raise h)) (fun h => .raise h))))) (fun h => .sampleShadow h)) (fun h => .advanceCursor h)) hledger
      · exact .respondRoce (.when (.when (.carryState (.chargeEnd (.note (.when (.when (.when (.poisonedData h) (fun h => .bump h rfl))
          (fun h => .raise h)) (fun h => .raise h))))) (fun h => .sampleShadow h)) (fun h => .advanceCursor h))
      · exact .respondHost (.when (.when (.carryState (.chargeEnd (.note (.when (.when (.when (.poisonedData h) (fun h => .bump h rfl))
          (fun h => .raise h)) (fun h => .raise h))))) (fun h => .sampleShadow h)) (fun h => .advanceCursor h))

theorem KeepsOut.operationCompletion {W : Writes} {s₀ s : State} {tag : Nat} (h : Keeps W s₀ s) (hmem : W.mem) (haccounts : W.accounts)
    (hledger : W.ledger) : KeepsOut W s₀ (execOperationCompletion tag s) := by
  unfold execOperationCompletion
  refine .next ?_
  split
  · exact .ite (.completeOp h hmem haccounts hledger) h
  · exact h

theorem KeepsOut.zeroFillComplete {W : Writes} {s₀ s : State} {region : Nat} (h : Keeps W s₀ s) (hmem : W.mem) (hregions : W.regions) :
    KeepsOut W s₀ (execZeroFillComplete region s) := by
  unfold execZeroFillComplete
  dsimp only
  refine .next ?_
  split
  · refine .ite h ?_
    split
    · exact .upd h rfl
    · exact .ite (.settleRegion (.setRegion (.zeroFill (.upd h rfl) hmem) hregions)) (.settleResize (.zeroFill (.upd h rfl) hmem)
        hregions)
  · exact h

theorem KeepsOut.drainComplete {W : Writes} {s₀ s : State} {place : Nat} (h : Keeps W s₀ s) (hmem : W.mem) (hpds : W.pds) (hregions :
    W.regions) (hmembers : W.members) (hslots : W.slots) (hqueues : W.queues) : KeepsOut W s₀ (execDrainComplete place s) := by
  unfold execDrainComplete
  refine .next ?_
  split
  · exact .ite (.finishDrain h hmem hpds hregions hmembers hslots hqueues) h
  · exact h

theorem Keeps.sendHandover {W : Writes} {s₀ s : State} {y : Yield} (h : Keeps W s₀ s) (hmem : W.mem) (haccounts : W.accounts)
    (hledger : W.ledger) : Keeps W s₀ (s.sendHandover y) := by
  unfold State.sendHandover
  refine .upd ?_ rfl
  refine .unless ?_ (fun h => .dropUntaken (.upd h rfl))
  refine .bump ?_ rfl
  refine .sendItem ?_
  refine .flushStream ?_
  refine .ite h ?_
  refine .foldl (fun _ _ h => ?_) (.cutOps h)
  split
  · exact .ite (.completeOp h hmem haccounts hledger) h
  · exact h

theorem Keeps.saveFreeze {W : Writes} {s₀ s : State} (h : Keeps W s₀ s) (hmem : W.mem) (haccounts : W.accounts) (hledger : W.ledger)
    (hsave : W.save) : Keeps W s₀ (s.saveFreeze) := by
  unfold State.saveFreeze
  dsimp only
  split
  · exact .when (.flushStream (.store (.upd (.foldl (fun _ _ h => .ite h (.chargeEnd h)) (.upd h rfl)) rfl) (.setSave hsave) rfl)) (fun h
      => .sendHandover h hmem haccounts hledger)
  · exact .flushStream (.store (.upd (.foldl (fun _ _ h => .ite h (.chargeEnd h)) (.upd h rfl)) rfl) (.setSave hsave) rfl)

theorem Keeps.rollbackRegion {W : Writes} {s₀ s : State} {id : Nat} (h : Keeps W s₀ s) (hmem : W.mem) (hregions : W.regions) : Keeps
    W s₀ (s.rollbackRegion id) := by
  unfold State.rollbackRegion
  split
  · exact h
  · split
    · exact h
    · exact .destroyRegion h hmem hregions
    · exact .setRegion (.ite (.releaseRange h hmem) h) hregions

theorem Keeps.rollback {W : Writes} {s₀ s : State} (h : Keeps W s₀ s) (hmem : W.mem) (hregions : W.regions) (hslots : W.slots)
    (hqueues : W.queues) : Keeps W s₀ (s.rollback).2 :=
  .store (.store (.foldl (fun _ _ h => .rollbackRegion h hmem hregions) h) (.setQueues hqueues) rfl) (.setSlots hslots) rfl

theorem Keeps.saveCommands {W : Writes} {s₀ s : State} (h : Keeps W s₀ s) (hmem : W.mem) (hregions : W.regions) (hslots : W.slots)
    (hqueues : W.queues) (hsave : W.save) : Keeps W s₀ (s.saveCommands) :=
  .dropRings (.store (.rollback (.undoLocks (.foldl (fun _ _ h => .endCmd h) h)) hmem hregions hslots hqueues) (.setSave hsave) rfl)

theorem Keeps.saveIslands {W : Writes} {s₀ s : State} (h : Keeps W s₀ s) (hmem : W.mem) (hregions : W.regions) (hslots : W.slots)
    (hqueues : W.queues) (hsave : W.save) : Keeps W s₀ (s.saveIslands) := by
  have hb := Keeps.saveBraze (.saveCommands h hmem hregions hslots hqueues hsave)
  unfold State.saveIslands
  generalize s.saveCommands.saveBraze = t at hb ⊢
  exact .nearViews (.store (.upd hb rfl) (.setSave hsave) rfl)

theorem Keeps.saveStep {W : Writes} {s₀ s : State} {x1 : Nat} (h : Keeps W s₀ s) (hmem : W.mem) (hregions : W.regions) (haccounts :
    W.accounts) (hslots : W.slots) (hqueues : W.queues) (hledger : W.ledger) (hsave : W.save) : Keeps W s₀
    (s.saveStep x1) := by
  unfold State.saveStep
  split
  · exact .saveYield h
  · exact .saveFreeze h hmem haccounts hledger hsave
  · exact .settleDram h hmem
  · exact .saveIslands h hmem hregions hslots hqueues hsave
  · exact .programAll h hmem
  · exact .saveBlocks h
  · exact .saveRecord h
  · exact h

theorem KeepsOut.saveStepComplete {W : Writes} {s₀ s : State} (h : Keeps W s₀ s) (hmem : W.mem) (hregions : W.regions) (haccounts :
    W.accounts) (hslots : W.slots) (hqueues : W.queues) (hledger : W.ledger) (hsave : W.save) : KeepsOut W s₀
    (execSaveStepComplete s) :=
  .next (.ite h (.paceViews (.sendStatus (.store (.wr (.saveStep h hmem hregions haccounts hslots hqueues hledger hsave) rfl) (.setSave
    hsave) rfl))))

theorem Keeps.saveChange {W : Writes} {s₀ s : State} (h : Keeps W s₀ s) (hmem : W.mem) (hpds : W.pds) (hregions : W.regions)
    (haccounts : W.accounts) (hmembers : W.members) (hslots : W.slots) (hqueues : W.queues) (hledger : W.ledger) (hsave : W.save) :
    Keeps W s₀ (s.saveChange) := by
  unfold State.saveChange
  split
  · exact h
  · exact .iteOn (.store h (.setSave hsave) rfl) (fun h => .upd h rfl) (fun h => .applyChange h hmem hpds hregions haccounts hmembers
      hslots hqueues hledger)

theorem Keeps.applyDeferred {W : Writes} {s₀ s : State} (h : Keeps W s₀ s) (hmem : W.mem) (hpds : W.pds) (hregions : W.regions)
    (haccounts : W.accounts) (hmembers : W.members) (hslots : W.slots) (hqueues : W.queues) (hledger : W.ledger) : Keeps W s₀
    (s.applyDeferred) := by
  unfold State.applyDeferred
  split
  · exact .applyChange (.upd (.wr h rfl) rfl) hmem hpds hregions haccounts hmembers hslots hqueues hledger
  · exact h

theorem Keeps.quenchMemories {W : Writes} {s₀ s : State} (h : Keeps W s₀ s) (hmem : W.mem) (hkeyRegs : W.keyRegs) :
    Keeps W s₀ (s.quenchMemories) :=
  .wr (.wr (.upd (.store (.store (.fresh (bits := 256) (.quenchRecords (.fillBuckets (.upd h rfl)))) (.setKeyRegs hkeyRegs) rfl) (.setMem
    hmem .emptyDram) rfl) rfl) rfl) rfl

theorem Keeps.quench {W : Writes} {s₀ s : State} {q : QuenchReport} (h : Keeps W s₀ s) (hmem : W.mem) (hpds : W.pds) (hregions :
    W.regions) (hslots : W.slots) (hkeyRegs : W.keyRegs) (hqueues : W.queues) (hsave : W.save) (hcaptures : W.captures) : Keeps W s₀
    (s.quench q) := by
  have hd := Keeps.quenchDomain (.quenchTwin (.quenchTransports (.quenchEngines (.quenchGrace (.keepUnconfirmed
    (.rollback (.undoLocks h) hmem hregions hslots hqueues)) hpds))))
  have hh := Keeps.quenchHost (.quenchMemories hd hmem hkeyRegs) hcaptures
  unfold State.quench
  dsimp only
  generalize State.quenchHost _ = t at hh ⊢
  exact .recomputeBudget (.quenchSweep (.store hh (.setSave hsave) rfl))

theorem Keeps.releaseCore {W : Writes} {s₀ s : State} {q : QuenchReport} (h : Keeps W s₀ s) (hmem : W.mem) (hpds : W.pds) (hregions :
    W.regions) (haccounts : W.accounts) (hmembers : W.members) (hslots : W.slots) (hkeyRegs : W.keyRegs) (hfw : W.fw) (hqueues :
    W.queues) (hledger : W.ledger) (hsave : W.save) (hcaptures : W.captures) : Keeps W s₀ (s.releaseCore q) :=
  .strapEvents (.setPower (.wr (.wr (.wr (.wr (.upd (.store (.wr (.wr (.newNonce (.applyDeferred (.quench (.sampleStraps h) hmem hpds
    hregions hslots hkeyRegs hqueues hsave hcaptures) hmem hpds hregions haccounts hmembers hslots hqueues hledger)) rfl) rfl) (.setFw
    hfw) rfl) rfl) rfl) rfl) rfl) rfl))

theorem KeepsOut.saveSequenceEnd {W : Writes} {s₀ s : State} {mv : Nat} {q : QuenchReport} (h : Keeps W s₀ s) (hmem : W.mem) (hpds :
    W.pds) (hregions : W.regions) (haccounts : W.accounts) (hmembers : W.members) (hslots : W.slots) (hkeyRegs : W.keyRegs) (hfw : W.fw)
    (hqueues : W.queues) (hledger : W.ledger) (hsave : W.save) (hcaptures : W.captures) (hconfig : W.config) : KeepsOut W s₀
    (execSaveSequenceEnd mv q s) :=
  .next (.ite h (.iteOn (.saveChange (.endSave h hledger hsave) hmem hpds hregions haccounts hmembers hslots hqueues hledger hsave) (fun
    h => .releaseCore (.wr h rfl) hmem hpds hregions haccounts hmembers hslots hkeyRegs hfw hqueues hledger hsave hcaptures) (fun h =>
    .startShutdown (.upd h rfl) hconfig)))

/-- The load is off and the test's record stored, whatever the record says. -/
theorem Keeps.holdupTested {W : Writes} {s₀ s : State} {holdup : HoldupTest} (h : Keeps W s₀ s) :
    Keeps W s₀ { s.testLoad false with keeper.holdup := holdup, keeper.testEnd := none } :=
  .upd (.testLoad h) rfl

theorem KeepsOut.holdupTestVEnd {W : Writes} {s₀ s : State} {mv : Nat} (h : Keeps W s₀ s) : KeepsOut W s₀ (execHoldupTestVEnd mv s) := by
  unfold execHoldupTestVEnd
  refine .next (.ite ?_ h)
  generalize s.stepEsr s.keeper.holdup.v0 s.keeper.holdup.v1 = e
  cases e with
  | none => exact .abortHoldupTest h
  | some e => exact .ite (.holdupTested (.wr (.wr (.wr (.setCounter h) rfl) rfl) rfl)) (.abortHoldupTest h)

theorem KeepsOut.twinRow {W : Writes} {s₀ s : State} {f : State → State}
    (hf : ∀ s, Keeps W s₀ s → Keeps W s₀ (f s)) (h : Keeps W s₀ s) :
    KeepsOut W s₀ (s.twinRow f) :=
  .next (.ite (hf _ h) h)

theorem KeepsOut.brazeLossOfSignal {W : Writes} {s₀ s : State} (h : Keeps W s₀ s) (hmem : W.mem) (haccounts : W.accounts) (hledger :
    W.ledger) : KeepsOut W s₀ (execBrazeLossOfSignal s) :=
  .twinRow (fun _ h => .linkDown h hmem haccounts hledger) h

theorem KeepsOut.brazeDeadTimeout {W : Writes} {s₀ s : State} (h : Keeps W s₀ s) (hmem : W.mem) (haccounts : W.accounts) (hledger :
    W.ledger) : KeepsOut W s₀ (execBrazeDeadTimeout s) :=
  .twinRow (fun _ h => .ite (.linkDown h hmem haccounts hledger) h) h

theorem Keeps.discardOps {W : Writes} {s₀ s : State} (h : Keeps W s₀ s) (hmem : W.mem) (hregions : W.regions) (haccounts : W.accounts)
    (hslots : W.slots) (hqueues : W.queues) : Keeps W s₀ (s.discardOps) :=
  .ite h (.settleIfDone (.discardPackets (.upd (.foldl (fun _ _ h => .finish h) (.rollback h hmem hregions hslots hqueues)) rfl))
    haccounts)

theorem Keeps.becomeStandby {W : Writes} {s₀ s : State} (h : Keeps W s₀ s) (hmem : W.mem) (hregions : W.regions) (haccounts : W.accounts)
    (hslots : W.slots) (hqueues : W.queues) (hledger : W.ledger) : Keeps W s₀ (s.becomeStandby) :=
  .when (.when (.restoreAsStandby (.setCounter (.flagWindow (.tokenInd (.wr (.restartQueues (.upd (.dropStage (.leaveDomainWork
    (.discardOps h hmem hregions haccounts hslots hqueues)) hmem) rfl)) rfl))))) (fun h => .supersede h hledger)) (fun h => .setSync h
    hmem)

theorem Keeps.learnEpoch {W : Writes} {s₀ s : State} {epoch : Nat} (h : Keeps W s₀ s) (hmem : W.mem) (hregions : W.regions)
    (haccounts : W.accounts) (hslots : W.slots) (hqueues : W.queues) (hledger : W.ledger) : Keeps W s₀ (s.learnEpoch epoch) := by
  unfold State.learnEpoch
  refine .ite ?_ h
  refine .ite ?_ (.restartQueues (.setCounter (.wr h rfl)))
  refine .twinViews ?_
  split
  · exact .endSwitch (.becomeStandby (.setCounter (.wr h rfl)) hmem hregions haccounts hslots hqueues hledger)
  · exact .becomeStandby (.setCounter (.wr h rfl)) hmem hregions haccounts hslots hqueues hledger

theorem Keeps.settleRoles {W : Writes} {s₀ s : State} {peerEpoch : Nat} (h : Keeps W s₀ s) (hmem : W.mem) (hregions : W.regions)
    (haccounts : W.accounts) (hslots : W.slots) (hqueues : W.queues) (hledger : W.ledger) : Keeps W s₀ (s.settleRoles peerEpoch) :=
  .ite (.learnEpoch h hmem hregions haccounts hslots hqueues hledger) (.ite (.ite (.takeToken h hmem haccounts hledger) (.becomeStandby h
    hmem hregions haccounts hslots hqueues hledger)) h)

theorem KeepsOut.brazeTrainingComplete {W : Writes} {s₀ s : State} {lanes : Nat} (h : Keeps W s₀ s) (hmem : W.mem) (hregions : W.regions)
    (haccounts : W.accounts) (hslots : W.slots) (hqueues : W.queues) (hledger : W.ledger) : KeepsOut W s₀
    (execBrazeTrainingComplete lanes s) := by
  unfold execBrazeTrainingComplete
  refine .twinRow (fun _ h => ?_) h
  refine .ite h ?_
  refine .ite (.firstAdmission (.upd (.wr h rfl) rfl) hmem hledger) ?_
  split
  · exact .twinViews (.sendStatus (.settleRoles (.when (.raise (.upd (.restartQueues (.deriveLinkKeys (.setCounter (.wr (.wr (.wr h rfl)
      rfl) rfl)))) rfl)) (fun h => .raise h)) hmem hregions haccounts hslots hqueues hledger))
  · exact h

theorem KeepsOut.brazeTrainingRetry {W : Writes} {s₀ s : State} (h : Keeps W s₀ s) : KeepsOut W s₀ (execBrazeTrainingRetry s) :=
  .twinRow (fun _ h => .ite (.startTraining h) h) h

theorem KeepsOut.brazeFrame {W : Writes} {s₀ s : State} {dir : Nat} {credit : Nat} {tokenEpoch : Nat} {seq : Nat} {cipher : List Byte}
    {tag : List Byte} (h : Keeps W s₀ s) (hmem : W.mem) (hregions : W.regions) (haccounts : W.accounts) (hslots : W.slots)
    (hqueues : W.queues) (hledger : W.ledger) : KeepsOut W s₀ (execBrazeFrame dir credit tokenEpoch seq cipher tag s) :=
  .twinRow (fun _ h => .ite h (.ite (.ite (.when (.learnEpoch (.upd (.upd h rfl) rfl) hmem hregions haccounts hslots hqueues hledger)
    (fun h => .openAsHolder h hmem haccounts hledger)) (.upd h rfl)) (.ite (.ite (.upd h rfl) (.bump h rfl)) (.when (.sendItem (.bump
    (.upd (.ite (.upd h rfl) (.bump h rfl)) rfl) rfl)) (fun h => .startTraining (.linkDown h hmem haccounts hledger)))))) h

theorem KeepsOut.itemRow {W : Writes} {s₀ s : State} {f : State → State}
    (hf : ∀ s, Keeps W s₀ s → Keeps W s₀ (f s)) (h : Keeps W s₀ s) :
    KeepsOut W s₀ (s.itemRow f) :=
  .twinRow (fun _ h => .ite (hf _ h) h) h

theorem Keeps.restorePage {W : Writes} {s₀ s : State} {page m : Nat} (h : Keeps W s₀ s) (hmem : W.mem) :
    Keeps W s₀ (s.restorePage page m) :=
  .trans (.store h (.setMem hmem .dramWriteN) rfl) (.store .refl (.setMem hmem .marks) rfl)

theorem Keeps.restoreOne {W : Writes} {s₀ s : State} {bad : List Nat} {twinOk : Bool} {u : Nat} {m : Nat} {i : Nat} (h : Keeps W s₀ s)
    (hmem : W.mem) : Keeps W s₀ (s.restoreOne bad twinOk u m i) :=
  .ite h (.ite (.iteOn (.ite (.tagMismatch h) h) (fun h => .askTwinPage h) (fun h => .restorePoisoned h hmem)) (.restorePage h hmem))

theorem Keeps.restoreUnit {W : Writes} {s₀ s : State} {u : Nat} {bad : List Nat} {twinOk : Bool} (h : Keeps W s₀ s) (hmem : W.mem) :
    Keeps W s₀ (s.restoreUnit u bad twinOk) := by
  unfold State.restoreUnit
  split
  · exact .unitDone h hmem
  · exact .unless (.upd (.foldl (fun _ _ h => .restoreOne h hmem) h) rfl) (fun h => .unitDone h hmem)

theorem Keeps.acceptRecord {W : Writes} {s₀ s : State} {r : PartialRecord} (h : Keeps W s₀ s) (hmem : W.mem) : Keeps W s₀
    (s.acceptRecord r) :=
  .ite (.upd h rfl) (.when (.noteWrites (.assayRecord (.foldlPair (fun _ _ h => .markRun (.upd h rfl)) (.foldl (fun _ _ h => .ite
    (.restoreUnit h hmem) h) (.upd h rfl))))) (fun h => .compareAssay (.closeAssay h) hmem))

theorem Keeps.drainQueue {W : Writes} {s₀ s : State} {q fuel : Nat} (h : Keeps W s₀ s) (hmem : W.mem) :
    Keeps W s₀ (s.drainQueue q fuel) := by
  induction fuel generalizing s with
  | zero => exact h
  | succ fuel ih =>
    unfold State.drainQueue
    dsimp only
    split
    · exact ih (.acceptRecord (.upd h rfl) hmem)
    · exact h

theorem Keeps.settleHandover {W : Writes} {s₀ s : State} (h : Keeps W s₀ s) (hmem : W.mem) (haccounts : W.accounts) (hledger : W.ledger)
    : Keeps W s₀ (s.settleHandover) := by
  unfold State.settleHandover
  split
  · exact h
  · exact .ite (.takeToken (.sendItem h) hmem haccounts hledger) h

theorem Keeps.advanceQueue {W : Writes} {s₀ s : State} {q : Nat} (h : Keeps W s₀ s) (hmem : W.mem) (haccounts : W.accounts) (hledger :
    W.ledger) : Keeps W s₀ (s.advanceQueue q) :=
  .unless (.drainQueue h hmem) (fun h => .settleHandover (.settleShadows (.sendMirrorAck h) hmem) hmem haccounts hledger)

theorem KeepsOut.mirror {W : Writes} {s₀ s : State} {queue : Nat} {msn : Nat} {recordLen : Nat} {epochEnd : Bool} {p : MirrorPrefix}
    {data : List Byte} (h : Keeps W s₀ s) (hmem : W.mem) (haccounts : W.accounts) (hledger : W.ledger) : KeepsOut W s₀ (execMirror queue
      msn recordLen epochEnd p data s) :=
  .itemRow (fun _ h => .ite h (.advanceQueue (.upd h rfl) hmem haccounts hledger)) h

theorem KeepsOut.mirrorCont {W : Writes} {s₀ s : State} {queue : Nat} {msn : Nat} {offset : Nat} {epochEnd : Bool} {data : List Byte} (h
    : Keeps W s₀ s) (hmem : W.mem) (haccounts : W.accounts) (hledger : W.ledger) : KeepsOut W s₀ (execMirrorCont queue msn offset
    epochEnd data s) :=
  .itemRow (fun _ h => .advanceQueue (.upd h rfl) hmem haccounts hledger) h

theorem KeepsOut.dropRemainder {W : Writes} {s₀ s : State} {queue : Nat} {msn : Nat} (h : Keeps W s₀ s) (hmem : W.mem) (haccounts :
    W.accounts) (hledger : W.ledger) : KeepsOut W s₀ (execDropRemainder queue msn s) :=
  .itemRow (fun _ h => .ite h (.advanceQueue (.upd h rfl) hmem haccounts hledger)) h

theorem KeepsOut.mirrorAck {W : Writes} {s₀ s : State} {msns : List Nat} (h : Keeps W s₀ s) (hmem : W.mem) : KeepsOut W s₀
    (execMirrorAck msns s) :=
  .itemRow (fun _ h => .ite h (.advanceAll (.recheckAccept (.upd (.upd h rfl) rfl) hmem) hmem)) h

theorem KeepsOut.streamState {W : Writes} {s₀ s : State} {fields : List Nat} (h : Keeps W s₀ s) : KeepsOut W s₀ (execStreamState fields
    s) := by
  unfold execStreamState
  refine .itemRow (fun _ h => ?_) h
  refine .ite h ?_
  split
  · exact .carriedOpening h
  · exact .updCarried h
  · exact .updCarried h
  · exact .updCarried h
  · exact .carriedPsns h
  · exact .carriedAtomic h
  · exact .carriedBase h
  · exact h

theorem Keeps.commandReported {W : Writes} {s₀ s : State} {number reason : Nat} (h : Keeps W s₀ s) (hmem : W.mem) :
    Keeps W s₀ (s.commandReported number reason) := by
  have hs (c : State) (hc : Keeps W s₀ c) (r : Option Nat) : Keeps W s₀ (match c.twin.resync with
      | some r' => if c.twin.refused = 0 then c.replayNext else { c with twin.resync := none }.startResync r'.full r
      | none => c) := by
    split
    · exact .ite (.replayNext hc hmem) (.startResync (.upd hc rfl) hmem)
    · exact hc
  exact .releaseAnswers (.ite (.upd h rfl) (.ite (hs _ (.upd (.upd h rfl) rfl) _) (.twinViews (.setSync (.sendItem (.upd (.upd h rfl)
    rfl)) hmem))))

theorem KeepsOk.applyCreate {W : Writes} {s₀ s : State} {id : Nat} {r : Region} (h : Keeps W s₀ s) (hmem : W.mem) (hregions : W.regions) :
    KeepsOk W s₀ (s.applyCreate id r) := by
  unfold State.applyCreate
  split
  · exact .error
  · rename_i t ht
    exact .ok (.reportRegion (.when (KeepsOk.createRegion h hregions t ht) (fun h => .zeroFill h hmem)))

theorem KeepsOk.applyResize {W : Writes} {s₀ s : State} {id n : Nat} (h : Keeps W s₀ s) (hmem : W.mem) (hregions : W.regions) :
    KeepsOk W s₀ (s.applyResize id n) := by
  unfold State.applyResize
  split
  · exact .ok h
  · refine .ite ?_ (.ok (.protViews (.reportRegion (.setRegion (.when h (fun h => .releaseRange h hmem)) hregions))))
    split
    · exact .error
    · rename_i t ht
      exact .ok (.reportRegion (.setRegion (.when (KeepsOk.growRegion h t ht) (fun h => .zeroFill h hmem)) hregions))

theorem KeepsOk.applyFlags {W : Writes} {s₀ s : State} {id set clear owner : Nat} (h : Keeps W s₀ s) (hmem : W.mem) (hregions :
    W.regions) :
    KeepsOk W s₀ (s.applyFlags id set clear owner) := by
  unfold State.applyFlags
  split
  · exact .ok h
  · split
    · exact .error
    · rename_i t ht
      have hk : Keeps W s₀ t := KeepsOk.setRegionFlags h hmem hregions t ht
      refine .ok ?_
      split
      · exact .reportRegion hk
      · exact hk

theorem KeepsOk.applyTables {W : Writes} {s₀ s : State} {opcode : Nat} {p : List Nat} (h : Keeps W s₀ s) (hmem : W.mem) (hpds : W.pds)
    (hregions : W.regions) (hmembers : W.members) (hqueues : W.queues) : KeepsOk W s₀ (s.applyTables opcode p) := by
  unfold State.applyTables
  split
  · exact .applyCreate h hmem hregions
  · exact .applyResize h hmem hregions
  · exact .ok (.destroyReported h hmem hregions)
  · exact .applyFlags h hmem hregions
  · exact .ok (.notePush (.createPd h hpds) hmembers)
  · exact .ok (.notePush (.destroyPd h hpds) hmembers)
  · exact .ok (.bind h)
  · exact .ok (.unbind h)
  · exact .ok (.notePush (.setSpaceKey h hpds) hmembers)
  · exact .ok (.notePush (.createQueue h hqueues) hmembers)
  · exact .ok (.notePush (.destroyQueue h hqueues) hmembers)
  · exact .ok (.createQp h)
  · exact .ok (.applyQpModify h)
  · exact .ok (.destroyQp h)
  · exact .ok h

theorem Keeps.applyUnits {W : Writes} {s₀ s : State} {opcode : Nat} {p : List Nat} (h : Keeps W s₀ s) (hmem : W.mem) (hpds : W.pds)
    (hregions : W.regions) (haccounts : W.accounts) (hslots : W.slots) (hqueues : W.queues) : Keeps W s₀ (s.applyUnits opcode p) :=
    by
  unfold State.applyUnits
  dsimp only
  split
  · exact .cascadeKey h hmem hregions hslots hqueues
  · exact .createObject h
  · exact .applyLoad h
  · exact .dropObject h hmem
  · exact .applySchedule h hregions
  · exact .dropSchedule h hregions
  · exact .applyLock h hmem
  · split
    · exact .unlockEntry h
    · exact h
  · exact .ite (.closeAccount h haccounts) (.createAccount h haccounts)
  · exact .bindAccount h hpds hregions
  · exact .setShaper h
  · exact h

theorem KeepsOk.applyCommand {W : Writes} {s₀ s : State} {opcode : Nat} {p : List Nat} (h : Keeps W s₀ s) (hmem : W.mem) (hpds : W.pds)
    (hregions : W.regions) (haccounts : W.accounts) (hmembers : W.members) (hslots : W.slots) (hqueues : W.queues) : KeepsOk
    W s₀ (s.applyCommand opcode p) :=
  .ite (.ok (.applyCarried h hmembers)) (.ite (.applyTables h hmem hpds hregions hmembers hqueues) (.ite (.applyKey h hslots) (.ok
    (.applyUnits h hmem hpds hregions haccounts hslots hqueues))))

theorem KeepsOut.command {W : Writes} {s₀ s : State} {number opcode : Nat} {params : List Nat} (h : Keeps W s₀ s) (hmem : W.mem) (hpds :
    W.pds) (hregions : W.regions) (haccounts : W.accounts) (hmembers : W.members) (hslots : W.slots) (hqueues : W.queues) :
    KeepsOut W s₀ (execCommand number opcode params s) := by
  refine .itemRow (fun s h => .ite (.ite (.commandReported h hmem) h) (.ite h (.sendItem ?_))) h
  cases hc : s.applyCommand opcode params with
  | error e => exact h
  | ok t => exact KeepsOk.applyCommand h hmem hpds hregions haccounts hmembers hslots hqueues t hc

theorem KeepsOut.leaseRenew {W : Writes} {s₀ s : State} {sentAt : Nat} (h : Keeps W s₀ s) : KeepsOut W s₀ (execLeaseRenew sentAt s)
    :=
  .itemRow (fun _ h => .ite h (.upd (.sendItem h) rfl)) h

theorem KeepsOut.leaseAck {W : Writes} {s₀ s : State} {sentAt : Nat} (h : Keeps W s₀ s) (hmem : W.mem) (haccounts : W.accounts)
    (hledger : W.ledger) : KeepsOut W s₀ (execLeaseAck sentAt s) :=
  .itemRow (fun _ h => .ite (.extendLease h hmem haccounts hledger) h) h

theorem KeepsOut.status {W : Writes} {s₀ s : State} {stage : Nat} {d : Nat} {sync : Nat} {feedA : Nat} {feedB : Nat} {saveStep : Nat}
    {accepting : Bool} {fraction : Nat} (h : Keeps W s₀ s) (hmem : W.mem) (haccounts : W.accounts) : KeepsOut W s₀ (execStatus stage d
    sync feedA feedB saveStep accepting fraction s) := by
  unfold execStatus
  refine .itemRow (fun _ h => ?_) h
  refine .ite (.peerFeed (.peerFeed (.flag (.wr (.upd h rfl) rfl) rfl))) ?_
  refine .twinViews ?_
  refine .moveWaiters ?_ hmem haccounts
  refine .advanceAll ?_ hmem
  refine .recheckAccept ?_ hmem
  refine .when ?_ (fun h => .startResync h hmem)
  refine .followSync ?_ hmem
  split
  · exact .when (.peerFeed (.peerFeed (.flag (.wr (.upd h rfl) rfl) rfl))) (fun h => .voidYield h hmem haccounts)
  · exact .peerFeed (.peerFeed (.flag (.wr (.upd h rfl) rfl) rfl))

theorem KeepsOut.assayDigest {W : Writes} {s₀ s : State} {queue : Nat} {last : Nat} {count : Nat} {mac : Nat} (h : Keeps W s₀ s)
    (hmem : W.mem) : KeepsOut W s₀ (execAssayDigest queue last count mac s) :=
  .itemRow (fun _ h => .compareAssay (.ite (.closeAssay (.upd h rfl)) (.upd h rfl)) hmem) h

theorem KeepsOut.shadow {W : Writes} {s₀ s : State} {addr : Nat} {len : Nat} {lastQueue : Nat} {lastMsn : Nat} {mac : Nat} (h : Keeps W
    s₀ s) (hmem : W.mem) : KeepsOut W s₀ (execShadow addr len lastQueue lastMsn mac s) :=
  .itemRow (fun _ h => .ite h (.settleShadows (.upd h rfl) hmem)) h

theorem KeepsOut.verdict {W : Writes} {s₀ s : State} {results : List (Nat × Bool)} (h : Keeps W s₀ s) (hmem : W.mem) : KeepsOut W s₀
    (execVerdict results s) := by
  unfold execVerdict
  dsimp only
  refine .itemRow (fun _ h => ?_) h
  split
  · exact .settleTie (.upd (.startTie h hmem) rfl) hmem
  · exact .startTie h hmem

theorem KeepsOut.handover {W : Writes} {s₀ s : State} {msns : List Nat} {epoch : Nat} {leaseLeft : Nat} {save : Bool} (h : Keeps W s₀ s)
    (hmem : W.mem) (haccounts : W.accounts) (hledger : W.ledger) : KeepsOut W s₀ (execHandover msns epoch leaseLeft save s) :=
  .itemRow (fun _ h => .ite h (.settleHandover (.upd h rfl) hmem haccounts hledger)) h

theorem KeepsOut.handoverAck {W : Writes} {s₀ s : State} {epoch : Nat} (h : Keeps W s₀ s) (hmem : W.mem) (hregions : W.regions)
    (haccounts : W.accounts) (hslots : W.slots) (hqueues : W.queues) (hledger : W.ledger) : KeepsOut W s₀ (execHandoverAck epoch s)
    := by
  unfold execHandoverAck
  refine .itemRow (fun _ h => ?_) h
  split
  · exact .ite (.twinViews (.sendStatus (.when (.endSwitch (.switchOver (.setCounter (.wr (.iteOn (.ite (.wr h rfl) h) (fun h =>
      .tokenInd (.restartQueues (.upd h rfl))) (fun h => .becomeStandby h hmem hregions haccounts hslots hqueues hledger)) rfl)))) (fun h
      => .enterQuiesce (.upd h rfl) hmem)))) h
  · exact h

theorem Keeps.restoreTwinPage {W : Writes} {s₀ s : State} {unit : Nat} {p : Nat} {poison : List Nat} {data : List Byte} (h : Keeps W s₀
    s) (hmem : W.mem) : Keeps W s₀ (s.restoreTwinPage unit p poison data) := by
  unfold State.restoreTwinPage
  dsimp only
  split
  · exact .unless (.retagRun (.markRun (.foldl (fun _ _ h => .setMark h hmem) (.store h (.setMem hmem .dramWriteN) rfl)))) (fun h =>
      .unitDone h hmem)
  · exact h

/-- Bytes written to DRAM beside new poison marks. -/
theorem Keeps.placeBytes {W : Writes} {s₀ s : State} {a : Nat} {d : List Byte} {p : AMap Nat} (h : Keeps W s₀ s) (hmem : W.mem) :
    Keeps W s₀ { s with mem.dram := Mem.writeN s.mem.dram a d, mem.dramPoison := p } :=
  .store h (.setMem hmem .dramWriteN) rfl

theorem Keeps.takeUnit {W : Writes} {s₀ s : State} {unit m : Nat} {msns poison : List Nat} {data : List Byte} (h : Keeps W s₀ s)
    (hmem : W.mem) : Keeps W s₀ (s.takeUnit unit m msns poison data) :=
  .sendItem (.retagRun (.markRun (.foldl (fun _ _ h => .setMark h hmem) (.placeBytes (.dropLines (.upd h rfl) hmem) hmem))))

theorem KeepsOut.resyncData {W : Writes} {s₀ s : State} {unit : Nat} {page : Option Nat} {msns : List Nat} {poison : List Nat} {data :
    List Byte} (h : Keeps W s₀ s) (hmem : W.mem) : KeepsOut W s₀ (execResyncData unit page msns poison data s) := by
  unfold execResyncData
  refine .itemRow (fun _ h => ?_) h
  split
  · exact .restoreTwinPage h hmem
  · split
    · exact .ite h (.takeUnit h hmem)
    · exact h

theorem Keeps.sendResync {W : Writes} {s₀ s : State} {a k fuel : Nat} {msns marks : List Nat} {d : List Byte} (h : Keeps W s₀ s) :
    Keeps W s₀ (s.sendResync a msns marks k fuel d) := by
  induction fuel generalizing s k d with
  | zero => exact h
  | succ fuel ih =>
    unfold State.sendResync
    exact .ite h (ih (.sendItem h))

theorem Keeps.answerTwinPage {W : Writes} {s₀ s : State} {page : Nat} (h : Keeps W s₀ s) : Keeps W s₀ (s.answerTwinPage page) :=
  .sendResync h

theorem KeepsOut.resyncCtrl {W : Writes} {s₀ s : State} {kind : Nat} {value : Nat} (h : Keeps W s₀ s) (hmem : W.mem) : KeepsOut W s₀
    (execResyncCtrl kind value s) := by
  unfold execResyncCtrl
  refine .itemRow (fun _ h => ?_) h
  refine .ite (.twinViews (.ite h (.setSync (.upd h rfl) hmem))) ?_
  refine .ite ?_ (.ite (.twinViews (.ite h (.upd (.setSync h hmem) rfl))) (.ite (.startYield h) (.ite (.answerTwinPage h) (.ite
    (.twinViews (.setSync h hmem)) h))))
  split
  · exact .ite (.startYield (.upd (.settleResync (.upd h rfl) hmem) rfl)) (.settleResync (.upd h rfl) hmem)
  · exact h

theorem Keeps.refreshHeader {W : Writes} {s₀ s : State} {x : Object} {o : Nat} {k : Nat} (h : Keeps W s₀ s) (hmem : W.mem) : Keeps W
    s₀ (s.refreshHeader x o k) := by
  unfold State.refreshHeader
  split
  · exact .ite (.store h (.setMem hmem .dramWriteN) rfl) h
  · exact h

theorem Keeps.stagePage {W : Writes} {s₀ s : State} {t : Tile} {p : Nat} {data : List Byte} (h : Keeps W s₀ s) (hmem : W.mem) :
    Keeps W s₀ (s.stagePage t p data) :=
  .store h (.setMem hmem .dramWriteN) rfl

theorem Keeps.tileRecovered {W : Writes} {s₀ s : State} {x : Object} {o k p : Nat} {data : List Byte} {c : Fld} (h : Keeps W s₀ s)
    (hmem : W.mem) (hc : Fld.free c = true) : Keeps W s₀ (s.tileRecovered x o k p data c) := by
  unfold State.tileRecovered
  split
  · exact h
  · exact .pageStaged (.refreshHeader (.raise (.bump (.stagePage (.upd (.updTile (.codewordWritten h)) rfl) hmem) hc)) hmem) hmem

theorem Keeps.tilePoisoned {W : Writes} {s₀ s : State} {x : Object} {o : Nat} {k : Nat} {p : Nat} (h : Keeps W s₀ s) (hmem : W.mem)
    : Keeps W s₀ (s.tilePoisoned x o k p) := by
  unfold State.tilePoisoned
  split
  · exact h
  · exact .pageStaged (.refreshHeader (.raise (.raise (.when (.setObject (.updTile (.poisonChunks (.stagePage (.upd h rfl) hmem) hmem)))
      (fun h => .bump h rfl)))) hmem) hmem

theorem KeepsOut.tile {W : Writes} {s₀ s : State} {kind : Nat} {fields : List Nat} {data : List Byte} (h : Keeps W s₀ s) (hmem : W.mem) :
    KeepsOut W s₀ (execTile kind fields data s) := by
  unfold execTile
  refine .next ?_
  refine .ite h ?_
  refine .ite (.ite h (.upd h rfl)) ?_
  refine .ite (.answerTile h) ?_
  refine .ite ?_ (.ite (.upd h rfl) h)
  split
  · exact h
  · exact .ite h (.ite (.tileRecovered h hmem rfl) (.tilePoisoned h hmem))

theorem KeepsOut.replay {W : Writes} {s₀ s : State} {expected : Nat} (h : Keeps W s₀ s) : KeepsOut W s₀ (execReplay expected s) :=
  .itemRow (fun _ h => .foldl (fun _ _ h => .send h) h) h

theorem KeepsOut.ident {W : Writes} {s₀ s : State} {identity : Nat} {side : Nat} {pair : Nat} {tokenEpoch : Nat} {linkEpoch : Nat}
    (h : Keeps W s₀ s) (hmem : W.mem) (hledger : W.ledger) : KeepsOut W s₀ (execIdent identity side pair tokenEpoch linkEpoch s) :=
  .twinRow (fun _ h => .ite h (.ite (.firstAdmission (.raise (.upd (.wr h rfl) rfl)) hmem hledger) (.upd h rfl))) h

theorem KeepsOut.statusSendTimer {W : Writes} {s₀ s : State} (h : Keeps W s₀ s) : KeepsOut W s₀ (execStatusSendTimer s) :=
  .twinRow (fun _ h => .when (.announceDue h) (fun h => .upd (.sendStatus h) rfl)) h

theorem KeepsOut.leaseRenewTimer {W : Writes} {s₀ s : State} (h : Keeps W s₀ s) : KeepsOut W s₀ (execLeaseRenewTimer s) :=
  .twinRow (fun _ h => .ite (.upd (.sendItem h) rfl) h) h

theorem KeepsOut.witnessRenewTimer {W : Writes} {s₀ s : State} (h : Keeps W s₀ s) : KeepsOut W s₀ (execWitnessRenewTimer s) :=
  .twinRow (fun _ h => .ite (.upd (.sendRequest (.upd h rfl)) rfl) h) h

theorem KeepsOut.grantRequestTimer {W : Writes} {s₀ s : State} (h : Keeps W s₀ s) : KeepsOut W s₀ (execGrantRequestTimer s) :=
  .twinRow (fun _ h => .ite (.upd (.sendRequest (.upd h rfl)) rfl) h) h

theorem KeepsOut.leaseEnd {W : Writes} {s₀ s : State} (h : Keeps W s₀ s) : KeepsOut W s₀ (execLeaseEnd s) :=
  .twinRow (fun _ h => .ite (.twinViews h) h) h

theorem KeepsOut.leaseViewExpiry {W : Writes} {s₀ s : State} (h : Keeps W s₀ s) : KeepsOut W s₀ (execLeaseViewExpiry s) :=
  .twinRow (fun _ h => .ite (.twinViews (.upd h rfl)) h) h

theorem KeepsOut.mirrorFrameTimer {W : Writes} {s₀ s : State} (h : Keeps W s₀ s) : KeepsOut W s₀ (execMirrorFrameTimer s) :=
  .twinRow (fun _ h => .ite (.flushStream h) h) h

theorem KeepsOut.mirrorAckTimeout {W : Writes} {s₀ s : State} (h : Keeps W s₀ s) (hmem : W.mem) : KeepsOut W s₀
    (execMirrorAckTimeout s) :=
  .twinRow (fun _ h => .ite (.advanceAll (.recheckAccept h hmem) hmem) h) h

theorem KeepsOut.assayEpochClose {W : Writes} {s₀ s : State} {queue : Nat} (h : Keeps W s₀ s) (hmem : W.mem) : KeepsOut W s₀
    (execAssayEpochClose queue s) := by
  unfold execAssayEpochClose
  refine .twinRow (fun _ h => ?_) h
  split
  · exact .ite (.compareAssay (.closeAssay (.upd h rfl)) hmem) h
  · exact h

theorem KeepsOut.yieldDrainBound {W : Writes} {s₀ s : State} (h : Keeps W s₀ s) (hmem : W.mem) (haccounts : W.accounts) (hledger :
    W.ledger) : KeepsOut W s₀ (execYieldDrainBound s) := by
  unfold execYieldDrainBound
  refine .twinRow (fun _ h => ?_) h
  split
  · exact .ite (.twinViews (.sendHandover h hmem haccounts hledger)) h
  · exact h

theorem Keeps.sendUnit {W : Writes} {s₀ s : State} {u : Nat} {m : Nat} (h : Keeps W s₀ s) : Keeps W s₀ (s.sendUnit u m) :=
  .bump (.sendResync (.flushFrame h)) rfl

theorem KeepsOut.resyncUnitSend {W : Writes} {s₀ s : State} (h : Keeps W s₀ s) (hmem : W.mem) : KeepsOut W s₀ (execResyncUnitSend s)
    := by
  unfold execResyncUnitSend
  dsimp only
  refine .twinRow (fun _ h => ?_) h
  split
  · refine .ite h ?_
    refine .ite (.demandUnit h) ?_
    split
    · exact .settleResync (.upd h rfl) hmem
    · exact .twinViews (.sendUnit (.upd (.upd h rfl) rfl))
  · exact h

theorem KeepsOut.revertTimer {W : Writes} {s₀ s : State} (h : Keeps W s₀ s) : KeepsOut W s₀ (execRevertTimer s) := by
  unfold execRevertTimer
  refine .twinRow (fun _ h => ?_) h
  split
  · exact .ite (.upd (.sendItem h) rfl) h
  · exact h

theorem Keeps.poisonDram {W : Writes} {s₀ s : State} {l : Nat} (h : Keeps W s₀ s) (hmem : W.mem) : Keeps W s₀ (s.poisonDram l) :=
  .ite h (.raise (.bump (.store h (.setMem hmem .marks) rfl) rfl))

theorem Keeps.dramUe {W : Writes} {s₀ s : State} {a : Nat} (h : Keeps W s₀ s) (hmem : W.mem) (hbadRows : W.badRows) : Keeps W s₀
    (s.dramUe a) := by
  unfold State.dramUe
  exact .when (.rowWorn (.upd (.when (.raise (.bump (.logUe (.poisonDram h hmem) hbadRows) rfl)) (fun h => .upd h rfl)) rfl)) (fun h =>
    .dramOut h hmem)

theorem KeepsOut.nearFillComplete {W : Writes} {s₀ s : State} {bank : Nat} {ue : Bool} (h : Keeps W s₀ s) (hmem : W.mem) (hbadRows :
    W.badRows) : KeepsOut W s₀ (execNearFillComplete bank ue s) := by
  unfold execNearFillComplete
  refine .next ?_
  split
  · exact h
  · exact .ite h (.nearViews (.advanceAll (.nextFill (.installFill (.ite (.dramUe h hmem hbadRows) h) hmem) hmem) hmem))

theorem KeepsOut.tileFillProgress {W : Writes} {s₀ s : State} {o : Nat} {k : Nat} {tagOk : Bool} (h : Keeps W s₀ s) (hmem : W.mem) :
    KeepsOut W s₀ (execTileFillProgress o k tagOk s) := by
  unfold execTileFillProgress
  refine .next ?_
  split
  · refine .ite h ?_
    split
    · exact h
    · exact .ite (.updTile (.ite h (.tagMismatch h))) (.pageStaged (.stagePage h hmem) hmem)
  · exact h

theorem KeepsOut.tileRecoveryComplete {W : Writes} {s₀ s : State} {o : Nat} {k : Nat} {parity : Bool} (h : Keeps W s₀ s) (hmem : W.mem) :
    KeepsOut W s₀ (execTileRecoveryComplete o k parity s) := by
  unfold execTileRecoveryComplete
  refine .next ?_
  split
  · split
    · exact h
    · exact .ite h (.ite (.tileRecovered h hmem rfl) (.ite (.ite h (.sendItem (.upd h rfl))) (.tilePoisoned h hmem)))
  · exact h

theorem Keeps.loseArrival {W : Writes} {s₀ s : State} {i : Nat} (h : Keeps W s₀ s) : Keeps W s₀ (s.loseArrival i) := by
  unfold State.loseArrival
  dsimp only
  generalize s.ports.waiting[i]? = p
  cases p with
  | none => exact h
  | some p => cases p with
    | cerga => exact .bump (.upd h rfl) rfl
    | roce => exact .bump (.upd h rfl) rfl

theorem Keeps.sramLost {W : Writes} {s₀ s : State} {kind : Nat} {i : Nat} (h : Keeps W s₀ s) : Keeps W s₀ (s.sramLost kind i) :=
  .ite (.raise (.bump (.upd h rfl) rfl)) (.ite (.loseStream h) (.ite (.raise (.qpToErr h)) (.ite (.dropContext h) (.ite (.roceViews (.upd
    h rfl)) (.ite (.loseHeld h) (.ite (.loseArrival h) h))))))

theorem Keeps.scrubFinding {W : Writes} {s₀ s : State} {p : ScrubPlace} {ue : Bool} (h : Keeps W s₀ s) (hmem : W.mem) (hbadRows :
    W.badRows) : Keeps W s₀ (s.scrubFinding p ue) := by
  unfold State.scrubFinding
  split
  · exact .ite (.dramUe h hmem hbadRows) (.dramCe h)
  · exact .ite (.sramLost (.rowOut (.sramUe h))) (.ite (.rowOut (.sramCe h)) (.sramCe h))
  · exact .ite (.nearUe (.retireWay (.sramUe h)) hmem) (.ite (.retireWay (.sramCe h)) (.sramCe h))
  · exact .when (.when (.ite (.sramUe h) (.sramCe h)) (fun h => .takeOff h)) (fun h => .gatherUe h)

theorem KeepsOut.scrub {W : Writes} {s₀ s : State} {memory : Nat} {pct : Nat} {finding : Option ScrubPlace} {ue : Bool} (h : Keeps W s₀
    s) (hmem : W.mem) (hbadRows : W.badRows) : KeepsOut W s₀ (execScrub memory pct finding ue s) := by
  unfold execScrub
  refine .next ?_
  refine .ite h ?_
  split
  · exact .scrubProgress h
  · exact .unless (.scrubProgress h) (fun h => .advanceAll (.scrubFinding h hmem hbadRows) hmem)

theorem KeepsOut.poisonRepairComplete {W : Writes} {s₀ s : State} {l : Nat} {ok : Bool} (h : Keeps W s₀ s) (hmem : W.mem) : KeepsOut
    W s₀ (execPoisonRepairComplete l ok s) := by
  unfold execPoisonRepairComplete
  refine .next ?_
  refine .ite h ?_
  refine .advanceAll ?_ hmem
  split
  · exact .ite (.upd h rfl) (.setMark (.store (.ite (.upd h rfl) (.store (.upd h rfl) (.setMem hmem .dramWriteN) rfl)) (.setMem hmem
      .marks) rfl) hmem)
  · exact .upd h rfl

theorem KeepsOut.shaperRelease {W : Writes} {s₀ s : State} {pd : Nat} (h : Keeps W s₀ s) (hmem : W.mem) (haccounts : W.accounts) :
    KeepsOut W s₀ (execShaperRelease pd s) := by
  unfold execShaperRelease
  refine .next ?_
  split
  · exact .ite (.drainPorts (.moveWaiters (.tryAdmit (.charge (.shaperTake (.dropWaiter h))) hmem haccounts) hmem haccounts) hmem
      haccounts) h
  · exact h

theorem Keeps.heardManager {W : Writes} {s₀ s : State} {hd : DomainHeader} {answer : Bool} (h : Keeps W s₀ s) : Keeps W s₀
    (s.heardManager hd answer) :=
  .ite (.upd (.when (.ite (.raise h) h) (fun h => .raise h)) rfl) (.ite (.raise h) h)

theorem KeepsOut.domainRow {W : Writes} {s₀ s : State} {hd : DomainHeader} {type : Nat} {body : List Nat} {answer : Bool} {f : State →
    State}
    (hf : ∀ s, Keeps W s₀ s → Keeps W s₀ (f s)) (h : Keeps W s₀ s) (hmembers : W.members) :
    KeepsOut W s₀ (s.domainRow hd type body answer f) :=
  .next (.ite h (.ite (.bump h rfl) (.ite (.bump h rfl) (hf _ (.ite (.heardManager (.bump h rfl)) (.heardMember (.bump h rfl)
    hmembers))))))

theorem KeepsOut.requestRow {W : Writes} {s₀ s : State} {hd : DomainHeader} {type : Nat} {body : List Nat} {f : State → State}
    (hf : ∀ s, Keeps W s₀ s → Keeps W s₀ (f s)) (h : Keeps W s₀ s) (hmembers : W.members) :
    KeepsOut W s₀ (s.requestRow hd type body f) := by
  refine .domainRow (fun s h => .ite (.sendDomainTo h) ?_) h hmembers
  split
  · exact .sendDomainTo h
  · exact .ite h (hf _ h)

theorem Keeps.answerTo {W : Writes} {s₀ s : State} {hd : DomainHeader} {type : Nat} {epoch : Nat} {fields : List Nat} (h : Keeps W s₀ s)
    : Keeps W s₀ (s.answerTo hd type epoch fields) :=
  .answerDomain h

theorem Keeps.refuseTo {W : Writes} {s₀ s : State} {hd : DomainHeader} {reason : Nat} {epoch : Nat} (h : Keeps W s₀ s) : Keeps W s₀
    (s.refuseTo hd reason epoch) :=
  .answerTo h

theorem KeepsOut.witnessRow {W : Writes} {s₀ s : State} {hd : DomainHeader} {type : Nat} {body : List Nat} {f : WitnessRec → State →
    State}
    (hf : ∀ r s, Keeps W s₀ s → Keeps W s₀ (f r s)) (h : Keeps W s₀ s) (hmembers : W.members) :
    KeepsOut W s₀ (s.witnessRow hd type body f) := by
  refine .requestRow (fun s h => ?_) h hmembers
  split
  · exact .refuseTo h
  · exact hf _ _ h

theorem Keeps.decide_ {W : Writes} {s₀ s : State} {hd : DomainHeader} {r : WitnessRec} {type : Nat} {fields : List Nat} (h : Keeps W s₀
    s) : Keeps W s₀ (s.decide_ hd r type fields) :=
  .answerMirrored (.setRecord h)

theorem KeepsOut.answerRow {W : Writes} {s₀ s : State} {hd : DomainHeader} {type : Nat} {body : List Nat} {f : DomainRequest → State →
    State}
    (hf : ∀ r s, Keeps W s₀ s → Keeps W s₀ (f r s)) (h : Keeps W s₀ s) (hmembers : W.members) :
    KeepsOut W s₀ (s.answerRow hd type body f) := by
  refine .domainRow (fun s h => ?_) h hmembers
  split
  · exact hf _ _ h
  · exact h

theorem Keeps.grantRefused {W : Writes} {s₀ s : State} {r : DomainRequest} {reason : Nat} {registered : Nat} (h : Keeps W s₀ s)
    (hmem : W.mem) (hregions : W.regions) (haccounts : W.accounts) (hslots : W.slots) (hqueues : W.queues) (hledger : W.ledger) :
    Keeps W s₀ (s.grantRefused r reason registered) := by
  unfold State.grantRefused
  refine .ite (.raise (.noteAnswer (.answeredNow h))) ?_
  refine .ite ?_ ?_
  · refine .learnEpoch ?_ hmem hregions haccounts hslots hqueues hledger
    split
    · exact .refuse (.endRound (.upd (.raise (.noteAnswer (.answeredNow h))) rfl))
    · exact .raise (.noteAnswer (.answeredNow h))
  · split
    · exact .refuse (.endRound (.upd (.raise (.noteAnswer (.answeredNow h))) rfl))
    · exact .raise (.noteAnswer (.answeredNow h))

theorem Keeps.takePush {W : Writes} {s₀ s : State} {opcode : Nat} {p : List Nat} {seq : Nat} (h : Keeps W s₀ s) (hmem : W.mem) (hpds :
    W.pds) (hregions : W.regions) (haccounts : W.accounts) (hmembers : W.members) (hslots : W.slots) (hqueues : W.queues) : Keeps
    W s₀ (s.takePush opcode p seq) := by
  unfold State.takePush
  split
  · exact .endPush h
  · split
    · exact .startDrain h hmem hpds hregions haccounts hmembers hslots hqueues
    · exact .startDrain (.dropUnadmitted h) hmem hpds hregions haccounts hmembers hslots hqueues
    · exact .endPush (.applyPush h hpds hslots hqueues)

theorem KeepsOut.domainTimer {W : Writes} {s₀ s : State} {f : State → State}
    (hf : ∀ s, Keeps W s₀ s → Keeps W s₀ (f s)) (h : Keeps W s₀ s) :
    KeepsOut W s₀ (s.domainTimer f) :=
  .next (.ite (hf _ h) h)

theorem KeepsOut.domainResendTimer {W : Writes} {s₀ s : State} (h : Keeps W s₀ s) : KeepsOut W s₀ (execDomainResendTimer s) :=
  .domainTimer (fun _ h => .foldl (fun _ _ h => .sendDomain (.bump h rfl)) (.upd h rfl)) h

theorem KeepsOut.statusReportTimer {W : Writes} {s₀ s : State} (h : Keeps W s₀ s) : KeepsOut W s₀ (execStatusReportTimer s) :=
  .domainTimer (fun _ h => .ite (.foldl (fun _ _ h => .sendDomain h) (.upd h rfl)) h) h

theorem KeepsOut.managerReachTimeout {W : Writes} {s₀ s : State} (h : Keeps W s₀ s) : KeepsOut W s₀ (execManagerReachTimeout s) :=
    by
  unfold execManagerReachTimeout
  refine .domainTimer (fun _ h => ?_) h
  split
  · exact .ite (.raise (.upd h rfl)) h
  · exact h

theorem KeepsOut.joinTimeout {W : Writes} {s₀ s : State} (h : Keeps W s₀ s) : KeepsOut W s₀ (execJoinTimeout s) :=
  .domainTimer (fun _ h => .ite (.joinRefused h) h) h

theorem KeepsOut.debugExpiry {W : Writes} {s₀ s : State} (h : Keeps W s₀ s) (hmem : W.mem) (hpds : W.pds) (hregions : W.regions)
    (haccounts : W.accounts) (hmembers : W.members) (hslots : W.slots) (hqueues : W.queues) (hledger : W.ledger) (hsave : W.save) :
    KeepsOut W s₀ (execDebugExpiry s) :=
  .next (.ite (.ite (.startSave h hsave) (.applyChange h hmem hpds hregions haccounts hmembers hslots hqueues hledger)) h)

theorem KeepsOut.powerOn {W : Writes} {s₀ s : State} {fwOk : Bool} {mismatch : Bool} (h : Keeps W s₀ s) (hwords : W.words) (hsave :
    W.save) (hconfig : W.config) : KeepsOut W s₀ (execPowerOn fwOk mismatch s) :=
  .next (.ite h (.tryPowerUp (.upd (.upd (.wr (.checkLifecycle (.flashStart (.upd (.upd (.freshKeeper (.powerOnRegs (.coreDown (.ite
    (.store h (.setSave hsave) rfl) h) hconfig) hconfig)) rfl) rfl) hwords)) rfl) rfl) rfl)))

theorem KeepsOut.powerUpStepEnd {W : Writes} {s₀ s : State} {q : QuenchReport} (h : Keeps W s₀ s) (hmem : W.mem) (hpds : W.pds)
    (hregions : W.regions) (haccounts : W.accounts) (hmembers : W.members) (hslots : W.slots) (hkeyRegs : W.keyRegs) (hfw : W.fw)
    (hqueues : W.queues) (hledger : W.ledger) (hsave : W.save) (hcaptures : W.captures) : KeepsOut W s₀
    (execPowerUpStepEnd q s) := by
  unfold execPowerUpStepEnd
  dsimp only
  refine .next ?_
  refine .ite h ?_
  split
  · exact .beginPowerUpStep (.foldl (fun _ _ h => .wrN h rfl) h)
  · exact .releaseCore (.wr (.wr (.foldl (fun _ _ h => .wrN h rfl) h) rfl) rfl) hmem hpds hregions haccounts hmembers hslots hkeyRegs hfw
      hqueues hledger hsave hcaptures

theorem KeepsOut.powerUpRetry {W : Writes} {s₀ s : State} (h : Keeps W s₀ s) : KeepsOut W s₀ (execPowerUpRetry s) :=
  .next (.ite (.tryPowerUp (.upd h rfl)) h)

theorem KeepsOut.feedOk {W : Writes} {s₀ s : State} {a : Bool} (h : Keeps W s₀ s) : KeepsOut W s₀ (execFeedOk a s) :=
  .next (.ite (.when (.raiseKeeper (.driveFeeds (.setFeed (.wr h (fFeedState_free _))))) (fun h => .tryPowerUp (.upd h rfl))) h)

theorem KeepsOut.restartHoldEnd {W : Writes} {s₀ s : State} (h : Keeps W s₀ s) : KeepsOut W s₀ (execRestartHoldEnd s) :=
  .next (.ite (.tryPowerUp (.upd (.wr h rfl) rfl)) h)

theorem KeepsOut.startVTimeout {W : Writes} {s₀ s : State} (h : Keeps W s₀ s) : KeepsOut W s₀ (execStartVTimeout s) :=
  .next (.ite (.tryPowerUp h) h)

theorem Keeps.logHead {W : Writes} {s₀ s t : State} (h : Keeps W s₀ s) (hlog : W.log) (ht : s.logHead = some t) : Keeps W s₀ t := by
  unfold State.logHead at ht
  split at ht
  · cases ht
  · split at ht
    · split at ht
      · cases ht
      · obtain rfl := Option.some.inj ht
        exact .foldl (fun _ _ h => .releaseTail h hlog) (.upd h rfl)
    · obtain rfl := Option.some.inj ht
      exact h

theorem KeepsOut.keeperSupplyLow {W : Writes} {s₀ s : State} {mv : Nat} (h : Keeps W s₀ s) (hlog : W.log) (hsave : W.save) (hconfig :
    W.config) :
    KeepsOut W s₀ (execKeeperSupplyLow mv s) := by
  have hl (t : State) (r : LogRecord) (ht : Keeps W s₀ t) : Keeps W s₀ ((t.logHead.getD t).appendLog r) := by
    cases hc : t.logHead with
    | none => exact .appendLog ht hlog
    | some u => exact .appendLog (.logHead ht hlog hc) hlog
  exact .next (.ite (.upd (.when (hl _ _ (.wr (.wr h rfl) rfl)) (fun h => .coreDown (.store (.wr (.wr h rfl) rfl) (.setSave hsave) rfl)
    hconfig)) rfl) h)

theorem Keeps.programWords {W : Writes} {s₀ s : State} {w : Nat} {l : List Nat} (h : Keeps W s₀ s) (hwords : W.words) :
    Keeps W s₀ (s.programWords w l) := by
  induction l generalizing s w with
  | nil => exact h
  | cons v l ih => exact ih (.setFlashWord h hwords)

theorem KeepsOut.keeperFlashOpComplete {W : Writes} {s₀ s : State} {retries : Nat} {ok : Bool} (h : Keeps W s₀ s) (hwords : W.words)
    : KeepsOut W s₀ (execKeeperFlashOpComplete retries ok s) := by
  unfold execKeeperFlashOpComplete
  refine .next ?_
  split
  · exact h
  · refine .ite h ?_
    refine .ite ?_ ?_
    · refine .ite ?_ ?_
      · split
        · exact .beginOp (.upd (.setWindowPath (.eraseSector (.countRetries h) hwords)) rfl)
        · exact .upd (.setWindowPath (.eraseSector (.countRetries h) hwords)) rfl
      · split
        · exact .beginOp (.upd (.setWindowPath (.retireSector (.countRetries h))) rfl)
        · exact .upd (.setWindowPath (.retireSector (.countRetries h))) rfl
    · refine .ite ?_ ?_
      · split
        · exact .beginOp (.upd (.setWindowPath (.countRetries h)) rfl)
        · exact .upd (.setWindowPath (.countRetries h)) rfl
      · refine .ite ?_ ?_
        · split
          · exact .beginOp (.upd (.setWindowPath (.programWords (.countRetries h) hwords)) rfl)
          · exact .upd (.setWindowPath (.programWords (.countRetries h) hwords)) rfl
        · split
          · exact .beginOp (.upd (.setWindowPath (.retireSector (.countRetries h))) rfl)
          · exact .upd (.setWindowPath (.retireSector (.countRetries h))) rfl

theorem KeepsOut.keeperLogAppend {W : Writes} {s₀ s : State} (h : Keeps W s₀ s) (hlog : W.log) :
    KeepsOut W s₀ (execKeeperLogAppend s) := by
  refine .next ?_
  split
  · exact h
  · refine .ite h ?_
    split
    · exact h
    · rename_i t ht
      exact .appendLog (.upd (.logHead h hlog ht) rfl) hlog

theorem Keeps.writeBlob {W : Writes} {s₀ s : State} {b : Nat} {x : Settings} (h : Keeps W s₀ s) (hwords : W.words) : Keeps W s₀
    (s.writeBlob b x) :=
  .programWords (.eraseArea h hwords) hwords

theorem Keeps.applySettings {W : Writes} {s₀ s : State} {schema : Nat} {migrated : List (Nat × Nat)} (h : Keeps W s₀ s) (hmem : W.mem)
    (hkeyRegs : W.keyRegs) (hwords : W.words) (hsave : W.save) (hconfig : W.config) : Keeps W s₀ (s.applySettings schema migrated) := by
  unfold State.applySettings
  split
  · exact .raise h
  · exact .foldl (fun _ _ h => .writePath (.ite h (.clamped h)) hmem hkeyRegs hsave hconfig) (.ite (.raise (.wr (.setLive (.writeBlob h
      hwords)) rfl)) (.setLive h))

theorem KeepsOut.firmwareLoadComplete {W : Writes} {s₀ s : State} {loads : List Nat} {migrated : List (Nat × Nat)} (h : Keeps W s₀ s)
    (hmem : W.mem) (hkeyRegs : W.keyRegs) (hwords : W.words) (hfw : W.fw) (hsave : W.save) (hconfig : W.config) : KeepsOut W s₀
    (execFirmwareLoadComplete loads migrated s) := by
  have hdone (t : State) (ht : Keeps W s₀ t) : Keeps W s₀ { ((t.measure.wr R.FW_CTRL_LOCK 1).wr R.FW_STATUS_CORES_OK 15).wr
      R.GLOBAL_STATUS_MGMT_READY 1 with start.fwDone := true, start.step := 8, fw.trialEnd := none } := by
    have hm := Keeps.wr (f := R.GLOBAL_STATUS_MGMT_READY) (v := 1) (.wr (f := R.FW_STATUS_CORES_OK) (v := 15)
      (.wr (f := R.FW_CTRL_LOCK) (v := 1) (.measure ht hfw) rfl) rfl) rfl
    generalize State.wr _ _ _ = u at hm ⊢
    exact .store hm (.setFw hfw) rfl
  have hbad (bad : List Nat) : Keeps W s₀ (bad.foldl (fun s b => if s.rd (fSlot b) = 2 then (s.fwError Why.BAD_IMAGE 2).revertTrial b
      else s.fwError Why.BAD_IMAGE 2) s) := .foldl (fun _ _ h => .ite (.revertTrial (.fwError h)) (.fwError h)) h
  unfold execFirmwareLoadComplete
  refine .next (.ite h (.ite (hdone _ (.enterRecovery (hbad _))) ?_))
  split
  · exact hdone _ (.enterRecovery (hbad _))
  · split
    · exact hdone _ (.enterRecovery (hbad _))
    · exact hdone _ (.applySettings (.foldl (fun _ _ h => .wrN h rfl) (.wr (.flag (.wr (.wr (hbad _) rfl) rfl) rfl) rfl))
        hmem hkeyRegs hwords hsave hconfig)

theorem KeepsOut.trialTimeout {W : Writes} {s₀ s : State} {q : QuenchReport} (h : Keeps W s₀ s) (hmem : W.mem) (hpds : W.pds)
    (hregions : W.regions) (haccounts : W.accounts) (hmembers : W.members) (hslots : W.slots) (hkeyRegs : W.keyRegs) (hfw : W.fw)
    (hqueues : W.queues) (hledger : W.ledger) (hsave : W.save) (hcaptures : W.captures) : KeepsOut W s₀
    (execTrialTimeout q s) := by
  unfold execTrialTimeout
  refine .next (.ite ?_ h)
  split
  · rename_i b _
    have hr := Keeps.revertTrial (b := b) h
    generalize s.revertTrial b = t at hr ⊢
    exact .releaseCore (.store hr (.setFw hfw) rfl) hmem hpds hregions haccounts hmembers hslots hkeyRegs hfw hqueues hledger hsave
      hcaptures
  · exact h

theorem KeepsOut.restoreUnit {W : Writes} {s₀ s : State} {bad : List Nat} {twinOk : Bool} (h : Keeps W s₀ s) (hmem : W.mem) :
    KeepsOut W s₀ (execRestoreUnit bad twinOk s) := by
  unfold execRestoreUnit
  refine .next ?_
  refine .ite h ?_
  split
  · exact .restoreUnit h hmem
  · exact h

theorem KeepsOut.resetNAssert {W : Writes} {s₀ s : State} {q : QuenchReport} (h : Keeps W s₀ s) (hmem : W.mem) (hpds : W.pds)
    (hregions : W.regions) (haccounts : W.accounts) (hmembers : W.members) (hslots : W.slots) (hkeyRegs : W.keyRegs) (hfw : W.fw)
    (hqueues : W.queues) (hledger : W.ledger) (hsave : W.save) (hcaptures : W.captures) : KeepsOut W s₀
    (execResetNAssert q s) :=
  .next (.ite h (.ite (.acceptInput h) (.ite (.startSave (.acceptInput h) hsave) (.ite (.iteOn (.acceptInput h) (fun h => .startSave h
    hsave) (fun h => .releaseCore h hmem hpds hregions haccounts hmembers hslots hkeyRegs hfw hqueues hledger hsave hcaptures)) (.wake
    (.acceptInput h))))))

theorem KeepsOut.thermTripRelease {W : Writes} {s₀ s : State} {temp : Nat} (h : Keeps W s₀ s) : KeepsOut W s₀ (execThermTripRelease temp
    s) :=
  .next (.ite (.tryPowerUp (.upd h rfl)) h)

theorem KeepsOut.inputUnmask {W : Writes} {s₀ s : State} {code : Nat} (h : Keeps W s₀ s) : KeepsOut W s₀ (execInputUnmask code s) :=
  .next (.ite (.ite (.when (.raiseKeeper (.driveFeeds (.wr (.setInput h) (fFeedState_free _)))) (fun h => .tryPowerUp (.upd h rfl)))
    (.setInput h)) h)

theorem Keeps.brazeDown {W : Writes} {s₀ s : State} (h : Keeps W s₀ s) (hmem : W.mem) (haccounts : W.accounts) (hledger : W.ledger)
    : Keeps W s₀ (s.brazeDown) :=
  .ite (.linkDown h hmem haccounts hledger) (.ite (.upd (.wr h rfl) rfl) h)

theorem KeepsOut.refclkLost {W : Writes} {s₀ s : State} {code : Nat} (h : Keeps W s₀ s) (hmem : W.mem) (haccounts : W.accounts)
    (hledger : W.ledger) (hsave : W.save) : KeepsOut W s₀ (execRefclkLost code s) := by
  unfold execRefclkLost
  refine .next ?_
  refine .ite ?_ h
  refine .ite (.when (.raiseKeeper (.upd h rfl)) (fun h => .upd h rfl)) ?_
  split
  · exact .brazeDown (.foldl (fun _ _ h => .foldl (fun _ _ h => .setLink h) h) (.when (.raiseKeeper (.upd h rfl)) (fun h => .upd h rfl)))
      hmem haccounts hledger
  · exact .orphanCommands (.dropRings (.when (.raiseKeeper (.upd h rfl)) (fun h => .upd h rfl)))
  · exact .unless (.when (.raiseKeeper (.upd h rfl)) (fun h => .upd h rfl)) (fun h => .startSave h hsave)
  · exact .setSynced (.when (.raiseKeeper (.upd h rfl)) (fun h => .upd h rfl))

theorem KeepsOut.holdupBankAtStartV {W : Writes} {s₀ s : State} {mv : Nat} (h : Keeps W s₀ s) : KeepsOut W s₀
    (execHoldupBankAtStartV mv s) :=
  .next (.ite (.tryPowerUp (.wr h rfl)) h)

theorem KeepsOut.thermTripNReleased {W : Writes} {s₀ s : State} (h : Keeps W s₀ s) : KeepsOut W s₀ (execThermTripNReleased s) :=
  .next (.ite (.tryPowerUp (.setInput (.upd h rfl))) h)

theorem KeepsOut.witnessRenew {W : Writes} {s₀ s : State} {hd : DomainHeader} {leaseMs : Nat} (h : Keeps W s₀ s) (hmembers : W.members) :
    KeepsOut W s₀ (execWitnessRenew hd leaseMs s) :=
  .witnessRow (fun _ _ h => .ite (.refuseTo h) (.ite (.refuseTo h) (.decide_ h))) h hmembers

theorem KeepsOut.confirm {W : Writes} {s₀ s : State} {hd : DomainHeader} {sendTime : Nat} (h : Keeps W s₀ s) (hmem : W.mem)
    (haccounts : W.accounts) (hmembers : W.members) (hledger : W.ledger) : KeepsOut W s₀ (execConfirm hd sendTime s) :=
  .answerRow (fun _ _ h => .ite (.when (.noteAnswer (.answeredNow h)) (fun h => .extendLease h hmem haccounts hledger)) (.ite
    (.noteAnswer (.answeredNow h)) (.ite (.when (.noteRegistered (.noteAnswer (.answeredNow h))) (fun h => .openAdmission h hmem
    haccounts hledger)) (.ite (.leftDomain (.noteAnswer (.answeredNow h))) h)))) h hmembers

theorem KeepsOut.refuse {W : Writes} {s₀ s : State} {hd : DomainHeader} {reason : Nat} {registered : Nat} (h : Keeps W s₀ s) (hmem :
    W.mem) (hregions : W.regions) (haccounts : W.accounts) (hmembers : W.members) (hslots : W.slots) (hqueues : W.queues) (hledger :
    W.ledger) : KeepsOut W s₀ (execRefuse hd reason registered s) :=
  .answerRow (fun _ _ h => .ite h (.ite (.ite (.when (.stopHolder (.noteAnswer (.answeredNow h))) (fun h => .learnEpoch h hmem hregions
    haccounts hslots hqueues hledger)) (.noteAnswer (.answeredNow h))) (.ite (.grantRefused h hmem hregions haccounts hslots hqueues
    hledger) (.ite (.when (.noteAnswer (.answeredNow h)) (fun h => .learnEpoch h hmem hregions haccounts hslots hqueues hledger)) (.ite
    (.when (.noteAnswer (.answeredNow h)) (fun h => .wr (.upd h rfl) rfl)) (.ite (.joinRefused (.noteAnswer (.answeredNow h))) (.when
    (.noteAnswer (.answeredNow h)) (fun h => .leaveRefused h)))))))) h hmembers

theorem KeepsOut.grantRequest {W : Writes} {s₀ s : State} {hd : DomainHeader} {flags : Nat} (h : Keeps W s₀ s) (hmembers : W.members) :
    KeepsOut W s₀ (execGrantRequest hd flags s) := by
  unfold execGrantRequest
  refine .witnessRow (fun _ _ h => ?_) h hmembers
  split
  · exact .refuseTo h
  · exact .decide_ h

theorem KeepsOut.grant {W : Writes} {s₀ s : State} {hd : DomainHeader} {epoch : Nat} (h : Keeps W s₀ s) (hmem : W.mem) (haccounts :
    W.accounts) (hmembers : W.members) (hledger : W.ledger) : KeepsOut W s₀ (execGrant hd epoch s) := by
  unfold execGrant
  dsimp only
  refine .answerRow (fun _ _ h => ?_) h hmembers
  refine .ite h ?_
  refine .ite (.noteAnswer (.answeredNow h)) ?_
  refine .ite (.noteAnswer (.answeredNow h)) ?_
  split
  · exact .finish (.switchOver (.takeToken (.upd (.endRound (.when (.noteAnswer (.answeredNow h)) (fun h => .stickEntries
      (.localiseCommands h)))) rfl) hmem haccounts hledger))
  · exact .switchOver (.takeToken (.upd (.endRound (.when (.noteAnswer (.answeredNow h)) (fun h => .stickEntries (.localiseCommands h))))
      rfl) hmem haccounts hledger)

theorem KeepsOut.markRequest {W : Writes} {s₀ s : State} {hd : DomainHeader} (h : Keeps W s₀ s) (hmembers : W.members) : KeepsOut W
    s₀ (execMarkRequest hd s) :=
  .witnessRow (fun _ _ h => .ite (.refuseTo h) (.ite (.refuseTo h) (.decide_ h))) h hmembers

theorem KeepsOut.markGrant {W : Writes} {s₀ s : State} {hd : DomainHeader} (h : Keeps W s₀ s) (hmem : W.mem) (hmembers : W.members)
    : KeepsOut W s₀ (execMarkGrant hd s) :=
  .answerRow (fun _ _ h => .ite h (.ite (.when (.endRound (.noteAnswer (.answeredNow h))) (fun h => .gainMark h hmem)) (.noteAnswer
    (.answeredNow h)))) h hmembers

theorem KeepsOut.markClear {W : Writes} {s₀ s : State} {hd : DomainHeader} (h : Keeps W s₀ s) (hmembers : W.members) : KeepsOut W s₀
    (execMarkClear hd s) :=
  .witnessRow (fun _ _ h => .ite (.refuseTo h) (.ite (.refuseTo h) (.decide_ h))) h hmembers

theorem KeepsOut.epochRegister {W : Writes} {s₀ s : State} {hd : DomainHeader} {epoch : Nat} {side : Nat} (h : Keeps W s₀ s)
    (hmembers : W.members) : KeepsOut W s₀ (execEpochRegister hd epoch side s) := by
  unfold execEpochRegister
  dsimp only
  refine .requestRow (fun _ h => ?_) h hmembers
  split
  · exact .ite (.decide_ (.wr h rfl)) (.refuseTo h)
  · exact .ite (.refuseTo h) (.when (.decide_ (.ite (.wr h rfl) h)) (fun h => .writeDirectory h))

theorem KeepsOut.statusReport {W : Writes} {s₀ s : State} {hd : DomainHeader} {sync : Nat} (h : Keeps W s₀ s) (hmembers : W.members)
    : KeepsOut W s₀ (execStatusReport hd sync s) := by
  unfold execStatusReport
  refine .domainRow (fun _ h => ?_) h hmembers
  split
  · exact .ite (.setRecord h) h
  · exact h

theorem KeepsOut.dirUpdate {W : Writes} {s₀ s : State} {hd : DomainHeader} {seq : Nat} {entries : List DirChange} (h : Keeps W s₀ s)
    (hmembers : W.members) : KeepsOut W s₀ (execDirUpdate hd seq entries s) :=
  .requestRow (fun _ h => .ite (.refuseTo h) (.answerMirrored (.unless (.foldl (fun _ _ h => .applyDirChange h hmembers) h) (fun h =>
    .relist (.mirrorChange h))))) h hmembers

theorem KeepsOut.dirAck {W : Writes} {s₀ s : State} {hd : DomainHeader} {applied : Nat} {full : Bool} {unlisted : Nat} (h : Keeps W s₀ s)
    (hmembers : W.members) : KeepsOut W s₀ (execDirAck hd applied full unlisted s) :=
  .answerRow (fun _ _ h => .ite h (.settleJoin (.sendOutbox (.mirrorChange (.upd (.unless (.answeredNow h) (fun h => .raise h)) rfl))))) h
    hmembers

theorem KeepsOut.push {W : Writes} {s₀ s : State} {hd : DomainHeader} {seq : Nat} {opcode : Nat} {params : List Nat} (h : Keeps W s₀ s)
    (hmem : W.mem) (hpds : W.pds) (hregions : W.regions) (haccounts : W.accounts) (hmembers : W.members) (hslots : W.slots)
    (hqueues : W.queues) : KeepsOut W s₀ (execPush hd seq opcode params s) :=
  .requestRow (fun _ h => .ite (.refuseTo h) (.ite h (.ite (.answerTo h) (.settleJoin (.takePush (.upd h rfl) hmem hpds hregions
    haccounts hmembers hslots hqueues))))) h hmembers

theorem KeepsOut.pushAck {W : Writes} {s₀ s : State} {hd : DomainHeader} {seq : Nat} {status : Nat} {detail : Nat} (h : Keeps W s₀ s)
    (hmembers : W.members) : KeepsOut W s₀ (execPushAck hd seq status detail s) :=
  .answerRow (fun _ _ h => .ite h (.settlePushes (.sendPushes (.mirrorChange (.unless (.store (.answeredNow h) (.setMembers hmembers)
    rfl) (fun h => .raise h)))))) h hmembers

theorem KeepsOut.join {W : Writes} {s₀ s : State} {hd : DomainHeader} {digestA : Nat} {digestB : Nat} {roleA : Nat} {roleB : Nat}
    {flags : Nat} {service : List Nat} (h : Keeps W s₀ s) (hmembers : W.members) : KeepsOut W s₀ (execJoin hd digestA digestB roleA roleB
      flags service s) :=
  .requestRow (fun _ h => .ite (.refuseTo h) (.ite (.refuseTo h) (.ite (.refuseTo h) (.ite (.refuseTo h) (.settlePushes (.sendPushes
    (.when (.answerMirrored (.relist (.setRecord (.mirrorChange (.enterMember h hmembers))))) (fun h => .sendRequest h)))))))) h
    hmembers

theorem KeepsOut.joinAck {W : Writes} {s₀ s : State} {hd : DomainHeader} {version : Nat} {count : Nat} (h : Keeps W s₀ s) (hmembers :
    W.members) : KeepsOut W s₀ (execJoinAck hd version count s) :=
  .answerRow (fun _ _ h => .ite h (.settleJoin (.sendOutbox (.upd (.wr (.answeredNow h) rfl) rfl)))) h hmembers

theorem KeepsOut.leave {W : Writes} {s₀ s : State} {hd : DomainHeader} (h : Keeps W s₀ s) (hmembers : W.members) : KeepsOut W s₀
    (execLeave hd s) :=
  .requestRow (fun _ h => .ite (.refuseTo h) (.answerMirrored (.ite (.raise (.settlePushes (.relist (.mirrorChange (.dropMember h
    hmembers))))) h))) h hmembers

theorem KeepsOut.meterRecord {W : Writes} {s₀ s : State} {hd : DomainHeader} {fields : List Nat} (h : Keeps W s₀ s) (hmembers :
    W.members) : KeepsOut W s₀ (execMeterRecord hd fields s) :=
  .requestRow (fun _ h => .ite (.refuseTo h) (.answerTo (.addContribution h))) h hmembers

/-! ### All commands -/

/-- What a command may write, by the lists of the frame statements. -/
def writesOf (c : Instr) : Writes :=
  ⟨WritesMemory c, WritesPds c, WritesRegions c, WritesAccounts c, WritesMembers c, WritesSlots c, WritesKeyRegs c, WritesFlashWords c,
    WritesLog c, WritesDramLog c, WritesFirmware c, WritesQueues c, WritesLedger c, WritesSave c, WritesCaptures c,
    WritesConfiguration c⟩

/-- Every command keeps all but what its lists name. -/
theorem exec_keepsOut (c : Instr) (s : State) : KeepsOut (writesOf c) s (exec c s) := by
  cases c with
  | registerWrite => exact .registerWrite .refl trivial trivial trivial trivial
  | counterPairCapture => exact .counterPairCapture .refl trivial
  | portCtrlWrite => exact .portCtrlWrite .refl
  | portAdmissionOpen => exact .portAdmissionOpen .refl trivial trivial
  | globalResetArm => exact .globalResetArm .refl
  | globalResetFire => exact .globalResetFire .refl trivial
  | resetArmExpiry => exact .resetArmExpiry .refl
  | svcAddressWrite => exact .svcAddressWrite .refl trivial trivial trivial trivial
  | nearCacheDisable => exact .nearCacheDisable .refl
  | nearCacheEnable => exact .nearCacheEnable .refl trivial
  | tierStageWrite => exact .tierStageWrite .refl
  | ringEnable => exact .ringEnable .refl
  | ringDisable => exact .ringDisable .refl
  | cmdTail => exact .cmdTail .refl
  | cplHead => exact .cplHead .refl
  | evHead => exact .evHead .refl
  | exHead => exact .exHead .refl
  | keeperCommit => exact .keeperCommit .refl trivial trivial trivial trivial
  | wordProgram => exact .wordProgram .refl
  | bufferProgram => exact .bufferProgram .refl
  | sectorErase => exact .sectorErase .refl
  | abort => exact .abort .refl
  | sequenceGapTimeout => exact .sequenceGapTimeout .refl
  | logRecordSelect => exact .logRecordSelect .refl
  | descriptorFetch => exact .descriptorFetch .refl
  | commandCompletion => exact .commandCompletion .refl
  | coalescingTimer => exact .coalescingTimer .refl
  | functionLevelReset => exact .functionLevelReset .refl
  | pcieLinkDown => exact .pcieLinkDown .refl
  | regionCreate => exact .regionCreate .refl trivial
  | regionResize => exact .regionResize .refl trivial trivial trivial trivial trivial trivial trivial
  | regionDestroy => exact .regionDestroy .refl trivial trivial trivial trivial trivial trivial trivial
  | regionSetFlags => exact .regionSetFlags .refl trivial trivial
  | pdCreate => exact .pdCreate .refl trivial trivial
  | pdDestroy => exact .pdDestroy .refl trivial trivial trivial trivial trivial trivial trivial
  | pdBindRegion => exact .pdBindRegion .refl
  | pdUnbindRegion => exact .pdUnbindRegion .refl trivial trivial trivial trivial trivial trivial trivial
  | spacekeySet => exact .spacekeySet .refl trivial trivial
  | queueCreate => exact .queueCreate .refl trivial trivial
  | queueDestroy => exact .queueDestroy .refl trivial trivial trivial trivial trivial trivial trivial
  | qpCreate => exact .qpCreate .refl
  | qpModify => exact .qpModify .refl trivial trivial trivial trivial trivial trivial trivial
  | qpDestroy => exact .qpDestroy .refl trivial trivial trivial trivial trivial trivial trivial
  | keyCommit => exact .keyCommit .refl trivial trivial
  | keyDestroy => exact .keyDestroy .refl trivial trivial trivial trivial trivial trivial trivial
  | cipherOp => exact .cipherOp .refl trivial
  | contextSave => exact .contextSave .refl
  | contextRestore => exact .contextRestore .refl
  | shelfObjectCreate => exact .shelfObjectCreate .refl
  | shelfObjectLoad => exact .shelfObjectLoad .refl trivial
  | shelfObjectDrop => exact .shelfObjectDrop .refl trivial
  | scheduleLoad => exact .scheduleLoad .refl trivial
  | scheduleDrop => exact .scheduleDrop .refl trivial trivial
  | cacheLock => exact .cacheLock .refl trivial
  | cacheUnlock => exact .cacheUnlock .refl
  | cacheRangeInvalidate => exact .cacheRangeInvalidate .refl trivial
  | accountCreate => exact .accountCreate .refl trivial
  | accountBind => exact .accountBind .refl trivial trivial
  | meterExportSetup => exact .meterExportSetup .refl
  | shaperSet => exact .shaperSet .refl trivial trivial
  | twinPair => exact .twinPair .refl trivial trivial trivial
  | twinSwitch => exact .twinSwitch .refl trivial trivial trivial
  | twinResync => exact .twinResync .refl trivial
  | domainJoin => exact .domainJoin .refl trivial trivial trivial
  | domainLeave => exact .domainLeave .refl trivial
  | fwStage => exact .fwStage .refl trivial trivial
  | fwActivate => exact .fwActivate .refl trivial
  | fwCommit => exact .fwCommit .refl
  | lifecycleRequest => exact .lifecycleRequest .refl trivial trivial trivial trivial trivial trivial trivial trivial trivial
  | hallmarkIssue => exact .hallmarkIssue .refl
  | diagRead => exact .diagRead .refl
  | ledgerRead => exact .ledgerRead .refl trivial
  | memopRead => exact .memopRead .refl trivial trivial
  | memopWrite => exact .memopWrite .refl trivial trivial
  | saveNow => exact .saveNow .refl trivial
  | quiesce => exact .quiesce .refl trivial trivial
  | resume => exact .resume .refl trivial trivial trivial
  | mboxRead => exact .mboxRead .refl trivial
  | mboxWrite => exact .mboxWrite .refl trivial trivial trivial trivial
  | wake => exact .wake .refl
  | mboxStatus => exact .mboxStatus .refl
  | eventRead => exact .eventRead .refl
  | authChunk => exact .authChunk .refl
  | lifecycleSubmit => exact .lifecycleSubmit .refl trivial trivial trivial trivial trivial trivial trivial trivial trivial
  | read => exact .read .refl trivial trivial
  | write => exact .write .refl trivial trivial
  | cas8 => exact .cas8 .refl trivial trivial
  | cas16 => exact .cas16 .refl trivial trivial
  | fadd8 => exact .fadd8 .refl trivial trivial
  | fence => exact .fence .refl trivial trivial
  | shelfRead => exact .shelfRead .refl trivial trivial
  | scheduleAdvance => exact .scheduleAdvance .refl trivial trivial
  | ledgerQuery => exact .ledgerQuery .refl trivial trivial
  | hallmark => exact .hallmark .refl trivial trivial
  | timeQuery => exact .timeQuery .refl trivial trivial
  | clientAcknowledgement => exact .clientAcknowledgement .refl trivial trivial
  | ackDelayTimer => exact .ackDelayTimer .refl
  | assemblyTimerExpiry => exact .assemblyTimerExpiry .refl trivial
  | streamLapse => exact .streamLapse .refl
  | heldPacketAdmission => exact .heldPacketAdmission .refl trivial trivial
  | contextFetchComplete => exact .contextFetchComplete .refl trivial trivial
  | tagWaitTimeout => exact .tagWaitTimeout .refl trivial trivial
  | ledgerReleaseTimeout => exact .ledgerReleaseTimeout .refl trivial
  | rdmaWrite => exact .rdmaWrite .refl trivial trivial
  | rdmaReadRequest => exact .rdmaReadRequest .refl trivial trivial
  | cmpswap => exact .cmpswap .refl trivial trivial
  | fetchadd => exact .fetchadd .refl trivial trivial
  | roceUnsupportedOpcode => exact .roceUnsupportedOpcode .refl trivial trivial
  | cnp => exact .cnp .refl trivial trivial
  | qpContextFetchComplete => exact .qpContextFetchComplete .refl trivial trivial
  | roceAssemblyTimeout => exact .roceAssemblyTimeout .refl trivial
  | operationCompletion => exact .operationCompletion .refl trivial trivial trivial
  | zeroFillComplete => exact .zeroFillComplete .refl trivial trivial
  | drainComplete => exact .drainComplete .refl trivial trivial trivial trivial trivial trivial
  | drainLimit => exact .drainLimit .refl
  | gracePeriodEnd => exact .gracePeriodEnd .refl trivial
  | loopPeriod => exact .loopPeriod .refl
  | paceMonitorSample => exact .paceMonitorSample .refl
  | avsRetry => exact .avsRetry .refl
  | gatherApply => exact .gatherApply .refl trivial
  | writeBackIssue => exact .writeBackIssue .refl trivial
  | budgetRecomputation => exact .budgetRecomputation .refl
  | stageFallTimer => exact .stageFallTimer .refl
  | holdAdmission => exact .holdAdmission .refl trivial trivial
  | holdTimeout => exact .holdTimeout .refl trivial trivial
  | dirtyMapClear => exact .dirtyMapClear .refl
  | bankAtFloor => exact .bankAtFloor .refl trivial trivial
  | saveStepComplete => exact .saveStepComplete .refl trivial trivial trivial trivial trivial trivial trivial
  | saveSequenceEnd => exact .saveSequenceEnd .refl trivial trivial trivial trivial trivial trivial trivial trivial trivial trivial trivial trivial trivial
  | holdupTestDue => exact .holdupTestDue .refl
  | holdupTestStart => exact .holdupTestStart .refl
  | holdupTestV1Read => exact .holdupTestV1Read .refl
  | holdupTestVEnd => exact .holdupTestVEnd .refl
  | holdupTestTimeout => exact .holdupTestTimeout .refl
  | holdupRechargeDone => exact .holdupRechargeDone .refl
  | holdupTestRetry => exact .holdupTestRetry .refl
  | holdupStaleTimer => exact .holdupStaleTimer .refl
  | esrPulse => exact .esrPulse .refl
  | brazeLossOfSignal => exact .brazeLossOfSignal .refl trivial trivial trivial
  | brazeDeadTimeout => exact .brazeDeadTimeout .refl trivial trivial trivial
  | brazeTrainingComplete => exact .brazeTrainingComplete .refl trivial trivial trivial trivial trivial trivial
  | brazeTrainingRetry => exact .brazeTrainingRetry .refl
  | brazeFrame => exact .brazeFrame .refl trivial trivial trivial trivial trivial trivial
  | mirror => exact .mirror .refl trivial trivial trivial
  | mirrorCont => exact .mirrorCont .refl trivial trivial trivial
  | dropRemainder => exact .dropRemainder .refl trivial trivial trivial
  | mirrorAck => exact .mirrorAck .refl trivial
  | streamState => exact .streamState .refl
  | command => exact .command .refl trivial trivial trivial trivial trivial trivial trivial
  | leaseRenew => exact .leaseRenew .refl
  | leaseAck => exact .leaseAck .refl trivial trivial trivial
  | status => exact .status .refl trivial trivial
  | assayDigest => exact .assayDigest .refl trivial
  | shadow => exact .shadow .refl trivial
  | verdict => exact .verdict .refl trivial
  | handover => exact .handover .refl trivial trivial trivial
  | handoverAck => exact .handoverAck .refl trivial trivial trivial trivial trivial trivial
  | resyncData => exact .resyncData .refl trivial
  | resyncCtrl => exact .resyncCtrl .refl trivial
  | tile => exact .tile .refl trivial
  | replay => exact .replay .refl
  | ident => exact .ident .refl trivial trivial
  | statusSendTimer => exact .statusSendTimer .refl
  | leaseRenewTimer => exact .leaseRenewTimer .refl
  | witnessRenewTimer => exact .witnessRenewTimer .refl
  | grantRequestTimer => exact .grantRequestTimer .refl
  | leaseEnd => exact .leaseEnd .refl
  | leaseViewExpiry => exact .leaseViewExpiry .refl
  | mirrorFrameTimer => exact .mirrorFrameTimer .refl
  | mirrorAckTimeout => exact .mirrorAckTimeout .refl trivial
  | assayEpochClose => exact .assayEpochClose .refl trivial
  | yieldDrainBound => exact .yieldDrainBound .refl trivial trivial trivial
  | resyncUnitSend => exact .resyncUnitSend .refl trivial
  | revertTimer => exact .revertTimer .refl
  | cursorSyncTimer => exact .cursorSyncTimer .refl
  | nearFillComplete => exact .nearFillComplete .refl trivial trivial
  | nearFlushComplete => exact .nearFlushComplete .refl trivial
  | tileFillProgress => exact .tileFillProgress .refl trivial
  | lookaheadFill => exact .lookaheadFill .refl
  | tileEvictionComplete => exact .tileEvictionComplete .refl trivial
  | tileRecoveryComplete => exact .tileRecoveryComplete .refl trivial
  | refreshDue => exact .refreshDue .refl
  | dramSensorRead => exact .dramSensorRead .refl trivial
  | dramRequestAged => exact .dramRequestAged .refl
  | spprComplete => exact .spprComplete .refl trivial
  | caParityError => exact .caParityError .refl trivial
  | dramTrainingComplete => exact .dramTrainingComplete .refl trivial trivial trivial
  | flashTrainingComplete => exact .flashTrainingComplete .refl
  | journalReplayComplete => exact .journalReplayComplete .refl trivial trivial trivial trivial
  | flashReadComplete => exact .flashReadComplete .refl
  | flashProgramComplete => exact .flashProgramComplete .refl trivial
  | flashEraseComplete => exact .flashEraseComplete .refl
  | dieCommandTimeout => exact .dieCommandTimeout .refl
  | flashRebuildComplete => exact .flashRebuildComplete .refl
  | reclaim => exact .reclaim .refl
  | planish => exact .planish .refl
  | anneal => exact .anneal .refl
  | journalFlush => exact .journalFlush .refl
  | journalCheckpoint => exact .journalCheckpoint .refl
  | scrub => exact .scrub .refl trivial trivial
  | tableReloadComplete => exact .tableReloadComplete .refl trivial trivial
  | poisonRepairComplete => exact .poisonRepairComplete .refl trivial
  | taiSecond => exact .taiSecond .refl trivial
  | settleLimit => exact .settleLimit .refl trivial
  | shaperRelease => exact .shaperRelease .refl trivial trivial
  | witnessRenew => exact .witnessRenew .refl trivial
  | confirm => exact .confirm .refl trivial trivial trivial trivial
  | refuse => exact .refuse .refl trivial trivial trivial trivial trivial trivial trivial
  | grantRequest => exact .grantRequest .refl trivial
  | grant => exact .grant .refl trivial trivial trivial trivial
  | markRequest => exact .markRequest .refl trivial
  | markGrant => exact .markGrant .refl trivial trivial
  | markClear => exact .markClear .refl trivial
  | epochRegister => exact .epochRegister .refl trivial
  | statusReport => exact .statusReport .refl trivial
  | dirUpdate => exact .dirUpdate .refl trivial
  | dirAck => exact .dirAck .refl trivial
  | push => exact .push .refl trivial trivial trivial trivial trivial trivial trivial
  | pushAck => exact .pushAck .refl trivial
  | join => exact .join .refl trivial
  | joinAck => exact .joinAck .refl trivial
  | leave => exact .leave .refl trivial
  | meterRecord => exact .meterRecord .refl trivial
  | domainResendTimer => exact .domainResendTimer .refl
  | statusReportTimer => exact .statusReportTimer .refl
  | managerReachTimeout => exact .managerReachTimeout .refl
  | provisionalGrantLapse => exact .provisionalGrantLapse .refl
  | joinTimeout => exact .joinTimeout .refl
  | aggWaitTimer => exact .aggWaitTimer .refl
  | ptpMessage => exact .ptpMessage .refl trivial
  | ppsInEdge => exact .ppsInEdge .refl trivial
  | clusterFault => exact .clusterFault .refl
  | oldTableKeyErased => exact .oldTableKeyErased .refl
  | debugExpiry => exact .debugExpiry .refl trivial trivial trivial trivial trivial trivial trivial trivial trivial
  | pacedEntryTimer => exact .pacedEntryTimer .refl
  | pacedExit => exact .pacedExit .refl
  | powerOn => exact .powerOn .refl trivial trivial trivial
  | powerUpStepEnd => exact .powerUpStepEnd .refl trivial trivial trivial trivial trivial trivial trivial trivial trivial trivial trivial trivial
  | rampTimeout => exact .rampTimeout .refl trivial
  | powerUpRetry => exact .powerUpRetry .refl
  | railWindowFault => exact .railWindowFault .refl
  | railFaultHold => exact .railFaultHold .refl trivial
  | readVoutPoll => exact .readVoutPoll .refl
  | railHardLimitBreach => exact .railHardLimitBreach .refl trivial trivial
  | shutdownStepEnd => exact .shutdownStepEnd .refl
  | dischargeTimer => exact .dischargeTimer .refl
  | feedLoss => exact .feedLoss .refl trivial trivial
  | feedOk => exact .feedOk .refl
  | pmbusAlert => exact .pmbusAlert .refl trivial
  | restartHoldEnd => exact .restartHoldEnd .refl
  | startVTimeout => exact .startVTimeout .refl
  | keeperSupplyLow => exact .keeperSupplyLow .refl trivial trivial trivial
  | keeperFlashOpComplete => exact .keeperFlashOpComplete .refl trivial
  | keeperLogAppend => exact .keeperLogAppend .refl trivial
  | repeatSlotTimer => exact .repeatSlotTimer .refl trivial
  | logSectorErase => exact .logSectorErase .refl trivial
  | watchdogExpiry => exact .watchdogExpiry .refl trivial
  | firmwareLoadComplete => exact .firmwareLoadComplete .refl trivial trivial trivial trivial trivial trivial
  | trialTimeout => exact .trialTimeout .refl trivial trivial trivial trivial trivial trivial trivial trivial trivial trivial trivial trivial
  | restoreUnit => exact .restoreUnit .refl trivial
  | restoreWaitTimeout => exact .restoreWaitTimeout .refl
  | twinPageTimeout => exact .twinPageTimeout .refl trivial
  | resetNAssert => exact .resetNAssert .refl trivial trivial trivial trivial trivial trivial trivial trivial trivial trivial trivial trivial
  | thermTripNAssert => exact .thermTripNAssert .refl trivial trivial
  | junctionOvertemp => exact .junctionOvertemp .refl trivial trivial
  | hardCutCondition => exact .hardCutCondition .refl trivial trivial
  | thermTripRelease => exact .thermTripRelease .refl
  | inputStuckTimer => exact .inputStuckTimer .refl
  | inputUnmask => exact .inputUnmask .refl
  | outputReadbackMismatch => exact .outputReadbackMismatch .refl
  | refclkLost => exact .refclkLost .refl trivial trivial trivial trivial
  | refclkRegained => exact .refclkRegained .refl
  | linkStateChange => exact .linkStateChange .refl
  | arpRequest => exact .arpRequest .refl
  | repeatWindowExpiry => exact .repeatWindowExpiry .refl
  | stormSecondEnd => exact .stormSecondEnd .refl
  | feedReturning => exact .feedReturning .refl
  | senseInputReversed => exact .senseInputReversed .refl trivial trivial
  | holdupBankAtStartV => exact .holdupBankAtStartV .refl
  | keeperSupplyRecovered => exact .keeperSupplyRecovered .refl
  | thermTripNReleased => exact .thermTripNReleased .refl
  | opHoursTick => exact .opHoursTick .refl
  | ptpPpsOutFall => exact .ptpPpsOutFall .refl
  | mgmtCoreMemoryUe => exact .mgmtCoreMemoryUe .refl trivial
  | shutdownRailCollapse => exact .shutdownRailCollapse .refl
  | mgmtBusHeldLow => exact .mgmtBusHeldLow .refl

theorem exec_keeps {c : Instr} {s t : State} (h : exec c s = .next t) : Keeps (writesOf c) s t := exec_keepsOut c s t h

/-- A tick touches neither memory. -/
theorem State.tick_mem (s : State) : s.tick.mem = s.mem := rfl

/-! ### The frame statements -/

/-- Settles O4: each command keeps the two memories canonical, and a tick leaves them alone. -/
theorem memoriesStayCanonical : Obligations.MemoriesStayCanonical := by
  intro s t hdram himage hstep
  unfold step at hstep
  split at hstep
  · cases hstep
    exact ⟨hdram, himage⟩
  · exact (exec_keeps hstep).canonical ⟨hdram, himage⟩

/-- Settles O5: no command stores the queue or the unstepped count. -/
theorem queueAndClockAreTheSteps : Obligations.QueueAndClockAreTheSteps :=
  ⟨fun _ _ _ h => (exec_keeps h).pending, fun _ _ _ h => (exec_keeps h).count⟩

/-- Settles O6: each command keeps the memories that it is not listed for. -/
theorem memoryFrame : Obligations.MemoryFrame := fun _ _ _ h => (exec_keeps h).mem

/-- Settles O7: each command keeps the tables that it is not listed for. -/
theorem tablesFrame : Obligations.TablesFrame :=
  ⟨fun _ _ _ h => (exec_keeps h).pds, fun _ _ _ h => (exec_keeps h).regions, fun _ _ _ h => (exec_keeps h).accounts,
    fun _ _ _ h => (exec_keeps h).members⟩

/-- Settles O8: each command keeps the keys that it is not listed for. -/
theorem secretsFrame : Obligations.SecretsFrame :=
  ⟨fun _ _ _ h => (exec_keeps h).slots, fun _ _ _ h => (exec_keeps h).keyRegs⟩

/-- Settles O9: each command keeps what outlasts a power loss and it is not listed for. -/
theorem keeperFlashFrame : Obligations.KeeperFlashFrame :=
  ⟨fun _ _ _ h => (exec_keeps h).words, fun _ _ _ h => (exec_keeps h).log, fun _ _ _ h => (exec_keeps h).badRows,
    fun _ _ _ h => (exec_keeps h).fw⟩

/-- Settles O10: each command keeps the queues, the ledger, the save and the captures that it is not listed for. -/
theorem queuesAndLedgerFrame : Obligations.QueuesAndLedgerFrame :=
  ⟨fun _ _ _ h => (exec_keeps h).queues, fun _ _ _ h => (exec_keeps h).ledger, fun _ _ _ h => (exec_keeps h).save,
    fun _ _ _ h => (exec_keeps h).captures⟩

/-- Settles O11: a software-written field of these blocks is one of the configuration fields, and each command keeps these. -/
theorem configurationFrame : Obligations.ConfigurationFrame := by
  intro c s t f n h hc hf hrw
  have hmem : f ∈ configFields := List.mem_filter.2 ⟨hf, by rw [hrw]; rfl⟩
  exact (exec_keeps h).config hc f hmem n

/-! ### Steps and reset -/

/-- Settles O1, by the definition of a step. -/
theorem stepTakesTheFront : Obligations.StepTakesTheFront := by
  unfold Obligations.StepTakesTheFront
  refine ⟨fun s c rest h => ?_, fun s h => ?_⟩
  · simp [step, h]
  · exact ⟨s.tick, by simp [step, h], rfl, rfl, rfl⟩

/-- Settles O2: reset stores no register, so each reads its value after reset. -/
theorem reset : Obligations.Reset :=
  ⟨State.rdN_reset, ⟨rfl, rfl⟩, rfl, rfl, rfl⟩

/-- Every command goes on. -/
theorem exec_next (c : Instr) (s : State) : ∃ t, exec c s = .next t := by
  cases c <;> exact ⟨_, rfl⟩

theorem step_next (s : State) : ∃ t, step s = .next t := by
  unfold step
  split
  · exact ⟨_, rfl⟩
  · exact exec_next _ _

/-- Settles O3: a step of any state goes on, so the last state of a run does too. -/
theorem noCommandStops : Obligations.NoCommandStops := fun _ _ t _ => step_next t

end Sys2Proof.Machine

namespace Sys2Proof.Machine

open Sys2Proof

/-! ### The throttle counter's own register

A read of DUR_THROTTLE_MS at 0xE0058 brings the count up to date first, so that it changes a register beside what it captures. -/

/-- The core and the keeper run; the background rate has been throttled since time 0, and 1 ms has passed. -/
def throttledState : State :=
  { State.reset with regs := [(R.KEEPER_STATUS_SEQ_STATE.key 0, 2)], keeper.powered := true, dur.throttleFrom := some 0, time.count := 1000000 }

theorem throttledState_reaches : throttledState.reaches .pcie 0xE0058 = true := by decide +kernel

theorem throttledState_keeperRuns : throttledState.keeperRuns = true := by decide +kernel

theorem roHalf_throttleCount : roHalf 0 0xE0058 = true := by decide +kernel

/-- The capture reads the counter, which the read has brought up to 1 ms. -/
theorem throttledState_readPath_count (p : Path) : (throttledState.readPath p 0xE0058).2.rd R.DUR_THROTTLE_MS_COUNT = 1 := by
  cases p <;> decide +kernel

theorem throttledState_count : throttledState.rd R.DUR_THROTTLE_MS_COUNT = 0 := by decide +kernel

/-- The read at 0xE0058 leaves other registers than it found. -/
theorem throttledState_readPath_regs (p : Path) : (throttledState.readPath p 0xE0058).2.regs ≠ throttledState.regs := by
  intro h
  have hcount := State.rdN_congr h R.DUR_THROTTLE_MS_COUNT 0
  have h1 := throttledState_readPath_count p
  have h0 := throttledState_count
  unfold State.rd at h1 h0
  omega

theorem exec_counterPairCapture_reaches {s : State} {p : Path} {off : Nat} (h : s.reaches p off = true) (h4 : off % 4 = 0) :
    exec (.counterPairCapture p off) s = .next (s.readPath p off).2 :=
  congrArg Host.Outcome.next (if_pos (by simp [h, h4]))

/-- Refutes O14: at 0xE0058 a capture counts the throttled time first, so the registers change (clause 4). -/
theorem not_registerAccesses : ¬ Obligations.RegisterAccesses := by
  unfold Obligations.RegisterAccesses
  rintro ⟨-, -, -, hcapture, -⟩
  obtain ⟨t, ht, -, hregs⟩ := hcapture throttledState .pcie 0xE0058 throttledState_reaches rfl roHalf_throttleCount (by decide)
  rw [exec_counterPairCapture_reaches throttledState_reaches rfl] at ht
  cases ht
  exact throttledState_readPath_regs .pcie hregs

theorem State.regs_of_next_eq {s t : State} (h : (Host.Outcome.next s : Host.Outcome State Fault Refusal) = .next t) : s.regs = t.regs := by
  cases h; rfl

/-- Refutes O24: at 0xE0058 the capture's next state differs in the throttle counter too (clause 1). -/
theorem not_resetAndCounterRows : ¬ Obligations.ResetAndCounterRows := by
  unfold Obligations.ResetAndCounterRows
  rintro ⟨hcapture, -⟩
  have ht := hcapture throttledState .pcie 0xE0058 throttledState_reaches rfl roHalf_throttleCount (.inl (by decide))
  rw [exec_counterPairCapture_reaches throttledState_reaches rfl] at ht
  have hregs := State.regs_of_next_eq ht
  exact throttledState_readPath_regs .pcie hregs

/-! ### A register that holds more than its field's width -/

/-- The core runs, and the register of CIPHER_STATUS_CLUSTERS_OK, a field of 8 bits, holds 0x109. -/
def wideClustersState : State :=
  { State.reset with regs := [(R.CIPHER_STATUS_CLUSTERS_OK.key 0, 0x109), (R.KEEPER_STATUS_SEQ_STATE.key 0, 2)] }

theorem wideClustersState_coreOn : wideClustersState.coreOn = true := by decide +kernel

theorem wideClustersState_clusters : wideClustersState.rd R.CIPHER_STATUS_CLUSTERS_OK = 0x109 := by decide +kernel

/-- The CLUSTERS_OK that the loss of cluster 3 leaves. -/
def clustersAfterFault (s : State) : Nat :=
  match exec (.clusterFault 3 [] []) s with
  | .next t => t.rd R.CIPHER_STATUS_CLUSTERS_OK
  | _ => 0

theorem clustersAfterFault_wide : clustersAfterFault wideClustersState = 1 := by decide +kernel

/-- Refutes O41: the loss of a cluster cuts CLUSTERS_OK to its 8 bits, so from 0x109 it leaves 1 and not 0x101 (clause 9). -/
theorem not_keyCommands : ¬ Obligations.KeyCommands := by
  unfold Obligations.KeyCommands
  rintro ⟨-, -, -, -, -, -, -, -, hfault⟩
  obtain ⟨t, ht, hok, -⟩ := hfault wideClustersState 3 [] [] wideClustersState_coreOn (by decide)
    (by rw [wideClustersState_clusters]; decide) rfl rfl
  have hafter := clustersAfterFault_wide
  rw [clustersAfterFault, ht] at hafter
  rw [wideClustersState_clusters] at hok
  simp only [hok] at hafter
  omega

end Sys2Proof.Machine

namespace Sys2Proof.Machine

open Sys2Proof

/-! ### A stale tile beside the dropped object

A drop ends with the views of the tier, which turn a STAGED tile whose time is over to EVICTING. -/

/-- SHELF_OBJECT_DROP, fetched and next to be accepted. -/
def objectDropCmd : Cmd := ⟨1, 0, 0, 0x0403, 7, false, false, .fetched, 0, 0, 0, [], false, none, (0, 0, 0)⟩

/-- A STAGED tile of object 13 that is stale. -/
def staleTile : Tile := ⟨13, 0, .staged, [], 0, [], [], false, false, 0, 0, false, true⟩

/-- An unpaired H9 that serves, with SHELF_OBJECT_DROP in flight, object 0 and a stale tile of object 13. -/
def staleTileState : State :=
  { (State.reset.wr R.KEEPER_STATUS_SEQ_STATE 2).wr R.LIFE_STATE_LIFECYCLE 2 with
    keeper.powered := true
    twin.holder := true
    start := { State.reset.start with presented := true, admitted := true, step := 11, tablesDone := true }
    cmds := [objectDropCmd]
    nextCmd := 2
    shelf.objects := [(0, ⟨.loading, 0, true, 5, 0x20000, 4, 9, [], [], [], true⟩)]
    shelf.tiles := [staleTile] }

theorem staleTileState_accepts : Accepts staleTileState ⟨0, 0⟩ 0x0403 objectDropCmd := by decide +kernel

/-- The tiles after the drop of object 0. -/
def tilesAfterDrop (s : State) : List Tile :=
  match exec (.shelfObjectDrop ⟨0, 0⟩ 0) s with
  | .next t => t.shelf.tiles
  | _ => []

theorem tilesAfterDrop_stale : tilesAfterDrop staleTileState ≠ [staleTile] := by decide +kernel

/-- Refutes O33: the drop of object 0 leaves no tile as it was where another object's tile is stale, which turns EVICTING (clause 2). -/
theorem not_shelfCommands : ¬ Obligations.ShelfCommands := by
  unfold Obligations.ShelfCommands
  rintro ⟨-, hdrop, -⟩
  obtain ⟨t, ht, -, -, htiles⟩ := hdrop staleTileState ⟨0, 0⟩ objectDropCmd 0 staleTileState_accepts rfl rfl rfl
  have hafter := tilesAfterDrop_stale
  rw [tilesAfterDrop, ht] at hafter
  exact hafter htiles

end Sys2Proof.Machine

/-! Rules for the register file and for what an event leaves of the keeper: fields whose keys never meet, and the keeper's fields that
raising an event cannot write. -/

namespace Sys2Proof.Machine

open Sys2Proof

/-! ### Fields that never meet -/

/-- Two fields whose instances all stand under different keys: they differ in their place in the word, or their series do not overlap,
or they interleave with one stride. -/
def Fld.clearOf (f g : Fld) : Bool :=
  decide (f.lo < 64) && decide (g.lo < 64) && decide (0 < f.count) && decide (0 < g.count) &&
    (f.lo != g.lo || decide (f.off + f.stride * (f.count - 1) < g.off) || decide (g.off + g.stride * (g.count - 1) < f.off) ||
      (f.stride == g.stride && f.off % f.stride != g.off % g.stride))

theorem Fld.stride_mul_le (f : Fld) (h : 0 < f.count) (n : Nat) : f.stride * (n % f.count) ≤ f.stride * (f.count - 1) :=
  Nat.mul_le_mul_left _ (by have := Nat.mod_lt n h; omega)

theorem Fld.key_ne_of_clearOf {f g : Fld} (h : Fld.clearOf f g = true) (n m : Nat) : f.key n ≠ g.key m := by
  simp only [Fld.clearOf, Bool.and_eq_true, Bool.or_eq_true, decide_eq_true_eq, bne_iff_ne, beq_iff_eq] at h
  obtain ⟨⟨⟨⟨hf, hg⟩, hcf⟩, hcg⟩, hor⟩ := h
  have hn := Fld.stride_mul_le f hcf n
  have hm := Fld.stride_mul_le g hcg m
  unfold Fld.key
  intro hkey
  rcases hor with ((hlo | hbelow) | habove) | ⟨hstride, hphase⟩
  · omega
  · omega
  · omega
  · have hoff : f.off + f.stride * (n % f.count) = g.off + g.stride * (m % g.count) := by omega
    have hmod := congrArg (· % f.stride) hoff
    simp only [Nat.add_mul_mod_self_left, hstride] at hmod hphase
    exact hphase hmod

/-- Two instances of one series stand under different keys. -/
theorem Fld.key_ne_of_ne {f : Fld} {n m : Nat} (hstride : 0 < f.stride) (hn : n < f.count) (hm : m < f.count) (h : n ≠ m) :
    f.key n ≠ f.key m := by
  unfold Fld.key
  rw [Nat.mod_eq_of_lt hn, Nat.mod_eq_of_lt hm]
  intro hkey
  have : f.stride * n = f.stride * m := by omega
  exact h (Nat.eq_of_mul_eq_mul_left hstride this)

/-- A field keeps its value under a write to a field apart from it. -/
theorem State.rdN_wrN_clearOf (s : State) {f g : Fld} (n m v : Nat) (h : Fld.clearOf f g = true) : (s.wrN f n v).rdN g m = s.rdN g m :=
  State.rdN_wrN_ne s v (Fld.key_ne_of_clearOf h n m)

/-- The fields that raising an event can write. -/
def eventFields : List Fld :=
  [R.EVENT_RAISED_COUNT, R.EVENT_LAST_VALID, R.EVENT_LAST_RING, R.EVENT_LAST_SEVERITY, R.EVENT_LAST_SOURCE, R.EVENT_REPEATS_COUNT,
   R.KEEPER_LOG_STATUS_DROPPED, R.RING_EV_PTRS_H9_INDEX]

/-- A field apart from every field that raising an event can write. -/
def Fld.silent (f : Fld) : Bool := eventFields.all (fun g => Fld.clearOf g f)

theorem Fld.quiet_of_silent {f : Fld} (h : Fld.silent f = true) (n : Nat) : Fld.quiet f n = true := by
  have hclear : ∀ g ∈ eventFields, ∀ k, g.key k ≠ f.key n := fun g hg k =>
    Fld.key_ne_of_clearOf (List.all_eq_true.1 h g hg) k n
  simp only [eventFields, List.mem_cons, List.not_mem_nil, or_false, forall_eq_or_imp, forall_eq] at hclear
  obtain ⟨h1, h2, h3, h4, h5, h6, h7, h8⟩ := hclear
  have hmem : f.key n ∉ eventKeys := by
    simp only [eventKeys, List.mem_append, List.mem_cons, List.not_mem_nil, or_false, List.mem_map]
    rintro ((h | h | h | h | h | h | h) | ⟨k, -, h⟩)
    · exact h1 0 h.symm
    · exact h2 0 h.symm
    · exact h3 0 h.symm
    · exact h4 0 h.symm
    · exact h5 0 h.symm
    · exact h6 0 h.symm
    · exact h7 0 h.symm
    · exact h8 k h
  simpa [Fld.quiet] using hmem

section
variable (s : State) (f : Fld) (n : Nat) (h : Fld.silent f = true)
include h

theorem State.rdN_raise_silent (src : Nat) (vs : List (Nat × Nat)) : (s.raise src vs).rdN f n = s.rdN f n :=
  State.rdN_raise s (Fld.quiet_of_silent h n) src vs

theorem State.rdN_raiseKeeper_silent (src : Nat) (vs : List (Nat × Nat)) : (s.raiseKeeper src vs).rdN f n = s.rdN f n :=
  State.rdN_raiseKeeper s (Fld.quiet_of_silent h n) src vs

theorem State.rdN_raiseTag_silent (src : Nat) (vs : List (Nat × Nat)) (tag : Nat) : (s.raiseTag src vs tag).rdN f n = s.rdN f n :=
  State.rdN_raiseTag s (Fld.quiet_of_silent h n) src vs tag

theorem State.rdN_keeperLog_silent (src sev detail : Nat) (core : Bool) : (s.keeperLog src sev detail core).rdN f n = s.rdN f n :=
  State.rdN_keeperLog s (Fld.quiet_of_silent h n) src sev detail core

theorem State.rdN_occur_silent (src detail : Nat) (alt keeper cmd : Bool) :
    (s.occur src detail alt keeper cmd).rdN f n = s.rdN f n :=
  State.rdN_occur s (Fld.quiet_of_silent h n) src detail alt keeper cmd

theorem State.rdN_endCmd_silent (id status detail result : Nat) : (s.endCmd id status detail result).rdN f n = s.rdN f n :=
  State.rdN_endCmd s (Fld.quiet_of_silent h n) id status detail result

theorem State.rdN_cmdEvent_silent (c : Cmd) (src : Nat) (vs : List (Nat × Nat)) : (s.cmdEvent c src vs).rdN f n = s.rdN f n :=
  State.rdN_cmdEvent s (Fld.quiet_of_silent h n) c src vs

end

/-! ### The keeper under an event -/

/-- The keeper without its log records that wait, the flood it counts and its counters: what raising an event cannot write. -/
def Keeper.unlogged (k : Keeper) : Keeper := { k with flash.ram := [], flash.flood := none, flash.counters := [] }

/-- Two keepers that agree in everything but their waiting log records, flood and counters. -/
abbrev Keeper.Agrees (k l : Keeper) : Prop :=
  k.rails = l.rails ∧ k.feedA = l.feedA ∧ k.feedB = l.feedB ∧ k.feedHold = l.feedHold ∧ k.onSecondary = l.onSecondary ∧
  k.holdup = l.holdup ∧ k.retryAt = l.retryAt ∧ k.holdEnd = l.holdEnd ∧ k.waitStart = l.waitStart ∧ k.hourAt = l.hourAt ∧
  k.mismatch = l.mismatch ∧ k.abortShutdown = l.abortShutdown ∧ k.startVEnd = l.startVEnd ∧ k.keepAfter = l.keepAfter ∧
  k.powered = l.powered ∧ k.stopped = l.stopped ∧ k.fifoOut = l.fifoOut ∧ k.staging = l.staging ∧ k.mboxI3c = l.mboxI3c ∧
  k.mboxAddr = l.mboxAddr ∧ k.thermDriven = l.thermDriven ∧ k.thermInput = l.thermInput ∧ k.thermAt = l.thermAt ∧
  k.outputs = l.outputs ∧ k.inputs = l.inputs ∧ k.clocksLost = l.clocksLost ∧ k.vddMv = l.vddMv ∧
  k.flash.words = l.flash.words ∧ k.flash.sectors = l.flash.sectors ∧ k.flash.ops = l.flash.ops ∧ k.flash.pcie = l.flash.pcie ∧
  k.flash.mgmt = l.flash.mgmt ∧ k.flash.log = l.flash.log ∧ k.flash.nextSeq = l.flash.nextSeq ∧ k.flash.tokens = l.flash.tokens ∧
  k.flash.tokensAt = l.flash.tokensAt ∧ k.flash.retries = l.flash.retries ∧ k.flash.settings = l.flash.settings ∧
  k.flash.pendingErase = l.flash.pendingErase ∧ k.flash.logSectors = l.flash.logSectors ∧ k.flash.warned = l.flash.warned ∧
  k.flash.romRecovery = l.flash.romRecovery ∧ k.prevStraps = l.prevStraps ∧ k.ownerDigest = l.ownerDigest ∧
  k.deferred = l.deferred ∧ k.debugEnd = l.debugEnd ∧ k.testEnd = l.testEnd ∧ k.railCfg = l.railCfg ∧ k.indFault = l.indFault

theorem Keeper.agrees_of_unlogged {k l : Keeper} (h : k.unlogged = l.unlogged) : k.Agrees l := by
  simp only [Keeper.unlogged, Keeper.mk.injEq, KFlash.mk.injEq] at h
  simp only [Keeper.Agrees]
  simp [h]

theorem State.unlogged_queueLog (s : State) (r : LogRecord) : (s.queueLog r).keeper.unlogged = s.keeper.unlogged := by
  unfold State.queueLog
  split <;> simp [State.bumpSat, Keeper.unlogged]

theorem State.unlogged_keeperLog (s : State) (src sev detail : Nat) (core : Bool) :
    (s.keeperLog src sev detail core).keeper.unlogged = s.keeper.unlogged := by
  have hq := s.unlogged_queueLog (s.newLogRecord 1 src sev (detail % 2 ^ 96) 1 false core)
  simp only [Keeper.unlogged] at hq ⊢
  simp only [State.keeperLog]
  repeat' split
  · rfl
  all_goals exact hq

theorem State.unlogged_holdEvent (s : State) (r : EventRecord) : (s.holdEvent r).keeper.unlogged = s.keeper.unlogged := by simp

theorem State.unlogged_closeEvent (s : State) (r : EventRecord) : (s.closeEvent r).keeper.unlogged = s.keeper.unlogged := by
  simp only [State.closeEvent]
  (repeat' split) <;> simp [State.unlogged_keeperLog]

theorem State.unlogged_closePending (s : State) (src : Nat) : (s.closePending src).keeper.unlogged = s.keeper.unlogged := by
  simp only [State.closePending]
  split <;> simp [State.unlogged_closeEvent]

theorem State.unlogged_closeFold (s : State) (src : Nat) : (s.closeFold src).keeper.unlogged = s.keeper.unlogged := by
  simp only [State.closeFold]
  split <;> simp [State.unlogged_closeEvent]

theorem State.unlogged_closeSecond (s : State) (src : Nat) : (s.closeSecond src).keeper.unlogged = s.keeper.unlogged := by
  simp only [State.closeSecond]
  split <;> simp [State.unlogged_closePending, State.unlogged_closeFold]

theorem State.unlogged_hubOccur (s : State) (src detail : Nat) (alt keeper cmd : Bool) :
    (s.hubOccur src detail alt keeper cmd).keeper.unlogged = s.keeper.unlogged := by
  simp only [State.hubOccur]
  (repeat' split) <;> simp [State.unlogged_closeEvent, State.unlogged_closePending, State.unlogged_closeSecond]

theorem State.unlogged_occur (s : State) (src detail : Nat) (alt keeper cmd : Bool) :
    (s.occur src detail alt keeper cmd).keeper.unlogged = s.keeper.unlogged := by
  simp only [State.occur]
  (repeat' split) <;> simp [State.unlogged_hubOccur, State.unlogged_keeperLog]

@[simp] theorem State.queueLog_agrees (s : State) (r : LogRecord) : (s.queueLog r).keeper.Agrees s.keeper :=
  Keeper.agrees_of_unlogged (s.unlogged_queueLog r)

@[simp] theorem State.keeperLog_agrees (s : State) (src sev detail : Nat) (core : Bool) :
    (s.keeperLog src sev detail core).keeper.Agrees s.keeper :=
  Keeper.agrees_of_unlogged (s.unlogged_keeperLog src sev detail core)

@[simp] theorem State.occur_agrees (s : State) (src detail : Nat) (alt keeper cmd : Bool) :
    (s.occur src detail alt keeper cmd).keeper.Agrees s.keeper :=
  Keeper.agrees_of_unlogged (s.unlogged_occur src detail alt keeper cmd)

@[simp] theorem State.raise_agrees (s : State) (src : Nat) (vs : List (Nat × Nat)) : (s.raise src vs).keeper.Agrees s.keeper := by
  unfold State.raise
  split
  · exact State.occur_agrees ..
  · exact Keeper.agrees_of_unlogged rfl

@[simp] theorem State.raiseKeeper_agrees (s : State) (src : Nat) (vs : List (Nat × Nat)) :
    (s.raiseKeeper src vs).keeper.Agrees s.keeper := by
  simp only [State.raiseKeeper]
  split
  · exact Keeper.agrees_of_unlogged ((State.unlogged_occur ..).trans (State.unlogged_keeperLog ..))
  · exact State.keeperLog_agrees ..

@[simp] theorem State.raiseTag_agrees (s : State) (src : Nat) (vs : List (Nat × Nat)) (tag : Nat) :
    (s.raiseTag src vs tag).keeper.Agrees s.keeper := by
  unfold State.raiseTag
  split
  · exact State.occur_agrees ..
  · exact Keeper.agrees_of_unlogged rfl

@[simp] theorem State.endCmd_agrees (s : State) (id status detail result : Nat) :
    (s.endCmd id status detail result).keeper.Agrees s.keeper := by
  unfold State.endCmd
  (repeat' split) <;> simp [Keeper.Agrees]

@[simp] theorem State.cmdEvent_agrees (s : State) (c : Cmd) (src : Nat) (vs : List (Nat × Nat)) :
    (s.cmdEvent c src vs).keeper.Agrees s.keeper := by
  simp [State.cmdEvent, Keeper.Agrees]

end Sys2Proof.Machine

namespace Sys2Proof.Machine

open Sys2Proof

/-! ### The windows of the keeper flash -/

@[simp] theorem State.windowPath_setWindowPath (s : State) (p : Path) (w : WindowPath) : (s.setWindowPath p w).windowPath p = w := by
  cases p <;> rfl

/-- A change of a path's window leaves the rest of the keeper flash. -/
@[simp] theorem State.setWindowPath_flash (s : State) (p : Path) (w : WindowPath) :
    (s.setWindowPath p w).keeper.flash.ops = s.keeper.flash.ops ∧ (s.setWindowPath p w).keeper.flash.words = s.keeper.flash.words ∧
    (s.setWindowPath p w).keeper.flash.sectors = s.keeper.flash.sectors := by
  cases p <;> exact ⟨rfl, rfl, rfl⟩

/-- What a path's window shows depends on the windows alone. -/
theorem State.windowPath_congr {s t : State} (hpcie : t.keeper.flash.pcie = s.keeper.flash.pcie)
    (hmgmt : t.keeper.flash.mgmt = s.keeper.flash.mgmt) (p : Path) : t.windowPath p = s.windowPath p := by
  cases p
  · exact hpcie
  · exact hmgmt

/-- Beginning an operation flags a sector at most: the queued operations, the windows and the words stand. -/
@[simp] theorem State.beginOp_flash (s : State) (op : KOp) :
    (s.beginOp op).keeper.flash.ops = s.keeper.flash.ops ∧ (s.beginOp op).keeper.flash.words = s.keeper.flash.words ∧
    (s.beginOp op).keeper.flash.pcie = s.keeper.flash.pcie ∧ (s.beginOp op).keeper.flash.mgmt = s.keeper.flash.mgmt := by
  unfold State.beginOp
  split <;> exact ⟨rfl, rfl, rfl, rfl⟩

/-- The code of an operation in a window (Table 20-2). -/
def KOpKind.code : KOpKind → Nat
  | .word => 1
  | .buffer => 2
  | .erase => 3

/-- An operation stands in the queue, and its path is busy with it. -/
def State.queueKOp (s : State) (op : KOp) : State :=
  { s.setWindowPath op.path { s.windowPath op.path with writes := [], busy := true, op := KOpKind.code op.kind, error := 0 } with
    keeper.flash.ops := s.keeper.flash.ops ++ [op] }

theorem State.queueKOp_fields (s : State) (op : KOp) :
    (s.queueKOp op).keeper.flash.ops = s.keeper.flash.ops ++ [op] ∧
    (s.queueKOp op).windowPath op.path =
      { s.windowPath op.path with writes := [], busy := true, op := KOpKind.code op.kind, error := 0 } ∧
    (s.queueKOp op).keeper.flash.words = s.keeper.flash.words := by
  obtain ⟨p, kind, a, ws⟩ := op
  cases p <;> exact ⟨rfl, rfl, rfl⟩

theorem State.submitOp_eq {s : State} {op : KOp} (hopen : s.windowOpens op.path (op.addr / 0x10000) = true)
    (hroom : s.keeper.flash.ops.length < 3) :
    s.submitOp op = if s.keeper.flash.ops.isEmpty then (s.queueKOp op).beginOp op else s.queueKOp op := by
  have hlen : ¬ 3 ≤ s.keeper.flash.ops.length := by omega
  simp only [State.submitOp, hopen, hlen, Bool.not_true, Bool.false_eq_true, decide_false, if_false]
  obtain ⟨p, kind, a, ws⟩ := op
  cases p <;> cases kind <;> rfl

/-- An operation that its window opens and that finds fewer than three waits its turn, and its path is busy with it. -/
theorem State.submitOp_accepted {s : State} {op : KOp} (hopen : s.windowOpens op.path (op.addr / 0x10000) = true)
    (hroom : s.keeper.flash.ops.length < 3) :
    (s.submitOp op).keeper.flash.ops = s.keeper.flash.ops ++ [op] ∧
    (s.submitOp op).windowPath op.path =
      { s.windowPath op.path with writes := [], busy := true, op := KOpKind.code op.kind, error := 0 } ∧
    (s.submitOp op).keeper.flash.words = s.keeper.flash.words := by
  rw [State.submitOp_eq hopen hroom]
  split
  · obtain ⟨hops, hwords, hpcie, hmgmt⟩ := (s.queueKOp op).beginOp_flash op
    rw [hops, hwords, State.windowPath_congr hpcie hmgmt]
    exact s.queueKOp_fields op
  · exact s.queueKOp_fields op

/-- A window error ends the sequence under way and shows its code. -/
theorem State.windowPath_windowError (s : State) (p : Path) (code : Nat) :
    (s.windowError p code).windowPath p = { s.windowPath p with writes := [], error := code } :=
  s.windowPath_setWindowPath p _

/-! ### Sectors, words and retries -/

@[simp] theorem State.sector_setSector (s : State) (n : Nat) (x : Sector) : (s.setSector n x).sector n = x := by
  simp [State.sector, State.setSector]

/-- Counting an erase adds one to the sector's erases, whose last start is then done. -/
theorem State.sector_countErase (s : State) (n : Nat) :
    (s.countErase n).sector n = { s.sector n with erases := (s.sector n).erases + 1, done := (s.sector n).started } := by
  simp [State.countErase, State.sector, State.setSector]

theorem State.countErase_flash (s : State) (n : Nat) :
    (s.countErase n).keeper.flash.words = s.keeper.flash.words ∧ (s.countErase n).keeper.flash.pendingErase = s.keeper.flash.pendingErase := by
  simp [State.countErase, State.setSector]

/-- The flag of a start changes neither the erases nor whether the sector is retired. -/
theorem State.sector_flagStarted (s : State) (n : Nat) : ((s.flagStarted n).sector n).erases = (s.sector n).erases := by
  unfold State.flagStarted
  rw [State.sector_setSector]
  split <;> rfl

/-- Counting retries leaves the operations, the words, the sectors and the windows. -/
@[simp] theorem State.countRetries_flash (s : State) (n : Nat) :
    (s.countRetries n).keeper.flash.ops = s.keeper.flash.ops ∧ (s.countRetries n).keeper.flash.words = s.keeper.flash.words ∧
    (s.countRetries n).keeper.flash.sectors = s.keeper.flash.sectors ∧ (s.countRetries n).keeper.flash.pcie = s.keeper.flash.pcie ∧
    (s.countRetries n).keeper.flash.mgmt = s.keeper.flash.mgmt := by
  simp only [State.countRetries]
  (repeat' split) <;> simp

theorem State.flashWord_setFlashWord (s : State) (w v : Nat) : (s.setFlashWord w v).flashWord w = v := by
  unfold State.flashWord State.setFlashWord
  dsimp only
  split
  · next h => rw [AMap.get?_del_self, h]; rfl
  · rw [AMap.get?_set_self]; rfl

/-- Keeping the entries of a map whose keys pass a test leaves nothing under a key that fails it. -/
theorem AMap.get?_filter_key_none {α : Type} (m : AMap α) (p : Nat → Bool) (k : Nat) (h : p k = false) :
    AMap.get? (m.filter (fun e => p e.1)) k = none := by
  induction m with
  | nil => rfl
  | cons e m ih =>
    obtain ⟨j, w⟩ := e
    by_cases hj : p j = true
    · have hne : ¬ j = k := by rintro rfl; simp [hj] at h
      simp [List.filter, hj, AMap.get?, ih, hne]
    · simpa [List.filter, hj] using ih

/-- After the erase of a sector each of its words reads all ones. -/
theorem State.flashWord_eraseSector (s : State) (n w : Nat) (h : w / 0x4000 = n) : (s.eraseSector n).flashWord w = 0xFFFFFFFF := by
  unfold State.flashWord State.eraseSector
  dsimp only
  rw [(State.countErase_flash _ n).1, AMap.get?_filter_key_none s.keeper.flash.words (fun k => k / 0x4000 != n) w (by simp [h])]
  rfl

/-! ### The end of an operation -/

/-- The queued operation at the front has ended with this error code: its path is idle, and the next one begins. -/
def State.endKOp (s : State) (p : Path) (rest : List KOp) (e : Nat) : State :=
  let s := { s.setWindowPath p { s.windowPath p with busy := false, op := 0, error := e } with keeper.flash.ops := rest }
  match rest with
  | next :: _ => s.beginOp next
  | [] => s

theorem State.endKOp_fields (s : State) (p : Path) (rest : List KOp) (e : Nat) :
    (s.endKOp p rest e).keeper.flash.ops = rest ∧ (s.endKOp p rest e).keeper.flash.words = s.keeper.flash.words ∧
    (s.endKOp p rest e).windowPath p = { s.windowPath p with busy := false, op := 0, error := e } := by
  unfold State.endKOp
  cases rest with
  | nil => cases p <;> exact ⟨rfl, rfl, rfl⟩
  | cons next rest =>
    dsimp only
    have hbegin := State.beginOp_flash
    refine ⟨(hbegin _ _).1, ?_, ?_⟩
    · rw [(hbegin _ _).2.1]
      cases p <;> rfl
    · rw [State.windowPath_congr (hbegin _ _).2.2.1 (hbegin _ _).2.2.2]
      cases p <;> rfl

/-- The row of a keeper-flash operation's end, with the state that ends it named. -/
theorem exec_keeperFlashOpComplete {s : State} {op : KOp} {rest : List KOp} (hops : s.keeper.flash.ops = op :: rest)
    (hrun : s.keeperRuns = true) (retries : Nat) :
    exec (.keeperFlashOpComplete retries true) s = .next
      (let t := s.countRetries (min 4 retries)
       if op.kind = .erase then (t.eraseSector (op.addr / 0x10000)).endKOp op.path rest 0
       else if t.wouldSet (op.addr / 4) op.words then t.endKOp op.path rest 3
       else (t.programWords (op.addr / 4) op.words).endKOp op.path rest 0) := by
  refine congrArg Host.Outcome.next ?_
  rw [hops]
  simp only [hrun, Bool.not_true, Bool.false_eq_true, if_false, if_true]
  rfl

theorem State.windowPath_countRetries (s : State) (p : Path) (n : Nat) : (s.countRetries n).windowPath p = s.windowPath p := by
  obtain ⟨-, -, -, hpcie, hmgmt⟩ := s.countRetries_flash n
  exact State.windowPath_congr hpcie hmgmt p

theorem State.flashWord_countRetries (s : State) (n w : Nat) : (s.countRetries n).flashWord w = s.flashWord w := by
  simp [State.flashWord]

theorem State.flashWord_endKOp (s : State) (p : Path) (rest : List KOp) (e w : Nat) :
    (s.endKOp p rest e).flashWord w = s.flashWord w := by
  obtain ⟨-, hwords, -⟩ := s.endKOp_fields p rest e
  simp [State.flashWord, hwords]

/-- The end of an operation shows its error code and an idle path. -/
theorem State.endKOp_idle (s : State) (p : Path) (rest : List KOp) (e : Nat) :
    (s.endKOp p rest e).keeper.flash.ops = rest ∧ ((s.endKOp p rest e).windowPath p).busy = false ∧
    ((s.endKOp p rest e).windowPath p).error = e := by
  obtain ⟨hops, -, hpath⟩ := s.endKOp_fields p rest e
  simp [hops, hpath]

/-! ### The rotating log -/

/-- The list with `f` applied to its first event record. -/
def mapFirstEvent (f : LogRecord → LogRecord) : List LogRecord → List LogRecord
  | [] => []
  | r :: rs => if r.kind == 1 then f r :: rs else r :: mapFirstEvent f rs

/-- The pass of `updNewestEvent` over a list, newest first: once an event has been changed, the rest stands. -/
theorem foldl_mapFirstEvent (f : LogRecord → LogRecord) (l acc : List LogRecord) (found : Bool) :
    l.foldl (fun (acc : List LogRecord × Bool) r =>
      if !acc.2 && r.kind == 1 then (f r :: acc.1, true) else (r :: acc.1, acc.2)) (acc, found) =
    (if found then (l.reverse ++ acc, true) else ((mapFirstEvent f l).reverse ++ acc, l.any (fun r => r.kind == 1))) := by
  induction l generalizing acc found with
  | nil => cases found <;> rfl
  | cons r l ih =>
    rw [List.foldl_cons, ih]
    cases found with
    | true => simp
    | false => by_cases hr : r.kind = 1 <;> simp [mapFirstEvent, hr]

/-- The first event of the changed list is the change of the first event. -/
theorem find?_mapFirstEvent {f : LogRecord → LogRecord} (hf : ∀ r, (f r).kind = r.kind) (l : List LogRecord) :
    (mapFirstEvent f l).find? (fun r => r.kind == 1) = (l.find? (fun r => r.kind == 1)).map f := by
  induction l with
  | nil => rfl
  | cons r l ih => by_cases hr : r.kind = 1 <;> simp [mapFirstEvent, hr, hf, ih]

/-- A change that keeps a record's kind changes the newest event. -/
theorem State.newestEvent_updNewestEvent (s : State) {f : LogRecord → LogRecord} (hf : ∀ r, (f r).kind = r.kind) :
    (s.updNewestEvent f).newestEvent = s.newestEvent.map f := by
  simp only [State.updNewestEvent, foldl_mapFirstEvent, State.newestEvent, List.append_nil, Bool.false_eq_true, if_false]
  split
  · next hany =>
    obtain ⟨r, hr, hkind⟩ := List.any_eq_true.1 hany
    have hsome : (s.keeper.flash.ram.reverse.find? (fun r => r.kind == 1)).isSome = true :=
      List.find?_isSome.2 ⟨r, hr, hkind⟩
    obtain ⟨x, hx⟩ := Option.isSome_iff_exists.1 hsome
    simp [List.find?_append, find?_mapFirstEvent hf, hx]
  · next hany =>
    have hnone : s.keeper.flash.ram.reverse.find? (fun r => r.kind == 1) = none := by
      rw [List.find?_eq_none]
      intro r hr hkind
      exact hany (List.any_eq_true.2 ⟨r, hr, hkind⟩)
    simp [List.find?_append, find?_mapFirstEvent hf, hnone]

/-- Where the pool has two sectors and the newest has room, the head stands. -/
theorem State.logHead_room {s : State} (hpool : 2 ≤ s.rd R.KEEPER_FLASH_WEAR_LOG_POOL)
    (hroom : s.keeper.flash.log.length < s.keeper.flash.logSectors.length * 1024) : s.logHead = some s := by
  have hp : ¬ s.rd R.KEEPER_FLASH_WEAR_LOG_POOL < 2 := by omega
  have hr : ¬ s.keeper.flash.logSectors.length * 1024 ≤ s.keeper.flash.log.length := by omega
  simp only [State.logHead, hp, hr, if_false]

/-- The log's first waiting record has been taken, and its token with it. -/
def State.logTaken (s : State) (r : LogRecord) : State :=
  { s with keeper.flash.ram := s.keeper.flash.ram.drop 1
           keeper.flash.tokens := if r.kind = 1 then s.logTokens - sec 1 else s.logTokens
           keeper.flash.tokensAt := s.now }

/-- The appended record takes the next SEQ, which LOG_HEAD then shows. -/
theorem State.appendLog_fields (s : State) (r : LogRecord) :
    (s.appendLog r).keeper.flash.log = s.keeper.flash.log ++ [{ r with seq := s.keeper.flash.nextSeq }] ∧
    (s.appendLog r).keeper.flash.ram = s.keeper.flash.ram ∧
    (s.appendLog r).rd R.KEEPER_LOG_HEAD_SEQ = s.keeper.flash.nextSeq % 2 ^ 32 := by
  refine ⟨by simp [State.appendLog], by simp [State.appendLog], ?_⟩
  simp only [State.appendLog]
  rw [State.rd_wr_ne _ _ (by decide), State.rd_wr_self]
  rfl

/-! ### Selecting a record -/

/-- Showing a record writes its words to the data registers alone. -/
theorem State.rdN_showRecord (s : State) (r : LogRecord) {f : Fld} (h : Fld.clearOf R.KEEPER_LOG_DATA_DATA f = true) (n : Nat) :
    (s.showRecord r).rdN f n = s.rdN f n :=
  State.foldl_keep (fun s => s.rdN f n) _ _ _ (fun s _ => State.rdN_wrN_clearOf s _ _ _ h)

theorem leNat_leBytes (n v : Nat) : leNat (leBytes n v) = v % 256 ^ n := by
  induction n generalizing v with
  | zero => simp [leBytes, leNat, Nat.mod_one]
  | succ n ih =>
    have hbyte : (BitVec.ofNat 8 v).toNat = v % 256 := BitVec.toNat_ofNat v 8
    rw [leBytes, leNat, ih, hbyte, Nat.pow_succ', Nat.mod_mul]

theorem length_leBytes (n v : Nat) : (leBytes n v).length = n := by
  induction n generalizing v with
  | zero => rfl
  | succ n ih => simp [leBytes, ih]

/-- A fold whose steps over the list's members keep a part of the state keeps it. -/
theorem State.foldl_keep_of_mem {α β : Type} (g : State → β) (f : State → α → State) (l : List α) (s : State)
    (h : ∀ x ∈ l, ∀ s, g (f s x) = g s) : g (l.foldl f s) = g s := by
  induction l generalizing s with
  | nil => rfl
  | cons a l ih =>
    rw [List.foldl_cons, ih _ (fun x hx => h x (List.mem_cons_of_mem a hx)), h a List.mem_cons_self]

/-- The first word of a record is its SEQ. -/
theorem LogRecord.wordsOf_bytes (r : LogRecord) : ∃ ws, wordsOf r.bytes 16 = r.seq % 2 ^ 32 :: ws := by
  have hbytes : ∃ bs, r.bytes = leBytes 4 r.seq ++ bs := by
    unfold LogRecord.bytes
    simp only [List.append_assoc]
    exact ⟨_, rfl⟩
  obtain ⟨bs, hbs⟩ := hbytes
  have hlength : (leBytes 4 r.seq).length = 4 := length_leBytes 4 r.seq
  have htake : r.bytes.take 4 = leBytes 4 r.seq := by
    rw [hbs, List.take_append_of_le_length (Nat.le_of_eq hlength.symm), List.take_of_length_le (Nat.le_of_eq hlength)]
  refine ⟨wordsOf (r.bytes.drop 4) 15, ?_⟩
  exact congrArg (· :: wordsOf (r.bytes.drop 4) 15) ((congrArg leNat htake).trans (leNat_leBytes 4 r.seq))

/-- The first data register shows the record's SEQ. -/
theorem State.rdN_showRecord_first (s : State) (r : LogRecord) :
    (s.showRecord r).rdN R.KEEPER_LOG_DATA_DATA 0 = r.seq % 2 ^ 32 := by
  obtain ⟨ws, hws⟩ := LogRecord.wordsOf_bytes r
  have hrange : List.range 16 = 0 :: (List.range 15).map (· + 1) := by decide
  simp only [State.showRecord, hws, hrange, List.zip_cons_cons, List.foldl_cons]
  rw [State.foldl_keep_of_mem (fun s => s.rdN R.KEEPER_LOG_DATA_DATA 0), State.rdN_wrN_self]
  · exact Nat.mod_mod _ _
  · intro x hx s
    obtain ⟨i, hi, hxi⟩ := List.mem_map.1 (List.of_mem_zip (a := x.1) (b := x.2) hx).1
    have hlt := List.mem_range.1 hi
    exact State.rdN_wrN_ne s _ (Fld.key_ne_of_ne (by decide) (by rw [← hxi]; exact Nat.succ_lt_succ hlt) (by decide) (by omega))

/-- The counters a keeper-log record of a counter carries are those that stand (R429). -/
theorem State.counter_setCounter (s : State) (id v : Nat) : (s.setCounter id v).counter id = v := by
  simp [State.setCounter, State.queueLog, State.counter, State.newLogRecord]

theorem State.setCounter_regs (s : State) (id v : Nat) : (s.setCounter id v).regs = s.regs := by
  simp [State.setCounter, State.queueLog, State.newLogRecord]


/-- Settles O19: the rows of the windows, of the operations' ends and of the log, each through its equation above. -/
theorem keeperFlashAndLog : Obligations.KeeperFlashAndLog := by
  unfold Obligations.KeeperFlashAndLog
  refine ⟨?wordProgram, ?bufferProgram, ?sectorErase, ?abort, ?gap, ?wordEnd, ?eraseEnd, ?append, ?repeatSlot, ?logErase, ?select,
    ?selectNone, ?hours⟩
  case wordProgram =>
    intro s p off word hpath hopen hroom
    obtain ⟨hops, hwin, hwords⟩ := State.submitOp_accepted (op := ⟨p, .word, s.windowAddr p (off / 4 * 4), [word % 2 ^ 32]⟩) hopen hroom
    exact ⟨_, congrArg Host.Outcome.next (if_pos hpath), hops, by rw [hwin], by rw [hwin]; rfl, by rw [hwin], hwords⟩
  case bufferProgram =>
    intro s p off words hpath hne hlen hopen hroom
    obtain ⟨hops, hwin, -⟩ :=
      State.submitOp_accepted (op := ⟨p, .buffer, s.windowAddr p (off / 4 * 4), words.map (· % 2 ^ 32)⟩) hopen hroom
    have hfit : ¬ 64 < off % 64 / 4 * 4 + 4 * words.length := by omega
    refine ⟨_, congrArg Host.Outcome.next (?_ : _ = s.submitOp _), hops, by rw [hwin], by rw [hwin]; rfl, by rw [hwin]⟩
    simp [hpath, hne, hfit]
  case sectorErase =>
    intro s p off hpath hopen hroom
    have haligned : s.windowAddr p off / 0x10000 * 0x10000 / 0x10000 = s.windowAddr p off / 0x10000 := by omega
    obtain ⟨hops, hwin, -⟩ := State.submitOp_accepted (op := ⟨p, .erase, s.windowAddr p off / 0x10000 * 0x10000, []⟩)
      (by rw [haligned]; exact hopen) hroom
    exact ⟨_, congrArg Host.Outcome.next (if_pos hpath), hops, by rw [hwin], by rw [hwin]; rfl, by rw [hwin]⟩
  case abort =>
    intro s p hpath
    exact ⟨_, congrArg Host.Outcome.next (if_pos hpath), by simp, by simp, by simp⟩
  case gap =>
    intro s p hrun hwrites hlate
    refine ⟨s.windowError p 2, congrArg Host.Outcome.next (if_pos ?_), ?_, ?_⟩
    · simp [hrun, hwrites, hlate]
    · rw [State.windowPath_windowError]
    · rw [State.windowPath_windowError]
  case wordEnd =>
    intro s p a v retries rest hrun hops hclear
    have hset : (s.countRetries (min 4 retries)).wouldSet (a / 4) [v] = false := by
      simp [State.wouldSet, State.flashWord_countRetries, hclear]
    refine ⟨_, exec_keeperFlashOpComplete hops hrun retries, ?_⟩
    simp only [hset, reduceCtorEq, Bool.false_eq_true, if_false]
    obtain ⟨hrest, hidle, herror⟩ :=
      State.endKOp_idle ((s.countRetries (min 4 retries)).programWords (a / 4) [v]) p rest 0
    refine ⟨hrest, ?_, hidle, herror⟩
    rw [State.flashWord_endKOp]
    simp only [State.programWords, State.flashWord_setFlashWord, State.flashWord_countRetries, hclear]
  case eraseEnd =>
    intro s p a retries rest hrun hops
    refine ⟨_, exec_keeperFlashOpComplete hops hrun retries, ?_⟩
    simp only [if_true]
    obtain ⟨hrest, hidle, herror⟩ := State.endKOp_idle ((s.countRetries (min 4 retries)).eraseSector (a / 0x10000)) p rest 0
    refine ⟨hrest, fun w hw => ?_, hidle, herror⟩
    rw [State.flashWord_endKOp, State.flashWord_eraseSector _ _ _ hw]
  case append =>
    intro s r rest hrun hram htokens hpool hroom
    have hready : (r.kind == 1 && decide (s.logTokens < sec 1)) = false := by
      have : ¬ s.logTokens < sec 1 := by omega
      simp [this]
    obtain ⟨hlog, hrest, hhead⟩ := (s.logTaken r).appendLog_fields r
    have hexec : exec .keeperLogAppend s = .next ((s.logTaken r).appendLog r) := by
      refine congrArg Host.Outcome.next ?_
      simp only [hram, hrun, hready, State.logHead_room hpool hroom, Bool.not_true, Bool.false_or, Bool.false_eq_true, if_false]
      simp only [State.logTaken, hram]
    exact ⟨_, hexec, hrest.trans (by simp [State.logTaken, hram]), hlog, hhead⟩
  case repeatSlot =>
    intro s f r hrun hflood hunwritten hlast hnewest hslots hcount
    have hexec : exec .repeatSlotTimer s = .next { s.updNewestEvent (fun r => { r with slots := r.slots ++ [f.count] }) with
        keeper.flash.flood := some { f with unwritten := false, lastSlot := s.now } } := by
      refine congrArg Host.Outcome.next ?_
      simp [hflood, hrun, hunwritten, hlast, hnewest, hslots, hcount]
    refine ⟨_, hexec, ?_, rfl⟩
    · have h := s.newestEvent_updNewestEvent (f := fun r => { r with slots := r.slots ++ [f.count] }) (fun _ => rfl)
      rw [hnewest] at h
      exact h
  case logErase =>
    intro s n retries rest hrun hpending
    have hexec : exec (.logSectorErase retries true) s = .next
        (State.eraseSector { (s.flagStarted n).countRetries (min 4 retries) with keeper.flash.pendingErase := rest } n) := by
      refine congrArg Host.Outcome.next ?_
      simp only [hpending, hrun, if_true]
    refine ⟨_, hexec, ?_, ?_, ?_⟩
    · rw [State.eraseSector, (State.countErase_flash _ n).2]
    · rw [State.eraseSector, State.sector_countErase]
      have hsectors := ((s.flagStarted n).countRetries_flash (min 4 retries)).2.2.1
      have hflag := s.sector_flagStarted n
      unfold State.sector at hflag ⊢
      rw [← hflag, ← hsectors]
    · rw [State.eraseSector, State.sector_countErase]
  case select =>
    intro s p q r hpath hfind
    have hfound : (s.wr R.KEEPER_LOG_SEL_SEQ q).keeper.flash.log.find? (fun x => x.seq == q % 2 ^ 32) = some r := by simpa using hfind
    have hexec : exec (.logRecordSelect p q) s =
        .next (((s.wr R.KEEPER_LOG_SEL_SEQ q).showRecord r).wr R.KEEPER_LOG_STATUS_STATE 2) := by
      refine congrArg Host.Outcome.next ?_
      rw [if_pos hpath]
      simp only [State.selectRecord, hfound]
    refine ⟨_, hexec, State.rd_wr_self .., ?_, ?_⟩
    · rw [State.rd_wr_ne _ _ (by decide)]
      exact (State.rdN_showRecord _ _ (by decide) 0).trans (State.rd_wr_self ..)
    · rw [State.wr, State.rdN_wrN_clearOf _ _ _ _ (by decide), State.rdN_showRecord_first]
  case selectNone =>
    intro s p q hpath hfind
    have hfound : (s.wr R.KEEPER_LOG_SEL_SEQ q).keeper.flash.log.find? (fun x => x.seq == q % 2 ^ 32) = none := by simpa using hfind
    have hexec : exec (.logRecordSelect p q) s = .next ((s.wr R.KEEPER_LOG_SEL_SEQ q).wr R.KEEPER_LOG_STATUS_STATE 3) := by
      refine congrArg Host.Outcome.next ?_
      rw [if_pos hpath]
      simp only [State.selectRecord, hfound]
    refine ⟨_, hexec, State.rd_wr_self .., ?_⟩
    rw [State.rd_wr_ne _ _ (by decide)]
    exact State.rd_wr_self ..
  case hours =>
    intro s hpower hdue
    exact ⟨_, congrArg Host.Outcome.next (if_pos (by simp [hpower, hdue])), s.counter_setCounter 1 _, rfl, s.setCounter_regs 1 (s.counter 1 + 1)⟩

end Sys2Proof.Machine

/-! How a command stands in flight, through the pieces that a row runs before it ends the command. -/

namespace Sys2Proof.Machine

open Sys2Proof

/-- Command `id` is in flight on a ring that is still there. -/
def State.Live (s : State) (id : Nat) : Prop := ∃ d, s.cmds.find? (fun e => e.id == id) = some d ∧ d.orphan = false

theorem State.Live.congr {s t : State} {id : Nat} (h : s.Live id) (hcmds : t.cmds = s.cmds) : t.Live id := by
  unfold State.Live
  rw [hcmds]
  exact h

theorem State.live_accepted {s : State} {r : CmdRef} {op : Nat} {c : Cmd} (h : Accepts s r op c) : (s.accepted c).Live c.id := by
  obtain ⟨-, -, -, -, -, -, -, horphan⟩ := id h
  exact ⟨_, State.find?_accepted h, horphan⟩

theorem State.find?_updCmd_any (s : State) (k id : Nat) {f : Cmd → Cmd} (hid : ∀ c, (f c).id = c.id) :
    (s.updCmd k f).cmds.find? (fun d => d.id == id) =
      (s.cmds.find? (fun d => d.id == id)).map (fun c => if c.id = k then f c else c) := by
  have hsame : ((fun d : Cmd => d.id == id) ∘ fun c => if c.id = k then f c else c) = fun d => d.id == id := by
    funext c
    by_cases hc : c.id = k <;> simp [hc, hid]
  rw [← hsame, ← List.find?_map, hsame]
  rfl

/-- A change of commands that keeps their ids and orphans none keeps a command in flight. -/
theorem State.Live.updCmd {s : State} {id : Nat} (h : s.Live id) (k : Nat) {f : Cmd → Cmd} (hid : ∀ c, (f c).id = c.id)
    (horphan : ∀ c, (f c).orphan = c.orphan) : (s.updCmd k f).Live id := by
  obtain ⟨d, hd, ho⟩ := h
  refine ⟨if d.id = k then f d else d, by rw [State.find?_updCmd_any s k id hid, hd]; rfl, ?_⟩
  split
  · exact (horphan d).trans ho
  · exact ho

/-- A command in flight ends as it is told. -/
theorem State.Live.ended {s : State} {c : Cmd} (h : s.Live c.id) (st de re : Nat) : Ended (s.endCmd c.id st de re) c st de re := by
  obtain ⟨d, hd, ho⟩ := h
  exact State.ended_endCmd hd ho st de re

theorem State.Live.ended_finish {s : State} {c : Cmd} (h : s.Live c.id) (st : Nat) : Ended (s.finish c.id st) c st 0 0 :=
  h.ended st 0 0

/-- The end of a command in flight writes the commands alone. -/
theorem State.Live.endCmd_eq {s : State} {id : Nat} (h : s.Live id) (st de re : Nat) :
    s.endCmd id st de re = s.updCmd id (fun c => { c with phase := .ended, status := st, detail := de, result := re }) := by
  obtain ⟨d, hd, ho⟩ := h
  exact State.endCmd_eq hd ho st de re

/-! ### The twin's state under what is sent -/

/-- The twin's state without the frame that is packed, its deadline, the frames kept, and the link's sequence and credit: what sending an
item cannot write. -/
def Twin.unsent (k : Twin) : Twin := { k with frame := [], frameAt := none, txSeq := 0, credit := 0, replayBuf := [] }

/-- Two states of the twin unit that agree in everything but what sending an item writes. -/
abbrev Twin.Agrees (k l : Twin) : Prop :=
  k.peer = l.peer ∧ k.peerDigest = l.peerDigest ∧ k.pairKey = l.pairKey ∧ k.holder = l.holder ∧ k.recorded = l.recorded ∧
  k.leaseEnd = l.leaseEnd ∧ k.viewEnd = l.viewEnd ∧ k.lastRenewSeen = l.lastRenewSeen ∧ k.sent = l.sent ∧ k.acked = l.acked ∧
  k.accepted = l.accepted ∧ k.unacked = l.unacked ∧ k.commands = l.commands ∧ k.nextCommand = l.nextCommand ∧ k.cut = l.cut ∧
  k.rxSeq = l.rxSeq ∧ k.txKey = l.txKey ∧ k.rxKey = l.rxKey ∧ k.assayKey = l.assayKey ∧ k.discarding = l.discarding ∧
  k.replays = l.replays ∧ k.lastFrame = l.lastFrame ∧ k.partials = l.partials ∧ k.diverged = l.diverged ∧
  k.localCommands = l.localCommands ∧ k.resync = l.resync ∧ k.assayOpen = l.assayOpen ∧ k.assayMine = l.assayMine ∧
  k.assayPeer = l.assayPeer ∧ k.recent = l.recent ∧ k.shadows = l.shadows ∧ k.tie = l.tie ∧ k.copying = l.copying ∧
  k.yield = l.yield ∧ k.handover = l.handover ∧ k.opening = l.opening ∧ k.refused = l.refused ∧ k.announce = l.announce ∧
  k.stopped = l.stopped ∧ k.homeSince = l.homeSince ∧ k.peerStatus = l.peerStatus ∧ k.trainAt = l.trainAt ∧
  k.statusAt = l.statusAt ∧ k.renewAt = l.renewAt ∧ k.witnessAt = l.witnessAt ∧ k.grantAt = l.grantAt ∧ k.cursorAt = l.cursorAt ∧
  k.reads = l.reads ∧ k.forcing = l.forcing ∧ k.ident = l.ident ∧ k.resyncDue = l.resyncDue ∧ k.unanswered = l.unanswered ∧
  k.ingress = l.ingress ∧ k.width = l.width ∧ k.forceTag = l.forceTag ∧ k.quiesceAfter = l.quiesceAfter

theorem Twin.agrees_of_unsent {k l : Twin} (h : k.unsent = l.unsent) : k.Agrees l := by
  simp only [Twin.unsent, Twin.mk.injEq] at h
  simp only [Twin.Agrees]
  simp [h]

theorem State.unsent_flushFrame (s : State) : s.flushFrame.twin.unsent = s.twin.unsent := by
  unfold State.flushFrame
  split
  · rfl
  · simp [Twin.unsent]

theorem State.unsent_packItem (s : State) (i : BrazeItem) : (s.packItem i).twin.unsent = s.twin.unsent := by
  have hflush := s.unsent_flushFrame
  simp only [Twin.unsent] at hflush ⊢
  simp only [State.packItem]
  split
  · exact hflush
  · rfl

theorem State.unsent_sendItem (s : State) (i : BrazeItem) : (s.sendItem i).twin.unsent = s.twin.unsent := by
  unfold State.sendItem
  split
  · rw [State.unsent_flushFrame]
    exact State.foldl_keep (fun s => s.twin.unsent) _ _ _ State.unsent_packItem
  · rfl

@[simp] theorem State.sendItem_agrees (s : State) (i : BrazeItem) : (s.sendItem i).twin.Agrees s.twin :=
  Twin.agrees_of_unsent (s.unsent_sendItem i)

/-! ### What the mirroring of a command leaves -/

theorem State.Live.sendCommand {s : State} {id : Nat} (h : s.Live id) (k : Option Nat) (m : MirrorCommand) :
    (s.sendCommand k m).Live id := h.congr (by simp [State.sendCommand])

theorem State.Live.mirrorCommand {s : State} {id : Nat} (h : s.Live id) (c : Cmd) (ps : List Nat) : (s.mirrorCommand c ps).Live id := by
  unfold State.mirrorCommand
  split
  · exact h
  · split
    · exact (h.sendCommand _ _).updCmd _ (fun _ => rfl) (fun _ => rfl)
    · exact h.congr rfl

theorem State.Live.clamped {s : State} {id : Nat} (h : s.Live id) (k : Nat) : (s.clamped k).Live id := h.congr (by simp)

/-- The mirroring of a command writes the twin's state, the frames sent, and the command it waits for. -/
@[simp] theorem State.mirrorCommand_keeps (s : State) (c : Cmd) (ps : List Nat) :
    (s.mirrorCommand c ps).regs = s.regs ∧ (s.mirrorCommand c ps).captures = s.captures ∧ (s.mirrorCommand c ps).keyRegs = s.keyRegs ∧
    (s.mirrorCommand c ps).time = s.time ∧ (s.mirrorCommand c ps).hub = s.hub ∧ (s.mirrorCommand c ps).rings = s.rings ∧
    (s.mirrorCommand c ps).msix = s.msix ∧ (s.mirrorCommand c ps).nextCmd = s.nextCmd ∧ (s.mirrorCommand c ps).rrNext = s.rrNext ∧
    (s.mirrorCommand c ps).armedEnd = s.armedEnd ∧ (s.mirrorCommand c ps).keeper = s.keeper ∧ (s.mirrorCommand c ps).fw = s.fw ∧
    (s.mirrorCommand c ps).start = s.start ∧ (s.mirrorCommand c ps).save = s.save ∧ (s.mirrorCommand c ps).prot = s.prot ∧
    (s.mirrorCommand c ps).eng = s.eng ∧ (s.mirrorCommand c ps).near = s.near ∧ (s.mirrorCommand c ps).dur = s.dur ∧
    (s.mirrorCommand c ps).ledger = s.ledger ∧ (s.mirrorCommand c ps).cerga = s.cerga ∧ (s.mirrorCommand c ps).roce = s.roce ∧
    (s.mirrorCommand c ps).shelf = s.shelf ∧ (s.mirrorCommand c ps).meter = s.meter ∧ (s.mirrorCommand c ps).mem = s.mem ∧
    (s.mirrorCommand c ps).domain = s.domain ∧ (s.mirrorCommand c ps).crypt = s.crypt ∧ (s.mirrorCommand c ps).pace = s.pace ∧
    (s.mirrorCommand c ps).ports = s.ports ∧ (s.mirrorCommand c ps).dram = s.dram ∧ (s.mirrorCommand c ps).flash = s.flash ∧
    (s.mirrorCommand c ps).integ = s.integ ∧ (s.mirrorCommand c ps).trace = s.trace ∧ (s.mirrorCommand c ps).free = s.free := by
  unfold State.mirrorCommand State.sendCommand
  (repeat' split) <;> simp

@[simp] theorem State.mirrorCommand_holder (s : State) (c : Cmd) (ps : List Nat) : (s.mirrorCommand c ps).twin.holder = s.twin.holder := by
  unfold State.mirrorCommand State.sendCommand
  (repeat' split) <;> simp

@[simp] theorem State.rdN_clamped (s : State) (k : Nat) {f : Fld} (h : Fld.clearOf R.RING_CLAMPS_COUNT f = true) (n : Nat) :
    (s.clamped k).rdN f n = s.rdN f n := by
  unfold State.clamped
  split
  · rfl
  · exact State.rdN_wrN_clearOf s _ _ _ h

/-! ### Command rows -/

/-- A row of a command that only the holder runs, where this side is the holder. -/
theorem State.ifHolder_of_holder {s : State} (h : s.twin.holder = true) (c : Cmd) (f : State → State) : s.ifHolder c f = f s := if_pos h

/-- A holder's command that is next to be accepted reaches its body. -/
theorem State.command_of_holder {s : State} {r : CmdRef} {op : Nat} {c : Cmd} (h : Accepts s r op c) (hholder : s.twin.holder = true)
    (body : Cmd → State → State) : s.command r op (fun c s => s.ifHolder c (body c)) = body c (s.accepted c) := by
  rw [State.command_of_accepts h]
  exact State.ifHolder_of_holder (by simpa using hholder) c _

end Sys2Proof.Machine

namespace Sys2Proof.Machine

open Sys2Proof

/-! ### Maps under a filter -/

/-- What a key holds stays where the filter takes it. -/
theorem AMap.get?_filter_of_some {α : Type} {m : AMap α} {p : Nat × α → Bool} {k : Nat} {v : α} (h : AMap.get? m k = some v)
    (hp : p (k, v) = true) : AMap.get? (m.filter p) k = some v := by
  induction m with
  | nil => simp at h
  | cons e m ih =>
    obtain ⟨j, w⟩ := e
    by_cases hj : j = k
    · subst hj
      have hw : w = v := by simpa [AMap.get?] using h
      subst hw
      simp [List.filter, hp, AMap.get?]
    · have hm : AMap.get? m k = some v := by simpa [AMap.get?, hj] using h
      by_cases hq : p (j, w) = true
      · simp [List.filter, hq, AMap.get?, hj, ih hm]
      · simp [List.filter, hq, ih hm]

theorem AMap.get?_eq_none_of_above {α : Type} {m : AMap α} {k : Nat} (hwf : AMap.wf m = true) (h : AMap.above k m = true) :
    AMap.get? m k = none := by
  induction m with
  | nil => rfl
  | cons e m ih =>
    obtain ⟨j, w⟩ := e
    simp only [AMap.above, decide_eq_true_eq] at h
    simp only [AMap.wf, Bool.and_eq_true] at hwf
    have hne : ¬ j = k := by omega
    simp only [AMap.get?, hne, if_false]
    exact ih hwf.2 (AMap.above_trans h m hwf.1)

/-- In a canonical map a key holds after a filter what it held, where the filter takes it. -/
theorem AMap.get?_filter_of_wf {α : Type} {m : AMap α} (hwf : AMap.wf m = true) (p : Nat × α → Bool) (k : Nat) :
    AMap.get? (m.filter p) k = (AMap.get? m k).filter (fun v => p (k, v)) := by
  induction m with
  | nil => rfl
  | cons e m ih =>
    obtain ⟨j, w⟩ := e
    simp only [AMap.wf, Bool.and_eq_true] at hwf
    by_cases hj : j = k
    · subst hj
      by_cases hq : p (j, w) = true
      · simp [List.filter, hq, AMap.get?, Option.filter]
      · have hnone := AMap.get?_eq_none_of_above (AMap.wf_filter p m hwf.2) (AMap.above_filter p j m hwf.2 hwf.1)
        simp [List.filter, hq, AMap.get?, hnone, Option.filter]
    · by_cases hq : p (j, w) = true
      · simp [List.filter, hq, AMap.get?, hj, ih hwf.2]
      · simp [List.filter, hq, AMap.get?, hj, ih hwf.2]

/-! ### Accounts -/

/-- Freeing keeps an account that is not closing. -/
theorem State.get?_freeAccounts {s : State} {k : Nat} {a : Account} (h : AMap.get? s.meter.accounts k = some a) (hopen : a.closing = false) :
    AMap.get? s.freeAccounts.meter.accounts k = some a := by
  simp only [State.freeAccounts, State.wr_keeps]
  exact AMap.get?_filter_of_some h (by simp [hopen])

/-- Freeing leaves under a key what it held or nothing. -/
theorem State.get?_freeAccounts_of_wf {s : State} (hwf : AMap.wf s.meter.accounts = true) (k : Nat) :
    AMap.get? s.freeAccounts.meter.accounts k = none ∨ AMap.get? s.freeAccounts.meter.accounts k = AMap.get? s.meter.accounts k := by
  simp only [State.freeAccounts, State.wr_keeps]
  rw [AMap.get?_filter_of_wf hwf]
  cases AMap.get? s.meter.accounts k with
  | none => exact .inl rfl
  | some a =>
    simp only [Option.filter_some]
    by_cases hkeep : (!(a.closing && !(AMap.has s.meter.current.charges k ||
        (match s.meter.settling with | some w => AMap.has w.charges k | none => false)))) = true
    · exact .inr (if_pos hkeep)
    · exact .inl (if_neg hkeep)

@[simp] theorem State.freeAccounts_cmds (s : State) : s.freeAccounts.cmds = s.cmds := by simp [State.freeAccounts]

theorem State.get?_createAccount (s : State) (k tenant : Nat) :
    AMap.get? (s.createAccount k tenant).meter.accounts k = some ⟨tenant, false⟩ :=
  State.get?_freeAccounts (AMap.get?_set_self ..) rfl

/-- A closed account is closing, or gone already. -/
theorem State.closeAccount_closing {s : State} {k : Nat} (hwf : AMap.wf s.meter.accounts = true) :
    ((AMap.get? (s.closeAccount k).meter.accounts k).map (·.closing)).getD true = true := by
  have hupd : AMap.wf (AMap.upd s.meter.accounts k (fun a => { a with closing := true })) = true := AMap.wf_upd _ _ _ hwf
  rcases State.get?_freeAccounts_of_wf
    (s := { s with meter.accounts := AMap.upd s.meter.accounts k (fun a => { a with closing := true }) }) hupd k with h | h
  · simp only [State.closeAccount, h]
    rfl
  · simp only [State.closeAccount, h]
    rw [AMap.get?_upd_self]
    cases AMap.get? s.meter.accounts k <;> rfl

/-! ### Where nothing waits -/

theorem State.moveWaiters_of_nil {s : State} (h : s.eng.waiting = []) : s.moveWaiters = s := by
  unfold State.moveWaiters
  rw [h]
  split <;> rfl

theorem State.drainPorts_of_nil {s : State} (h : s.ports.waiting = []) : s.drainPorts = s := by
  unfold State.drainPorts
  rw [h, List.foldl_nil, ← h]

theorem State.Live.bindAccount {s : State} {id : Nat} (h : s.Live id) (region : Bool) (target k : Nat) :
    (s.bindAccount region target k).Live id := by
  unfold State.bindAccount
  split <;> exact h.congr rfl

/-- An export ring is set up. -/
def State.setExport (s : State) (ring : Nat) (x : ExportSetup) : State := { s with meter.setups := AMap.set s.meter.setups ring x }

/-- Settles O35: each command reaches its body, which writes its table and ends the command. -/
theorem meterCommands : Obligations.MeterCommands := by
  unfold Obligations.MeterCommands
  refine ⟨?create, ?close, ?bind, ?setup, ?shaper⟩
  case create =>
    intro s r c account mode tenant k hacc hholder hmode hfree hk hnew
    have hlive := State.live_accepted hacc
    have hexec : exec (.accountCreate r account mode tenant) s = .next (((((s.accepted c).createAccount k tenant).mirrorCommand c
        [k, 0, tenant]).clamped (if 1 < mode then 1 else 0)).endCmd c.id St.DONE 0 (pack [(4, k)])) := by
      refine congrArg Host.Outcome.next ((State.command_of_holder hacc hholder _).trans ?_)
      simp [hmode, hfree, hk, hnew]
    have hcreated : ((s.accepted c).createAccount k tenant).Live c.id := hlive.congr (by simp [State.createAccount])
    refine ⟨_, hexec, ?_, ((hcreated.mirrorCommand c _).clamped _).ended _ _ _⟩
    simpa using (s.accepted c).get?_createAccount k tenant
  case close =>
    intro s r c account tenant k hacc hholder hk hne hopen hbound hwf
    have hlive := State.live_accepted hacc
    have hopen' : (s.accepted c).accountOpen k = true := by simpa [State.accountOpen] using hopen
    have hbound' : (s.accepted c).accountBound k = false := by simpa [State.accountBound] using hbound
    have hexec : exec (.accountCreate r account 1 tenant) s =
        .next ((((s.accepted c).closeAccount k).mirrorCommand c [k, 1, 0]).endCmd c.id St.DONE 0 (pack [(4, k)])) := by
      refine congrArg Host.Outcome.next ((State.command_of_holder hacc hholder _).trans ?_)
      simp [← hk, hne, hopen', hbound']
    have hclosed : ((s.accepted c).closeAccount k).Live c.id := hlive.congr (by simp [State.closeAccount])
    refine ⟨_, hexec, ?_, (hclosed.mirrorCommand c _).ended _ _ _⟩
    simpa using (s.accepted c).closeAccount_closing (k := k) (by simpa using hwf)
  case bind =>
    intro s r c kind target account hacc hholder hopen hthere
    have hlive := State.live_accepted hacc
    have hopen' : (s.accepted c).accountOpen (account % 65536) = true := by simpa [State.accountOpen] using hopen
    by_cases hkind : kind = 1
    · subst hkind
      obtain ⟨x, hx, hshelf⟩ : ∃ x, s.region? (target % 262144) = some x ∧ x.shelf = false := by
        cases hx : s.region? (target % 262144) <;> simp_all
      have hx' : (s.accepted c).region? (target % 262144) = some x := by simpa [State.region?] using hx
      have hexec : exec (.accountBind r 1 target account) s = .next (((((s.accepted c).bindAccount true (target % 262144)
          (account % 65536)).mirrorCommand c [1, target % 262144, account % 65536]).clamped 0).finish c.id St.DONE) := by
        refine congrArg Host.Outcome.next ((State.command_of_holder hacc hholder _).trans ?_)
        simp [hopen', hx', hshelf]
      refine ⟨_, hexec, (((hlive.bindAccount _ _ _).mirrorCommand c _).clamped _).ended_finish _, fun _ => ?_, fun h => absurd rfl h⟩
      have hbound : ((s.accepted c).bindAccount true (target % 262144) (account % 65536)).region? (target % 262144) =
          some { x with account := account % 65536 } := by
        simp only [State.region?, State.bindAccount, if_true] at hx' ⊢
        rw [AMap.get?_upd_self, hx']
        rfl
      simp only [State.region?] at hbound ⊢
      simp [State.finish, State.Live.endCmd_eq (((hlive.bindAccount _ _ _).mirrorCommand c _).clamped _), hbound]
    · have hpd : AMap.has s.prot.pds (target % 65536) = true := by simpa [hkind] using hthere
      obtain ⟨x, hx⟩ : ∃ x, AMap.get? s.prot.pds (target % 65536) = some x := Option.isSome_iff_exists.1 hpd
      have hexec : exec (.accountBind r kind target account) s = .next (((((s.accepted c).bindAccount false (target % 65536)
          (account % 65536)).mirrorCommand c [0, target % 65536, account % 65536]).clamped (if 1 < kind then 1 else 0)).finish
          c.id St.DONE) := by
        refine congrArg Host.Outcome.next ((State.command_of_holder hacc hholder _).trans ?_)
        have hb : (kind == 1) = false := by simpa using hkind
        simp [hb, hopen', hpd]
      refine ⟨_, hexec, (((hlive.bindAccount _ _ _).mirrorCommand c _).clamped _).ended_finish _, fun h => absurd h hkind, fun _ => ?_⟩
      have hbound : AMap.get? ((s.accepted c).bindAccount false (target % 65536) (account % 65536)).prot.pds (target % 65536) =
          some { x with account := account % 65536 } := by
        simp [State.bindAccount, AMap.get?_upd_self, hx]
      simp [State.finish, State.Live.endCmd_eq (((hlive.bindAccount _ _ _).mirrorCommand c _).clamped _), hbound]
  case setup =>
    intro s r c ring flags first last hacc hmeet
    have hlive := State.live_accepted hacc
    have hexec : exec (.meterExportSetup r ring flags first last) s = .next
        ((s.accepted c).setExport (min ring 3)
            ⟨flags.testBit 0, flags.testBit 1, flags.testBit 2, flags.testBit 3, first % 65536, last % 65536⟩ |>.clamped
          (moved ring (min ring 3)) |>.finish c.id St.DONE) := by
      refine congrArg Host.Outcome.next ((State.command_of_accepts hacc _).trans ?_)
      simp only [State.accepted_keeps, hmeet, Bool.false_eq_true, if_false]
      rfl
    have hset : ∀ x, ((s.accepted c).setExport (min ring 3) x).Live c.id := fun _ => hlive.congr rfl
    refine ⟨_, hexec, ((hset _).clamped _).ended_finish _, ?_⟩
    simp [State.finish, State.setExport]
  case shaper =>
    intro s r c pd opsRate opsBurst bytesRate burstKib hacc hholder hpd hwait hports
    have hlive := State.live_accepted hacc
    have hexec : ∀ o ob b bb, o = (if opsRate = 0 then 0 else clampTo 1000 100000000 opsRate) → ob = clampTo 1 1048576 opsBurst →
        b = (if bytesRate = 0 then 0 else clampTo 1 1600000 bytesRate) → bb = clampTo 64 1048576 burstKib →
        exec (.shaperSet r pd opsRate opsBurst bytesRate burstKib) s = .next (((((s.accepted c).setShaper (pd % 65536) o ob b
          (bb * 1024)).mirrorCommand c [pd % 65536, o, ob, b, bb * 1024]).clamped
          (moved opsRate o + moved opsBurst ob + moved bytesRate b + moved burstKib bb)).finish c.id St.DONE) := by
      rintro o ob b bb rfl rfl rfl rfl
      refine congrArg Host.Outcome.next ((State.command_of_holder hacc hholder _).trans ?_)
      simp only [State.accepted_keeps, hpd, Bool.not_true, Bool.false_eq_true, if_false]
      rw [State.moveWaiters_of_nil (by simp [State.finish, State.setShaper, hwait]),
        State.drainPorts_of_nil (by simp [State.finish, State.setShaper, hports])]
    have hset : ∀ o ob b bb, ((s.accepted c).setShaper (pd % 65536) o ob b bb).Live c.id := fun _ _ _ _ => hlive.congr rfl
    refine ⟨_, hexec _ _ _ _ rfl rfl rfl rfl, (((hset _ _ _ _).mirrorCommand c _).clamped _).ended_finish _, ?_⟩
    simp [State.finish, State.setShaper]

end Sys2Proof.Machine


/-! What a piece of the model leaves alone, part by part and field by field. A `Scope` names the parts and the register fields that a
piece may write; `Stays V s t` says that from `s` to `t` nothing outside `V` has changed. -/

namespace Sys2Proof.Machine

open Sys2Proof

section

/-! As the model's tests do, this part is checked in order: its many small proofs at once would want a thread each. -/

set_option Elab.async false

/-- A state, part by part. -/
def State.eta (s : State) : State :=
  ⟨s.regs, s.captures, s.keyRegs, s.time, s.hub, s.rings, s.msix, s.cmds, s.nextCmd, s.rrNext, s.armedEnd, s.keeper, s.fw, s.start,
    s.save, s.prot, s.eng, s.near, s.dur, s.ledger, s.cerga, s.roce, s.twin, s.shelf, s.meter, s.mem, s.domain, s.crypt, s.out, s.pace,
    s.ports, s.dram, s.flash, s.integ, s.trace, s.free, s.pending⟩

/-- What a piece of the model may write: `rest z s` is `s` with those parts taken from `z`, `clear f` holds where it writes no field
that shares a register bit with `f`, and `live` where it takes no command in flight away. -/
structure Scope where
  rest : State → State → State
  clear : Fld → Bool
  live : Bool

/-- Whatever `w` writes, `V` may write. -/
structure Scope.Within (w V : Scope) : Prop where
  rest : ∀ z s, V.rest z (w.rest z s) = V.rest z s
  clear : ∀ f, V.clear f = true → w.clear f = true
  live : V.live = true → w.live = true

/-- From `s` to `t` nothing outside `V` has changed, and what went out is still there. -/
structure Stays (V : Scope) (s t : State) : Prop where
  rest : ∀ z, V.rest z t = V.rest z s
  rdN : ∀ f n, V.clear f = true → t.rdN f n = s.rdN f n
  live : V.live = true → ∀ id, s.Live id → t.Live id
  out : s.out <+: t.out

/-- A change that can be turned down stays in `V`. -/
def StaysOk (V : Scope) (s : State) (r : Except Nat State) : Prop := ∀ t, r = .ok t → Stays V s t

/-- The scope of storing one register field. -/
def Scope.reg (f : Fld) : Scope where
  rest z s := { s with regs := z.regs }
  clear g := Fld.clearOf f g
  live := true

/-- The scope of a piece that is made of others. -/
def Scope.of (rest : State → State → State) (pieces : List Scope) : Scope where
  rest := rest
  clear f := pieces.all (fun w => w.clear f)
  live := pieces.all (fun w => w.live)

/-- The scope of a piece that takes commands away. -/
def Scope.ofLosing (rest : State → State → State) (pieces : List Scope) : Scope where
  rest := rest
  clear f := pieces.all (fun w => w.clear f)
  live := false

section
variable {u w V : Scope} {s₀ s t : State}

theorem Scope.Within.trans (hu : u.Within w) (h : w.Within V) : u.Within V where
  rest z s := by rw [← h.rest z (u.rest z s), hu.rest, h.rest]
  clear f k := hu.clear f (h.clear f k)
  live k := hu.live (h.live k)

/-- A part that `V` may not write is as it was. -/
theorem Stays.part {α : Type} (p : State → α) (h : Stays V s t) (hp : ∀ z s, p (V.rest z s) = p s := by exact fun _ _ => rfl) : p t = p s := by
  rw [← hp s t, h.rest, hp]

/-- A piece writes within its own scope. -/
theorem Scope.Within.self (h : ∀ z s, V.rest z (V.rest z s) = V.rest z s := by exact fun _ _ => rfl) : V.Within V :=
  ⟨h, fun _ k => k, fun k => k⟩

/-- What a piece writes, `V` may write where the whole lies within it. -/
theorem Scope.Within.sub {rest : State → State → State} {pieces : List Scope} (h : (Scope.of rest pieces).Within V) (i : Nat)
    (hi : pieces[i]? = some u := by exact rfl) (hrest : ∀ z s, rest z (u.rest z s) = rest z s := by exact fun _ _ => rfl) :
    u.Within V :=
  .trans ⟨hrest, fun _ k => List.all_eq_true.mp k u (List.mem_of_getElem? hi),
    fun k => List.all_eq_true.mp k u (List.mem_of_getElem? hi)⟩ h

/-- The same for a piece that takes commands away. -/
theorem Scope.Within.subLosing {rest : State → State → State} {pieces : List Scope} (h : (Scope.ofLosing rest pieces).Within V)
    (i : Nat) (hi : pieces[i]? = some u := by exact rfl) (hrest : ∀ z s, rest z (u.rest z s) = rest z s := by exact fun _ _ => rfl) :
    u.Within V :=
  .trans ⟨hrest, fun _ k => List.all_eq_true.mp k u (List.mem_of_getElem? hi), fun k => Bool.noConfusion k⟩ h

theorem Stays.refl : Stays V s s := ⟨fun _ => rfl, fun _ _ _ => rfl, fun _ _ => id, List.prefix_rfl⟩

theorem Stays.trans (h : Stays V s₀ s) (k : Stays V s t) : Stays V s₀ t :=
  ⟨fun z => (k.rest z).trans (h.rest z), fun f n c => (k.rdN f n c).trans (h.rdN f n c), fun c i l => k.live c i (h.live c i l),
    h.out.trans k.out⟩

/-- Storing parts that `w` names. -/
theorem Stays.upd {regs captures keyRegs time hub rings msix cmds nextCmd rrNext armedEnd keeper fw start save prot eng near dur ledger
    cerga roce twin shelf meter mem domain crypt out pace ports dram flash integ trace free} (h : Stays V s₀ s) (hv : w.Within V)
    (e : ∀ z, w.rest z ⟨regs, captures, keyRegs, time, hub, rings, msix, cmds, nextCmd, rrNext, armedEnd, keeper, fw, start, save, prot,
      eng, near, dur, ledger, cerga, roce, twin, shelf, meter, mem, domain, crypt, out, pace, ports, dram, flash, integ, trace, free,
      s.pending⟩ = (w.rest z s).eta := by exact fun _ => rfl)
    (hregs : regs = s.regs := by exact rfl) (hcmds : cmds = s.cmds := by exact rfl) (hout : out = s.out := by exact rfl) :
    Stays V s₀ ⟨regs, captures, keyRegs, time, hub, rings, msix, cmds, nextCmd, rrNext, armedEnd, keeper, fw, start, save, prot, eng,
      near, dur, ledger, cerga, roce, twin, shelf, meter, mem, domain, crypt, out, pace, ports, dram, flash, integ, trace, free,
      s.pending⟩ := by
  refine h.trans ⟨fun z => ?_, fun f n _ => State.rdN_congr hregs f n, fun _ i l => l.congr hcmds, ?_⟩
  · exact (hv.rest z _).symm.trans ((congrArg (V.rest z) (e z)).trans (hv.rest z s))
  subst hout
  exact List.prefix_rfl

/-- Storing parts that `w` names, the commands among them. -/
theorem Stays.updLosing {regs captures keyRegs time hub rings msix cmds nextCmd rrNext armedEnd keeper fw start save prot eng near dur
    ledger cerga roce twin shelf meter mem domain crypt out pace ports dram flash integ trace free} (h : Stays V s₀ s) (hv : w.Within V)
    (e : ∀ z, w.rest z ⟨regs, captures, keyRegs, time, hub, rings, msix, cmds, nextCmd, rrNext, armedEnd, keeper, fw, start, save, prot,
      eng, near, dur, ledger, cerga, roce, twin, shelf, meter, mem, domain, crypt, out, pace, ports, dram, flash, integ, trace, free,
      s.pending⟩ = (w.rest z s).eta := by exact fun _ => rfl) (hregs : regs = s.regs := by exact rfl) (hout : out = s.out := by exact rfl)
    (hlive : w.live = false := by exact rfl) :
    Stays V s₀ ⟨regs, captures, keyRegs, time, hub, rings, msix, cmds, nextCmd, rrNext, armedEnd, keeper, fw, start, save, prot, eng,
      near, dur, ledger, cerga, roce, twin, shelf, meter, mem, domain, crypt, out, pace, ports, dram, flash, integ, trace, free,
      s.pending⟩ := by
  refine h.trans ⟨fun z => ?_, fun f n _ => State.rdN_congr hregs f n, fun k => absurd (hv.live k) (by simp [hlive]), ?_⟩
  · exact (hv.rest z _).symm.trans ((congrArg (V.rest z) (e z)).trans (hv.rest z s))
  · subst hout
    exact List.prefix_rfl

/-! ### Register fields -/

/-- Storing a field leaves everything but the register file. -/
theorem State.wrN_reg (s z : State) (f g : Fld) (n k : Nat) : (Scope.reg g).rest z (s.wrN f n k) = (Scope.reg g).rest z s := by
  unfold State.wrN
  dsimp only
  split
  · rfl
  · rfl

theorem Stays.wrN {f : Fld} {n k : Nat} (h : Stays V s₀ s) (hv : (Scope.reg f).Within V) : Stays V s₀ (s.wrN f n k) :=
  h.trans ⟨fun z => by rw [← hv.rest z (s.wrN f n k), State.wrN_reg, hv.rest],
    fun g m c => State.rdN_wrN_clearOf s n m k (hv.clear g c), fun _ _ l => l.congr (by simp), by simp⟩

theorem Stays.wr {f : Fld} {k : Nat} (h : Stays V s₀ s) (hv : (Scope.reg f).Within V) : Stays V s₀ (s.wr f k) := h.wrN hv

theorem Stays.flag {f : Fld} {b : Bool} (h : Stays V s₀ s) (hv : (Scope.reg f).Within V) : Stays V s₀ (s.flag f b) := h.wrN hv

theorem Stays.bump {f : Fld} {k : Nat} (h : Stays V s₀ s) (hv : (Scope.reg f).Within V) : Stays V s₀ (s.bump f k) := h.wrN hv

theorem Stays.bumpSat {f : Fld} {n k : Nat} (h : Stays V s₀ s) (hv : (Scope.reg f).Within V) : Stays V s₀ (s.bumpSat f n k) :=
  h.wrN hv

/-! ### What goes out, and the commands -/

def Scope.send : Scope := .of (fun z s => { s with out := z.out }) []

theorem Stays.send {o : Out} (h : Stays V s₀ s) (hv : Scope.send.Within V) : Stays V s₀ (s.send o) :=
  h.trans ⟨fun z => by rw [← hv.rest z (s.send o)]; exact hv.rest z s, fun _ _ _ => rfl, fun _ _ => id, List.prefix_append _ _⟩

def Scope.updCmd : Scope := .of (fun z s => { s with cmds := z.cmds }) []

/-- A change of a command that keeps its id and its ring. -/
theorem Stays.updCmd {id : Nat} {f : Cmd → Cmd} (h : Stays V s₀ s) (hv : Scope.updCmd.Within V)
    (hid : ∀ c, (f c).id = c.id := by exact fun _ => rfl) (ho : ∀ c, (f c).orphan = c.orphan := by exact fun _ => rfl) :
    Stays V s₀ (s.updCmd id f) :=
  h.trans ⟨fun z => by rw [← hv.rest z (s.updCmd id f)]; exact hv.rest z s, fun _ _ _ => rfl,
    fun _ _ l => l.updCmd id hid ho, List.prefix_rfl⟩

/-! ### Control -/

theorem Stays.ite {c : Prop} [Decidable c] {a b : State} (ha : Stays V s₀ a) (hb : Stays V s₀ b) : Stays V s₀ (if c then a else b) := by
  split
  · exact ha
  · exact hb

/-- What both branches are made from is looked at once. -/
theorem Stays.iteOn {c : Prop} [Decidable c] {x a b : State} (h : Stays V s₀ x) (ha : Stays V s₀ x → Stays V s₀ a)
    (hb : Stays V s₀ x → Stays V s₀ b) : Stays V s₀ (if c then a else b) := .ite (ha h) (hb h)

/-- A change made under a condition. -/
theorem Stays.when {c : Prop} [Decidable c] {a b : State} (h : Stays V s₀ b) (ha : Stays V s₀ b → Stays V s₀ a) :
    Stays V s₀ (if c then a else b) := .ite (ha h) h

theorem Stays.unless {c : Prop} [Decidable c] {a b : State} (h : Stays V s₀ a) (hb : Stays V s₀ a → Stays V s₀ b) :
    Stays V s₀ (if c then a else b) := .ite h (hb h)

theorem Stays.iteSndSnd {α β : Type} {c : Prop} [Decidable c] {a b : α × β × State} (ha : Stays V s₀ a.2.2) (hb : Stays V s₀ b.2.2) :
    Stays V s₀ (if c then a else b).2.2 := by
  split
  · exact ha
  · exact hb

theorem Stays.iteFst {α : Type} {c : Prop} [Decidable c] {a b : State × α} (ha : Stays V s₀ a.1) (hb : Stays V s₀ b.1) :
    Stays V s₀ (if c then a else b).1 := by
  split
  · exact ha
  · exact hb

theorem Stays.iteSnd {α : Type} {c : Prop} [Decidable c] {a b : α × State} (ha : Stays V s₀ a.2) (hb : Stays V s₀ b.2) :
    Stays V s₀ (if c then a else b).2 := by
  split
  · exact ha
  · exact hb

theorem Stays.foldl {α : Type} {f : State → α → State} {l : List α} (hf : ∀ s x, Stays V s₀ s → Stays V s₀ (f s x))
    (h : Stays V s₀ s) : Stays V s₀ (l.foldl f s) := by
  induction l generalizing s with
  | nil => exact h
  | cons x l ih => exact ih (hf s x h)

/-- A fold that carries the state beside something else. -/
theorem Stays.foldlPair {α β : Type} {f : State × β → α → State × β} {l : List α} {p : State × β}
    (hf : ∀ p x, Stays V s₀ p.1 → Stays V s₀ (f p x).1) (h : Stays V s₀ p.1) : Stays V s₀ (l.foldl f p).1 := by
  induction l generalizing p with
  | nil => exact h
  | cons x l ih => exact ih (hf p x h)

/-- A fold that carries the state behind something else. -/
theorem Stays.foldlPairSnd {α β : Type} {f : β × State → α → β × State} {l : List α} {p : β × State}
    (hf : ∀ p x, Stays V s₀ p.2 → Stays V s₀ (f p x).2) (h : Stays V s₀ p.2) : Stays V s₀ (l.foldl f p).2 := by
  induction l generalizing p with
  | nil => exact h
  | cons x l ih => exact ih (hf p x h)

theorem StaysOk.ok (h : Stays V s₀ t) : StaysOk V s₀ (.ok t) := by
  rintro u ⟨⟩
  exact h

theorem StaysOk.error {e : Nat} : StaysOk V s₀ (.error e) := by rintro u ⟨⟩

theorem StaysOk.ite {c : Prop} [Decidable c] {a b : Except Nat State} (ha : StaysOk V s₀ a) (hb : StaysOk V s₀ b) :
    StaysOk V s₀ (if c then a else b) := by
  split
  · exact ha
  · exact hb

end

/-! ### Fields that are chosen by an index -/

/-- A scope of several fields of which one is chosen. -/
theorem Scope.reg_within {f : Fld} {l : List Fld} (h : f ∈ l) :
    (Scope.reg f).Within (.of (fun z s => { s with regs := z.regs }) (l.map .reg)) where
  rest _ _ := rfl
  clear g k := by
    simp only [Scope.of, List.all_map, List.all_eq_true, Function.comp_apply] at k
    exact k f h
  live _ := rfl

def Scope.ofRing (g : RingKind → Fld) : Scope :=
  .of (fun z s => { s with regs := z.regs }) ([g .cmd, g .cpl, g .ev, g .ex].map .reg)

def Scope.ofFeed (g : Bool → Fld) : Scope := .of (fun z s => { s with regs := z.regs }) ([g true, g false].map .reg)

def Scope.ofSlot (g : Nat → Fld) : Scope := .of (fun z s => { s with regs := z.regs }) ([g 0, g 1].map .reg)

theorem Scope.ofRing_within (g : RingKind → Fld) (k : RingKind) : (Scope.reg (g k)).Within (.ofRing g) :=
  Scope.reg_within (by cases k <;> simp)

theorem Scope.ofFeed_within (g : Bool → Fld) (a : Bool) : (Scope.reg (g a)).Within (.ofFeed g) :=
  Scope.reg_within (by cases a <;> simp)

theorem Scope.ofSlot_within (b : Nat) : (Scope.reg (fSlot b)).Within (.ofSlot fSlot) :=
  Scope.reg_within (by by_cases h : b = 0 <;> simp [fSlot, h])

end

end Sys2Proof.Machine


/-! What events, ends of commands and rings leave alone. -/

namespace Sys2Proof.Machine

open Sys2Proof

section

/-! As the model's tests do, this part is checked in order: its many small proofs at once would want a thread each. -/

set_option Elab.async false

def Scope.queueLog : Scope := .of (fun z s => { s with
    regs := z.regs, keeper.flash.ram := z.keeper.flash.ram, keeper.flash.counters := z.keeper.flash.counters }) [.reg
      R.KEEPER_LOG_STATUS_DROPPED]

theorem Stays.queueLog {V : Scope} {s₀ s : State} {r : LogRecord} (h : Stays V s₀ s) (hv : Scope.queueLog.Within V) : Stays V s₀
    (s.queueLog r) :=
  .ite (.upd (.bumpSat h (hv.sub 0)) hv) (.upd h hv)

def Scope.keeperLog : Scope := .of (fun z s => { s with
    regs := z.regs, keeper.flash.ram := z.keeper.flash.ram, keeper.flash.flood := z.keeper.flash.flood,
    keeper.flash.counters := z.keeper.flash.counters }) [.queueLog]

theorem Stays.keeperLog {V : Scope} {s₀ s : State} {source : Nat} {sev : Nat} {detail : Nat} {core : Bool} (h : Stays V s₀ s) (hv :
    Scope.keeperLog.Within V) : Stays V s₀ (s.keeperLog source sev detail core) := by
  unfold State.keeperLog
  split
  · exact .ite (.upd h hv) (.unless (.queueLog h (hv.sub 0)) (fun h => .upd h hv))
  · exact .unless (.queueLog h (hv.sub 0)) (fun h => .upd h hv)

def Scope.setRingUnit : Scope := .of (fun z s => { s with rings := z.rings }) []

theorem Stays.setRingUnit {V : Scope} {s₀ s : State} {k : RingKind} {n : Nat} {u : RingUnit} (h : Stays V s₀ s) (hv :
    Scope.setRingUnit.Within V) : Stays V s₀ (s.setRingUnit k n u) :=
  .upd h hv

def Scope.signalVector : Scope := .of (fun z s => { s with msix := z.msix, out := z.out }) [.send]

theorem Stays.signalVector {V : Scope} {s₀ s : State} {v : Nat} {ring : Nat} (h : Stays V s₀ s) (hv : Scope.signalVector.Within V) :
    Stays V s₀ (s.signalVector v ring) :=
  .ite (.upd h hv) (.ite h (.send (.upd h hv) (hv.sub 0)))

def Scope.signalRing : Scope := .of (fun z s => { s with rings := z.rings, msix := z.msix, out := z.out }) [.setRingUnit,
  .signalVector]

theorem Stays.signalRing {V : Scope} {s₀ s : State} {k : RingKind} {n : Nat} (h : Stays V s₀ s) (hv : Scope.signalRing.Within V) :
    Stays V s₀ (s.signalRing k n) :=
  .signalVector (.setRingUnit h (hv.sub 0)) (hv.sub 1)

def Scope.ringWrite : Scope := .of (fun z s => { s with regs := z.regs, rings := z.rings, msix := z.msix, out := z.out }) [.send,
  .ofRing fH9Index, .setRingUnit, .signalRing]

theorem Stays.ringWrite {V : Scope} {s₀ s : State} {k : RingKind} {n : Nat} {quiet : Bool} {mk : Bool → RingEntry} (h : Stays V s₀
    s) (hv : Scope.ringWrite.Within V) : Stays V s₀ (s.ringWrite k n quiet mk) :=
  .ite (.setRingUnit (.wrN (.send h (hv.sub 0)) (.trans (Scope.ofRing_within fH9Index _) (hv.sub 1))) (hv.sub 2)) (.when (.setRingUnit
    (.wrN (.send h (hv.sub 0)) (.trans (Scope.ofRing_within fH9Index _) (hv.sub 1))) (hv.sub 2)) (fun h => .signalRing h (hv.sub
    3)))

def Scope.writeEvent : Scope := .of (fun z s => { s with regs := z.regs, rings := z.rings, msix := z.msix, out := z.out })
  [.setRingUnit, .ringWrite]

theorem Stays.writeEvent {V : Scope} {s₀ s : State} {r : EventRecord} (h : Stays V s₀ s) (hv : Scope.writeEvent.Within V) : Stays V
    s₀ (s.writeEvent r) := by
  unfold State.writeEvent
  exact .ringWrite (.setRingUnit h (hv.sub 0)) (hv.sub 1)

def Scope.holdEvent : Scope := .of (fun z s => { s with regs := z.regs, hub.held := z.hub.held }) [.reg R.EVENT_REPEATS_COUNT]

theorem Stays.holdEvent {V : Scope} {s₀ s : State} {r : EventRecord} (h : Stays V s₀ s) (hv : Scope.holdEvent.Within V) : Stays V s₀
    (s.holdEvent r) :=
  .ite (.upd h hv) (.ite (.upd (.bump h (hv.sub 0)) hv) (.upd h hv))

def Scope.closeEvent : Scope := .of (fun z s => { s with
    regs := z.regs, hub.held := z.hub.held, hub.nextId := z.hub.nextId, rings := z.rings, msix := z.msix,
    keeper.flash.ram := z.keeper.flash.ram, keeper.flash.flood := z.keeper.flash.flood,
    keeper.flash.counters := z.keeper.flash.counters, out := z.out }) [.keeperLog, .writeEvent, .holdEvent]

theorem Stays.closeEvent {V : Scope} {s₀ s : State} {r : EventRecord} (h : Stays V s₀ s) (hv : Scope.closeEvent.Within V) : Stays V
    s₀ (s.closeEvent r) :=
  .ite (.ite (.keeperLog (.upd h hv) (hv.sub 0)) (.upd h hv)) (.iteOn (.ite (.keeperLog (.upd h hv) (hv.sub 0)) (.upd h hv)) (fun h =>
    .writeEvent h (hv.sub 1)) (fun h => .holdEvent h (hv.sub 2)))

def Scope.setTrack : Scope := .of (fun z s => { s with hub.tracks := z.hub.tracks }) []

theorem Stays.setTrack {V : Scope} {s₀ s : State} {src : Nat} {t : SourceTrack} (h : Stays V s₀ s) (hv : Scope.setTrack.Within V) :
    Stays V s₀ (s.setTrack src t) :=
  .upd h hv

def Scope.closePending : Scope := .of (fun z s => { s with
    regs := z.regs, hub := z.hub, rings := z.rings, msix := z.msix, keeper.flash.ram := z.keeper.flash.ram,
    keeper.flash.flood := z.keeper.flash.flood, keeper.flash.counters := z.keeper.flash.counters, out := z.out }) [.setTrack,
      .closeEvent]

theorem Stays.closePending {V : Scope} {s₀ s : State} {src : Nat} (h : Stays V s₀ s) (hv : Scope.closePending.Within V) : Stays V s₀
    (s.closePending src) :=
  .ite h (.closeEvent (.setTrack h (hv.sub 0)) (hv.sub 1))

def Scope.closeFold : Scope := .of (fun z s => { s with
    regs := z.regs, hub := z.hub, rings := z.rings, msix := z.msix, keeper.flash.ram := z.keeper.flash.ram,
    keeper.flash.flood := z.keeper.flash.flood, keeper.flash.counters := z.keeper.flash.counters, out := z.out }) [.setTrack,
      .closeEvent]

theorem Stays.closeFold {V : Scope} {s₀ s : State} {src : Nat} (h : Stays V s₀ s) (hv : Scope.closeFold.Within V) : Stays V s₀
    (s.closeFold src) :=
  .ite h (.closeEvent (.setTrack h (hv.sub 0)) (hv.sub 1))

def Scope.closeSecond : Scope := .of (fun z s => { s with
    regs := z.regs, hub := z.hub, rings := z.rings, msix := z.msix, keeper.flash.ram := z.keeper.flash.ram,
    keeper.flash.flood := z.keeper.flash.flood, keeper.flash.counters := z.keeper.flash.counters, out := z.out }) [.closeFold,
      .closePending]

theorem Stays.closeSecond {V : Scope} {s₀ s : State} {src : Nat} (h : Stays V s₀ s) (hv : Scope.closeSecond.Within V) : Stays V s₀
    (s.closeSecond src) :=
  .ite h (.closePending (.closeFold h (hv.sub 0)) (hv.sub 1))

def Scope.hubOccur : Scope := .of (fun z s => { s with
    regs := z.regs, hub := z.hub, rings := z.rings, msix := z.msix, keeper.flash.ram := z.keeper.flash.ram,
    keeper.flash.flood := z.keeper.flash.flood, keeper.flash.counters := z.keeper.flash.counters, out := z.out }) [.reg
      R.EVENT_RAISED_COUNT, .reg R.EVENT_LAST_VALID, .reg R.EVENT_LAST_RING, .reg R.EVENT_LAST_SEVERITY, .reg R.EVENT_LAST_SOURCE,
      .closeSecond, .setTrack, .reg R.EVENT_REPEATS_COUNT, .closePending, .closeEvent]

theorem Stays.hubOccur {V : Scope} {s₀ s : State} {src : Nat} {detail : Nat} {alt : Bool} {keeper : Bool} {cmd : Bool} (h : Stays V
    s₀ s) (hv : Scope.hubOccur.Within V) : Stays V s₀ (s.hubOccur src detail alt keeper cmd) :=
  .ite (.when (.setTrack (.setTrack (.bump (.unless (.wr (.wr (.wr (.wr (.bump h (hv.sub 0)) (hv.sub 1)) (hv.sub 2)) (hv.sub 3))
    (hv.sub 4)) (fun h => .setTrack (.closeSecond h (hv.sub 5)) (hv.sub 6))) (hv.sub 7)) (hv.sub 6)) (hv.sub 6)) (fun h =>
    .closePending h (hv.sub 8))) (.iteOn (.setTrack (.unless (.unless (.wr (.wr (.wr (.wr (.bump h (hv.sub 0)) (hv.sub 1)) (hv.sub
    2)) (hv.sub 3)) (hv.sub 4)) (fun h => .setTrack (.closeSecond h (hv.sub 5)) (hv.sub 6))) (fun h => .closePending h (hv.sub 8)))
    (hv.sub 6)) (fun h => .setTrack (.bump h (hv.sub 7)) (hv.sub 6)) (fun h => .closeEvent (.setTrack h (hv.sub 6)) (hv.sub 9)))

def Scope.occur : Scope := .of (fun z s => { s with
    regs := z.regs, hub := z.hub, rings := z.rings, msix := z.msix, keeper.flash.ram := z.keeper.flash.ram,
    keeper.flash.flood := z.keeper.flash.flood, keeper.flash.counters := z.keeper.flash.counters, out := z.out }) [.hubOccur,
      .keeperLog]

theorem Stays.occur {V : Scope} {s₀ s : State} {src : Nat} {detail : Nat} {alt : Bool} {keeper : Bool} {cmd : Bool} (h : Stays V s₀
    s) (hv : Scope.occur.Within V) : Stays V s₀ (s.occur src detail alt keeper cmd) :=
  .ite (.hubOccur h (hv.sub 0)) (.ite (.keeperLog h (hv.sub 1)) h)

def Scope.raise : Scope := .of (fun z s => { s with
    regs := z.regs, hub := z.hub, rings := z.rings, msix := z.msix, keeper.flash.ram := z.keeper.flash.ram,
    keeper.flash.flood := z.keeper.flash.flood, keeper.flash.counters := z.keeper.flash.counters, out := z.out }) [.occur]

theorem Stays.raise {V : Scope} {s₀ s : State} {src : Nat} {vs : List (Nat × Nat)} (h : Stays V s₀ s) (hv : Scope.raise.Within V) :
    Stays V s₀ (s.raise src vs) :=
  .ite (.occur h (hv.sub 0)) h

def Scope.raiseKeeper : Scope := .of (fun z s => { s with
    regs := z.regs, hub := z.hub, rings := z.rings, msix := z.msix, keeper.flash.ram := z.keeper.flash.ram,
    keeper.flash.flood := z.keeper.flash.flood, keeper.flash.counters := z.keeper.flash.counters, out := z.out }) [.keeperLog, .occur]

theorem Stays.raiseKeeper {V : Scope} {s₀ s : State} {src : Nat} {vs : List (Nat × Nat)} (h : Stays V s₀ s) (hv :
    Scope.raiseKeeper.Within V) : Stays V s₀ (s.raiseKeeper src vs) :=
  .when (.keeperLog h (hv.sub 0)) (fun h => .occur h (hv.sub 1))

def Scope.setPower : Scope := .of (fun z s => { s with
    regs := z.regs, hub := z.hub, rings := z.rings, msix := z.msix, keeper.flash.ram := z.keeper.flash.ram,
    keeper.flash.flood := z.keeper.flash.flood, keeper.flash.counters := z.keeper.flash.counters, out := z.out }) [.reg
      R.LIFE_STATE_POWER, .raiseKeeper]

theorem Stays.setPower {V : Scope} {s₀ s : State} {p : Nat} (h : Stays V s₀ s) (hv : Scope.setPower.Within V) : Stays V s₀
    (s.setPower p) :=
  .ite h (.raiseKeeper (.wr h (hv.sub 0)) (hv.sub 1))

def Scope.drainHub : Scope := .of (fun z s => { s with
    regs := z.regs, hub.held := z.hub.held, rings := z.rings, msix := z.msix, out := z.out }) [.writeEvent]

theorem Stays.drainHub {V : Scope} {s₀ s : State} (h : Stays V s₀ s) (hv : Scope.drainHub.Within V) : Stays V s₀ (s.drainHub) :=
  .foldl (fun _ _ h => .ite (.upd h hv) (.ite (.writeEvent (.upd h hv) (hv.sub 0)) (.upd (.upd h hv) hv))) h

def Scope.writeExport : Scope := .of (fun z s => { s with
    regs := z.regs, rings := z.rings, msix := z.msix, meter.seqs := z.meter.seqs, out := z.out }) [.reg R.METER_RECORDS, .ringWrite]

theorem Stays.writeExport {V : Scope} {s₀ s : State} {n : Nat} {r : ExportRecord} (h : Stays V s₀ s) (hv : Scope.writeExport.Within
    V) : Stays V s₀ (s.writeExport n r) := by
  unfold State.writeExport
  exact .ringWrite (.bump (.upd h hv) (hv.sub 0)) (hv.sub 1)

def Scope.drainExports : Scope := .of (fun z s => { s with
    regs := z.regs, rings := z.rings, msix := z.msix, meter.held := z.meter.held, meter.seqs := z.meter.seqs, out := z.out })
      [.writeExport, .reg R.METER_HELD_RECORDS]

theorem Stays.drainExports {V : Scope} {s₀ s : State} {n : Nat} (h : Stays V s₀ s) (hv : Scope.drainExports.Within V) : Stays V s₀
    (s.drainExports n) :=
  .wr (.foldl (fun _ _ h => .ite (.upd (.writeExport h (hv.sub 0)) hv) h) h) (hv.sub 1)

def Scope.ringError : Scope := .of (fun z s => { s with
    regs := z.regs, hub := z.hub, rings := z.rings, msix := z.msix, keeper.flash.ram := z.keeper.flash.ram,
    keeper.flash.flood := z.keeper.flash.flood, keeper.flash.counters := z.keeper.flash.counters, out := z.out }) [.raise]

theorem Stays.ringError {V : Scope} {s₀ s : State} {n : Nat} (h : Stays V s₀ s) (hv : Scope.ringError.Within V) : Stays V s₀
    (s.ringError n) :=
  .raise h (hv.sub 0)

def Scope.enableRing : Scope := .of (fun z s => { s with
    regs := z.regs, hub := z.hub, rings := z.rings, msix := z.msix, keeper.flash.ram := z.keeper.flash.ram,
    keeper.flash.flood := z.keeper.flash.flood, keeper.flash.counters := z.keeper.flash.counters, meter.held := z.meter.held,
    meter.seqs := z.meter.seqs, out := z.out }) [.ofRing fEnable, .ofRing fState, .ofRing fH9Index, .ofRing fHostIndex, .setRingUnit,
      .drainHub, .drainExports, .ringError]

theorem Stays.enableRing {V : Scope} {s₀ s : State} {k : RingKind} {n : Nat} (h : Stays V s₀ s) (hv : Scope.enableRing.Within V) :
    Stays V s₀ (s.enableRing k n) :=
  .ite (.ite (.drainHub (.setRingUnit (.wrN (.wrN (.wrN (.wrN h (.trans (Scope.ofRing_within fEnable _) (hv.sub 0))) (.trans
    (Scope.ofRing_within fState _) (hv.sub 1))) (.trans (Scope.ofRing_within fH9Index _) (hv.sub 2))) (.trans (Scope.ofRing_within
    fHostIndex _) (hv.sub 3))) (hv.sub 4)) (hv.sub 5)) (.when (.setRingUnit (.wrN (.wrN (.wrN (.wrN h (.trans (Scope.ofRing_within
    fEnable _) (hv.sub 0))) (.trans (Scope.ofRing_within fState _) (hv.sub 1))) (.trans (Scope.ofRing_within fH9Index _) (hv.sub
    2))) (.trans (Scope.ofRing_within fHostIndex _) (hv.sub 3))) (hv.sub 4)) (fun h => .drainExports h (hv.sub 6)))) (.ringError
    (.wrN (.wrN h (.trans (Scope.ofRing_within fEnable _) (hv.sub 0))) (.trans (Scope.ofRing_within fState _) (hv.sub 1))) (hv.sub
    7))

def Scope.settleDrain : Scope := .of (fun z s => { s with
    regs := z.regs, hub := z.hub, rings := z.rings, msix := z.msix, keeper.flash.ram := z.keeper.flash.ram,
    keeper.flash.flood := z.keeper.flash.flood, keeper.flash.counters := z.keeper.flash.counters, meter.held := z.meter.held,
    meter.seqs := z.meter.seqs, out := z.out }) [.ofRing fState, .setRingUnit, .enableRing]

theorem Stays.settleDrain {V : Scope} {s₀ s : State} {n : Nat} (h : Stays V s₀ s) (hv : Scope.settleDrain.Within V) : Stays V s₀
    (s.settleDrain n) :=
  .ite (.when (.setRingUnit (.wrN h (.trans (Scope.ofRing_within fState _) (hv.sub 0))) (hv.sub 1)) (fun h => .enableRing h (hv.sub
    2))) h

def Scope.raiseTag : Scope := .of (fun z s => { s with
    regs := z.regs, hub := z.hub, rings := z.rings, msix := z.msix, keeper.flash.ram := z.keeper.flash.ram,
    keeper.flash.flood := z.keeper.flash.flood, keeper.flash.counters := z.keeper.flash.counters, out := z.out }) [.occur]

theorem Stays.raiseTag {V : Scope} {s₀ s : State} {src : Nat} {vs : List (Nat × Nat)} {tag : Nat} (h : Stays V s₀ s) (hv :
    Scope.raiseTag.Within V) : Stays V s₀ (s.raiseTag src vs tag) :=
  .ite (.occur h (hv.sub 0)) h

def Scope.startGrace : Scope := .of (fun z s => { s with prot.grace := z.prot.grace, prot.graceEnds := z.prot.graceEnds }) []

theorem Stays.startGrace {V : Scope} {s₀ s : State} {cmd : Nat} (h : Stays V s₀ s) (hv : Scope.startGrace.Within V) : Stays V s₀
    (s.startGrace cmd) := by
  unfold State.startGrace
  split
  · exact h
  · exact .upd h hv

def Scope.endCmd : Scope := .of (fun z s => { s with
    regs := z.regs, hub := z.hub, rings := z.rings, msix := z.msix, cmds := z.cmds, keeper.flash.ram := z.keeper.flash.ram,
    keeper.flash.flood := z.keeper.flash.flood, keeper.flash.counters := z.keeper.flash.counters, prot.grace := z.prot.grace,
    prot.graceEnds := z.prot.graceEnds, out := z.out }) [.startGrace, .raiseTag, .updCmd]

theorem Stays.endCmd {V : Scope} {s₀ s : State} {id status detail result : Nat} (h : Stays V s₀ s) (hv : Scope.endCmd.Within V) :
    Stays V s₀ (s.endCmd id status detail result) := by
  unfold State.endCmd
  split
  · exact h
  next c hc =>
    split
    next ho =>
      refine .raiseTag ?_ (hv.sub 1)
      refine .trans (.startGrace h (hv.sub 0)) ⟨fun z => ?_, fun _ _ _ => rfl, fun _ k l => ?_, List.prefix_rfl⟩
      · rw [← hv.rest z (State.startGrace s id)]
        exact (hv.rest z { s.startGrace id with cmds := s.cmds.filter (fun c => c.id != id) }).symm
      · obtain ⟨d, hd, hdo⟩ := l
        have hcmds : (s.startGrace id).cmds = s.cmds := by simp
        rw [hcmds] at hd
        refine ⟨d, ?_, hdo⟩
        have hk : k ≠ id := by
          rintro rfl
          rw [hc] at hd
          cases hd
          simp [ho] at hdo
        refine (List.find?_filter ..).trans ((congrArg (List.find? · s.cmds) (funext fun e => ?_)).trans hd)
        by_cases he : e.id = k
        · simp [he, hk]
        · simp [he]
    · exact .updCmd h (hv.sub 2)

def Scope.refuse : Scope := .of (fun z s => { s with
    regs := z.regs, hub := z.hub, rings := z.rings, msix := z.msix, cmds := z.cmds, keeper.flash.ram := z.keeper.flash.ram,
    keeper.flash.flood := z.keeper.flash.flood, keeper.flash.counters := z.keeper.flash.counters, prot.grace := z.prot.grace,
    prot.graceEnds := z.prot.graceEnds, out := z.out }) [.endCmd]

theorem Stays.refuse {V : Scope} {s₀ s : State} {id : Nat} {reason : Nat} (h : Stays V s₀ s) (hv : Scope.refuse.Within V) : Stays V
    s₀ (s.refuse id reason) :=
  .endCmd h (hv.sub 0)

def Scope.finish : Scope := .of (fun z s => { s with
    regs := z.regs, hub := z.hub, rings := z.rings, msix := z.msix, cmds := z.cmds, keeper.flash.ram := z.keeper.flash.ram,
    keeper.flash.flood := z.keeper.flash.flood, keeper.flash.counters := z.keeper.flash.counters, prot.grace := z.prot.grace,
    prot.graceEnds := z.prot.graceEnds, out := z.out }) [.endCmd]

theorem Stays.finish {V : Scope} {s₀ s : State} {id : Nat} {status : Nat} (h : Stays V s₀ s) (hv : Scope.finish.Within V) : Stays V
    s₀ (s.finish id status) :=
  .endCmd h (hv.sub 0)

def Scope.command : Scope := .of (fun z s => { s with
    regs := z.regs, hub := z.hub, rings := z.rings, msix := z.msix, cmds := z.cmds, keeper.flash.ram := z.keeper.flash.ram,
    keeper.flash.flood := z.keeper.flash.flood, keeper.flash.counters := z.keeper.flash.counters, prot.grace := z.prot.grace,
    prot.graceEnds := z.prot.graceEnds, out := z.out }) [.updCmd, .finish]

theorem Stays.command {V : Scope} {s₀ s : State} {r : CmdRef} {opcode : Nat} {body : Cmd → State → State}
    (hbody : ∀ c s, Stays V s₀ s → Stays V s₀ (body c s)) (h : Stays V s₀ s) (hv : Scope.command.Within V) :
    Stays V s₀ (s.command r opcode body) := by
  unfold State.command
  split
  · exact h
  · refine .ite ?_ h
    split
    · exact .finish (.updCmd h (hv.sub 0)) (hv.sub 1)
    · exact hbody _ _ (.updCmd h (hv.sub 0))

def Scope.ifHolder : Scope := .of (fun z s => { s with
    regs := z.regs, hub := z.hub, rings := z.rings, msix := z.msix, cmds := z.cmds, keeper.flash.ram := z.keeper.flash.ram,
    keeper.flash.flood := z.keeper.flash.flood, keeper.flash.counters := z.keeper.flash.counters, prot.grace := z.prot.grace,
    prot.graceEnds := z.prot.graceEnds, out := z.out }) [.finish]

theorem Stays.ifHolder {V : Scope} {s₀ s : State} {c : Cmd} {f : State → State}
    (hf : ∀ s, Stays V s₀ s → Stays V s₀ (f s)) (h : Stays V s₀ s) (hv : Scope.ifHolder.Within V) :
    Stays V s₀ (s.ifHolder c f) :=
  .ite (hf _ h) (.finish h (hv.sub 0))

end

end Sys2Proof.Machine


/-! The host rings (R303 to R318) and the event hub's timers (R482, R483). -/

namespace Sys2Proof.Machine

open Sys2Proof

section

set_option Elab.async false

/-! ### The fields of one kind of ring -/

theorem fState_clear_fEnable (k : RingKind) : Fld.clearOf (fState k) (fEnable k) = true := by cases k <;> rfl
theorem fH9Index_clear_fEnable (k : RingKind) : Fld.clearOf (fH9Index k) (fEnable k) = true := by cases k <;> rfl
theorem fHostIndex_clear_fEnable (k : RingKind) : Fld.clearOf (fHostIndex k) (fEnable k) = true := by cases k <;> rfl
theorem fH9Index_clear_fState (k : RingKind) : Fld.clearOf (fH9Index k) (fState k) = true := by cases k <;> rfl
theorem fHostIndex_clear_fState (k : RingKind) : Fld.clearOf (fHostIndex k) (fState k) = true := by cases k <;> rfl
theorem fEnable_clear_fBase (k : RingKind) : Fld.clearOf (fEnable k) (fBase k) = true := by cases k <;> rfl
theorem fEnable_clear_fState (k : RingKind) : Fld.clearOf (fEnable k) (fState k) = true := by cases k <;> rfl
theorem fEnable_silent (k : RingKind) : Fld.silent (fEnable k) = true := by cases k <;> rfl
theorem fState_silent (k : RingKind) : Fld.silent (fState k) = true := by cases k <;> rfl
theorem fHostIndex_silent (k : RingKind) : Fld.silent (fHostIndex k) = true := by cases k <;> rfl

/-- What the tables of one kind of ring hold side by side. -/
theorem fState_width (k : RingKind) : (fState k).width = 2 := by cases k <;> rfl
theorem fEnable_width (k : RingKind) : (fEnable k).width = 1 := by cases k <;> rfl
theorem fHostIndex_width (k : RingKind) : (fHostIndex k).width = 16 := by cases k <;> rfl

/-! ### What draining leaves -/

theorem State.rdN_drainHub_silent (s : State) (f : Fld) (n : Nat) (h : Fld.silent f = true) : s.drainHub.rdN f n = s.rdN f n :=
  State.rdN_drainHub s (Fld.quiet_of_silent h n)

theorem State.rdN_drainExports (s : State) (k : Nat) {f : Fld} (n : Nat) (h : Scope.drainExports.clear f = true) :
    (s.drainExports k).rdN f n = s.rdN f n :=
  Stays.rdN (Stays.drainExports .refl .self) f n h

theorem drainExports_clear_fEnable (k : RingKind) : Scope.drainExports.clear (fEnable k) = true := by cases k <;> rfl
theorem drainExports_clear_fState (k : RingKind) : Scope.drainExports.clear (fState k) = true := by cases k <;> rfl
theorem drainExports_clear_fHostIndex (k : RingKind) : Scope.drainExports.clear (fHostIndex k) = true := by cases k <;> rfl

/-! ### Setting a ring up and taking it down -/

/-- The ring as a valid enable sets it: ENABLED, both indices 0, nothing written. -/
def State.ringFresh (s : State) (k : RingKind) (n : Nat) : State :=
  ((((s.wrN (fEnable k) n 1).wrN (fState k) n 1).wrN (fH9Index k) n 0).wrN (fHostIndex k) n 0).setRingUnit k n ringIdle

theorem State.rdN_ringFresh (s : State) (k : RingKind) (n : Nat) :
    (s.ringFresh k n).rdN (fEnable k) n = 1 ∧ (s.ringFresh k n).rdN (fState k) n = 1 ∧ (s.ringFresh k n).rdN (fHostIndex k) n = 0 := by
  refine ⟨?_, ?_, ?_⟩
  · simp [State.ringFresh, State.rdN_wrN_clearOf, fHostIndex_clear_fEnable, fH9Index_clear_fEnable, fState_clear_fEnable, fEnable_width]
  · simp [State.ringFresh, State.rdN_wrN_clearOf, fHostIndex_clear_fState, fH9Index_clear_fState, fState_width]
  · simp [State.ringFresh]

/-- An enable of a ring whose base is aligned sets it up, and drains what waited for it. -/
theorem State.enableRing_aligned (s : State) (k : RingKind) (n : Nat) (h : s.rdN (fBase k) n % 4096 = 0) :
    s.enableRing k n = if k = .ev then (s.ringFresh k n).drainHub else if k = .ex then (s.ringFresh k n).drainExports n
      else s.ringFresh k n := by
  unfold State.enableRing
  dsimp only
  rw [if_pos (by rwa [State.rdN_wrN_clearOf _ _ _ _ (fEnable_clear_fBase k)])]
  rfl

theorem State.enableRing_misaligned (s : State) (k : RingKind) (n : Nat) (h : s.rdN (fBase k) n % 4096 ≠ 0) :
    s.enableRing k n = ((s.wrN (fEnable k) n 1).wrN (fState k) n 3).ringError n := by
  unfold State.enableRing
  dsimp only
  rw [if_neg (by rwa [State.rdN_wrN_clearOf _ _ _ _ (fEnable_clear_fBase k)])]

theorem State.rdN_enableRing_aligned (s : State) (k : RingKind) (n : Nat) (h : s.rdN (fBase k) n % 4096 = 0) :
    (s.enableRing k n).rdN (fEnable k) n = 1 ∧ (s.enableRing k n).rdN (fState k) n = 1 ∧
      (s.enableRing k n).rdN (fHostIndex k) n = 0 := by
  obtain ⟨henable, hstate, hhost⟩ := s.rdN_ringFresh k n
  rw [State.enableRing_aligned s k n h]
  split
  · rw [State.rdN_drainHub_silent _ _ _ (fEnable_silent k), State.rdN_drainHub_silent _ _ _ (fState_silent k),
      State.rdN_drainHub_silent _ _ _ (fHostIndex_silent k)]
    exact ⟨henable, hstate, hhost⟩
  · split
    · rw [State.rdN_drainExports _ _ _ (drainExports_clear_fEnable k), State.rdN_drainExports _ _ _ (drainExports_clear_fState k),
        State.rdN_drainExports _ _ _ (drainExports_clear_fHostIndex k)]
      exact ⟨henable, hstate, hhost⟩
    · exact ⟨henable, hstate, hhost⟩

theorem State.rdN_enableRing_misaligned (s : State) (k : RingKind) (n : Nat) (h : s.rdN (fBase k) n % 4096 ≠ 0) :
    (s.enableRing k n).rdN (fEnable k) n = 1 ∧ (s.enableRing k n).rdN (fState k) n = 3 := by
  rw [State.enableRing_misaligned s k n h]
  unfold State.ringError
  rw [State.rdN_raise_silent _ _ _ (fEnable_silent k), State.rdN_raise_silent _ _ _ (fState_silent k)]
  refine ⟨?_, ?_⟩
  · simp [State.rdN_wrN_clearOf, fState_clear_fEnable, fEnable_width]
  · simp [fState_width]

theorem exec_ringEnable (s : State) (k : RingKind) (n : Nat) (hcore : s.coreOn = true) (hn : n < ringCount k)
    (hrecovery : (s.on R.FW_STATUS_RECOVERY && k == .cmd && n != 0) = false) (hstate : s.ringState k n = 0) :
    ∃ t, exec (.ringEnable k n) s = .next t ∧ t.rdN (fEnable k) n = 1 ∧
      t.ringState k n = (if s.rdN (fBase k) n % 4096 = 0 then 1 else 3) ∧
      (s.rdN (fBase k) n % 4096 = 0 → t.rdN (fHostIndex k) n = 0) := by
  have hexec : exec (.ringEnable k n) s = .next (s.enableRing k n) := by
    refine congrArg Host.Outcome.next ?_
    unfold State.startRing
    rw [if_neg (by simp [hcore, hn]), if_neg (by simp [hrecovery]), if_pos hstate]
  refine ⟨_, hexec, ?_⟩
  unfold State.ringState
  by_cases hbase : s.rdN (fBase k) n % 4096 = 0
  · obtain ⟨henable, hrun, hhost⟩ := s.rdN_enableRing_aligned k n hbase
    exact ⟨henable, by rw [if_pos hbase]; exact hrun, fun _ => hhost⟩
  · obtain ⟨henable, herror⟩ := s.rdN_enableRing_misaligned k n hbase
    exact ⟨henable, by rw [if_neg hbase]; exact herror, fun h => absurd h hbase⟩

/-- The disable of a ring of no kind but command. -/
def State.ringOff (s : State) (k : RingKind) (n : Nat) : State := ((s.wrN (fEnable k) n 0).wrN (fState k) n 0).setRingUnit k n ringIdle

theorem State.rdN_ringOff (s : State) (k : RingKind) (n : Nat) :
    (s.ringOff k n).rdN (fState k) n = 0 ∧ (s.ringOff k n).rdN (fEnable k) n = 0 := by
  refine ⟨?_, ?_⟩
  · simp [State.ringOff]
  · simp [State.ringOff, State.rdN_wrN_clearOf, fState_clear_fEnable]

/-- A command ring that begins to drain. -/
def State.ringDraining (s : State) (n : Nat) : State :=
  ((s.wrN (fEnable .cmd) n 0).setRingUnit .cmd n { s.ringUnit .cmd n with stored := false }).wrN (fState .cmd) n 2

theorem State.settleDrain_empty (s : State) (n : Nat) (h : s.cmds.all (fun c => c.ring != n || c.orphan) = true) :
    (s.ringDraining n).settleDrain n = ((s.ringDraining n).wrN (fState .cmd) n 0).setRingUnit .cmd n ringIdle := by
  have hstate : (s.ringDraining n).ringState .cmd n = 2 := by simp [State.ringState, State.ringDraining, fState_width]
  have hcmds : (s.ringDraining n).cmds = s.cmds := by simp [State.ringDraining]
  have hrings : (s.ringDraining n).rings = AMap.set s.rings (ringKey .cmd n) { s.ringUnit .cmd n with stored := false } := by
    simp [State.ringDraining, State.setRingUnit]
  have hstored : ((s.ringDraining n).ringUnit .cmd n).stored = false := by
    rw [State.ringUnit, hrings, AMap.get?_set_self]
    rfl
  unfold State.settleDrain
  rw [if_pos (by rw [hstate, hcmds, h]; rfl), hstored]
  rfl

theorem exec_ringDisable (s : State) (k : RingKind) (n : Nat) (hcore : s.coreOn = true) (hn : n < ringCount k)
    (henable : s.rdN (fEnable k) n ≠ 0) (hcmd : k = .cmd → s.cmds.all (fun c => c.ring != n || c.orphan) = true)
    (hcpl : k = .cpl → (List.range 64).any (fun c => (s.ringState .cmd c == 1 || s.ringState .cmd c == 2) &&
      s.rdN R.RING_CMD_CFG_CPL_RING c == n) = false) :
    ∃ t, exec (.ringDisable k n) s = .next t ∧ t.ringState k n = 0 ∧ t.rdN (fEnable k) n = 0 := by
  have hopen : ¬ (!s.coreOn || decide (ringCount k ≤ n) || s.rdN (fEnable k) n == 0) = true := by simp [hcore, hn, henable]
  have hoff (hk : exec (.ringDisable k n) s = .next (s.ringOff k n)) :
      ∃ t, exec (.ringDisable k n) s = .next t ∧ t.ringState k n = 0 ∧ t.rdN (fEnable k) n = 0 := ⟨_, hk, s.rdN_ringOff k n⟩
  cases k with
  | cmd =>
    have hexec : exec (.ringDisable .cmd n) s = .next (((s.ringDraining n).wrN (fState .cmd) n 0).setRingUnit .cmd n ringIdle) :=
      congrArg Host.Outcome.next ((if_neg hopen).trans (s.settleDrain_empty n (hcmd rfl)))
    refine ⟨_, hexec, ?_, ?_⟩
    · simp [State.ringState]
    · simp [State.ringDraining, State.rdN_wrN_clearOf, fState_clear_fEnable]
  | cpl => exact hoff (congrArg Host.Outcome.next ((if_neg hopen).trans (if_neg (by simp [hcpl rfl]))))
  | ev => exact hoff (congrArg Host.Outcome.next (if_neg hopen))
  | ex => exact hoff (congrArg Host.Outcome.next (if_neg hopen))

/-! ### Doorbells -/

/-- A doorbell of an enabled ring stores an index below the ring's size. -/
theorem State.doorbell_below (s : State) (k : RingKind) (n v : Nat) (hcore : s.coreOn = true) (hn : n < ringCount k)
    (hstate : s.ringState k n = 1) (hv : v % 65536 < s.ringSize k n) : s.doorbell k n v = s.wrN (fHostIndex k) n (v % 65536) := by
  unfold State.doorbell
  dsimp only
  rw [if_neg (by simp [hcore, hn, hstate]), if_neg (Nat.not_le.mpr hv)]

theorem State.rdN_doorbell (s : State) (k : RingKind) (n v : Nat) (hcore : s.coreOn = true) (hn : n < ringCount k)
    (hstate : s.ringState k n = 1) (hv : v % 65536 < s.ringSize k n) : (s.doorbell k n v).rdN (fHostIndex k) n = v % 65536 := by
  rw [State.doorbell_below s k n v hcore hn hstate hv, State.rdN_wrN_self, fHostIndex_width]
  omega

theorem State.rdN_headDoorbell (s : State) (k : RingKind) (n v : Nat) (hcore : s.coreOn = true) (hn : n < ringCount k)
    (hstate : s.ringState k n = 1) (hv : v % 65536 < s.ringSize k n) : (s.headDoorbell k n v).rdN (fHostIndex k) n = v % 65536 := by
  rw [← State.rdN_doorbell s k n v hcore hn hstate hv]
  unfold State.headDoorbell
  dsimp only
  split
  · rfl
  · rfl

theorem exec_evHead (s : State) (m v : Nat) (hcore : s.coreOn = true) (hm : m < 8) (hstate : s.ringState .ev m = 1)
    (hv : v % 65536 < s.ringSize .ev m) :
    ∃ t, exec (.evHead m v) s = .next t ∧ t.rdN R.RING_EV_PTRS_HOST_INDEX m = v % 65536 :=
  ⟨_, rfl, (State.rdN_drainHub_silent _ _ _ (fHostIndex_silent .ev)).trans (s.rdN_headDoorbell .ev m v hcore hm hstate hv)⟩

theorem exec_exHead (s : State) (k v : Nat) (hcore : s.coreOn = true) (hk : k < 4) (hstate : s.ringState .ex k = 1)
    (hv : v % 65536 < s.ringSize .ex k) :
    ∃ t, exec (.exHead k v) s = .next t ∧ t.rdN R.RING_EX_PTRS_HOST_INDEX k = v % 65536 := by
  exact ⟨_, rfl, (State.rdN_drainExports _ k k (drainExports_clear_fHostIndex .ex)).trans (s.rdN_headDoorbell .ex k v hcore hk hstate hv)⟩

/-! ### Fetch and completion -/

/-- What a descriptor enters with, whatever becomes of it. -/
theorem State.enterDescriptor_cmds (s : State) (n : Nat) (d : Descriptor) :
    (s.enterDescriptor n d).cmds.map (fun c => (c.ring, c.opcode, c.tag)) =
      s.cmds.map (fun c => (c.ring, c.opcode, c.tag)) ++ [(n, d.opcode, d.tag)] := by
  unfold State.enterDescriptor
  simp only [State.wrN_keeps, List.map_append, List.map_cons, List.map_nil]
  congr 2
  split
  · rfl
  · split
    · rfl
    · split
      · rfl
      · rfl

theorem State.enterDescriptors_cmds (n : Nat) (ds : List Descriptor) (s : State) :
    (ds.foldl (fun s d => s.enterDescriptor n d) s).cmds.map (fun c => (c.ring, c.opcode, c.tag)) =
      s.cmds.map (fun c => (c.ring, c.opcode, c.tag)) ++ ds.map (fun d => (n, d.opcode, d.tag)) := by
  induction ds generalizing s with
  | nil => simp
  | cons d ds ih => rw [List.foldl_cons, ih, State.enterDescriptor_cmds, List.map_cons, List.append_assoc]; rfl

theorem exec_descriptorFetch (s : State) (n : Nat) (ds : List Descriptor) (hcore : s.coreOn = true) (hsave : s.save.active = false)
    (hnext : s.nextRing = some n) :
    ∃ t, exec (.descriptorFetch n ds false) s = .next t ∧ t.rrNext = (n + 1) % 64 ∧
      t.cmds.map (fun c => (c.ring, c.opcode, c.tag)) =
        s.cmds.map (fun c => (c.ring, c.opcode, c.tag)) ++ (ds.take (s.fetchable n)).map (fun d => (n, d.opcode, d.tag)) :=
  ⟨_, congrArg Host.Outcome.next ((if_neg (by simp [hcore, hsave, hnext])).trans (if_neg (by simp))), rfl,
    State.enterDescriptors_cmds n _ s⟩

/-- An entry goes out first; the interrupt of its ring follows it. -/
theorem State.out_ringWrite (s : State) (k : RingKind) (n : Nat) (quiet : Bool) (mk : Bool → RingEntry) :
    s.out ++ [.ringEntry k n (s.rdN (fH9Index k) n) (mk (s.ringUnit k n).phase)] <+: (s.ringWrite k n quiet mk).out := by
  unfold State.ringWrite
  extract_lets u i j s₁ v w s₂
  have hsent (x : RingUnit) : (s₁.setRingUnit k n x).out =
      s.out ++ [.ringEntry k n (s.rdN (fH9Index k) n) (mk (s.ringUnit k n).phase)] := by
    simp [s₁, i, u, State.send]
  split
  · exact (hsent v) ▸ List.prefix_rfl
  · split
    · refine (hsent w) ▸ ?_
      exact Stays.out (Stays.signalRing .refl .self)
    · exact (hsent w) ▸ List.prefix_rfl

@[simp] theorem State.cmds_settleDrain (s : State) (n : Nat) : (s.settleDrain n).cmds = s.cmds :=
  Stays.part State.cmds (.settleDrain .refl .self)

@[simp] theorem State.rings_signalVector (s : State) (v n : Nat) : (s.signalVector v n).rings = s.rings :=
  Stays.part State.rings (.signalVector .refl .self)

/-- What stands right behind a list in one that it begins. -/
theorem getElem?_of_prefix {α : Type} {l : List α} {x : α} {m : List α} (h : l ++ [x] <+: m) : m[l.length]? = some x := by
  obtain ⟨rest, rfl⟩ := h
  simp

/-- A completed command leaves the table, and its entry is the next thing that goes out. -/
theorem exec_commandCompletion (s : State) (r : CmdRef) (c : Cmd) (p : Nat) (hcore : s.coreOn = true)
    (hfind : s.cmds.find? (fun c => c.ring == r.ring && c.slot == r.slot && s.completable c) = some c)
    (hp : p = s.rdN R.RING_CMD_CFG_CPL_RING c.ring) :
    ∃ t, exec (.commandCompletion r) s = .next t ∧ t.cmds = s.cmds.filter (fun d => d.id != c.id) ∧
      t.out[s.out.length]? = some (.ringEntry .cpl p (s.rdN R.RING_CPL_PTRS_H9_INDEX p) (.completion
        { tag := c.tag, opcode := c.opcode, status := c.status, detail := c.detail, sqHead := s.rdN R.RING_CMD_PTRS_H9_INDEX c.ring, sqRing := c.ring,
          result := c.result, phase := (s.ringUnit .cpl p).phase })) := by
  subst hp
  have hexec : exec (.commandCompletion r) s = .next (s.writeCompletion c) := by
    refine congrArg Host.Outcome.next ?_
    rw [hfind]
    exact if_pos hcore
  refine ⟨_, hexec, ?_, ?_⟩
  · simp [State.writeCompletion]
  · unfold State.writeCompletion
    refine getElem?_of_prefix ((s.out_ringWrite .cpl _ c.noIrq (fun ph => .completion
      { tag := c.tag, opcode := c.opcode, status := c.status, detail := c.detail, sqHead := s.rdN R.RING_CMD_PTRS_H9_INDEX c.ring,
        sqRing := c.ring, result := c.result, phase := ph })).trans (List.IsPrefix.trans ?_
          (Stays.out (Stays.settleDrain (n := c.ring) .refl .self))))
    exact (Stays.startGrace (cmd := c.id) .refl .self).out

/-! ### Timers of rings -/

theorem exec_coalescingTimer (s : State) (k : RingKind) (n : Nat) (hcore : s.coreOn = true) (hk : k ≠ .cmd) (hn : n < ringCount k)
    (hstate : s.ringState k n = 1) (hdue : due s.now (s.ringUnit k n).timer = true) :
    ∃ t, exec (.coalescingTimer k n) s = .next t ∧ (t.ringUnit k n).timer = none ∧ (t.ringUnit k n).fresh = 0 := by
  have hexec : exec (.coalescingTimer k n) s = .next (s.signalRing k n) :=
    congrArg Host.Outcome.next (if_pos (by simp [hcore, hk, hn, hstate, hdue]))
  have hunit : (s.signalRing k n).ringUnit k n = { s.ringUnit k n with fresh := 0, timer := none } := by
    simp [State.signalRing, State.ringUnit, State.setRingUnit, AMap.get?_set_self]
  exact ⟨_, hexec, by rw [hunit], by rw [hunit]⟩

/-! ### The loss of the rings -/

/-- No ring has a unit, no vector an entry, and no event ring is enabled. -/
structure State.RingsDown (s : State) : Prop where
  rings : s.rings = []
  msix : s.msix = []
  closed : ∀ m, s.rdN (fState .ev) m ≠ 1

section
variable {s : State} (h : s.RingsDown)
include h

/-- What writes neither rings nor vectors nor a ring's STATE leaves the rings down. -/
theorem State.RingsDown.stays {V : Scope} {t : State} (hst : Stays V s t)
    (hrings : ∀ z s, (V.rest z s).rings = s.rings := by exact fun _ _ => rfl)
    (hmsix : ∀ z s, (V.rest z s).msix = s.msix := by exact fun _ _ => rfl) (hclear : V.clear (fState .ev) = true := by exact rfl) :
    t.RingsDown where
  rings := (hst.part State.rings hrings).trans h.rings
  msix := (hst.part State.msix hmsix).trans h.msix
  closed m := by rw [hst.rdN _ _ hclear]; exact h.closed m

theorem State.RingsDown.wrN (f : Fld) (n v : Nat) (hf : Fld.clearOf f (fState .ev) = true := by exact rfl) : (s.wrN f n v).RingsDown :=
  h.stays (Stays.wrN (V := .reg f) .refl .self) (hclear := hf)

theorem State.RingsDown.setTrack (src : Nat) (t : SourceTrack) : (s.setTrack src t).RingsDown := ⟨h.rings, h.msix, h.closed⟩

/-- With no event ring open, an event is held. -/
theorem State.RingsDown.closeEvent (r : EventRecord) : (s.closeEvent r).RingsDown := by
  unfold State.closeEvent
  extract_lets r hub s₁ s₂
  have h₁ : s₁.RingsDown := ⟨h.rings, h.msix, h.closed⟩
  have h₂ : s₂.RingsDown := by
    unfold s₂
    split
    · exact h₁.stays (Stays.keeperLog .refl .self)
    · exact h₁
  split
  · exact h₂
  · rw [if_neg (by simp [State.eventRingOpen, State.ringState, h₂.closed])]
    exact h₂.stays (Stays.holdEvent .refl .self)

theorem State.RingsDown.closePending (src : Nat) : (s.closePending src).RingsDown := by
  unfold State.closePending
  dsimp only
  split
  · exact h
  · exact (h.setTrack ..).closeEvent _

theorem State.RingsDown.closeFold (src : Nat) : (s.closeFold src).RingsDown := by
  unfold State.closeFold
  dsimp only
  split
  · exact h
  · exact (h.setTrack ..).closeEvent _

theorem State.RingsDown.closeSecond (src : Nat) : (s.closeSecond src).RingsDown := by
  unfold State.closeSecond
  split
  · exact h
  · exact (h.closeFold src).closePending src

theorem State.RingsDown.hubOccur (src detail : Nat) (alt keeper cmd : Bool) : (s.hubOccur src detail alt keeper cmd).RingsDown := by
  unfold State.hubOccur
  extract_lets s₁ s₂ sSecond tSecond s₃ t win isRepeat seen s₄ s₅ s₆ t'
  have h₂ : s₂.RingsDown := ((((h.wrN R.EVENT_RAISED_COUNT 0 _).wrN R.EVENT_LAST_VALID 0 1).wrN R.EVENT_LAST_RING 0 _).wrN
    R.EVENT_LAST_SEVERITY 0 _).wrN R.EVENT_LAST_SOURCE 0 _
  have h₃ : s₃.RingsDown := by
    unfold s₃
    split
    · exact h₂
    · exact (h₂.closeSecond src).setTrack src _
  have h₅ : s₅.RingsDown := ((h₃.wrN R.EVENT_REPEATS_COUNT 0 _).setTrack src _).setTrack src _
  have h₆ : s₆.RingsDown := by
    unfold s₆
    split
    · exact State.RingsDown.setTrack h₃ src _
    · exact (h₃.closePending src).setTrack src _
  split
  · split
    · exact h₅.closePending src
    · exact h₅
  · split
    · exact (h₆.wrN R.EVENT_REPEATS_COUNT 0 _).setTrack src _
    · exact (h₆.setTrack src _).closeEvent _

theorem State.RingsDown.raiseTag (src : Nat) (vs : List (Nat × Nat)) (tag : Nat) : (s.raiseTag src vs tag).RingsDown := by
  unfold State.raiseTag State.occur
  split
  · split
    · exact h.hubOccur ..
    · split
      · exact h.stays (Stays.keeperLog .refl .self)
      · exact h
  · exact h

theorem State.RingsDown.orphanCommands : s.orphanCommands.RingsDown := by
  unfold State.orphanCommands
  refine List.foldlRecOn _ _ ?_ fun t ht c _ => (ht.stays (Stays.startGrace (cmd := c.id) .refl .self)).raiseTag ..
  exact ⟨h.rings, h.msix, h.closed⟩

end

/-- A reset block's fields read their values after reset. -/
theorem State.rdN_resetBlock_inside (s : State) (lo hi : Nat) (f : Fld) (n : Nat) (hlo : lo * 64 ≤ f.key n) (hhi : f.key n < hi * 64) :
    (s.resetBlock lo hi).rdN f n = f.reset n := by
  have hnone : AMap.get? (s.regs.filter (fun e => e.1 < lo * 64 || decide (hi * 64 ≤ e.1))) (f.key n) = none :=
    AMap.get?_filter_key_none s.regs (fun i => i < lo * 64 || decide (hi * 64 ≤ i)) (f.key n) (by simp; omega)
  rw [State.rdN, State.resetBlock, hnone]
  rfl

theorem State.ringsDown_dropRings (s : State) : s.dropRings.RingsDown := by
  refine ⟨rfl, rfl, fun m => ?_⟩
  have hm : m % 8 < 8 := Nat.mod_lt _ (by omega)
  have hread : s.dropRings.rdN (fState .ev) m = 0 := s.rdN_resetBlock_inside 0x10000 0x11200 (fState .ev) m
    (by simp only [Fld.key, fState, R.RING_EV_STATUS_STATE]; omega) (by simp only [Fld.key, fState, R.RING_EV_STATUS_STATE]; omega)
  omega

/-- What telling of an orphaned command's end may write. -/
def Scope.orphanTold : Scope := .of (fun z s => { s with
    regs := z.regs, hub := z.hub, rings := z.rings, msix := z.msix, keeper.flash.ram := z.keeper.flash.ram,
    keeper.flash.flood := z.keeper.flash.flood, keeper.flash.counters := z.keeper.flash.counters, prot.grace := z.prot.grace,
    prot.graceEnds := z.prot.graceEnds, out := z.out }) [.startGrace, .raiseTag]

theorem State.cmds_orphanCommands (s : State) :
    s.orphanCommands.cmds = (s.cmds.filter (fun c => c.phase == .running)).map (fun c => { c with orphan := true }) := by
  unfold State.orphanCommands
  exact (Stays.part (V := .orphanTold) State.cmds
    (Stays.foldl (fun s c h => .raiseTag (.startGrace h (.sub .self 0)) (.sub .self 1)) .refl) :)

theorem State.orphans_orphanCommands (s : State) : s.orphanCommands.cmds.all (fun c => c.orphan) = true := by
  rw [State.cmds_orphanCommands]
  simp

theorem exec_functionLevelReset (s : State) (hcore : s.coreOn = true) :
    ∃ t, exec .functionLevelReset s = .next t ∧ t.rings = [] ∧ t.msix = [] ∧ t.cmds.all (fun c => c.orphan) = true ∧
      t.rd R.GLOBAL_STATUS_RESET_ARMED = 0 ∧ t.armedEnd = none := by
  have hexec : exec .functionLevelReset s =
      .next { s.dropRings.orphanCommands.wr R.GLOBAL_STATUS_RESET_ARMED 0 with armedEnd := none } :=
    congrArg Host.Outcome.next (if_pos hcore)
  have hdown := s.ringsDown_dropRings.orphanCommands
  refine ⟨_, hexec, ?_, ?_, ?_, ?_, rfl⟩
  · simpa using hdown.rings
  · simpa using hdown.msix
  · simpa using s.dropRings.orphans_orphanCommands
  · exact State.rd_wr_self ..

theorem exec_pcieLinkDown (s : State) (hcore : s.coreOn = true) :
    ∃ t, exec .pcieLinkDown s = .next t ∧ t.rings = [] ∧ t.msix = [] ∧ t.cmds.all (fun c => c.orphan) = true :=
  ⟨_, congrArg Host.Outcome.next (if_pos hcore), s.ringsDown_dropRings.orphanCommands.rings,
    s.ringsDown_dropRings.orphanCommands.msix, s.dropRings.orphans_orphanCommands⟩

/-! ### The event hub's timers -/

@[simp] theorem State.track_setTrack (s : State) (src : Nat) (t : SourceTrack) : (s.setTrack src t).track src = t := by
  simp [State.track, State.setTrack]

@[simp] theorem State.track_closeEvent (s : State) (r : EventRecord) (src : Nat) : (s.closeEvent r).track src = s.track src :=
  Stays.part (State.track · src) (.closeEvent .refl .self)

@[simp] theorem State.time_closeEvent (s : State) (r : EventRecord) : (s.closeEvent r).time = s.time :=
  Stays.part State.time (.closeEvent .refl .self)

/-- Each closed event takes the next number. -/
theorem State.nextId_closeEvent (s : State) (r : EventRecord) : (s.closeEvent r).hub.nextId = s.hub.nextId + 1 := by
  unfold State.closeEvent
  extract_lets r hub s₁ s₂
  have h₂ : s₂.hub.nextId = s.hub.nextId + 1 := by
    unfold s₂
    split
    · exact Stays.part (·.hub.nextId) (Stays.keeperLog .refl .self)
    · rfl
  split
  · exact h₂
  · split
    · exact (Stays.part (·.hub.nextId) (Stays.writeEvent .refl .self)).trans h₂
    · exact (Stays.part (·.hub.nextId) (Stays.holdEvent .refl .self)).trans h₂

theorem exec_repeatWindowExpiry (s : State) (src : Nat) (hcore : s.coreOn = true) (hhub : s.hubOn = true) (hpend : 0 < (s.track src).pending)
    (hend : (s.track src).lastRecord + ms (s.rd R.EVENT_STORM_WINDOW_MS) ≤ s.now) :
    ∃ t, exec (.repeatWindowExpiry src) s = .next t ∧ (t.track src).pending = 0 ∧ (t.track src).lastRecord = s.now ∧
      t.hub.nextId = s.hub.nextId + 1 := by
  have hexec : exec (.repeatWindowExpiry src) s = .next (s.closePending src) :=
    congrArg Host.Outcome.next (if_pos (by simp [hcore, hhub, hpend, hend]))
  refine ⟨_, hexec, ?_⟩
  unfold State.closePending
  dsimp only
  rw [if_neg (Nat.ne_of_gt hpend), State.track_closeEvent, State.track_setTrack, State.nextId_closeEvent]
  exact ⟨rfl, rfl, rfl⟩

theorem State.folded_closeSecond (s : State) (src : Nat) : ((s.closeSecond src).track src).folded = 0 := by
  unfold State.closeSecond
  split
  · assumption
  · rename_i hfold
    have hclosed : ((s.closeFold src).track src).folded = 0 := by simp [State.closeFold, hfold]
    unfold State.closePending
    dsimp only
    split
    · exact hclosed
    · simp [hclosed]

theorem exec_stormSecondEnd (s : State) (src : Nat) (hcore : s.coreOn = true) (hhub : s.hubOn = true) (hfold : 0 < (s.track src).folded)
    (hsecond : (s.track src).second < s.secondNow) :
    ∃ t, exec (.stormSecondEnd src) s = .next t ∧ (t.track src).folded = 0 ∧ (t.track src).second = s.secondNow ∧ (t.track src).inSecond = 0 := by
  have hexec : exec (.stormSecondEnd src) s = .next ((s.closeSecond src).setTrack src
      { (s.closeSecond src).track src with second := (s.closeSecond src).secondNow, inSecond := 0 }) :=
    congrArg Host.Outcome.next (if_pos (by simp [hcore, hhub, hfold, hsecond]))
  refine ⟨_, hexec, ?_⟩
  rw [State.track_setTrack]
  exact ⟨s.folded_closeSecond src, Stays.part State.secondNow (Stays.closeSecond .refl .self), rfl⟩

/-- Settles O43: a ring's fields are clear of each other, and what drains after a command writes none of them; a reset of the rings
leaves no event ring open, so that the events of its own commands are held. -/
theorem ringRows : Obligations.RingRows := by
  unfold Obligations.RingRows
  exact ⟨exec_ringEnable, exec_ringDisable,
    fun s n v hcore hn hstate hv => ⟨_, rfl, s.rdN_doorbell .cmd n v hcore hn hstate hv⟩,
    fun s n v hcore hn hstate hv => ⟨_, rfl, s.rdN_headDoorbell .cpl n v hcore hn hstate hv⟩,
    exec_evHead, exec_exHead, exec_descriptorFetch, exec_commandCompletion, exec_coalescingTimer, exec_functionLevelReset,
    exec_pcieLinkDown, exec_repeatWindowExpiry, exec_stormSecondEnd⟩

end

end Sys2Proof.Machine


/-! What changes of the power state may write. -/

namespace Sys2Proof.Machine

open Sys2Proof

section

set_option Elab.async false

def Scope.mergeChange : Scope := .of (fun z s => { s with keeper.deferred := z.keeper.deferred, save.change := z.save.change }) []

theorem Stays.mergeChange {V : Scope} {s₀ s : State} {x1 : Option Change} (h : Stays V s₀ s) (hv : Scope.mergeChange.Within V) :
    Stays V s₀ (s.mergeChange x1) := by
  unfold State.mergeChange
  split
  · exact h
  · split
    · exact .ite (.upd h hv) (.ite (.upd h hv) (.upd h hv))
    · exact .upd h hv

def Scope.abortHoldupTest : Scope := .of (fun z s => { s with
    regs := z.regs, hub := z.hub, rings := z.rings, msix := z.msix, keeper.holdup := z.keeper.holdup,
    keeper.outputs := z.keeper.outputs, keeper.flash.ram := z.keeper.flash.ram, keeper.flash.flood := z.keeper.flash.flood,
    keeper.flash.counters := z.keeper.flash.counters, keeper.testEnd := z.keeper.testEnd, out := z.out }) [.reg
      R.KEEPER_HOLDUP_STATUS_TEST_STATE, .reg R.KEEPER_HOLDUP_STATUS_LAST_RESULT, .raise]

theorem Stays.abortHoldupTest {V : Scope} {s₀ s : State} {result : Nat} (h : Stays V s₀ s) (hv : Scope.abortHoldupTest.Within V) :
    Stays V s₀ (s.abortHoldupTest result) :=
  .ite (.raise (.upd (.wr (.wr h (hv.sub 0)) (hv.sub 1)) hv) (hv.sub 2)) h

def Scope.flushFrame : Scope := .of (fun z s => { s with
    twin.frame := z.twin.frame, twin.frameAt := z.twin.frameAt, twin.txSeq := z.twin.txSeq,
    twin.replayBuf := z.twin.replayBuf, twin.credit := z.twin.credit, out := z.out }) [.send]

theorem Stays.flushFrame {V : Scope} {s₀ s : State} (h : Stays V s₀ s) (hv : Scope.flushFrame.Within V) : Stays V s₀ (s.flushFrame)
    :=
  .ite h (.upd (.send h (hv.sub 0)) hv)

def Scope.packItem : Scope := .of (fun z s => { s with
    twin.frame := z.twin.frame, twin.frameAt := z.twin.frameAt, twin.txSeq := z.twin.txSeq,
    twin.replayBuf := z.twin.replayBuf, twin.credit := z.twin.credit, out := z.out }) [.flushFrame]

theorem Stays.packItem {V : Scope} {s₀ s : State} {i : BrazeItem} (h : Stays V s₀ s) (hv : Scope.packItem.Within V) : Stays V s₀
    (s.packItem i) :=
  .upd (.ite (.flushFrame h (hv.sub 0)) h) hv

def Scope.sendItem : Scope := .of (fun z s => { s with
    twin.frame := z.twin.frame, twin.frameAt := z.twin.frameAt, twin.txSeq := z.twin.txSeq,
    twin.replayBuf := z.twin.replayBuf, twin.credit := z.twin.credit, out := z.out }) [.packItem, .flushFrame]

theorem Stays.sendItem {V : Scope} {s₀ s : State} {i : BrazeItem} (h : Stays V s₀ s) (hv : Scope.sendItem.Within V) : Stays V s₀
    (s.sendItem i) :=
  .ite (.flushFrame (.foldl (fun _ _ h => .packItem h (hv.sub 0)) h) (hv.sub 1)) h

def Scope.sendStatus : Scope := .of (fun z s => { s with
    twin.frame := z.twin.frame, twin.frameAt := z.twin.frameAt, twin.txSeq := z.twin.txSeq,
    twin.replayBuf := z.twin.replayBuf, twin.credit := z.twin.credit, out := z.out }) [.sendItem]

theorem Stays.sendStatus {V : Scope} {s₀ s : State} (h : Stays V s₀ s) (hv : Scope.sendStatus.Within V) : Stays V s₀ (s.sendStatus)
    :=
  .ite (.sendItem h (hv.sub 0)) h

def Scope.sendDomainTo : Scope := .of (fun z s => { s with regs := z.regs, domain.counter := z.domain.counter, out := z.out }) [.reg
  R.DOMAIN_TX_MSGS, .send]

theorem Stays.sendDomainTo {V : Scope} {s₀ s : State} {ip : Nat} {epoch : Nat} {type : Nat} {dst : Nat} {msgId : Nat} {fields : List
    Nat} (h : Stays V s₀ s) (hv : Scope.sendDomainTo.Within V) : Stays V s₀ (s.sendDomainTo ip epoch type dst msgId fields) :=
  .upd (.send (.bump h (hv.sub 0)) (hv.sub 1)) hv

def Scope.sendDomain : Scope := .of (fun z s => { s with regs := z.regs, domain.counter := z.domain.counter, out := z.out })
  [.sendDomainTo]

theorem Stays.sendDomain {V : Scope} {s₀ s : State} {type : Nat} {dst : Nat} {msgId : Nat} {fields : List Nat} (h : Stays V s₀ s)
    (hv : Scope.sendDomain.Within V) : Stays V s₀ (s.sendDomain type dst msgId fields) :=
  .sendDomainTo h (hv.sub 0)

def Scope.showSync : Scope := .of (fun z s => { s with
    regs := z.regs, twin.frame := z.twin.frame, twin.frameAt := z.twin.frameAt, twin.txSeq := z.twin.txSeq,
    twin.replayBuf := z.twin.replayBuf, twin.credit := z.twin.credit, domain.counter := z.domain.counter, out := z.out }) [.sendDomain,
      .reg R.TWIN_STATUS_SYNC, .sendStatus]

theorem Stays.showSync {V : Scope} {s₀ s : State} {c : Nat} (h : Stays V s₀ s) (hv : Scope.showSync.Within V) : Stays V s₀
    (s.showSync c) :=
  .ite h (.ite (.foldl (fun _ _ h => .sendDomain h (hv.sub 0)) (.sendStatus (.wr h (hv.sub 1)) (hv.sub 2))) (.sendStatus (.wr h
    (hv.sub 1)) (hv.sub 2)))

def Scope.saveTwin : Scope := .of (fun z s => { s with
    regs := z.regs, twin.frame := z.twin.frame, twin.frameAt := z.twin.frameAt, twin.txSeq := z.twin.txSeq,
    twin.replayBuf := z.twin.replayBuf, twin.credit := z.twin.credit, twin.yield := z.twin.yield,
    twin.handover := z.twin.handover, domain.counter := z.domain.counter, out := z.out }) [.showSync, .sendStatus]

theorem Stays.saveTwin {V : Scope} {s₀ s : State} (h : Stays V s₀ s) (hv : Scope.saveTwin.Within V) : Stays V s₀ (s.saveTwin) :=
  .sendStatus (.ite (.showSync (.upd h hv) (hv.sub 0)) (.upd h hv)) (hv.sub 1)

def Scope.startSave : Scope := .of (fun z s => { s with
    regs := z.regs, hub := z.hub, rings := z.rings, msix := z.msix, keeper.holdup := z.keeper.holdup,
    keeper.outputs := z.keeper.outputs, keeper.flash.ram := z.keeper.flash.ram, keeper.flash.flood := z.keeper.flash.flood,
    keeper.flash.counters := z.keeper.flash.counters, keeper.deferred := z.keeper.deferred,
    keeper.testEnd := z.keeper.testEnd, save := z.save, twin.frame := z.twin.frame, twin.frameAt := z.twin.frameAt,
    twin.txSeq := z.twin.txSeq, twin.replayBuf := z.twin.replayBuf, twin.credit := z.twin.credit, twin.yield := z.twin.yield,
    twin.handover := z.twin.handover, domain.counter := z.domain.counter, out := z.out, pace.held := z.pace.held }) [.mergeChange,
      .abortHoldupTest, .reg R.DUR_STATUS_SAVE_STEP, .reg R.KEEPER_STATUS_SEQ_STATE, .setPower, .keeperLog, .occur, .saveTwin]

theorem Stays.startSave {V : Scope} {s₀ s : State} {trigger : Nat} {action : SaveAction} {tag : Option Nat} {change : Option Change}
    {activate : Option Nat} (h : Stays V s₀ s) (hv : Scope.startSave.Within V) : Stays V s₀ (s.startSave trigger action tag change
    activate) :=
  .ite h (.ite (.mergeChange (.upd h hv) (hv.sub 0)) (.saveTwin (.occur (.keeperLog (.setPower (.wr (.wr (.upd (.abortHoldupTest h
    (hv.sub 1)) hv) (hv.sub 2)) (hv.sub 3)) (hv.sub 4)) (hv.sub 5)) (hv.sub 6)) (hv.sub 7)))

def Scope.setPort : Scope := .of (fun z s => { s with ports.port := z.ports.port }) []

theorem Stays.setPort {V : Scope} {s₀ s : State} {n : Nat} {p : Port} (h : Stays V s₀ s) (hv : Scope.setPort.Within V) : Stays V s₀
    (s.setPort n p) :=
  .upd h hv

def Scope.linkView : Scope := .of (fun z s => { s with regs := z.regs }) [.reg R.PORT_STATUS_LINK]

theorem Stays.linkView {V : Scope} {s₀ s : State} {n : Nat} (h : Stays V s₀ s) (hv : Scope.linkView.Within V) : Stays V s₀
    (s.linkView n) :=
  .wrN h (hv.sub 0)

def Scope.setLink : Scope := .of (fun z s => { s with
    regs := z.regs, hub := z.hub, rings := z.rings, msix := z.msix, keeper.flash.ram := z.keeper.flash.ram,
    keeper.flash.flood := z.keeper.flash.flood, keeper.flash.counters := z.keeper.flash.counters, out := z.out,
    ports.port := z.ports.port }) [.setPort, .linkView, .raise]

theorem Stays.setLink {V : Scope} {s₀ s : State} {n : Nat} {sub : Nat} {link : Nat} (h : Stays V s₀ s) (hv : Scope.setLink.Within V)
    : Stays V s₀ (s.setLink n sub link) :=
  .ite h (.raise (.linkView (.setPort h (hv.sub 0)) (hv.sub 1)) (hv.sub 2))

def Scope.nearViews : Scope := .of (fun z s => { s with regs := z.regs }) [.reg R.NEAR_LOCKED_WAYS, .reg R.NEAR_LOCKED_EMPTY_WAYS,
  .reg R.NEAR_DIRTY_LINES, .reg R.NEAR_STATUS_LOCK_ENTRIES]

theorem Stays.nearViews {V : Scope} {s₀ s : State} (h : Stays V s₀ s) (hv : Scope.nearViews.Within V) : Stays V s₀ (s.nearViews) :=
  .wr (.wr (.wr (.wr h (hv.sub 0)) (hv.sub 1)) (hv.sub 2)) (hv.sub 3)

def Scope.loadEnds : Scope := .of (fun z s => { s with regs := z.regs, near.loading := z.near.loading }) [.reg
  R.NEAR_STATUS_LOAD_ACTIVE]

theorem Stays.loadEnds {V : Scope} {s₀ s : State} {w : Option Nat × Nat × Bool} (h : Stays V s₀ s) (hv : Scope.loadEnds.Within V) :
    Stays V s₀ (s.loadEnds w) :=
  .flag (.upd h hv) (hv.sub 0)

def Scope.setVictims : Scope := .of (fun z s => { s with near.victims := z.near.victims }) []

theorem Stays.setVictims {V : Scope} {s₀ s : State} {b : Nat} {v : List Line} (h : Stays V s₀ s) (hv : Scope.setVictims.Within V) :
    Stays V s₀ (s.setVictims b v) :=
  .upd h hv

def Scope.touch : Scope := .of (fun z s => { s with near.lru := z.near.lru }) []

theorem Stays.touch {V : Scope} {s₀ s : State} {w : Nat} (h : Stays V s₀ s) (hv : Scope.touch.Within V) : Stays V s₀ (s.touch w) :=
  .upd h hv

def Scope.setWay : Scope := .of (fun z s => { s with near.ways := z.near.ways }) []

theorem Stays.setWay {V : Scope} {s₀ s : State} {w : Nat} {x : Line} (h : Stays V s₀ s) (hv : Scope.setWay.Within V) : Stays V s₀
    (s.setWay w x) :=
  .upd h hv

def Scope.writeLine : Scope := .of (fun z s => { s with mem.dram := z.mem.dram, mem.dramPoison := z.mem.dramPoison }) []

theorem Stays.writeLine {V : Scope} {s₀ s : State} {x : Line} (h : Stays V s₀ s) (hv : Scope.writeLine.Within V) : Stays V s₀
    (s.writeLine x) :=
  .upd h hv

def Scope.toVictim : Scope := .of (fun z s => { s with
    regs := z.regs, near.victims := z.near.victims, mem.dram := z.mem.dram, mem.dramPoison := z.mem.dramPoison }) [.setVictims,
      .writeLine, .reg R.NEAR_EVICT_WB]

theorem Stays.toVictim {V : Scope} {s₀ s : State} {x : Line} (h : Stays V s₀ s) (hv : Scope.toVictim.Within V) : Stays V s₀
    (s.toVictim x) := by
  unfold State.toVictim
  refine .ite (.setVictims h (hv.sub 0)) ?_
  split
  · exact .setVictims h (hv.sub 0)
  · exact .setVictims (.ite (.bump (.writeLine h (hv.sub 1)) (hv.sub 2)) h) (hv.sub 0)

def Scope.vacate : Scope := .of (fun z s => { s with
    regs := z.regs, near.ways := z.near.ways, near.victims := z.near.victims, mem.dram := z.mem.dram,
    mem.dramPoison := z.mem.dramPoison }) [.toVictim]

theorem Stays.vacate {V : Scope} {s₀ s : State} {w : Nat} (h : Stays V s₀ s) (hv : Scope.vacate.Within V) : Stays V s₀ (s.vacate w)
    := by
  unfold State.vacate
  split
  · exact .toVictim (.upd h hv) (hv.sub 0)
  · exact h

def Scope.recall : Scope := .of (fun z s => { s with
    regs := z.regs, near.ways := z.near.ways, near.lru := z.near.lru, near.victims := z.near.victims, mem.dram := z.mem.dram,
    mem.dramPoison := z.mem.dramPoison }) [.setVictims, .reg R.NEAR_VICTIM_HITS, .vacate, .setWay, .touch, .toVictim]

theorem Stays.recall {V : Scope} {s₀ s : State} {x : Line} (h : Stays V s₀ s) (hv : Scope.recall.Within V) : Stays V s₀ (s.recall x)
    := by
  unfold State.recall
  dsimp only
  split
  · exact .touch (.setWay (.vacate (.bump (.setVictims h (hv.sub 0)) (hv.sub 1)) (hv.sub 2)) (hv.sub 3)) (hv.sub 4)
  · exact .toVictim (.bump (.setVictims h (hv.sub 0)) (hv.sub 1)) (hv.sub 5)

def Scope.moveWay : Scope := .of (fun z s => { s with near.ways := z.near.ways, near.misses := z.near.misses }) [.setWay]

theorem Stays.moveWay {V : Scope} {s₀ s : State} {w : Nat} {e : Nat} (h : Stays V s₀ s) (hv : Scope.moveWay.Within V) : Stays V s₀
    (s.moveWay w e) := by
  unfold State.moveWay
  split
  · exact .upd (.setWay (.upd h hv) (hv.sub 0)) hv
  · exact h

def Scope.lockLine : Scope := .of (fun z s => { s with
    regs := z.regs, near.ways := z.near.ways, near.lru := z.near.lru, near.victims := z.near.victims,
    near.misses := z.near.misses, mem.dram := z.mem.dram, mem.dramPoison := z.mem.dramPoison }) [.recall, .moveWay, .touch, .setWay,
      .vacate]

theorem Stays.lockLine {V : Scope} {s₀ s : State} {l : Nat} (h : Stays V s₀ s) (hv : Scope.lockLine.Within V) : Stays V s₀
    (s.lockLine l) := by
  unfold State.lockLine
  dsimp only
  split
  · split
    · refine .touch ?_ (hv.sub 2)
      refine .moveWay ?_ (hv.sub 1)
      refine .ite ?_ h
      split
      · exact .recall h (hv.sub 0)
      · exact h
    · refine .upd ?_ hv
      refine .ite ?_ h
      split
      · exact .recall h (hv.sub 0)
      · exact h
  · split
    · refine .touch ?_ (hv.sub 2)
      refine .setWay ?_ (hv.sub 3)
      refine .ite ?_ h
      split
      · exact .recall h (hv.sub 0)
      · exact h
    · split
      · refine .touch ?_ (hv.sub 2)
        refine .setWay ?_ (hv.sub 3)
        refine .vacate ?_ (hv.sub 4)
        refine .ite ?_ h
        split
        · exact .recall h (hv.sub 0)
        · exact h
      · refine .ite ?_ h
        split
        · exact .recall h (hv.sub 0)
        · exact h

def Scope.sendCommand : Scope := .of (fun z s => { s with
    twin.commands := z.twin.commands, twin.nextCommand := z.twin.nextCommand, twin.frame := z.twin.frame,
    twin.frameAt := z.twin.frameAt, twin.txSeq := z.twin.txSeq, twin.replayBuf := z.twin.replayBuf,
    twin.credit := z.twin.credit, out := z.out }) [.sendItem]

theorem Stays.sendCommand {V : Scope} {s₀ s : State} {cmd : Option Nat} {m : MirrorCommand} (h : Stays V s₀ s) (hv :
    Scope.sendCommand.Within V) : Stays V s₀ (s.sendCommand cmd m) :=
  .sendItem (.upd h hv) (hv.sub 0)

def Scope.mirrorCommand : Scope := .of (fun z s => { s with
    cmds := z.cmds, twin.commands := z.twin.commands, twin.nextCommand := z.twin.nextCommand, twin.frame := z.twin.frame,
    twin.frameAt := z.twin.frameAt, twin.txSeq := z.twin.txSeq, twin.replayBuf := z.twin.replayBuf,
    twin.credit := z.twin.credit, twin.localCommands := z.twin.localCommands, out := z.out }) [.sendCommand, .updCmd]

theorem Stays.mirrorCommand {V : Scope} {s₀ s : State} {c : Cmd} {params : List Nat} (h : Stays V s₀ s) (hv :
    Scope.mirrorCommand.Within V) : Stays V s₀ (s.mirrorCommand c params) :=
  .ite h (.ite (.updCmd (.sendCommand h (hv.sub 0)) (hv.sub 1)) (.upd h hv))

def Scope.finishLock : Scope := .of (fun z s => { s with
    regs := z.regs, hub := z.hub, rings := z.rings, msix := z.msix, cmds := z.cmds, keeper.flash.ram := z.keeper.flash.ram,
    keeper.flash.flood := z.keeper.flash.flood, keeper.flash.counters := z.keeper.flash.counters, prot.grace := z.prot.grace,
    prot.graceEnds := z.prot.graceEnds, near.ways := z.near.ways, near.lru := z.near.lru, near.victims := z.near.victims,
    near.misses := z.near.misses, near.locks := z.near.locks, near.loading := z.near.loading,
    twin.commands := z.twin.commands, twin.nextCommand := z.twin.nextCommand, twin.frame := z.twin.frame,
    twin.frameAt := z.twin.frameAt, twin.txSeq := z.twin.txSeq, twin.replayBuf := z.twin.replayBuf,
    twin.credit := z.twin.credit, twin.localCommands := z.twin.localCommands, mem.dram := z.mem.dram,
    mem.dramPoison := z.mem.dramPoison, out := z.out }) [.lockLine, .loadEnds, .nearViews, .refuse, .mirrorCommand, .endCmd]

theorem Stays.finishLock {V : Scope} {s₀ s : State} {w : Option Nat × Nat × Bool} {e : LockRange} (h : Stays V s₀ s) (hv :
    Scope.finishLock.Within V) : Stays V s₀ (s.finishLock w e) := by
  unfold State.finishLock
  dsimp only
  split
  · exact .nearViews (.foldl (fun _ _ h => .lockLine h (hv.sub 0)) (.loadEnds h (hv.sub 1))) (hv.sub 2)
  · exact .ite (.nearViews (.refuse (.upd (.loadEnds h (hv.sub 1)) hv) (hv.sub 3)) (hv.sub 2)) (.nearViews (.endCmd (.foldl (fun _ _ h
      => .lockLine h (hv.sub 0)) (.mirrorCommand (.loadEnds h (hv.sub 1)) (hv.sub 4))) (hv.sub 5)) (hv.sub 2))

def Scope.updTile : Scope := .of (fun z s => { s with shelf.tiles := z.shelf.tiles }) []

theorem Stays.updTile {V : Scope} {s₀ s : State} {o : Nat} {k : Nat} {f : Tile → Tile} (h : Stays V s₀ s) (hv : Scope.updTile.Within
    V) : Stays V s₀ (s.updTile o k f) :=
  .upd h hv

def Scope.startEvict : Scope := .of (fun z s => { s with shelf.tiles := z.shelf.tiles }) [.updTile]

theorem Stays.startEvict {V : Scope} {s₀ s : State} {o : Nat} {k : Nat} (h : Stays V s₀ s) (hv : Scope.startEvict.Within V) : Stays
    V s₀ (s.startEvict o k) :=
  .updTile h (hv.sub 0)

def Scope.startTile : Scope := .of (fun z s => { s with regs := z.regs, shelf.tiles := z.shelf.tiles }) [.reg R.TIER_FILLS, .reg
  R.TIER_DEMAND_FILLS, .startEvict]

theorem Stays.startTile {V : Scope} {s₀ s : State} {o : Nat} {k : Nat} {want : Nat} {demand : Bool} (h : Stays V s₀ s) (hv :
    Scope.startTile.Within V) : Stays V s₀ (s.startTile o k want demand) := by
  unfold State.startTile
  split
  · exact h
  · refine .ite h ?_
    refine .ite (.when (.bump (.upd h hv) (hv.sub 0)) (fun h => .bump h (hv.sub 1))) ?_
    refine .ite h ?_
    split
    · exact .startEvict h (hv.sub 2)
    · exact h

def Scope.settleLock : Scope := .of (fun z s => { s with
    regs := z.regs, hub := z.hub, rings := z.rings, msix := z.msix, cmds := z.cmds, keeper.flash.ram := z.keeper.flash.ram,
    keeper.flash.flood := z.keeper.flash.flood, keeper.flash.counters := z.keeper.flash.counters, prot.grace := z.prot.grace,
    prot.graceEnds := z.prot.graceEnds, near.ways := z.near.ways, near.lru := z.near.lru, near.victims := z.near.victims,
    near.misses := z.near.misses, near.locks := z.near.locks, near.loading := z.near.loading,
    twin.commands := z.twin.commands, twin.nextCommand := z.twin.nextCommand, twin.frame := z.twin.frame,
    twin.frameAt := z.twin.frameAt, twin.txSeq := z.twin.txSeq, twin.replayBuf := z.twin.replayBuf,
    twin.credit := z.twin.credit, twin.localCommands := z.twin.localCommands, shelf.tiles := z.shelf.tiles,
    mem.dram := z.mem.dram, mem.dramPoison := z.mem.dramPoison, out := z.out }) [.loadEnds, .refuse, .finishLock, .startTile]

theorem Stays.settleLock {V : Scope} {s₀ s : State} {w : Option Nat × Nat × Bool} (h : Stays V s₀ s) (hv : Scope.settleLock.Within
    V) : Stays V s₀ (s.settleLock w) := by
  unfold State.settleLock
  split
  · split
    · exact .refuse (.loadEnds h (hv.sub 0)) (hv.sub 1)
    · exact .loadEnds h (hv.sub 0)
  · exact .ite (.finishLock h (hv.sub 2)) (.foldl (fun _ _ h => .startTile h (hv.sub 3)) h)

def Scope.settleLocks : Scope := .of (fun z s => { s with
    regs := z.regs, hub := z.hub, rings := z.rings, msix := z.msix, cmds := z.cmds, keeper.flash.ram := z.keeper.flash.ram,
    keeper.flash.flood := z.keeper.flash.flood, keeper.flash.counters := z.keeper.flash.counters, prot.grace := z.prot.grace,
    prot.graceEnds := z.prot.graceEnds, near.ways := z.near.ways, near.lru := z.near.lru, near.victims := z.near.victims,
    near.misses := z.near.misses, near.locks := z.near.locks, near.loading := z.near.loading,
    twin.commands := z.twin.commands, twin.nextCommand := z.twin.nextCommand, twin.frame := z.twin.frame,
    twin.frameAt := z.twin.frameAt, twin.txSeq := z.twin.txSeq, twin.replayBuf := z.twin.replayBuf,
    twin.credit := z.twin.credit, twin.localCommands := z.twin.localCommands, shelf.tiles := z.shelf.tiles,
    mem.dram := z.mem.dram, mem.dramPoison := z.mem.dramPoison, out := z.out }) [.settleLock]

theorem Stays.settleLocks {V : Scope} {s₀ s : State} (h : Stays V s₀ s) (hv : Scope.settleLocks.Within V) : Stays V s₀
    (s.settleLocks) :=
  .foldl (fun _ _ h => .settleLock h (hv.sub 0)) h

def Scope.reloadLocks : Scope := .of (fun z s => { s with
    regs := z.regs, hub := z.hub, rings := z.rings, msix := z.msix, cmds := z.cmds, keeper.flash.ram := z.keeper.flash.ram,
    keeper.flash.flood := z.keeper.flash.flood, keeper.flash.counters := z.keeper.flash.counters, prot.grace := z.prot.grace,
    prot.graceEnds := z.prot.graceEnds, near.ways := z.near.ways, near.lru := z.near.lru, near.victims := z.near.victims,
    near.misses := z.near.misses, near.locks := z.near.locks, near.loading := z.near.loading,
    twin.commands := z.twin.commands, twin.nextCommand := z.twin.nextCommand, twin.frame := z.twin.frame,
    twin.frameAt := z.twin.frameAt, twin.txSeq := z.twin.txSeq, twin.replayBuf := z.twin.replayBuf,
    twin.credit := z.twin.credit, twin.localCommands := z.twin.localCommands, shelf.tiles := z.shelf.tiles,
    mem.dram := z.mem.dram, mem.dramPoison := z.mem.dramPoison, out := z.out }) [.settleLocks, .nearViews]

theorem Stays.reloadLocks {V : Scope} {s₀ s : State} (h : Stays V s₀ s) (hv : Scope.reloadLocks.Within V) : Stays V s₀
    (s.reloadLocks) :=
  .ite (.nearViews (.settleLocks (.upd h hv) (hv.sub 0)) (hv.sub 1)) h

def Scope.enableNear : Scope := .of (fun z s => { s with
    regs := z.regs, hub := z.hub, rings := z.rings, msix := z.msix, cmds := z.cmds, keeper.flash.ram := z.keeper.flash.ram,
    keeper.flash.flood := z.keeper.flash.flood, keeper.flash.counters := z.keeper.flash.counters, prot.grace := z.prot.grace,
    prot.graceEnds := z.prot.graceEnds, near.ways := z.near.ways, near.lru := z.near.lru, near.victims := z.near.victims,
    near.misses := z.near.misses, near.locks := z.near.locks, near.reenable := z.near.reenable,
    near.loading := z.near.loading, twin.commands := z.twin.commands, twin.nextCommand := z.twin.nextCommand,
    twin.frame := z.twin.frame, twin.frameAt := z.twin.frameAt, twin.txSeq := z.twin.txSeq,
    twin.replayBuf := z.twin.replayBuf, twin.credit := z.twin.credit, twin.localCommands := z.twin.localCommands,
    shelf.tiles := z.shelf.tiles, mem.dram := z.mem.dram, mem.dramPoison := z.mem.dramPoison, out := z.out }) [.reg R.NEAR_CTRL_ENABLE,
      .reloadLocks]

theorem Stays.enableNear {V : Scope} {s₀ s : State} (h : Stays V s₀ s) (hv : Scope.enableNear.Within V) : Stays V s₀ (s.enableNear)
    :=
  .ite (.reloadLocks (.wr h (hv.sub 0)) (hv.sub 1)) (.ite (.upd h hv) h)

def Scope.countThrottle : Scope := .of (fun z s => { s with regs := z.regs, dur.throttleFrom := z.dur.throttleFrom }) [.reg
  R.DUR_THROTTLE_MS_COUNT]

theorem Stays.countThrottle {V : Scope} {s₀ s : State} (h : Stays V s₀ s) (hv : Scope.countThrottle.Within V) : Stays V s₀
    (s.countThrottle) := by
  unfold State.countThrottle
  split
  · exact .upd (.bump h (hv.sub 0)) hv
  · exact h

def Scope.setStage : Scope := .of (fun z s => { s with
    regs := z.regs, hub := z.hub, rings := z.rings, msix := z.msix, keeper.flash.ram := z.keeper.flash.ram,
    keeper.flash.flood := z.keeper.flash.flood, keeper.flash.counters := z.keeper.flash.counters,
    dur.throttleFrom := z.dur.throttleFrom, twin.frame := z.twin.frame, twin.frameAt := z.twin.frameAt,
    twin.txSeq := z.twin.txSeq, twin.replayBuf := z.twin.replayBuf, twin.credit := z.twin.credit, out := z.out }) [.reg
      R.DUR_STATUS_STAGE, .countThrottle, .raise, .sendStatus]

theorem Stays.setStage {V : Scope} {s₀ s : State} {k : Nat} (h : Stays V s₀ s) (hv : Scope.setStage.Within V) : Stays V s₀
    (s.setStage k) :=
  .ite h (.sendStatus (.raise (.upd (.countThrottle (.wr h (hv.sub 0)) (hv.sub 1)) hv) (hv.sub 2)) (hv.sub 3))

def Scope.overViews : Scope := .of (fun z s => { s with
    regs := z.regs, hub := z.hub, rings := z.rings, msix := z.msix, keeper.flash.ram := z.keeper.flash.ram,
    keeper.flash.flood := z.keeper.flash.flood, keeper.flash.counters := z.keeper.flash.counters, out := z.out }) [.reg
      R.DUR_STATUS_OVER_BUDGET, .raise]

theorem Stays.overViews {V : Scope} {s₀ s : State} (h : Stays V s₀ s) (hv : Scope.overViews.Within V) : Stays V s₀ (s.overViews) :=
  .ite (.ite h (.wr h (hv.sub 0))) (.ite (.raise (.wr h (hv.sub 0)) (hv.sub 1)) h)

def Scope.compareD : Scope := .of (fun z s => { s with
    regs := z.regs, hub := z.hub, rings := z.rings, msix := z.msix, keeper.flash.ram := z.keeper.flash.ram,
    keeper.flash.flood := z.keeper.flash.flood, keeper.flash.counters := z.keeper.flash.counters, dur.peaks := z.dur.peaks,
    dur.below := z.dur.below, dur.throttleFrom := z.dur.throttleFrom, twin.frame := z.twin.frame,
    twin.frameAt := z.twin.frameAt, twin.txSeq := z.twin.txSeq, twin.replayBuf := z.twin.replayBuf,
    twin.credit := z.twin.credit, out := z.out }) [.setStage, .reg R.DUR_DIRTY_PAGES, .reg R.INTEG_TAGSTORE_PAGES, .reg
      R.DUR_PEAK_PAGES, .overViews]

theorem Stays.compareD {V : Scope} {s₀ s : State} (h : Stays V s₀ s) (hv : Scope.compareD.Within V) : Stays V s₀ (s.compareD) := by
  unfold State.compareD
  exact .when (.overViews (.wr (.wr (.wr (.upd (.ite (.setStage h (hv.sub 0)) h) hv) (hv.sub 1)) (hv.sub 2)) (hv.sub 3)) (hv.sub 4)) (fun h
    => .setStage h (hv.sub 0))

def Scope.startFillAs : Scope := .of (fun z s => { s with
    regs := z.regs, near.ways := z.near.ways, near.lru := z.near.lru, near.victims := z.near.victims,
    near.misses := z.near.misses, mem.dram := z.mem.dram, mem.dramPoison := z.mem.dramPoison }) [.vacate, .setWay, .touch]

theorem Stays.startFillAs {V : Scope} {s₀ s : State} {l : Nat} {lock : Bool} (h : Stays V s₀ s) (hv : Scope.startFillAs.Within V) :
    Stays V s₀ (s.startFillAs l lock) := by
  unfold State.startFillAs
  split
  · exact .upd (.touch (.setWay (.vacate h (hv.sub 0)) (hv.sub 1)) (hv.sub 2)) hv
  · exact .upd h hv

def Scope.startFill : Scope := .of (fun z s => { s with
    regs := z.regs, near.ways := z.near.ways, near.lru := z.near.lru, near.victims := z.near.victims,
    near.misses := z.near.misses, mem.dram := z.mem.dram, mem.dramPoison := z.mem.dramPoison }) [.startFillAs]

theorem Stays.startFill {V : Scope} {s₀ s : State} {l : Nat} (h : Stays V s₀ s) (hv : Scope.startFill.Within V) : Stays V s₀
    (s.startFill l) :=
  .startFillAs h (hv.sub 0)

def Scope.sendStreamState : Scope := .of (fun z s => { s with
    twin.frame := z.twin.frame, twin.frameAt := z.twin.frameAt, twin.txSeq := z.twin.txSeq,
    twin.replayBuf := z.twin.replayBuf, twin.credit := z.twin.credit, out := z.out }) [.sendItem]

theorem Stays.sendStreamState {V : Scope} {s₀ s : State} {fields : List Nat} (h : Stays V s₀ s) (hv : Scope.sendStreamState.Within
    V) : Stays V s₀ (s.sendStreamState fields) :=
  .sendItem h (hv.sub 0)

def Scope.carryStream : Scope := .of (fun z s => { s with
    twin.frame := z.twin.frame, twin.frameAt := z.twin.frameAt, twin.txSeq := z.twin.txSeq,
    twin.replayBuf := z.twin.replayBuf, twin.credit := z.twin.credit, out := z.out }) [.sendStreamState]

theorem Stays.carryStream {V : Scope} {s₀ s : State} {fields : List Nat} (h : Stays V s₀ s) (hv : Scope.carryStream.Within V) :
    Stays V s₀ (s.carryStream fields) :=
  .ite (.sendStreamState h (hv.sub 0)) h

def Scope.wakeLine : Scope := .of (fun z s => { s with eng.ops := z.eng.ops }) []

theorem Stays.wakeLine {V : Scope} {s₀ s : State} {l : Nat} (h : Stays V s₀ s) (hv : Scope.wakeLine.Within V) : Stays V s₀
    (s.wakeLine l) :=
  .upd h hv

def Scope.retryFill : Scope := .of (fun z s => { s with
    regs := z.regs, eng.ops := z.eng.ops, near.ways := z.near.ways, near.lru := z.near.lru, near.victims := z.near.victims,
    near.misses := z.near.misses, mem.dram := z.mem.dram, mem.dramPoison := z.mem.dramPoison }) [.wakeLine, .startFill]

theorem Stays.retryFill {V : Scope} {s₀ s : State} {l : Nat} (h : Stays V s₀ s) (hv : Scope.retryFill.Within V) : Stays V s₀
    (s.retryFill l) :=
  .ite h (.ite (.wakeLine h (hv.sub 0)) (.startFill h (hv.sub 1)))

def Scope.nextFill : Scope := .of (fun z s => { s with
    regs := z.regs, eng.ops := z.eng.ops, near.ways := z.near.ways, near.lru := z.near.lru, near.victims := z.near.victims,
    near.misses := z.near.misses, mem.dram := z.mem.dram, mem.dramPoison := z.mem.dramPoison }) [.retryFill]

theorem Stays.nextFill {V : Scope} {s₀ s : State} {b : Nat} (h : Stays V s₀ s) (hv : Scope.nextFill.Within V) : Stays V s₀
    (s.nextFill b) :=
  .foldl (fun _ _ h => .retryFill h (hv.sub 0)) h

def Scope.installFill : Scope := .of (fun z s => { s with
    eng.ops := z.eng.ops, near.ways := z.near.ways, near.misses := z.near.misses, mem.dram := z.mem.dram,
    mem.dramPoison := z.mem.dramPoison }) [.setWay, .writeLine, .wakeLine]

theorem Stays.installFill {V : Scope} {s₀ s : State} {b : Nat} {ue : Bool} (h : Stays V s₀ s) (hv : Scope.installFill.Within V) :
    Stays V s₀ (s.installFill b ue) := by
  unfold State.installFill
  split
  · exact h
  · refine .wakeLine ?_ (hv.sub 2)
    split
    · exact .setWay (.upd h hv) (hv.sub 0)
    · exact .ite (.upd h hv) (.writeLine (.upd h hv) (hv.sub 1))

def Scope.dropLine : Scope := .of (fun z s => { s with
    regs := z.regs, eng.ops := z.eng.ops, near.ways := z.near.ways, near.lru := z.near.lru, near.victims := z.near.victims,
    near.misses := z.near.misses, mem.dram := z.mem.dram, mem.dramPoison := z.mem.dramPoison }) [.installFill, .nextFill, .writeLine,
      .setWay, .setVictims]

theorem Stays.dropLine {V : Scope} {s₀ s : State} {l : Nat} {all : Bool} (h : Stays V s₀ s) (hv : Scope.dropLine.Within V) : Stays V
    s₀ (s.dropLine l all).2 := by
  unfold State.dropLine
  dsimp only
  split
  · split
    · exact .iteOn (.when (.ite (.nextFill (.installFill h (hv.sub 0)) (hv.sub 1)) h) (fun h => .writeLine h (hv.sub 2))) (fun h =>
        .setWay h (hv.sub 3)) (fun h => .upd h hv)
    · exact .ite (.nextFill (.installFill h (hv.sub 0)) (hv.sub 1)) h
  · split
    · exact .setVictims (.when (.ite (.nextFill (.installFill h (hv.sub 0)) (hv.sub 1)) h) (fun h => .writeLine h (hv.sub 2))) (hv.sub 4)
    · exact .ite (.nextFill (.installFill h (hv.sub 0)) (hv.sub 1)) h

def Scope.dropLines : Scope := .of (fun z s => { s with
    regs := z.regs, eng.ops := z.eng.ops, near.ways := z.near.ways, near.lru := z.near.lru, near.victims := z.near.victims,
    near.misses := z.near.misses, mem.dram := z.mem.dram, mem.dramPoison := z.mem.dramPoison }) [.dropLine]

theorem Stays.dropLines {V : Scope} {s₀ s : State} {ls : List Nat} {all : Bool} (h : Stays V s₀ s) (hv : Scope.dropLines.Within V) :
    Stays V s₀ (s.dropLines ls all).2 :=
  .foldlPairSnd (fun _ _ h => .dropLine h (hv.sub 0)) h

def Scope.flashViews : Scope := .of (fun z s => { s with regs := z.regs }) [.reg R.FLASH_ERASED_GIB, .reg R.FLASH_RESERVE_GIB, .reg
  R.FLASH_SPARES_PCT, .reg R.FLASH_WEAR_MEAN_PE, .reg R.FLASH_WEAR_MAX_PE, .reg R.FLASH_STATUS_DIES, .reg R.FLASH_STATUS_IN_SERVICE,
  .reg R.FLASH_SHELF_FREE_GIB]

theorem Stays.flashViews {V : Scope} {s₀ s : State} (h : Stays V s₀ s) (hv : Scope.flashViews.Within V) : Stays V s₀ (s.flashViews)
    :=
  .wr (.wr (.wr (.wr (.wr (.wr (.wr (.wr h (hv.sub 0)) (hv.sub 1)) (hv.sub 2)) (hv.sub 3)) (hv.sub 4)) (hv.sub 5)) (hv.sub 6)) (hv.sub
    7)

def Scope.reportInd : Scope := .of (fun z s => { s with
    regs := z.regs, hub := z.hub, rings := z.rings, msix := z.msix, keeper.flash.ram := z.keeper.flash.ram,
    keeper.flash.flood := z.keeper.flash.flood, keeper.flash.counters := z.keeper.flash.counters,
    keeper.indFault := z.keeper.indFault, out := z.out }) [.raiseKeeper]

theorem Stays.reportInd {V : Scope} {s₀ s : State} (h : Stays V s₀ s) (hv : Scope.reportInd.Within V) : Stays V s₀ (s.reportInd) :=
    by
  unfold State.reportInd
  split
  · exact h
  · exact .raiseKeeper (.upd h hv) (hv.sub 0)

def Scope.reportLinks : Scope := .of (fun z s => { s with
    regs := z.regs, hub := z.hub, rings := z.rings, msix := z.msix, keeper.flash.ram := z.keeper.flash.ram,
    keeper.flash.flood := z.keeper.flash.flood, keeper.flash.counters := z.keeper.flash.counters, out := z.out,
    ports.port := z.ports.port }) [.setLink, .setPort]

theorem Stays.reportLinks {V : Scope} {s₀ s : State} (h : Stays V s₀ s) (hv : Scope.reportLinks.Within V) : Stays V s₀
    (s.reportLinks) :=
  .foldl (fun _ _ h => .foldl (fun _ _ h => .setLink h (hv.sub 0)) (.setPort h (hv.sub 1))) h

def Scope.twinViews : Scope := .of (fun z s => { s with
    regs := z.regs, hub := z.hub, rings := z.rings, msix := z.msix, keeper.outputs := z.keeper.outputs,
    keeper.flash.ram := z.keeper.flash.ram, keeper.flash.flood := z.keeper.flash.flood,
    keeper.flash.counters := z.keeper.flash.counters, keeper.indFault := z.keeper.indFault,
    twin.homeSince := z.twin.homeSince, out := z.out, ports.port := z.ports.port }) [.reg R.TWIN_STATUS_ROLE, .reg
      R.TWIN_STATUS_WITNESS_ONLY, .reg R.TWIN_RESYNC_LEFT_UNITS, .reportLinks, .reportInd]

theorem Stays.twinViews {V : Scope} {s₀ s : State} (h : Stays V s₀ s) (hv : Scope.twinViews.Within V) : Stays V s₀ (s.twinViews) :=
  .upd (.unless (.wr (.flag (.wr h (hv.sub 0)) (hv.sub 1)) (hv.sub 2)) (fun h => .reportInd (.reportLinks h (hv.sub 3)) (hv.sub 4)))
    hv

def Scope.programPage : Scope := .of (fun z s => { s with flash.codewords := z.flash.codewords, flash.logSeq := z.flash.logSeq }) []

theorem Stays.programPage {V : Scope} {s₀ s : State} {page : FlashPage} {tag : Nat} (h : Stays V s₀ s) (hv :
    Scope.programPage.Within V) : Stays V s₀ (s.programPage page tag) :=
  .upd h hv

def Scope.newIncarnation : Scope := .of (fun z s => { s with
    regs := z.regs, cerga.streams := z.cerga.streams, cerga.base := z.cerga.base, twin.frame := z.twin.frame,
    twin.frameAt := z.twin.frameAt, twin.txSeq := z.twin.txSeq, twin.replayBuf := z.twin.replayBuf,
    twin.credit := z.twin.credit, out := z.out }) [.reg R.CERGA_INCARNATION_VALUE, .carryStream]

theorem Stays.newIncarnation {V : Scope} {s₀ s : State} (h : Stays V s₀ s) (hv : Scope.newIncarnation.Within V) : Stays V s₀
    (s.newIncarnation) :=
  .carryStream (.wr (.upd h hv) (hv.sub 0)) (hv.sub 1)

def Scope.restoreDone : Scope := .of (fun z s => { s with
    regs := z.regs, hub := z.hub, rings := z.rings, msix := z.msix, cmds := z.cmds, keeper.flash.ram := z.keeper.flash.ram,
    keeper.flash.flood := z.keeper.flash.flood, keeper.flash.counters := z.keeper.flash.counters, prot.grace := z.prot.grace,
    prot.graceEnds := z.prot.graceEnds, near.ways := z.near.ways, near.lru := z.near.lru, near.victims := z.near.victims,
    near.misses := z.near.misses, near.locks := z.near.locks, near.loading := z.near.loading,
    twin.commands := z.twin.commands, twin.nextCommand := z.twin.nextCommand, twin.frame := z.twin.frame,
    twin.frameAt := z.twin.frameAt, twin.txSeq := z.twin.txSeq, twin.replayBuf := z.twin.replayBuf,
    twin.credit := z.twin.credit, twin.localCommands := z.twin.localCommands, shelf.tiles := z.shelf.tiles,
    mem.dram := z.mem.dram, mem.dramPoison := z.mem.dramPoison, out := z.out }) [.reg R.DUR_RESTORE_STATUS_PHASE, .raise, .reloadLocks]

theorem Stays.restoreDone {V : Scope} {s₀ s : State} (h : Stays V s₀ s) (hv : Scope.restoreDone.Within V) : Stays V s₀
    (s.restoreDone) :=
  .reloadLocks (.raise (.wr h (hv.sub 0)) (hv.sub 1)) (hv.sub 2)

def Scope.firstAdmission : Scope := .of (fun z s => { s with
    regs := z.regs, hub := z.hub, rings := z.rings, msix := z.msix, cmds := z.cmds, keeper.flash.ram := z.keeper.flash.ram,
    keeper.flash.flood := z.keeper.flash.flood, keeper.flash.counters := z.keeper.flash.counters,
    start.presented := z.start.presented, prot.grace := z.prot.grace, prot.graceEnds := z.prot.graceEnds,
    near.ways := z.near.ways, near.lru := z.near.lru, near.victims := z.near.victims, near.misses := z.near.misses,
    near.locks := z.near.locks, near.loading := z.near.loading, ledger.presented := z.ledger.presented,
    ledger.releaseAt := z.ledger.releaseAt, cerga.streams := z.cerga.streams, cerga.base := z.cerga.base,
    twin.commands := z.twin.commands, twin.nextCommand := z.twin.nextCommand, twin.frame := z.twin.frame,
    twin.frameAt := z.twin.frameAt, twin.txSeq := z.twin.txSeq, twin.replayBuf := z.twin.replayBuf,
    twin.credit := z.twin.credit, twin.localCommands := z.twin.localCommands, shelf.tiles := z.shelf.tiles,
    mem.dram := z.mem.dram, mem.dramPoison := z.mem.dramPoison, out := z.out }) [.reg R.DUR_START_TIME_WINDOW_MS, .restoreDone, .reg
      R.DUR_RESTORE_STATUS_PHASE, .newIncarnation, .raise]

theorem Stays.firstAdmission {V : Scope} {s₀ s : State} (h : Stays V s₀ s) (hv : Scope.firstAdmission.Within V) : Stays V s₀
    (s.firstAdmission) :=
  .ite h (.ite (.iteOn (.wr (.upd h hv) (hv.sub 0)) (fun h => .restoreDone h (hv.sub 1)) (fun h => .wr h (hv.sub 2))) (.iteOn (.iteOn
    (.wr (.upd h hv) (hv.sub 0)) (fun h => .restoreDone h (hv.sub 1)) (fun h => .wr h (hv.sub 2))) (fun h => .newIncarnation h
    (hv.sub 3)) (fun h => .raise (.newIncarnation (.upd h hv) (hv.sub 3)) (hv.sub 4))))

def Scope.deriveTarget : Scope := .of (fun z s => { s with regs := z.regs }) [.reg R.PACE_REQUIRED_REQUIRED_MHZ, .reg
  R.PACE_REQUIRED_TARGET_MHZ]

theorem Stays.deriveTarget {V : Scope} {s₀ s : State} (h : Stays V s₀ s) (hv : Scope.deriveTarget.Within V) : Stays V s₀
    (s.deriveTarget) :=
  .wr (.wr h (hv.sub 0)) (hv.sub 1)

def Scope.flushNear : Scope := .of (fun z s => { s with
    regs := z.regs, eng.ops := z.eng.ops, near.ways := z.near.ways, near.lru := z.near.lru, near.victims := z.near.victims,
    near.misses := z.near.misses, mem.dram := z.mem.dram, mem.dramPoison := z.mem.dramPoison }) [.installFill, .dropLines, .nearViews]

theorem Stays.flushNear {V : Scope} {s₀ s : State} (h : Stays V s₀ s) (hv : Scope.flushNear.Within V) : Stays V s₀ (s.flushNear) :=
  .nearViews (.upd (.dropLines (.foldl (fun _ _ h => .installFill h (hv.sub 0)) h) (hv.sub 1)) hv) (hv.sub 2)

def Scope.codewordWritten : Scope := .of (fun z s => { s with
    flash.lost := z.flash.lost, flash.relocate := z.flash.relocate, flash.codewords := z.flash.codewords,
    flash.logSeq := z.flash.logSeq }) [.programPage]

theorem Stays.codewordWritten {V : Scope} {s₀ s : State} {page : FlashPage} {tag : Nat} (h : Stays V s₀ s) (hv :
    Scope.codewordWritten.Within V) : Stays V s₀ (s.codewordWritten page tag) :=
  .upd (.programPage h (hv.sub 0)) hv

def Scope.mergeImage : Scope := .of (fun z s => { s with
    mem.image := z.mem.image, mem.imagePoison := z.mem.imagePoison, flash.lost := z.flash.lost,
    flash.relocate := z.flash.relocate, flash.journal := z.flash.journal, flash.codewords := z.flash.codewords,
    flash.logSeq := z.flash.logSeq }) [.codewordWritten]

theorem Stays.mergeImage {V : Scope} {s₀ s : State} {a : Nat} {d : List Byte} {lost : List Nat} (h : Stays V s₀ s) (hv :
    Scope.mergeImage.Within V) : Stays V s₀ (s.mergeImage a d lost) :=
  .foldl (fun _ _ h => .codewordWritten h (hv.sub 0)) (.upd h hv)

def Scope.mergeEntry : Scope := .of (fun z s => { s with
    mem.image := z.mem.image, mem.imagePoison := z.mem.imagePoison, flash.lost := z.flash.lost,
    flash.relocate := z.flash.relocate, flash.journal := z.flash.journal, flash.codewords := z.flash.codewords,
    flash.logSeq := z.flash.logSeq }) [.mergeImage]

theorem Stays.mergeEntry {V : Scope} {s₀ s : State} {g : Gather} (h : Stays V s₀ s) (hv : Scope.mergeEntry.Within V) : Stays V s₀
    (s.mergeEntry g) :=
  .mergeImage h (hv.sub 0)

def Scope.setMark : Scope := .of (fun z s => { s with
    near.ways := z.near.ways, near.victims := z.near.victims, mem.dramPoison := z.mem.dramPoison }) [.setWay, .setVictims]

theorem Stays.setMark {V : Scope} {s₀ s : State} {l : Nat} {b : Bool} (h : Stays V s₀ s) (hv : Scope.setMark.Within V) : Stays V s₀
    (s.setMark l b) := by
  unfold State.setMark
  dsimp only
  split
  · split
    · exact .ite (.upd h hv) (.setWay h (hv.sub 0))
    · exact h
  · exact .ite (.setVictims h (hv.sub 1)) (.upd h hv)

def Scope.poisonChunks : Scope := .of (fun z s => { s with
    regs := z.regs, hub := z.hub, rings := z.rings, msix := z.msix, keeper.flash.ram := z.keeper.flash.ram,
    keeper.flash.flood := z.keeper.flash.flood, keeper.flash.counters := z.keeper.flash.counters, near.ways := z.near.ways,
    near.victims := z.near.victims, mem.dramPoison := z.mem.dramPoison, out := z.out }) [.raise, .setMark, .reg R.INTEG_POISON_CREATED]

theorem Stays.poisonChunks {V : Scope} {s₀ s : State} {ls : List Nat} (h : Stays V s₀ s) (hv : Scope.poisonChunks.Within V) : Stays
    V s₀ (s.poisonChunks ls) :=
  .foldl (fun _ _ h => .raise h (hv.sub 0)) (.bump (.foldl (fun _ _ h => .setMark h (hv.sub 1)) h) (hv.sub 2))

def Scope.retagPage : Scope := .of (fun z s => { s with dur.dirty := z.dur.dirty }) []

theorem Stays.retagPage {V : Scope} {s₀ s : State} {page : Nat} (h : Stays V s₀ s) (hv : Scope.retagPage.Within V) : Stays V s₀
    (s.retagPage page) :=
  .upd h hv

def Scope.applyLine : Scope := .of (fun z s => { s with
    regs := z.regs, near.ways := z.near.ways, near.lru := z.near.lru, near.victims := z.near.victims,
    near.misses := z.near.misses, mem.dram := z.mem.dram, mem.dramPoison := z.mem.dramPoison }) [.recall, .setWay, .setVictims]

theorem Stays.applyLine {V : Scope} {s₀ s : State} {l : Nat} {o : Nat} {bs : List Byte} {whole : Bool} (h : Stays V s₀ s) (hv :
    Scope.applyLine.Within V) : Stays V s₀ (s.applyLine l o bs whole) := by
  unfold State.applyLine
  dsimp only
  split
  · split
    · refine .ite ?_ ?_
      · refine .upd ?_ hv
        split
        · exact h
        · split
          · exact .recall h (hv.sub 0)
          · exact h
      · refine .setWay ?_ (hv.sub 1)
        split
        · exact h
        · split
          · exact .recall h (hv.sub 0)
          · exact h
    · split
      · exact h
      · split
        · exact .recall h (hv.sub 0)
        · exact h
  · split
    · refine .setVictims ?_ (hv.sub 2)
      split
      · exact h
      · split
        · exact .recall h (hv.sub 0)
        · exact h
    · refine .upd ?_ hv
      split
      · exact h
      · split
        · exact .recall h (hv.sub 0)
        · exact h

def Scope.retagChunk : Scope := .of (fun z s => { s with
    dur.dirty := z.dur.dirty }) [.retagPage]

theorem Stays.retagChunk {V : Scope} {s₀ t s : State} {l : Nat} (h : Stays V s₀ t) (hv : Scope.retagChunk.Within V) :
    Stays V s₀ (s.retagChunk t l) :=
  .ite (.retagPage h (hv.sub 0)) (.upd h hv)

def Scope.applyBytes : Scope := .of (fun z s => { s with
    regs := z.regs, near.ways := z.near.ways, near.lru := z.near.lru, near.victims := z.near.victims, near.misses := z.near.misses,
    mem.dram := z.mem.dram, mem.dramPoison := z.mem.dramPoison, dur.dirty := z.dur.dirty }) [.applyLine, .retagChunk]

theorem Stays.applyBytes {V : Scope} {s₀ s : State} {fuel m : Nat} {bs : List Byte} (h : Stays V s₀ s) (hv : Scope.applyBytes.Within V) :
    Stays V s₀ (s.applyBytes fuel m bs) := by
  induction fuel generalizing s m bs with
  | zero => exact h
  | succ fuel ih =>
    unfold State.applyBytes
    exact .ite h (ih (.retagChunk (.applyLine h (hv.sub 0)) (hv.sub 1)))

def Scope.applyEntry : Scope := .of (fun z s => { s with
    mem := z.mem, flash.lost := z.flash.lost, flash.relocate := z.flash.relocate, flash.journal := z.flash.journal,
    flash.codewords := z.flash.codewords, flash.logSeq := z.flash.logSeq, regs := z.regs, near.ways := z.near.ways,
    near.lru := z.near.lru, near.victims := z.near.victims, near.misses := z.near.misses, dur.dirty := z.dur.dirty, hub := z.hub,
    rings := z.rings, msix := z.msix, keeper.flash.ram := z.keeper.flash.ram, keeper.flash.flood := z.keeper.flash.flood,
    keeper.flash.counters := z.keeper.flash.counters, out := z.out, eng.gather := z.eng.gather }) [.mergeEntry, .applyBytes,
    .poisonChunks]

theorem Stays.applyEntry {V : Scope} {s₀ s : State} {g : Gather} (h : Stays V s₀ s) (hv : Scope.applyEntry.Within V) :
    Stays V s₀ (s.applyEntry g) := by
  have hmerged : Stays V s₀ (if s.runGone g.media g.data.length then s.mergeEntry g else s) := .when h fun h => .mergeEntry h (hv.sub 0)
  unfold State.applyEntry
  extract_lets s₁ s₂
  have h₂ : Stays V s₀ s₂ := .poisonChunks (.applyBytes hmerged (hv.sub 1)) (hv.sub 2)
  clear_value s₂
  exact .upd h₂ hv

def Scope.settleDram : Scope := .of (fun z s => { s with
    mem := z.mem, flash.lost := z.flash.lost, flash.relocate := z.flash.relocate, flash.journal := z.flash.journal,
    flash.codewords := z.flash.codewords, flash.logSeq := z.flash.logSeq, regs := z.regs, near.ways := z.near.ways,
    near.lru := z.near.lru, near.victims := z.near.victims, near.misses := z.near.misses, dur.dirty := z.dur.dirty, hub := z.hub,
    rings := z.rings, msix := z.msix, keeper.flash.ram := z.keeper.flash.ram, keeper.flash.flood := z.keeper.flash.flood,
    keeper.flash.counters := z.keeper.flash.counters, out := z.out, eng.gather := z.eng.gather, eng.ops := z.eng.ops })
    [.applyEntry, .flushNear]

theorem Stays.settleDram {V : Scope} {s₀ s : State} (h : Stays V s₀ s) (hv : Scope.settleDram.Within V) : Stays V s₀ s.settleDram :=
  .flushNear (.foldl (fun _ _ h => .applyEntry h (hv.sub 0)) h) (hv.sub 1)

def Scope.paceViews : Scope := .of (fun z s => { s with regs := z.regs }) [.reg R.PACE_MON_EXCLUDED, .reg
  R.PACE_STATUS_VALID_MONITORS, .reg R.PACE_MIN_MIN_MHZ, .reg R.PACE_MIN_MIN_INDEX]

theorem Stays.paceViews {V : Scope} {s₀ s : State} (h : Stays V s₀ s) (hv : Scope.paceViews.Within V) : Stays V s₀ (s.paceViews) :=
    by
  unfold State.paceViews
  dsimp only
  split
  · exact .wr (.wr (.wr (.foldl (fun _ _ h => .wrN h (hv.sub 0)) h) (hv.sub 1)) (hv.sub 2)) (hv.sub 3)
  · exact .wr (.foldl (fun _ _ h => .wrN h (hv.sub 0)) h) (hv.sub 1)

def Scope.dramState : Scope := .of (fun z s => { s with regs := z.regs }) [.reg R.DRAM_CH_STATUS_STATE]

theorem Stays.dramState {V : Scope} {s₀ s : State} {old : Nat} {new : Nat} (h : Stays V s₀ s) (hv : Scope.dramState.Within V) :
    Stays V s₀ (s.dramState old new) :=
  .foldl (fun _ _ h => .ite (.wrN h (hv.sub 0)) h) h

def Scope.cleanPage : Scope := .of (fun z s => { s with
    regs := z.regs, hub := z.hub, rings := z.rings, msix := z.msix, keeper.flash.ram := z.keeper.flash.ram,
    keeper.flash.flood := z.keeper.flash.flood, keeper.flash.counters := z.keeper.flash.counters, dur.dirty := z.dur.dirty,
    dur.peaks := z.dur.peaks, dur.below := z.dur.below, dur.map := z.dur.map, dur.throttleFrom := z.dur.throttleFrom,
    twin.frame := z.twin.frame, twin.frameAt := z.twin.frameAt, twin.txSeq := z.twin.txSeq,
    twin.replayBuf := z.twin.replayBuf, twin.credit := z.twin.credit, out := z.out }) [.compareD]

theorem Stays.cleanPage {V : Scope} {s₀ s : State} {page : Nat} (h : Stays V s₀ s) (hv : Scope.cleanPage.Within V) : Stays V s₀
    (s.cleanPage page) := by
  unfold State.cleanPage
  exact .compareD (.ite (.upd h hv) (.upd (.upd h hv) hv)) (hv.sub 0)

def Scope.mapPage : Scope := .of (fun z s => { s with
    flash.lost := z.flash.lost, flash.relocate := z.flash.relocate, flash.codewords := z.flash.codewords,
    flash.logSeq := z.flash.logSeq, regs := z.regs, hub := z.hub, rings := z.rings, msix := z.msix,
    keeper.flash.ram := z.keeper.flash.ram, keeper.flash.flood := z.keeper.flash.flood,
    keeper.flash.counters := z.keeper.flash.counters, dur.dirty := z.dur.dirty, dur.peaks := z.dur.peaks, dur.below := z.dur.below,
    dur.map := z.dur.map, dur.throttleFrom := z.dur.throttleFrom, twin.frame := z.twin.frame, twin.frameAt := z.twin.frameAt,
    twin.txSeq := z.twin.txSeq, twin.replayBuf := z.twin.replayBuf, twin.credit := z.twin.credit, out := z.out,
    mem.image := z.mem.image, mem.imagePoison := z.mem.imagePoison, flash.journal := z.flash.journal }) [.codewordWritten,
    .reg R.DUR_WB_BYTES_COUNT, .cleanPage]

theorem Stays.mapPage {V : Scope} {s₀ s : State} {page : Nat} (h : Stays V s₀ s) (hv : Scope.mapPage.Within V) : Stays V s₀
    (s.mapPage page) := by
  unfold State.mapPage
  split
  · exact h
  next p _ =>
    refine .ite h ?_
    extract_lets mem s₁ s₂ flash s₃
    have h₁ : Stays V s₀ s₁ := by
      unfold s₁
      split
      · exact .codewordWritten (.upd h hv) (hv.sub 0)
      · exact h
    clear_value s₁
    have h₂ : Stays V s₀ s₂ := .bump h₁ (hv.sub 1)
    clear_value s₂
    have h₃ : Stays V s₀ s₃ := .upd h₂ hv
    clear_value s₃
    exact .ite (.upd h₃ hv) (.cleanPage h₃ (hv.sub 2))

def Scope.cleanLine : Scope := .of (fun z s => { s with
    near.ways := z.near.ways, near.victims := z.near.victims, mem.dram := z.mem.dram, mem.dramPoison := z.mem.dramPoison }) [.writeLine,
      .setWay, .setVictims]

theorem Stays.cleanLine {V : Scope} {s₀ s : State} {l : Nat} (h : Stays V s₀ s) (hv : Scope.cleanLine.Within V) : Stays V s₀
    (s.cleanLine l) := by
  unfold State.cleanLine
  split
  · split
    · exact .ite (.setWay (.writeLine h (hv.sub 0)) (hv.sub 1)) h
    · exact h
  · split
    · exact .ite (.setVictims (.writeLine h (hv.sub 0)) (hv.sub 2)) h
    · exact h

def Scope.snapshotPage : Scope := .of (fun z s => { s with
    near.ways := z.near.ways, near.victims := z.near.victims, mem.dram := z.mem.dram, mem.dramPoison := z.mem.dramPoison,
    dur.dirty := z.dur.dirty }) [.cleanLine]

theorem Stays.snapshotPage {V : Scope} {s₀ s : State} {page : Nat} {p : DirtyPage} (h : Stays V s₀ s) (hv : Scope.snapshotPage.Within V) :
    Stays V s₀ (s.snapshotPage page p) := by
  unfold State.snapshotPage
  extract_lets s₁ again q
  have h₁ : Stays V s₀ s₁ := .foldl (fun _ _ h => .cleanLine h (hv.sub 0)) h
  clear_value q s₁
  exact .upd h₁ hv

def Scope.programDirty : Scope := .of (fun z s => { s with
    near.ways := z.near.ways, near.victims := z.near.victims, mem := z.mem, dur.dirty := z.dur.dirty, flash.lost := z.flash.lost,
    flash.relocate := z.flash.relocate, flash.codewords := z.flash.codewords, flash.logSeq := z.flash.logSeq, regs := z.regs,
    hub := z.hub, rings := z.rings, msix := z.msix, keeper.flash.ram := z.keeper.flash.ram,
    keeper.flash.flood := z.keeper.flash.flood, keeper.flash.counters := z.keeper.flash.counters, dur.peaks := z.dur.peaks,
    dur.below := z.dur.below, dur.map := z.dur.map, dur.throttleFrom := z.dur.throttleFrom, twin.frame := z.twin.frame,
    twin.frameAt := z.twin.frameAt, twin.txSeq := z.twin.txSeq, twin.replayBuf := z.twin.replayBuf, twin.credit := z.twin.credit,
    out := z.out, flash.journal := z.flash.journal, flash.erased := z.flash.erased }) [.snapshotPage, .mapPage]

/-- Storing how much is erased. -/
theorem Stays.erased {V : Scope} {s₀ s : State} (h : Stays V s₀ s) (n : Nat) (hv : Scope.programDirty.Within V) :
    Stays V s₀ { s with flash.erased := n } := .upd h hv

theorem Stays.programDirty {V : Scope} {s₀ s : State} {page : Nat} (h : Stays V s₀ s) (hv : Scope.programDirty.Within V) :
    Stays V s₀ (s.programDirty page) := by
  unfold State.programDirty
  split
  · exact h
  next p _ =>
    split
    · split
      · exact .upd h hv
      · exact h
    · have hmap : Stays V s₀ ((s.snapshotPage page p).mapPage page) := .mapPage (.snapshotPage h (hv.sub 0)) (hv.sub 1)
      exact hmap.erased _ hv

def Scope.programAll : Scope := .of (fun z s => { s with
    near.ways := z.near.ways, near.victims := z.near.victims, mem := z.mem, dur.dirty := z.dur.dirty, flash.lost := z.flash.lost,
    flash.relocate := z.flash.relocate, flash.codewords := z.flash.codewords, flash.logSeq := z.flash.logSeq, regs := z.regs,
    hub := z.hub, rings := z.rings, msix := z.msix, keeper.flash.ram := z.keeper.flash.ram,
    keeper.flash.flood := z.keeper.flash.flood, keeper.flash.counters := z.keeper.flash.counters, dur.peaks := z.dur.peaks,
    dur.below := z.dur.below, dur.map := z.dur.map, dur.throttleFrom := z.dur.throttleFrom, twin.frame := z.twin.frame,
    twin.frameAt := z.twin.frameAt, twin.txSeq := z.twin.txSeq, twin.replayBuf := z.twin.replayBuf, twin.credit := z.twin.credit,
    out := z.out, flash.journal := z.flash.journal, flash.erased := z.flash.erased }) [.programDirty, .flashViews]

theorem Stays.programAll {V : Scope} {s₀ s : State} (h : Stays V s₀ s) (hv : Scope.programAll.Within V) : Stays V s₀ s.programAll :=
  .flashViews (.foldl (fun _ _ h => .programDirty h (hv.sub 0)) h) (hv.sub 1)

def Scope.startFails : Scope := .of (fun z s => { s with regs := z.regs }) [.reg R.DUR_RESTORE_STATUS_PHASE, .reg
  R.DUR_RESTORE_STATUS_FAIL_CODE]

theorem Stays.startFails {V : Scope} {s₀ s : State} {code : Nat} (h : Stays V s₀ s) (hv : Scope.startFails.Within V) : Stays V s₀
    (s.startFails code) :=
  .ite h (.wr (.wr h (hv.sub 0)) (hv.sub 1))

def Scope.cipherTests : Scope := .of (fun z s => { s with
    regs := z.regs, hub := z.hub, rings := z.rings, msix := z.msix, keeper.flash.ram := z.keeper.flash.ram,
    keeper.flash.flood := z.keeper.flash.flood, keeper.flash.counters := z.keeper.flash.counters, out := z.out }) [.raise, .reg
      R.CIPHER_STATUS_CLUSTERS_OK, .startFails]

theorem Stays.cipherTests {V : Scope} {s₀ s : State} {mask : Nat} (h : Stays V s₀ s) (hv : Scope.cipherTests.Within V) : Stays V s₀
    (s.cipherTests mask) :=
  .when (.foldl (fun _ _ h => .raise h (hv.sub 0)) (.wr h (hv.sub 1))) (fun h => .startFails h (hv.sub 2))

end

end Sys2Proof.Machine


/-! The power states P0, P1 and P2 (R387 to R390). -/

namespace Sys2Proof.Machine

open Sys2Proof

section

set_option Elab.async false

/-! ### The shared steps -/

theorem State.rd_setPower (s : State) (p : Nat) (hp : p < 8) : (s.setPower p).rd R.LIFE_STATE_POWER = p := by
  unfold State.setPower
  split
  · assumption
  · rw [State.rd, State.rdN_raiseKeeper_silent _ _ _ rfl]
    exact (State.rd_wr_self ..).trans (Nat.mod_eq_of_lt (by simpa [R.LIFE_STATE_POWER] using hp))

@[simp] theorem State.rd_deriveTarget_power (s : State) : s.deriveTarget.rd R.LIFE_STATE_POWER = s.rd R.LIFE_STATE_POWER :=
  Stays.rdN (.deriveTarget .refl .self) _ 0 rfl

/-- What the end of a command leaves of its fields: everything. -/
theorem State.Live.rd_ended {s : State} {id : Nat} (h : s.Live id) (st de re : Nat) (f : Fld) :
    (s.endCmd id st de re).rd f = s.rd f := by
  rw [h.endCmd_eq]
  rfl

theorem State.Live.rd_finished {s : State} {id : Nat} (h : s.Live id) (st : Nat) (f : Fld) : (s.finish id st).rd f = s.rd f :=
  h.rd_ended st 0 0 f

theorem State.Live.start_finished {s : State} {id : Nat} (h : s.Live id) (st : Nat) : (s.finish id st).start = s.start := by
  unfold State.finish
  rw [h.endCmd_eq]
  rfl

/-- P0 and P1, with the rate they ask for. -/
def State.paced (s : State) (p : Nat) (auto : Bool) : State := { s.setPower p with pace.automatic := auto }.deriveTarget

theorem State.rd_paced (s : State) (p : Nat) (auto : Bool) (hp : p < 8) : (s.paced p auto).rd R.LIFE_STATE_POWER = p :=
  (State.rd_deriveTarget_power _).trans (s.rd_setPower p hp)

theorem State.automatic_paced (s : State) (p : Nat) (auto : Bool) : (s.paced p auto).pace.automatic = auto :=
  Stays.part (fun t => t.pace.automatic) (.deriveTarget .refl .self)

theorem State.Live.paced {s : State} {id : Nat} (h : s.Live id) (p : Nat) (auto : Bool) : (s.paced p auto).Live id :=
  Stays.live (.deriveTarget .refl .self) rfl id (Stays.live (.setPower .refl .self) rfl id h)

/-- A command that moves to P0 or P1. -/
theorem State.ended_paced {s : State} {c : Cmd} (h : s.Live c.id) (p : Nat) (hp : p < 8) :
    Ended ((s.paced p false).finish c.id St.DONE) c St.DONE 0 0 ∧
      ((s.paced p false).finish c.id St.DONE).rd R.LIFE_STATE_POWER = p :=
  ⟨(h.paced p false).ended_finish _, ((h.paced p false).rd_finished ..).trans (s.rd_paced p false hp)⟩

theorem exec_quiesce_one (s : State) (r : CmdRef) (c : Cmd) (flags : Nat) (hacc : Accepts s r 0x0906 c)
    (hpower : s.rd R.LIFE_STATE_POWER ≠ 2) :
    ∃ t, exec (.quiesce r 1 flags) s = .next t ∧ Ended t c St.DONE 0 0 ∧ t.rd R.LIFE_STATE_POWER = 1 := by
  have hexec : exec (.quiesce r 1 flags) s = .next (((s.accepted c).paced 1 false).finish c.id St.DONE) := by
    refine congrArg Host.Outcome.next ((State.command_of_accepts hacc _).trans ?_)
    exact (if_neg (by simp)).trans ((if_pos (by simp)).trans (if_neg (by simpa using hpower)))
  exact ⟨_, hexec, State.ended_paced (State.live_accepted hacc) 1 (by omega)⟩

theorem exec_quiesce_three (s : State) (r : CmdRef) (c : Cmd) (flags : Nat) (hacc : Accepts s r 0x0906 c) :
    ∃ t, exec (.quiesce r 3 flags) s = .next t ∧ Ended t c St.DONE 0 s.nextSaveSeq ∧ t.save.active = true ∧ t.save.trigger = 6 ∧
      t.save.action = .keep := by
  have hexec : exec (.quiesce r 3 flags) s =
      .next (((s.accepted c).startSave 6 .keep (some c.tag) none none).endCmd c.id St.DONE 0 s.nextSaveSeq) := by
    refine congrArg Host.Outcome.next ((State.command_of_accepts hacc _).trans ?_)
    exact (if_neg (by simp)).trans ((if_neg (by simp)).trans ((if_pos (by simp)).trans (by simp [State.nextSaveSeq])))
  have hlive := Stays.live (Stays.startSave (trigger := 6) (action := .keep) (tag := some c.tag) (change := none) (activate := none)
    .refl .self) rfl c.id (State.live_accepted hacc)
  obtain ⟨-, -, hcore, hsave, -⟩ := id hacc
  refine ⟨_, hexec, hlive.ended _ _ _, ?_⟩
  rw [hlive.endCmd_eq]
  have hsaved := (s.accepted c).startSave_new 6 .keep (some c.tag) none none hcore hsave
  exact ⟨congrArg Save.active hsaved, congrArg Save.trigger hsaved, congrArg Save.action hsaved⟩

/-! ### P2 -/

def Scope.quiesceTail : Scope := .of (fun z s => { s with
    near.ways := z.near.ways, near.victims := z.near.victims, mem := z.mem, dur.dirty := z.dur.dirty, flash.lost := z.flash.lost,
    flash.relocate := z.flash.relocate, flash.codewords := z.flash.codewords, flash.logSeq := z.flash.logSeq, regs := z.regs,
    hub := z.hub, rings := z.rings, msix := z.msix, keeper.flash.ram := z.keeper.flash.ram,
    keeper.flash.flood := z.keeper.flash.flood, keeper.flash.counters := z.keeper.flash.counters, dur.peaks := z.dur.peaks,
    dur.below := z.dur.below, dur.map := z.dur.map, dur.throttleFrom := z.dur.throttleFrom, twin.frame := z.twin.frame,
    twin.frameAt := z.twin.frameAt, twin.txSeq := z.twin.txSeq, twin.replayBuf := z.twin.replayBuf, twin.credit := z.twin.credit,
    out := z.out, flash.journal := z.flash.journal, flash.erased := z.flash.erased, keeper.outputs := z.keeper.outputs,
    keeper.indFault := z.keeper.indFault, twin.homeSince := z.twin.homeSince, ports.port := z.ports.port }) [.programAll,
    .dramState, .setPower, .paceViews, .sendStatus, .twinViews]

/-- Once DRAM holds what was in flight: the rest of entering P2. -/
def State.quiesceTail (s : State) : State := ((((s.programAll.dramState 2 4).setPower 2).paceViews).sendStatus).twinViews

theorem Stays.quiesceTail {V : Scope} {s₀ s : State} (h : Stays V s₀ s) (hv : Scope.quiesceTail.Within V) : Stays V s₀ s.quiesceTail :=
  .twinViews (.sendStatus (.paceViews (.setPower (.dramState (.programAll h (hv.sub 0)) (hv.sub 1)) (hv.sub 2)) (hv.sub 3)) (hv.sub 4)) (hv.sub 5)

/-- DRAM holds what was in flight, and nothing is admitted. -/
def State.quiesceSettled (s : State) : State := { s with start.admitted := false, near.reenable := false }.settleDram

theorem State.Live.quiesceSettled {s : State} {id : Nat} (h : s.Live id) : s.quiesceSettled.Live id :=
  Stays.live (.settleDram .refl .self) rfl id (h.congr rfl)

theorem State.admitted_quiesceSettled (s : State) : s.quiesceSettled.start.admitted = false :=
  Stays.part (fun t => t.start.admitted) (.settleDram .refl .self)

theorem State.Live.quiesceTail {s : State} {id : Nat} (h : s.Live id) : s.quiesceTail.Live id :=
  Stays.live (.quiesceTail .refl .self) rfl id h

theorem State.admitted_quiesceTail (s : State) : s.quiesceTail.start.admitted = s.start.admitted :=
  Stays.part (fun t => t.start.admitted) (.quiesceTail .refl .self)

theorem State.rd_quiesceTail_enable (s : State) : s.quiesceTail.rd R.NEAR_CTRL_ENABLE = s.rd R.NEAR_CTRL_ENABLE :=
  Stays.rdN (.quiesceTail .refl .self) _ 0 rfl

/-- What follows the move to P2 writes views and sends the twin its status. -/
theorem State.rd_quiesceTail_power (s : State) : s.quiesceTail.rd R.LIFE_STATE_POWER = 2 := by
  have hviews (t : State) : t.paceViews.sendStatus.twinViews.rd R.LIFE_STATE_POWER = t.rd R.LIFE_STATE_POWER :=
    (Stays.rdN (.twinViews .refl .self) _ 0 rfl).trans
      ((Stays.rdN (.sendStatus .refl .self) _ 0 rfl).trans (Stays.rdN (.paceViews .refl .self) _ 0 rfl))
  exact (hviews _).trans (State.rd_setPower _ 2 (by omega))

/-- The near cache once it is off: a raise of NEAR_DISABLED follows the write. -/
def State.nearOff (s : State) : State := ((s.wr R.NEAR_CTRL_ENABLE 0).wr R.NEAR_FLUSH_LEFT_LINES 0).raise Ev.NEAR_DISABLED []

theorem State.rd_nearOff_enable (s : State) : s.nearOff.rd R.NEAR_CTRL_ENABLE = 0 := by
  unfold State.nearOff
  rw [State.rd, State.rdN_raise_silent _ _ _ rfl]
  exact (State.rdN_wrN_clearOf _ _ _ _ rfl).trans (State.rd_wr_self ..)

theorem State.Live.nearOff {s : State} {id : Nat} (h : s.Live id) : s.nearOff.Live id :=
  Stays.live (.raise .refl .self) rfl id (h.congr (by simp))

theorem State.admitted_nearOff (s : State) : s.nearOff.start.admitted = s.start.admitted :=
  (Stays.part (fun t => t.start.admitted) (.raise .refl .self)).trans (by simp)

theorem State.enterQuiesce_eq (s : State) :
    s.enterQuiesce = (if s.rd R.NEAR_CTRL_ENABLE != 0 then s.quiesceSettled.nearOff else s.quiesceSettled).quiesceTail := rfl

/-- P2: the near cache is off, nothing is admitted, and the commands in flight are still there. -/
theorem State.enterQuiesce_leaves (s : State) : s.enterQuiesce.rd R.LIFE_STATE_POWER = 2 ∧ s.enterQuiesce.rd R.NEAR_CTRL_ENABLE = 0 ∧
    s.enterQuiesce.start.admitted = false ∧ ∀ id, s.Live id → s.enterQuiesce.Live id := by
  rw [State.enterQuiesce_eq]
  refine ⟨State.rd_quiesceTail_power _, ?_⟩
  rw [State.rd_quiesceTail_enable, State.admitted_quiesceTail]
  by_cases h : s.rd R.NEAR_CTRL_ENABLE = 0
  · rw [if_neg (by simp [h])]
    exact ⟨(Stays.rdN (.settleDram .refl .self) _ 0 rfl).trans h, s.admitted_quiesceSettled, fun _ l => l.quiesceSettled.quiesceTail⟩
  · rw [if_pos (by simp [h])]
    exact ⟨State.rd_nearOff_enable _, (State.admitted_nearOff _).trans s.admitted_quiesceSettled,
      fun _ l => l.quiesceSettled.nearOff.quiesceTail⟩

@[simp] theorem State.quiesceYields_clamped (s : State) (k : Nat) : (s.clamped k).quiesceYields = s.quiesceYields := by
  simp (disch := decide) [State.quiesceYields, State.isActive, State.leaseValid, State.standbyCurrent, State.paired, State.linkUp,
    State.hasWitness, State.roleStrap, State.now, State.rd]
  rfl

/-- A QUIESCE for P2 that neither yields nor is refused enters P2. -/
theorem State.quiesce_of_settled (s : State) (c : Cmd) (force : Bool) (k : Nat) (hpower : s.rd R.LIFE_STATE_POWER ≠ 2)
    (hyields : s.quiesceYields = false) (hforce : force = true ∨ s.isActive = false) :
    s.quiesce c force k = ((s.clamped k).enterQuiesce).finish c.id St.DONE := by
  have hrefused : ¬ (s.isActive && !force && s.rd R.LIFE_STATE_POWER != 2 && !s.quiesceYields) = true := by
    rcases hforce with h | h <;> simp [h]
  have hclamped : (s.clamped k).rd R.LIFE_STATE_POWER = s.rd R.LIFE_STATE_POWER := State.rdN_clamped s k rfl 0
  unfold State.quiesce
  dsimp only
  rw [if_neg hrefused, if_neg (by rwa [hclamped]), if_neg (by simp [hyields])]

theorem exec_quiesce_two (s : State) (r : CmdRef) (c : Cmd) (level flags : Nat) (hacc : Accepts s r 0x0906 c) (hone : level ≠ 1)
    (hthree : level ≠ 3) (hpower : s.rd R.LIFE_STATE_POWER ≠ 2) (hyields : s.quiesceYields = false)
    (hforce : flags % 2 = 1 ∨ s.isActive = false) (hops : s.eng.ops.all (fun o => o.responded) = true) :
    ∃ t, exec (.quiesce r level flags) s = .next t ∧ Ended t c St.DONE 0 0 ∧ t.rd R.LIFE_STATE_POWER = 2 ∧ t.rd R.NEAR_CTRL_ENABLE = 0 ∧
      t.start.admitted = false := by
  have hl : (if level < 1 ∨ 3 < level then 2 else level) = 2 := by split <;> omega
  have hexec : exec (.quiesce r level flags) s =
      .next (((s.accepted c).clamped (moved 2 level)).enterQuiesce.finish c.id St.DONE) := by
    refine congrArg Host.Outcome.next ((State.command_of_accepts hacc _).trans ?_)
    dsimp only
    rw [hl]
    have hwaits : (s.accepted c).quiesceWaits (flags % 2 == 1) = false := by simp [State.quiesceWaits, hops]
    refine (if_neg (by simp [hwaits])).trans ((if_neg (by omega)).trans ((if_neg (by omega)).trans ?_))
    exact State.quiesce_of_settled _ c _ _ hpower hyields (hforce.imp_left (by simp [·]))
  obtain ⟨hp2, hnear, hadmitted, hcmds⟩ := ((s.accepted c).clamped (moved 2 level)).enterQuiesce_leaves
  have hlive := hcmds c.id ((State.live_accepted hacc).clamped _)
  exact ⟨_, hexec, hlive.ended_finish _, (hlive.rd_finished ..).trans hp2, (hlive.rd_finished ..).trans hnear,
    (congrArg Start.admitted (hlive.start_finished _)).trans hadmitted⟩

/-! ### Leaving P2 -/

def Scope.wakeTested : Scope := .of (fun z s => { s with
    regs := z.regs, hub := z.hub, rings := z.rings, msix := z.msix, keeper.flash.ram := z.keeper.flash.ram,
    keeper.flash.flood := z.keeper.flash.flood, keeper.flash.counters := z.keeper.flash.counters, out := z.out }) [.dramState,
    .setPower, .cipherTests, .paceViews]

/-- P0 after P2, up to the test of the clusters. -/
def State.wakeTested (s : State) (mask : Nat) : State := (((s.dramState 4 2).setPower 0).cipherTests mask).paceViews

theorem Stays.wakeTested {V : Scope} {s₀ s : State} {mask : Nat} (h : Stays V s₀ s) (hv : Scope.wakeTested.Within V) :
    Stays V s₀ (s.wakeTested mask) :=
  .paceViews (.cipherTests (.setPower (.dramState h (hv.sub 0)) (hv.sub 1)) (hv.sub 2)) (hv.sub 3)

def Scope.wakeOpened : Scope := .of (fun z s => { s with
    regs := z.regs, hub := z.hub, rings := z.rings, msix := z.msix, cmds := z.cmds, keeper.flash.ram := z.keeper.flash.ram,
    keeper.flash.flood := z.keeper.flash.flood, keeper.flash.counters := z.keeper.flash.counters, prot.grace := z.prot.grace,
    prot.graceEnds := z.prot.graceEnds, near.ways := z.near.ways, near.lru := z.near.lru, near.victims := z.near.victims,
    near.misses := z.near.misses, near.locks := z.near.locks, near.reenable := z.near.reenable, near.loading := z.near.loading,
    twin.commands := z.twin.commands, twin.nextCommand := z.twin.nextCommand, twin.frame := z.twin.frame,
    twin.frameAt := z.twin.frameAt, twin.txSeq := z.twin.txSeq, twin.replayBuf := z.twin.replayBuf, twin.credit := z.twin.credit,
    twin.localCommands := z.twin.localCommands, shelf.tiles := z.shelf.tiles, mem.dram := z.mem.dram,
    mem.dramPoison := z.mem.dramPoison, out := z.out, keeper.outputs := z.keeper.outputs, keeper.indFault := z.keeper.indFault,
    twin.homeSince := z.twin.homeSince, ports.port := z.ports.port, start.presented := z.start.presented,
    ledger.presented := z.ledger.presented, ledger.releaseAt := z.ledger.releaseAt, cerga.streams := z.cerga.streams,
    cerga.base := z.cerga.base, start.admitted := z.start.admitted }) [.enableNear, .sendStatus, .twinViews, .firstAdmission]

/-- Admission opens again where the clusters passed. -/
def State.wakeOpened (s : State) : State :=
  { s with start.admitted := decide (11 ≤ s.start.step) && (s.rd R.LIFE_STATE_LIFECYCLE == 1 || s.rd R.LIFE_STATE_LIFECYCLE == 2) }
    |>.enableNear.sendStatus.twinViews.firstAdmission

theorem Stays.wakeOpened {V : Scope} {s₀ s : State} (h : Stays V s₀ s) (hv : Scope.wakeOpened.Within V) : Stays V s₀ s.wakeOpened :=
  .firstAdmission (.twinViews (.sendStatus (.enableNear (.upd h hv) (hv.sub 0)) (hv.sub 1)) (hv.sub 2)) (hv.sub 3)

theorem State.leaveQuiesce_eq (s : State) (mask : Nat) : s.leaveQuiesce mask =
    if (s.wakeTested mask).failCode = 4 then s.wakeTested mask else (s.wakeTested mask).wakeOpened.moveWaiters := rfl

theorem State.rd_wakeTested_power (s : State) (mask : Nat) : (s.wakeTested mask).rd R.LIFE_STATE_POWER = 0 := by
  have htests (t : State) : (t.cipherTests mask).paceViews.rd R.LIFE_STATE_POWER = t.rd R.LIFE_STATE_POWER :=
    (Stays.rdN (.paceViews .refl .self) _ 0 rfl).trans (Stays.rdN (.cipherTests .refl .self) _ 0 rfl)
  exact (htests _).trans (State.rd_setPower _ 0 (by omega))

theorem State.rd_wakeOpened_power (s : State) : s.wakeOpened.rd R.LIFE_STATE_POWER = s.rd R.LIFE_STATE_POWER :=
  Stays.rdN (.wakeOpened .refl .self) _ 0 rfl

theorem State.waiting_wakeOpened (s : State) (mask : Nat) : (s.wakeTested mask).wakeOpened.eng.waiting = s.eng.waiting :=
  (Stays.part (·.eng.waiting) (.wakeOpened .refl .self)).trans (Stays.part (·.eng.waiting) (.wakeTested .refl .self))

theorem State.Live.wakeTested {s : State} {id : Nat} (h : s.Live id) (mask : Nat) : (s.wakeTested mask).Live id :=
  Stays.live (.wakeTested .refl .self) rfl id h

theorem State.Live.wakeOpened {s : State} {id : Nat} (h : s.Live id) : s.wakeOpened.Live id :=
  Stays.live (.wakeOpened .refl .self) rfl id h

/-- With nothing waiting for admission, leaving P2 ends in P0 and leaves the commands in flight. -/
theorem State.leaveQuiesce_leaves (s : State) (mask : Nat) (hwait : s.eng.waiting = []) :
    (s.leaveQuiesce mask).rd R.LIFE_STATE_POWER = 0 ∧ ∀ id, s.Live id → (s.leaveQuiesce mask).Live id := by
  rw [State.leaveQuiesce_eq]
  split
  · exact ⟨s.rd_wakeTested_power mask, fun _ l => l.wakeTested mask⟩
  · rw [State.moveWaiters_of_nil ((s.waiting_wakeOpened mask).trans hwait)]
    exact ⟨(State.rd_wakeOpened_power _).trans (s.rd_wakeTested_power mask), fun _ l => (l.wakeTested mask).wakeOpened⟩

theorem exec_resume (s : State) (r : CmdRef) (c : Cmd) (mask : Nat) (hacc : Accepts s r 0x0907 c) (hwait : s.eng.waiting = []) :
    ∃ t, exec (.resume r mask) s = .next t ∧ Ended t c St.DONE 0 0 ∧
      (s.rd R.LIFE_STATE_POWER = 1 ∨ s.rd R.LIFE_STATE_POWER = 2 → t.rd R.LIFE_STATE_POWER = 0) := by
  have hlive := State.live_accepted hacc
  by_cases h2 : s.rd R.LIFE_STATE_POWER = 2
  · obtain ⟨hpower, hcmds⟩ := (s.accepted c).leaveQuiesce_leaves mask hwait
    refine ⟨_, congrArg Host.Outcome.next ((State.command_of_accepts hacc _).trans (if_pos h2)), ?_⟩
    exact ⟨(hcmds _ hlive).ended_finish _, fun _ => ((hcmds _ hlive).rd_finished ..).trans hpower⟩
  · by_cases h1 : s.rd R.LIFE_STATE_POWER = 1
    · refine ⟨_, congrArg Host.Outcome.next ((State.command_of_accepts hacc _).trans ((if_neg h2).trans (if_pos h1))), ?_⟩
      obtain ⟨hended, hpower⟩ := State.ended_paced hlive 0 (by omega)
      exact ⟨hended, fun _ => hpower⟩
    · refine ⟨_, congrArg Host.Outcome.next ((State.command_of_accepts hacc _).trans ((if_neg h2).trans (if_neg h1))), ?_⟩
      exact ⟨hlive.ended_finish _, fun h => absurd h (not_or.mpr ⟨h1, h2⟩)⟩

/-! ### The automatic P1 -/

theorem exec_pacedEntryTimer (s : State) (hcore : s.coreOn = true) (hsave : s.save.active = false) (hauto : s.on R.LIFE_POWER_AUTO_PACED = true)
    (hpower : s.rd R.LIFE_STATE_POWER = 0) (hstep : 11 ≤ s.start.step) :
    ∃ t, exec .pacedEntryTimer s = .next t ∧ t.rd R.LIFE_STATE_POWER = 1 ∧ t.pace.automatic = true := by
  have hexec : exec .pacedEntryTimer s = .next (s.paced 1 true) :=
    congrArg Host.Outcome.next (if_pos (by simp [hcore, hsave, hauto, hpower, hstep]))
  exact ⟨_, hexec, s.rd_paced 1 true (by omega), s.automatic_paced 1 true⟩

theorem exec_pacedExit (s : State) (hcore : s.coreOn = true) (hsave : s.save.active = false) (hauto : s.pace.automatic = true)
    (hpower : s.rd R.LIFE_STATE_POWER = 1) :
    ∃ t, exec .pacedExit s = .next t ∧ t.rd R.LIFE_STATE_POWER = 0 ∧ t.pace.automatic = false := by
  have hexec : exec .pacedExit s = .next (s.paced 0 false) :=
    congrArg Host.Outcome.next (if_pos (by simp [hcore, hsave, hauto, hpower]))
  exact ⟨_, hexec, s.rd_paced 0 false (by omega), s.automatic_paced 0 false⟩

/-- Settles O36: each move writes the power state after what it brings to rest, and what follows writes views of it. -/
theorem powerStateCommands : Obligations.PowerStateCommands := by
  unfold Obligations.PowerStateCommands
  exact ⟨exec_quiesce_one, exec_quiesce_two, exec_quiesce_three, fun s r c mask hacc hwait _ => exec_resume s r c mask hacc hwait,
    exec_pacedEntryTimer, exec_pacedExit⟩

end

end Sys2Proof.Machine


/-! What the rows of the Braze link may write. -/

namespace Sys2Proof.Machine

open Sys2Proof

section

set_option Elab.async false

def Scope.announceNow : Scope := .of (fun z s => { s with out := z.out }) [.send]

theorem Stays.announceNow {V : Scope} {s₀ s : State} (h : Stays V s₀ s) (hv : Scope.announceNow.Within V) : Stays V s₀
    (s.announceNow) :=
  .foldl (fun _ _ h => .send (.send h (hv.sub 0)) (hv.sub 0)) h

def Scope.startAnnounce : Scope := .of (fun z s => { s with twin.announce := z.twin.announce, out := z.out }) [.announceNow]

theorem Stays.startAnnounce {V : Scope} {s₀ s : State} (h : Stays V s₀ s) (hv : Scope.startAnnounce.Within V) : Stays V s₀
    (s.startAnnounce) :=
  .upd (.announceNow h (hv.sub 0)) hv

def Scope.sendRequest : Scope := .of (fun z s => { s with
    regs := z.regs, domain.counter := z.domain.counter, domain.nextMsg := z.domain.nextMsg,
    domain.requests := z.domain.requests, out := z.out }) [.sendDomain]

theorem Stays.sendRequest {V : Scope} {s₀ s : State} {type : Nat} {dsts : List Nat} {fields : List Nat} {cmd : Option Nat} (h :
    Stays V s₀ s) (hv : Scope.sendRequest.Within V) : Stays V s₀ (s.sendRequest type dsts fields cmd) :=
  .foldl (fun _ _ h => .sendDomain (.upd h hv) (hv.sub 0)) (.upd h hv)

def Scope.updOp : Scope := .of (fun z s => { s with eng.ops := z.eng.ops }) []

theorem Stays.updOp {V : Scope} {s₀ s : State} {id : Nat} {f : Op → Op} (h : Stays V s₀ s) (hv : Scope.updOp.Within V) : Stays V s₀
    (s.updOp id f) :=
  .upd h hv

def Scope.endOp : Scope := .of (fun z s => { s with eng.ops := z.eng.ops }) [.updOp]

theorem Stays.endOp {V : Scope} {s₀ s : State} {id : Nat} {st : Nat} (h : Stays V s₀ s) (hv : Scope.endOp.Within V) : Stays V s₀
    (s.endOp id st) :=
  .updOp h (hv.sub 0)

def Scope.demandTile : Scope := .of (fun z s => { s with regs := z.regs, shelf.tiles := z.shelf.tiles }) [.updTile, .startTile]

theorem Stays.demandTile {V : Scope} {s₀ s : State} {o : Nat} {k : Nat} {off : Nat} (h : Stays V s₀ s) (hv : Scope.demandTile.Within
    V) : Stays V s₀ (s.demandTile o k off) := by
  unfold State.demandTile
  split
  · exact .when (.updTile h (hv.sub 0)) (fun h => .updTile h (hv.sub 0))
  · exact .startTile h (hv.sub 1)

def Scope.consult : Scope := .of (fun z s => { s with
    regs := z.regs, near.ways := z.near.ways, near.lru := z.near.lru, near.victims := z.near.victims, mem.dram := z.mem.dram,
    mem.dramPoison := z.mem.dramPoison }) [.recall]

theorem Stays.consult {V : Scope} {s₀ s : State} {ls : List Nat} (h : Stays V s₀ s) (hv : Scope.consult.Within V) : Stays V s₀
    (s.consult ls) := by
  unfold State.consult
  refine .foldl (fun _ _ h => ?_) h
  split
  · exact .recall h (hv.sub 0)
  · exact h

def Scope.access : Scope := .of (fun z s => { s with
    regs := z.regs, near.ways := z.near.ways, near.lru := z.near.lru, near.victims := z.near.victims,
    near.misses := z.near.misses, mem.dram := z.mem.dram, mem.dramPoison := z.mem.dramPoison }) [.reg R.NEAR_HITS, .touch, .recall, .reg
      R.NEAR_MISSES, .reg R.NEAR_MISS_WAITS, .startFill]

theorem Stays.access {V : Scope} {s₀ s : State} {l : Nat} (h : Stays V s₀ s) (hv : Scope.access.Within V) : Stays V s₀ (s.access
    l).2 := by
  unfold State.access
  split
  · exact .iteSnd h (.touch (.bump h (hv.sub 0)) (hv.sub 1))
  · split
    · exact .recall (.bump h (hv.sub 0)) (hv.sub 2)
    · exact .iteSnd (.bump h (hv.sub 3)) (.iteSnd (.bump (.bump h (hv.sub 3)) (hv.sub 4)) (.startFill (.bump h (hv.sub 3)) (hv.sub 5)))

def Scope.issueLines : Scope := .of (fun z s => { s with
    regs := z.regs, eng.ops := z.eng.ops, near.ways := z.near.ways, near.lru := z.near.lru, near.victims := z.near.victims,
    near.misses := z.near.misses, mem.dram := z.mem.dram, mem.dramPoison := z.mem.dramPoison }) [.access, .updOp]

theorem Stays.issueLines {V : Scope} {s₀ s : State} {id : Nat} {ls : List Nat} (h : Stays V s₀ s) (hv : Scope.issueLines.Within V) :
    Stays V s₀ (s.issueLines id ls) :=
  .updOp (.foldlPair (fun _ _ h => .access h (hv.sub 0)) h) (hv.sub 1)

def Scope.tileLines : Scope := .of (fun z s => { s with
    regs := z.regs, eng.ops := z.eng.ops, near.ways := z.near.ways, near.lru := z.near.lru, near.victims := z.near.victims,
    near.misses := z.near.misses, mem.dram := z.mem.dram, mem.dramPoison := z.mem.dramPoison }) [.consult, .issueLines]

theorem Stays.tileLines {V : Scope} {s₀ s : State} {o : Op} {ms : List Nat} (h : Stays V s₀ s) (hv : Scope.tileLines.Within V) :
    Stays V s₀ (s.tileLines o ms).2 :=
  .iteSnd h (.iteSnd (.iteSnd h (.consult h (hv.sub 0))) (.issueLines h (hv.sub 1)))

def Scope.serveTile : Scope := .of (fun z s => { s with
    regs := z.regs, eng.ops := z.eng.ops, near.ways := z.near.ways, near.lru := z.near.lru, near.victims := z.near.victims,
    near.misses := z.near.misses, shelf.tiles := z.shelf.tiles, mem.dram := z.mem.dram, mem.dramPoison := z.mem.dramPoison }) [.endOp,
      .demandTile, .tileLines, .updOp]

theorem Stays.serveTile {V : Scope} {s₀ s : State} {o : Op} (h : Stays V s₀ s) (hv : Scope.serveTile.Within V) : Stays V s₀
    (s.serveTile o) := by
  unfold State.serveTile
  dsimp only
  split
  · split
    · exact .endOp h (hv.sub 0)
    · refine .ite ?_ (.ite h (.demandTile h (hv.sub 1)))
      refine .ite (.endOp (.ite h (.demandTile h (hv.sub 1))) (hv.sub 0)) ?_
      refine .ite (.tileLines (.ite h (.demandTile h (hv.sub 1))) (hv.sub 2)) ?_
      split
      · exact .unless (.updOp (.tileLines (.ite h (.demandTile h (hv.sub 1))) (hv.sub 2)) (hv.sub 3)) (fun h => .demandTile h (hv.sub 1))
      · exact .updOp (.tileLines (.ite h (.demandTile h (hv.sub 1))) (hv.sub 2)) (hv.sub 3)
  · exact h

def Scope.fresh : Scope := .of (fun z s => { s with free := z.free }) []

theorem Stays.fresh {V : Scope} {s₀ s : State} {bits : Nat} (h : Stays V s₀ s) (hv : Scope.fresh.Within V) : Stays V s₀ (s.fresh
    bits).2 :=
  .upd h hv

def Scope.noteWrites : Scope := .of (fun z s => { s with twin.recent := z.twin.recent }) []

theorem Stays.noteWrites {V : Scope} {s₀ s : State} {q : Nat} {msn : Nat} {a : Nat} {n : Nat} (h : Stays V s₀ s) (hv :
    Scope.noteWrites.Within V) : Stays V s₀ (s.noteWrites q msn a n) :=
  .upd h hv

def Scope.assayRecord : Scope := .of (fun z s => { s with twin.assayOpen := z.twin.assayOpen }) []

theorem Stays.assayRecord {V : Scope} {s₀ s : State} {q : Nat} {p : MirrorPrefix} {data : List Byte} (h : Stays V s₀ s) (hv :
    Scope.assayRecord.Within V) : Stays V s₀ (s.assayRecord q p data) :=
  .upd h hv

def Scope.closeAssay : Scope := .of (fun z s => { s with
    twin.frame := z.twin.frame, twin.frameAt := z.twin.frameAt, twin.txSeq := z.twin.txSeq,
    twin.replayBuf := z.twin.replayBuf, twin.credit := z.twin.credit, twin.assayOpen := z.twin.assayOpen,
    twin.assayMine := z.twin.assayMine, out := z.out }) [.sendItem]

theorem Stays.closeAssay {V : Scope} {s₀ s : State} {q : Nat} {last : Nat} (h : Stays V s₀ s) (hv : Scope.closeAssay.Within V) :
    Stays V s₀ (s.closeAssay q last) := by
  unfold State.closeAssay
  split
  · exact h
  · exact .ite h (.sendItem (.upd h hv) (hv.sub 0))

def Scope.sendRecord : Scope := .of (fun z s => { s with
    twin.sent := z.twin.sent, twin.unacked := z.twin.unacked, twin.cut := z.twin.cut, twin.frame := z.twin.frame,
    twin.frameAt := z.twin.frameAt, twin.txSeq := z.twin.txSeq, twin.replayBuf := z.twin.replayBuf,
    twin.credit := z.twin.credit, twin.assayOpen := z.twin.assayOpen, twin.assayMine := z.twin.assayMine,
    twin.recent := z.twin.recent, out := z.out }) [.packItem, .assayRecord, .noteWrites, .closeAssay, .sendItem]

theorem Stays.sendRecord {V : Scope} {s₀ s : State} {q : Nat} {p : MirrorPrefix} {data : List Byte} (h : Stays V s₀ s) (hv :
    Scope.sendRecord.Within V) : Stays V s₀ (s.sendRecord q p data).2 :=
  .iteSnd (.when (.foldl (fun _ _ h => .packItem h (hv.sub 0)) (.packItem (.upd (.noteWrites (.assayRecord (.upd h hv) (hv.sub 1))
    (hv.sub 2)) hv) (hv.sub 0))) (fun h => .closeAssay h (hv.sub 3))) (.when (.upd (.sendItem (.upd (.noteWrites (.assayRecord (.upd
    h hv) (hv.sub 1)) (hv.sub 2)) hv) (hv.sub 4)) hv) (fun h => .closeAssay h (hv.sub 3)))

def Scope.wantMark : Scope := .of (fun z s => { s with
    regs := z.regs, domain.counter := z.domain.counter, domain.nextMsg := z.domain.nextMsg,
    domain.requests := z.domain.requests, out := z.out }) [.reg R.TWIN_STATUS_SINGLE_RUNNING, .sendRequest]

theorem Stays.wantMark {V : Scope} {s₀ s : State} (h : Stays V s₀ s) (hv : Scope.wantMark.Within V) : Stays V s₀ (s.wantMark) :=
  .ite h (.ite (.wr h (hv.sub 0)) (.ite h (.sendRequest h (hv.sub 1))))

def Scope.markUnits : Scope := .of (fun z s => { s with twin.diverged := z.twin.diverged }) []

theorem Stays.markUnits {V : Scope} {s₀ s : State} {us : List Nat} (h : Stays V s₀ s) (hv : Scope.markUnits.Within V) : Stays V s₀
    (s.markUnits us) :=
  .upd h hv

def Scope.markSingle : Scope := .of (fun z s => { s with twin.diverged := z.twin.diverged }) [.markUnits]

theorem Stays.markSingle {V : Scope} {s₀ s : State} {a : Nat} {n : Nat} (h : Stays V s₀ s) (hv : Scope.markSingle.Within V) : Stays
    V s₀ (s.markSingle a n) :=
  .ite (.markUnits h (hv.sub 0)) h

def Scope.mirrorData : Scope := .of (fun z s => { s with
    regs := z.regs, twin.sent := z.twin.sent, twin.unacked := z.twin.unacked, twin.cut := z.twin.cut,
    twin.frame := z.twin.frame, twin.frameAt := z.twin.frameAt, twin.txSeq := z.twin.txSeq,
    twin.replayBuf := z.twin.replayBuf, twin.credit := z.twin.credit, twin.diverged := z.twin.diverged,
    twin.assayOpen := z.twin.assayOpen, twin.assayMine := z.twin.assayMine, twin.recent := z.twin.recent,
    domain.counter := z.domain.counter, domain.nextMsg := z.domain.nextMsg, domain.requests := z.domain.requests,
    out := z.out }) [.sendRecord, .wantMark, .markSingle]

theorem Stays.mirrorData {V : Scope} {s₀ s : State} {src : Source} {seq : Nat} {pd : Nat} {epoch : Nat} {a : Nat} {data : List Byte}
    {atomic : Bool} (h : Stays V s₀ s) (hv : Scope.mirrorData.Within V) : Stays V s₀ (s.mirrorData src seq pd epoch a data atomic).2
    :=
  .iteSnd (.iteSnd (.sendRecord h (hv.sub 0)) (.sendRecord h (hv.sub 0))) (.iteSnd (.markSingle (.wantMark h (hv.sub 1)) (hv.sub 2))
    (.wantMark h (hv.sub 1)))

def Scope.markDirty : Scope := .of (fun z s => { s with dur.dirty := z.dur.dirty, dur.map := z.dur.map }) []

theorem Stays.markDirty {V : Scope} {s₀ s : State} {page : Nat} {pd : Nat} (h : Stays V s₀ s) (hv : Scope.markDirty.Within V) :
    Stays V s₀ (s.markDirty page pd) := by
  unfold State.markDirty
  split
  · exact .ite (.upd h hv) h
  · exact .upd h hv

def Scope.markRun : Scope := .of (fun z s => { s with
    regs := z.regs, hub := z.hub, rings := z.rings, msix := z.msix, keeper.flash.ram := z.keeper.flash.ram,
    keeper.flash.flood := z.keeper.flash.flood, keeper.flash.counters := z.keeper.flash.counters, dur.dirty := z.dur.dirty,
    dur.peaks := z.dur.peaks, dur.below := z.dur.below, dur.map := z.dur.map, dur.throttleFrom := z.dur.throttleFrom,
    twin.frame := z.twin.frame, twin.frameAt := z.twin.frameAt, twin.txSeq := z.twin.txSeq,
    twin.replayBuf := z.twin.replayBuf, twin.credit := z.twin.credit, out := z.out }) [.markDirty, .compareD]

theorem Stays.markRun {V : Scope} {s₀ s : State} {m : Nat} {n : Nat} {pd : Nat} (h : Stays V s₀ s) (hv : Scope.markRun.Within V) :
    Stays V s₀ (s.markRun m n pd) :=
  .ite h (.compareD (.foldl (fun _ _ h => .markDirty h (hv.sub 0)) h) (hv.sub 1))

def Scope.placeData : Scope := .of (fun z s => { s with
    regs := z.regs, hub := z.hub, rings := z.rings, msix := z.msix, keeper.flash.ram := z.keeper.flash.ram,
    keeper.flash.flood := z.keeper.flash.flood, keeper.flash.counters := z.keeper.flash.counters, eng.ops := z.eng.ops,
    eng.gather := z.eng.gather, eng.nextEntry := z.eng.nextEntry, dur.dirty := z.dur.dirty, dur.peaks := z.dur.peaks,
    dur.below := z.dur.below, dur.map := z.dur.map, dur.throttleFrom := z.dur.throttleFrom, twin.sent := z.twin.sent,
    twin.unacked := z.twin.unacked, twin.cut := z.twin.cut, twin.frame := z.twin.frame, twin.frameAt := z.twin.frameAt,
    twin.txSeq := z.twin.txSeq, twin.replayBuf := z.twin.replayBuf, twin.credit := z.twin.credit,
    twin.diverged := z.twin.diverged, twin.assayOpen := z.twin.assayOpen, twin.assayMine := z.twin.assayMine,
    twin.recent := z.twin.recent, domain.counter := z.domain.counter, domain.nextMsg := z.domain.nextMsg,
    domain.requests := z.domain.requests, out := z.out }) [.markRun, .mirrorData, .updOp]

theorem Stays.placeData {V : Scope} {s₀ s : State} {id : Nat} {seq : Nat} {off : Nat} {data : List Byte} {atomic : Bool} (h : Stays
    V s₀ s) (hv : Scope.placeData.Within V) : Stays V s₀ (s.placeData id seq off data atomic) := by
  unfold State.placeData
  split
  · exact h
  · exact .updOp (.foldlPair (fun _ _ h => .markRun (.upd h hv) (hv.sub 0)) (.when (.iteSnd (.mirrorData h (hv.sub 1)) h) (fun h =>
      .updOp h (hv.sub 2)))) (hv.sub 2)

def Scope.runAtomic : Scope := .of (fun z s => { s with
    regs := z.regs, hub := z.hub, rings := z.rings, msix := z.msix, keeper.flash.ram := z.keeper.flash.ram,
    keeper.flash.flood := z.keeper.flash.flood, keeper.flash.counters := z.keeper.flash.counters, eng.ops := z.eng.ops,
    eng.gather := z.eng.gather, eng.nextEntry := z.eng.nextEntry, near.ways := z.near.ways, dur.dirty := z.dur.dirty,
    dur.peaks := z.dur.peaks, dur.below := z.dur.below, dur.map := z.dur.map, dur.throttleFrom := z.dur.throttleFrom,
    twin.sent := z.twin.sent, twin.unacked := z.twin.unacked, twin.cut := z.twin.cut, twin.frame := z.twin.frame,
    twin.frameAt := z.twin.frameAt, twin.txSeq := z.twin.txSeq, twin.replayBuf := z.twin.replayBuf,
    twin.credit := z.twin.credit, twin.diverged := z.twin.diverged, twin.assayOpen := z.twin.assayOpen,
    twin.assayMine := z.twin.assayMine, twin.recent := z.twin.recent, domain.counter := z.domain.counter,
    domain.nextMsg := z.domain.nextMsg, domain.requests := z.domain.requests, out := z.out, free := z.free }) [.reg R.NEAR_ATOMICS,
      .fresh, .updOp, .placeData]

theorem Stays.runAtomic {V : Scope} {s₀ s : State} {o : Op} {m : Nat} (h : Stays V s₀ s) (hv : Scope.runAtomic.Within V) : Stays V
    s₀ (s.runAtomic o m) := by
  unfold State.runAtomic
  dsimp only
  refine .ite (.updOp (.fresh (.bump h (hv.sub 0)) (hv.sub 1)) (hv.sub 2)) ?_
  split
  · exact .updOp (.bump h (hv.sub 0)) (hv.sub 2)
  · refine .placeData ?_ (hv.sub 3)
    split
    · exact .upd (.updOp (.bump h (hv.sub 0)) (hv.sub 2)) hv
    · exact .updOp (.bump h (hv.sub 0)) (hv.sub 2)

def Scope.placeHeld : Scope := .of (fun z s => { s with
    regs := z.regs, hub := z.hub, rings := z.rings, msix := z.msix, keeper.flash.ram := z.keeper.flash.ram,
    keeper.flash.flood := z.keeper.flash.flood, keeper.flash.counters := z.keeper.flash.counters, eng.ops := z.eng.ops,
    eng.gather := z.eng.gather, eng.nextEntry := z.eng.nextEntry, dur.dirty := z.dur.dirty, dur.peaks := z.dur.peaks,
    dur.below := z.dur.below, dur.map := z.dur.map, dur.throttleFrom := z.dur.throttleFrom, twin.sent := z.twin.sent,
    twin.unacked := z.twin.unacked, twin.cut := z.twin.cut, twin.frame := z.twin.frame, twin.frameAt := z.twin.frameAt,
    twin.txSeq := z.twin.txSeq, twin.replayBuf := z.twin.replayBuf, twin.credit := z.twin.credit,
    twin.diverged := z.twin.diverged, twin.assayOpen := z.twin.assayOpen, twin.assayMine := z.twin.assayMine,
    twin.recent := z.twin.recent, domain.counter := z.domain.counter, domain.nextMsg := z.domain.nextMsg,
    domain.requests := z.domain.requests, out := z.out }) [.updOp, .placeData]

theorem Stays.placeHeld {V : Scope} {s₀ s : State} {id fuel : Nat} (h : Stays V s₀ s) (hv : Scope.placeHeld.Within V) :
    Stays V s₀ (s.placeHeld id fuel) := by
  induction fuel generalizing s with
  | zero => exact h
  | succ fuel ih =>
    unfold State.placeHeld
    split
    · exact h
    · split
      · exact h
      · exact .ite (ih (.placeData (.updOp h (hv.sub 0)) (hv.sub 1))) h

def Scope.advanceOp : Scope := .of (fun z s => { s with
    regs := z.regs, hub := z.hub, rings := z.rings, msix := z.msix, keeper.flash.ram := z.keeper.flash.ram,
    keeper.flash.flood := z.keeper.flash.flood, keeper.flash.counters := z.keeper.flash.counters, eng.ops := z.eng.ops,
    eng.gather := z.eng.gather, eng.nextEntry := z.eng.nextEntry, near.ways := z.near.ways, near.lru := z.near.lru,
    near.victims := z.near.victims, near.misses := z.near.misses, dur.dirty := z.dur.dirty, dur.peaks := z.dur.peaks,
    dur.below := z.dur.below, dur.map := z.dur.map, dur.throttleFrom := z.dur.throttleFrom, twin.sent := z.twin.sent,
    twin.unacked := z.twin.unacked, twin.cut := z.twin.cut, twin.frame := z.twin.frame, twin.frameAt := z.twin.frameAt,
    twin.txSeq := z.twin.txSeq, twin.replayBuf := z.twin.replayBuf, twin.credit := z.twin.credit,
    twin.diverged := z.twin.diverged, twin.assayOpen := z.twin.assayOpen, twin.assayMine := z.twin.assayMine,
    twin.recent := z.twin.recent, shelf.tiles := z.shelf.tiles, mem.dram := z.mem.dram, mem.dramPoison := z.mem.dramPoison,
    domain.counter := z.domain.counter, domain.nextMsg := z.domain.nextMsg, domain.requests := z.domain.requests,
    out := z.out, free := z.free }) [.endOp, .updOp, .reg R.NEAR_BYPASS_READS, .serveTile, .issueLines, .consult, .runAtomic,
      .placeData, .placeHeld]

theorem Stays.advanceOp {V : Scope} {s₀ s : State} {id : Nat} (h : Stays V s₀ s) (hv : Scope.advanceOp.Within V) : Stays V s₀
    (s.advanceOp id) := by
  unfold State.advanceOp
  dsimp only
  split
  · exact h
  · refine .ite h ?_
    refine .ite (.endOp h (hv.sub 0)) ?_
    refine .ite (.ite (.ite (.updOp h (hv.sub 1)) (.serveTile (.ite (.updOp (.bump h (hv.sub 2)) (hv.sub 1)) h) (hv.sub 3))) (.ite h
      (.ite (.updOp h (hv.sub 1)) (.ite (.issueLines h (hv.sub 4)) (.updOp (.consult (.bump h (hv.sub 2)) (hv.sub 5)) (hv.sub
      1)))))) ?_
    refine .ite ?_ (.ite (.ite h (.placeHeld (.ite h (.when (.updOp h (hv.sub 1)) (fun h => .placeData h (hv.sub 7)))) (hv.sub 8)))
      (.updOp h (hv.sub 1)))
    split
    · exact h
    · refine .ite h ?_
      refine .ite ?_ (.ite (.runAtomic h (hv.sub 6)) h)
      split
      · exact .when (.issueLines h (hv.sub 4)) (fun h => .runAtomic h (hv.sub 6))
      · exact .issueLines h (hv.sub 4)

def Scope.advanceAll : Scope := .of (fun z s => { s with
    regs := z.regs, hub := z.hub, rings := z.rings, msix := z.msix, keeper.flash.ram := z.keeper.flash.ram,
    keeper.flash.flood := z.keeper.flash.flood, keeper.flash.counters := z.keeper.flash.counters, eng.ops := z.eng.ops,
    eng.gather := z.eng.gather, eng.nextEntry := z.eng.nextEntry, near.ways := z.near.ways, near.lru := z.near.lru,
    near.victims := z.near.victims, near.misses := z.near.misses, dur.dirty := z.dur.dirty, dur.peaks := z.dur.peaks,
    dur.below := z.dur.below, dur.map := z.dur.map, dur.throttleFrom := z.dur.throttleFrom, twin.sent := z.twin.sent,
    twin.unacked := z.twin.unacked, twin.cut := z.twin.cut, twin.frame := z.twin.frame, twin.frameAt := z.twin.frameAt,
    twin.txSeq := z.twin.txSeq, twin.replayBuf := z.twin.replayBuf, twin.credit := z.twin.credit,
    twin.diverged := z.twin.diverged, twin.assayOpen := z.twin.assayOpen, twin.assayMine := z.twin.assayMine,
    twin.recent := z.twin.recent, shelf.tiles := z.shelf.tiles, mem.dram := z.mem.dram, mem.dramPoison := z.mem.dramPoison,
    domain.counter := z.domain.counter, domain.nextMsg := z.domain.nextMsg, domain.requests := z.domain.requests,
    out := z.out, free := z.free }) [.advanceOp]

theorem Stays.advanceAll {V : Scope} {s₀ s : State} (h : Stays V s₀ s) (hv : Scope.advanceAll.Within V) : Stays V s₀ (s.advanceAll)
    :=
  .foldl (fun _ _ h => .advanceOp h (hv.sub 0)) h

def Scope.sendOutbox : Scope := .of (fun z s => { s with
    regs := z.regs, domain.counter := z.domain.counter, domain.nextMsg := z.domain.nextMsg,
    domain.requests := z.domain.requests, out := z.out }) [.reg R.DOMAIN_BACKLOG_OUTBOX, .sendRequest]

theorem Stays.sendOutbox {V : Scope} {s₀ s : State} (h : Stays V s₀ s) (hv : Scope.sendOutbox.Within V) : Stays V s₀ (s.sendOutbox)
    :=
  .unless (.wr h (hv.sub 0)) (fun h => .sendRequest h (hv.sub 1))

def Scope.sendPushes : Scope := .of (fun z s => { s with
    regs := z.regs, domain.counter := z.domain.counter, domain.nextMsg := z.domain.nextMsg,
    domain.requests := z.domain.requests, domain.pushes := z.domain.pushes, out := z.out }) [.sendRequest]

theorem Stays.sendPushes {V : Scope} {s₀ s : State} (h : Stays V s₀ s) (hv : Scope.sendPushes.Within V) : Stays V s₀ (s.sendPushes)
    := by
  unfold State.sendPushes
  refine .foldl (fun _ _ h => ?_) h
  refine .ite h ?_
  split
  · exact h
  · exact .sendRequest (.upd h hv) (hv.sub 0)

def Scope.keepAnswer : Scope := .of (fun z s => { s with
    domain.answered := z.domain.answered }) []

theorem State.keepAnswer_eq (s : State) (a : DomainAnswer) : ∃ l, s.keepAnswer a = { s with domain.answered := l } := ⟨_, rfl⟩

theorem Stays.keepAnswer {V : Scope} {s₀ s : State} {a : DomainAnswer} (h : Stays V s₀ s) (hv : Scope.keepAnswer.Within V) :
    Stays V s₀ (s.keepAnswer a) := by
  obtain ⟨l, hl⟩ := s.keepAnswer_eq a
  rw [hl]
  exact .upd h hv

def Scope.answerDomain : Scope := .of (fun z s => { s with
    regs := z.regs, domain.counter := z.domain.counter, domain.answered := z.domain.answered, out := z.out }) [.keepAnswer,
      .sendDomainTo]

theorem Stays.answerDomain {V : Scope} {s₀ s : State} {a : DomainAnswer} (h : Stays V s₀ s) (hv : Scope.answerDomain.Within V) :
    Stays V s₀ (s.answerDomain a) :=
  .sendDomainTo (.keepAnswer h (hv.sub 0)) (hv.sub 1)

def Scope.setSync : Scope := .of (fun z s => { s with
    regs := z.regs, hub := z.hub, rings := z.rings, msix := z.msix, cmds := z.cmds, keeper.flash.ram := z.keeper.flash.ram,
    keeper.flash.flood := z.keeper.flash.flood, keeper.flash.counters := z.keeper.flash.counters, prot.grace := z.prot.grace,
    prot.graceEnds := z.prot.graceEnds, near.ways := z.near.ways, near.lru := z.near.lru, near.victims := z.near.victims,
    near.misses := z.near.misses, near.locks := z.near.locks, near.loading := z.near.loading,
    twin.commands := z.twin.commands, twin.nextCommand := z.twin.nextCommand, twin.frame := z.twin.frame,
    twin.frameAt := z.twin.frameAt, twin.txSeq := z.twin.txSeq, twin.replayBuf := z.twin.replayBuf,
    twin.credit := z.twin.credit, twin.localCommands := z.twin.localCommands, shelf.tiles := z.shelf.tiles,
    mem.dram := z.mem.dram, mem.dramPoison := z.mem.dramPoison, domain.counter := z.domain.counter, out := z.out }) [.showSync, .reg
      R.DUR_RESTORE_STATUS_PHASE, .reloadLocks]

theorem Stays.setSync {V : Scope} {s₀ s : State} {c : Nat} (h : Stays V s₀ s) (hv : Scope.setSync.Within V) : Stays V s₀ (s.setSync
    c) :=
  .when (.showSync h (hv.sub 0)) (fun h => .reloadLocks (.wr h (hv.sub 1)) (hv.sub 2))

def Scope.noTwinCopy : Scope := .of (fun z s => { s with shelf.objects := z.shelf.objects }) []

theorem Stays.noTwinCopy {V : Scope} {s₀ s : State} {o : Nat} (h : Stays V s₀ s) (hv : Scope.noTwinCopy.Within V) : Stays V s₀
    (s.noTwinCopy o) :=
  .upd h hv

def Scope.pumpCut : Scope := .of (fun z s => { s with
    twin.cut := z.twin.cut, twin.frame := z.twin.frame, twin.frameAt := z.twin.frameAt, twin.txSeq := z.twin.txSeq,
    twin.replayBuf := z.twin.replayBuf, twin.credit := z.twin.credit, out := z.out }) [.sendItem]

theorem Stays.pumpCut {V : Scope} {s₀ s : State} (h : Stays V s₀ s) (hv : Scope.pumpCut.Within V) : Stays V s₀ (s.pumpCut) :=
  .foldl (fun _ _ h => .sendItem h (hv.sub 0)) (.upd h hv)

def Scope.flushStream : Scope := .of (fun z s => { s with
    twin.cut := z.twin.cut, twin.frame := z.twin.frame, twin.frameAt := z.twin.frameAt, twin.txSeq := z.twin.txSeq,
    twin.replayBuf := z.twin.replayBuf, twin.credit := z.twin.credit, out := z.out }) [.flushFrame, .pumpCut]

theorem Stays.flushStream {V : Scope} {s₀ s : State} (h : Stays V s₀ s) (hv : Scope.flushStream.Within V) : Stays V s₀
    (s.flushStream) :=
  .pumpCut (.flushFrame h (hv.sub 0)) (hv.sub 1)

def Scope.stickEntries : Scope := .of (fun z s => { s with eng.gather := z.eng.gather }) []

theorem Stays.stickEntries {V : Scope} {s₀ s : State} (h : Stays V s₀ s) (hv : Scope.stickEntries.Within V) : Stays V s₀
    (s.stickEntries) :=
  .upd h hv

def Scope.restartQueues : Scope := .of (fun z s => { s with
    eng.gather := z.eng.gather, twin.sent := z.twin.sent, twin.acked := z.twin.acked, twin.accepted := z.twin.accepted,
    twin.unacked := z.twin.unacked, twin.cut := z.twin.cut, twin.partials := z.twin.partials,
    twin.assayOpen := z.twin.assayOpen, twin.assayMine := z.twin.assayMine, twin.assayPeer := z.twin.assayPeer,
    twin.shadows := z.twin.shadows }) [.stickEntries]

theorem Stays.restartQueues {V : Scope} {s₀ s : State} (h : Stays V s₀ s) (hv : Scope.restartQueues.Within V) : Stays V s₀
    (s.restartQueues) :=
  .stickEntries (.upd h hv) (hv.sub 0)

def Scope.releaseAnswers : Scope := .of (fun z s => { s with
    regs := z.regs, domain.counter := z.domain.counter, domain.answered := z.domain.answered,
    domain.waiting := z.domain.waiting, out := z.out }) [.answerDomain]

theorem Stays.releaseAnswers {V : Scope} {s₀ s : State} (h : Stays V s₀ s) (hv : Scope.releaseAnswers.Within V) : Stays V s₀
    (s.releaseAnswers) :=
  .foldl (fun _ _ h => .answerDomain h (hv.sub 0)) (.upd h hv)

def Scope.localiseCommands : Scope := .ofLosing (fun z s => { s with
    regs := z.regs, cmds := z.cmds, twin.commands := z.twin.commands, twin.localCommands := z.twin.localCommands,
    shelf.objects := z.shelf.objects, domain.counter := z.domain.counter, domain.answered := z.domain.answered,
    domain.waiting := z.domain.waiting, out := z.out }) [.noTwinCopy, .releaseAnswers]

theorem Stays.localiseCommands {V : Scope} {s₀ s : State} (h : Stays V s₀ s) (hv : Scope.localiseCommands.Within V) : Stays V s₀
    (s.localiseCommands) :=
  .releaseAnswers (.updLosing (.foldl (fun _ _ h => .noTwinCopy h (hv.subLosing 0)) h) hv) (hv.subLosing 1)

def Scope.releaseStuck : Scope := .of (fun z s => { s with
    regs := z.regs, hub := z.hub, rings := z.rings, msix := z.msix, keeper.flash.ram := z.keeper.flash.ram,
    keeper.flash.flood := z.keeper.flash.flood, keeper.flash.counters := z.keeper.flash.counters, eng.ops := z.eng.ops,
    eng.gather := z.eng.gather, eng.nextEntry := z.eng.nextEntry, near.ways := z.near.ways, near.lru := z.near.lru,
    near.victims := z.near.victims, near.misses := z.near.misses, dur.dirty := z.dur.dirty, dur.peaks := z.dur.peaks,
    dur.below := z.dur.below, dur.map := z.dur.map, dur.throttleFrom := z.dur.throttleFrom, twin.sent := z.twin.sent,
    twin.unacked := z.twin.unacked, twin.cut := z.twin.cut, twin.frame := z.twin.frame, twin.frameAt := z.twin.frameAt,
    twin.txSeq := z.twin.txSeq, twin.replayBuf := z.twin.replayBuf, twin.credit := z.twin.credit,
    twin.diverged := z.twin.diverged, twin.assayOpen := z.twin.assayOpen, twin.assayMine := z.twin.assayMine,
    twin.recent := z.twin.recent, shelf.tiles := z.shelf.tiles, mem.dram := z.mem.dram, mem.dramPoison := z.mem.dramPoison,
    domain.counter := z.domain.counter, domain.nextMsg := z.domain.nextMsg, domain.requests := z.domain.requests,
    out := z.out, free := z.free }) [.markUnits, .updOp, .advanceAll]

theorem Stays.releaseStuck {V : Scope} {s₀ s : State} (h : Stays V s₀ s) (hv : Scope.releaseStuck.Within V) : Stays V s₀
    (s.releaseStuck) := by
  unfold State.releaseStuck
  refine .advanceAll ?_ (hv.sub 2)
  refine .upd ?_ hv
  refine .foldl (fun _ _ h => ?_) h
  split
  · exact .updOp (.markUnits h (hv.sub 0)) (hv.sub 1)
  · exact .markUnits h (hv.sub 0)

def Scope.releaseUnderMark : Scope := .of (fun z s => { s with
    regs := z.regs, hub := z.hub, rings := z.rings, msix := z.msix, keeper.flash.ram := z.keeper.flash.ram,
    keeper.flash.flood := z.keeper.flash.flood, keeper.flash.counters := z.keeper.flash.counters, eng.ops := z.eng.ops,
    eng.gather := z.eng.gather, eng.nextEntry := z.eng.nextEntry, near.ways := z.near.ways, near.lru := z.near.lru,
    near.victims := z.near.victims, near.misses := z.near.misses, dur.dirty := z.dur.dirty, dur.peaks := z.dur.peaks,
    dur.below := z.dur.below, dur.map := z.dur.map, dur.throttleFrom := z.dur.throttleFrom, twin.sent := z.twin.sent,
    twin.unacked := z.twin.unacked, twin.cut := z.twin.cut, twin.frame := z.twin.frame, twin.frameAt := z.twin.frameAt,
    twin.txSeq := z.twin.txSeq, twin.replayBuf := z.twin.replayBuf, twin.credit := z.twin.credit,
    twin.diverged := z.twin.diverged, twin.assayOpen := z.twin.assayOpen, twin.assayMine := z.twin.assayMine,
    twin.recent := z.twin.recent, shelf.tiles := z.shelf.tiles, mem.dram := z.mem.dram, mem.dramPoison := z.mem.dramPoison,
    domain.counter := z.domain.counter, domain.nextMsg := z.domain.nextMsg, domain.requests := z.domain.requests,
    out := z.out, free := z.free }) [.releaseStuck]

theorem Stays.releaseUnderMark {V : Scope} {s₀ s : State} (h : Stays V s₀ s) (hv : Scope.releaseUnderMark.Within V) : Stays V s₀
    (s.releaseUnderMark) :=
  .ite (.releaseStuck h (hv.sub 0)) h

def Scope.gainMark : Scope := .of (fun z s => { s with
    regs := z.regs, hub := z.hub, rings := z.rings, msix := z.msix, keeper.outputs := z.keeper.outputs,
    keeper.flash.ram := z.keeper.flash.ram, keeper.flash.flood := z.keeper.flash.flood,
    keeper.flash.counters := z.keeper.flash.counters, keeper.indFault := z.keeper.indFault, eng.ops := z.eng.ops,
    eng.gather := z.eng.gather, eng.nextEntry := z.eng.nextEntry, near.ways := z.near.ways, near.lru := z.near.lru,
    near.victims := z.near.victims, near.misses := z.near.misses, dur.dirty := z.dur.dirty, dur.peaks := z.dur.peaks,
    dur.below := z.dur.below, dur.map := z.dur.map, dur.throttleFrom := z.dur.throttleFrom, twin.sent := z.twin.sent,
    twin.unacked := z.twin.unacked, twin.cut := z.twin.cut, twin.frame := z.twin.frame, twin.frameAt := z.twin.frameAt,
    twin.txSeq := z.twin.txSeq, twin.replayBuf := z.twin.replayBuf, twin.credit := z.twin.credit,
    twin.diverged := z.twin.diverged, twin.assayOpen := z.twin.assayOpen, twin.assayMine := z.twin.assayMine,
    twin.recent := z.twin.recent, twin.homeSince := z.twin.homeSince, shelf.tiles := z.shelf.tiles, mem.dram := z.mem.dram,
    mem.dramPoison := z.mem.dramPoison, domain.counter := z.domain.counter, domain.nextMsg := z.domain.nextMsg,
    domain.requests := z.domain.requests, out := z.out, ports.port := z.ports.port, free := z.free }) [.reg
      R.TWIN_STATUS_SINGLE_RUNNING, .raise, .releaseUnderMark, .twinViews]

theorem Stays.gainMark {V : Scope} {s₀ s : State} (h : Stays V s₀ s) (hv : Scope.gainMark.Within V) : Stays V s₀ (s.gainMark) :=
  .twinViews (.releaseUnderMark (.raise (.wr h (hv.sub 0)) (hv.sub 1)) (hv.sub 2)) (hv.sub 3)

def Scope.resendStuck : Scope := .of (fun z s => { s with
    regs := z.regs, eng.gather := z.eng.gather, twin.sent := z.twin.sent, twin.unacked := z.twin.unacked,
    twin.cut := z.twin.cut, twin.frame := z.twin.frame, twin.frameAt := z.twin.frameAt, twin.txSeq := z.twin.txSeq,
    twin.replayBuf := z.twin.replayBuf, twin.credit := z.twin.credit, twin.diverged := z.twin.diverged,
    twin.assayOpen := z.twin.assayOpen, twin.assayMine := z.twin.assayMine, twin.recent := z.twin.recent,
    domain.counter := z.domain.counter, domain.nextMsg := z.domain.nextMsg, domain.requests := z.domain.requests,
    out := z.out }) [.mirrorData]

theorem Stays.resendStuck {V : Scope} {s₀ s : State} (h : Stays V s₀ s) (hv : Scope.resendStuck.Within V) : Stays V s₀
    (s.resendStuck) :=
  .foldl (fun _ _ h => .upd (.mirrorData h (hv.sub 0)) hv) h

def Scope.recheckAccept : Scope := .of (fun z s => { s with
    regs := z.regs, hub := z.hub, rings := z.rings, msix := z.msix, cmds := z.cmds, keeper.outputs := z.keeper.outputs,
    keeper.flash.ram := z.keeper.flash.ram, keeper.flash.flood := z.keeper.flash.flood,
    keeper.flash.counters := z.keeper.flash.counters, keeper.indFault := z.keeper.indFault, eng.ops := z.eng.ops,
    eng.gather := z.eng.gather, eng.nextEntry := z.eng.nextEntry, near.ways := z.near.ways, near.lru := z.near.lru,
    near.victims := z.near.victims, near.misses := z.near.misses, dur.dirty := z.dur.dirty, dur.peaks := z.dur.peaks,
    dur.below := z.dur.below, dur.map := z.dur.map, dur.throttleFrom := z.dur.throttleFrom, twin.sent := z.twin.sent,
    twin.unacked := z.twin.unacked, twin.commands := z.twin.commands, twin.cut := z.twin.cut, twin.frame := z.twin.frame,
    twin.frameAt := z.twin.frameAt, twin.txSeq := z.twin.txSeq, twin.replayBuf := z.twin.replayBuf,
    twin.credit := z.twin.credit, twin.diverged := z.twin.diverged, twin.localCommands := z.twin.localCommands,
    twin.assayOpen := z.twin.assayOpen, twin.assayMine := z.twin.assayMine, twin.recent := z.twin.recent,
    twin.homeSince := z.twin.homeSince, shelf.objects := z.shelf.objects, shelf.tiles := z.shelf.tiles,
    mem.dram := z.mem.dram, mem.dramPoison := z.mem.dramPoison, domain.counter := z.domain.counter,
    domain.nextMsg := z.domain.nextMsg, domain.requests := z.domain.requests, domain.answered := z.domain.answered,
    domain.waiting := z.domain.waiting, out := z.out, ports.port := z.ports.port, free := z.free }) [.resendStuck, .stickEntries,
      .localiseCommands, .wantMark, .releaseUnderMark, .twinViews]

theorem Stays.recheckAccept {V : Scope} {s₀ s : State} (h : Stays V s₀ s) (hv : Scope.recheckAccept.Within V) : Stays V s₀
    (s.recheckAccept) :=
  .ite (.ite (.resendStuck h (hv.sub 0)) h) (.twinViews (.releaseUnderMark (.when (.localiseCommands (.stickEntries h (hv.sub 1))
    (hv.sub 2)) (fun h => .wantMark h (hv.sub 3))) (hv.sub 4)) (hv.sub 5))

def Scope.registerEpoch : Scope := .of (fun z s => { s with
    regs := z.regs, domain.counter := z.domain.counter, domain.nextMsg := z.domain.nextMsg,
    domain.requests := z.domain.requests, domain.registered := z.domain.registered, out := z.out }) [.sendRequest]

theorem Stays.registerEpoch {V : Scope} {s₀ s : State} (h : Stays V s₀ s) (hv : Scope.registerEpoch.Within V) : Stays V s₀
    (s.registerEpoch) :=
  .ite (.sendRequest (.upd h hv) (hv.sub 0)) (.upd h hv)

def Scope.restoreAsHolder : Scope := .of (fun z s => { s with
    regs := z.regs, start.units := z.start.units, cerga.streams := z.cerga.streams, cerga.base := z.cerga.base,
    twin.frame := z.twin.frame, twin.frameAt := z.twin.frameAt, twin.txSeq := z.twin.txSeq,
    twin.replayBuf := z.twin.replayBuf, twin.credit := z.twin.credit, out := z.out }) [.reg R.DUR_RESTORE_LEFT_UNITS, .reg
      R.DUR_RESTORE_STATUS_PHASE, .newIncarnation]

theorem Stays.restoreAsHolder {V : Scope} {s₀ s : State} (h : Stays V s₀ s) (hv : Scope.restoreAsHolder.Within V) : Stays V s₀
    (s.restoreAsHolder) :=
  .ite (.newIncarnation (.wr (.wr (.upd h hv) (hv.sub 0)) (hv.sub 1)) (hv.sub 2)) h

def Scope.tokenInd : Scope := .of (fun z s => { s with keeper.outputs := z.keeper.outputs }) []

theorem Stays.tokenInd {V : Scope} {s₀ s : State} {b : Bool} (h : Stays V s₀ s) (hv : Scope.tokenInd.Within V) : Stays V s₀
    (s.tokenInd b) :=
  .upd h hv

def Scope.setCounter : Scope := .of (fun z s => { s with
    regs := z.regs, keeper.flash.ram := z.keeper.flash.ram, keeper.flash.counters := z.keeper.flash.counters }) [.queueLog]

theorem Stays.setCounter {V : Scope} {s₀ s : State} {id : Nat} {v : Nat} (h : Stays V s₀ s) (hv : Scope.setCounter.Within V) : Stays
    V s₀ (s.setCounter id v) :=
  .queueLog (.upd h hv) (hv.sub 0)

def Scope.openBody : Scope := .of (fun z s => { s with
    keeper.outputs := z.keeper.outputs, twin.announce := z.twin.announce, out := z.out, regs := z.regs,
    start.units := z.start.units, cerga.streams := z.cerga.streams, cerga.base := z.cerga.base, twin.frame := z.twin.frame,
    twin.frameAt := z.twin.frameAt, twin.txSeq := z.twin.txSeq, twin.replayBuf := z.twin.replayBuf, twin.credit := z.twin.credit,
    hub := z.hub, rings := z.rings, msix := z.msix, keeper.flash.ram := z.keeper.flash.ram,
    keeper.flash.flood := z.keeper.flash.flood, keeper.flash.counters := z.keeper.flash.counters,
    keeper.indFault := z.keeper.indFault, twin.homeSince := z.twin.homeSince, ports.port := z.ports.port, cmds := z.cmds,
    start.presented := z.start.presented, prot.grace := z.prot.grace, prot.graceEnds := z.prot.graceEnds, near.ways := z.near.ways,
    near.lru := z.near.lru, near.victims := z.near.victims, near.misses := z.near.misses, near.locks := z.near.locks,
    near.loading := z.near.loading, ledger.presented := z.ledger.presented, ledger.releaseAt := z.ledger.releaseAt,
    twin.commands := z.twin.commands, twin.nextCommand := z.twin.nextCommand, twin.localCommands := z.twin.localCommands,
    shelf.tiles := z.shelf.tiles, mem.dram := z.mem.dram, mem.dramPoison := z.mem.dramPoison, domain.counter := z.domain.counter,
    domain.nextMsg := z.domain.nextMsg, domain.requests := z.domain.requests, domain.pushes := z.domain.pushes,
    twin.opening := z.twin.opening }) [.tokenInd, .startAnnounce, .restoreAsHolder, .sendStatus, .twinViews, .firstAdmission,
    .sendOutbox, .sendPushes, .settleLocks]

/-- Admission opens at a new holder, up to the reopening of what was held back. -/
def State.openBody (s : State) : State :=
  let s := (({ s with twin.opening := false }.tokenInd true).startAnnounce).restoreAsHolder
  ((s.sendStatus.twinViews).firstAdmission.sendOutbox.sendPushes).settleLocks

theorem Stays.openBody {V : Scope} {s₀ s : State} (h : Stays V s₀ s) (hv : Scope.openBody.Within V) : Stays V s₀ s.openBody :=
  .settleLocks (.sendPushes (.sendOutbox (.firstAdmission (.twinViews (.sendStatus (.restoreAsHolder (.startAnnounce (.tokenInd
    (.upd h hv) (hv.sub 0)) (hv.sub 1)) (hv.sub 2)) (hv.sub 3)) (hv.sub 4)) (hv.sub 5)) (hv.sub 6))
    (hv.sub 7)) (hv.sub 8)

end

end Sys2Proof.Machine


/-! The Braze link: training, frames and replay, its loss and its timers (R163 to R171, R196). -/

namespace Sys2Proof.Machine

open Sys2Proof

section

set_option Elab.async false

/-! ### The reopening of what was held back -/

/-- With nothing held back, nothing is admitted. -/
theorem State.reopen_of_empty {s : State} (hingress : s.twin.ingress = []) (heng : s.eng.waiting = []) (hports : s.ports.waiting = []) :
    s.reopen = s := by
  have hs : ({ s with twin.ingress := [] } : State) = s := by
    rw [← hingress]
  unfold State.reopen
  rw [hingress]
  exact ((congrArg State.drainPorts (State.moveWaiters_of_nil (s := { s with twin.ingress := [] }) heng)).trans
    (State.drainPorts_of_nil hports)).trans hs

theorem State.openAdmission_eq (s : State) : s.openAdmission = s.openBody.reopen := rfl

/-! ### The loss of the link -/

/-- What the loss of the link may write once it is marked: all but what waits for admission, the yield and the time of the next training,
and no STATUS field of the link. -/
def Scope.linkLost : Scope := .ofLosing
  (fun z s => { z with eng.waiting := s.eng.waiting, ports.waiting := s.ports.waiting, twin.trainAt := s.twin.trainAt,
                       twin.yield := s.twin.yield, twin.ingress := s.twin.ingress })
  [.markUnits, .raise, .localiseCommands, .restartQueues, .setSync, .gainMark, .recheckAccept, .registerEpoch, .openBody,
    .advanceAll, .twinViews]

/-- No operation waits for admission, nothing stands in an ingress buffer, and no token is on its way. -/
structure State.Quiet (s : State) : Prop where
  ingress : s.twin.ingress = []
  waiting : s.eng.waiting = []
  ports : s.ports.waiting = []

theorem State.Quiet.lost {s t : State} (h : s.Quiet) (hst : Stays .linkLost s t) : t.Quiet where
  ingress := (hst.part (·.twin.ingress)).trans h.ingress
  waiting := (hst.part (·.eng.waiting)).trans h.waiting
  ports := (hst.part (·.ports.waiting)).trans h.ports

/-- The link's own marks, and the end of what was under way on it. -/
def State.linkMarked (s : State) (code retry : Nat) : State :=
  let s := s.flushStream
  let s := (s.wr R.TWIN_STATUS_LINK code).wr R.TWIN_STATUS_LANES 0
  { s with twin.frame := [], twin.frameAt := none, twin.ident := none, twin.trainAt := some (s.now + retry), twin.witnessAt := s.now
           twin.discarding := false, twin.tie := none, twin.handover := none, twin.credit := 0 }

@[simp] theorem State.twin_flushStream_kept (s : State) : s.flushStream.twin.yield = s.twin.yield ∧ s.flushStream.twin.ingress = s.twin.ingress ∧
    s.flushStream.eng = s.eng ∧ s.flushStream.ports = s.ports ∧ s.flushStream.time = s.time :=
  have h : Stays .flushStream s s.flushStream := .flushStream .refl .self
  ⟨h.part (·.twin.yield), h.part (·.twin.ingress), h.part State.eng, h.part State.ports, h.part State.time⟩

theorem State.Quiet.linkMarked {s : State} (h : s.Quiet) (code retry : Nat) : (s.linkMarked code retry).Quiet where
  ingress := by simpa [State.linkMarked] using h.ingress
  waiting := by simpa [State.linkMarked] using h.waiting
  ports := by simpa [State.linkMarked] using h.ports

theorem State.voidYield_of_none {s : State} (h : s.twin.yield = none) (reason : Nat) (serve : Bool) : s.voidYield reason serve = s := by
  unfold State.voidYield
  rw [h]

section
variable {s₀ s : State} (h : Stays .linkLost s₀ s)
include h

theorem Stays.reopen_of_quiet (hquiet : s₀.Quiet) : Stays .linkLost s₀ s.reopen := by
  obtain ⟨hingress, heng, hports⟩ := hquiet.lost h
  rwa [State.reopen_of_empty hingress heng hports]

theorem Stays.openAdmission_of_quiet (hquiet : s₀.Quiet) : Stays .linkLost s₀ s.openAdmission := by
  rw [State.openAdmission_eq]
  exact Stays.reopen_of_quiet (.openBody h (.subLosing .self 8)) hquiet

end

theorem Stays.linkDown_of_quiet {s : State} (code retry : Nat) (hlink : s.rd R.TWIN_STATUS_LINK = 2) (hyield : s.twin.yield = none)
    (hquiet : s.Quiet) : Stays .linkLost (s.linkMarked code retry) (s.linkDown code retry) := by
  have hv : Scope.linkLost.Within .linkLost := .self
  have hquiet' := hquiet.linkMarked code retry
  have hnone : (s.linkMarked code retry).twin.yield = none := by simpa [State.linkMarked] using hyield
  unfold State.linkDown
  rw [if_pos hlink]
  extract_lets s₁ s₂ units opening twin₂ s₃ s₄ s₅ sLocal twinLocal s₆ s₇ twin₅ s₈ s₉
  have h₃ : Stays .linkLost (s.linkMarked code retry) s₃ :=
    Stays.markUnits (s := s.linkMarked code retry) .refl (hv.subLosing 0)
  clear_value s₃
  generalize s.linkMarked code retry = start at *
  have h₄ : Stays .linkLost start s₄ := .raise h₃ (hv.subLosing 1)
  clear_value s₄
  have h₅ : Stays .linkLost start s₅ := by
    unfold s₅
    rwa [State.voidYield_of_none ((h₄.part (·.twin.yield)).trans hnone)]
  clear_value s₅
  have hlocal : Stays .linkLost start sLocal := .localiseCommands h₅ (hv.subLosing 2)
  clear_value sLocal
  have h₆ : Stays .linkLost start s₆ := .restartQueues (.upd hlocal hv) (hv.subLosing 3)
  clear_value s₆
  have h₇ : Stays .linkLost start s₇ := .when h₆ fun h => .setSync h (hv.subLosing 4)
  clear_value s₇
  have h₈ : Stays .linkLost start s₈ :=
    .ite (.ite (.gainMark h₇ (hv.subLosing 5)) (.recheckAccept h₇ (hv.subLosing 6))) (.restartQueues (.upd h₅ hv) (hv.subLosing 3))
  clear_value s₈
  have h₉ : Stays .linkLost start s₉ :=
    .when h₈ fun h => .ite (.registerEpoch h (hv.subLosing 7)) (h.openAdmission_of_quiet hquiet')
  exact .twinViews (.advanceAll h₉ (hv.subLosing 9)) (hv.subLosing 10)

/-- A lost link is DOWN with no lane, and trains again after `retry`. -/
theorem State.linkDown_leaves {s : State} (code retry : Nat) (hcode : code < 8) (hlink : s.rd R.TWIN_STATUS_LINK = 2)
    (hyield : s.twin.yield = none) (hquiet : s.Quiet) : (s.linkDown code retry).rd R.TWIN_STATUS_LINK = code ∧
      (s.linkDown code retry).rd R.TWIN_STATUS_LANES = 0 ∧ (s.linkDown code retry).twin.trainAt = some (s.now + retry) := by
  have h := Stays.linkDown_of_quiet code retry hlink hyield hquiet
  refine ⟨(h.rdN _ 0 rfl).trans ?_, (h.rdN _ 0 rfl).trans ?_, (h.part (·.twin.trainAt)).trans ?_⟩
  · exact (State.rdN_wrN_clearOf _ _ _ _ rfl).trans ((State.rd_wr_self ..).trans (Nat.mod_eq_of_lt (by simpa [R.TWIN_STATUS_LINK] using hcode)))
  · exact (State.rd_wr_self ..).trans (Nat.zero_mod _)
  · simp [State.linkMarked, State.now]

theorem exec_brazeLossOfSignal (s : State) (hlinked : Linked s) (hyield : s.twin.yield = none) (hnothing : NothingRuns s) :
    ∃ t, exec .brazeLossOfSignal s = .next t ∧ t.rd R.TWIN_STATUS_LINK = 0 ∧ t.rd R.TWIN_STATUS_LANES = 0 ∧
      t.twin.trainAt = some (s.now + sec 1) := by
  obtain ⟨hcore, hpaired, hlink⟩ := hlinked
  obtain ⟨-, -, hwaiting, hports, hingress⟩ := hnothing
  exact ⟨_, congrArg Host.Outcome.next (if_pos (by simp [hcore, hpaired])),
    State.linkDown_leaves 0 (sec 1) (by omega) (by simpa [State.linkUp] using hlink) hyield ⟨hingress, hwaiting, hports⟩⟩

theorem exec_brazeDeadTimeout (s : State) (hlinked : Linked s) (hyield : s.twin.yield = none) (hnothing : NothingRuns s)
    (hdead : s.twin.lastFrame + us (s.rd R.TWIN_CTRL_DEAD_US) ≤ s.now) :
    ∃ t, exec .brazeDeadTimeout s = .next t ∧ t.rd R.TWIN_STATUS_LINK = 0 ∧ t.rd R.TWIN_STATUS_LANES = 0 ∧
      t.twin.trainAt = some (s.now + sec 1) := by
  obtain ⟨hcore, hpaired, hlink⟩ := hlinked
  obtain ⟨-, -, hwaiting, hports, hingress⟩ := hnothing
  exact ⟨_, congrArg Host.Outcome.next ((if_pos (by simp [hcore, hpaired])).trans (if_pos (by simp [hlink, hdead]))),
    State.linkDown_leaves 0 (sec 1) (by omega) (by simpa [State.linkUp] using hlink) hyield ⟨hingress, hwaiting, hports⟩⟩

/-! ### Training -/

theorem exec_brazeTrainingRetry (s : State) (hcore : s.coreOn = true) (hpaired : s.paired = true)
    (hlink : s.rd R.TWIN_STATUS_LINK = 0 ∨ s.rd R.TWIN_STATUS_LINK = 3) (hdue : due s.now s.twin.trainAt = true)
    (hclock : s.keeper.clocksLost.contains 0x21 = false) :
    ∃ t, exec .brazeTrainingRetry s = .next t ∧ t.rd R.TWIN_STATUS_LINK = 1 ∧ t.twin.trainAt = none ∧
      t.out = s.out ++ [.brazeIdent identityDigest s.side s.pairNo (s.rd R.TWIN_TOKEN_EPOCH_VALUE) (s.rd R.TWIN_LINK_EPOCH_VALUE)] := by
  have hexec : exec .brazeTrainingRetry s = .next s.startTraining :=
    congrArg Host.Outcome.next ((if_pos (by simp [hcore, hpaired])).trans (if_pos (by simp only [hdue, hclock]; simpa using hlink)))
  refine ⟨_, hexec, State.rd_wr_self .., rfl, ?_⟩
  have hrd (f : Fld) (hf : Fld.clearOf R.TWIN_STATUS_LINK f = true) : (s.wr R.TWIN_STATUS_LINK 1).rd f = s.rd f :=
    State.rdN_wrN_clearOf s 0 0 1 hf
  show (s.wr R.TWIN_STATUS_LINK 1).out ++ [.brazeIdent identityDigest ((s.wr R.TWIN_STATUS_LINK 1).rd R.TWIN_STATUS_SIDE)
    ((s.wr R.TWIN_STATUS_LINK 1).rd R.GLOBAL_STRAPS_PAIR) ((s.wr R.TWIN_STATUS_LINK 1).rd R.TWIN_TOKEN_EPOCH_VALUE)
    ((s.wr R.TWIN_STATUS_LINK 1).rd R.TWIN_LINK_EPOCH_VALUE)] = _
  rw [hrd _ rfl, hrd _ rfl, hrd _ rfl, hrd _ rfl]
  simp [State.side, State.pairNo]

/-- An IDENT of the named twin is kept for the end of training. -/
theorem exec_ident (s : State) (identity side pair tokenEpoch linkEpoch : Nat) (hcore : s.coreOn = true)
    (hpeer : s.twin.peer = some (identity % 2 ^ 64)) (hlink : s.rd R.TWIN_STATUS_LINK = 1) (hside : side ≠ s.side) (hpair : pair = s.pairNo) :
    exec (.ident identity side pair tokenEpoch linkEpoch) s =
      .next { s with twin.ident := some [tokenEpoch, linkEpoch], twin.peerDigest := identity } := by
  have hpaired : s.paired = true := by simp [State.paired, hpeer]
  refine congrArg Host.Outcome.next ((if_pos (by simp [hcore, hpaired])).trans ((if_neg (by simp [hlink])).trans (if_neg ?_)))
  simp [hpeer, hside, hpair]

theorem State.firstAdmission_of_presented {s : State} (h : s.start.presented = true) : s.firstAdmission = s := if_pos (by simp [h])

/-- Training with another than the named twin. -/
def State.miscabled (s : State) : State :=
  let s := s.wr R.TWIN_STATUS_LINK 3
  { s with twin.trainAt := some (s.now + sec 10), twin.ident := none }.raise Ev.TWIN_BRAZE_MISCABLED []

theorem exec_ident_miscabled (s : State) (identity side pair tokenEpoch linkEpoch : Nat) (hcore : s.coreOn = true) (hpaired : s.paired = true)
    (hpresented : s.start.presented = true) (hlink : s.rd R.TWIN_STATUS_LINK = 1)
    (hother : s.twin.peer ≠ some (identity % 2 ^ 64) ∨ side = s.side ∨ pair ≠ s.pairNo) :
    ∃ t, exec (.ident identity side pair tokenEpoch linkEpoch) s = .next t ∧ t.rd R.TWIN_STATUS_LINK = 3 ∧
      t.twin.trainAt = some (s.now + sec 10) := by
  have hexec : exec (.ident identity side pair tokenEpoch linkEpoch) s = .next s.miscabled.firstAdmission := by
    refine congrArg Host.Outcome.next ((if_pos (by simp [hcore, hpaired])).trans ((if_neg (by simp [hlink])).trans (if_pos ?_)))
    simpa [or_assoc] using hother
  have hkept : Stays .raise { s.wr R.TWIN_STATUS_LINK 3 with twin.trainAt := some ((s.wr R.TWIN_STATUS_LINK 3).now + sec 10), twin.ident := none }
    s.miscabled := .raise .refl .self
  refine ⟨_, hexec, ?_⟩
  rw [State.firstAdmission_of_presented ((hkept.part (·.start.presented)).trans (by simpa using hpresented))]
  exact ⟨(hkept.rdN _ 0 rfl).trans (State.rd_wr_self ..), (hkept.part (·.twin.trainAt)).trans (by simp [State.now])⟩

/-! ### The end of training -/

/-- The lanes that a trained link runs on. -/
def trainedWidth (lanes : Nat) : Nat := if 16 ≤ lanes then 16 else if 12 ≤ lanes then 12 else 8

theorem trainedWidth_lt (lanes : Nat) : trainedWidth lanes < 32 := by
  unfold trainedWidth
  split
  · omega
  · split <;> omega

/-- The link's registers as the end of training sets them. -/
def State.trainedMarks (s : State) (width link : Nat) : State :=
  let s := (s.wr R.TWIN_STATUS_LINK 2).wr R.TWIN_STATUS_LANES width
  s.wr R.TWIN_LINK_EPOCH_VALUE (max (s.rd R.TWIN_LINK_EPOCH_VALUE) link + 1)

/-- What the end of training sets of the twin. -/
def State.trainedTwin (s : State) (width : Nat) (kept : Bool) : State :=
  { s with twin.width := width, twin.txSeq := 0, twin.rxSeq := 0, twin.replayBuf := [], twin.discarding := false
           twin.replays := [], twin.lastFrame := s.now, twin.statusAt := s.now, twin.renewAt := s.now, twin.credit := 0
           twin.resyncDue := true, twin.refused := 0, twin.frame := [], twin.frameAt := none
           twin.peerStatus := { s.twin.peerStatus with accepting := false, sync := 1 }
           twin.leaseEnd := if kept then some (s.now + s.leaseL) else s.twin.leaseEnd }

/-- The link as the end of training sets it. -/
def State.trained (s : State) (width link : Nat) : State :=
  (((s.trainedMarks width link).setCounter 4 (max (((s.wr R.TWIN_STATUS_LINK 2).wr R.TWIN_STATUS_LANES width).rd
    R.TWIN_LINK_EPOCH_VALUE) link + 1)).deriveLinkKeys.restartQueues).trainedTwin width (s.twin.holder && !s.hasWitness && s.leaseValid)

theorem State.regs_deriveLinkKeys (s : State) : s.deriveLinkKeys.regs = s.regs := by
  unfold State.deriveLinkKeys
  rfl

theorem State.regs_trainedTwin (s : State) (width : Nat) (kept : Bool) : (s.restartQueues.trainedTwin width kept).regs = s.regs := rfl

/-- The events of a trained link. -/
def State.trainedTold (s : State) (changed : Bool) (width : Nat) : State :=
  let s := s.raise Ev.TWIN_BRAZE_UP []
  if changed then s.raise Ev.TWIN_BRAZE_WIDTH [(1, width)] else s

/-- What a trained link tells may write. -/
def Scope.trainedTold : Scope := .of
  (fun z s => { z with twin.rxSeq := s.twin.rxSeq, twin.resyncDue := s.twin.resyncDue })
  [.raise, .sendStatus, .twinViews]

theorem State.stays_trainedTold (s : State) (changed : Bool) (width : Nat) : Stays .trainedTold s (s.trainedTold changed width) := by
  have hup : Stays .trainedTold s (s.raise Ev.TWIN_BRAZE_UP []) := .raise .refl (.sub .self 0)
  exact .when hup fun h => .raise h (.sub .self 0)

/-- What the end of training writes of the link's registers. -/
theorem State.rd_trained (s : State) (width link : Nat) (hwidth : width < 32) :
    (s.trained width link).rd R.TWIN_STATUS_LINK = 2 ∧ (s.trained width link).rd R.TWIN_STATUS_LANES = width ∧
      (s.trained width link).rd R.TWIN_LINK_EPOCH_VALUE =
        (max (s.rd R.TWIN_LINK_EPOCH_VALUE) link + 1) % 2 ^ R.TWIN_LINK_EPOCH_VALUE.width ∧
      (s.trained width link).rd R.TWIN_TOKEN_EPOCH_VALUE = s.rd R.TWIN_TOKEN_EPOCH_VALUE := by
  have hcounter (f : Fld) (hf : Scope.setCounter.clear f = true) : (s.trained width link).rd f = (s.trainedMarks width link).rd f :=
    (State.rdN_congr ((State.regs_trainedTwin _ width _).trans (State.regs_deriveLinkKeys _)) f 0).trans (Stays.rdN (.setCounter .refl .self) f 0 hf)
  have hepoch : ((s.wr R.TWIN_STATUS_LINK 2).wr R.TWIN_STATUS_LANES width).rd R.TWIN_LINK_EPOCH_VALUE = s.rd R.TWIN_LINK_EPOCH_VALUE :=
    (State.rdN_wrN_clearOf _ _ _ _ rfl).trans (State.rdN_wrN_clearOf _ _ _ _ rfl)
  refine ⟨(hcounter _ rfl).trans ?_, (hcounter _ rfl).trans ?_, (hcounter _ rfl).trans ?_, (hcounter _ rfl).trans ?_⟩
  · exact (State.rdN_wrN_clearOf _ _ _ _ rfl).trans ((State.rdN_wrN_clearOf _ _ _ _ rfl).trans (State.rd_wr_self ..))
  · exact (State.rdN_wrN_clearOf _ _ _ _ rfl).trans ((State.rd_wr_self ..).trans (Nat.mod_eq_of_lt hwidth))
  · exact (State.rd_wr_self ..).trans (by rw [hepoch])
  · exact (State.rdN_wrN_clearOf _ _ _ _ rfl).trans ((State.rdN_wrN_clearOf _ _ _ _ rfl).trans (State.rdN_wrN_clearOf _ _ _ _ rfl))

theorem State.settleRoles_of_same {s : State} {e : Nat} (he : s.rd R.TWIN_TOKEN_EPOCH_VALUE = e) (h : e ≠ 0) : s.settleRoles e = s := by
  subst he
  unfold State.settleRoles
  dsimp only
  rw [if_neg (Nat.lt_irrefl _), if_neg (fun k => h k.1)]

theorem exec_brazeTrainingComplete (s : State) (lanes link : Nat) (hcore : s.coreOn = true) (hpaired : s.paired = true)
    (hlink : s.rd R.TWIN_STATUS_LINK = 1) (hlanes : 8 ≤ lanes) (hident : s.twin.ident = some [s.rd R.TWIN_TOKEN_EPOCH_VALUE, link])
    (hepoch : s.rd R.TWIN_TOKEN_EPOCH_VALUE ≠ 0) :
    ∃ t, exec (.brazeTrainingComplete lanes) s = .next t ∧ t.rd R.TWIN_STATUS_LINK = 2 ∧
      t.rd R.TWIN_STATUS_LANES = (if 16 ≤ lanes then 16 else if 12 ≤ lanes then 12 else 8) ∧
      t.rd R.TWIN_LINK_EPOCH_VALUE = (max (s.rd R.TWIN_LINK_EPOCH_VALUE) link + 1) % 2 ^ R.TWIN_LINK_EPOCH_VALUE.width ∧
      t.twin.resyncDue = true ∧ t.twin.rxSeq = 0 := by
  have hexec : ∃ changed, exec (.brazeTrainingComplete lanes) s = .next
      ((((s.trained (trainedWidth lanes) link).trainedTold changed (trainedWidth lanes)).settleRoles
        (s.rd R.TWIN_TOKEN_EPOCH_VALUE)).sendStatus).twinViews := by
    refine ⟨s.twin.width != trainedWidth lanes, congrArg Host.Outcome.next ((if_pos (by simp [hcore, hpaired])).trans
      ((if_neg (by simp [hlink])).trans ((if_neg (by omega)).trans ?_)))⟩
    rw [hident]
    rfl
  obtain ⟨changed, hexec⟩ := hexec
  obtain ⟨hlink', hlanes', hvalue, htoken⟩ := s.rd_trained (trainedWidth lanes) link (trainedWidth_lt lanes)
  have htold := (s.trained (trainedWidth lanes) link).stays_trainedTold changed (trainedWidth lanes)
  rw [State.settleRoles_of_same ((htold.rdN _ 0 rfl).trans htoken) hepoch] at hexec
  have h : Stays .trainedTold (s.trained (trainedWidth lanes) link) _ := .twinViews (.sendStatus htold (.sub .self 1)) (.sub .self 2)
  exact ⟨_, hexec, (h.rdN _ 0 rfl).trans hlink', (h.rdN _ 0 rfl).trans hlanes', (h.rdN _ 0 rfl).trans hvalue,
    h.part (·.twin.resyncDue), h.part (·.twin.rxSeq)⟩

/-! ### Items -/

/-- An item of at most 4 080 bytes is one piece. -/
theorem BrazeItem.pieces_whole (i : BrazeItem) (fuel : Nat) (h : i.body.length ≤ 4080) : BrazeItem.pieces i (fuel + 1) 0 i.body = [i] := by
  unfold BrazeItem.pieces
  rw [if_pos h, List.take_of_length_le h]
  rfl

theorem State.out_flushFrame (s : State) (h : s.twin.frame ≠ []) :
    ∃ f : BrazeFrame, f.items = s.twin.frame ∧ s.flushFrame.out = s.out ++ [.brazeFrame f] := by
  unfold State.flushFrame
  rw [if_neg (by simpa using h)]
  exact ⟨_, rfl, rfl⟩

theorem length_beBytes (n v : Nat) : (beBytes n v).length = n := by simp [beBytes, length_leBytes]

/-- A frame that holds the item is the last thing out. -/
theorem frameSent_of_last {s u t : State} {f : BrazeFrame} {i : BrazeItem} (hu : s.out <+: u.out) (ht : t.out = u.out ++ [.brazeFrame f])
    (hi : i ∈ f.items) : FrameSent s t i := by
  obtain ⟨more, hmore⟩ := hu
  rw [FrameSent, ht, ← hmore]
  simp [hi]

/-- An item that one piece holds goes out in a frame. -/
theorem State.frameSent_sendItem (s : State) (i : BrazeItem) (hlink : s.linkUp = true) (hlen : i.body.length ≤ 4080) :
    FrameSent s (s.sendItem i) i := by
  have hsend : s.sendItem i = (s.packItem i).flushFrame := by
    unfold State.sendItem
    rw [if_pos hlink, BrazeItem.pieces_whole i _ hlen]
    rfl
  have hframe : (s.packItem i).twin.frame ≠ [] ∧ i ∈ (s.packItem i).twin.frame := by
    unfold State.packItem
    simp
  obtain ⟨f, hitems, hout⟩ := (s.packItem i).out_flushFrame hframe.1
  exact frameSent_of_last (Stays.packItem (i := i) .refl .self).out (hsend ▸ hout) (hitems ▸ hframe.2)

/-! ### Frames and replay -/

theorem State.learnEpoch_of_le {s : State} {epoch : Nat} (h : epoch ≤ s.rd R.TWIN_TOKEN_EPOCH_VALUE) : s.learnEpoch epoch = s :=
  if_neg (Nat.not_lt.mpr h)

/-- The next frame in sequence is taken. -/
theorem exec_brazeFrame_next (s : State) (dir credit tokenEpoch : Nat) (cipher tag : List Byte) (hlinked : Linked s)
    (hepoch : tokenEpoch ≤ s.rd R.TWIN_TOKEN_EPOCH_VALUE) (hopening : s.twin.opening = false)
    (htag : tag = frameTag s.twin.rxKey (s.rd R.TWIN_LINK_EPOCH_VALUE) dir credit tokenEpoch s.twin.rxSeq cipher) :
    exec (.brazeFrame dir credit tokenEpoch s.twin.rxSeq cipher tag) s =
      .next { s with twin.lastFrame := s.now, twin.rxSeq := s.twin.rxSeq + 1, twin.discarding := false,
                     twin.credit := s.twin.credit + 32 + cipher.length } := by
  obtain ⟨hcore, hpaired, hlink⟩ := hlinked
  refine congrArg Host.Outcome.next ((if_pos (by simp [hcore, hpaired])).trans ((if_neg (by simp [hlink])).trans
    ((if_pos (by simp [htag])).trans ((if_pos rfl).trans ?_))))
  dsimp only
  rw [State.learnEpoch_of_le (by exact hepoch)]
  exact if_neg (by simp [hopening])

/-- The link once a replay is asked for. -/
def State.replayAsked (s : State) : State :=
  { s with twin.lastFrame := s.now, twin.discarding := true
           twin.replays := (s.twin.replays ++ [s.now]).filter (fun t => decide (s.now ≤ t + ms 1)) }.bump R.TWIN_BRAZE_REPLAYS 1

/-- A frame behind a gap asks for a replay. -/
theorem exec_brazeFrame_gap (s : State) (dir credit tokenEpoch seq : Nat) (cipher tag : List Byte) (htakes : ItemTakes s)
    (hseq : s.twin.rxSeq < seq) (hreplays : s.twin.replays.length < 16)
    (htag : tag = frameTag s.twin.rxKey (s.rd R.TWIN_LINK_EPOCH_VALUE) dir credit tokenEpoch seq cipher) :
    ∃ t, exec (.brazeFrame dir credit tokenEpoch seq cipher tag) s = .next t ∧ t.twin.discarding = true ∧ t.twin.rxSeq = s.twin.rxSeq ∧
      FrameSent s t (plainItem 0x12 (beBytes 8 s.twin.rxSeq)) := by
  obtain ⟨⟨hcore, hpaired, hlink⟩, hdiscarding⟩ := htakes
  have hrecent : ¬ 16 < ((s.twin.replays ++ [s.now]).filter (fun t => decide (s.now ≤ t + ms 1))).length := by
    have := List.length_filter_le (fun t => decide (s.now ≤ t + ms 1)) (s.twin.replays ++ [s.now])
    rw [List.length_append, List.length_singleton] at this
    omega
  have hexec : exec (.brazeFrame dir credit tokenEpoch seq cipher tag) s =
      .next (s.replayAsked.sendItem (plainItem 0x12 (beBytes 8 s.twin.rxSeq))) := by
    refine congrArg Host.Outcome.next ((if_pos (by simp [hcore, hpaired])).trans ((if_neg (by simp [hlink])).trans
      ((if_neg (by simp [hseq])).trans ?_)))
    simp only [← htag, beq_self_eq_true, if_true, hdiscarding, Bool.and_false, Bool.false_eq_true, if_false]
    exact if_neg hrecent
  have hsend : Stays .sendItem s.replayAsked (s.replayAsked.sendItem (plainItem 0x12 (beBytes 8 s.twin.rxSeq))) := .sendItem .refl .self
  have hlink' : s.replayAsked.linkUp = true := (congrArg (· == 2) (State.rdN_wrN_clearOf _ _ _ _ rfl)).trans hlink
  have hsent := s.replayAsked.frameSent_sendItem (plainItem 0x12 (beBytes 8 s.twin.rxSeq)) hlink'
    (by simp [plainItem, length_beBytes])
  have hout : s.replayAsked.out = s.out := by simp [State.replayAsked]
  exact ⟨_, hexec, (hsend.part (·.twin.discarding)).trans (by simp [State.replayAsked]),
    (hsend.part (·.twin.rxSeq)).trans (by simp [State.replayAsked]), by rwa [FrameSent, hout] at hsent⟩

theorem State.out_sendFrames (fs : List BrazeFrame) (s : State) :
    (fs.foldl (fun s f => s.send (.brazeFrame f)) s).out = s.out ++ fs.map Out.brazeFrame := by
  induction fs generalizing s with
  | nil => simp
  | cons f fs ih => rw [List.foldl_cons, ih]; simp [State.send]

theorem exec_replay (s : State) (expected : Nat) (htakes : ItemTakes s) :
    ∃ t, exec (.replay expected) s = .next t ∧
      t.out = s.out ++ (s.twin.replayBuf.filter (fun f => decide (expected ≤ f.seq))).map Out.brazeFrame := by
  obtain ⟨⟨hcore, hpaired, hlink⟩, hdiscarding⟩ := htakes
  exact ⟨_, congrArg Host.Outcome.next ((if_pos (by simp [hcore, hpaired])).trans (if_pos (by simp [hlink, hdiscarding]))),
    State.out_sendFrames _ s⟩

/-! ### Timers -/

theorem exec_statusSendTimer (s : State) (hlinked : Linked s) (hannounce : s.twin.announce = []) (hat : s.twin.statusAt ≤ s.now) :
    ∃ t, exec .statusSendTimer s = .next t ∧ FrameSent s t s.statusItem ∧ t.twin.statusAt = s.now + us 100 := by
  obtain ⟨hcore, hpaired, hlink⟩ := hlinked
  have hquiet : s.announceDue = s := by simp [State.announceDue, hannounce]
  have hexec : exec .statusSendTimer s = .next { s.sendStatus with twin.statusAt := s.now + us 100 } := by
    refine congrArg Host.Outcome.next ((if_pos (by simp [hcore, hpaired])).trans ?_)
    dsimp only
    rw [hquiet]
    exact if_pos (by simp [hlink, hat])
  refine ⟨_, hexec, ?_, rfl⟩
  have hsent : s.sendStatus = s.sendItem s.statusItem := if_pos hpaired
  have hshort : s.statusItem.body.length ≤ 4080 := by simp [State.statusItem, plainItem, length_beBytes]
  exact hsent ▸ s.frameSent_sendItem _ hlink hshort

theorem exec_mirrorFrameTimer (s : State) (hlinked : Linked s) (hdue : due s.now s.twin.frameAt = true) (hcut : s.twin.cut = [])
    (hframe : s.twin.frame ≠ []) :
    ∃ t, exec .mirrorFrameTimer s = .next t ∧ t.twin.frame = [] ∧ t.twin.frameAt = none ∧ t.twin.txSeq = s.twin.txSeq + 1 := by
  obtain ⟨hcore, hpaired, hlink⟩ := hlinked
  have hexec : exec .mirrorFrameTimer s = .next s.flushStream :=
    congrArg Host.Outcome.next ((if_pos (by simp [hcore, hpaired])).trans (if_pos (by simp [hlink, hdue])))
  refine ⟨_, hexec, ?_⟩
  unfold State.flushStream State.pumpCut State.flushFrame
  rw [if_neg (by simpa using hframe)]
  simp [hcut]

theorem exec_revertTimer (s : State) (since : Nat) (hlinked : Linked s) (hhome : s.twin.homeSince = some since)
    (hrevert : s.rd R.TWIN_REVERT_REVERT_S ≠ 0) (hend : since + sec (s.rd R.TWIN_REVERT_REVERT_S) ≤ s.now)
    (hstage : s.twin.peerStatus.stage < 3) (hsuppressed : s.on R.TWIN_STATUS_REVERT_SUPPRESSED = false) :
    ∃ t, exec .revertTimer s = .next t ∧ FrameSent s t (ctrlItem 3 0) ∧ t.twin.homeSince = some s.now := by
  obtain ⟨hcore, hpaired, hlink⟩ := hlinked
  have hexec : exec .revertTimer s = .next { s.sendItem (ctrlItem 3 0) with twin.homeSince := some s.now } := by
    refine congrArg Host.Outcome.next ((if_pos (by simp [hcore, hpaired])).trans ?_)
    dsimp only
    rw [hhome]
    exact if_pos (by simp [hrevert, hend, hstage, hsuppressed])
  exact ⟨_, hexec, s.frameSent_sendItem (ctrlItem 3 0) hlink (by decide), rfl⟩

/-- Settles O48: where nothing runs, what follows the loss of the link writes neither its state nor the time of the next training; an item
of one frame is the last thing out; and the end of training leaves the link UP under its new epoch whatever it tells. -/
theorem brazeLinkRows : Obligations.BrazeLinkRows := by
  unfold Obligations.BrazeLinkRows
  exact ⟨exec_brazeLossOfSignal, exec_brazeDeadTimeout, exec_brazeTrainingRetry, exec_ident, exec_ident_miscabled,
    exec_brazeTrainingComplete, exec_brazeFrame_next, exec_brazeFrame_gap, exec_replay, exec_statusSendTimer, exec_mirrorFrameTimer,
    exec_revertTimer⟩

end

end Sys2Proof.Machine


/-! What the rows of the hold-up test may write. -/

namespace Sys2Proof.Machine

open Sys2Proof

section

set_option Elab.async false

def Scope.budgetViews : Scope := .of (fun z s => { s with regs := z.regs }) [.reg R.DUR_E_E_USABLE_J, .reg R.DUR_E_E_RESERVE_J, .reg
  R.DUR_P_P_SAVE_W, .reg R.DUR_B_B_PROGRAM, .reg R.DUR_BANK_ESR_10UOHM]

theorem Stays.budgetViews {V : Scope} {s₀ s : State} (h : Stays V s₀ s) (hv : Scope.budgetViews.Within V) : Stays V s₀
    (s.budgetViews) :=
  .wr (.wr (.wr (.wr (.wr h (hv.sub 0)) (hv.sub 1)) (hv.sub 2)) (hv.sub 3)) (hv.sub 4)

def Scope.budgetEvents : Scope := .of (fun z s => { s with
    regs := z.regs, hub := z.hub, rings := z.rings, msix := z.msix, keeper.flash.ram := z.keeper.flash.ram,
    keeper.flash.flood := z.keeper.flash.flood, keeper.flash.counters := z.keeper.flash.counters, out := z.out }) [.raise]

theorem Stays.budgetEvents {V : Scope} {s₀ s : State} {old : Nat} {new : Nat} {input : Nat} (h : Stays V s₀ s) (hv :
    Scope.budgetEvents.Within V) : Stays V s₀ (s.budgetEvents old new input) :=
  .when (.when (.ite (.raise h (hv.sub 0)) h) (fun h => .raise h (hv.sub 0))) (fun h => .raise h (hv.sub 0))

def Scope.recomputeBudget : Scope := .of (fun z s => { s with
    regs := z.regs, hub := z.hub, rings := z.rings, msix := z.msix, keeper.flash.ram := z.keeper.flash.ram,
    keeper.flash.flood := z.keeper.flash.flood, keeper.flash.counters := z.keeper.flash.counters,
    dur.prevInputs := z.dur.prevInputs, dur.peaks := z.dur.peaks, dur.below := z.dur.below,
    dur.throttleFrom := z.dur.throttleFrom, dur.nextBudget := z.dur.nextBudget, twin.frame := z.twin.frame,
    twin.frameAt := z.twin.frameAt, twin.txSeq := z.twin.txSeq, twin.replayBuf := z.twin.replayBuf,
    twin.credit := z.twin.credit, out := z.out }) [.budgetViews, .reg R.DUR_BUDGET_BUDGET_GIB, .budgetEvents, .compareD]

theorem Stays.recomputeBudget {V : Scope} {s₀ s : State} (h : Stays V s₀ s) (hv : Scope.recomputeBudget.Within V) : Stays V s₀
    (s.recomputeBudget) :=
  .ite h (.compareD (.upd (.budgetEvents (.wr (.budgetViews h (hv.sub 0)) (hv.sub 1)) (hv.sub 2)) hv) (hv.sub 3))

def Scope.readBank : Scope := .of (fun z s => { s with
    regs := z.regs, hub := z.hub, rings := z.rings, msix := z.msix, keeper.flash.ram := z.keeper.flash.ram,
    keeper.flash.flood := z.keeper.flash.flood, keeper.flash.counters := z.keeper.flash.counters,
    dur.senseLost := z.dur.senseLost, out := z.out }) [.raise, .reg R.DUR_BANK_V_VBANK_MV]

theorem Stays.readBank {V : Scope} {s₀ s : State} {mv : Nat} (h : Stays V s₀ s) (hv : Scope.readBank.Within V) : Stays V s₀
    (s.readBank mv) :=
  .upd (.wr (.ite (.raise h (hv.sub 0)) h) (hv.sub 1)) hv

def Scope.trackEsr : Scope := .of (fun z s => { s with regs := z.regs, keeper.holdup := z.keeper.holdup }) [.reg
  R.KEEPER_HOLDUP_STATUS_TRACK_ESR_10UOHM, .reg R.KEEPER_HOLDUP_STATUS_TRACK_OK]

theorem Stays.trackEsr {V : Scope} {s₀ s : State} {e : Nat} (h : Stays V s₀ s) (hv : Scope.trackEsr.Within V) : Stays V s₀
    (s.trackEsr e) :=
  .upd (.wr (.wr h (hv.sub 0)) (hv.sub 1)) hv

end

end Sys2Proof.Machine


/-! The hold-up test, its recharge and the ESR pulses (R145, R146, R410, R411, Table 19-2). -/

namespace Sys2Proof.Machine

open Sys2Proof

section

set_option Elab.async false

/-! ### What begins and ends a test -/

/-- A value that a field holds is read back after the field is written. -/
theorem State.rd_wr_fits (s : State) (f : Fld) {v : Nat} (h : v < 2 ^ f.width) : (s.wr f v).rd f = v :=
  (State.rd_wr_self s f v).trans (Nat.mod_eq_of_lt h)

theorem State.rd_wr_clear (s : State) {f g : Fld} (v : Nat) (h : Fld.clearOf f g = true) : (s.wr f v).rd g = s.rd g :=
  State.rdN_wrN_clearOf s 0 0 v h

/-- With a discharge resistor, a due test takes its budget and waits for the bank. -/
theorem State.testDue_leaves {s : State} (h : s.rd R.KEEPER_HOLDUP_CFG_RTEST_MOHM ≠ 0) :
    s.testDue.rd R.KEEPER_HOLDUP_STATUS_TEST_STATE = 1 ∧ s.testDue.rd R.DUR_STATUS_TEST_ACTIVE = 1 ∧
      s.testDue.keeper.holdup.retryAt = none ∧
      s.testDue.rd R.DUR_BUDGET_TEST_GIB = s.budgetFor (s.eUsable * 9 / 10) % 2 ^ R.DUR_BUDGET_TEST_GIB.width := by
  unfold State.testDue
  rw [if_neg h]
  extract_lets keeper holdup s₁ s₂
  have hkept (t : State) : Stays .compareD t t.compareD := .compareD .refl .self
  refine ⟨((hkept _).rdN _ 0 rfl).trans (State.rd_wr_fits _ _ (by decide)), ((hkept _).rdN _ 0 rfl).trans ?_,
    ((hkept _).part (·.keeper.holdup.retryAt)).trans (by simp [s₂, s₁]), ((hkept _).rdN _ 0 rfl).trans ?_⟩
  · exact (State.rd_wr_clear _ _ rfl).trans (State.rd_wr_fits _ _ (by decide))
  · exact (State.rd_wr_clear _ _ rfl).trans ((State.rd_wr_clear _ _ rfl).trans (State.rd_wr_self ..))

/-- A test that runs ends with its load off, and another follows after 10 min. -/
theorem State.abortHoldupTest_leaves {s : State} {result : Nat} (h : s.rd R.KEEPER_HOLDUP_STATUS_TEST_STATE = 2) (hresult : result < 8) :
    (s.abortHoldupTest result).rd R.KEEPER_HOLDUP_STATUS_TEST_STATE = 3 ∧
      (s.abortHoldupTest result).rd R.KEEPER_HOLDUP_STATUS_LAST_RESULT = result ∧
      AMap.get? (s.abortHoldupTest result).keeper.outputs 0x14 = some false ∧
      (s.abortHoldupTest result).keeper.holdup.retryAt = some (s.now + sec 600) ∧ (s.abortHoldupTest result).keeper.testEnd = none := by
  unfold State.abortHoldupTest
  rw [if_pos h]
  have hkept (t : State) : Stays .raise t (t.raise Ev.DURABILITY_HOLDUP_TEST_FAIL []) := .raise .refl .self
  refine ⟨((hkept _).rdN _ 0 rfl).trans ?_, ((hkept _).rdN _ 0 rfl).trans (State.rd_wr_fits _ _ hresult),
    (congrArg (AMap.get? · 0x14) ((hkept _).part (·.keeper.outputs))).trans (AMap.get?_set_self ..),
    ((hkept _).part (·.keeper.holdup.retryAt)).trans (by simp [State.now]), (hkept _).part (·.keeper.testEnd)⟩
  exact (State.rd_wr_clear _ _ rfl).trans (State.rd_wr_fits _ _ (by decide))

/-! ### The rows of a test -/

theorem exec_holdupTestDue (s : State) (hmay : s.testMayBegin = true) (hretry : s.keeper.holdup.retryAt = none)
    (hdue : s.keeper.holdup.nextDue ≤ s.now) : exec .holdupTestDue s = .next s.testDue :=
  congrArg Host.Outcome.next (if_pos (by simp [hmay, hretry, hdue]))

theorem exec_holdupTestDue_resistor (s : State) (hmay : s.testMayBegin = true) (hretry : s.keeper.holdup.retryAt = none)
    (hdue : s.keeper.holdup.nextDue ≤ s.now) (hrtest : s.rd R.KEEPER_HOLDUP_CFG_RTEST_MOHM ≠ 0) :
    ∃ t, exec .holdupTestDue s = .next t ∧ t.rd R.KEEPER_HOLDUP_STATUS_TEST_STATE = 1 ∧ t.rd R.DUR_STATUS_TEST_ACTIVE = 1 ∧
      t.rd R.DUR_BUDGET_TEST_GIB = s.budgetFor (s.eUsable * 9 / 10) % 2 ^ R.DUR_BUDGET_TEST_GIB.width := by
  obtain ⟨hstate, hactive, -, hbudget⟩ := State.testDue_leaves hrtest
  exact ⟨_, exec_holdupTestDue s hmay hretry hdue, hstate, hactive, hbudget⟩

theorem exec_holdupTestDue_none (s : State) (hmay : s.testMayBegin = true) (hretry : s.keeper.holdup.retryAt = none)
    (hdue : s.keeper.holdup.nextDue ≤ s.now) (hrtest : s.rd R.KEEPER_HOLDUP_CFG_RTEST_MOHM = 0) :
    ∃ t, exec .holdupTestDue s = .next t ∧ t.keeper.holdup.retryAt = some (s.now + sec 600) ∧
      t.rd R.KEEPER_HOLDUP_STATUS_TEST_STATE = 0 := by
  have hidle : s.rd R.KEEPER_HOLDUP_STATUS_TEST_STATE = 0 := by
    simp only [State.testMayBegin, Bool.and_eq_true, beq_iff_eq] at hmay
    exact hmay.2
  have hraise : s.testDue = { s with keeper.holdup.retryAt := some (s.now + sec 600) }.raise Ev.DURABILITY_HOLDUP_TEST_FAIL [] := if_pos hrtest
  have hkept (t : State) : Stays .raise t (t.raise Ev.DURABILITY_HOLDUP_TEST_FAIL []) := .raise .refl .self
  refine ⟨_, exec_holdupTestDue s hmay hretry hdue, ?_, ?_⟩
  · rw [hraise]
    exact (hkept _).part (·.keeper.holdup.retryAt)
  · rw [hraise]
    exact ((hkept _).rdN _ 0 rfl).trans hidle

theorem exec_holdupTestRetry (s : State) (hmay : s.testMayBegin = true) (hdue : due s.now s.keeper.holdup.retryAt = true)
    (hrtest : s.rd R.KEEPER_HOLDUP_CFG_RTEST_MOHM ≠ 0) :
    ∃ t, exec .holdupTestRetry s = .next t ∧ t.rd R.KEEPER_HOLDUP_STATUS_TEST_STATE = 1 ∧ t.rd R.DUR_STATUS_TEST_ACTIVE = 1 ∧
      t.keeper.holdup.retryAt = none ∧
      t.rd R.DUR_BUDGET_TEST_GIB = s.budgetFor (s.eUsable * 9 / 10) % 2 ^ R.DUR_BUDGET_TEST_GIB.width :=
  ⟨_, congrArg Host.Outcome.next (if_pos (by simp [hmay, hdue])), State.testDue_leaves hrtest⟩

theorem exec_holdupTestStart (s : State) (v0 : Nat) (hkeeper : s.keeperRuns = true) (hcore : s.coreOn = true) (hsave : s.save.active = false)
    (hstate : s.rd R.KEEPER_HOLDUP_STATUS_TEST_STATE = 1) (hfeed : s.anyFeedOk = true)
    (hdirty : s.dur.dirty.length * page4K ≤ s.rd R.DUR_BUDGET_TEST_GIB * gib) :
    ∃ t, exec (.holdupTestStart v0) s = .next t ∧ t.rd R.KEEPER_HOLDUP_STATUS_TEST_STATE = 2 ∧
      AMap.get? t.keeper.outputs 0x14 = some true ∧ t.keeper.holdup.v0 = v0 ∧
      t.keeper.testEnd = some (s.now + sec (s.rd R.KEEPER_HOLDUP_CFG_TEST_MAX_S)) := by
  refine ⟨_, congrArg Host.Outcome.next (if_pos (by simp [hkeeper, hcore, hsave, hstate, hfeed, hdirty])),
    State.rd_wr_fits s _ (by decide), AMap.get?_set_self .., rfl, rfl⟩

theorem exec_holdupTestV1Read (s : State) (v1 e : Nat) (hkeeper : s.keeperRuns = true)
    (hstate : s.rd R.KEEPER_HOLDUP_STATUS_TEST_STATE = 2) (hv1 : s.keeper.holdup.v1 = 0) (hwait : s.keeper.holdup.v1At + us 100 ≤ s.now)
    (hstep : s.stepEsr s.keeper.holdup.v0 v1 = some e) :
    exec (.holdupTestV1Read v1) s = .next { s with keeper.holdup.v1 := v1, keeper.holdup.v1At := s.now } := by
  refine congrArg Host.Outcome.next ((if_pos (by simp [hkeeper, hstate, hv1, hwait])).trans ?_)
  rw [hstep]

/-- The measured bank, its age and the next test. -/
def State.testMeasured (s : State) (c e : Nat) : State :=
  let s := s.setCounter 7 (c % 2 ^ 16 + e % 2 ^ 16 * 2 ^ 16 + s.taiSeconds % 2 ^ 32 * 2 ^ 32)
  let s := ((s.wr R.DUR_BANK_C_MF c).wr R.KEEPER_HOLDUP_STATUS_LAST_RESULT 1).wr R.KEEPER_HOLDUP_STATUS_TEST_STATE 3
  let due := s.now + s.rd R.DUR_TEST_INTERVAL_H * sec 3600
  { s.testLoad false with
      keeper.holdup := { s.keeper.holdup with esr := e, lastValid := some s.now, retryAt := none, stale := false, nextDue := due }
      keeper.testEnd := none }

theorem State.testMeasured_leaves (s : State) (c e : Nat) :
    (s.testMeasured c e).rd R.DUR_BANK_C_MF = c % 2 ^ R.DUR_BANK_C_MF.width ∧
      (s.testMeasured c e).rd R.KEEPER_HOLDUP_STATUS_LAST_RESULT = 1 ∧ (s.testMeasured c e).rd R.KEEPER_HOLDUP_STATUS_TEST_STATE = 3 ∧
      (s.testMeasured c e).keeper.holdup.lastValid = some s.now ∧ (s.testMeasured c e).keeper.holdup.esr = e ∧
      AMap.get? (s.testMeasured c e).keeper.outputs 0x14 = some false := by
  unfold State.testMeasured
  extract_lets s₁ s₂ next
  have hnow : s₂.now = s.now := by simp [s₂, s₁, State.now]
  have hlast : s₂.rd R.KEEPER_HOLDUP_STATUS_LAST_RESULT = 1 := (State.rd_wr_clear _ _ rfl).trans (State.rd_wr_fits _ _ (by decide))
  have hbank : s₂.rd R.DUR_BANK_C_MF = c % 2 ^ R.DUR_BANK_C_MF.width :=
    (State.rd_wr_clear _ _ rfl).trans ((State.rd_wr_clear _ _ rfl).trans (State.rd_wr_self ..))
  have hstate : s₂.rd R.KEEPER_HOLDUP_STATUS_TEST_STATE = 3 := State.rd_wr_fits _ _ (by decide)
  clear_value s₂
  exact ⟨hbank, hlast, hstate, congrArg some hnow, rfl, AMap.get?_set_self ..⟩

theorem exec_holdupTestVEnd (s : State) (mv e : Nat) (hkeeper : s.keeperRuns = true) (hstate : s.rd R.KEEPER_HOLDUP_STATUS_TEST_STATE = 2)
    (hv1 : s.keeper.holdup.v1 ≠ 0) (hend : s.atVEnd mv = true) (hstep : s.stepEsr s.keeper.holdup.v0 s.keeper.holdup.v1 = some e)
    (hlow : 50 ≤ discharged (s.now - s.keeper.holdup.v1At) (s.rd R.KEEPER_HOLDUP_CFG_RTEST_MOHM * 100 + e) s.keeper.holdup.v1 mv)
    (hhigh : discharged (s.now - s.keeper.holdup.v1At) (s.rd R.KEEPER_HOLDUP_CFG_RTEST_MOHM * 100 + e) s.keeper.holdup.v1 mv ≤ 50000) :
    ∃ t, exec (.holdupTestVEnd mv) s = .next t ∧ t.rd R.DUR_BANK_C_MF =
        discharged (s.now - s.keeper.holdup.v1At) (s.rd R.KEEPER_HOLDUP_CFG_RTEST_MOHM * 100 + e) s.keeper.holdup.v1 mv %
          2 ^ R.DUR_BANK_C_MF.width ∧
      t.rd R.KEEPER_HOLDUP_STATUS_LAST_RESULT = 1 ∧ t.rd R.KEEPER_HOLDUP_STATUS_TEST_STATE = 3 ∧ t.keeper.holdup.lastValid = some s.now ∧
      t.keeper.holdup.esr = e ∧ AMap.get? t.keeper.outputs 0x14 = some false := by
  generalize hc : discharged (s.now - s.keeper.holdup.v1At) (s.rd R.KEEPER_HOLDUP_CFG_RTEST_MOHM * 100 + e) s.keeper.holdup.v1 mv = c at *
  have hexec : exec (.holdupTestVEnd mv) s = .next (s.testMeasured c e) := by
    refine congrArg Host.Outcome.next ((if_pos (by simp [hkeeper, hstate, hv1, hend])).trans ?_)
    rw [hstep]
    dsimp only
    rw [hc]
    exact if_pos ⟨hlow, hhigh⟩
  exact ⟨_, hexec, s.testMeasured_leaves c e⟩

theorem exec_holdupTestTimeout (s : State) (hkeeper : s.keeperRuns = true) (hdue : due s.now s.keeper.testEnd = true)
    (hstate : s.rd R.KEEPER_HOLDUP_STATUS_TEST_STATE = 2) :
    ∃ t, exec .holdupTestTimeout s = .next t ∧ t.rd R.KEEPER_HOLDUP_STATUS_TEST_STATE = 3 ∧ t.rd R.KEEPER_HOLDUP_STATUS_LAST_RESULT = 4 ∧
      AMap.get? t.keeper.outputs 0x14 = some false ∧ t.keeper.holdup.retryAt = some (s.now + sec 600) ∧ t.keeper.testEnd = none :=
  ⟨_, congrArg Host.Outcome.next (if_pos (by simp [hkeeper, hdue])), State.abortHoldupTest_leaves hstate (by decide)⟩

/-- What follows the two marks of a recharged bank. -/
def State.recharged (s : State) (mv : Nat) : State :=
  let s := s.readBank mv
  let s := if s.coreOn && s.start.tablesDone then s.recomputeBudget else s
  if s.rd R.KEEPER_HOLDUP_STATUS_LAST_RESULT = 1 then s.raiseKeeper Ev.POWER_HOLDUP_TEST_DONE [] else s

def Scope.recharged : Scope := .of (fun z _ => z) [.readBank, .recomputeBudget, .raiseKeeper]

theorem State.stays_recharged (s : State) (mv : Nat) : Stays .recharged s (s.recharged mv) := by
  have hread : Stays .recharged s (s.readBank mv) := .readBank .refl (.sub .self 0)
  exact .when (.when hread fun h => .recomputeBudget h (.sub .self 1)) fun h => .raiseKeeper h (.sub .self 2)

theorem exec_holdupRechargeDone (s : State) (mv : Nat) (hkeeper : s.keeperRuns = true) (hstate : s.rd R.KEEPER_HOLDUP_STATUS_TEST_STATE = 3)
    (hsave : s.save.active = false) (hfull : 99 * s.keeper.holdup.v0 ≤ 100 * mv) :
    ∃ t, exec (.holdupRechargeDone mv) s = .next t ∧ t.rd R.KEEPER_HOLDUP_STATUS_TEST_STATE = 0 ∧ t.rd R.DUR_STATUS_TEST_ACTIVE = 0 := by
  have hexec : exec (.holdupRechargeDone mv) s =
      .next (((s.wr R.KEEPER_HOLDUP_STATUS_TEST_STATE 0).wr R.DUR_STATUS_TEST_ACTIVE 0).recharged mv) :=
    congrArg Host.Outcome.next (if_pos (by simp [hkeeper, hstate, hsave, hfull]))
  refine ⟨_, hexec, ((State.stays_recharged _ mv).rdN _ 0 rfl).trans ?_, ((State.stays_recharged _ mv).rdN _ 0 rfl).trans ?_⟩
  · exact (State.rd_wr_clear _ _ rfl).trans (State.rd_wr_fits _ _ (by decide))
  · exact State.rd_wr_fits _ _ (by decide)

/-! ### Age of the measurement and tracking -/

def Scope.staled : Scope := .of (fun z s => { z with keeper.holdup := s.keeper.holdup }) [.raise, .recomputeBudget]

theorem exec_holdupStaleTimer (s : State) (hkeeper : s.keeperRuns = true) (hcore : s.coreOn = true) (hstale : s.keeper.holdup.stale = false)
    (hold : s.keeper.holdup.lastValid.getD 0 + 2 * s.rd R.DUR_TEST_INTERVAL_H * sec 3600 ≤ s.now) :
    ∃ t, exec .holdupStaleTimer s = .next t ∧ t.keeper.holdup.stale = true := by
  refine ⟨_, congrArg Host.Outcome.next (if_pos (by simp [hkeeper, hcore, hstale, hold])), ?_⟩
  have hraise : Stays .staled { s with keeper.holdup.stale := true }
      ({ s with keeper.holdup.stale := true }.raise Ev.DURABILITY_HOLDUP_STALE []) := .raise .refl (.sub .self 0)
  exact (Stays.when hraise fun h => .recomputeBudget h (.sub .self 1)).part (·.keeper.holdup.stale)

theorem exec_esrPulse (s : State) (v0 v1 e : Nat) (hkeeper : s.keeperRuns = true) (hwait : s.keeper.holdup.lastPulse + sec 60 ≤ s.now)
    (hmay : s.pulseMay = true) (hstep : s.stepEsr v0 v1 = some e) (hlow : s.keeper.holdup.esr ≤ 5 * e) (hhigh : e ≤ 5 * s.keeper.holdup.esr) :
    ∃ t, exec (.esrPulse v0 v1) s = .next t ∧ t.rd R.KEEPER_HOLDUP_STATUS_TRACK_OK = 1 ∧ t.keeper.holdup.lastGood = s.now ∧
      t.keeper.holdup.lastPulse = s.now ∧ e ∈ t.keeper.holdup.pulses := by
  have hexec : exec (.esrPulse v0 v1) s = .next ({ s with keeper.holdup.lastPulse := s.now }.trackEsr e) := by
    have hmay' : ({ s with keeper.holdup.lastPulse := s.now } : State).pulseMay = true := hmay
    have hstep' : ({ s with keeper.holdup.lastPulse := s.now } : State).stepEsr v0 v1 = some e := hstep
    refine congrArg Host.Outcome.next ((if_neg (by simp [hkeeper]; omega)).trans ?_)
    simp only [hmay', hstep', if_true, Option.filter, hlow, hhigh, and_self, decide_true]
  refine ⟨_, hexec, State.rd_wr_fits _ _ (by decide), by simp [State.trackEsr, State.now], by simp [State.trackEsr], ?_⟩
  show e ∈ (s.keeper.holdup.pulses ++ [e]).drop ((s.keeper.holdup.pulses ++ [e]).length - 8)
  rw [List.drop_append_of_le_length (by simp)]
  simp

/-- Settles O25: what follows the marks of a row (the throttle, the events, the budget) writes none of them. -/
theorem holdupTest : Obligations.HoldupTest := by
  unfold Obligations.HoldupTest
  exact ⟨exec_holdupTestDue_resistor, exec_holdupTestDue_none, exec_holdupTestRetry, exec_holdupTestStart, exec_holdupTestV1Read,
    exec_holdupTestVEnd, exec_holdupTestTimeout, exec_holdupRechargeDone, exec_holdupStaleTimer, exec_esrPulse⟩

end

end Sys2Proof.Machine


/-! What the wake request may write. -/

namespace Sys2Proof.Machine

open Sys2Proof

section

set_option Elab.async false

def Scope.driveFeeds : Scope := .of (fun z s => { s with
    regs := z.regs, keeper.onSecondary := z.keeper.onSecondary, keeper.outputs := z.keeper.outputs }) [.reg R.KEEPER_FEED_STATUS_A_EN,
      .reg R.KEEPER_FEED_STATUS_B_EN]

theorem Stays.driveFeeds {V : Scope} {s₀ s : State} (h : Stays V s₀ s) (hv : Scope.driveFeeds.Within V) : Stays V s₀ (s.driveFeeds)
    :=
  .upd (.flag (.flag h (hv.sub 0)) (hv.sub 1)) hv

def Scope.reply : Scope := .of (fun z s => { s with keeper.fifoOut := z.keeper.fifoOut }) []

theorem Stays.reply {V : Scope} {s₀ s : State} {op : Nat} {seq : Nat} {status : Nat} {ws : List Nat} (h : Stays V s₀ s) (hv :
    Scope.reply.Within V) : Stays V s₀ (s.reply op seq status ws) :=
  .upd h hv

end

end Sys2Proof.Machine


/-! The management mailbox and the life-cycle requests (R383 to R386, R395, R414, R415, R429). -/

namespace Sys2Proof.Machine

open Sys2Proof

section

set_option Elab.async false

/-! ### Answers of the mailbox -/

/-- No mailbox register below the window stands at the half of a throttle counter. -/
theorem mboxReaches_ne_throttle {off : Nat} (h : mboxReaches off = true) : off ≠ 0xE0058 := by
  rintro rfl
  exact absurd h (by decide)

/-- Below the window, a read of the mailbox writes no register. -/
theorem State.regs_readPath {s : State} {p : Path} {off : Nat} (hwindow : off < 0x198000) (hne : off ≠ 0xE0058) :
    (s.readPath p off).2.regs = s.regs := by
  unfold State.readPath
  rw [if_neg (by omega)]
  dsimp only
  rw [if_neg hne]
  split
  · rfl
  · split
    · split <;> rfl
    · rfl

theorem exec_mboxRead (s : State) (seq off : Nat) (hkeeper : s.keeperRuns = true) (hreach : mboxReaches off = true) (hoff : off < 0x198000) :
    ∃ t, exec (.mboxRead seq off) s = .next t ∧ t.keeper.fifoOut = [0x81 * 2 ^ 24 + 2 * 2 ^ 16 + seq % 2 ^ 16, 0, (s.readPath .mgmt off).1] ∧
      t.regs = s.regs :=
  ⟨_, congrArg Host.Outcome.next ((if_neg (by simp [hkeeper])).trans (if_pos hreach)), rfl,
    State.regs_readPath hoff (mboxReaches_ne_throttle hreach)⟩

theorem exec_mboxWrite (s : State) (seq off v : Nat) (hkeeper : s.keeperRuns = true) (hreach : mboxReaches off = true) :
    ∃ t, exec (.mboxWrite seq off v) s = .next t ∧ t.keeper.fifoOut = [0x82 * 2 ^ 24 + 2 ^ 16 + seq % 2 ^ 16, 0] ∧
      t.regs = (s.writePath .mgmt off v).regs ∧ t.out = (s.writePath .mgmt off v).out :=
  ⟨_, congrArg Host.Outcome.next ((if_neg (by simp [hkeeper])).trans (if_pos hreach)), rfl, rfl, rfl⟩

theorem exec_mboxStatus (s : State) (seq : Nat) (hkeeper : s.keeperRuns = true) :
    ∃ t, exec (.mboxStatus seq) s = .next t ∧ t.keeper.fifoOut = [0x84 * 2 ^ 24 + 4 * 2 ^ 16 + seq % 2 ^ 16, 0,
      s.readWord 0x190004, s.readWord 0x19000C, s.readWord 0x180000] ∧ t.regs = s.regs :=
  ⟨_, congrArg Host.Outcome.next (if_pos hkeeper), rfl, rfl⟩

theorem exec_eventRead (s : State) (seq start : Nat) (r : LogRecord) (hkeeper : s.keeperRuns = true)
    (hfind : s.keeper.flash.log.find? (fun x => x.seq == start % 2 ^ 32) = some r) :
    ∃ t, exec (.eventRead seq start 1) s = .next t ∧ t.keeper.fifoOut =
      (0x85 * 2 ^ 24 + ((wordsOf r.bytes 16).length + 1) * 2 ^ 16 + seq % 2 ^ 16) :: 0 :: wordsOf r.bytes 16 ∧ t.regs = s.regs := by
  have hrecords : (rangeFrom 0 (clampTo 1 3 1)).filterMap (fun i => s.keeper.flash.log.find? (fun r => r.seq == (start + i) % 2 ^ 32)) = [r] := by
    show List.filterMap _ [0] = [r]
    rw [List.filterMap_cons, Nat.add_zero, hfind]
    rfl
  refine ⟨_, congrArg Host.Outcome.next (if_pos hkeeper), ?_, rfl⟩
  simp only [hrecords, State.reply, List.map_cons, List.map_nil, List.flatten_cons, List.flatten_nil, List.append_nil]

theorem exec_authChunk (s : State) (seq off : Nat) (ws : List Nat) (hkeeper : s.keeperRuns = true) (halign : off % 4 = 0) (hpos : 0 < off)
    (hlen : ws.length ≤ 60) (hend : off + 4 * ws.length ≤ 7512) :
    ∃ t, exec (.authChunk seq off ws) s = .next t ∧
      t.keeper.staging = Mem.writeN s.keeper.staging off ((ws.map (leBytes 4)).flatten.take (7515 - off)) ∧
      t.keeper.fifoOut = [0x86 * 2 ^ 24 + 2 ^ 16 + seq % 2 ^ 16, 0] ∧ t.regs = s.regs := by
  have hfits : ¬ (off % 4 ≠ 0 ∨ 7516 < off + 4 * ws.length ∨ 60 < ws.length ∨
      (off + 4 * ws.length = 7516 ∧ 2 ^ 24 ≤ ws.getD ((7512 - off) / 4) 0 % 2 ^ 32)) := by omega
  refine ⟨_, congrArg Host.Outcome.next ((if_neg (by simp [hkeeper])).trans (if_neg hfits)), ?_, rfl, rfl⟩
  show Mem.writeN (if off = 0 then [] else s.keeper.staging) off _ = _
  rw [if_neg (Nat.ne_of_gt hpos)]

/-! ### The wake request -/

/-- What a wake from OFF writes before it looks for a feed. -/
def State.woken (s : State) : State :=
  { (s.wr R.KEEPER_STATUS_SEQ_STATE 0).wr R.KEEPER_STATUS_RETRIES 0 with keeper.waitStart := true, keeper.retryAt := none }.driveFeeds

theorem State.rd_woken (s : State) {f : Fld} (h : Scope.driveFeeds.clear f = true) :
    s.woken.rd f = ((s.wr R.KEEPER_STATUS_SEQ_STATE 0).wr R.KEEPER_STATUS_RETRIES 0).rd f := Stays.rdN (.driveFeeds .refl .self) f 0 h

theorem State.anyFeedOk_woken (s : State) : s.woken.anyFeedOk = s.anyFeedOk := by
  have hfeed (f : Fld) (h : Scope.driveFeeds.clear f = true) (h₁ : Fld.clearOf R.KEEPER_STATUS_RETRIES f = true)
      (h₂ : Fld.clearOf R.KEEPER_STATUS_SEQ_STATE f = true) : s.woken.rd f = s.rd f :=
    (s.rd_woken h).trans ((State.rd_wr_clear _ _ h₁).trans (State.rd_wr_clear _ _ h₂))
  unfold State.anyFeedOk State.feedOk
  rw [hfeed _ rfl rfl rfl, hfeed _ rfl rfl rfl]

/-- Without a feed, a wake from OFF waits for one. -/
theorem State.wake_of_off {s : State} (hlife : s.rd R.LIFE_STATE_LIFECYCLE ≠ 4) (hseq : s.rd R.KEEPER_STATUS_SEQ_STATE = 6)
    (hfeed : s.anyFeedOk = false) : s.wake = s.woken := by
  have hwake : s.wake = s.woken.tryPowerUp false := (if_neg hlife).trans (if_pos (Or.inr hseq))
  rw [hwake]
  exact if_neg (by simp [State.anyFeedOk_woken, hfeed])

theorem exec_wake (s : State) (seq : Nat) (ok : Bool) (hkeeper : s.keeperRuns = true) (hlife : s.rd R.LIFE_STATE_LIFECYCLE ≠ 4)
    (hseq : s.rd R.KEEPER_STATUS_SEQ_STATE = 6) (hfeed : s.anyFeedOk = false) :
    ∃ t, exec (.wake seq ok) s = .next t ∧ t.rd R.KEEPER_STATUS_SEQ_STATE = 0 ∧ t.keeper.waitStart = true ∧ t.rd R.KEEPER_STATUS_RETRIES = 0 ∧
      t.keeper.fifoOut = [0x83 * 2 ^ 24 + 2 ^ 16 + seq % 2 ^ 16, 0] := by
  have hexec : exec (.wake seq ok) s = .next ((if s.keeper.flash.romRecovery && ok then { s with keeper.flash.romRecovery := false } else s).reply
      3 seq 0 []).wake := congrArg Host.Outcome.next ((if_neg (by simp [hkeeper])).trans ((if_neg hlife).trans (if_neg (by rw [hseq]; omega))))
  have hregs : ((if s.keeper.flash.romRecovery && ok then { s with keeper.flash.romRecovery := false } else s).reply 3 seq 0 []).regs = s.regs := by
    split <;> rfl
  generalize hu : (if s.keeper.flash.romRecovery && ok then { s with keeper.flash.romRecovery := false } else s).reply 3 seq 0 [] = u at *
  have hfifo : u.keeper.fifoOut = [0x83 * 2 ^ 24 + 2 ^ 16 + seq % 2 ^ 16, 0] := by
    rw [← hu]
    rfl
  have hrd (f : Fld) : u.rd f = s.rd f := State.rdN_congr hregs f 0
  have hfeed' : u.anyFeedOk = false := by
    unfold State.anyFeedOk State.feedOk at hfeed ⊢
    rwa [hrd, hrd]
  rw [State.wake_of_off (by rwa [hrd]) ((hrd _).trans hseq) hfeed'] at hexec
  have hdrive : Stays .driveFeeds _ u.woken := .driveFeeds .refl .self
  refine ⟨_, hexec, (u.rd_woken rfl).trans ?_, hdrive.part (·.keeper.waitStart), (u.rd_woken rfl).trans (State.rd_wr_fits _ _ (by decide)), ?_⟩
  · exact (State.rd_wr_clear _ _ rfl).trans (State.rd_wr_fits _ _ (by decide))
  · exact (hdrive.part (·.keeper.fifoOut)).trans (by simpa using hfifo)

/-! ### Life-cycle requests -/

/-- The return to no debug: a change that needs no authority. -/
def debugOff : Change := ⟨true, 0, 0, 0⟩

theorem State.coreOn_wr (s : State) {f : Fld} (v : Nat) (h : Fld.clearOf f R.KEEPER_STATUS_SEQ_STATE = true) : (s.wr f v).coreOn = s.coreOn := by
  unfold State.coreOn
  rw [State.rd_wr_clear _ _ h]

theorem State.requestChange_debugOff {s : State} (b : AuthBlob) (tag : Option Nat) (hcore : s.coreOn = true) (hsave : s.save.active = false)
    (htest : s.on R.FW_STATUS_TEST_IMAGE = false) :
    s.requestChange true 0 0 b tag = (0, (s.wr R.LIFE_AUTH_STATUS_REASON 0).startSave 5 .restart tag (some debugOff) none) := by
  have hexists : s.changeExists true 0 (b.ownerDigest != 0) = true := by simp [State.changeExists, htest]
  have hcore' : (s.wr R.LIFE_AUTH_STATUS_REASON 0).coreOn = true := (State.coreOn_wr s 0 rfl).trans hcore
  unfold State.requestChange
  refine (if_neg (by simp)).trans ((if_neg (by simp [hexists])).trans ((if_neg (by simp)).trans ?_))
  exact (if_neg (by simp [hsave])).trans (if_pos hcore')

theorem State.startSave_change {s : State} (tag : Option Nat) (hcore : s.coreOn = true) (hsave : s.save.active = false) :
    (s.startSave 5 .restart tag (some debugOff) none).save.active = true ∧ (s.startSave 5 .restart tag (some debugOff) none).save.trigger = 5 ∧
      (s.startSave 5 .restart tag (some debugOff) none).save.action = .restart ∧
      (s.startSave 5 .restart tag (some debugOff) none).save.change = some ⟨true, 0, 0, 0⟩ := by
  rw [State.startSave_new s 5 .restart tag (some debugOff) none hcore hsave]
  exact ⟨rfl, rfl, rfl, rfl⟩

theorem exec_lifecycleSubmit (s : State) (seq kind target len : Nat) (signed : Bool) (hkeeper : s.keeperRuns = true) (hcore : s.coreOn = true)
    (hsave : s.save.active = false) (hkind : kind = 1) (htarget : target = 0) (hlen : len = 0) (htest : s.on R.FW_STATUS_TEST_IMAGE = false) :
    ∃ t, exec (.lifecycleSubmit seq kind target len signed) s = .next t ∧ t.save.active = true ∧ t.save.trigger = 5 ∧
      t.save.action = .restart ∧ t.save.change = some ⟨true, 0, 0, 0⟩ ∧ t.keeper.staging = [] ∧
      t.keeper.fifoOut = [0x87 * 2 ^ 24 + 2 * 2 ^ 16 + seq % 2 ^ 16, 0, 0] := by
  subst hkind htarget hlen
  have hexec : exec (.lifecycleSubmit seq 1 0 0 signed) s =
      .next ({ (s.wr R.LIFE_AUTH_STATUS_REASON 0).startSave 5 .restart none (some debugOff) none with keeper.staging := [] }.reply 7 seq 0 [0]) := by
    refine congrArg Host.Outcome.next ((if_neg (by simp [hkeeper])).trans ?_)
    dsimp only
    rw [show ((1 : Nat) == 1) = true from rfl, State.requestChange_debugOff _ _ hcore hsave htest]
  obtain ⟨hactive, htrigger, haction, hchange⟩ :=
    State.startSave_change (s := s.wr R.LIFE_AUTH_STATUS_REASON 0) none ((State.coreOn_wr s 0 rfl).trans hcore) (by simpa using hsave)
  exact ⟨_, hexec, hactive, htrigger, haction, hchange, rfl, rfl⟩

theorem exec_lifecycleRequest (s : State) (r : CmdRef) (c : Cmd) (b : AuthBlob) (hacc : Accepts s r 0x0804 c)
    (htest : s.on R.FW_STATUS_TEST_IMAGE = false) :
    ∃ t, exec (.lifecycleRequest r 1 0 0 b) s = .next t ∧ t.save.active = true ∧ t.save.trigger = 5 ∧ t.save.action = .restart ∧
      t.save.change = some ⟨true, 0, 0, 0⟩ ∧ Ended t c St.DONE 0 s.nextSaveSeq := by
  obtain ⟨-, -, hcore, hsave, -⟩ := id hacc
  have hexec : exec (.lifecycleRequest r 1 0 0 b) s = .next ((((s.accepted c).wr R.LIFE_AUTH_STATUS_REASON 0).startSave 5 .restart
      (some c.tag) (some debugOff) none).endCmd c.id St.DONE 0 s.nextSaveSeq) := by
    refine congrArg Host.Outcome.next ((State.command_of_accepts hacc _).trans ?_)
    dsimp only
    rw [show ((1 : Nat) == 1) = true from rfl, State.requestChange_debugOff (s := s.accepted c) _ _ hcore hsave htest]
    rfl
  have hlive : (((s.accepted c).wr R.LIFE_AUTH_STATUS_REASON 0).startSave 5 .restart (some c.tag) (some debugOff) none).Live c.id :=
    Stays.live (.startSave .refl .self) rfl c.id ((State.live_accepted hacc).congr (by simp))
  obtain ⟨hactive, htrigger, haction, hchange⟩ := State.startSave_change (s := (s.accepted c).wr R.LIFE_AUTH_STATUS_REASON 0) (some c.tag)
    ((State.coreOn_wr (s.accepted c) 0 rfl).trans hcore) (by simpa using hsave)
  refine ⟨_, hexec, ?_⟩
  have hended := hlive.ended St.DONE 0 s.nextSaveSeq
  rw [hlive.endCmd_eq] at hended ⊢
  exact ⟨hactive, htrigger, haction, hchange, hended⟩

theorem exec_debugExpiry (s : State) (hkeeper : s.keeperRuns = true) (hdebug : s.rd R.LIFE_STATE_DEBUG = 1)
    (hdue : due s.now s.keeper.debugEnd = true) (hcore : s.coreOn = true) (hsave : s.save.active = false) :
    ∃ t, exec .debugExpiry s = .next t ∧ t.save.active = true ∧ t.save.trigger = 5 ∧ t.save.action = .restart ∧
      t.save.change = some ⟨true, 0, 0, 0⟩ :=
  ⟨_, congrArg Host.Outcome.next ((if_pos (by simp [hkeeper, hdebug, hdue])).trans (if_pos hcore)), State.startSave_change none hcore hsave⟩

/-- Settles O15: an answer is the last write of its row, and the accepted change starts its save on the state as it stands. -/
theorem mailboxAndLifeCycle : Obligations.MailboxAndLifeCycle := by
  unfold Obligations.MailboxAndLifeCycle
  exact ⟨exec_mboxRead, exec_mboxWrite, exec_wake, exec_mboxStatus, exec_eventRead, exec_authChunk, exec_lifecycleSubmit, exec_lifecycleRequest,
    exec_debugExpiry⟩

end

end Sys2Proof.Machine


/-! Frames of power-up and of the feeds -/

namespace Sys2Proof.Machine

open Sys2Proof

section

set_option Elab.async false

/-- The scope of a reset of the register file that keeps the keys that `p` holds of. -/
def Scope.keepRegs (p : Nat → Bool) : Scope where
  rest z s := { s with regs := z.regs }
  clear f := decide (0 < f.count) && (List.range f.count).all (fun n => p (f.key n))
  live := true

/-- The register file of a reset that keeps the bits that `p` holds of. -/
theorem State.rdN_keepRegs (s : State) (p : Nat → Bool) {f : Fld} {n : Nat} (h : p (f.key n) = true) :
    ({ s with regs := s.regs.filter (fun e => p e.1) } : State).rdN f n = s.rdN f n := by
  unfold State.rdN
  rw [AMap.get?_filter_key s.regs p (f.key n) h]

theorem Scope.key_of_keepRegs {p : Nat → Bool} {f : Fld} (h : (Scope.keepRegs p).clear f = true) (n : Nat) : p (f.key n) = true := by
  obtain ⟨hcount, hall⟩ := Bool.and_eq_true_iff.mp h
  have hn : n % f.count < f.count := Nat.mod_lt _ (of_decide_eq_true hcount)
  have hkey : f.key (n % f.count) = f.key n := by simp only [Fld.key, Nat.mod_mod]
  exact hkey ▸ List.all_eq_true.mp hall _ (List.mem_range.mpr hn)

theorem Stays.keepRegs {V : Scope} {s₀ s : State} {p : Nat → Bool} (h : Stays V s₀ s) (hv : (Scope.keepRegs p).Within V) :
    Stays V s₀ { s with regs := s.regs.filter (fun e => p e.1) } :=
  h.trans ⟨fun z => by rw [← hv.rest z { s with regs := s.regs.filter (fun e => p e.1) }]; exact hv.rest z s,
    fun _ n hf => State.rdN_keepRegs s p (Scope.key_of_keepRegs (hv.clear _ hf) n), fun _ _ l => l.congr rfl, List.prefix_rfl⟩

def Scope.setRail : Scope := .of (fun z s => { s with keeper.rails := z.keeper.rails }) []

theorem Stays.setRail {V : Scope} {s₀ s : State} {n : Nat} {r : Rail} (h : Stays V s₀ s) (hv : Scope.setRail.Within V) : Stays V s₀
    (s.setRail n r) :=
  .upd h hv

def Scope.commandRail : Scope := .of (fun z s => { s with regs := z.regs, keeper.rails := z.keeper.rails, out := z.out }) [.setRail,
  .send, .reg R.KEEPER_RAIL_STATUS_STATE]

theorem Stays.commandRail {V : Scope} {s₀ s : State} {on : Bool} {n : Nat} (h : Stays V s₀ s) (hv : Scope.commandRail.Within V) :
    Stays V s₀ (s.commandRail on n) :=
  .ite (.wrN (.send (.setRail h (hv.sub 0)) (hv.sub 1)) (hv.sub 2)) (.unless (.send (.setRail h (hv.sub 0)) (hv.sub 1)) (fun h => .wrN
    h (hv.sub 2)))

def Scope.startPowerUp : Scope := .of (fun z s => { s with
    regs := z.regs, keeper.rails := z.keeper.rails, out := z.out, hub := z.hub, rings := z.rings, msix := z.msix,
    keeper.flash.ram := z.keeper.flash.ram, keeper.flash.flood := z.keeper.flash.flood,
    keeper.flash.counters := z.keeper.flash.counters, keeper.railCfg := z.keeper.railCfg, keeper.waitStart := z.keeper.waitStart,
    keeper.startVEnd := z.keeper.startVEnd, keeper.holdEnd := z.keeper.holdEnd, keeper.retryAt := z.keeper.retryAt,
    keeper.keepAfter := z.keeper.keepAfter, keeper.abortShutdown := z.keeper.abortShutdown }) [.reg R.KEEPER_STATUS_SEQ_STATE,
    .reg R.KEEPER_STATUS_SEQ_STEP, .reg R.KEEPER_RAIL_FAILED_MASK, .reg R.KEEPER_RAIL_STATUS_SENSE_FAULT,
    .reg R.KEEPER_RAIL_STATUS_STATE, .commandRail, .setPower]

theorem Stays.startPowerUp {V : Scope} {s₀ s : State} (h : Stays V s₀ s) (hv : Scope.startPowerUp.Within V) : Stays V s₀ s.startPowerUp := by
  unfold State.startPowerUp
  extract_lets keeper s₁ s₂ s₃ keeper' s₄
  have h₁ : Stays V s₀ s₁ := .upd h hv
  clear_value s₁
  have h₂ : Stays V s₀ s₂ := .wr (.wr (.wr h₁ (hv.sub 0)) (hv.sub 1)) (hv.sub 2)
  clear_value s₂
  have h₃ : Stays V s₀ s₃ :=
    .foldl (fun _ _ h => .wrN (.wrN h (hv.sub 3)) (hv.sub 4)) h₂
  clear_value s₃
  have h₄ : Stays V s₀ s₄ := .upd h₃ hv
  clear_value s₄
  exact .setPower (.foldl (fun _ _ h => .commandRail h (hv.sub 5)) h₄) (hv.sub 6)

def Scope.tryPowerUp : Scope := .of (fun z s => { s with
    keeper.startVEnd := z.keeper.startVEnd, regs := z.regs, keeper.rails := z.keeper.rails, out := z.out, hub := z.hub,
    rings := z.rings, msix := z.msix, keeper.flash.ram := z.keeper.flash.ram, keeper.flash.flood := z.keeper.flash.flood,
    keeper.flash.counters := z.keeper.flash.counters, keeper.railCfg := z.keeper.railCfg, keeper.waitStart := z.keeper.waitStart,
    keeper.holdEnd := z.keeper.holdEnd, keeper.retryAt := z.keeper.retryAt, keeper.keepAfter := z.keeper.keepAfter,
    keeper.abortShutdown := z.keeper.abortShutdown }) [.startPowerUp]

theorem Stays.tryPowerUp {V : Scope} {s₀ s : State} {anyway : Bool} (h : Stays V s₀ s) (hv : Scope.tryPowerUp.Within V) : Stays V s₀
    (s.tryPowerUp anyway) :=
  .ite (.ite (.startPowerUp h (hv.sub 0)) (.upd h hv)) h

def Scope.coreDown : Scope := .of (fun z s => { s with
    regs := z.regs, armedEnd := z.armedEnd, start.step := z.start.step, start.dramDone := z.start.dramDone,
    start.fwDone := z.start.fwDone, start.tablesDone := z.start.tablesDone, start.keysDone := z.start.keysDone,
    start.admitted := z.start.admitted, start.presented := z.start.presented, crypt.dramKey := z.crypt.dramKey })
    [.keepRegs (fun k => !lostWithCore k)]

theorem Stays.coreDown {V : Scope} {s₀ s : State} (h : Stays V s₀ s) (hv : Scope.coreDown.Within V) : Stays V s₀ s.coreDown := by
  have hregs : Stays V s₀ { s with regs := s.regs.filter (fun e => !lostWithCore e.1) } :=
    .keepRegs (p := fun k => !lostWithCore k) h (hv.sub 0)
  exact .upd (s := { s with regs := s.regs.filter (fun e => !lostWithCore e.1) }) hregs hv

def Scope.setInput : Scope := .of (fun z s => { s with keeper.inputs := z.keeper.inputs }) []

theorem Stays.setInput {V : Scope} {s₀ s : State} {code : Nat} {i : SideInput} (h : Stays V s₀ s) (hv : Scope.setInput.Within V) :
    Stays V s₀ (s.setInput code i) :=
  .upd h hv

def Scope.acceptInput : Scope := .of (fun z s => { s with
    regs := z.regs, hub := z.hub, rings := z.rings, msix := z.msix, keeper.inputs := z.keeper.inputs,
    keeper.flash.ram := z.keeper.flash.ram, keeper.flash.flood := z.keeper.flash.flood,
    keeper.flash.counters := z.keeper.flash.counters, out := z.out }) [.setInput, .raiseKeeper]

theorem Stays.acceptInput {V : Scope} {s₀ s : State} {code : Nat} {limit : Nat} {window : Nat} (h : Stays V s₀ s) (hv :
    Scope.acceptInput.Within V) : Stays V s₀ (s.acceptInput code limit window).2 :=
  .iteSnd h (.iteSnd (.raiseKeeper (.setInput h (hv.sub 0)) (hv.sub 1)) (.setInput h (hv.sub 0)))

def Scope.acceptAlert : Scope := .of (fun z s => { s with
    regs := z.regs, hub := z.hub, rings := z.rings, msix := z.msix, keeper.inputs := z.keeper.inputs,
    keeper.flash.ram := z.keeper.flash.ram, keeper.flash.flood := z.keeper.flash.flood,
    keeper.flash.counters := z.keeper.flash.counters, out := z.out }) [.acceptInput, .setInput]

theorem Stays.acceptAlert {V : Scope} {s₀ s : State} {answered : Bool} (h : Stays V s₀ s) (hv : Scope.acceptAlert.Within V) : Stays
    V s₀ (s.acceptAlert answered).2 :=
  .iteSnd h (.when (.acceptInput h (hv.sub 0)) (fun h => .setInput h (hv.sub 1)))

end

end Sys2Proof.Machine


/-! Feeds, the restart hold, START_V, reversed sense inputs and the keeper's supply (R398, R406 to R409, R412, R413). -/

namespace Sys2Proof.Machine

open Sys2Proof

section

set_option Elab.async false

/-! ### Power-up starts -/

/-- Power-up as R399 starts it: SEQ_STATE 1, and nothing waits any more. -/
def State.PoweringUp (s : State) : Prop :=
  s.rd R.KEEPER_STATUS_SEQ_STATE = 1 ∧ s.keeper.waitStart = false ∧ s.keeper.startVEnd = none ∧ s.keeper.holdEnd = none

/-- The part of the start that gives every rail its first state. -/
def Scope.railStates : Scope := .of (fun z s => { s with regs := z.regs }) [.reg R.KEEPER_RAIL_STATUS_SENSE_FAULT, .reg
  R.KEEPER_RAIL_STATUS_STATE]

theorem State.poweringUp_startPowerUp (s : State) : s.startPowerUp.PoweringUp := by
  unfold State.startPowerUp
  extract_lets keeper s₁ s₂ s₃ keeper' s₄
  have h₂ : s₂.rd R.KEEPER_STATUS_SEQ_STATE = 1 :=
    (State.rd_wr_clear _ _ rfl).trans ((State.rd_wr_clear _ _ rfl).trans (State.rd_wr_fits _ _ (by decide)))
  clear_value s₂
  have hv : Scope.railStates.Within .railStates := .self
  have hstates : Stays .railStates s₂ s₃ := .foldl (fun _ _ h => .wrN (.wrN h (hv.sub 0)) (hv.sub 1)) .refl
  have h₃ : s₃.rd R.KEEPER_STATUS_SEQ_STATE = 1 := (hstates.rdN R.KEEPER_STATUS_SEQ_STATE 0 rfl).trans h₂
  clear_value s₃
  have h₄ : s₄.PoweringUp := ⟨h₃, rfl, rfl, rfl⟩
  clear_value s₄
  obtain ⟨hseq, hwait, hstart, hhold⟩ := h₄
  have hrails : Stays .commandRail s₄ ((s₄.railsOf 1).foldl (State.commandRail · true) s₄) :=
    .foldl (fun _ _ h => .commandRail h .self) .refl
  have hpower : Stays .setPower ((s₄.railsOf 1).foldl (State.commandRail · true) s₄) _ := .setPower (p := 0) .refl .self
  exact ⟨(hpower.rdN R.KEEPER_STATUS_SEQ_STATE 0 rfl).trans ((hrails.rdN R.KEEPER_STATUS_SEQ_STATE 0 rfl).trans hseq),
    (hpower.part (·.keeper.waitStart)).trans ((hrails.part (·.keeper.waitStart)).trans hwait),
    (hpower.part (·.keeper.startVEnd)).trans ((hrails.part (·.keeper.startVEnd)).trans hstart),
    (hpower.part (·.keeper.holdEnd)).trans ((hrails.part (·.keeper.holdEnd)).trans hhold)⟩

/-- What power-up asks for but the bank's voltage. -/
def State.MayPowerUp (s : State) : Prop :=
  s.anyFeedOk = true ∧ s.thermReleased = true ∧ s.rd R.LIFE_STATE_LIFECYCLE ≠ 4 ∧ s.keeper.flash.romRecovery = false

theorem State.anyFeedOk_congr {s t : State} (hA : t.rd R.KEEPER_FEED_STATUS_A_STATE = s.rd R.KEEPER_FEED_STATUS_A_STATE)
    (hB : t.rd R.KEEPER_FEED_STATUS_B_STATE = s.rd R.KEEPER_FEED_STATUS_B_STATE) : t.anyFeedOk = s.anyFeedOk := by
  unfold State.anyFeedOk State.feedOk fFeedState
  simp only [if_true, Bool.false_eq_true, if_false, hA, hB]

/-- With a usable feed and START_V met or waited for, power-up starts. -/
theorem State.poweringUp_tryPowerUp {s : State} (anyway : Bool) (hmay : s.MayPowerUp) (hwait : s.keeper.waitStart = true)
    (hseq : s.rd R.KEEPER_STATUS_SEQ_STATE = 0) (hv : (s.startVMet || anyway) = true) : (s.tryPowerUp anyway).PoweringUp := by
  obtain ⟨hfeed, htherm, hlife, hrom⟩ := hmay
  have htry : s.tryPowerUp anyway = s.startPowerUp := (if_pos (by simp [hwait, hseq, hfeed, htherm, hlife, hrom])).trans (if_pos hv)
  exact htry ▸ s.poweringUp_startPowerUp

/-- The end of the restart hold before it looks for a feed. -/
def State.holdEnded (s : State) : State := { s.wr R.KEEPER_STATUS_SEQ_STATE 0 with keeper.holdEnd := none, keeper.waitStart := true }

theorem State.rd_holdEnded (s : State) {f : Fld} (h : Fld.clearOf R.KEEPER_STATUS_SEQ_STATE f = true) : s.holdEnded.rd f = s.rd f :=
  State.rd_wr_clear s 0 h

theorem State.anyFeedOk_holdEnded (s : State) : s.holdEnded.anyFeedOk = s.anyFeedOk :=
  State.anyFeedOk_congr (s.rd_holdEnded rfl) (s.rd_holdEnded rfl)

theorem State.startVMet_holdEnded (s : State) : s.holdEnded.startVMet = s.startVMet := by
  unfold State.startVMet
  rw [s.rd_holdEnded rfl, s.rd_holdEnded rfl]

theorem exec_restartHoldEnd (s : State) (hkeeper : s.keeperRuns = true) (hseq : s.rd R.KEEPER_STATUS_SEQ_STATE = 5)
    (hdue : due s.now s.keeper.holdEnd = true) : exec .restartHoldEnd s = .next (s.holdEnded.tryPowerUp false) :=
  congrArg Host.Outcome.next (if_pos (by simp [hkeeper, hseq, hdue]))

theorem exec_restartHoldEnd_fed (s : State) (hkeeper : s.keeperRuns = true) (hseq : s.rd R.KEEPER_STATUS_SEQ_STATE = 5)
    (hdue : due s.now s.keeper.holdEnd = true) (hfeed : s.anyFeedOk = true) (htherm : s.thermReleased = true)
    (hlife : s.rd R.LIFE_STATE_LIFECYCLE ≠ 4) (hrom : s.keeper.flash.romRecovery = false) (hv : s.startVMet = true) :
    ∃ t, exec .restartHoldEnd s = .next t ∧ t.rd R.KEEPER_STATUS_SEQ_STATE = 1 ∧ t.keeper.holdEnd = none ∧ t.keeper.waitStart = false := by
  have hmay : s.holdEnded.MayPowerUp :=
    ⟨s.anyFeedOk_holdEnded.trans hfeed, htherm, fun h => hlife ((s.rd_holdEnded rfl).symm.trans h), hrom⟩
  obtain ⟨hseq', hwait', -, hhold'⟩ := State.poweringUp_tryPowerUp false hmay rfl (State.rd_wr_fits s _ (by decide))
    (by rw [s.startVMet_holdEnded, hv]; rfl)
  exact ⟨_, exec_restartHoldEnd s hkeeper hseq hdue, hseq', hhold', hwait'⟩

theorem exec_restartHoldEnd_unfed (s : State) (hkeeper : s.keeperRuns = true) (hseq : s.rd R.KEEPER_STATUS_SEQ_STATE = 5)
    (hdue : due s.now s.keeper.holdEnd = true) (hfeed : s.anyFeedOk = false) :
    ∃ t, exec .restartHoldEnd s = .next t ∧ t.rd R.KEEPER_STATUS_SEQ_STATE = 0 ∧ t.keeper.holdEnd = none ∧ t.keeper.waitStart = true := by
  have htry : s.holdEnded.tryPowerUp false = s.holdEnded := if_neg (by simp [s.anyFeedOk_holdEnded, hfeed])
  refine ⟨s.holdEnded, ?_, State.rd_wr_fits s _ (by decide), rfl, rfl⟩
  rw [exec_restartHoldEnd s hkeeper hseq hdue, htry]

theorem exec_startVTimeout (s : State) (hkeeper : s.keeperRuns = true) (hdue : due s.now s.keeper.startVEnd = true)
    (hwait : s.keeper.waitStart = true) (hseq : s.rd R.KEEPER_STATUS_SEQ_STATE = 0) (hfeed : s.anyFeedOk = true)
    (htherm : s.thermReleased = true) (hlife : s.rd R.LIFE_STATE_LIFECYCLE ≠ 4) (hrom : s.keeper.flash.romRecovery = false) :
    ∃ t, exec .startVTimeout s = .next t ∧ t.rd R.KEEPER_STATUS_SEQ_STATE = 1 ∧ t.keeper.startVEnd = none ∧ t.keeper.waitStart = false := by
  obtain ⟨hseq', hwait', hstart', -⟩ :=
    State.poweringUp_tryPowerUp true ⟨hfeed, htherm, hlife, hrom⟩ hwait hseq (Bool.or_true _)
  exact ⟨_, congrArg Host.Outcome.next (if_pos (by simp [hkeeper, hdue])), hseq', hstart', hwait'⟩

theorem exec_holdupBankAtStartV (s : State) (mv : Nat) (hkeeper : s.keeperRuns = true) (hdiv : s.rd R.KEEPER_SENSE_DIV_HOLDUP_DIV16 ≠ 0) :
    ∃ t, exec (.holdupBankAtStartV mv) s = .next t ∧ t.rd R.DUR_BANK_V_VBANK_MV = mv % 2 ^ R.DUR_BANK_V_VBANK_MV.width := by
  have hexec : exec (.holdupBankAtStartV mv) s = .next ((s.wr R.DUR_BANK_V_VBANK_MV mv).tryPowerUp false) := by
    refine congrArg Host.Outcome.next ((if_pos hkeeper).trans ?_)
    rw [if_neg hdiv]
  exact ⟨_, hexec, (Stays.rdN (.tryPowerUp .refl .self) R.DUR_BANK_V_VBANK_MV 0 rfl).trans (State.rd_wr_self s _ mv)⟩

/-! ### A feed is lost -/

/-- The feed's own registers when it is lost. -/
def State.feedDropped (s : State) (a : Bool) : State := (s.wr (fFeedState a) 2).setFeed a { s.feed a with returnEnd := none }

/-- The feed's input records the loss, and masks itself when it chatters. -/
def State.inputLost (s : State) (code : Nat) : State :=
  let i := (AMap.get? s.keeper.inputs code).getD ⟨false, 0, false, false, []⟩
  let recent := (i.recent ++ [s.now]).filter (fun t => decide (s.now ≤ t + sec 60))
  let chat := decide (8 < recent.length)
  let s := { s with keeper.inputs := AMap.set s.keeper.inputs code
                      { i with active := false, since := s.now, recent, chattering := i.chattering || chat } }
  if chat && !i.chattering then s.raiseKeeper Ev.POWER_INPUT_CHATTERING [(1, code)] else s

/-- A lost feed as the counters, the ideal diodes, the input and a running hold-up test show it. -/
def State.feedLossNoted (s : State) (a : Bool) : State :=
  (((((s.feedDropped a).bumpSat R.KEEPER_FEED_STATUS_LOSSES 0 1).driveFeeds).raiseKeeper Ev.POWER_FEED_LOST
    [(1, feedNumber a)]).inputLost (if a then 3 else 4)).abortHoldupTest 2

/-- What follows the count of a loss. -/
def Scope.feedLossNoted : Scope := .of (fun z s => { s with
    regs := z.regs, keeper.onSecondary := z.keeper.onSecondary, keeper.outputs := z.keeper.outputs, keeper.inputs := z.keeper.inputs,
    keeper.flash.ram := z.keeper.flash.ram, keeper.flash.flood := z.keeper.flash.flood,
    keeper.flash.counters := z.keeper.flash.counters, hub := z.hub, rings := z.rings, msix := z.msix, out := z.out,
    keeper.holdup := z.keeper.holdup, keeper.testEnd := z.keeper.testEnd }) [.driveFeeds, .raiseKeeper, .abortHoldupTest]

theorem Stays.feedLossNoted {s : State} {a : Bool} :
    Stays .feedLossNoted ((s.feedDropped a).bumpSat R.KEEPER_FEED_STATUS_LOSSES 0 1) (s.feedLossNoted a) := by
  have hv : Scope.feedLossNoted.Within .feedLossNoted := .self
  have hinput {t u : State} {code : Nat} (h : Stays .feedLossNoted t u) : Stays .feedLossNoted t (u.inputLost code) := by
    unfold State.inputLost
    extract_lets i recent chat keeper s₁
    have h₁ : Stays .feedLossNoted t s₁ := .upd h hv
    clear_value s₁
    exact .when h₁ (fun h => .raiseKeeper h (hv.sub 1))
  exact .abortHoldupTest (hinput (.raiseKeeper (.driveFeeds .refl (hv.sub 0)) (hv.sub 1))) (hv.sub 2)

theorem State.rd_feedDropped_clear (s : State) (a : Bool) {f : Fld} (h : Fld.clearOf (fFeedState a) f = true) :
    (s.feedDropped a).rd f = s.rd f := by
  cases a <;> exact State.rd_wr_clear s 2 h

theorem State.rd_feedDropped (s : State) (a : Bool) : (s.feedDropped a).rd (fFeedState a) = 2 := by
  cases a <;> exact State.rd_wr_fits s _ (by decide)

theorem State.feedDropped_keeps (s : State) (a : Bool) : (s.feedDropped a).start = s.start ∧ (s.feedDropped a).save = s.save := by
  cases a <;> exact ⟨rfl, rfl⟩

theorem State.returnEnd_feedDropped (s : State) (a : Bool) : ((s.feedDropped a).feed a).returnEnd = none := by cases a <;> rfl

/-- The registers of the feeds stand apart from what follows the count of a loss. -/
theorem Scope.clear_feedState (a : Bool) : Scope.feedLossNoted.clear (fFeedState a) = true := by cases a <;> rfl

theorem Fld.clearOf_losses (a : Bool) : Fld.clearOf R.KEEPER_FEED_STATUS_LOSSES (fFeedState a) = true := by cases a <;> rfl

theorem Stays.feed {W : Scope} {s t : State} (h : Stays W s t) (a : Bool)
    (hA : ∀ z s, (W.rest z s).keeper.feedA = s.keeper.feedA := by exact fun _ _ => rfl)
    (hB : ∀ z s, (W.rest z s).keeper.feedB = s.keeper.feedB := by exact fun _ _ => rfl) : t.feed a = s.feed a := by
  cases a
  · exact h.part (·.keeper.feedB) hB
  · exact h.part (·.keeper.feedA) hA

/-- The count of a loss. -/
theorem Stays.lossCounted (s : State) : Stays (.reg R.KEEPER_FEED_STATUS_LOSSES) s (s.bumpSat R.KEEPER_FEED_STATUS_LOSSES 0 1) :=
  .bumpSat .refl .self

/-- What a lost feed leaves in the registers of the feeds. -/
theorem State.feedLossNoted_leaves (s : State) (a : Bool) :
    (s.feedLossNoted a).rd (fFeedState a) = 2 ∧ (s.feedLossNoted a).rd (fFeedState !a) = s.rd (fFeedState !a) ∧
      ((s.feedLossNoted a).feed a).returnEnd = none ∧
      (s.feedLossNoted a).rd R.KEEPER_FEED_STATUS_LOSSES =
        min (2 ^ R.KEEPER_FEED_STATUS_LOSSES.width - 1) (s.rd R.KEEPER_FEED_STATUS_LOSSES + 1) := by
  have hnoted := Stays.feedLossNoted (s := s) (a := a)
  have hcounts : (s.feedDropped a).rd R.KEEPER_FEED_STATUS_LOSSES = s.rd R.KEEPER_FEED_STATUS_LOSSES :=
    s.rd_feedDropped_clear a (by cases a <;> rfl)
  have hkeeps (b : Bool) : (s.feedLossNoted a).rd (fFeedState b) = (s.feedDropped a).rd (fFeedState b) :=
    (hnoted.rdN (fFeedState b) 0 (Scope.clear_feedState b)).trans (State.rd_wr_clear _ _ (Fld.clearOf_losses b))
  have hfeed : (s.feedLossNoted a).feed a = (s.feedDropped a).feed a := (hnoted.feed a).trans ((Stays.lossCounted _).feed a)
  refine ⟨(hkeeps a).trans (s.rd_feedDropped a), ?_, ?_, ?_⟩
  · exact (hkeeps !a).trans (s.rd_feedDropped_clear a (by cases a <;> rfl))
  · rw [hfeed, s.returnEnd_feedDropped a]
  · refine (hnoted.rdN R.KEEPER_FEED_STATUS_LOSSES 0 rfl).trans ((State.rd_wr_fits _ _ ?_).trans ?_)
    · exact Nat.lt_of_le_of_lt (Nat.min_le_left _ _) (by decide)
    · exact congrArg (fun n => min (2 ^ R.KEEPER_FEED_STATUS_LOSSES.width - 1) (n + 1)) hcounts

theorem exec_feedLoss (s : State) (a : Bool) (hkeeper : s.keeperRuns = true) (hok : s.feedOk a = true) :
    exec (.feedLoss a) s = .next (if (s.feedLossNoted a).anyFeedOk then s.feedLossNoted a else (s.feedLossNoted a).bothFeedsLost) := by
  have hstate : (s.rd (fFeedState a) == 1) = true := hok
  refine congrArg Host.Outcome.next ((if_pos (by simp [hkeeper, hstate])).trans ?_)
  extract_lets was code src s₁ s₂ s₃ i recent chat keeper s₄ s₅ s₆
  have hdropped : s₁ = s.feedDropped a := by
    show (s.wr (fFeedState a) (if s.feedOk a || (s.feed a).wasOk then 2 else 0)).setFeed a { s.feed a with returnEnd := none } = _
    rw [hok]
    rfl
  have hlost : s₆ = (s₃.inputLost code).abortHoldupTest 2 := rfl
  have hnoted : s₆ = s.feedLossNoted a := by
    rw [hlost]
    show (((s₁.bumpSat R.KEEPER_FEED_STATUS_LOSSES 0 1).driveFeeds.raiseKeeper Ev.POWER_FEED_LOST [(1, feedNumber a)]).inputLost
      (if a then 3 else 4)).abortHoldupTest 2 = _
    rw [hdropped]
    rfl
  clear_value s₆
  rw [← hnoted]
  exact if_pos hok

theorem State.anyFeedOk_of (s : State) (a : Bool) : s.anyFeedOk = (s.feedOk a || s.feedOk !a) := by
  cases a
  · exact Bool.or_comm _ _
  · rfl

theorem State.anyFeedOk_feedLossNoted (s : State) (a : Bool) : (s.feedLossNoted a).anyFeedOk = s.feedOk !a := by
  obtain ⟨hlost, hother, -, -⟩ := s.feedLossNoted_leaves a
  rw [State.anyFeedOk_of _ a]
  unfold State.feedOk
  rw [hlost, hother]
  rfl

theorem exec_feedLoss_other (s : State) (a : Bool) (hkeeper : s.keeperRuns = true) (hok : s.feedOk a = true) (hother : s.feedOk (!a) = true) :
    ∃ t, exec (.feedLoss a) s = .next t ∧ t.rd (fFeedState a) = 2 ∧ (t.feed a).returnEnd = none ∧
      t.rd R.KEEPER_FEED_STATUS_LOSSES = min (2 ^ R.KEEPER_FEED_STATUS_LOSSES.width - 1) (s.rd R.KEEPER_FEED_STATUS_LOSSES + 1) := by
  obtain ⟨hlost, -, hreturn, hlosses⟩ := s.feedLossNoted_leaves a
  have hfed : (s.feedLossNoted a).anyFeedOk = true := (s.anyFeedOk_feedLossNoted a).trans hother
  exact ⟨_, (exec_feedLoss s a hkeeper hok).trans (congrArg Host.Outcome.next (if_pos hfed)), hlost, hreturn, hlosses⟩

/-- With the core in service and no save running, the loss of both feeds starts the save that ends in OFF (R408). -/
theorem State.save_bothFeedsLost {s : State} (hseq : s.rd R.KEEPER_STATUS_SEQ_STATE = 2) (hfw : s.start.fwDone = true)
    (hsave : s.save.active = false) : s.bothFeedsLost.save.active = true ∧ s.bothFeedsLost.save.step = 1 ∧
      s.bothFeedsLost.save.trigger = 1 ∧ s.bothFeedsLost.save.action = .shutdown ∧ s.bothFeedsLost.save.onBank = true := by
  have hdriven : Stays .driveFeeds { s with keeper.feedHold := true } ({ s with keeper.feedHold := true } : State).driveFeeds :=
    .driveFeeds .refl .self
  have hseq' : ({ s with keeper.feedHold := true } : State).driveFeeds.rd R.KEEPER_STATUS_SEQ_STATE = 2 :=
    (hdriven.rdN _ 0 rfl).trans hseq
  have hfw' : ({ s with keeper.feedHold := true } : State).driveFeeds.start.fwDone = true := (hdriven.part (·.start.fwDone)).trans hfw
  have hsave' : ({ s with keeper.feedHold := true } : State).driveFeeds.save.active = false :=
    (hdriven.part (·.save.active)).trans hsave
  have hcore : ({ s with keeper.feedHold := true } : State).driveFeeds.coreOn = true := by simp [State.coreOn, hseq']
  have hboth : s.bothFeedsLost = ({ s with keeper.feedHold := true } : State).driveFeeds.startSave 1 .shutdown none none none := by
    refine (if_neg (by simp [hseq', hfw'])).trans ?_
    rw [hsave', hcore]
    rfl
  rw [hboth, State.startSave_new _ 1 .shutdown none none none hcore hsave']
  exact ⟨rfl, rfl, rfl, rfl, rfl⟩

theorem exec_feedLoss_both (s : State) (a : Bool) (hkeeper : s.keeperRuns = true) (hok : s.feedOk a = true) (hother : s.feedOk (!a) = false)
    (hseq : s.rd R.KEEPER_STATUS_SEQ_STATE = 2) (hfw : s.start.fwDone = true) (hsave : s.save.active = false) :
    ∃ t, exec (.feedLoss a) s = .next t ∧ t.save.active = true ∧ t.save.step = 1 ∧ t.save.trigger = 1 ∧ t.save.action = .shutdown ∧
      t.save.onBank = true := by
  have hnoted := Stays.feedLossNoted (s := s) (a := a)
  have hunfed : ¬ (s.feedLossNoted a).anyFeedOk = true := by simp [s.anyFeedOk_feedLossNoted a, hother]
  have hseq' : (s.feedLossNoted a).rd R.KEEPER_STATUS_SEQ_STATE = 2 := (hnoted.rdN _ 0 rfl).trans
    ((State.rd_wr_clear _ _ rfl).trans ((s.rd_feedDropped_clear a (by cases a <;> rfl)).trans hseq))
  obtain ⟨hstart, hsaves⟩ := s.feedDropped_keeps a
  have hfw' : (s.feedLossNoted a).start.fwDone = true := (hnoted.part (·.start.fwDone)).trans (((Stays.lossCounted _).part (·.start.fwDone)).trans ((congrArg (·.fwDone) hstart).trans hfw))
  have hsave' : (s.feedLossNoted a).save.active = false := (hnoted.part (·.save.active)).trans (((Stays.lossCounted _).part (·.save.active)).trans ((congrArg (·.active) hsaves).trans hsave))
  exact ⟨_, (exec_feedLoss s a hkeeper hok).trans (congrArg Host.Outcome.next (if_neg hunfed)),
    State.save_bothFeedsLost hseq' hfw' hsave'⟩

/-! ### A feed returns -/

theorem exec_feedReturning (s : State) (a : Bool) (hkeeper : s.keeperRuns = true)
    (hchatter : ((AMap.get? s.keeper.inputs (if a then 3 else 4)).map (·.chattering)).getD false = false) (hlost : s.rd (fFeedState a) = 2) :
    ∃ t, exec (.feedReturning a) s = .next t ∧ t.rd (fFeedState a) = 3 ∧
      (t.feed a).returnEnd = some (s.now + ms (10 * s.rd R.KEEPER_CTRL_RETURN_10MS)) := by
  have hexec : exec (.feedReturning a) s = .next ((s.wr (fFeedState a) 3).setFeed a
      { s.feed a with returnEnd := some (s.now + ms (10 * s.rd R.KEEPER_CTRL_RETURN_10MS)) }) := by
    refine congrArg Host.Outcome.next ?_
    dsimp only
    exact if_pos (by rw [hchatter]; simp [hkeeper, hlost])
  refine ⟨_, hexec, ?_⟩
  cases a <;> exact ⟨State.rd_wr_fits s _ (by decide), rfl⟩

/-- The feed's own registers when it is OK again. -/
def State.feedRestored (s : State) (a : Bool) : State :=
  (((s.wr (fFeedState a) 1).setFeed a { s.feed a with returnEnd := none, wasOk := true }).driveFeeds).raiseKeeper Ev.POWER_FEED_RESTORED
    [(1, feedNumber a)]

theorem State.feedRestored_leaves (s : State) (a : Bool) : (s.feedRestored a).rd (fFeedState a) = 1 ∧
    (s.feedRestored a).feed a = { s.feed a with returnEnd := none, wasOk := true } := by
  have hdriven (t : State) : Stays .driveFeeds t t.driveFeeds := .driveFeeds .refl .self
  have hraised (t : State) : Stays .raiseKeeper t (t.raiseKeeper Ev.POWER_FEED_RESTORED [(1, feedNumber a)]) := .raiseKeeper .refl .self
  cases a
  · exact ⟨((hraised _).rdN R.KEEPER_FEED_STATUS_B_STATE 0 rfl).trans (((hdriven _).rdN _ 0 rfl).trans (State.rd_wr_fits s _ (by decide))),
      ((hraised _).part (·.keeper.feedB)).trans ((hdriven _).part (·.keeper.feedB))⟩
  · exact ⟨((hraised _).rdN R.KEEPER_FEED_STATUS_A_STATE 0 rfl).trans (((hdriven _).rdN _ 0 rfl).trans (State.rd_wr_fits s _ (by decide))),
      ((hraised _).part (·.keeper.feedA)).trans ((hdriven _).part (·.keeper.feedA))⟩

/-- A try at power-up leaves the feeds alone. -/
theorem State.feeds_tryPowerUp (s : State) (anyway a : Bool) :
    (s.tryPowerUp anyway).rd (fFeedState a) = s.rd (fFeedState a) ∧ (s.tryPowerUp anyway).feed a = s.feed a := by
  have htry : Stays .tryPowerUp s (s.tryPowerUp anyway) := .tryPowerUp .refl .self
  cases a
  · exact ⟨htry.rdN _ 0 rfl, htry.part (·.keeper.feedB)⟩
  · exact ⟨htry.rdN _ 0 rfl, htry.part (·.keeper.feedA)⟩

theorem exec_feedOk (s : State) (a : Bool) (hkeeper : s.keeperRuns = true) (hreturns : s.rd (fFeedState a) = 3)
    (hdue : due s.now (s.feed a).returnEnd = true) :
    ∃ t, exec (.feedOk a) s = .next t ∧ t.rd (fFeedState a) = 1 ∧ (t.feed a).returnEnd = none ∧ (t.feed a).wasOk = true := by
  have hexec : exec (.feedOk a) s = .next (if (s.feedRestored a).rd R.KEEPER_STATUS_SEQ_STATE = 0 && (s.feedRestored a).keeper.retryAt.isNone
      then ({ s.feedRestored a with keeper.waitStart := true } : State).tryPowerUp false else s.feedRestored a) :=
    congrArg Host.Outcome.next (if_pos (by simp [hkeeper, hreturns, hdue]))
  obtain ⟨hstate, hfeed⟩ := s.feedRestored_leaves a
  refine ⟨_, hexec, ?_⟩
  split
  · obtain ⟨hstate', hfeed'⟩ := State.feeds_tryPowerUp { s.feedRestored a with keeper.waitStart := true } false a
    have hfeed'' : ({ s.feedRestored a with keeper.waitStart := true } : State).feed a = (s.feedRestored a).feed a := by cases a <;> rfl
    rw [hfeed', hfeed'', hfeed]
    exact ⟨hstate'.trans hstate, rfl, rfl⟩
  · rw [hfeed]
    exact ⟨hstate, rfl, rfl⟩

theorem exec_pmbusAlert (s : State) (n w : Nat) (hkeeper : s.keeperRuns = true) (hn : n < 16) (hact : (s.acceptAlert true).1 = true) :
    ∃ t, exec (.pmbusAlert n (some w)) s = .next t ∧ t.rdN R.KEEPER_RAIL_STATUS_LAST_FAULT n = 5 ∧
      t.rd R.KEEPER_STATUS_SEQ_STATE = s.rd R.KEEPER_STATUS_SEQ_STATE := by
  have haccept : (if (s.keeperRuns && decide (n < 16)) = true then s.acceptAlert true else (false, s)) = s.acceptAlert true :=
    if_pos (by simp [hkeeper, hn])
  have hexec : exec (.pmbusAlert n (some w)) s = .next (((s.acceptAlert true).2.raiseKeeper Ev.POWER_PMBUS_FAULT [(1, n), (2, w)]).wrN
      R.KEEPER_RAIL_STATUS_LAST_FAULT n 5) := by
    refine congrArg Host.Outcome.next ?_
    dsimp -zeta only
    rw [show (some w).isSome = true from rfl, haccept]
    dsimp only
    rw [hact]
    rfl
  have halert : Stays .acceptAlert s (s.acceptAlert true).2 := .acceptAlert .refl .self
  have hraised : Stays .raiseKeeper (s.acceptAlert true).2 ((s.acceptAlert true).2.raiseKeeper Ev.POWER_PMBUS_FAULT [(1, n), (2, w)]) :=
    .raiseKeeper .refl .self
  exact ⟨_, hexec, State.rdN_wrN_self _ _ n 5, (State.rdN_wrN_clearOf _ n 0 5 rfl).trans ((hraised.rdN _ 0 rfl).trans (halert.rdN _ 0 rfl))⟩

/-! ### Reversed sense inputs -/

theorem exec_senseInputReversed_bank (s : State) (hkeeper : s.keeperRuns = true) :
    ∃ t, exec (.senseInputReversed 2) s = .next t ∧ t.rd R.DUR_BANK_V_VBANK_MV = 0 ∧ t.dur.senseLost = true ∧ t.bankV = 0 := by
  have hexec : exec (.senseInputReversed 2) s = .next { ((s.raiseKeeper Ev.POWER_SENSE_REVERSED [(1, 2)]).wr R.DUR_BANK_V_VBANK_MV 0).raise
      Ev.DURABILITY_HOLDUP_STALE [] with dur.senseLost := true } :=
    congrArg Host.Outcome.next ((if_neg (by simp [hkeeper])).trans ((if_neg (by decide)).trans (if_pos rfl)))
  have hraised (t : State) : Stays .raise t (t.raise Ev.DURABILITY_HOLDUP_STALE []) := .raise .refl .self
  exact ⟨_, hexec, ((hraised _).rdN R.DUR_BANK_V_VBANK_MV 0 rfl).trans (State.rd_wr_fits _ _ (by decide)), rfl, rfl⟩

/-- A feed whose sense input reads reversed. -/
def State.feedReversed (s : State) (a : Bool) : State :=
  ((s.wr (fFeedState a) 4).setFeed a { s.feed a with returnEnd := none }).driveFeeds

theorem State.feedReversed_leaves (s : State) (a : Bool) : (s.feedReversed a).rd (fFeedState a) = 4 ∧
    (s.feedReversed a).rd (fFeedState !a) = s.rd (fFeedState !a) ∧ ((s.feedReversed a).feed a).returnEnd = none := by
  have hdriven (t : State) : Stays .driveFeeds t t.driveFeeds := .driveFeeds .refl .self
  cases a
  · exact ⟨((hdriven _).rdN R.KEEPER_FEED_STATUS_B_STATE 0 rfl).trans (State.rd_wr_fits s _ (by decide)),
      ((hdriven _).rdN R.KEEPER_FEED_STATUS_A_STATE 0 rfl).trans (State.rd_wr_clear s _ rfl), congrArg Feed.returnEnd ((hdriven _).feed false)⟩
  · exact ⟨((hdriven _).rdN R.KEEPER_FEED_STATUS_A_STATE 0 rfl).trans (State.rd_wr_fits s _ (by decide)),
      ((hdriven _).rdN R.KEEPER_FEED_STATUS_B_STATE 0 rfl).trans (State.rd_wr_clear s _ rfl), congrArg Feed.returnEnd ((hdriven _).feed true)⟩

theorem exec_senseInputReversed_feed (s : State) (a : Bool) (hkeeper : s.keeperRuns = true) (hother : s.feedOk (!a) = true) :
    ∃ t, exec (.senseInputReversed (if a then 0 else 1)) s = .next t ∧ t.rd (fFeedState a) = 4 ∧ (t.feed a).returnEnd = none := by
  have hraised (i : Nat) : Stays .raiseKeeper s (s.raiseKeeper Ev.POWER_SENSE_REVERSED [(1, i)]) := .raiseKeeper .refl .self
  obtain ⟨hstate, hkeeps, hreturn⟩ := (s.raiseKeeper Ev.POWER_SENSE_REVERSED [(1, if a then 0 else 1)]).feedReversed_leaves a
  have hother' : (s.raiseKeeper Ev.POWER_SENSE_REVERSED [(1, if a then 0 else 1)]).rd (fFeedState !a) = s.rd (fFeedState !a) :=
    (hraised _).rdN _ 0 (by cases a <;> rfl)
  have hfed : ((s.raiseKeeper Ev.POWER_SENSE_REVERSED [(1, if a then 0 else 1)]).feedReversed a).anyFeedOk = true := by
    rw [State.anyFeedOk_of _ a]
    unfold State.feedOk at hother ⊢
    rw [hkeeps, hother', hother, Bool.or_true]
  have hexec : exec (.senseInputReversed (if a then 0 else 1)) s =
      .next ((s.raiseKeeper Ev.POWER_SENSE_REVERSED [(1, if a then 0 else 1)]).feedReversed a) := by
    have hlast (was : Bool) (t : State) (h : t.anyFeedOk = true) : (if (was && !t.anyFeedOk) = true then t.bothFeedsLost else t) = t :=
      if_neg (by simp [h])
    cases a
    · exact congrArg Host.Outcome.next ((if_neg (by simp [hkeeper])).trans ((if_pos (by decide)).trans (hlast _ _ hfed)))
    · exact congrArg Host.Outcome.next ((if_neg (by simp [hkeeper])).trans ((if_pos (by decide)).trans (hlast _ _ hfed)))
  exact ⟨_, hexec, hstate, hreturn⟩

theorem exec_senseInputReversed_rail (s : State) (n : Nat) (hkeeper : s.keeperRuns = true) (hcore : s.coreOn = true) (hn : n < 16)
    (hused : s.railUsed n = true) :
    ∃ t, exec (.senseInputReversed (n + 3)) s = .next t ∧ t.rdN R.KEEPER_RAIL_STATUS_LAST_FAULT n = 6 ∧
      t.rdN R.KEEPER_RAIL_STATUS_STATE n = 6 ∧ t.coreOn = true := by
  have hraised : Stays .raiseKeeper s (s.raiseKeeper Ev.POWER_SENSE_REVERSED [(1, n + 3)]) := .raiseKeeper .refl .self
  have hseq := hraised.rdN R.KEEPER_STATUS_SEQ_STATE 0 rfl
  have hcore' : (s.raiseKeeper Ev.POWER_SENSE_REVERSED [(1, n + 3)]).coreOn = true := by
    unfold State.coreOn State.rd at hcore ⊢
    rw [hseq]
    exact hcore
  have hnotUp : (s.raiseKeeper Ev.POWER_SENSE_REVERSED [(1, n + 3)]).rd R.KEEPER_STATUS_SEQ_STATE ≠ 1 := by
    intro h
    rw [State.coreOn, h] at hcore'
    exact absurd hcore' (by decide)
  have hused' : (s.raiseKeeper Ev.POWER_SENSE_REVERSED [(1, n + 3)]).railUsed n = true :=
    (congrArg (fun cfg => (AMap.get? cfg (R.KEEPER_RAIL_CFG_NOMINAL_MV.key n)).getD (R.KEEPER_RAIL_CFG_NOMINAL_MV.reset n) != 0)
      (hraised.part (·.keeper.railCfg))).trans hused
  have hexec : exec (.senseInputReversed (n + 3)) s = .next (((s.raiseKeeper Ev.POWER_SENSE_REVERSED [(1, n + 3)]).wrN
      R.KEEPER_RAIL_STATUS_LAST_FAULT n 6).wrN R.KEEPER_RAIL_STATUS_STATE n 6) := by
    refine congrArg Host.Outcome.next ((if_neg (by simp [hkeeper]; omega)).trans ((if_neg (by omega)).trans ((if_neg (by omega)).trans ?_)))
    dsimp only
    rw [Nat.add_sub_cancel]
    exact (if_neg (by simp [hnotUp])).trans (if_pos (by simp [hcore', hused']))
  have hcoreEnd (t : State) (h : t.coreOn = true) :
      ((t.wrN R.KEEPER_RAIL_STATUS_LAST_FAULT n 6).wrN R.KEEPER_RAIL_STATUS_STATE n 6).coreOn = true := by
    unfold State.coreOn State.rd at h ⊢
    rw [State.rdN_wrN_clearOf _ n 0 6 rfl, State.rdN_wrN_clearOf _ n 0 6 rfl]
    exact h
  exact ⟨_, hexec, (State.rdN_wrN_clearOf _ n n 6 rfl).trans (State.rdN_wrN_self _ _ n 6), State.rdN_wrN_self _ _ n 6, hcoreEnd _ hcore'⟩

/-! ### The keeper's own supply -/

/-- The keeper stops, and a save that runs ends with it (R413). -/
def State.keeperStopped (s : State) : State :=
  let s := if s.save.active then
      { (s.wr R.DUR_LAST_SAVE_RESULT 1).wr R.DUR_STATUS_SAVE_STEP 0 with
        save.active := false, save.incomplete := true, save.lastStep := s.save.step }.coreDown
    else s
  { s with keeper.stopped := true }

theorem State.save_keeperStopped (s : State) : s.keeperStopped.save.active = false := by
  unfold State.keeperStopped
  split
  · rfl
  next h => exact Bool.eq_false_iff.mpr h

theorem exec_keeperSupplyLow (s : State) (mv : Nat) (hkeeper : s.keeperRuns = true) :
    ∃ t, exec (.keeperSupplyLow mv) s = .next t ∧ t.keeper.stopped = true ∧ t.save.active = false :=
  ⟨_, congrArg Host.Outcome.next (if_pos hkeeper), rfl, State.save_keeperStopped _⟩

theorem exec_keeperSupplyRecovered (s : State) (mv : Nat) (hpower : s.keeper.powered = true) (hstop : s.keeper.stopped = true) :
    ∃ t, exec (.keeperSupplyRecovered mv) s = .next t ∧ t.keeper.stopped = false ∧ t.rd R.KEEPER_STATUS_VK_LOW = 0 ∧
      t.rd R.KEEPER_STATUS_VK_MV = mv % 2 ^ R.KEEPER_STATUS_VK_MV.width :=
  ⟨_, congrArg Host.Outcome.next (if_pos (by simp [hpower, hstop])), rfl,
    (State.rd_wr_clear _ mv rfl).trans (State.rd_wr_fits s _ (by decide)), State.rd_wr_self _ _ mv⟩

/-- Settles O17: each event's own writes, with what the events' log, the feeds' switches and power-up leave alone. -/
theorem feedsAndSupply : Obligations.FeedsAndSupply := by
  unfold Obligations.FeedsAndSupply
  exact ⟨exec_feedLoss_other, exec_feedLoss_both, exec_feedReturning, exec_feedOk, exec_pmbusAlert, exec_restartHoldEnd_fed,
    exec_restartHoldEnd_unfed, exec_holdupBankAtStartV, exec_startVTimeout, exec_senseInputReversed_bank, exec_senseInputReversed_feed,
    exec_senseInputReversed_rail, exec_keeperSupplyLow, exec_keeperSupplyRecovered⟩

end

end Sys2Proof.Machine


/-! Frames of the rails -/

namespace Sys2Proof.Machine

open Sys2Proof

section

set_option Elab.async false

def Scope.reachOff : Scope := .of (fun z s => { s with
    regs := z.regs, hub := z.hub, rings := z.rings, msix := z.msix, keeper.feedHold := z.keeper.feedHold,
    keeper.onSecondary := z.keeper.onSecondary, keeper.retryAt := z.keeper.retryAt, keeper.holdEnd := z.keeper.holdEnd,
    keeper.outputs := z.keeper.outputs, keeper.flash.ram := z.keeper.flash.ram, keeper.flash.flood := z.keeper.flash.flood,
    keeper.flash.counters := z.keeper.flash.counters, out := z.out }) [.reg R.KEEPER_STATUS_SEQ_STATE, .reg R.KEEPER_STATUS_SEQ_STEP,
      .driveFeeds, .setPower]

theorem Stays.reachOff {V : Scope} {s₀ s : State} (h : Stays V s₀ s) (hv : Scope.reachOff.Within V) : Stays V s₀ (s.reachOff) :=
  .ite (.when (.setPower (.driveFeeds (.upd (.wr (.wr h (hv.sub 0)) (hv.sub 1)) hv) (hv.sub 2)) (hv.sub 3)) (fun h => .upd (.wr h
    (hv.sub 0)) hv)) (.unless (.setPower (.driveFeeds (.upd (.wr (.wr h (hv.sub 0)) (hv.sub 1)) hv) (hv.sub 2)) (hv.sub 3)) (fun h
    => .upd (.wr h (hv.sub 0)) hv))

def Scope.shutFrom : Scope := .of (fun z s => { s with
    regs := z.regs, hub := z.hub, rings := z.rings, msix := z.msix, keeper.rails := z.keeper.rails,
    keeper.feedHold := z.keeper.feedHold, keeper.onSecondary := z.keeper.onSecondary, keeper.retryAt := z.keeper.retryAt,
    keeper.holdEnd := z.keeper.holdEnd, keeper.outputs := z.keeper.outputs, keeper.flash.ram := z.keeper.flash.ram,
    keeper.flash.flood := z.keeper.flash.flood, keeper.flash.counters := z.keeper.flash.counters, out := z.out }) [.reachOff,
      .commandRail, .reg R.KEEPER_STATUS_SEQ_STEP]

theorem Stays.shutFrom {V : Scope} {s₀ s : State} {k : Nat} (h : Stays V s₀ s) (hv : Scope.shutFrom.Within V) :
    Stays V s₀ (s.shutFrom k) := by
  induction k generalizing s with
  | zero => exact .reachOff h (hv.sub 0)
  | succ k ih =>
    unfold State.shutFrom
    exact .unless (.foldl (fun _ _ h => .commandRail h (hv.sub 1)) (.wr h (hv.sub 2))) ih

def Scope.startShutdown : Scope := .of (fun z s => { s with
    regs := z.regs, hub := z.hub, rings := z.rings, msix := z.msix, armedEnd := z.armedEnd, keeper.rails := z.keeper.rails,
    keeper.feedHold := z.keeper.feedHold, keeper.onSecondary := z.keeper.onSecondary, keeper.retryAt := z.keeper.retryAt,
    keeper.holdEnd := z.keeper.holdEnd, keeper.outputs := z.keeper.outputs, keeper.flash.ram := z.keeper.flash.ram,
    keeper.flash.flood := z.keeper.flash.flood, keeper.flash.counters := z.keeper.flash.counters, start.step := z.start.step,
    start.dramDone := z.start.dramDone, start.fwDone := z.start.fwDone, start.tablesDone := z.start.tablesDone,
    start.keysDone := z.start.keysDone, start.admitted := z.start.admitted, start.presented := z.start.presented,
    crypt.dramKey := z.crypt.dramKey, out := z.out }) [.reg R.KEEPER_STATUS_SEQ_STATE, .coreDown, .shutFrom]

theorem Stays.startShutdown {V : Scope} {s₀ s : State} (h : Stays V s₀ s) (hv : Scope.startShutdown.Within V) : Stays V s₀
    (s.startShutdown) :=
  .shutFrom (.coreDown (.wr h (hv.sub 0)) (hv.sub 1)) (hv.sub 2)

def Scope.loseCore : Scope := .of (fun z s => { s with
    regs := z.regs, armedEnd := z.armedEnd, keeper.flash.ram := z.keeper.flash.ram,
    keeper.flash.flood := z.keeper.flash.flood, keeper.flash.counters := z.keeper.flash.counters, start.step := z.start.step,
    start.dramDone := z.start.dramDone, start.fwDone := z.start.fwDone, start.tablesDone := z.start.tablesDone,
    start.keysDone := z.start.keysDone, start.admitted := z.start.admitted, start.presented := z.start.presented,
    save.active := z.save.active, save.lastStep := z.save.lastStep, save.incomplete := z.save.incomplete,
    crypt.dramKey := z.crypt.dramKey }) [.keeperLog, .reg R.DUR_LAST_SAVE_RESULT, .reg R.DUR_STATUS_SAVE_STEP, .reg
      R.DUR_LAST_SAVE_TRIGGER, .coreDown]

theorem Stays.loseCore {V : Scope} {s₀ s : State} (h : Stays V s₀ s) (hv : Scope.loseCore.Within V) : Stays V s₀ (s.loseCore) :=
  .ite (.coreDown (.upd (.when (.wr (.wr (.keeperLog h (hv.sub 0)) (hv.sub 1)) (hv.sub 2)) (fun h => .wr h (hv.sub 3))) hv) (hv.sub
    4)) h

def Scope.abortPowerUp : Scope := .of (fun z s => { s with
    regs := z.regs, hub := z.hub, rings := z.rings, msix := z.msix, armedEnd := z.armedEnd, keeper.rails := z.keeper.rails,
    keeper.feedHold := z.keeper.feedHold, keeper.onSecondary := z.keeper.onSecondary, keeper.retryAt := z.keeper.retryAt,
    keeper.holdEnd := z.keeper.holdEnd, keeper.abortShutdown := z.keeper.abortShutdown, keeper.outputs := z.keeper.outputs,
    keeper.flash.ram := z.keeper.flash.ram, keeper.flash.flood := z.keeper.flash.flood,
    keeper.flash.counters := z.keeper.flash.counters, start.step := z.start.step, start.dramDone := z.start.dramDone,
    start.fwDone := z.start.fwDone, start.tablesDone := z.start.tablesDone, start.keysDone := z.start.keysDone,
    start.admitted := z.start.admitted, start.presented := z.start.presented, crypt.dramKey := z.crypt.dramKey, out := z.out })
      [.raiseKeeper, .reg R.KEEPER_STATUS_RETRIES, .startShutdown]

theorem Stays.abortPowerUp {V : Scope} {s₀ s : State} {n : Nat} (h : Stays V s₀ s) (hv : Scope.abortPowerUp.Within V) : Stays V s₀
    (s.abortPowerUp n) :=
  .startShutdown (.upd (.wr (.raiseKeeper h (hv.sub 0)) (hv.sub 1)) hv) (hv.sub 2)

def Scope.failRail : Scope := .of (fun z s => { s with regs := z.regs }) [.reg R.KEEPER_RAIL_STATUS_STATE, .reg
  R.KEEPER_RAIL_STATUS_LAST_FAULT, .reg R.KEEPER_RAIL_FAILED_MASK]

theorem Stays.failRail {V : Scope} {s₀ s : State} {n : Nat} {fault : Nat} (h : Stays V s₀ s) (hv : Scope.failRail.Within V) : Stays
    V s₀ (s.failRail n fault) :=
  .wr (.wrN (.wrN h (hv.sub 0)) (hv.sub 1)) (hv.sub 2)

def Scope.cutFrom : Scope := .of (fun z s => { s with
    regs := z.regs, hub := z.hub, rings := z.rings, msix := z.msix, keeper.rails := z.keeper.rails,
    keeper.feedHold := z.keeper.feedHold, keeper.onSecondary := z.keeper.onSecondary, keeper.retryAt := z.keeper.retryAt,
    keeper.holdEnd := z.keeper.holdEnd, keeper.outputs := z.keeper.outputs, keeper.flash.ram := z.keeper.flash.ram,
    keeper.flash.flood := z.keeper.flash.flood, keeper.flash.counters := z.keeper.flash.counters, out := z.out }) [.reg
      R.KEEPER_STATUS_SEQ_STATE, .shutFrom, .commandRail, .reg R.KEEPER_STATUS_SEQ_STEP]

theorem Stays.cutFrom {V : Scope} {s₀ s : State} {step : Nat} (h : Stays V s₀ s) (hv : Scope.cutFrom.Within V) : Stays V s₀
    (s.cutFrom step) :=
  .ite (.shutFrom (.wr h (hv.sub 0)) (hv.sub 1)) (.unless (.foldl (fun _ _ h => .commandRail h (hv.sub 2)) (.wr (.wr h (hv.sub 0))
    (hv.sub 3))) (fun h => .shutFrom h (hv.sub 1)))

def Scope.advanceShutdown : Scope := .of (fun z s => { s with
    regs := z.regs, hub := z.hub, rings := z.rings, msix := z.msix, keeper.rails := z.keeper.rails,
    keeper.feedHold := z.keeper.feedHold, keeper.onSecondary := z.keeper.onSecondary, keeper.retryAt := z.keeper.retryAt,
    keeper.holdEnd := z.keeper.holdEnd, keeper.outputs := z.keeper.outputs, keeper.flash.ram := z.keeper.flash.ram,
    keeper.flash.flood := z.keeper.flash.flood, keeper.flash.counters := z.keeper.flash.counters, out := z.out }) [.shutFrom]

theorem Stays.advanceShutdown {V : Scope} {s₀ s : State} (h : Stays V s₀ s) (hv : Scope.advanceShutdown.Within V) : Stays V s₀
    (s.advanceShutdown) :=
  .ite h (.shutFrom h (hv.sub 0))

end

end Sys2Proof.Machine


/-! The rails in power-up, service and shut-down (R399 to R405). -/

namespace Sys2Proof.Machine

open Sys2Proof

section

set_option Elab.async false

/-! ### What the rails' states rest on -/

theorem Stays.coreOn {W : Scope} {s t : State} (h : Stays W s t) (hc : W.clear R.KEEPER_STATUS_SEQ_STATE = true) : t.coreOn = s.coreOn := by
  unfold State.coreOn State.rd
  rw [h.rdN _ 0 hc]

theorem State.railRd_congr {s t : State} (h : t.keeper.railCfg = s.keeper.railCfg) (f : Fld) (n : Nat) : t.railRd f n = s.railRd f n := by
  unfold State.railRd
  rw [h]

theorem State.inWindow_congr {s t : State} (hcfg : t.keeper.railCfg = s.keeper.railCfg) (hvdd : t.keeper.vddMv = s.keeper.vddMv) (n mv : Nat) :
    t.inWindow n mv = s.inWindow n mv := by
  unfold State.inWindow State.railTarget
  rw [hvdd, State.railRd_congr hcfg, State.railRd_congr hcfg]

/-- `t` shows the failure of rail `n` that `s` met: its fault and its bit of FAILED_MASK. -/
def State.RailFailed (s : State) (n fault : Nat) (t : State) : Prop :=
  t.rdN R.KEEPER_RAIL_STATUS_LAST_FAULT n = fault ∧ t.rd R.KEEPER_RAIL_FAILED_MASK = (s.rd R.KEEPER_RAIL_FAILED_MASK ||| 2 ^ n) % 2 ^ 16

theorem State.railFailed_failRail (s : State) (n : Nat) {fault : Nat} (hfault : fault < 2 ^ R.KEEPER_RAIL_STATUS_LAST_FAULT.width) : s.RailFailed n fault (s.failRail n fault) := by
  have hstored : ((s.wrN R.KEEPER_RAIL_STATUS_STATE n 4).wrN R.KEEPER_RAIL_STATUS_LAST_FAULT n fault).rdN R.KEEPER_RAIL_STATUS_LAST_FAULT n = fault :=
    (State.rdN_wrN_self _ _ n fault).trans (Nat.mod_eq_of_lt hfault)
  exact ⟨(State.rdN_wrN_clearOf _ 0 n _ rfl).trans hstored, State.rd_wr_self _ _ _⟩

theorem State.RailFailed.stays {s t u : State} {n fault : Nat} (h : s.RailFailed n fault t) {W : Scope} (hstays : Stays W t u)
    (hfault : W.clear R.KEEPER_RAIL_STATUS_LAST_FAULT = true) (hmask : W.clear R.KEEPER_RAIL_FAILED_MASK = true) : s.RailFailed n fault u := by
  obtain ⟨hlast, hfailed⟩ := h
  exact ⟨(hstays.rdN _ n hfault).trans hlast, (hstays.rdN _ 0 hmask).trans hfailed⟩

theorem State.RailFailed.before {s t u : State} {n fault : Nat} (h : t.RailFailed n fault u)
    (hmask : t.rd R.KEEPER_RAIL_FAILED_MASK = s.rd R.KEEPER_RAIL_FAILED_MASK) : s.RailFailed n fault u := by
  obtain ⟨hlast, hfailed⟩ := h
  exact ⟨hlast, hfailed.trans (congrArg (fun m => (m ||| 2 ^ n) % 2 ^ 16) hmask)⟩

/-! ### Power-up -/

theorem State.retries_abortPowerUp (s : State) (n : Nat) :
    (s.abortPowerUp n).rd R.KEEPER_STATUS_RETRIES = min 3 (s.rd R.KEEPER_STATUS_RETRIES + 1) := by
  have hraised : Stays .raiseKeeper s (s.raiseKeeper Ev.POWER_SEQ_ABORT [(1, n)]) := .raiseKeeper .refl .self
  have hcount := hraised.rdN R.KEEPER_STATUS_RETRIES 0 rfl
  have hfits : min 3 ((s.raiseKeeper Ev.POWER_SEQ_ABORT [(1, n)]).rd R.KEEPER_STATUS_RETRIES + 1) < 4 :=
    Nat.lt_of_le_of_lt (Nat.min_le_left _ _) (by decide)
  unfold State.abortPowerUp
  refine (Stays.rdN (.startShutdown .refl .self) R.KEEPER_STATUS_RETRIES 0 rfl).trans ((State.rd_wr_fits _ _ hfits).trans ?_)
  exact congrArg (fun n => min 3 (n + 1)) hcount

theorem exec_rampTimeout (s : State) (n : Nat) (hkeeper : s.keeperRuns = true) (hseq : s.rd R.KEEPER_STATUS_SEQ_STATE = 1) (hn : n < 16)
    (hramps : s.rdN R.KEEPER_RAIL_STATUS_STATE n = 1)
    (hdue : (s.rail n).commandedAt + ms (s.railRd R.KEEPER_RAIL_TIME_RAMP_MS n) ≤ s.now) :
    ∃ t, exec (.rampTimeout n) s = .next t ∧ t.rd R.KEEPER_STATUS_RETRIES = min 3 (s.rd R.KEEPER_STATUS_RETRIES + 1) ∧
      s.RailFailed n 1 t := by
  have hexec : exec (.rampTimeout n) s = .next ((s.failRail n 1).abortPowerUp n) :=
    congrArg Host.Outcome.next (if_pos (by simp [hkeeper, hseq, hn, hramps, hdue]))
  have hcount : (s.failRail n 1).rd R.KEEPER_STATUS_RETRIES = s.rd R.KEEPER_STATUS_RETRIES :=
    Stays.rdN (.failRail .refl .self) R.KEEPER_STATUS_RETRIES 0 rfl
  refine ⟨_, hexec, (State.retries_abortPowerUp _ n).trans (congrArg (fun k => min 3 (k + 1)) hcount), ?_⟩
  exact (s.railFailed_failRail n (by decide)).stays (.abortPowerUp .refl .self) rfl rfl

theorem exec_powerUpRetry (s : State) (hkeeper : s.keeperRuns = true) (hseq : s.rd R.KEEPER_STATUS_SEQ_STATE = 0)
    (hdue : due s.now s.keeper.retryAt = true) (hfeed : s.anyFeedOk = true) (htherm : s.thermReleased = true)
    (hlife : s.rd R.LIFE_STATE_LIFECYCLE ≠ 4) (hrom : s.keeper.flash.romRecovery = false) (hv : s.startVMet = true) :
    ∃ t, exec .powerUpRetry s = .next t ∧ t.rd R.KEEPER_STATUS_SEQ_STATE = 1 := by
  have hmay : ({ s with keeper.retryAt := none, keeper.waitStart := true } : State).MayPowerUp := ⟨hfeed, htherm, hlife, hrom⟩
  obtain ⟨hup, -⟩ := State.poweringUp_tryPowerUp false hmay rfl hseq (by rw [Bool.or_false]; exact hv)
  exact ⟨_, congrArg Host.Outcome.next (if_pos (by simp [hkeeper, hseq, hdue])), hup⟩

/-! ### Faults in service -/

/-- A rail out of its window, before its own reading is judged. -/
def State.windowFaulted (s : State) (n mv : Nat) : State :=
  ((s.raiseKeeper Ev.POWER_RAIL_FAULT [(1, n)]).wrN R.KEEPER_RAIL_STATUS_LAST_FAULT n 2).wrN R.KEEPER_RAIL_STATUS_READ_MV n mv

/-- The scope of a window fault. -/
def Scope.windowFaulted : Scope := .of (fun z s => { s with
    regs := z.regs, keeper.flash.ram := z.keeper.flash.ram, keeper.flash.flood := z.keeper.flash.flood,
    keeper.flash.counters := z.keeper.flash.counters, hub := z.hub, rings := z.rings, msix := z.msix, out := z.out }) [.raiseKeeper,
      .reg R.KEEPER_RAIL_STATUS_LAST_FAULT, .reg R.KEEPER_RAIL_STATUS_READ_MV]

theorem Stays.windowFaulted (s : State) (n mv : Nat) : Stays .windowFaulted s (s.windowFaulted n mv) := by
  have hv : Scope.windowFaulted.Within .windowFaulted := .self
  exact .wrN (.wrN (.raiseKeeper .refl (hv.sub 0)) (hv.sub 1)) (hv.sub 2)

theorem State.windowFaulted_leaves (s : State) (n mv : Nat) : (s.windowFaulted n mv).rdN R.KEEPER_RAIL_STATUS_LAST_FAULT n = 2 ∧
    (s.windowFaulted n mv).rdN R.KEEPER_RAIL_STATUS_READ_MV n = mv % 2 ^ 16 :=
  ⟨(State.rdN_wrN_clearOf _ n n mv rfl).trans (State.rdN_wrN_self _ _ n 2), State.rdN_wrN_self _ _ n mv⟩

theorem State.inWindow_windowFaulted (s : State) (n mv : Nat) : (s.windowFaulted n mv).inWindow n mv = s.inWindow n mv :=
  State.inWindow_congr ((Stays.windowFaulted s n mv).part (·.keeper.railCfg)) ((Stays.windowFaulted s n mv).part (·.keeper.vddMv)) n mv

theorem exec_railWindowFault (s : State) (n mv : Nat) (hkeeper : s.keeperRuns = true) (hcore : s.coreOn = true) (hn : n < 16)
    (hused : s.railUsed n = true) : exec (.railWindowFault n mv) s = .next (if s.inWindow n mv then
      (((s.windowFaulted n mv).wrN R.KEEPER_RAIL_STATUS_SENSE_FAULT n 1).wrN R.KEEPER_RAIL_STATUS_STATE n 2).raiseKeeper
        Ev.POWER_SENSE_FAULT [(1, n)]
      else ((s.windowFaulted n mv).wrN R.KEEPER_RAIL_STATUS_STATE n 3).setRail n
        { (s.windowFaulted n mv).rail n with faultAt := some (s.windowFaulted n mv).now }) := by
  rw [← s.inWindow_windowFaulted]
  exact congrArg Host.Outcome.next (if_pos (by simp [hkeeper, hcore, hn, hused]))

theorem exec_railWindowFault_sense (s : State) (n mv : Nat) (hkeeper : s.keeperRuns = true) (hcore : s.coreOn = true) (hn : n < 16)
    (hused : s.railUsed n = true) (hin : s.inWindow n mv = true) :
    ∃ t, exec (.railWindowFault n mv) s = .next t ∧ t.rdN R.KEEPER_RAIL_STATUS_SENSE_FAULT n = 1 ∧ t.rdN R.KEEPER_RAIL_STATUS_STATE n = 2 ∧
      t.rdN R.KEEPER_RAIL_STATUS_LAST_FAULT n = 2 ∧ t.rdN R.KEEPER_RAIL_STATUS_READ_MV n = mv % 2 ^ 16 ∧ t.save = s.save := by
  obtain ⟨hlast, hread⟩ := s.windowFaulted_leaves n mv
  have hraised (t : State) : Stays .raiseKeeper t (t.raiseKeeper Ev.POWER_SENSE_FAULT [(1, n)]) := .raiseKeeper .refl .self
  refine ⟨_, (exec_railWindowFault s n mv hkeeper hcore hn hused).trans (congrArg Host.Outcome.next (if_pos hin)), ?_, ?_, ?_, ?_, ?_⟩
  · exact ((hraised _).rdN R.KEEPER_RAIL_STATUS_SENSE_FAULT n rfl).trans ((State.rdN_wrN_clearOf _ n n 2 rfl).trans (State.rdN_wrN_self _ _ n 1))
  · exact ((hraised _).rdN R.KEEPER_RAIL_STATUS_STATE n rfl).trans (State.rdN_wrN_self _ _ n 2)
  · exact ((hraised _).rdN R.KEEPER_RAIL_STATUS_LAST_FAULT n rfl).trans
      ((State.rdN_wrN_clearOf _ n n 2 rfl).trans ((State.rdN_wrN_clearOf _ n n 1 rfl).trans hlast))
  · exact ((hraised _).rdN R.KEEPER_RAIL_STATUS_READ_MV n rfl).trans
      ((State.rdN_wrN_clearOf _ n n 2 rfl).trans ((State.rdN_wrN_clearOf _ n n 1 rfl).trans hread))
  · exact ((hraised _).part (·.save)).trans ((Stays.windowFaulted s n mv).part (·.save))

theorem exec_railWindowFault_rail (s : State) (n mv : Nat) (hkeeper : s.keeperRuns = true) (hcore : s.coreOn = true) (hn : n < 16)
    (hused : s.railUsed n = true) (hout : s.inWindow n mv = false) :
    ∃ t, exec (.railWindowFault n mv) s = .next t ∧ t.rdN R.KEEPER_RAIL_STATUS_STATE n = 3 ∧ t.rdN R.KEEPER_RAIL_STATUS_LAST_FAULT n = 2 ∧
      t.rdN R.KEEPER_RAIL_STATUS_READ_MV n = mv % 2 ^ 16 ∧ (t.rail n).faultAt = some s.now ∧ t.save = s.save := by
  obtain ⟨hlast, hread⟩ := s.windowFaulted_leaves n mv
  have hnow : (s.windowFaulted n mv).now = s.now := (Stays.windowFaulted s n mv).part (·.now)
  refine ⟨_, (exec_railWindowFault s n mv hkeeper hcore hn hused).trans (congrArg Host.Outcome.next (if_neg (by simp [hout]))), ?_, ?_, ?_, ?_, ?_⟩
  · exact State.rdN_wrN_self (s.windowFaulted n mv) _ n 3
  · exact (State.rdN_wrN_clearOf (s.windowFaulted n mv) n n 3 rfl).trans hlast
  · exact (State.rdN_wrN_clearOf (s.windowFaulted n mv) n n 3 rfl).trans hread
  · rw [← hnow]
    simp [State.rail, State.setRail]
  · exact (Stays.windowFaulted s n mv).part (·.save)

theorem exec_railFaultHold (s : State) (n : Nat) (hkeeper : s.keeperRuns = true) (hcore : s.coreOn = true) (hsave : s.save.active = false)
    (hn : n < 16) (hfault : s.rdN R.KEEPER_RAIL_STATUS_STATE n = 3) (hdue : due s.now ((s.rail n).faultAt.map (· + ms 5)) = true) :
    ∃ t, exec (.railFaultHold n) s = .next t ∧ t.save.active = true ∧ t.save.step = 1 ∧ t.save.trigger = 6 ∧ t.save.action = .keep := by
  have hexec : exec (.railFaultHold n) s =
      .next ((s.setRail n { s.rail n with faultAt := none }).startSave 6 .keep (some 0xFFFFFFFFFFFFFFFF) none none) :=
    congrArg Host.Outcome.next ((if_pos (by simp [hkeeper, hcore, hn, hfault, hdue])).trans (if_neg (by simp [State.setRail, hsave])))
  refine ⟨_, hexec, ?_⟩
  rw [State.startSave_new (s.setRail n { s.rail n with faultAt := none }) 6 .keep _ none none hcore hsave]
  exact ⟨rfl, rfl, rfl, rfl⟩

/-- A rail read out of its window, as it is first seen. -/
def State.readOut (s : State) (n : Nat) : State :=
  if s.rdN R.KEEPER_RAIL_STATUS_STATE n = 3 then s
  else (s.raiseKeeper Ev.POWER_RAIL_FAULT [(1, n)]).wrN R.KEEPER_RAIL_STATUS_LAST_FAULT n 2

theorem State.readMv_readOut (s : State) (n : Nat) : (s.readOut n).rdN R.KEEPER_RAIL_STATUS_READ_MV n = s.rdN R.KEEPER_RAIL_STATUS_READ_MV n := by
  have hraised : Stays .raiseKeeper s (s.raiseKeeper Ev.POWER_RAIL_FAULT [(1, n)]) := .raiseKeeper .refl .self
  unfold State.readOut
  split
  · rfl
  · exact (State.rdN_wrN_clearOf _ n n 2 rfl).trans (hraised.rdN _ n rfl)

theorem exec_readVoutPoll (s : State) (n mv : Nat) (hkeeper : s.keeperRuns = true) (hcore : s.coreOn = true) (hn : n < 16)
    (hsense : s.rdN R.KEEPER_RAIL_STATUS_SENSE_FAULT n = 1) :
    ∃ t, exec (.readVoutPoll n mv) s = .next t ∧ t.rdN R.KEEPER_RAIL_STATUS_READ_MV n = mv % 2 ^ 16 ∧
      t.rdN R.KEEPER_RAIL_STATUS_STATE n = (if s.inWindow n mv then 2 else 3) := by
  have hread : (s.wrN R.KEEPER_RAIL_STATUS_READ_MV n mv).rdN R.KEEPER_RAIL_STATUS_READ_MV n = mv % 2 ^ 16 := State.rdN_wrN_self s _ n mv
  have hwrites : Stays (.reg R.KEEPER_RAIL_STATUS_READ_MV) s (s.wrN R.KEEPER_RAIL_STATUS_READ_MV n mv) := .wrN .refl .self
  have hwindow : (s.wrN R.KEEPER_RAIL_STATUS_READ_MV n mv).inWindow n mv = s.inWindow n mv := State.inWindow_congr (hwrites.part (·.keeper.railCfg)) (hwrites.part (·.keeper.vddMv)) n mv
  have hexec : exec (.readVoutPoll n mv) s = .next (if s.inWindow n mv then
      ((s.wrN R.KEEPER_RAIL_STATUS_READ_MV n mv).wrN R.KEEPER_RAIL_STATUS_STATE n 2).setRail n
        { (s.wrN R.KEEPER_RAIL_STATUS_READ_MV n mv).rail n with faultAt := none }
      else (((s.wrN R.KEEPER_RAIL_STATUS_READ_MV n mv).readOut n).wrN R.KEEPER_RAIL_STATUS_STATE n 3).setRail n
        { ((s.wrN R.KEEPER_RAIL_STATUS_READ_MV n mv).readOut n).rail n with
          faultAt := some ((((s.wrN R.KEEPER_RAIL_STATUS_READ_MV n mv).readOut n).rail n).faultAt.getD
            ((s.wrN R.KEEPER_RAIL_STATUS_READ_MV n mv).readOut n).now) }) := by
    rw [← hwindow]
    exact congrArg Host.Outcome.next (if_pos (by simp [hkeeper, hcore, hn, hsense]))
  refine ⟨_, hexec, ?_⟩
  split
  · exact ⟨(State.rdN_wrN_clearOf (s.wrN R.KEEPER_RAIL_STATUS_READ_MV n mv) n n 2 rfl).trans hread, State.rdN_wrN_self _ _ n 2⟩
  · exact ⟨(State.rdN_wrN_clearOf ((s.wrN R.KEEPER_RAIL_STATUS_READ_MV n mv).readOut n) n n 3 rfl).trans
      ((State.readMv_readOut _ n).trans hread), State.rdN_wrN_self _ _ n 3⟩

/-- When the core die loses its supply, no save runs any more. -/
theorem State.save_loseCore (s : State) : s.loseCore.save.active = false := by
  unfold State.loseCore
  split
  · rfl
  next h =>
    obtain ⟨-, hsave⟩ := not_or.mp (mt Bool.or_eq_true_iff.mpr h)
    exact Bool.eq_false_iff.mpr hsave

theorem exec_railHardLimitBreach (s : State) (n : Nat) (hkeeper : s.keeperRuns = true) (hn : n < 16) (hused : s.railUsed n = true)
    (hon : (s.rail n).on = true) :
    ∃ t, exec (.railHardLimitBreach n) s = .next t ∧ t.save.active = false ∧ s.RailFailed n 3 t := by
  have hexec : exec (.railHardLimitBreach n) s = .next (((((s.raiseKeeper Ev.POWER_RAIL_HARD_LIMIT [(1, n)]).failRail n 3).loseCore.commandRail
      false n)).cutFrom (((s.raiseKeeper Ev.POWER_RAIL_HARD_LIMIT [(1, n)]).failRail n 3).railRd R.KEEPER_RAIL_CFG_STEP n + 1)) :=
    congrArg Host.Outcome.next (if_pos (by simp [hkeeper, hn, hused, hon]))
  have hraised : Stays .raiseKeeper s (s.raiseKeeper Ev.POWER_RAIL_HARD_LIMIT [(1, n)]) := .raiseKeeper .refl .self
  refine ⟨_, hexec, ?_, ?_⟩
  · exact (Stays.part (·.save.active) (.cutFrom .refl .self)).trans
      ((Stays.part (·.save.active) (.commandRail .refl .self)).trans (State.save_loseCore _))
  · exact ((((State.railFailed_failRail _ n (by decide)).before (hraised.rdN _ 0 rfl)).stays (.loseCore .refl .self) rfl rfl).stays
      (.commandRail .refl .self) rfl rfl).stays (.cutFrom .refl .self) rfl rfl

/-! ### Shut-down -/

/-- Ends the discharge of rail `n`. -/
def State.discharged (s : State) (n : Nat) : State :=
  if s.rdN R.KEEPER_RAIL_STATUS_STATE n = 5 then s.wrN R.KEEPER_RAIL_STATUS_STATE n 0 else s

theorem railState_key_inj {n m : Nat} (hn : n < 16) (hm : m < 16) (h : R.KEEPER_RAIL_STATUS_STATE.key n = R.KEEPER_RAIL_STATUS_STATE.key m) :
    n = m := by
  simp only [Fld.key, R.KEEPER_RAIL_STATUS_STATE] at h
  omega

theorem State.discharged_self (s : State) (n : Nat) : (s.discharged n).rdN R.KEEPER_RAIL_STATUS_STATE n ≠ 5 := by
  unfold State.discharged
  split
  · rw [State.rdN_wrN_self]
    decide
  next h => exact h

theorem State.discharged_keeps (s : State) {n m : Nat} (hn : n < 16) (hm : m < 16) (h : s.rdN R.KEEPER_RAIL_STATUS_STATE m ≠ 5) :
    (s.discharged n).rdN R.KEEPER_RAIL_STATUS_STATE m ≠ 5 := by
  by_cases hnm : n = m
  · exact hnm ▸ s.discharged_self n
  · unfold State.discharged
    split
    · rw [State.rdN_wrN_ne s 0 (fun hkey => hnm (railState_key_inj hn hm hkey))]
      exact h
    · exact h

theorem State.foldl_discharged (l : List Nat) (hl : ∀ n ∈ l, n < 16) {m : Nat} (hm : m < 16) (s : State)
    (h : m ∈ l ∨ s.rdN R.KEEPER_RAIL_STATUS_STATE m ≠ 5) : (l.foldl State.discharged s).rdN R.KEEPER_RAIL_STATUS_STATE m ≠ 5 := by
  induction l generalizing s with
  | nil => exact h.resolve_left (by simp)
  | cons n l ih =>
    refine ih (fun k hk => hl k (List.mem_cons_of_mem n hk)) (s.discharged n) ?_
    rcases h with hmem | hstate
    · rcases List.mem_cons.mp hmem with heq | htail
      · exact .inr (heq ▸ s.discharged_self m)
      · exact .inl htail
    · exact .inr (s.discharged_keeps (hl n List.mem_cons_self) hm hstate)

theorem Stays.foldl_discharged (l : List Nat) (s : State) : Stays (.reg R.KEEPER_RAIL_STATUS_STATE) s (l.foldl State.discharged s) :=
  .foldl (fun _ _ h => .when h (fun h => .wrN h .self)) .refl

theorem State.advanceShutdown_of_last {s : State} (hrails : ∀ n < 16, s.rdN R.KEEPER_RAIL_STATUS_STATE n ≠ 5)
    (hstep : s.rd R.KEEPER_STATUS_SEQ_STEP = 1) : s.advanceShutdown = s.reachOff := by
  have hnone : ¬ (List.range 16).any (fun n => s.rdN R.KEEPER_RAIL_STATUS_STATE n == 5) = true := by
    intro h
    obtain ⟨n, hn, hstate⟩ := List.any_eq_true.mp h
    exact hrails n (List.mem_range.mp hn) (eq_of_beq hstate)
  unfold State.advanceShutdown
  rw [if_neg hnone, hstep]
  rfl

/-- The rails are off: before OFF decides what follows. -/
def State.railsOff (s : State) : State :=
  let s := (s.wr R.KEEPER_STATUS_SEQ_STATE 0).wr R.KEEPER_STATUS_SEQ_STEP 0
  let s := { s with keeper.feedHold := false }.driveFeeds
  s.setPower (if s.keeper.keepAfter then 3 else 5)

theorem Stays.railsOff (s : State) : Stays .reachOff s s.railsOff := by
  have hv : Scope.reachOff.Within .reachOff := .self
  have hoff : Stays .reachOff s ((s.wr R.KEEPER_STATUS_SEQ_STATE 0).wr R.KEEPER_STATUS_SEQ_STEP 0) := .wr (.wr .refl (hv.sub 0)) (hv.sub 1)
  exact .setPower (.driveFeeds (.upd hoff hv) (hv.sub 2)) (hv.sub 3)

/-- An orderly shut-down ends in the restart hold. -/
theorem State.reachOff_leaves {s : State} (habort : s.keeper.abortShutdown = false) (hkeep : s.keeper.keepAfter = false) :
    s.reachOff.rd R.KEEPER_STATUS_SEQ_STATE = 5 ∧
      s.reachOff.keeper.holdEnd = some (s.now + ms (100 * s.rd R.KEEPER_CTRL_RESTART_HOLD_100MS)) := by
  have hrails := Stays.railsOff s
  have habort' : s.railsOff.keeper.abortShutdown = false := (hrails.part (·.keeper.abortShutdown)).trans habort
  have hkeep' : s.railsOff.keeper.keepAfter = false := (hrails.part (·.keeper.keepAfter)).trans hkeep
  have hnow : s.railsOff.now = s.now := hrails.part (·.now)
  have hhold : s.railsOff.rd R.KEEPER_CTRL_RESTART_HOLD_100MS = s.rd R.KEEPER_CTRL_RESTART_HOLD_100MS := hrails.rdN _ 0 rfl
  have hnotAbort : ¬ (s.railsOff.keeper.abortShutdown && !s.railsOff.keeper.waitStart) = true := by rw [habort']; exact Bool.false_ne_true
  have hnotKeep : ¬ (s.railsOff.keeper.keepAfter && !s.railsOff.keeper.waitStart) = true := by rw [hkeep']; exact Bool.false_ne_true
  have hreach : s.reachOff = { s.railsOff.wr R.KEEPER_STATUS_SEQ_STATE 5 with
      keeper.holdEnd := some (s.railsOff.now + ms (100 * s.railsOff.rd R.KEEPER_CTRL_RESTART_HOLD_100MS)) } :=
    (if_neg hnotAbort).trans (if_neg hnotKeep)
  rw [hreach, hnow, hhold]
  exact ⟨State.rd_wr_fits s.railsOff _ (by decide), rfl⟩

theorem exec_shutdownStepEnd (s : State) (hkeeper : s.keeperRuns = true) (hseq : s.rd R.KEEPER_STATUS_SEQ_STATE = 4)
    (hstep : s.rd R.KEEPER_STATUS_SEQ_STEP = 1) (habort : s.keeper.abortShutdown = false) (hkeep : s.keeper.keepAfter = false) :
    ∃ t, exec .shutdownStepEnd s = .next t ∧ t.rd R.KEEPER_STATUS_SEQ_STATE = 5 ∧
      t.keeper.holdEnd = some (s.now + ms (100 * s.rd R.KEEPER_CTRL_RESTART_HOLD_100MS)) := by
  have hexec : exec .shutdownStepEnd s = .next ((List.range 16).foldl State.discharged s).advanceShutdown :=
    congrArg Host.Outcome.next (if_pos (by simp [hkeeper, hseq]))
  have hrange (n : Nat) (h : n ∈ List.range 16) : n < 16 := List.mem_range.mp h
  have hstays := Stays.foldl_discharged (List.range 16) s
  have hoff : ((List.range 16).foldl State.discharged s).advanceShutdown = ((List.range 16).foldl State.discharged s).reachOff :=
    State.advanceShutdown_of_last (fun n hn => State.foldl_discharged _ hrange hn s (.inl (List.mem_range.mpr hn)))
      ((hstays.rdN _ 0 rfl).trans hstep)
  obtain ⟨hseq', hhold⟩ := State.reachOff_leaves ((hstays.part (·.keeper.abortShutdown)).trans habort)
    ((hstays.part (·.keeper.keepAfter)).trans hkeep)
  have hnow : ((List.range 16).foldl State.discharged s).now = s.now := hstays.part (·.now)
  have hctrl : ((List.range 16).foldl State.discharged s).rd R.KEEPER_CTRL_RESTART_HOLD_100MS = s.rd R.KEEPER_CTRL_RESTART_HOLD_100MS :=
    hstays.rdN _ 0 rfl
  rw [hoff] at hexec
  rw [hnow, hctrl] at hhold
  exact ⟨_, hexec, hseq', hhold⟩

theorem exec_dischargeTimer (s : State) (n : Nat) (hkeeper : s.keeperRuns = true) (hseq : s.rd R.KEEPER_STATUS_SEQ_STATE = 4) (hn : n < 16)
    (hstate : s.rdN R.KEEPER_RAIL_STATUS_STATE n = 5)
    (hdue : (s.rail n).commandedAt + ms (s.railRd R.KEEPER_RAIL_TIME_DISCH_MS n) ≤ s.now) :
    ∃ t, exec (.dischargeTimer n) s = .next t ∧ s.RailFailed n 4 t := by
  have hexec : exec (.dischargeTimer n) s =
      .next ((s.failRail n 4).raiseKeeper Ev.POWER_DISCHARGE_TIMEOUT [(1, n)]).advanceShutdown :=
    congrArg Host.Outcome.next (if_pos (by simp [hkeeper, hseq, hn, hstate, hdue]))
  exact ⟨_, hexec, ((s.railFailed_failRail n (by decide)).stays (.raiseKeeper .refl .self) rfl rfl).stays (.advanceShutdown .refl .self) rfl rfl⟩

theorem exec_shutdownRailCollapse (s : State) (n : Nat) (hkeeper : s.keeperRuns = true) (hseq : s.rd R.KEEPER_STATUS_SEQ_STATE = 4) (hn : n < 16)
    (hused : s.railUsed n = true) (hon : (s.rail n).on = true) (hstep : s.railRd R.KEEPER_RAIL_CFG_STEP n < s.rd R.KEEPER_STATUS_SEQ_STEP) :
    ∃ t, exec (.shutdownRailCollapse n) s = .next t ∧ s.RailFailed n 2 t := by
  have hexec : exec (.shutdownRailCollapse n) s = .next ((s.failRail n 2).cutFrom (s.railRd R.KEEPER_RAIL_CFG_STEP n + 1)) :=
    congrArg Host.Outcome.next (if_pos (by simp [hkeeper, hseq, hn, hused, hon, hstep]))
  exact ⟨_, hexec, (s.railFailed_failRail n (by decide)).stays (.cutFrom .refl .self) rfl rfl⟩

/-- Settles O16: a failed rail shows its fault and its bit whatever follows, and the last step's end reaches OFF. -/
theorem railSequencing : Obligations.RailSequencing := by
  unfold Obligations.RailSequencing
  exact ⟨exec_rampTimeout, exec_powerUpRetry, exec_railWindowFault_sense, exec_railWindowFault_rail, exec_railFaultHold, exec_readVoutPoll,
    exec_railHardLimitBreach, exec_shutdownStepEnd, exec_dischargeTimer, exec_shutdownRailCollapse⟩

end

end Sys2Proof.Machine


/-! Frames of the link, of admission and of the clocks -/

namespace Sys2Proof.Machine

open Sys2Proof

section

set_option Elab.async false

def Scope.failTag : Scope := .of (fun z s => { s with
    regs := z.regs, hub := z.hub, rings := z.rings, msix := z.msix, keeper.flash.ram := z.keeper.flash.ram,
    keeper.flash.flood := z.keeper.flash.flood, keeper.flash.counters := z.keeper.flash.counters,
    cerga.alarmSecond := z.cerga.alarmSecond, cerga.alarmCount := z.cerga.alarmCount, cerga.alarmed := z.cerga.alarmed,
    out := z.out }) [.reg R.CERGA_DROP_AUTH, .raise]

theorem Stays.failTag {V : Scope} {s₀ s : State} {p : CergaPacket} (h : Stays V s₀ s) (hv : Scope.failTag.Within V) : Stays V s₀
    (s.failTag p) :=
  .when (.upd (.bump h (hv.sub 0)) hv) (fun h => .raise h (hv.sub 1))

def Scope.setStream : Scope := .of (fun z s => { s with cerga.streams := z.cerga.streams }) []

theorem Stays.setStream {V : Scope} {s₀ s : State} {i : Nat} {x : Stream} (h : Stays V s₀ s) (hv : Scope.setStream.Within V) : Stays
    V s₀ (s.setStream i x) :=
  .upd h hv

def Scope.updStream : Scope := .of (fun z s => { s with cerga.streams := z.cerga.streams }) [.setStream]

theorem Stays.updStream {V : Scope} {s₀ s : State} {i : Nat} {f : Stream → Stream} (h : Stays V s₀ s) (hv : Scope.updStream.Within
    V) : Stays V s₀ (s.updStream i f) :=
  .setStream h (hv.sub 0)

def Scope.chargeIn : Scope := .of (fun z s => { s with meter.current := z.meter.current, meter.settling := z.meter.settling }) []

theorem Stays.chargeIn {V : Scope} {s₀ s : State} {w : Nat} {account : Nat} {i : Nat} {n : Nat} (h : Stays V s₀ s) (hv :
    Scope.chargeIn.Within V) : Stays V s₀ (s.chargeIn w account i n) := by
  unfold State.chargeIn
  refine .ite h ?_
  refine .ite (.upd h hv) ?_
  split
  · exact .ite (.upd h hv) h
  · exact h

def Scope.chargeIngress : Scope := .of (fun z s => { s with meter.current := z.meter.current, meter.settling := z.meter.settling })
  [.chargeIn]

theorem Stays.chargeIngress {V : Scope} {s₀ s : State} {i : Nat} {window : Nat} {frame : Nat} (h : Stays V s₀ s) (hv :
    Scope.chargeIngress.Within V) : Stays V s₀ (s.chargeIngress i window frame) :=
  .chargeIn h (hv.sub 0)

def Scope.shaperTake : Scope := .of (fun z s => { s with meter.shapers := z.meter.shapers }) []

theorem Stays.shaperTake {V : Scope} {s₀ s : State} {pd : Nat} {len : Nat} (h : Stays V s₀ s) (hv : Scope.shaperTake.Within V) :
    Stays V s₀ (s.shaperTake pd len) := by
  unfold State.shaperTake
  split
  · exact .upd h hv
  · exact h

def Scope.meterSync : Scope := .of (fun z s => { s with
    regs := z.regs, hub := z.hub, rings := z.rings, msix := z.msix, keeper.flash.ram := z.keeper.flash.ram,
    keeper.flash.flood := z.keeper.flash.flood, keeper.flash.counters := z.keeper.flash.counters, out := z.out }) [.reg
      R.METER_STATUS_UNSYNCED, .raise, .reg R.METER_STATUS_SETTLING]

theorem Stays.meterSync {V : Scope} {s₀ s : State} (h : Stays V s₀ s) (hv : Scope.meterSync.Within V) : Stays V s₀ (s.meterSync) :=
  .flag (.ite h (.raise (.flag h (hv.sub 0)) (hv.sub 1))) (hv.sub 2)

def Scope.holdExport : Scope := .of (fun z s => { s with
    regs := z.regs, hub := z.hub, rings := z.rings, msix := z.msix, keeper.flash.ram := z.keeper.flash.ram,
    keeper.flash.flood := z.keeper.flash.flood, keeper.flash.counters := z.keeper.flash.counters, meter.held := z.meter.held,
    out := z.out }) [.reg R.METER_HELD_RECORDS, .raise, .reg R.METER_MERGED]

theorem Stays.holdExport {V : Scope} {s₀ s : State} {n : Nat} {r : ExportRecord} (h : Stays V s₀ s) (hv : Scope.holdExport.Within V)
    : Stays V s₀ (s.holdExport n r) := by
  unfold State.holdExport
  refine .ite (.raise (.wr (.upd h hv) (hv.sub 0)) (hv.sub 1)) ?_
  split
  · exact .raise (.bump (.upd h hv) (hv.sub 2)) (hv.sub 1)
  · exact .raise (.wr (.upd h hv) (hv.sub 0)) (hv.sub 1)

def Scope.exportRecord : Scope := .of (fun z s => { s with
    regs := z.regs, hub := z.hub, rings := z.rings, msix := z.msix, keeper.flash.ram := z.keeper.flash.ram,
    keeper.flash.flood := z.keeper.flash.flood, keeper.flash.counters := z.keeper.flash.counters, meter.held := z.meter.held,
    meter.seqs := z.meter.seqs, out := z.out }) [.writeExport, .holdExport]

theorem Stays.exportRecord {V : Scope} {s₀ s : State} {n : Nat} {r : ExportRecord} (h : Stays V s₀ s) (hv :
    Scope.exportRecord.Within V) : Stays V s₀ (s.exportRecord n r) :=
  .ite (.writeExport h (hv.sub 0)) (.holdExport h (hv.sub 1))

def Scope.addContribution : Scope := .of (fun z s => { s with
    regs := z.regs, hub := z.hub, rings := z.rings, msix := z.msix, keeper.flash.ram := z.keeper.flash.ram,
    keeper.flash.flood := z.keeper.flash.flood, keeper.flash.counters := z.keeper.flash.counters, meter.held := z.meter.held,
    meter.aggregates := z.meter.aggregates, meter.seqs := z.meter.seqs, out := z.out }) [.exportRecord]

theorem Stays.addContribution {V : Scope} {s₀ s : State} {r : ExportRecord} (h : Stays V s₀ s) (hv : Scope.addContribution.Within V)
    : Stays V s₀ (s.addContribution r) := by
  unfold State.addContribution
  split
  · exact h
  · exact .ite (.exportRecord h (hv.sub 0)) (.ite (.upd h hv) (.upd h hv))

def Scope.aggregateCopy : Scope := .of (fun z s => { s with
    regs := z.regs, hub := z.hub, rings := z.rings, msix := z.msix, keeper.flash.ram := z.keeper.flash.ram,
    keeper.flash.flood := z.keeper.flash.flood, keeper.flash.counters := z.keeper.flash.counters, meter.held := z.meter.held,
    meter.aggregates := z.meter.aggregates, meter.seqs := z.meter.seqs, domain.counter := z.domain.counter,
    domain.nextMsg := z.domain.nextMsg, domain.requests := z.domain.requests, out := z.out }) [.addContribution, .raise, .sendRequest]

theorem Stays.aggregateCopy {V : Scope} {s₀ s : State} {r : ExportRecord} (h : Stays V s₀ s) (hv : Scope.aggregateCopy.Within V) :
    Stays V s₀ (s.aggregateCopy r) := by
  unfold State.aggregateCopy
  refine .ite (.addContribution h (hv.sub 0)) ?_
  refine .ite ?_ h
  refine .sendRequest ?_ (hv.sub 2)
  split
  · exact .ite (.raise (.upd h hv) (hv.sub 1)) h
  · exact h

def Scope.exportAccount : Scope := .of (fun z s => { s with
    regs := z.regs, hub := z.hub, rings := z.rings, msix := z.msix, keeper.flash.ram := z.keeper.flash.ram,
    keeper.flash.flood := z.keeper.flash.flood, keeper.flash.counters := z.keeper.flash.counters, meter.held := z.meter.held,
    meter.aggregates := z.meter.aggregates, meter.seqs := z.meter.seqs, domain.counter := z.domain.counter,
    domain.nextMsg := z.domain.nextMsg, domain.requests := z.domain.requests, out := z.out }) [.exportRecord, .aggregateCopy]

theorem Stays.exportAccount {V : Scope} {s₀ s : State} {w : Window} {account : Nat} {c : Charges} (h : Stays V s₀ s) (hv :
    Scope.exportAccount.Within V) : Stays V s₀ (s.exportAccount w account c) := by
  unfold State.exportAccount
  split
  · exact h
  · exact .ite h (.when (.exportRecord h (hv.sub 0)) (fun h => .aggregateCopy h (hv.sub 1)))

def Scope.freeAccounts : Scope := .of (fun z s => { s with regs := z.regs, meter.accounts := z.meter.accounts }) [.reg
  R.METER_ACCOUNTS_USED]

theorem Stays.freeAccounts {V : Scope} {s₀ s : State} (h : Stays V s₀ s) (hv : Scope.freeAccounts.Within V) : Stays V s₀
    (s.freeAccounts) :=
  .wr (.upd h hv) (hv.sub 0)

def Scope.settled : Scope := .of (fun z s => { s with
    regs := z.regs, hub := z.hub, rings := z.rings, msix := z.msix, keeper.flash.ram := z.keeper.flash.ram,
    keeper.flash.flood := z.keeper.flash.flood, keeper.flash.counters := z.keeper.flash.counters,
    meter.accounts := z.meter.accounts, meter.last := z.meter.last, meter.held := z.meter.held,
    meter.aggregates := z.meter.aggregates, meter.seqs := z.meter.seqs, domain.counter := z.domain.counter,
    domain.nextMsg := z.domain.nextMsg, domain.requests := z.domain.requests, out := z.out }) [.exportAccount, .freeAccounts]

theorem Stays.settled {V : Scope} {s₀ s : State} {w : Window} (h : Stays V s₀ s) (hv : Scope.settled.Within V) : Stays V s₀
    (s.settled w) :=
  .freeAccounts (.foldl (fun _ _ h => .exportAccount h (hv.sub 0)) (.upd h hv)) (hv.sub 1)

def Scope.settleWindow : Scope := .of (fun z s => { s with
    regs := z.regs, hub := z.hub, rings := z.rings, msix := z.msix, keeper.flash.ram := z.keeper.flash.ram,
    keeper.flash.flood := z.keeper.flash.flood, keeper.flash.counters := z.keeper.flash.counters, eng.ops := z.eng.ops,
    meter.accounts := z.meter.accounts, meter.settling := z.meter.settling, meter.last := z.meter.last,
    meter.held := z.meter.held, meter.aggregates := z.meter.aggregates, meter.seqs := z.meter.seqs,
    domain.counter := z.domain.counter, domain.nextMsg := z.domain.nextMsg, domain.requests := z.domain.requests,
    out := z.out }) [.reg R.METER_LATE_OPS, .settled, .meterSync]

theorem Stays.settleWindow {V : Scope} {s₀ s : State} (h : Stays V s₀ s) (hv : Scope.settleWindow.Within V) : Stays V s₀
    (s.settleWindow) := by
  unfold State.settleWindow
  split
  · exact h
  · exact .meterSync (.settled (.bump (.upd h hv) (hv.sub 0)) (hv.sub 1)) (hv.sub 2)

def Scope.settleIfDone : Scope := .of (fun z s => { s with
    regs := z.regs, hub := z.hub, rings := z.rings, msix := z.msix, keeper.flash.ram := z.keeper.flash.ram,
    keeper.flash.flood := z.keeper.flash.flood, keeper.flash.counters := z.keeper.flash.counters, eng.ops := z.eng.ops,
    meter.accounts := z.meter.accounts, meter.settling := z.meter.settling, meter.last := z.meter.last,
    meter.held := z.meter.held, meter.aggregates := z.meter.aggregates, meter.seqs := z.meter.seqs,
    domain.counter := z.domain.counter, domain.nextMsg := z.domain.nextMsg, domain.requests := z.domain.requests,
    out := z.out }) [.settleWindow]

theorem Stays.settleIfDone {V : Scope} {s₀ s : State} (h : Stays V s₀ s) (hv : Scope.settleIfDone.Within V) : Stays V s₀
    (s.settleIfDone) := by
  unfold State.settleIfDone
  split
  · exact .ite h (.settleWindow h (hv.sub 0))
  · exact h

def Scope.closeWindow : Scope := .of (fun z s => { s with
    regs := z.regs, hub := z.hub, rings := z.rings, msix := z.msix, keeper.flash.ram := z.keeper.flash.ram,
    keeper.flash.flood := z.keeper.flash.flood, keeper.flash.counters := z.keeper.flash.counters, eng.ops := z.eng.ops,
    meter.accounts := z.meter.accounts, meter.current := z.meter.current, meter.settling := z.meter.settling,
    meter.last := z.meter.last, meter.held := z.meter.held, meter.aggregates := z.meter.aggregates,
    meter.seqs := z.meter.seqs, domain.counter := z.domain.counter, domain.nextMsg := z.domain.nextMsg,
    domain.requests := z.domain.requests, out := z.out }) [.settleWindow, .settleIfDone, .meterSync]

theorem Stays.closeWindow {V : Scope} {s₀ s : State} {flags : Nat} (h : Stays V s₀ s) (hv : Scope.closeWindow.Within V) : Stays V s₀
    (s.closeWindow flags) :=
  .meterSync (.settleIfDone (.upd (.settleWindow h (hv.sub 0)) hv) (hv.sub 1)) (hv.sub 2)

def Scope.closeDue : Scope := .of (fun z s => { s with
    regs := z.regs, hub := z.hub, rings := z.rings, msix := z.msix, keeper.flash.ram := z.keeper.flash.ram,
    keeper.flash.flood := z.keeper.flash.flood, keeper.flash.counters := z.keeper.flash.counters, eng.ops := z.eng.ops,
    meter.accounts := z.meter.accounts, meter.current := z.meter.current, meter.settling := z.meter.settling,
    meter.last := z.meter.last, meter.held := z.meter.held, meter.aggregates := z.meter.aggregates,
    meter.seqs := z.meter.seqs, domain.counter := z.domain.counter, domain.nextMsg := z.domain.nextMsg,
    domain.requests := z.domain.requests, out := z.out }) [.closeWindow]

theorem Stays.closeDue {V : Scope} {s₀ s : State} (h : Stays V s₀ s) (hv : Scope.closeDue.Within V) : Stays V s₀ (s.closeDue) :=
  .ite (.closeWindow h (hv.sub 0)) h

def Scope.recordDenial : Scope := .of (fun z s => { s with
    regs := z.regs, hub := z.hub, rings := z.rings, msix := z.msix, keeper.flash.ram := z.keeper.flash.ram,
    keeper.flash.flood := z.keeper.flash.flood, keeper.flash.counters := z.keeper.flash.counters,
    prot.alarmSecond := z.prot.alarmSecond, prot.alarmCount := z.prot.alarmCount, prot.alarmed := z.prot.alarmed,
    out := z.out }) [.reg R.PROT_LAST_DENY_PD, .reg R.PROT_LAST_DENY_STATUS, .reg R.PROT_LAST_DENY_CHECK, .reg
      R.PROT_LAST_DENY_REGION_VALID, .reg R.PROT_LAST_DENY_REGION_REGION_ID, .reg R.PROT_DENY_PROT_COUNT, .reg
      R.PROT_DENY_KEY_COUNT, .raise]

theorem Stays.recordDenial {V : Scope} {s₀ s : State} {pd : Nat} {d : Denial} (h : Stays V s₀ s) (hv : Scope.recordDenial.Within V)
    : Stays V s₀ (s.recordDenial pd d) := by
  unfold State.recordDenial
  refine .ite h ?_
  refine .ite ?_ ?_
  · refine .bump ?_ (hv.sub 5)
    split
    · exact .wr (.wr (.wr (.wr (.wr h (hv.sub 0)) (hv.sub 1)) (hv.sub 2)) (hv.sub 3)) (hv.sub 4)
    · exact .wr (.wr (.wr (.wr (.wr h (hv.sub 0)) (hv.sub 1)) (hv.sub 2)) (hv.sub 3)) (hv.sub 4)
  · refine .ite ?_ ?_
    · refine .when ?_ (fun h => .raise h (hv.sub 7))
      refine .upd ?_ hv
      refine .bump ?_ (hv.sub 6)
      split
      · exact .wr (.wr (.wr (.wr (.wr h (hv.sub 0)) (hv.sub 1)) (hv.sub 2)) (hv.sub 3)) (hv.sub 4)
      · exact .wr (.wr (.wr (.wr (.wr h (hv.sub 0)) (hv.sub 1)) (hv.sub 2)) (hv.sub 3)) (hv.sub 4)
    · split
      · exact .wr (.wr (.wr (.wr (.wr h (hv.sub 0)) (hv.sub 1)) (hv.sub 2)) (hv.sub 3)) (hv.sub 4)
      · exact .wr (.wr (.wr (.wr (.wr h (hv.sub 0)) (hv.sub 1)) (hv.sub 2)) (hv.sub 3)) (hv.sub 4)

def Scope.chargeClamps : Scope := .of (fun z s => { s with meter.current := z.meter.current, meter.settling := z.meter.settling })
  [.chargeIn]

theorem Stays.chargeClamps {V : Scope} {s₀ s : State} {window : Nat} {account : Nat} {k : Nat} (h : Stays V s₀ s) (hv :
    Scope.chargeClamps.Within V) : Stays V s₀ (s.chargeClamps window account k) :=
  .chargeIn h (hv.sub 0)

def Scope.charge : Scope := .of (fun z s => { s with meter.current := z.meter.current, meter.settling := z.meter.settling })
  [.chargeIn]

theorem Stays.charge {V : Scope} {s₀ s : State} {account : Nat} {i : Nat} {n : Nat} (h : Stays V s₀ s) (hv : Scope.charge.Within V)
    : Stays V s₀ (s.charge account i n) :=
  .chargeIn h (hv.sub 0)

def Scope.opsAdded : Scope := .of (fun z s => { s with
    eng.ops := z.eng.ops, eng.nextOp := z.eng.nextOp }) []

/-- The list of operations and the next number, whatever they become. -/
theorem Stays.opsAdded {V : Scope} {s₀ s : State} {ops : List Op} {next : Nat} (h : Stays V s₀ s) (hv : Scope.opsAdded.Within V) :
    Stays V s₀ { s with eng.ops := ops, eng.nextOp := next } :=
  .upd h hv

def Scope.unitsAsked : Scope := .of (fun z s => { s with
    start.units := z.start.units }) []

/-- The list of units to restore, whatever it becomes. -/
theorem Stays.unitsAsked {V : Scope} {s₀ s : State} {units : List Nat} (h : Stays V s₀ s) (hv : Scope.unitsAsked.Within V) :
    Stays V s₀ { s with start.units := units } :=
  .upd h hv

def Scope.admitRequest : Scope := .of (fun z s => { s with
    regs := z.regs, hub := z.hub, rings := z.rings, msix := z.msix, keeper.flash.ram := z.keeper.flash.ram,
    keeper.flash.flood := z.keeper.flash.flood, keeper.flash.counters := z.keeper.flash.counters, start.units := z.start.units,
    prot.alarmSecond := z.prot.alarmSecond, prot.alarmCount := z.prot.alarmCount, prot.alarmed := z.prot.alarmed,
    eng.ops := z.eng.ops, eng.nextOp := z.eng.nextOp, eng.waiting := z.eng.waiting, eng.gather := z.eng.gather,
    eng.nextEntry := z.eng.nextEntry, near.ways := z.near.ways, near.lru := z.near.lru, near.victims := z.near.victims,
    near.misses := z.near.misses, dur.dirty := z.dur.dirty, dur.peaks := z.dur.peaks, dur.below := z.dur.below,
    dur.map := z.dur.map, dur.throttleFrom := z.dur.throttleFrom, twin.sent := z.twin.sent, twin.unacked := z.twin.unacked,
    twin.cut := z.twin.cut, twin.frame := z.twin.frame, twin.frameAt := z.twin.frameAt, twin.txSeq := z.twin.txSeq,
    twin.replayBuf := z.twin.replayBuf, twin.credit := z.twin.credit, twin.diverged := z.twin.diverged,
    twin.assayOpen := z.twin.assayOpen, twin.assayMine := z.twin.assayMine, twin.recent := z.twin.recent,
    shelf.tiles := z.shelf.tiles, meter.accounts := z.meter.accounts, meter.current := z.meter.current,
    meter.settling := z.meter.settling, meter.last := z.meter.last, meter.held := z.meter.held,
    meter.aggregates := z.meter.aggregates, meter.seqs := z.meter.seqs, mem.dram := z.mem.dram, mem.dramPoison := z.mem.dramPoison,
    domain.counter := z.domain.counter, domain.nextMsg := z.domain.nextMsg, domain.requests := z.domain.requests, out := z.out,
    free := z.free }) [.closeDue, .reg R.CIPHER_LIMIT_DENIALS, .raise, .recordDenial, .chargeIn, .chargeClamps, .charge,
    .reg R.DUR_DEMAND, .advanceOp, .opsAdded, .unitsAsked]

theorem Stays.admitRequest {V : Scope} {s₀ s : State} {q : Request} {full : Bool} (h : Stays V s₀ s) (hv : Scope.admitRequest.Within V) :
    Stays V s₀ (s.admitRequest q full) := by
  unfold State.admitRequest
  split
  · exact .upd h hv
  · refine .advanceOp ?_ (hv.sub 8)
    refine .unless ?_ (fun h => .unitsAsked (.bump h (hv.sub 7)) (hv.sub 10))
    refine .iteOn ?_ (fun h => .charge h (hv.sub 6)) (fun h => .chargeIn h (hv.sub 4))
    refine .unless ?_ (fun h => .chargeClamps h (hv.sub 5))
    refine .when ?_ (fun h => .chargeIn h (hv.sub 4))
    split
    · exact .iteOn (.opsAdded (.closeDue h (hv.sub 0)) (hv.sub 9)) (fun h => .raise (.bump h (hv.sub 1)) (hv.sub 2))
        (fun h => .recordDenial h (hv.sub 3))
    · exact .opsAdded (.closeDue h (hv.sub 0)) (hv.sub 9)

def Scope.tryAdmit : Scope := .of (fun z s => { s with
    regs := z.regs, hub := z.hub, rings := z.rings, msix := z.msix, keeper.flash.ram := z.keeper.flash.ram,
    keeper.flash.flood := z.keeper.flash.flood, keeper.flash.counters := z.keeper.flash.counters,
    start.units := z.start.units, prot.alarmSecond := z.prot.alarmSecond, prot.alarmCount := z.prot.alarmCount,
    prot.alarmed := z.prot.alarmed, eng := z.eng, near.ways := z.near.ways, near.lru := z.near.lru,
    near.victims := z.near.victims, near.misses := z.near.misses, dur.dirty := z.dur.dirty, dur.peaks := z.dur.peaks,
    dur.below := z.dur.below, dur.map := z.dur.map, dur.throttleFrom := z.dur.throttleFrom, twin.sent := z.twin.sent,
    twin.unacked := z.twin.unacked, twin.cut := z.twin.cut, twin.frame := z.twin.frame, twin.frameAt := z.twin.frameAt,
    twin.txSeq := z.twin.txSeq, twin.replayBuf := z.twin.replayBuf, twin.credit := z.twin.credit,
    twin.diverged := z.twin.diverged, twin.assayOpen := z.twin.assayOpen, twin.assayMine := z.twin.assayMine,
    twin.recent := z.twin.recent, shelf.tiles := z.shelf.tiles, meter.accounts := z.meter.accounts,
    meter.current := z.meter.current, meter.settling := z.meter.settling, meter.last := z.meter.last,
    meter.held := z.meter.held, meter.aggregates := z.meter.aggregates, meter.shapers := z.meter.shapers,
    meter.seqs := z.meter.seqs, mem.dram := z.mem.dram, mem.dramPoison := z.mem.dramPoison,
    domain.counter := z.domain.counter, domain.nextMsg := z.domain.nextMsg, domain.requests := z.domain.requests,
    out := z.out, free := z.free }) [.shaperTake, .admitRequest]

theorem Stays.tryAdmit {V : Scope} {s₀ s : State} {q : Request} {shaped : Bool} (h : Stays V s₀ s) (hv : Scope.tryAdmit.Within V) :
    Stays V s₀ (s.tryAdmit q shaped) :=
  .ite (.upd h hv) (.ite (.upd (.ite h (.shaperTake h (hv.sub 0))) hv) (.ite (.upd (.ite h (.shaperTake h (hv.sub 0))) hv) (.ite (.upd
    (.ite h (.shaperTake h (hv.sub 0))) hv) (.iteOn (.ite h (.shaperTake h (hv.sub 0))) (fun h => .upd h hv) (fun h => .admitRequest
    h (hv.sub 1))))))

def Scope.dropWaiter : Scope := .of (fun z s => { s with eng.waiting := z.eng.waiting }) []

theorem Stays.dropWaiter {V : Scope} {s₀ s : State} {w : Waiter} (h : Stays V s₀ s) (hv : Scope.dropWaiter.Within V) : Stays V s₀
    (s.dropWaiter w) :=
  .upd h hv

def Scope.moveWaiters : Scope := .of (fun z s => { s with
    regs := z.regs, hub := z.hub, rings := z.rings, msix := z.msix, keeper.flash.ram := z.keeper.flash.ram,
    keeper.flash.flood := z.keeper.flash.flood, keeper.flash.counters := z.keeper.flash.counters,
    start.units := z.start.units, prot.alarmSecond := z.prot.alarmSecond, prot.alarmCount := z.prot.alarmCount,
    prot.alarmed := z.prot.alarmed, eng := z.eng, near.ways := z.near.ways, near.lru := z.near.lru,
    near.victims := z.near.victims, near.misses := z.near.misses, dur.dirty := z.dur.dirty, dur.peaks := z.dur.peaks,
    dur.below := z.dur.below, dur.map := z.dur.map, dur.throttleFrom := z.dur.throttleFrom, twin.sent := z.twin.sent,
    twin.unacked := z.twin.unacked, twin.cut := z.twin.cut, twin.frame := z.twin.frame, twin.frameAt := z.twin.frameAt,
    twin.txSeq := z.twin.txSeq, twin.replayBuf := z.twin.replayBuf, twin.credit := z.twin.credit,
    twin.diverged := z.twin.diverged, twin.assayOpen := z.twin.assayOpen, twin.assayMine := z.twin.assayMine,
    twin.recent := z.twin.recent, shelf.tiles := z.shelf.tiles, meter.accounts := z.meter.accounts,
    meter.current := z.meter.current, meter.settling := z.meter.settling, meter.last := z.meter.last,
    meter.held := z.meter.held, meter.aggregates := z.meter.aggregates, meter.shapers := z.meter.shapers,
    meter.seqs := z.meter.seqs, mem.dram := z.mem.dram, mem.dramPoison := z.mem.dramPoison,
    domain.counter := z.domain.counter, domain.nextMsg := z.domain.nextMsg, domain.requests := z.domain.requests,
    out := z.out, free := z.free }) [.dropWaiter, .tryAdmit]

theorem Stays.moveWaiters {V : Scope} {s₀ s : State} (h : Stays V s₀ s) (hv : Scope.moveWaiters.Within V) : Stays V s₀
    (s.moveWaiters) :=
  .ite h (.foldl (fun _ _ h => .ite (.tryAdmit (.dropWaiter h (hv.sub 0)) (hv.sub 1)) h) h)

def Scope.applyRespAck : Scope := .of (fun z s => { s with
    regs := z.regs, hub := z.hub, rings := z.rings, msix := z.msix, keeper.flash.ram := z.keeper.flash.ram,
    keeper.flash.flood := z.keeper.flash.flood, keeper.flash.counters := z.keeper.flash.counters,
    start.units := z.start.units, prot.alarmSecond := z.prot.alarmSecond, prot.alarmCount := z.prot.alarmCount,
    prot.alarmed := z.prot.alarmed, eng := z.eng, near.ways := z.near.ways, near.lru := z.near.lru,
    near.victims := z.near.victims, near.misses := z.near.misses, dur.dirty := z.dur.dirty, dur.peaks := z.dur.peaks,
    dur.below := z.dur.below, dur.map := z.dur.map, dur.throttleFrom := z.dur.throttleFrom, cerga.streams := z.cerga.streams,
    twin.sent := z.twin.sent, twin.unacked := z.twin.unacked, twin.cut := z.twin.cut, twin.frame := z.twin.frame,
    twin.frameAt := z.twin.frameAt, twin.txSeq := z.twin.txSeq, twin.replayBuf := z.twin.replayBuf,
    twin.credit := z.twin.credit, twin.diverged := z.twin.diverged, twin.assayOpen := z.twin.assayOpen,
    twin.assayMine := z.twin.assayMine, twin.recent := z.twin.recent, shelf.tiles := z.shelf.tiles,
    meter.accounts := z.meter.accounts, meter.current := z.meter.current, meter.settling := z.meter.settling,
    meter.last := z.meter.last, meter.held := z.meter.held, meter.aggregates := z.meter.aggregates,
    meter.shapers := z.meter.shapers, meter.seqs := z.meter.seqs, mem.dram := z.mem.dram, mem.dramPoison := z.mem.dramPoison,
    domain.counter := z.domain.counter, domain.nextMsg := z.domain.nextMsg, domain.requests := z.domain.requests,
    out := z.out, free := z.free }) [.setStream, .carryStream, .moveWaiters]

theorem Stays.applyRespAck {V : Scope} {s₀ s : State} {i : Nat} {v : Nat} (h : Stays V s₀ s) (hv : Scope.applyRespAck.Within V) :
    Stays V s₀ (s.applyRespAck i v) :=
  .ite h (.moveWaiters (.carryStream (.upd (.setStream h (hv.sub 0)) hv) (hv.sub 1)) (hv.sub 2))

def Scope.countTx : Scope := .of (fun z s => { s with regs := z.regs }) [.reg R.PORT_TX_FRAMES]

theorem Stays.countTx {V : Scope} {s₀ s : State} {p : Nat} (h : Stays V s₀ s) (hv : Scope.countTx.Within V) : Stays V s₀ (s.countTx
    p) :=
  .wrN h (hv.sub 0)

def Scope.cergaSendAs : Scope := .of (fun z s => { s with
    regs := z.regs, cerga.streams := z.cerga.streams, meter.current := z.meter.current, meter.settling := z.meter.settling,
    out := z.out }) [.send, .countTx, .setStream, .chargeIn]

theorem Stays.cergaSendAs {V : Scope} {s₀ s : State} {i : Nat} {epoch : Nat} {window : Nat} {opcode : Nat} {seq : Nat} {status :
    Nat} {credit : Nat} {info : Nat} {last : Bool} {payload : List Byte} (h : Stays V s₀ s) (hv : Scope.cergaSendAs.Within V) :
    Stays V s₀ (s.cergaSendAs i epoch window opcode seq status credit info last payload) :=
  .chargeIn (.setStream (.countTx (.send h (hv.sub 0)) (hv.sub 1)) (hv.sub 2)) (hv.sub 3)

def Scope.refuseAs : Scope := .of (fun z s => { s with
    regs := z.regs, cerga.streams := z.cerga.streams, meter.current := z.meter.current, meter.settling := z.meter.settling,
    out := z.out }) [.cergaSendAs]

theorem Stays.refuseAs {V : Scope} {s₀ s : State} {i : Nat} {opcode : Nat} {p : CergaPacket} {status : Nat} (h : Stays V s₀ s) (hv :
    Scope.refuseAs.Within V) : Stays V s₀ (s.refuseAs i opcode p status) :=
  .cergaSendAs h (hv.sub 0)

def Scope.abortedReset : Scope := .of (fun z s => { s with
    regs := z.regs, cerga.streams := z.cerga.streams, meter.current := z.meter.current, meter.settling := z.meter.settling,
    out := z.out }) [.refuseAs]

theorem Stays.abortedReset {V : Scope} {s₀ s : State} {i : Nat} {opcode : Nat} {p : CergaPacket} (h : Stays V s₀ s) (hv :
    Scope.abortedReset.Within V) : Stays V s₀ (s.abortedReset i opcode p) :=
  .refuseAs h (hv.sub 0)

def Scope.cergaNakAs : Scope := .of (fun z s => { s with
    regs := z.regs, cerga.streams := z.cerga.streams, meter.current := z.meter.current, meter.settling := z.meter.settling,
    out := z.out }) [.cergaSendAs]

theorem Stays.cergaNakAs {V : Scope} {s₀ s : State} {i : Nat} {epoch : Nat} {seq : Nat} {reason : Nat} (h : Stays V s₀ s) (hv :
    Scope.cergaNakAs.Within V) : Stays V s₀ (s.cergaNakAs i epoch seq reason) :=
  .cergaSendAs h (hv.sub 0)

def Scope.streamReset : Scope := .of (fun z s => { s with
    regs := z.regs, cerga.streams := z.cerga.streams, meter.current := z.meter.current, meter.settling := z.meter.settling,
    out := z.out }) [.cergaNakAs, .reg R.CERGA_STREAM_RESETS]

theorem Stays.streamReset {V : Scope} {s₀ s : State} {i : Nat} {p : CergaPacket} (h : Stays V s₀ s) (hv : Scope.streamReset.Within
    V) : Stays V s₀ (s.streamReset i p) :=
  .bump (.cergaNakAs h (hv.sub 0)) (hv.sub 1)

def Scope.cergaNak : Scope := .of (fun z s => { s with
    regs := z.regs, cerga.streams := z.cerga.streams, meter.current := z.meter.current, meter.settling := z.meter.settling,
    out := z.out }) [.cergaNakAs]

theorem Stays.cergaNak {V : Scope} {s₀ s : State} {i : Nat} {seq : Nat} {reason : Nat} (h : Stays V s₀ s) (hv :
    Scope.cergaNak.Within V) : Stays V s₀ (s.cergaNak i seq reason) :=
  .cergaNakAs h (hv.sub 0)

def Scope.cergaSend : Scope := .of (fun z s => { s with
    regs := z.regs, cerga.streams := z.cerga.streams, meter.current := z.meter.current, meter.settling := z.meter.settling,
    out := z.out }) [.cergaSendAs]

theorem Stays.cergaSend {V : Scope} {s₀ s : State} {i : Nat} {window : Nat} {opcode : Nat} {seq : Nat} {status : Nat} {credit : Nat}
    {info : Nat} {last : Bool} {payload : List Byte} (h : Stays V s₀ s) (hv : Scope.cergaSend.Within V) : Stays V s₀ (s.cergaSend i
    window opcode seq status credit info last payload) :=
  .cergaSendAs h (hv.sub 0)

def Scope.cergaAck : Scope := .of (fun z s => { s with
    regs := z.regs, cerga.streams := z.cerga.streams, meter.current := z.meter.current, meter.settling := z.meter.settling,
    out := z.out }) [.cergaSend, .updStream]

theorem Stays.cergaAck {V : Scope} {s₀ s : State} {i : Nat} (h : Stays V s₀ s) (hv : Scope.cergaAck.Within V) : Stays V s₀
    (s.cergaAck i) := by
  unfold State.cergaAck
  exact .updStream (.cergaSend h (hv.sub 0)) (hv.sub 1)

def Scope.ackNew : Scope := .of (fun z s => { s with
    regs := z.regs, cerga.streams := z.cerga.streams, meter.current := z.meter.current, meter.settling := z.meter.settling,
    out := z.out }) [.updStream, .cergaAck]

theorem Stays.ackNew {V : Scope} {s₀ s : State} {i : Nat} {d : Nat} (h : Stays V s₀ s) (hv : Scope.ackNew.Within V) : Stays V s₀
    (s.ackNew i d) :=
  .when (.updStream h (hv.sub 0)) (fun h => .cergaAck h (hv.sub 1))

def Scope.submit : Scope := .of (fun z s => { s with
    regs := z.regs, hub := z.hub, rings := z.rings, msix := z.msix, keeper.flash.ram := z.keeper.flash.ram,
    keeper.flash.flood := z.keeper.flash.flood, keeper.flash.counters := z.keeper.flash.counters,
    start.units := z.start.units, prot.alarmSecond := z.prot.alarmSecond, prot.alarmCount := z.prot.alarmCount,
    prot.alarmed := z.prot.alarmed, eng := z.eng, near.ways := z.near.ways, near.lru := z.near.lru,
    near.victims := z.near.victims, near.misses := z.near.misses, dur.dirty := z.dur.dirty, dur.peaks := z.dur.peaks,
    dur.below := z.dur.below, dur.map := z.dur.map, dur.throttleFrom := z.dur.throttleFrom, twin.sent := z.twin.sent,
    twin.unacked := z.twin.unacked, twin.cut := z.twin.cut, twin.frame := z.twin.frame, twin.frameAt := z.twin.frameAt,
    twin.txSeq := z.twin.txSeq, twin.replayBuf := z.twin.replayBuf, twin.credit := z.twin.credit,
    twin.diverged := z.twin.diverged, twin.assayOpen := z.twin.assayOpen, twin.assayMine := z.twin.assayMine,
    twin.recent := z.twin.recent, shelf.tiles := z.shelf.tiles, meter.accounts := z.meter.accounts,
    meter.current := z.meter.current, meter.settling := z.meter.settling, meter.last := z.meter.last,
    meter.held := z.meter.held, meter.aggregates := z.meter.aggregates, meter.shapers := z.meter.shapers,
    meter.seqs := z.meter.seqs, mem.dram := z.mem.dram, mem.dramPoison := z.mem.dramPoison,
    domain.counter := z.domain.counter, domain.nextMsg := z.domain.nextMsg, domain.requests := z.domain.requests,
    out := z.out, free := z.free }) [.tryAdmit]

theorem Stays.submit {V : Scope} {s₀ s : State} {q : Request} (h : Stays V s₀ s) (hv : Scope.submit.Within V) : Stays V s₀ (s.submit
    q) :=
  .ite (.upd h hv) (.tryAdmit h (hv.sub 0))

def Scope.enterPiece : Scope := .of (fun z s => { s with
    regs := z.regs, hub := z.hub, rings := z.rings, msix := z.msix, keeper.flash.ram := z.keeper.flash.ram,
    keeper.flash.flood := z.keeper.flash.flood, keeper.flash.counters := z.keeper.flash.counters, eng.ops := z.eng.ops,
    eng.gather := z.eng.gather, eng.nextEntry := z.eng.nextEntry, near.ways := z.near.ways, near.lru := z.near.lru,
    near.victims := z.near.victims, near.misses := z.near.misses, dur.dirty := z.dur.dirty, dur.peaks := z.dur.peaks,
    dur.below := z.dur.below, dur.map := z.dur.map, dur.throttleFrom := z.dur.throttleFrom, twin.sent := z.twin.sent,
    twin.unacked := z.twin.unacked, twin.cut := z.twin.cut, twin.frame := z.twin.frame, twin.frameAt := z.twin.frameAt,
    twin.txSeq := z.twin.txSeq, twin.replayBuf := z.twin.replayBuf, twin.credit := z.twin.credit,
    twin.diverged := z.twin.diverged, twin.assayOpen := z.twin.assayOpen, twin.assayMine := z.twin.assayMine,
    twin.recent := z.twin.recent, shelf.tiles := z.shelf.tiles, mem.dram := z.mem.dram, mem.dramPoison := z.mem.dramPoison,
    domain.counter := z.domain.counter, domain.nextMsg := z.domain.nextMsg, domain.requests := z.domain.requests,
    out := z.out, free := z.free }) [.updOp, .advanceAll]

theorem Stays.enterPiece {V : Scope} {s₀ s : State} {o : Op} {off : Nat} {d : List Byte} (h : Stays V s₀ s) (hv :
    Scope.enterPiece.Within V) : Stays V s₀ (s.enterPiece o off d) :=
  .advanceAll (.updOp h (hv.sub 0)) (hv.sub 1)

def Scope.placePacket : Scope := .of (fun z s => { s with
    regs := z.regs, hub := z.hub, rings := z.rings, msix := z.msix, keeper.flash.ram := z.keeper.flash.ram,
    keeper.flash.flood := z.keeper.flash.flood, keeper.flash.counters := z.keeper.flash.counters, eng.ops := z.eng.ops,
    eng.gather := z.eng.gather, eng.nextEntry := z.eng.nextEntry, near.ways := z.near.ways, near.lru := z.near.lru,
    near.victims := z.near.victims, near.misses := z.near.misses, dur.dirty := z.dur.dirty, dur.peaks := z.dur.peaks,
    dur.below := z.dur.below, dur.map := z.dur.map, dur.throttleFrom := z.dur.throttleFrom, twin.sent := z.twin.sent,
    twin.unacked := z.twin.unacked, twin.cut := z.twin.cut, twin.frame := z.twin.frame, twin.frameAt := z.twin.frameAt,
    twin.txSeq := z.twin.txSeq, twin.replayBuf := z.twin.replayBuf, twin.credit := z.twin.credit,
    twin.diverged := z.twin.diverged, twin.assayOpen := z.twin.assayOpen, twin.assayMine := z.twin.assayMine,
    twin.recent := z.twin.recent, shelf.tiles := z.shelf.tiles, meter.current := z.meter.current,
    meter.settling := z.meter.settling, mem.dram := z.mem.dram, mem.dramPoison := z.mem.dramPoison,
    domain.counter := z.domain.counter, domain.nextMsg := z.domain.nextMsg, domain.requests := z.domain.requests,
    out := z.out, free := z.free }) [.chargeIngress, .enterPiece]

theorem Stays.placePacket {V : Scope} {s₀ s : State} {i : Nat} {p : CergaPacket} (h : Stays V s₀ s) (hv : Scope.placePacket.Within
    V) : Stays V s₀ (s.placePacket i p) := by
  unfold State.placePacket
  split
  · exact .chargeIngress h (hv.sub 0)
  · exact .unless (.chargeIngress h (hv.sub 0)) (fun h => .enterPiece h (hv.sub 1))

def Scope.processPacket : Scope := .of (fun z s => { s with
    regs := z.regs, hub := z.hub, rings := z.rings, msix := z.msix, keeper.flash.ram := z.keeper.flash.ram,
    keeper.flash.flood := z.keeper.flash.flood, keeper.flash.counters := z.keeper.flash.counters,
    start.units := z.start.units, prot.alarmSecond := z.prot.alarmSecond, prot.alarmCount := z.prot.alarmCount,
    prot.alarmed := z.prot.alarmed, eng := z.eng, near.ways := z.near.ways, near.lru := z.near.lru,
    near.victims := z.near.victims, near.misses := z.near.misses, dur.dirty := z.dur.dirty, dur.peaks := z.dur.peaks,
    dur.below := z.dur.below, dur.map := z.dur.map, dur.throttleFrom := z.dur.throttleFrom, twin.sent := z.twin.sent,
    twin.unacked := z.twin.unacked, twin.cut := z.twin.cut, twin.frame := z.twin.frame, twin.frameAt := z.twin.frameAt,
    twin.txSeq := z.twin.txSeq, twin.replayBuf := z.twin.replayBuf, twin.credit := z.twin.credit,
    twin.diverged := z.twin.diverged, twin.assayOpen := z.twin.assayOpen, twin.assayMine := z.twin.assayMine,
    twin.recent := z.twin.recent, shelf.tiles := z.shelf.tiles, meter.accounts := z.meter.accounts,
    meter.current := z.meter.current, meter.settling := z.meter.settling, meter.last := z.meter.last,
    meter.held := z.meter.held, meter.aggregates := z.meter.aggregates, meter.shapers := z.meter.shapers,
    meter.seqs := z.meter.seqs, mem.dram := z.mem.dram, mem.dramPoison := z.mem.dramPoison,
    domain.counter := z.domain.counter, domain.nextMsg := z.domain.nextMsg, domain.requests := z.domain.requests,
    out := z.out, free := z.free }) [.submit, .placePacket]

theorem Stays.processPacket {V : Scope} {s₀ s : State} {i : Nat} {opcode : Nat} {p : CergaPacket} (h : Stays V s₀ s) (hv :
    Scope.processPacket.Within V) : Stays V s₀ (s.processPacket i opcode p) :=
  .ite (.submit h (hv.sub 0)) (.placePacket h (hv.sub 1))

def Scope.newPacket : Scope := .of (fun z s => { s with
    regs := z.regs, hub := z.hub, rings := z.rings, msix := z.msix, keeper.flash.ram := z.keeper.flash.ram,
    keeper.flash.flood := z.keeper.flash.flood, keeper.flash.counters := z.keeper.flash.counters,
    start.units := z.start.units, prot.alarmSecond := z.prot.alarmSecond, prot.alarmCount := z.prot.alarmCount,
    prot.alarmed := z.prot.alarmed, eng := z.eng, near.ways := z.near.ways, near.lru := z.near.lru,
    near.victims := z.near.victims, near.misses := z.near.misses, dur.dirty := z.dur.dirty, dur.peaks := z.dur.peaks,
    dur.below := z.dur.below, dur.map := z.dur.map, dur.throttleFrom := z.dur.throttleFrom, cerga.streams := z.cerga.streams,
    cerga.held := z.cerga.held, twin.sent := z.twin.sent, twin.unacked := z.twin.unacked, twin.cut := z.twin.cut,
    twin.frame := z.twin.frame, twin.frameAt := z.twin.frameAt, twin.txSeq := z.twin.txSeq,
    twin.replayBuf := z.twin.replayBuf, twin.credit := z.twin.credit, twin.diverged := z.twin.diverged,
    twin.assayOpen := z.twin.assayOpen, twin.assayMine := z.twin.assayMine, twin.recent := z.twin.recent,
    shelf.tiles := z.shelf.tiles, meter.accounts := z.meter.accounts, meter.current := z.meter.current,
    meter.settling := z.meter.settling, meter.last := z.meter.last, meter.held := z.meter.held,
    meter.aggregates := z.meter.aggregates, meter.shapers := z.meter.shapers, meter.seqs := z.meter.seqs,
    mem.dram := z.mem.dram, mem.dramPoison := z.mem.dramPoison, domain.counter := z.domain.counter,
    domain.nextMsg := z.domain.nextMsg, domain.requests := z.domain.requests, out := z.out, free := z.free }) [.reg
      R.CERGA_DROP_MALFORMED, .cergaNak, .chargeIngress, .raise, .updStream, .ackNew, .processPacket]

theorem Stays.newPacket {V : Scope} {s₀ s : State} {i : Nat} {opcode : Nat} {p : CergaPacket} (h : Stays V s₀ s) (hv :
    Scope.newPacket.Within V) : Stays V s₀ (s.newPacket i opcode p) :=
  .ite (.chargeIngress (.cergaNak (.bump h (hv.sub 0)) (hv.sub 1)) (hv.sub 2)) (.ite (.ite (.chargeIngress (.raise (.cergaNak h
    (hv.sub 1)) (hv.sub 3)) (hv.sub 2)) (.ackNew (.upd (.updStream h (hv.sub 4)) hv) (hv.sub 5))) (.ackNew (.processPacket
    (.updStream h (hv.sub 4)) (hv.sub 6)) (hv.sub 5)))

def Scope.cergaRespond : Scope := .of (fun z s => { s with
    regs := z.regs, cerga.streams := z.cerga.streams, meter.current := z.meter.current, meter.settling := z.meter.settling,
    out := z.out }) [.cergaSend]

theorem Stays.cergaRespond {V : Scope} {s₀ s : State} {i : Nat} {window : Nat} {seq : Nat} {opcode : Nat} {status : Nat} {info :
    Nat} {last : Bool} {payload : List Byte} (h : Stays V s₀ s) (hv : Scope.cergaRespond.Within V) : Stays V s₀ (s.cergaRespond i
    window seq opcode status info last payload) :=
  .cergaSend h (hv.sub 0)

def Scope.duplicateFirst : Scope := .of (fun z s => { s with
    regs := z.regs, hub := z.hub, rings := z.rings, msix := z.msix, keeper.flash.ram := z.keeper.flash.ram,
    keeper.flash.flood := z.keeper.flash.flood, keeper.flash.counters := z.keeper.flash.counters,
    start.units := z.start.units, prot.alarmSecond := z.prot.alarmSecond, prot.alarmCount := z.prot.alarmCount,
    prot.alarmed := z.prot.alarmed, eng := z.eng, near.ways := z.near.ways, near.lru := z.near.lru,
    near.victims := z.near.victims, near.misses := z.near.misses, dur.dirty := z.dur.dirty, dur.peaks := z.dur.peaks,
    dur.below := z.dur.below, dur.map := z.dur.map, dur.throttleFrom := z.dur.throttleFrom, cerga.streams := z.cerga.streams,
    twin.sent := z.twin.sent, twin.unacked := z.twin.unacked, twin.cut := z.twin.cut, twin.frame := z.twin.frame,
    twin.frameAt := z.twin.frameAt, twin.txSeq := z.twin.txSeq, twin.replayBuf := z.twin.replayBuf,
    twin.credit := z.twin.credit, twin.diverged := z.twin.diverged, twin.assayOpen := z.twin.assayOpen,
    twin.assayMine := z.twin.assayMine, twin.recent := z.twin.recent, shelf.tiles := z.shelf.tiles,
    meter.accounts := z.meter.accounts, meter.current := z.meter.current, meter.settling := z.meter.settling,
    meter.last := z.meter.last, meter.held := z.meter.held, meter.aggregates := z.meter.aggregates,
    meter.shapers := z.meter.shapers, meter.seqs := z.meter.seqs, mem.dram := z.mem.dram, mem.dramPoison := z.mem.dramPoison,
    domain.counter := z.domain.counter, domain.nextMsg := z.domain.nextMsg, domain.requests := z.domain.requests,
    out := z.out, free := z.free }) [.chargeIngress, .submit, .reg R.CERGA_DROP_MALFORMED, .cergaNak, .cergaRespond]

theorem Stays.duplicateFirst {V : Scope} {s₀ s : State} {i : Nat} {opcode : Nat} {p : CergaPacket} (h : Stays V s₀ s) (hv :
    Scope.duplicateFirst.Within V) : Stays V s₀ (s.duplicateFirst i opcode p) := by
  unfold State.duplicateFirst
  refine .ite (.ite (.ite (.chargeIngress h (hv.sub 0)) (.submit h (hv.sub 1))) (.chargeIngress (.cergaNak (.bump h (hv.sub 2))
    (hv.sub 3)) (hv.sub 0))) ?_
  refine .ite (.chargeIngress h (hv.sub 0)) ?_
  split
  · exact .cergaRespond (.chargeIngress h (hv.sub 0)) (hv.sub 4)
  · exact .iteOn (.chargeIngress h (hv.sub 0)) (fun h => .cergaNak h (hv.sub 3)) (fun h => .cergaRespond h (hv.sub 4))

def Scope.windowPacket : Scope := .of (fun z s => { s with
    regs := z.regs, hub := z.hub, rings := z.rings, msix := z.msix, keeper.flash.ram := z.keeper.flash.ram,
    keeper.flash.flood := z.keeper.flash.flood, keeper.flash.counters := z.keeper.flash.counters, start.units := z.start.units,
    prot.alarmSecond := z.prot.alarmSecond, prot.alarmCount := z.prot.alarmCount, prot.alarmed := z.prot.alarmed,
    eng.ops := z.eng.ops, eng.nextOp := z.eng.nextOp, eng.waiting := z.eng.waiting, eng.gather := z.eng.gather,
    eng.nextEntry := z.eng.nextEntry, near.ways := z.near.ways, near.lru := z.near.lru, near.victims := z.near.victims,
    near.misses := z.near.misses, dur.dirty := z.dur.dirty, dur.peaks := z.dur.peaks, dur.below := z.dur.below,
    dur.map := z.dur.map, dur.throttleFrom := z.dur.throttleFrom, cerga.streams := z.cerga.streams, cerga.held := z.cerga.held,
    twin.sent := z.twin.sent, twin.unacked := z.twin.unacked, twin.cut := z.twin.cut, twin.frame := z.twin.frame,
    twin.frameAt := z.twin.frameAt, twin.txSeq := z.twin.txSeq, twin.replayBuf := z.twin.replayBuf, twin.credit := z.twin.credit,
    twin.diverged := z.twin.diverged, twin.assayOpen := z.twin.assayOpen, twin.assayMine := z.twin.assayMine,
    twin.recent := z.twin.recent, shelf.tiles := z.shelf.tiles, meter.accounts := z.meter.accounts,
    meter.current := z.meter.current, meter.settling := z.meter.settling, meter.last := z.meter.last, meter.held := z.meter.held,
    meter.aggregates := z.meter.aggregates, meter.shapers := z.meter.shapers, meter.seqs := z.meter.seqs, mem.dram := z.mem.dram,
    mem.dramPoison := z.mem.dramPoison, domain.counter := z.domain.counter, domain.nextMsg := z.domain.nextMsg,
    domain.requests := z.domain.requests, out := z.out, free := z.free }) [.newPacket, .reg R.CERGA_DUPLICATES, .duplicateFirst,
    .chargeIngress, .cergaAck, .reg R.CERGA_DROP_WINDOW, .cergaNak]

theorem Stays.windowPacket {V : Scope} {s₀ s : State} {i opcode : Nat} {p : CergaPacket} (h : Stays V s₀ s)
    (hv : Scope.windowPacket.Within V) : Stays V s₀ (s.windowPacket i opcode p) := by
  generalize hf : State.windowPacket = f
  delta State.windowPacket at hf
  subst hf
  dsimp -zeta only
  generalize Stream.classify (s.stream i) p.seq = w
  cases w with
  | fresh => exact .newPacket h (hv.sub 0)
  | duplicate =>
    exact .cergaAck (.ite (.duplicateFirst (.bump h (hv.sub 1)) (hv.sub 2))
      (.chargeIngress (.bump h (hv.sub 1)) (hv.sub 3))) (hv.sub 4)
  | outside => exact .chargeIngress (.cergaNak (.bump h (hv.sub 5)) (hv.sub 6)) (hv.sub 3)

def Scope.cergaViews : Scope := .of (fun z s => { s with regs := z.regs }) [.reg R.CERGA_STATUS_OPEN_STREAMS, .reg
  R.CERGA_CACHE_CACHED]

theorem Stays.cergaViews {V : Scope} {s₀ s : State} (h : Stays V s₀ s) (hv : Scope.cergaViews.Within V) : Stays V s₀ (s.cergaViews)
    :=
  .wr (.wr h (hv.sub 0)) (hv.sub 1)

def Scope.openStream : Scope := .of (fun z s => { s with
    regs := z.regs, cerga.streams := z.cerga.streams, twin.frame := z.twin.frame, twin.frameAt := z.twin.frameAt,
    twin.txSeq := z.twin.txSeq, twin.replayBuf := z.twin.replayBuf, twin.credit := z.twin.credit, out := z.out }) [.setStream,
      .carryStream, .cergaViews]

theorem Stays.openStream {V : Scope} {s₀ s : State} {i : Nat} {p : CergaPacket} (h : Stays V s₀ s) (hv : Scope.openStream.Within V)
    : Stays V s₀ (s.openStream i p) :=
  .cergaViews (.carryStream (.setStream h (hv.sub 0)) (hv.sub 1)) (hv.sub 2)

def Scope.noneArrival : Scope := .of (fun z s => { s with
    regs := z.regs, hub := z.hub, rings := z.rings, msix := z.msix, keeper.flash.ram := z.keeper.flash.ram,
    keeper.flash.flood := z.keeper.flash.flood, keeper.flash.counters := z.keeper.flash.counters,
    start.units := z.start.units, prot.alarmSecond := z.prot.alarmSecond, prot.alarmCount := z.prot.alarmCount,
    prot.alarmed := z.prot.alarmed, eng := z.eng, near.ways := z.near.ways, near.lru := z.near.lru,
    near.victims := z.near.victims, near.misses := z.near.misses, dur.dirty := z.dur.dirty, dur.peaks := z.dur.peaks,
    dur.below := z.dur.below, dur.map := z.dur.map, dur.throttleFrom := z.dur.throttleFrom, cerga.streams := z.cerga.streams,
    cerga.held := z.cerga.held, twin.sent := z.twin.sent, twin.unacked := z.twin.unacked, twin.cut := z.twin.cut,
    twin.frame := z.twin.frame, twin.frameAt := z.twin.frameAt, twin.txSeq := z.twin.txSeq,
    twin.replayBuf := z.twin.replayBuf, twin.credit := z.twin.credit, twin.diverged := z.twin.diverged,
    twin.assayOpen := z.twin.assayOpen, twin.assayMine := z.twin.assayMine, twin.recent := z.twin.recent,
    shelf.tiles := z.shelf.tiles, meter.accounts := z.meter.accounts, meter.current := z.meter.current,
    meter.settling := z.meter.settling, meter.last := z.meter.last, meter.held := z.meter.held,
    meter.aggregates := z.meter.aggregates, meter.shapers := z.meter.shapers, meter.seqs := z.meter.seqs,
    mem.dram := z.mem.dram, mem.dramPoison := z.mem.dramPoison, domain.counter := z.domain.counter,
    domain.nextMsg := z.domain.nextMsg, domain.requests := z.domain.requests, out := z.out, free := z.free }) [.abortedReset,
      .chargeIngress, .openStream, .windowPacket, .streamReset]

theorem Stays.noneArrival {V : Scope} {s₀ s : State} {i : Nat} {opcode : Nat} {p : CergaPacket} (h : Stays V s₀ s) (hv :
    Scope.noneArrival.Within V) : Stays V s₀ (s.noneArrival i opcode p) :=
  .ite (.chargeIngress (.abortedReset h (hv.sub 0)) (hv.sub 1)) (.ite (.windowPacket (.openStream h (hv.sub 2)) (hv.sub 3))
    (.chargeIngress (.streamReset h (hv.sub 4)) (hv.sub 1)))

def Scope.dropUnadmitted : Scope := .of (fun z s => { s with
    eng.waiting := z.eng.waiting, cerga.fetching := z.cerga.fetching, cerga.held := z.cerga.held }) []

theorem Stays.dropUnadmitted {V : Scope} {s₀ s : State} {i : Nat} (h : Stays V s₀ s) (hv : Scope.dropUnadmitted.Within V) : Stays V
    s₀ (s.dropUnadmitted i) :=
  .upd h hv

def Scope.streamArrival : Scope := .of (fun z s => { s with
    regs := z.regs, hub := z.hub, rings := z.rings, msix := z.msix, keeper.flash.ram := z.keeper.flash.ram,
    keeper.flash.flood := z.keeper.flash.flood, keeper.flash.counters := z.keeper.flash.counters,
    start.units := z.start.units, prot.alarmSecond := z.prot.alarmSecond, prot.alarmCount := z.prot.alarmCount,
    prot.alarmed := z.prot.alarmed, eng := z.eng, near.ways := z.near.ways, near.lru := z.near.lru,
    near.victims := z.near.victims, near.misses := z.near.misses, dur.dirty := z.dur.dirty, dur.peaks := z.dur.peaks,
    dur.below := z.dur.below, dur.map := z.dur.map, dur.throttleFrom := z.dur.throttleFrom, cerga.streams := z.cerga.streams,
    cerga.fetching := z.cerga.fetching, cerga.held := z.cerga.held, twin.sent := z.twin.sent, twin.unacked := z.twin.unacked,
    twin.cut := z.twin.cut, twin.frame := z.twin.frame, twin.frameAt := z.twin.frameAt, twin.txSeq := z.twin.txSeq,
    twin.replayBuf := z.twin.replayBuf, twin.credit := z.twin.credit, twin.diverged := z.twin.diverged,
    twin.assayOpen := z.twin.assayOpen, twin.assayMine := z.twin.assayMine, twin.recent := z.twin.recent,
    shelf.tiles := z.shelf.tiles, meter.accounts := z.meter.accounts, meter.current := z.meter.current,
    meter.settling := z.meter.settling, meter.last := z.meter.last, meter.held := z.meter.held,
    meter.aggregates := z.meter.aggregates, meter.shapers := z.meter.shapers, meter.seqs := z.meter.seqs,
    mem.dram := z.mem.dram, mem.dramPoison := z.mem.dramPoison, domain.counter := z.domain.counter,
    domain.nextMsg := z.domain.nextMsg, domain.requests := z.domain.requests, out := z.out, free := z.free }) [.chargeIngress,
      .applyRespAck, .abortedReset, .streamReset, .noneArrival, .windowPacket, .cergaNakAs, .dropUnadmitted, .setStream,
      .cergaViews, .reg R.CERGA_DROP_WINDOW, .openStream]

theorem Stays.streamArrival {V : Scope} {s₀ s : State} {i : Nat} {opcode : Nat} {p : CergaPacket} (h : Stays V s₀ s) (hv :
    Scope.streamArrival.Within V) : Stays V s₀ (s.streamArrival i opcode p) := by
  unfold State.streamArrival
  refine .ite (.when (.chargeIngress h (hv.sub 0)) (fun h => .applyRespAck h (hv.sub 1))) ?_
  refine .ite (.ite (.chargeIngress (.abortedReset h (hv.sub 2)) (hv.sub 0)) (.chargeIngress (.streamReset h (hv.sub 3)) (hv.sub 0)))
    ?_
  split
  · exact .noneArrival h (hv.sub 4)
  · exact .ite (.windowPacket h (hv.sub 5)) (.ite (.ite (.chargeIngress (.cergaNakAs h (hv.sub 6)) (hv.sub 0)) (.cergaViews
      (.noneArrival (.setStream (.dropUnadmitted h (hv.sub 7)) (hv.sub 8)) (hv.sub 4)) (hv.sub 9))) (.chargeIngress (.bump h (hv.sub
      10)) (hv.sub 0)))
  · exact .ite (.chargeIngress (.streamReset h (hv.sub 3)) (hv.sub 0)) (.ite (.ite (.windowPacket (.openStream h (hv.sub 11)) (hv.sub
      5)) (.chargeIngress (.streamReset h (hv.sub 3)) (hv.sub 0))) (.chargeIngress (.bump h (hv.sub 10)) (hv.sub 0)))

def Scope.notActive : Scope := .of (fun z s => { s with
    regs := z.regs, cerga.streams := z.cerga.streams, meter.current := z.meter.current, meter.settling := z.meter.settling,
    out := z.out }) [.chargeIngress, .refuseAs, .charge]

theorem Stays.notActive {V : Scope} {s₀ s : State} {i : Nat} {opcode : Nat} {p : CergaPacket} (h : Stays V s₀ s) (hv :
    Scope.notActive.Within V) : Stays V s₀ (s.notActive i opcode p) :=
  .when (.chargeIngress h (hv.sub 0)) (fun h => .charge (.refuseAs h (hv.sub 1)) (hv.sub 2))

def Scope.authenticate : Scope := .of (fun z s => { s with
    regs := z.regs, hub := z.hub, rings := z.rings, msix := z.msix, keeper.flash.ram := z.keeper.flash.ram,
    keeper.flash.flood := z.keeper.flash.flood, keeper.flash.counters := z.keeper.flash.counters,
    start.units := z.start.units, prot.alarmSecond := z.prot.alarmSecond, prot.alarmCount := z.prot.alarmCount,
    prot.alarmed := z.prot.alarmed, eng := z.eng, near.ways := z.near.ways, near.lru := z.near.lru,
    near.victims := z.near.victims, near.misses := z.near.misses, dur.dirty := z.dur.dirty, dur.peaks := z.dur.peaks,
    dur.below := z.dur.below, dur.map := z.dur.map, dur.throttleFrom := z.dur.throttleFrom, cerga.streams := z.cerga.streams,
    cerga.fetching := z.cerga.fetching, cerga.held := z.cerga.held, cerga.alarmSecond := z.cerga.alarmSecond,
    cerga.alarmCount := z.cerga.alarmCount, cerga.alarmed := z.cerga.alarmed, twin.sent := z.twin.sent,
    twin.unacked := z.twin.unacked, twin.cut := z.twin.cut, twin.frame := z.twin.frame, twin.frameAt := z.twin.frameAt,
    twin.txSeq := z.twin.txSeq, twin.replayBuf := z.twin.replayBuf, twin.credit := z.twin.credit,
    twin.diverged := z.twin.diverged, twin.assayOpen := z.twin.assayOpen, twin.assayMine := z.twin.assayMine,
    twin.recent := z.twin.recent, shelf.tiles := z.shelf.tiles, meter.accounts := z.meter.accounts,
    meter.current := z.meter.current, meter.settling := z.meter.settling, meter.last := z.meter.last,
    meter.held := z.meter.held, meter.aggregates := z.meter.aggregates, meter.shapers := z.meter.shapers,
    meter.seqs := z.meter.seqs, mem.dram := z.mem.dram, mem.dramPoison := z.mem.dramPoison,
    domain.counter := z.domain.counter, domain.nextMsg := z.domain.nextMsg, domain.requests := z.domain.requests,
    out := z.out, free := z.free }) [.failTag, .updStream, .streamArrival, .notActive]

theorem Stays.authenticate {V : Scope} {s₀ s : State} {opcode : Nat} {p : CergaPacket} (h : Stays V s₀ s) (hv :
    Scope.authenticate.Within V) : Stays V s₀ (s.authenticate opcode p) := by
  unfold State.authenticate
  exact .ite (.failTag h (hv.sub 0)) (.iteOn (.updStream h (hv.sub 1)) (fun h => .streamArrival h (hv.sub 2)) (fun h => .notActive h (hv.sub
    3)))

def Scope.lookAside : Scope := .of (fun z s => { s with cerga.lookaside := z.cerga.lookaside }) []

theorem Stays.lookAside {V : Scope} {s₀ s : State} {i : Nat} (h : Stays V s₀ s) (hv : Scope.lookAside.Within V) : Stays V s₀
    (s.lookAside i) :=
  .upd h hv

def Scope.cacheContext : Scope := .of (fun z s => { s with
    regs := z.regs, cerga.cache := z.cerga.cache, cerga.lookaside := z.cerga.lookaside }) [.lookAside, .cergaViews]

theorem Stays.cacheContext {V : Scope} {s₀ s : State} {i : Nat} (h : Stays V s₀ s) (hv : Scope.cacheContext.Within V) : Stays V s₀
    (s.cacheContext i) := by
  unfold State.cacheContext
  refine .cergaViews ?_ (hv.sub 1)
  refine .lookAside ?_ (hv.sub 0)
  refine .ite (.upd h hv) ?_
  split
  · exact .upd h hv
  · exact h

def Scope.receiveCerga : Scope := .of (fun z s => { s with
    regs := z.regs, hub := z.hub, rings := z.rings, msix := z.msix, keeper.flash.ram := z.keeper.flash.ram,
    keeper.flash.flood := z.keeper.flash.flood, keeper.flash.counters := z.keeper.flash.counters,
    start.units := z.start.units, prot.alarmSecond := z.prot.alarmSecond, prot.alarmCount := z.prot.alarmCount,
    prot.alarmed := z.prot.alarmed, eng := z.eng, near.ways := z.near.ways, near.lru := z.near.lru,
    near.victims := z.near.victims, near.misses := z.near.misses, dur.dirty := z.dur.dirty, dur.peaks := z.dur.peaks,
    dur.below := z.dur.below, dur.map := z.dur.map, dur.throttleFrom := z.dur.throttleFrom, cerga.streams := z.cerga.streams,
    cerga.cache := z.cerga.cache, cerga.lookaside := z.cerga.lookaside, cerga.fetching := z.cerga.fetching,
    cerga.held := z.cerga.held, cerga.alarmSecond := z.cerga.alarmSecond, cerga.alarmCount := z.cerga.alarmCount,
    cerga.alarmed := z.cerga.alarmed, twin.sent := z.twin.sent, twin.unacked := z.twin.unacked, twin.cut := z.twin.cut,
    twin.frame := z.twin.frame, twin.frameAt := z.twin.frameAt, twin.txSeq := z.twin.txSeq,
    twin.replayBuf := z.twin.replayBuf, twin.credit := z.twin.credit, twin.diverged := z.twin.diverged,
    twin.assayOpen := z.twin.assayOpen, twin.assayMine := z.twin.assayMine, twin.recent := z.twin.recent,
    shelf.tiles := z.shelf.tiles, meter.accounts := z.meter.accounts, meter.current := z.meter.current,
    meter.settling := z.meter.settling, meter.last := z.meter.last, meter.held := z.meter.held,
    meter.aggregates := z.meter.aggregates, meter.shapers := z.meter.shapers, meter.seqs := z.meter.seqs,
    mem.dram := z.mem.dram, mem.dramPoison := z.mem.dramPoison, domain.counter := z.domain.counter,
    domain.nextMsg := z.domain.nextMsg, domain.requests := z.domain.requests, out := z.out, free := z.free }) [.reg R.CERGA_RX_PKTS,
      .reg R.CERGA_DROP_MALFORMED, .reg R.CERGA_DROP_QUEUE, .cacheContext, .authenticate, .reg R.CERGA_CTX_MISS]

theorem Stays.receiveCerga {V : Scope} {s₀ s : State} {opcode : Nat} {p : CergaPacket} (h : Stays V s₀ s) (hv :
    Scope.receiveCerga.Within V) : Stays V s₀ (s.receiveCerga opcode p) := by
  unfold State.receiveCerga
  dsimp only
  refine .ite h ?_
  refine .ite (.bump (.bump h (hv.sub 0)) (hv.sub 1)) ?_
  split
  · exact .bump (.bump h (hv.sub 0)) (hv.sub 2)
  · exact .ite (.bump (.bump h (hv.sub 0)) (hv.sub 2)) (.ite (.upd (.bump h (hv.sub 0)) hv) (.iteOn (.bump h (hv.sub 0)) (fun h =>
      .authenticate (.cacheContext h (hv.sub 3)) (hv.sub 4)) (fun h => .bump (.upd h hv) (hv.sub 5))))

def Scope.roceViews : Scope := .of (fun z s => { s with regs := z.regs }) [.reg R.ROCE_CACHE_CACHED, .reg R.ROCE_PARKED_COUNT]

theorem Stays.roceViews {V : Scope} {s₀ s : State} (h : Stays V s₀ s) (hv : Scope.roceViews.Within V) : Stays V s₀ (s.roceViews) :=
  .wr (.wr h (hv.sub 0)) (hv.sub 1)

def Scope.park : Scope := .of (fun z s => { s with
    regs := z.regs, hub := z.hub, rings := z.rings, msix := z.msix, keeper.flash.ram := z.keeper.flash.ram,
    keeper.flash.flood := z.keeper.flash.flood, keeper.flash.counters := z.keeper.flash.counters,
    roce.parked := z.roce.parked, out := z.out }) [.reg R.ROCE_PARK_DROPS, .raise, .roceViews]

theorem Stays.park {V : Scope} {s₀ s : State} {q : Nat} {p : RocePacket} (h : Stays V s₀ s) (hv : Scope.park.Within V) : Stays V s₀
    (s.park q p) :=
  .ite (.raise (.bump h (hv.sub 0)) (hv.sub 1)) (.roceViews (.upd h hv) (hv.sub 2))

def Scope.chargeRoce : Scope := .of (fun z s => { s with meter.current := z.meter.current, meter.settling := z.meter.settling })
  [.chargeIn]

theorem Stays.chargeRoce {V : Scope} {s₀ s : State} {x : Qp} {window : Nat} {frame : Nat} (h : Stays V s₀ s) (hv :
    Scope.chargeRoce.Within V) : Stays V s₀ (s.chargeRoce x window frame) :=
  .chargeIn h (hv.sub 0)

def Scope.roceSend : Scope := .of (fun z s => { s with
    regs := z.regs, meter.current := z.meter.current, meter.settling := z.meter.settling, out := z.out }) [.send, .countTx, .chargeIn]

theorem Stays.roceSend {V : Scope} {s₀ s : State} {q : Nat} {port : Nat} {window : Nat} {bth : Nat} {psn : Nat} {syn : Option Nat}
    {payload : List Byte} (h : Stays V s₀ s) (hv : Scope.roceSend.Within V) : Stays V s₀ (s.roceSend q port window bth psn syn
    payload) := by
  unfold State.roceSend
  split
  · exact h
  · exact .chargeIn (.countTx (.send h (hv.sub 0)) (hv.sub 1)) (hv.sub 2)

def Scope.setQp : Scope := .of (fun z s => { s with roce.qps := z.roce.qps }) []

theorem Stays.setQp {V : Scope} {s₀ s : State} {q : Nat} {x : Qp} (h : Stays V s₀ s) (hv : Scope.setQp.Within V) : Stays V s₀
    (s.setQp q x) :=
  .upd h hv

def Scope.sendCnp : Scope := .of (fun z s => { s with
    regs := z.regs, roce.qps := z.roce.qps, meter.current := z.meter.current, meter.settling := z.meter.settling,
    out := z.out }) [.setQp, .reg R.ROCE_CNP_TX, .roceSend]

theorem Stays.sendCnp {V : Scope} {s₀ s : State} {q : Nat} {p : RocePacket} (h : Stays V s₀ s) (hv : Scope.sendCnp.Within V) : Stays
    V s₀ (s.sendCnp q p) := by
  unfold State.sendCnp
  split
  · exact h
  · exact .ite (.roceSend (.bump (.setQp h (hv.sub 0)) (hv.sub 1)) (hv.sub 2)) h

def Scope.lastNak : Scope := .of (fun z s => { s with regs := z.regs }) [.reg R.ROCE_LAST_NAK_QPN, .reg R.ROCE_LAST_NAK_STATUS]

theorem Stays.lastNak {V : Scope} {s₀ s : State} {q : Nat} {status : Nat} (h : Stays V s₀ s) (hv : Scope.lastNak.Within V) : Stays V
    s₀ (s.lastNak q status) :=
  .wr (.wr h (hv.sub 0)) (hv.sub 1)

def Scope.setQpErr : Scope := .of (fun z s => { s with roce.qps := z.roce.qps }) [.setQp]

theorem Stays.setQpErr {V : Scope} {s₀ s : State} {q : Nat} {x : Qp} (h : Stays V s₀ s) (hv : Scope.setQpErr.Within V) : Stays V s₀
    (s.setQpErr q x) :=
  .setQp h (hv.sub 0)

def Scope.qpToErr : Scope := .of (fun z s => { s with
    regs := z.regs, hub := z.hub, rings := z.rings, msix := z.msix, keeper.flash.ram := z.keeper.flash.ram,
    keeper.flash.flood := z.keeper.flash.flood, keeper.flash.counters := z.keeper.flash.counters, roce.qps := z.roce.qps,
    out := z.out }) [.setQpErr, .raise]

theorem Stays.qpToErr {V : Scope} {s₀ s : State} {q : Nat} {psn : Nat} {status : Nat} (h : Stays V s₀ s) (hv : Scope.qpToErr.Within
    V) : Stays V s₀ (s.qpToErr q psn status) := by
  unfold State.qpToErr
  split
  · exact h
  · exact .ite h (.raise (.setQpErr h (hv.sub 0)) (hv.sub 1))

def Scope.roceNakNow : Scope := .of (fun z s => { s with
    regs := z.regs, hub := z.hub, rings := z.rings, msix := z.msix, keeper.flash.ram := z.keeper.flash.ram,
    keeper.flash.flood := z.keeper.flash.flood, keeper.flash.counters := z.keeper.flash.counters, roce.qps := z.roce.qps,
    meter.current := z.meter.current, meter.settling := z.meter.settling, out := z.out }) [.roceSend, .qpToErr]

theorem Stays.roceNakNow {V : Scope} {s₀ s : State} {q : Nat} {port : Nat} {window : Nat} {psn : Nat} {syn : Nat} {fatal : Option
    Nat} (h : Stays V s₀ s) (hv : Scope.roceNakNow.Within V) : Stays V s₀ (s.roceNakNow q port window psn syn fatal) := by
  unfold State.roceNakNow
  split
  · exact .qpToErr (.roceSend h (hv.sub 0)) (hv.sub 1)
  · exact .roceSend h (hv.sub 0)

def Scope.roceNakInOrder : Scope := .of (fun z s => { s with
    regs := z.regs, hub := z.hub, rings := z.rings, msix := z.msix, keeper.flash.ram := z.keeper.flash.ram,
    keeper.flash.flood := z.keeper.flash.flood, keeper.flash.counters := z.keeper.flash.counters, roce.qps := z.roce.qps,
    meter.current := z.meter.current, meter.settling := z.meter.settling, out := z.out }) [.setQp, .roceNakNow]

theorem Stays.roceNakInOrder {V : Scope} {s₀ s : State} {q : Nat} {port : Nat} {window : Nat} {psn : Nat} {syn : Nat} {fatal :
    Option Nat} (h : Stays V s₀ s) (hv : Scope.roceNakInOrder.Within V) : Stays V s₀ (s.roceNakInOrder q port window psn syn fatal)
    := by
  unfold State.roceNakInOrder
  refine .ite ?_ (.roceNakNow h (hv.sub 1))
  split
  · exact .setQp h (hv.sub 0)
  · exact h

def Scope.roceNak : Scope := .of (fun z s => { s with
    regs := z.regs, hub := z.hub, rings := z.rings, msix := z.msix, keeper.flash.ram := z.keeper.flash.ram,
    keeper.flash.flood := z.keeper.flash.flood, keeper.flash.counters := z.keeper.flash.counters, roce.qps := z.roce.qps,
    meter.current := z.meter.current, meter.settling := z.meter.settling, out := z.out }) [.lastNak, .roceNakInOrder]

theorem Stays.roceNak {V : Scope} {s₀ s : State} {q : Nat} {port : Nat} {window : Nat} {psn : Nat} {status : Nat} {invalid : Bool}
    (h : Stays V s₀ s) (hv : Scope.roceNak.Within V) : Stays V s₀ (s.roceNak q port window psn status invalid) :=
  .ite (.roceNakInOrder (.lastNak h (hv.sub 0)) (hv.sub 1)) (.unless (.lastNak h (hv.sub 0)) (fun h => .roceNakInOrder h (hv.sub 1)))

def Scope.roceInvalid : Scope := .of (fun z s => { s with
    regs := z.regs, hub := z.hub, rings := z.rings, msix := z.msix, keeper.flash.ram := z.keeper.flash.ram,
    keeper.flash.flood := z.keeper.flash.flood, keeper.flash.counters := z.keeper.flash.counters, roce.qps := z.roce.qps,
    meter.current := z.meter.current, meter.settling := z.meter.settling, out := z.out }) [.lastNak, .roceNakInOrder]

theorem Stays.roceInvalid {V : Scope} {s₀ s : State} {q : Nat} {port : Nat} {psn : Nat} (h : Stays V s₀ s) (hv :
    Scope.roceInvalid.Within V) : Stays V s₀ (s.roceInvalid q port psn) :=
  .roceNakInOrder (.lastNak h (hv.sub 0)) (hv.sub 1)

def Scope.roceMore : Scope := .of (fun z s => { s with
    regs := z.regs, hub := z.hub, rings := z.rings, msix := z.msix, keeper.flash.ram := z.keeper.flash.ram,
    keeper.flash.flood := z.keeper.flash.flood, keeper.flash.counters := z.keeper.flash.counters, eng.ops := z.eng.ops,
    eng.waiting := z.eng.waiting, eng.gather := z.eng.gather, eng.nextEntry := z.eng.nextEntry, near.ways := z.near.ways,
    near.lru := z.near.lru, near.victims := z.near.victims, near.misses := z.near.misses, dur.dirty := z.dur.dirty,
    dur.peaks := z.dur.peaks, dur.below := z.dur.below, dur.map := z.dur.map, dur.throttleFrom := z.dur.throttleFrom,
    twin.sent := z.twin.sent, twin.unacked := z.twin.unacked, twin.cut := z.twin.cut, twin.frame := z.twin.frame,
    twin.frameAt := z.twin.frameAt, twin.txSeq := z.twin.txSeq, twin.replayBuf := z.twin.replayBuf,
    twin.credit := z.twin.credit, twin.diverged := z.twin.diverged, twin.assayOpen := z.twin.assayOpen,
    twin.assayMine := z.twin.assayMine, twin.recent := z.twin.recent, shelf.tiles := z.shelf.tiles,
    meter.current := z.meter.current, meter.settling := z.meter.settling, mem.dram := z.mem.dram,
    mem.dramPoison := z.mem.dramPoison, domain.counter := z.domain.counter, domain.nextMsg := z.domain.nextMsg,
    domain.requests := z.domain.requests, out := z.out, free := z.free }) [.chargeRoce, .enterPiece]

theorem Stays.roceMore {V : Scope} {s₀ s : State} {q : Nat} {x : Qp} {p : RocePacket} {f : Nat} {off : Nat} (h : Stays V s₀ s) (hv :
    Scope.roceMore.Within V) : Stays V s₀ (s.roceMore q x p f off) := by
  unfold State.roceMore
  refine .ite (.chargeRoce (.upd h hv) (hv.sub 0)) ?_
  split
  · exact .chargeRoce h (hv.sub 0)
  · exact .unless (.chargeRoce h (hv.sub 0)) (fun h => .enterPiece h (hv.sub 1))

def Scope.roceWrite : Scope := .of (fun z s => { s with
    regs := z.regs, hub := z.hub, rings := z.rings, msix := z.msix, keeper.flash.ram := z.keeper.flash.ram,
    keeper.flash.flood := z.keeper.flash.flood, keeper.flash.counters := z.keeper.flash.counters,
    start.units := z.start.units, prot.alarmSecond := z.prot.alarmSecond, prot.alarmCount := z.prot.alarmCount,
    prot.alarmed := z.prot.alarmed, eng := z.eng, near.ways := z.near.ways, near.lru := z.near.lru,
    near.victims := z.near.victims, near.misses := z.near.misses, dur.dirty := z.dur.dirty, dur.peaks := z.dur.peaks,
    dur.below := z.dur.below, dur.map := z.dur.map, dur.throttleFrom := z.dur.throttleFrom, roce.qps := z.roce.qps,
    twin.sent := z.twin.sent, twin.unacked := z.twin.unacked, twin.cut := z.twin.cut, twin.frame := z.twin.frame,
    twin.frameAt := z.twin.frameAt, twin.txSeq := z.twin.txSeq, twin.replayBuf := z.twin.replayBuf,
    twin.credit := z.twin.credit, twin.diverged := z.twin.diverged, twin.assayOpen := z.twin.assayOpen,
    twin.assayMine := z.twin.assayMine, twin.recent := z.twin.recent, shelf.tiles := z.shelf.tiles,
    meter.accounts := z.meter.accounts, meter.current := z.meter.current, meter.settling := z.meter.settling,
    meter.last := z.meter.last, meter.held := z.meter.held, meter.aggregates := z.meter.aggregates,
    meter.shapers := z.meter.shapers, meter.seqs := z.meter.seqs, mem.dram := z.mem.dram, mem.dramPoison := z.mem.dramPoison,
    domain.counter := z.domain.counter, domain.nextMsg := z.domain.nextMsg, domain.requests := z.domain.requests,
    out := z.out, free := z.free }) [.chargeRoce, .roceInvalid, .setQp, .roceMore, .submit]

theorem Stays.roceWrite {V : Scope} {s₀ s : State} {q : Nat} {x : Qp} {p : RocePacket} (h : Stays V s₀ s) (hv :
    Scope.roceWrite.Within V) : Stays V s₀ (s.roceWrite q x p) := by
  unfold State.roceWrite
  split
  · exact .ite (.roceInvalid (.chargeRoce h (hv.sub 0)) (hv.sub 1)) (.roceMore (.setQp h (hv.sub 2)) (hv.sub 3))
  · exact .ite (.roceInvalid (.chargeRoce h (hv.sub 0)) (hv.sub 1)) (.submit (.setQp h (hv.sub 2)) (hv.sub 4))

def Scope.roceTake : Scope := .of (fun z s => { s with
    regs := z.regs, hub := z.hub, rings := z.rings, msix := z.msix, keeper.flash.ram := z.keeper.flash.ram,
    keeper.flash.flood := z.keeper.flash.flood, keeper.flash.counters := z.keeper.flash.counters,
    start.units := z.start.units, prot.alarmSecond := z.prot.alarmSecond, prot.alarmCount := z.prot.alarmCount,
    prot.alarmed := z.prot.alarmed, eng := z.eng, near.ways := z.near.ways, near.lru := z.near.lru,
    near.victims := z.near.victims, near.misses := z.near.misses, dur.dirty := z.dur.dirty, dur.peaks := z.dur.peaks,
    dur.below := z.dur.below, dur.map := z.dur.map, dur.throttleFrom := z.dur.throttleFrom, roce.qps := z.roce.qps,
    twin.sent := z.twin.sent, twin.unacked := z.twin.unacked, twin.cut := z.twin.cut, twin.frame := z.twin.frame,
    twin.frameAt := z.twin.frameAt, twin.txSeq := z.twin.txSeq, twin.replayBuf := z.twin.replayBuf,
    twin.credit := z.twin.credit, twin.diverged := z.twin.diverged, twin.assayOpen := z.twin.assayOpen,
    twin.assayMine := z.twin.assayMine, twin.recent := z.twin.recent, shelf.tiles := z.shelf.tiles,
    meter.accounts := z.meter.accounts, meter.current := z.meter.current, meter.settling := z.meter.settling,
    meter.last := z.meter.last, meter.held := z.meter.held, meter.aggregates := z.meter.aggregates,
    meter.shapers := z.meter.shapers, meter.seqs := z.meter.seqs, mem.dram := z.mem.dram, mem.dramPoison := z.mem.dramPoison,
    domain.counter := z.domain.counter, domain.nextMsg := z.domain.nextMsg, domain.requests := z.domain.requests,
    out := z.out, free := z.free }) [.roceWrite, .chargeRoce, .roceInvalid, .submit]

theorem Stays.roceTake {V : Scope} {s₀ s : State} {q : Nat} {x : Qp} {p : RocePacket} (h : Stays V s₀ s) (hv : Scope.roceTake.Within
    V) : Stays V s₀ (s.roceTake q x p) :=
  .ite (.roceWrite h (hv.sub 0)) (.ite (.roceInvalid (.chargeRoce h (hv.sub 1)) (hv.sub 2)) (.submit h (hv.sub 3)))

def Scope.roceNew : Scope := .of (fun z s => { s with
    regs := z.regs, hub := z.hub, rings := z.rings, msix := z.msix, keeper.flash.ram := z.keeper.flash.ram,
    keeper.flash.flood := z.keeper.flash.flood, keeper.flash.counters := z.keeper.flash.counters,
    start.units := z.start.units, prot.alarmSecond := z.prot.alarmSecond, prot.alarmCount := z.prot.alarmCount,
    prot.alarmed := z.prot.alarmed, eng := z.eng, near.ways := z.near.ways, near.lru := z.near.lru,
    near.victims := z.near.victims, near.misses := z.near.misses, dur.dirty := z.dur.dirty, dur.peaks := z.dur.peaks,
    dur.below := z.dur.below, dur.map := z.dur.map, dur.throttleFrom := z.dur.throttleFrom, roce.qps := z.roce.qps,
    twin.sent := z.twin.sent, twin.unacked := z.twin.unacked, twin.cut := z.twin.cut, twin.frame := z.twin.frame,
    twin.frameAt := z.twin.frameAt, twin.txSeq := z.twin.txSeq, twin.replayBuf := z.twin.replayBuf,
    twin.credit := z.twin.credit, twin.diverged := z.twin.diverged, twin.assayOpen := z.twin.assayOpen,
    twin.assayMine := z.twin.assayMine, twin.recent := z.twin.recent, shelf.tiles := z.shelf.tiles,
    meter.accounts := z.meter.accounts, meter.current := z.meter.current, meter.settling := z.meter.settling,
    meter.last := z.meter.last, meter.held := z.meter.held, meter.aggregates := z.meter.aggregates,
    meter.shapers := z.meter.shapers, meter.seqs := z.meter.seqs, mem.dram := z.mem.dram, mem.dramPoison := z.mem.dramPoison,
    domain.counter := z.domain.counter, domain.nextMsg := z.domain.nextMsg, domain.requests := z.domain.requests,
    out := z.out, free := z.free }) [.setQp, .roceTake]

theorem Stays.roceNew {V : Scope} {s₀ s : State} {q : Nat} {x : Qp} {p : RocePacket} (h : Stays V s₀ s) (hv : Scope.roceNew.Within
    V) : Stays V s₀ (s.roceNew q x p) :=
  .roceTake (.setQp h (hv.sub 0)) (hv.sub 1)

def Scope.settleAcks : Scope := .of (fun z s => { s with
    regs := z.regs, roce.qps := z.roce.qps, meter.current := z.meter.current, meter.settling := z.meter.settling,
    out := z.out }) [.roceSend, .setQp]

theorem Stays.settleAcks {V : Scope} {s₀ s : State} {q : Nat} {window : Nat} (h : Stays V s₀ s) (hv : Scope.settleAcks.Within V) :
    Stays V s₀ (s.settleAcks q window) := by
  unfold State.settleAcks
  split
  · exact h
  · exact .foldl (fun _ _ h => .roceSend h (hv.sub 0)) (.setQp h (hv.sub 1))

def Scope.roceDuplicate : Scope := .of (fun z s => { s with
    regs := z.regs, hub := z.hub, rings := z.rings, msix := z.msix, keeper.flash.ram := z.keeper.flash.ram,
    keeper.flash.flood := z.keeper.flash.flood, keeper.flash.counters := z.keeper.flash.counters,
    start.units := z.start.units, prot.alarmSecond := z.prot.alarmSecond, prot.alarmCount := z.prot.alarmCount,
    prot.alarmed := z.prot.alarmed, eng := z.eng, near.ways := z.near.ways, near.lru := z.near.lru,
    near.victims := z.near.victims, near.misses := z.near.misses, dur.dirty := z.dur.dirty, dur.peaks := z.dur.peaks,
    dur.below := z.dur.below, dur.map := z.dur.map, dur.throttleFrom := z.dur.throttleFrom, roce.qps := z.roce.qps,
    twin.sent := z.twin.sent, twin.unacked := z.twin.unacked, twin.cut := z.twin.cut, twin.frame := z.twin.frame,
    twin.frameAt := z.twin.frameAt, twin.txSeq := z.twin.txSeq, twin.replayBuf := z.twin.replayBuf,
    twin.credit := z.twin.credit, twin.diverged := z.twin.diverged, twin.assayOpen := z.twin.assayOpen,
    twin.assayMine := z.twin.assayMine, twin.recent := z.twin.recent, shelf.tiles := z.shelf.tiles,
    meter.accounts := z.meter.accounts, meter.current := z.meter.current, meter.settling := z.meter.settling,
    meter.last := z.meter.last, meter.held := z.meter.held, meter.aggregates := z.meter.aggregates,
    meter.shapers := z.meter.shapers, meter.seqs := z.meter.seqs, mem.dram := z.mem.dram, mem.dramPoison := z.mem.dramPoison,
    domain.counter := z.domain.counter, domain.nextMsg := z.domain.nextMsg, domain.requests := z.domain.requests,
    out := z.out, free := z.free }) [.setQp, .roceTake, .reg R.ROCE_DUPLICATES, .chargeRoce, .roceInvalid, .submit, .settleAcks,
      .roceSend, .roceNak]

theorem Stays.roceDuplicate {V : Scope} {s₀ s : State} {q : Nat} {x : Qp} {p : RocePacket} (h : Stays V s₀ s) (hv :
    Scope.roceDuplicate.Within V) : Stays V s₀ (s.roceDuplicate q x p) := by
  unfold State.roceDuplicate
  split
  · exact .roceTake (.setQp h (hv.sub 0)) (hv.sub 1)
  · refine .ite (.iteOn (.bump h (hv.sub 2)) (fun h => .roceInvalid (.chargeRoce h (hv.sub 3)) (hv.sub 4)) (fun h => .submit h (hv.sub
      5))) ?_
    refine .ite (.settleAcks (.setQp (.chargeRoce (.bump h (hv.sub 2)) (hv.sub 3)) (hv.sub 0)) (hv.sub 6)) ?_
    refine .ite ?_ (.roceInvalid (.chargeRoce (.bump h (hv.sub 2)) (hv.sub 3)) (hv.sub 4))
    split
    · exact .roceSend (.chargeRoce (.bump h (hv.sub 2)) (hv.sub 3)) (hv.sub 7)
    · exact .unless (.chargeRoce (.bump h (hv.sub 2)) (hv.sub 3)) (fun h => .roceNak h (hv.sub 8))

def Scope.rocePacket : Scope := .of (fun z s => { s with
    regs := z.regs, hub := z.hub, rings := z.rings, msix := z.msix, keeper.flash.ram := z.keeper.flash.ram,
    keeper.flash.flood := z.keeper.flash.flood, keeper.flash.counters := z.keeper.flash.counters,
    start.units := z.start.units, prot.alarmSecond := z.prot.alarmSecond, prot.alarmCount := z.prot.alarmCount,
    prot.alarmed := z.prot.alarmed, eng := z.eng, near.ways := z.near.ways, near.lru := z.near.lru,
    near.victims := z.near.victims, near.misses := z.near.misses, dur.dirty := z.dur.dirty, dur.peaks := z.dur.peaks,
    dur.below := z.dur.below, dur.map := z.dur.map, dur.throttleFrom := z.dur.throttleFrom, roce.qps := z.roce.qps,
    twin.sent := z.twin.sent, twin.unacked := z.twin.unacked, twin.cut := z.twin.cut, twin.frame := z.twin.frame,
    twin.frameAt := z.twin.frameAt, twin.txSeq := z.twin.txSeq, twin.replayBuf := z.twin.replayBuf,
    twin.credit := z.twin.credit, twin.diverged := z.twin.diverged, twin.assayOpen := z.twin.assayOpen,
    twin.assayMine := z.twin.assayMine, twin.recent := z.twin.recent, shelf.tiles := z.shelf.tiles,
    meter.accounts := z.meter.accounts, meter.current := z.meter.current, meter.settling := z.meter.settling,
    meter.last := z.meter.last, meter.held := z.meter.held, meter.aggregates := z.meter.aggregates,
    meter.shapers := z.meter.shapers, meter.seqs := z.meter.seqs, mem.dram := z.mem.dram, mem.dramPoison := z.mem.dramPoison,
    domain.counter := z.domain.counter, domain.nextMsg := z.domain.nextMsg, domain.requests := z.domain.requests,
    out := z.out, free := z.free }) [.reg R.ROCE_DROP_QP, .chargeRoce, .setQp, .sendCnp, .roceNak, .roceNew, .roceDuplicate,
      .roceNakInOrder, .reg R.ROCE_PSN_NAKS]

theorem Stays.rocePacket {V : Scope} {s₀ s : State} {q : Nat} {p : RocePacket} (h : Stays V s₀ s) (hv : Scope.rocePacket.Within V) :
    Stays V s₀ (s.rocePacket q p) := by
  unfold State.rocePacket
  split
  · exact .bump h (hv.sub 0)
  · exact .ite (.bump h (hv.sub 0)) (.ite (.chargeRoce h (hv.sub 1)) (.ite (.roceNak (.chargeRoce (.sendCnp (.setQp h (hv.sub 2))
      (hv.sub 3)) (hv.sub 1)) (hv.sub 4)) (.ite (.roceNew (.sendCnp (.setQp h (hv.sub 2)) (hv.sub 3)) (hv.sub 5)) (.ite
      (.roceDuplicate (.sendCnp (.setQp h (hv.sub 2)) (hv.sub 3)) (hv.sub 6)) (.unless (.chargeRoce (.sendCnp (.setQp h (hv.sub 2))
      (hv.sub 3)) (hv.sub 1)) (fun h => .bump (.roceNakInOrder (.setQp h (hv.sub 2)) (hv.sub 7)) (hv.sub 8)))))))

def Scope.cacheQp : Scope := .of (fun z s => { s with regs := z.regs, roce.cache := z.roce.cache }) [.roceViews]

theorem Stays.cacheQp {V : Scope} {s₀ s : State} {q : Nat} (h : Stays V s₀ s) (hv : Scope.cacheQp.Within V) : Stays V s₀ (s.cacheQp
    q) := by
  unfold State.cacheQp
  refine .ite (.roceViews (.upd h hv) (hv.sub 0)) ?_
  split
  · exact .roceViews (.upd h hv) (hv.sub 0)
  · exact .roceViews h (hv.sub 0)

def Scope.receiveRoce : Scope := .of (fun z s => { s with
    regs := z.regs, hub := z.hub, rings := z.rings, msix := z.msix, keeper.flash.ram := z.keeper.flash.ram,
    keeper.flash.flood := z.keeper.flash.flood, keeper.flash.counters := z.keeper.flash.counters,
    start.units := z.start.units, prot.alarmSecond := z.prot.alarmSecond, prot.alarmCount := z.prot.alarmCount,
    prot.alarmed := z.prot.alarmed, eng := z.eng, near.ways := z.near.ways, near.lru := z.near.lru,
    near.victims := z.near.victims, near.misses := z.near.misses, dur.dirty := z.dur.dirty, dur.peaks := z.dur.peaks,
    dur.below := z.dur.below, dur.map := z.dur.map, dur.throttleFrom := z.dur.throttleFrom, roce.qps := z.roce.qps,
    roce.cache := z.roce.cache, roce.parked := z.roce.parked, twin.sent := z.twin.sent, twin.unacked := z.twin.unacked,
    twin.cut := z.twin.cut, twin.frame := z.twin.frame, twin.frameAt := z.twin.frameAt, twin.txSeq := z.twin.txSeq,
    twin.replayBuf := z.twin.replayBuf, twin.credit := z.twin.credit, twin.diverged := z.twin.diverged,
    twin.assayOpen := z.twin.assayOpen, twin.assayMine := z.twin.assayMine, twin.recent := z.twin.recent,
    shelf.tiles := z.shelf.tiles, meter.accounts := z.meter.accounts, meter.current := z.meter.current,
    meter.settling := z.meter.settling, meter.last := z.meter.last, meter.held := z.meter.held,
    meter.aggregates := z.meter.aggregates, meter.shapers := z.meter.shapers, meter.seqs := z.meter.seqs,
    mem.dram := z.mem.dram, mem.dramPoison := z.mem.dramPoison, domain.counter := z.domain.counter,
    domain.nextMsg := z.domain.nextMsg, domain.requests := z.domain.requests, out := z.out, free := z.free }) [.reg R.ROCE_RX_PKTS, .reg
      R.ROCE_DROP_ICRC, .reg R.ROCE_CNP_RX, .reg R.ROCE_DROP_QP, .reg R.ROCE_DROP_OPCODE, .park, .cacheQp, .rocePacket, .reg
      R.ROCE_CTX_MISS]

theorem Stays.receiveRoce {V : Scope} {s₀ s : State} {p : RocePacket} (h : Stays V s₀ s) (hv : Scope.receiveRoce.Within V) : Stays V
    s₀ (s.receiveRoce p) := by
  unfold State.receiveRoce
  refine .ite h ?_
  refine .ite (.bump (.bump h (hv.sub 0)) (hv.sub 1)) ?_
  refine .ite (.bump (.bump h (hv.sub 0)) (hv.sub 2)) ?_
  refine .ite (.bump (.bump h (hv.sub 0)) (hv.sub 3)) ?_
  refine .ite (.bump (.bump h (hv.sub 0)) (hv.sub 4)) ?_
  split
  · exact .bump (.bump h (hv.sub 0)) (hv.sub 3)
  · exact .ite (.bump (.bump h (hv.sub 0)) (hv.sub 3)) (.ite (.park (.bump h (hv.sub 0)) (hv.sub 5)) (.iteOn (.bump h (hv.sub 0)) (fun h
      => .rocePacket (.cacheQp h (hv.sub 6)) (hv.sub 7)) (fun h => .park (.bump h (hv.sub 8)) (hv.sub 5))))

def Scope.receiveArrival : Scope := .of (fun z s => { s with
    regs := z.regs, hub := z.hub, rings := z.rings, msix := z.msix, keeper.flash.ram := z.keeper.flash.ram,
    keeper.flash.flood := z.keeper.flash.flood, keeper.flash.counters := z.keeper.flash.counters,
    start.units := z.start.units, prot.alarmSecond := z.prot.alarmSecond, prot.alarmCount := z.prot.alarmCount,
    prot.alarmed := z.prot.alarmed, eng := z.eng, near.ways := z.near.ways, near.lru := z.near.lru,
    near.victims := z.near.victims, near.misses := z.near.misses, dur.dirty := z.dur.dirty, dur.peaks := z.dur.peaks,
    dur.below := z.dur.below, dur.map := z.dur.map, dur.throttleFrom := z.dur.throttleFrom, cerga.streams := z.cerga.streams,
    cerga.cache := z.cerga.cache, cerga.lookaside := z.cerga.lookaside, cerga.fetching := z.cerga.fetching,
    cerga.held := z.cerga.held, cerga.alarmSecond := z.cerga.alarmSecond, cerga.alarmCount := z.cerga.alarmCount,
    cerga.alarmed := z.cerga.alarmed, roce.qps := z.roce.qps, roce.cache := z.roce.cache, roce.parked := z.roce.parked,
    twin.sent := z.twin.sent, twin.unacked := z.twin.unacked, twin.cut := z.twin.cut, twin.frame := z.twin.frame,
    twin.frameAt := z.twin.frameAt, twin.txSeq := z.twin.txSeq, twin.replayBuf := z.twin.replayBuf,
    twin.credit := z.twin.credit, twin.diverged := z.twin.diverged, twin.assayOpen := z.twin.assayOpen,
    twin.assayMine := z.twin.assayMine, twin.recent := z.twin.recent, shelf.tiles := z.shelf.tiles,
    meter.accounts := z.meter.accounts, meter.current := z.meter.current, meter.settling := z.meter.settling,
    meter.last := z.meter.last, meter.held := z.meter.held, meter.aggregates := z.meter.aggregates,
    meter.shapers := z.meter.shapers, meter.seqs := z.meter.seqs, mem.dram := z.mem.dram, mem.dramPoison := z.mem.dramPoison,
    domain.counter := z.domain.counter, domain.nextMsg := z.domain.nextMsg, domain.requests := z.domain.requests,
    out := z.out, free := z.free }) [.receiveCerga, .receiveRoce]

theorem Stays.receiveArrival {V : Scope} {s₀ s : State} {x1 : Arrival} (h : Stays V s₀ s) (hv : Scope.receiveArrival.Within V) :
    Stays V s₀ (s.receiveArrival x1) := by
  unfold State.receiveArrival
  split
  · exact .receiveCerga h (hv.sub 0)
  · exact .receiveRoce h (hv.sub 1)

def Scope.takeArrival : Scope := .of (fun z s => { s with
    regs := z.regs, hub := z.hub, rings := z.rings, msix := z.msix, keeper.flash.ram := z.keeper.flash.ram,
    keeper.flash.flood := z.keeper.flash.flood, keeper.flash.counters := z.keeper.flash.counters,
    start.units := z.start.units, prot.alarmSecond := z.prot.alarmSecond, prot.alarmCount := z.prot.alarmCount,
    prot.alarmed := z.prot.alarmed, eng := z.eng, near.ways := z.near.ways, near.lru := z.near.lru,
    near.victims := z.near.victims, near.misses := z.near.misses, dur.dirty := z.dur.dirty, dur.peaks := z.dur.peaks,
    dur.below := z.dur.below, dur.map := z.dur.map, dur.throttleFrom := z.dur.throttleFrom, cerga.streams := z.cerga.streams,
    cerga.cache := z.cerga.cache, cerga.lookaside := z.cerga.lookaside, cerga.fetching := z.cerga.fetching,
    cerga.held := z.cerga.held, cerga.alarmSecond := z.cerga.alarmSecond, cerga.alarmCount := z.cerga.alarmCount,
    cerga.alarmed := z.cerga.alarmed, roce.qps := z.roce.qps, roce.cache := z.roce.cache, roce.parked := z.roce.parked,
    twin.sent := z.twin.sent, twin.unacked := z.twin.unacked, twin.cut := z.twin.cut, twin.frame := z.twin.frame,
    twin.frameAt := z.twin.frameAt, twin.txSeq := z.twin.txSeq, twin.replayBuf := z.twin.replayBuf,
    twin.credit := z.twin.credit, twin.diverged := z.twin.diverged, twin.assayOpen := z.twin.assayOpen,
    twin.assayMine := z.twin.assayMine, twin.recent := z.twin.recent, twin.ingress := z.twin.ingress,
    shelf.tiles := z.shelf.tiles, meter.accounts := z.meter.accounts, meter.current := z.meter.current,
    meter.settling := z.meter.settling, meter.last := z.meter.last, meter.held := z.meter.held,
    meter.aggregates := z.meter.aggregates, meter.shapers := z.meter.shapers, meter.seqs := z.meter.seqs,
    mem.dram := z.mem.dram, mem.dramPoison := z.mem.dramPoison, domain.counter := z.domain.counter,
    domain.nextMsg := z.domain.nextMsg, domain.requests := z.domain.requests, out := z.out, free := z.free }) [.reg R.TWIN_GAP_DROPS,
      .receiveArrival]

theorem Stays.takeArrival {V : Scope} {s₀ s : State} {a : Arrival} (h : Stays V s₀ s) (hv : Scope.takeArrival.Within V) : Stays V s₀
    (s.takeArrival a) := by
  unfold State.takeArrival
  refine .ite (.upd h hv) ?_
  split
  · exact .ite (.upd h hv) (.bump h (hv.sub 0))
  · exact .receiveArrival h (hv.sub 1)

def Scope.drainPorts : Scope := .of (fun z s => { s with
    regs := z.regs, hub := z.hub, rings := z.rings, msix := z.msix, keeper.flash.ram := z.keeper.flash.ram,
    keeper.flash.flood := z.keeper.flash.flood, keeper.flash.counters := z.keeper.flash.counters,
    start.units := z.start.units, prot.alarmSecond := z.prot.alarmSecond, prot.alarmCount := z.prot.alarmCount,
    prot.alarmed := z.prot.alarmed, eng := z.eng, near.ways := z.near.ways, near.lru := z.near.lru,
    near.victims := z.near.victims, near.misses := z.near.misses, dur.dirty := z.dur.dirty, dur.peaks := z.dur.peaks,
    dur.below := z.dur.below, dur.map := z.dur.map, dur.throttleFrom := z.dur.throttleFrom, cerga.streams := z.cerga.streams,
    cerga.cache := z.cerga.cache, cerga.lookaside := z.cerga.lookaside, cerga.fetching := z.cerga.fetching,
    cerga.held := z.cerga.held, cerga.alarmSecond := z.cerga.alarmSecond, cerga.alarmCount := z.cerga.alarmCount,
    cerga.alarmed := z.cerga.alarmed, roce.qps := z.roce.qps, roce.cache := z.roce.cache, roce.parked := z.roce.parked,
    twin.sent := z.twin.sent, twin.unacked := z.twin.unacked, twin.cut := z.twin.cut, twin.frame := z.twin.frame,
    twin.frameAt := z.twin.frameAt, twin.txSeq := z.twin.txSeq, twin.replayBuf := z.twin.replayBuf,
    twin.credit := z.twin.credit, twin.diverged := z.twin.diverged, twin.assayOpen := z.twin.assayOpen,
    twin.assayMine := z.twin.assayMine, twin.recent := z.twin.recent, twin.ingress := z.twin.ingress,
    shelf.tiles := z.shelf.tiles, meter.accounts := z.meter.accounts, meter.current := z.meter.current,
    meter.settling := z.meter.settling, meter.last := z.meter.last, meter.held := z.meter.held,
    meter.aggregates := z.meter.aggregates, meter.shapers := z.meter.shapers, meter.seqs := z.meter.seqs,
    mem.dram := z.mem.dram, mem.dramPoison := z.mem.dramPoison, domain.counter := z.domain.counter,
    domain.nextMsg := z.domain.nextMsg, domain.requests := z.domain.requests, out := z.out, ports.waiting := z.ports.waiting,
    free := z.free }) [.takeArrival]

theorem Stays.drainPorts {V : Scope} {s₀ s : State} (h : Stays V s₀ s) (hv : Scope.drainPorts.Within V) : Stays V s₀ (s.drainPorts)
    :=
  .foldlPair (fun _ _ h => .iteFst (.upd h hv) (.takeArrival h (hv.sub 0))) (.upd h hv)

def Scope.orphanCommands : Scope := .ofLosing (fun z s => { s with
    regs := z.regs, hub := z.hub, rings := z.rings, msix := z.msix, cmds := z.cmds, keeper.flash.ram := z.keeper.flash.ram,
    keeper.flash.flood := z.keeper.flash.flood, keeper.flash.counters := z.keeper.flash.counters, prot.grace := z.prot.grace,
    prot.graceEnds := z.prot.graceEnds, out := z.out }) [.startGrace, .raiseTag]

theorem Stays.orphanCommands {V : Scope} {s₀ s : State} (h : Stays V s₀ s) (hv : Scope.orphanCommands.Within V) : Stays V s₀
    (s.orphanCommands) :=
  .foldl (fun _ _ h => .raiseTag (.startGrace h (hv.subLosing 0)) (hv.subLosing 1)) (.updLosing h hv)

def Scope.resetBlock (lo hi : Nat) : Scope := .keepRegs (fun k => k < lo * 64 || decide (hi * 64 ≤ k))

theorem Stays.resetBlock {V : Scope} {s₀ s : State} {lo hi : Nat} (h : Stays V s₀ s) (hv : (Scope.resetBlock lo hi).Within V) :
    Stays V s₀ (s.resetBlock lo hi) :=
  .keepRegs (p := fun k => k < lo * 64 || decide (hi * 64 ≤ k)) h hv

def Scope.dropRings : Scope := .of (fun z s => { s with
    regs := z.regs, rings := z.rings, msix := z.msix, rrNext := z.rrNext }) [.resetBlock 0x10000 0x11200]

theorem Stays.dropRings {V : Scope} {s₀ s : State} (h : Stays V s₀ s) (hv : Scope.dropRings.Within V) : Stays V s₀ s.dropRings :=
  .upd (.resetBlock h (hv.sub 0)) hv

def Scope.endSwitch : Scope := .of (fun z s => { s with
    regs := z.regs, hub := z.hub, rings := z.rings, msix := z.msix, cmds := z.cmds, keeper.flash.ram := z.keeper.flash.ram,
    keeper.flash.flood := z.keeper.flash.flood, keeper.flash.counters := z.keeper.flash.counters, prot.grace := z.prot.grace,
    prot.graceEnds := z.prot.graceEnds, out := z.out }) [.refuse, .finish]

theorem Stays.endSwitch {V : Scope} {s₀ s : State} {cmd : Option Nat} {reason : Option Nat} (h : Stays V s₀ s) (hv :
    Scope.endSwitch.Within V) : Stays V s₀ (s.endSwitch cmd reason) := by
  unfold State.endSwitch
  split
  · exact h
  · split
    · exact .refuse h (hv.sub 0)
    · exact .finish h (hv.sub 1)

def Scope.reopen : Scope := .of (fun z s => { s with
    regs := z.regs, hub := z.hub, rings := z.rings, msix := z.msix, keeper.flash.ram := z.keeper.flash.ram,
    keeper.flash.flood := z.keeper.flash.flood, keeper.flash.counters := z.keeper.flash.counters,
    start.units := z.start.units, prot.alarmSecond := z.prot.alarmSecond, prot.alarmCount := z.prot.alarmCount,
    prot.alarmed := z.prot.alarmed, eng := z.eng, near.ways := z.near.ways, near.lru := z.near.lru,
    near.victims := z.near.victims, near.misses := z.near.misses, dur.dirty := z.dur.dirty, dur.peaks := z.dur.peaks,
    dur.below := z.dur.below, dur.map := z.dur.map, dur.throttleFrom := z.dur.throttleFrom, cerga.streams := z.cerga.streams,
    cerga.cache := z.cerga.cache, cerga.lookaside := z.cerga.lookaside, cerga.fetching := z.cerga.fetching,
    cerga.held := z.cerga.held, cerga.alarmSecond := z.cerga.alarmSecond, cerga.alarmCount := z.cerga.alarmCount,
    cerga.alarmed := z.cerga.alarmed, roce.qps := z.roce.qps, roce.cache := z.roce.cache, roce.parked := z.roce.parked,
    twin.sent := z.twin.sent, twin.unacked := z.twin.unacked, twin.cut := z.twin.cut, twin.frame := z.twin.frame,
    twin.frameAt := z.twin.frameAt, twin.txSeq := z.twin.txSeq, twin.replayBuf := z.twin.replayBuf,
    twin.credit := z.twin.credit, twin.diverged := z.twin.diverged, twin.assayOpen := z.twin.assayOpen,
    twin.assayMine := z.twin.assayMine, twin.recent := z.twin.recent, twin.ingress := z.twin.ingress,
    shelf.tiles := z.shelf.tiles, meter.accounts := z.meter.accounts, meter.current := z.meter.current,
    meter.settling := z.meter.settling, meter.last := z.meter.last, meter.held := z.meter.held,
    meter.aggregates := z.meter.aggregates, meter.shapers := z.meter.shapers, meter.seqs := z.meter.seqs,
    mem.dram := z.mem.dram, mem.dramPoison := z.mem.dramPoison, domain.counter := z.domain.counter,
    domain.nextMsg := z.domain.nextMsg, domain.requests := z.domain.requests, out := z.out, ports.waiting := z.ports.waiting,
    free := z.free }) [.takeArrival, .moveWaiters, .drainPorts]

theorem Stays.reopen {V : Scope} {s₀ s : State} (h : Stays V s₀ s) (hv : Scope.reopen.Within V) : Stays V s₀ (s.reopen) :=
  .drainPorts (.moveWaiters (.foldl (fun _ _ h => .takeArrival h (hv.sub 0)) (.upd h hv)) (hv.sub 1)) (hv.sub 2)

def Scope.voidYield : Scope := .of (fun z s => { s with
    regs := z.regs, hub := z.hub, rings := z.rings, msix := z.msix, cmds := z.cmds, keeper.outputs := z.keeper.outputs,
    keeper.flash.ram := z.keeper.flash.ram, keeper.flash.flood := z.keeper.flash.flood,
    keeper.flash.counters := z.keeper.flash.counters, keeper.indFault := z.keeper.indFault, start.units := z.start.units,
    prot.alarmSecond := z.prot.alarmSecond, prot.alarmCount := z.prot.alarmCount, prot.alarmed := z.prot.alarmed,
    prot.grace := z.prot.grace, prot.graceEnds := z.prot.graceEnds, eng := z.eng, near.ways := z.near.ways,
    near.lru := z.near.lru, near.victims := z.near.victims, near.misses := z.near.misses, dur.dirty := z.dur.dirty,
    dur.peaks := z.dur.peaks, dur.below := z.dur.below, dur.map := z.dur.map, dur.throttleFrom := z.dur.throttleFrom,
    cerga.streams := z.cerga.streams, cerga.cache := z.cerga.cache, cerga.lookaside := z.cerga.lookaside,
    cerga.fetching := z.cerga.fetching, cerga.held := z.cerga.held, cerga.alarmSecond := z.cerga.alarmSecond,
    cerga.alarmCount := z.cerga.alarmCount, cerga.alarmed := z.cerga.alarmed, roce.qps := z.roce.qps,
    roce.cache := z.roce.cache, roce.parked := z.roce.parked, twin.leaseEnd := z.twin.leaseEnd,
    twin.viewEnd := z.twin.viewEnd, twin.sent := z.twin.sent, twin.unacked := z.twin.unacked, twin.cut := z.twin.cut,
    twin.frame := z.twin.frame, twin.frameAt := z.twin.frameAt, twin.txSeq := z.twin.txSeq,
    twin.replayBuf := z.twin.replayBuf, twin.credit := z.twin.credit, twin.diverged := z.twin.diverged,
    twin.assayOpen := z.twin.assayOpen, twin.assayMine := z.twin.assayMine, twin.recent := z.twin.recent,
    twin.yield := z.twin.yield, twin.stopped := z.twin.stopped, twin.homeSince := z.twin.homeSince,
    twin.ingress := z.twin.ingress, twin.quiesceAfter := z.twin.quiesceAfter, shelf.tiles := z.shelf.tiles,
    meter.accounts := z.meter.accounts, meter.current := z.meter.current, meter.settling := z.meter.settling,
    meter.last := z.meter.last, meter.held := z.meter.held, meter.aggregates := z.meter.aggregates,
    meter.shapers := z.meter.shapers, meter.seqs := z.meter.seqs, mem.dram := z.mem.dram, mem.dramPoison := z.mem.dramPoison,
    domain.counter := z.domain.counter, domain.nextMsg := z.domain.nextMsg, domain.requests := z.domain.requests,
    out := z.out, ports := z.ports, free := z.free }) [.endSwitch, .twinViews, .reopen, .reg R.TWIN_GAP_DROPS]

theorem Stays.voidYield {V : Scope} {s₀ s : State} {reason : Nat} {serve : Bool} (h : Stays V s₀ s) (hv : Scope.voidYield.Within V)
    : Stays V s₀ (s.voidYield reason serve) := by
  unfold State.voidYield
  split
  · exact h
  · exact .iteOn (.endSwitch (.upd h hv) (hv.sub 0)) (fun h => .reopen (.twinViews h (hv.sub 1)) (hv.sub 2)) (fun h => .twinViews (.bump
      (.upd h hv) (hv.sub 3)) (hv.sub 1))

def Scope.openAdmission : Scope := .of (fun z s => { s with
    regs := z.regs, hub := z.hub, rings := z.rings, msix := z.msix, cmds := z.cmds, keeper.outputs := z.keeper.outputs,
    keeper.flash.ram := z.keeper.flash.ram, keeper.flash.flood := z.keeper.flash.flood,
    keeper.flash.counters := z.keeper.flash.counters, keeper.indFault := z.keeper.indFault, start.units := z.start.units,
    start.presented := z.start.presented, prot.alarmSecond := z.prot.alarmSecond, prot.alarmCount := z.prot.alarmCount,
    prot.alarmed := z.prot.alarmed, prot.grace := z.prot.grace, prot.graceEnds := z.prot.graceEnds, eng := z.eng,
    near.ways := z.near.ways, near.lru := z.near.lru, near.victims := z.near.victims, near.misses := z.near.misses,
    near.locks := z.near.locks, near.loading := z.near.loading, dur.dirty := z.dur.dirty, dur.peaks := z.dur.peaks,
    dur.below := z.dur.below, dur.map := z.dur.map, dur.throttleFrom := z.dur.throttleFrom,
    ledger.presented := z.ledger.presented, ledger.releaseAt := z.ledger.releaseAt, cerga.streams := z.cerga.streams,
    cerga.cache := z.cerga.cache, cerga.lookaside := z.cerga.lookaside, cerga.fetching := z.cerga.fetching,
    cerga.held := z.cerga.held, cerga.base := z.cerga.base, cerga.alarmSecond := z.cerga.alarmSecond,
    cerga.alarmCount := z.cerga.alarmCount, cerga.alarmed := z.cerga.alarmed, roce.qps := z.roce.qps,
    roce.cache := z.roce.cache, roce.parked := z.roce.parked, twin.sent := z.twin.sent, twin.unacked := z.twin.unacked,
    twin.commands := z.twin.commands, twin.nextCommand := z.twin.nextCommand, twin.cut := z.twin.cut,
    twin.frame := z.twin.frame, twin.frameAt := z.twin.frameAt, twin.txSeq := z.twin.txSeq,
    twin.replayBuf := z.twin.replayBuf, twin.credit := z.twin.credit, twin.diverged := z.twin.diverged,
    twin.localCommands := z.twin.localCommands, twin.assayOpen := z.twin.assayOpen, twin.assayMine := z.twin.assayMine,
    twin.recent := z.twin.recent, twin.opening := z.twin.opening, twin.announce := z.twin.announce,
    twin.homeSince := z.twin.homeSince, twin.ingress := z.twin.ingress, shelf.tiles := z.shelf.tiles,
    meter.accounts := z.meter.accounts, meter.current := z.meter.current, meter.settling := z.meter.settling,
    meter.last := z.meter.last, meter.held := z.meter.held, meter.aggregates := z.meter.aggregates,
    meter.shapers := z.meter.shapers, meter.seqs := z.meter.seqs, mem.dram := z.mem.dram, mem.dramPoison := z.mem.dramPoison,
    domain.counter := z.domain.counter, domain.nextMsg := z.domain.nextMsg, domain.requests := z.domain.requests,
    domain.pushes := z.domain.pushes, out := z.out, ports := z.ports, free := z.free }) [.tokenInd, .startAnnounce, .restoreAsHolder,
      .sendStatus, .twinViews, .firstAdmission, .sendOutbox, .sendPushes, .settleLocks, .reopen]

theorem Stays.openAdmission {V : Scope} {s₀ s : State} (h : Stays V s₀ s) (hv : Scope.openAdmission.Within V) : Stays V s₀
    (s.openAdmission) :=
  .reopen (.settleLocks (.sendPushes (.sendOutbox (.firstAdmission (.twinViews (.sendStatus (.restoreAsHolder (.startAnnounce
    (.tokenInd (.upd h hv) (hv.sub 0)) (hv.sub 1)) (hv.sub 2)) (hv.sub 3)) (hv.sub 4)) (hv.sub 5)) (hv.sub 6)) (hv.sub 7)) (hv.sub
    8)) (hv.sub 9)

def Scope.linkCut : Scope := .of (fun z s => { s with
    twin.frame := z.twin.frame, twin.frameAt := z.twin.frameAt, twin.ident := z.twin.ident, twin.trainAt := z.twin.trainAt,
    twin.witnessAt := z.twin.witnessAt, twin.discarding := z.twin.discarding, twin.tie := z.twin.tie,
    twin.handover := z.twin.handover, twin.credit := z.twin.credit }) []

/-- What the loss of the link clears. -/
theorem Stays.linkCut {V : Scope} {s₀ s : State} {frame : List BrazeItem} {frameAt trainAt : Option Nat} {ident : Option (List Nat)} {witnessAt : Nat} {discarding : Bool}
    {tie : Option TieBreak} {handover : Option PendingHandover} {credit : Nat} (h : Stays V s₀ s) (hv : Scope.linkCut.Within V) :
    Stays V s₀ { s with twin.frame := frame, twin.frameAt := frameAt, twin.ident := ident, twin.trainAt := trainAt, twin.witnessAt := witnessAt,
                        twin.discarding := discarding, twin.tie := tie, twin.handover := handover, twin.credit := credit } :=
  .upd h hv

def Scope.resyncEnded : Scope := .of (fun z s => { s with
    twin.resync := z.twin.resync, twin.commands := z.twin.commands }) []

/-- A resync that ends, and the commands it carried. -/
theorem Stays.resyncEnded {V : Scope} {s₀ s : State} {resync : Option Resync} {commands : List SentCommand} (h : Stays V s₀ s)
    (hv : Scope.resyncEnded.Within V) : Stays V s₀ { s with twin.resync := resync, twin.commands := commands } :=
  .upd h hv

def Scope.linkDown : Scope := .of (fun z s => { s with
    regs := z.regs, hub := z.hub, rings := z.rings, msix := z.msix, cmds := z.cmds, keeper.outputs := z.keeper.outputs,
    keeper.flash.ram := z.keeper.flash.ram, keeper.flash.flood := z.keeper.flash.flood,
    keeper.flash.counters := z.keeper.flash.counters, keeper.indFault := z.keeper.indFault, start.units := z.start.units,
    start.presented := z.start.presented, prot.alarmSecond := z.prot.alarmSecond, prot.alarmCount := z.prot.alarmCount,
    prot.alarmed := z.prot.alarmed, prot.grace := z.prot.grace, prot.graceEnds := z.prot.graceEnds, eng.ops := z.eng.ops,
    eng.nextOp := z.eng.nextOp, eng.waiting := z.eng.waiting, eng.gather := z.eng.gather, eng.nextEntry := z.eng.nextEntry,
    near.ways := z.near.ways, near.lru := z.near.lru, near.victims := z.near.victims, near.misses := z.near.misses,
    near.locks := z.near.locks, near.loading := z.near.loading, dur.dirty := z.dur.dirty, dur.peaks := z.dur.peaks,
    dur.below := z.dur.below, dur.map := z.dur.map, dur.throttleFrom := z.dur.throttleFrom, ledger.presented := z.ledger.presented,
    ledger.releaseAt := z.ledger.releaseAt, cerga.streams := z.cerga.streams, cerga.cache := z.cerga.cache,
    cerga.lookaside := z.cerga.lookaside, cerga.fetching := z.cerga.fetching, cerga.held := z.cerga.held,
    cerga.base := z.cerga.base, cerga.alarmSecond := z.cerga.alarmSecond, cerga.alarmCount := z.cerga.alarmCount,
    cerga.alarmed := z.cerga.alarmed, roce.qps := z.roce.qps, roce.cache := z.roce.cache, roce.parked := z.roce.parked,
    twin.leaseEnd := z.twin.leaseEnd, twin.viewEnd := z.twin.viewEnd, twin.sent := z.twin.sent, twin.acked := z.twin.acked,
    twin.accepted := z.twin.accepted, twin.unacked := z.twin.unacked, twin.commands := z.twin.commands,
    twin.nextCommand := z.twin.nextCommand, twin.cut := z.twin.cut, twin.frame := z.twin.frame, twin.frameAt := z.twin.frameAt,
    twin.txSeq := z.twin.txSeq, twin.replayBuf := z.twin.replayBuf, twin.credit := z.twin.credit,
    twin.discarding := z.twin.discarding, twin.partials := z.twin.partials, twin.diverged := z.twin.diverged,
    twin.localCommands := z.twin.localCommands, twin.resync := z.twin.resync, twin.assayOpen := z.twin.assayOpen,
    twin.assayMine := z.twin.assayMine, twin.assayPeer := z.twin.assayPeer, twin.recent := z.twin.recent,
    twin.shadows := z.twin.shadows, twin.tie := z.twin.tie, twin.yield := z.twin.yield, twin.handover := z.twin.handover,
    twin.opening := z.twin.opening, twin.announce := z.twin.announce, twin.stopped := z.twin.stopped,
    twin.homeSince := z.twin.homeSince, twin.trainAt := z.twin.trainAt, twin.witnessAt := z.twin.witnessAt,
    twin.ident := z.twin.ident, twin.ingress := z.twin.ingress, twin.quiesceAfter := z.twin.quiesceAfter,
    shelf.objects := z.shelf.objects, shelf.tiles := z.shelf.tiles, meter.accounts := z.meter.accounts,
    meter.current := z.meter.current, meter.settling := z.meter.settling, meter.last := z.meter.last, meter.held := z.meter.held,
    meter.aggregates := z.meter.aggregates, meter.shapers := z.meter.shapers, meter.seqs := z.meter.seqs, mem.dram := z.mem.dram,
    mem.dramPoison := z.mem.dramPoison, domain.counter := z.domain.counter, domain.nextMsg := z.domain.nextMsg,
    domain.requests := z.domain.requests, domain.answered := z.domain.answered, domain.registered := z.domain.registered,
    domain.pushes := z.domain.pushes, domain.waiting := z.domain.waiting, out := z.out, ports.port := z.ports.port,
    ports.waiting := z.ports.waiting, free := z.free }) [.flushStream, .reg R.TWIN_STATUS_LINK, .reg R.TWIN_STATUS_LANES,
    .markUnits, .raise, .voidYield, .localiseCommands, .restartQueues, .setSync, .gainMark, .recheckAccept, .registerEpoch,
    .openAdmission, .advanceAll, .twinViews, .linkCut, .resyncEnded]

theorem Stays.linkDown {V : Scope} {s₀ s : State} {code retry : Nat} (h : Stays V s₀ s) (hv : Scope.linkDown.Within V) :
    Stays V s₀ (s.linkDown code retry) := by
  have hlost : Stays V s₀ ((s.flushStream.wr R.TWIN_STATUS_LINK code).wr R.TWIN_STATUS_LANES 0) :=
    .wr (.wr (.flushStream h (hv.sub 0)) (hv.sub 1)) (hv.sub 2)
  refine .when h (fun _ => .twinViews (.advanceAll (.when (.iteOn (.voidYield (.raise (.markUnits (.linkCut hlost (hv.sub 15)) (hv.sub 3)) (hv.sub 4))
    (hv.sub 5)) (fun h => ?_) (fun h => .restartQueues (.resyncEnded h (hv.sub 16)) (hv.sub 7))) (fun h =>
      .iteOn h (fun h => .registerEpoch h (hv.sub 11)) (fun h => .openAdmission h (hv.sub 12)))) (hv.sub 13)) (hv.sub 14))
  exact .iteOn (.when (.restartQueues (.resyncEnded (.localiseCommands h (hv.sub 6)) (hv.sub 16)) (hv.sub 7)) (fun h => .setSync h (hv.sub 8)))
    (fun h => .gainMark h (hv.sub 9)) (fun h => .recheckAccept h (hv.sub 10))

def Scope.setSynced : Scope := .of (fun z s => { s with
    regs := z.regs, time.holdover := z.time.holdover, hub := z.hub, rings := z.rings, msix := z.msix,
    keeper.flash.ram := z.keeper.flash.ram, keeper.flash.flood := z.keeper.flash.flood,
    keeper.flash.counters := z.keeper.flash.counters, out := z.out }) [.reg R.DOMAIN_TIME_STATUS_SYNCED, .meterSync]

theorem Stays.setSynced {V : Scope} {s₀ s : State} {b : Bool} (h : Stays V s₀ s) (hv : Scope.setSynced.Within V) : Stays V s₀
    (s.setSynced b) :=
  .ite h (.meterSync (.flag (.upd h hv) (hv.sub 0)) (hv.sub 1))

def Scope.brazeDown : Scope := .of (fun z s => { s with
    regs := z.regs, hub := z.hub, rings := z.rings, msix := z.msix, cmds := z.cmds, keeper.outputs := z.keeper.outputs,
    keeper.flash.ram := z.keeper.flash.ram, keeper.flash.flood := z.keeper.flash.flood,
    keeper.flash.counters := z.keeper.flash.counters, keeper.indFault := z.keeper.indFault, start.units := z.start.units,
    start.presented := z.start.presented, prot.alarmSecond := z.prot.alarmSecond, prot.alarmCount := z.prot.alarmCount,
    prot.alarmed := z.prot.alarmed, prot.grace := z.prot.grace, prot.graceEnds := z.prot.graceEnds, eng := z.eng,
    near.ways := z.near.ways, near.lru := z.near.lru, near.victims := z.near.victims, near.misses := z.near.misses,
    near.locks := z.near.locks, near.loading := z.near.loading, dur.dirty := z.dur.dirty, dur.peaks := z.dur.peaks,
    dur.below := z.dur.below, dur.map := z.dur.map, dur.throttleFrom := z.dur.throttleFrom,
    ledger.presented := z.ledger.presented, ledger.releaseAt := z.ledger.releaseAt, cerga.streams := z.cerga.streams,
    cerga.cache := z.cerga.cache, cerga.lookaside := z.cerga.lookaside, cerga.fetching := z.cerga.fetching,
    cerga.held := z.cerga.held, cerga.base := z.cerga.base, cerga.alarmSecond := z.cerga.alarmSecond,
    cerga.alarmCount := z.cerga.alarmCount, cerga.alarmed := z.cerga.alarmed, roce.qps := z.roce.qps,
    roce.cache := z.roce.cache, roce.parked := z.roce.parked, twin.leaseEnd := z.twin.leaseEnd,
    twin.viewEnd := z.twin.viewEnd, twin.sent := z.twin.sent, twin.acked := z.twin.acked, twin.accepted := z.twin.accepted,
    twin.unacked := z.twin.unacked, twin.commands := z.twin.commands, twin.nextCommand := z.twin.nextCommand,
    twin.cut := z.twin.cut, twin.frame := z.twin.frame, twin.frameAt := z.twin.frameAt, twin.txSeq := z.twin.txSeq,
    twin.replayBuf := z.twin.replayBuf, twin.credit := z.twin.credit, twin.discarding := z.twin.discarding,
    twin.partials := z.twin.partials, twin.diverged := z.twin.diverged, twin.localCommands := z.twin.localCommands,
    twin.resync := z.twin.resync, twin.assayOpen := z.twin.assayOpen, twin.assayMine := z.twin.assayMine,
    twin.assayPeer := z.twin.assayPeer, twin.recent := z.twin.recent, twin.shadows := z.twin.shadows, twin.tie := z.twin.tie,
    twin.yield := z.twin.yield, twin.handover := z.twin.handover, twin.opening := z.twin.opening,
    twin.announce := z.twin.announce, twin.stopped := z.twin.stopped, twin.homeSince := z.twin.homeSince,
    twin.trainAt := z.twin.trainAt, twin.witnessAt := z.twin.witnessAt, twin.ident := z.twin.ident,
    twin.ingress := z.twin.ingress, twin.quiesceAfter := z.twin.quiesceAfter, shelf.objects := z.shelf.objects,
    shelf.tiles := z.shelf.tiles, meter.accounts := z.meter.accounts, meter.current := z.meter.current,
    meter.settling := z.meter.settling, meter.last := z.meter.last, meter.held := z.meter.held,
    meter.aggregates := z.meter.aggregates, meter.shapers := z.meter.shapers, meter.seqs := z.meter.seqs,
    mem.dram := z.mem.dram, mem.dramPoison := z.mem.dramPoison, domain.counter := z.domain.counter,
    domain.nextMsg := z.domain.nextMsg, domain.requests := z.domain.requests, domain.answered := z.domain.answered,
    domain.registered := z.domain.registered, domain.pushes := z.domain.pushes, domain.waiting := z.domain.waiting,
    out := z.out, ports := z.ports, free := z.free }) [.linkDown, .reg R.TWIN_STATUS_LINK]

theorem Stays.brazeDown {V : Scope} {s₀ s : State} (h : Stays V s₀ s) (hv : Scope.brazeDown.Within V) : Stays V s₀ (s.brazeDown) :=
  .ite (.linkDown h (hv.sub 0)) (.ite (.upd (.wr h (hv.sub 1)) hv) h)

def Scope.brazeRetrain : Scope := .of (fun z s => { s with twin.trainAt := z.twin.trainAt }) []

theorem Stays.brazeRetrain {V : Scope} {s₀ s : State} (h : Stays V s₀ s) (hv : Scope.brazeRetrain.Within V) : Stays V s₀
    (s.brazeRetrain) :=
  .ite (.upd h hv) h

end

end Sys2Proof.Machine


/-! Sideband inputs and outputs, the thermal trip and the reference clocks (R450, R489 to R494). -/

namespace Sys2Proof.Machine

open Sys2Proof

section

set_option Elab.async false

/-! ### Inputs -/

theorem State.input_setInput (s : State) (code : Nat) (i : SideInput) : (s.setInput code i).input code = i := by
  simp [State.input, State.setInput]

theorem State.input_congr {s t : State} (h : t.keeper.inputs = s.keeper.inputs) (code : Nat) : t.input code = s.input code := by
  unfold State.input
  rw [h]

theorem Stays.acceptedInput (s : State) (code limit window : Nat) : Stays .acceptInput s (s.acceptInput code limit window).2 :=
  .acceptInput .refl .self

theorem exec_resetNAssert (s : State) (q : QuenchReport) (hkeeper : s.keeperRuns = true) (hact : (s.acceptInput 1 4 (sec 10)).1 = true)
    (hcore : s.coreOn = true) (hsave : s.save.active = false) (hstep : 7 ≤ s.start.step) :
    ∃ t, exec (.resetNAssert q) s = .next t ∧ t.save.active = true ∧ t.save.step = 1 ∧ t.save.trigger = 2 ∧ t.save.action = .restart := by
  have haccept := Stays.acceptedInput s 1 4 (sec 10)
  have hcore' : (s.acceptInput 1 4 (sec 10)).2.coreOn = true := (haccept.coreOn rfl).trans hcore
  have hsave' : (s.acceptInput 1 4 (sec 10)).2.save.active = false := (haccept.part (·.save.active)).trans hsave
  have hstep' : 7 ≤ (s.acceptInput 1 4 (sec 10)).2.start.step := (haccept.part (·.start.step)) ▸ hstep
  have hexec : exec (.resetNAssert q) s = .next ((s.acceptInput 1 4 (sec 10)).2.startSave 2 .restart none none none) := by
    refine congrArg Host.Outcome.next ((if_neg (by simp [hkeeper])).trans ?_)
    dsimp only
    rw [hact]
    exact (if_neg (by simp)).trans ((if_neg (by simp [hsave'])).trans ((if_pos hcore').trans (if_pos hstep')))
  refine ⟨_, hexec, ?_⟩
  rw [State.startSave_new _ 2 .restart none none none hcore' hsave']
  exact ⟨rfl, rfl, rfl, rfl⟩

theorem exec_inputStuckTimer (s : State) (code : Nat) (hkeeper : s.keeperRuns = true) (hmask : s.inputMasked code = false)
    (hactive : (s.input code).active = true) (hcode : code ≠ 6)
    (hdue : due s.now ((stuckTime code).map (· + (s.input code).since)) = true) (htherm : code = 2 → s.rd R.KEEPER_STATUS_SEQ_STATE = 0) :
    ∃ t, exec (.inputStuckTimer code) s = .next t ∧ (t.input code).stuck = true ∧ t.inputMasked code = true := by
  have hseq : (code != 2 || s.rd R.KEEPER_STATUS_SEQ_STATE == 0) = true := by
    by_cases h : code = 2
    · simp [htherm h]
    · simp [h]
  have hsix : (code != 6 || s.rd R.DOMAIN_TIME_CTRL_SOURCE == 1) = true := by simp [hcode]
  have hexec : exec (.inputStuckTimer code) s =
      .next ((s.setInput code { s.input code with stuck := true }).raiseKeeper Ev.POWER_INPUT_STUCK [(1, code), (1, 0)]) := by
    refine congrArg Host.Outcome.next ?_
    dsimp only
    rw [if_neg hcode]
    exact (if_pos (by simp only [hkeeper, hmask, hactive, hdue, hseq, hsix]; rfl)).trans (if_neg hcode)
  have hraised (t : State) : Stays .raiseKeeper t (t.raiseKeeper Ev.POWER_INPUT_STUCK [(1, code), (1, 0)]) := .raiseKeeper .refl .self
  have hinput : ((s.setInput code { s.input code with stuck := true }).raiseKeeper Ev.POWER_INPUT_STUCK [(1, code), (1, 0)]).input code =
      { s.input code with stuck := true } :=
    (State.input_congr ((hraised _).part (·.keeper.inputs)) code).trans (s.input_setInput code _)
  refine ⟨_, hexec, ?_, ?_⟩
  · rw [hinput]
  · unfold State.inputMasked
    rw [hinput]
    rfl

theorem exec_inputStuckTimer_pps (s : State) (hkeeper : s.keeperRuns = true) (hmask : s.inputMasked 6 = false)
    (hdue : due s.now (some (sec 2 + s.time.lastPps.getD 0)) = true) (hsource : s.rd R.DOMAIN_TIME_CTRL_SOURCE = 1) :
    ∃ t, exec (.inputStuckTimer 6) s = .next t ∧ (t.input 6).stuck = true ∧ t.time.lastSync = none := by
  have hdue' : due s.now ((stuckTime 6).map (· + s.time.lastPps.getD 0)) = true := hdue
  have hraised (t : State) : Stays .raiseKeeper t (t.raiseKeeper Ev.POWER_INPUT_STUCK [(1, 6), (1, 0)]) := .raiseKeeper .refl .self
  have hexec : exec (.inputStuckTimer 6) s =
      .next { (s.setInput 6 { s.input 6 with stuck := true }).raiseKeeper Ev.POWER_INPUT_STUCK [(1, 6), (1, 0)] with time.lastSync := none } := by
    refine congrArg Host.Outcome.next ?_
    dsimp only
    rw [if_pos (rfl : (6 : Nat) = 6)]
    exact (if_pos (by simp [hkeeper, hmask, hdue', hsource])).trans rfl
  have hinput : ((s.setInput 6 { s.input 6 with stuck := true }).raiseKeeper Ev.POWER_INPUT_STUCK [(1, 6), (1, 0)]).input 6 =
      { s.input 6 with stuck := true } :=
    (State.input_congr ((hraised _).part (·.keeper.inputs)) 6).trans (s.input_setInput 6 _)
  exact ⟨_, hexec, (congrArg SideInput.stuck hinput).trans rfl, rfl⟩

/-- A feed whose input is no longer masked is OK again. -/
def State.feedUnmasked (s : State) (a : Bool) : State :=
  let s := (s.wr (fFeedState a) 1).driveFeeds.raiseKeeper Ev.POWER_FEED_RESTORED [(1, feedNumber a)]
  if s.rd R.KEEPER_STATUS_SEQ_STATE = 0 && s.keeper.retryAt.isNone then { s with keeper.waitStart := true }.tryPowerUp false else s

theorem State.feedUnmasked_leaves (s : State) (a : Bool) : (s.feedUnmasked a).rd (fFeedState a) = 1 ∧
    (s.feedUnmasked a).keeper.inputs = s.keeper.inputs := by
  have hdriven (t : State) : Stays .driveFeeds t t.driveFeeds := .driveFeeds .refl .self
  have hraised (t : State) : Stays .raiseKeeper t (t.raiseKeeper Ev.POWER_FEED_RESTORED [(1, feedNumber a)]) := .raiseKeeper .refl .self
  have hstate : ((s.wr (fFeedState a) 1).driveFeeds.raiseKeeper Ev.POWER_FEED_RESTORED [(1, feedNumber a)]).rd (fFeedState a) = 1 := by
    refine ((hraised _).rdN _ 0 (by cases a <;> rfl)).trans (((hdriven _).rdN _ 0 (by cases a <;> rfl)).trans ?_)
    cases a <;> exact State.rd_wr_fits s _ (by decide)
  have hwrites : Stays (.reg (fFeedState a)) s (s.wr (fFeedState a) 1) := .wr .refl .self
  have hinputs : ((s.wr (fFeedState a) 1).driveFeeds.raiseKeeper Ev.POWER_FEED_RESTORED [(1, feedNumber a)]).keeper.inputs = s.keeper.inputs :=
    ((hraised _).part (·.keeper.inputs)).trans (((hdriven (s.wr (fFeedState a) 1)).part (·.keeper.inputs)).trans (hwrites.part (·.keeper.inputs)))
  unfold State.feedUnmasked
  generalize (s.wr (fFeedState a) 1).driveFeeds.raiseKeeper Ev.POWER_FEED_RESTORED [(1, feedNumber a)] = u at hstate hinputs
  dsimp only
  split
  · have htry : Stays .tryPowerUp ({ u with keeper.waitStart := true } : State) (({ u with keeper.waitStart := true } : State).tryPowerUp false) :=
      .tryPowerUp .refl .self
    exact ⟨(State.feeds_tryPowerUp _ false a).1.trans hstate, (htry.part (·.keeper.inputs)).trans hinputs⟩
  · exact ⟨hstate, hinputs⟩

theorem exec_inputUnmask (s : State) (code : Nat) (hkeeper : s.keeperRuns = true) (hlow : 1 ≤ code) (hhigh : code ≤ 6)
    (hmask : s.inputMasked code = true) :
    ∃ t, exec (.inputUnmask code) s = .next t ∧ t.input code = inputIdle ∧ (code = 3 → t.rd R.KEEPER_FEED_STATUS_A_STATE = 1) ∧
      (code = 4 → t.rd R.KEEPER_FEED_STATUS_B_STATE = 1) := by
  have hguard : (s.keeperRuns && decide (1 ≤ code ∧ code ≤ 6) && s.inputMasked code) = true := by simp [hkeeper, hlow, hhigh, hmask]
  have hidle : (s.setInput code inputIdle).input code = inputIdle := s.input_setInput code _
  by_cases hfeed : code = 3 ∨ code = 4
  · have hexec : exec (.inputUnmask code) s = .next ((s.setInput code inputIdle).feedUnmasked (code == 3)) :=
      congrArg Host.Outcome.next ((if_pos hguard).trans (if_pos hfeed))
    obtain ⟨hstate, hinputs⟩ := (s.setInput code inputIdle).feedUnmasked_leaves (code == 3)
    exact ⟨_, hexec, (State.input_congr hinputs code).trans hidle, fun h => by subst h; exact hstate, fun h => by subst h; exact hstate⟩
  · have hexec : exec (.inputUnmask code) s = .next (s.setInput code inputIdle) :=
      congrArg Host.Outcome.next ((if_pos hguard).trans (if_neg hfeed))
    exact ⟨_, hexec, hidle, fun h => absurd (.inl h) hfeed, fun h => absurd (.inr h) hfeed⟩

/-! ### The thermal trip -/

/-- The trip as the event log and the time of the trip show it, where no save runs. -/
def State.tripped (s : State) (cause temp : Nat) : State :=
  { s.raiseKeeper Ev.POWER_THERMAL_TRIP [(1, cause), (1, temp)] with keeper.thermAt := some s.now }

theorem Stays.tripRaised (s : State) (cause temp : Nat) :
    Stays .raiseKeeper s (s.raiseKeeper Ev.POWER_THERMAL_TRIP [(1, cause), (1, temp)]) := .raiseKeeper .refl .self

theorem State.coreOn_tripped (s : State) (cause temp : Nat) : (s.tripped cause temp).coreOn = s.coreOn :=
  (Stays.tripRaised s cause temp).coreOn rfl

/-- In service a trip starts the save that ends in OFF. -/
theorem State.thermalTrip_saves {s : State} (cause temp : Nat) (hcore : s.coreOn = true) (hsave : s.save.active = false)
    (hfw : s.start.fwDone = true) : s.thermalTrip cause temp = (s.tripped cause temp).startSave 7 .shutdown none none none := by
  have hcore' := (s.coreOn_tripped cause temp).trans hcore
  have hup : ¬ (s.tripped cause temp).rd R.KEEPER_STATUS_SEQ_STATE = 1 := by
    intro h
    rw [State.coreOn, h] at hcore'
    exact absurd hcore' (by decide)
  have hfw' : (s.tripped cause temp).start.fwDone = true := ((Stays.tripRaised s cause temp).part (·.start.fwDone)).trans hfw
  have hstart : s.thermalTrip cause temp = if (s.tripped cause temp).rd R.KEEPER_STATUS_SEQ_STATE = 1 then
      ({ s.tripped cause temp with keeper.waitStart := true } : State).startShutdown
      else if (s.tripped cause temp).coreOn then
        if (s.tripped cause temp).start.fwDone || (s.tripped cause temp).save.active then
          (s.tripped cause temp).startSave 7 .shutdown none none none else (s.tripped cause temp).startShutdown
      else s.tripped cause temp := by
    unfold State.thermalTrip
    rw [hsave]
    rfl
  rw [hstart, if_neg hup, if_pos hcore', hfw']
  rfl

theorem State.save_thermalTrip {s : State} (cause temp : Nat) (hcore : s.coreOn = true) (hsave : s.save.active = false)
    (hfw : s.start.fwDone = true) : (s.thermalTrip cause temp).save.active = true ∧ (s.thermalTrip cause temp).save.trigger = 7 ∧
      (s.thermalTrip cause temp).save.action = .shutdown ∧ (s.thermalTrip cause temp).save.onBank = true := by
  have hsave' : (s.tripped cause temp).save.active = false := ((Stays.tripRaised s cause temp).part (·.save.active)).trans hsave
  rw [State.thermalTrip_saves cause temp hcore hsave hfw,
    State.startSave_new _ 7 .shutdown none none none ((s.coreOn_tripped cause temp).trans hcore) hsave']
  exact ⟨rfl, rfl, rfl, rfl⟩

theorem exec_thermTripNAssert (s : State) (temp : Nat) (hkeeper : s.keeperRuns = true) (hdriven : s.keeper.thermDriven = false)
    (hact : (s.acceptInput 2 4 (sec 60)).1 = true) (hcore : s.coreOn = true) (hsave : s.save.active = false) (hfw : s.start.fwDone = true) :
    ∃ t, exec (.thermTripNAssert temp) s = .next t ∧ t.save.active = true ∧ t.save.trigger = 7 ∧ t.save.action = .shutdown ∧
      t.save.onBank = true ∧ t.keeper.thermInput = true ∧ t.keeper.thermAt = some s.now := by
  have haccept := Stays.acceptedInput s 2 4 (sec 60)
  have hexec : ∃ v, exec (.thermTripNAssert temp) s =
      .next (({ (s.acceptInput 2 4 (sec 60)).2 with keeper.thermInput := true } : State).thermalTrip 1 v) := by
    refine ⟨if ({ (s.acceptInput 2 4 (sec 60)).2 with keeper.thermInput := true } : State).coreOn then temp else 0xFF,
      congrArg Host.Outcome.next ((if_neg (by simp [hkeeper, hdriven])).trans ?_)⟩
    dsimp only
    rw [hact]
    exact if_pos rfl
  obtain ⟨v, hexec⟩ := hexec
  have hcore' : (s.acceptInput 2 4 (sec 60)).2.coreOn = true := (haccept.coreOn rfl).trans hcore
  have hsave' : (s.acceptInput 2 4 (sec 60)).2.save.active = false := (haccept.part (·.save.active)).trans hsave
  have hfw' : (s.acceptInput 2 4 (sec 60)).2.start.fwDone = true := (haccept.part (·.start.fwDone)).trans hfw
  have hnow : (s.acceptInput 2 4 (sec 60)).2.now = s.now := haccept.part (·.now)
  generalize (s.acceptInput 2 4 (sec 60)).2 = u at hexec hcore' hsave' hfw' hnow
  obtain ⟨hactive, htrigger, haction, hbank⟩ :=
    State.save_thermalTrip (s := { u with keeper.thermInput := true }) 1 v hcore' hsave' hfw'
  have hstarts := State.thermalTrip_saves (s := { u with keeper.thermInput := true }) 1 v hcore' hsave' hfw'
  have hsaved (w : State) : Stays .startSave w (w.startSave 7 .shutdown none none none) := .startSave .refl .self
  refine ⟨_, hexec, hactive, htrigger, haction, hbank, ?_, ?_⟩
  · rw [hstarts]
    exact ((hsaved _).part (·.keeper.thermInput)).trans ((Stays.tripRaised _ 1 v).part (·.keeper.thermInput))
  · rw [hstarts]
    exact ((hsaved _).part (·.keeper.thermAt)).trans (congrArg some hnow)

/-- What a new save stores once the hold-up test has ended. -/
def Scope.saveBegun : Scope := .of (fun z s => { s with
    regs := z.regs, hub := z.hub, rings := z.rings, msix := z.msix, keeper.flash.ram := z.keeper.flash.ram,
    keeper.flash.flood := z.keeper.flash.flood, keeper.flash.counters := z.keeper.flash.counters, save := z.save,
    twin.frame := z.twin.frame, twin.frameAt := z.twin.frameAt, twin.txSeq := z.twin.txSeq, twin.replayBuf := z.twin.replayBuf,
    twin.credit := z.twin.credit, twin.yield := z.twin.yield, twin.handover := z.twin.handover, domain.counter := z.domain.counter,
    out := z.out, pace.held := z.pace.held }) [.reg R.DUR_STATUS_SAVE_STEP, .reg R.KEEPER_STATUS_SEQ_STATE, .setPower, .keeperLog, .occur,
      .saveTwin]

theorem Stays.saveBegun {s : State} (trigger : Nat) (action : SaveAction) (hcore : s.coreOn = true) (hsave : s.save.active = false) :
    Stays .saveBegun (s.abortHoldupTest 3) (s.startSave trigger action none none none) := by
  have hv : Scope.saveBegun.Within .saveBegun := .self
  unfold State.startSave
  rw [if_neg (by simp [hcore]), if_neg (by simp [hsave])]
  generalize s.abortHoldupTest 3 = u
  exact .saveTwin (.occur (.keeperLog (.setPower (.wr (.wr (.upd .refl hv) (hv.sub 0)) (hv.sub 1)) (hv.sub 2)) (hv.sub 3)) (hv.sub 4)) (hv.sub 5)

/-- A hold-up test that ends takes back the discharge switch alone. -/
theorem State.outputs_abortHoldupTest (s : State) (result : Nat) {code : Nat} (hcode : code ≠ 0x14) :
    AMap.get? (s.abortHoldupTest result).keeper.outputs code = AMap.get? s.keeper.outputs code := by
  have hraised (t : State) : Stays .raise t (t.raise Ev.DURABILITY_HOLDUP_TEST_FAIL []) := .raise .refl .self
  unfold State.abortHoldupTest
  split
  · have hwrites : ((s.wr R.KEEPER_HOLDUP_STATUS_TEST_STATE 3).wr R.KEEPER_HOLDUP_STATUS_LAST_RESULT result).keeper.outputs = s.keeper.outputs := by
      simp
    refine (congrArg (AMap.get? · code) ((hraised _).part (·.keeper.outputs))).trans ?_
    dsimp only
    rw [hwrites, AMap.get?_set_ne _ _ (Ne.symm hcode)]
  · rfl

/-- A new save leaves the keeper's outputs but for the discharge switch of a hold-up test that it ends. -/
theorem State.outputs_startSave {s : State} (trigger : Nat) (action : SaveAction) (hcore : s.coreOn = true) (hsave : s.save.active = false)
    {code : Nat} (hcode : code ≠ 0x14) :
    AMap.get? (s.startSave trigger action none none none).keeper.outputs code = AMap.get? s.keeper.outputs code :=
  (congrArg (AMap.get? · code) ((Stays.saveBegun trigger action hcore hsave).part (·.keeper.outputs))).trans
    (s.outputs_abortHoldupTest 3 hcode)

theorem exec_junctionOvertemp (s : State) (temp : Nat) (hkeeper : s.keeperRuns = true) (hcore : s.coreOn = true) (htemp : 115 ≤ temp)
    (hdriven : s.keeper.thermDriven = false) (hsave : s.save.active = false) (hfw : s.start.fwDone = true) :
    ∃ t, exec (.junctionOvertemp temp) s = .next t ∧ t.keeper.thermDriven = true ∧ AMap.get? t.keeper.outputs 0x11 = some true ∧
      t.save.active = true ∧ t.save.trigger = 7 ∧ t.save.action = .shutdown := by
  have hexec : exec (.junctionOvertemp temp) s =
      .next (({ s with keeper.thermDriven := true, keeper.outputs := AMap.set s.keeper.outputs 0x11 true } : State).thermalTrip 0 temp) :=
    congrArg Host.Outcome.next (if_pos (by simp [hkeeper, hcore, htemp, hdriven]))
  have hset : AMap.get? (AMap.set s.keeper.outputs 0x11 true) 0x11 = some true := by simp
  have hcore' : ({ s with keeper.thermDriven := true, keeper.outputs := AMap.set s.keeper.outputs 0x11 true } : State).coreOn = true := hcore
  generalize hu : ({ s with keeper.thermDriven := true, keeper.outputs := AMap.set s.keeper.outputs 0x11 true } : State) = u at hexec hcore'
  have hsave' : u.save.active = false := hu ▸ hsave
  have hfw' : u.start.fwDone = true := hu ▸ hfw
  have hdriven' : u.keeper.thermDriven = true := hu ▸ rfl
  have houtput : AMap.get? u.keeper.outputs 0x11 = some true := hu ▸ hset
  have hraised := Stays.tripRaised u 0 temp
  obtain ⟨hactive, htrigger, haction, -⟩ := State.save_thermalTrip 0 temp hcore' hsave' hfw'
  have hstarts := State.thermalTrip_saves 0 temp hcore' hsave' hfw'
  have hcoreTripped := (u.coreOn_tripped 0 temp).trans hcore'
  have hsaveTripped : (u.tripped 0 temp).save.active = false := (hraised.part (·.save.active)).trans hsave'
  have hsaved : Stays .startSave (u.tripped 0 temp) ((u.tripped 0 temp).startSave 7 .shutdown none none none) := .startSave .refl .self
  refine ⟨_, hexec, ?_, ?_, hactive, htrigger, haction⟩
  · rw [hstarts]
    exact (hsaved.part (·.keeper.thermDriven)).trans ((hraised.part (·.keeper.thermDriven)).trans hdriven')
  · rw [hstarts, State.outputs_startSave 7 .shutdown hcoreTripped hsaveTripped (by decide)]
    exact (congrArg (AMap.get? · 0x11) (hraised.part (·.keeper.outputs))).trans houtput

/-! ### The cut, and the release -/

theorem State.loseCore_of_on {s : State} (hcore : s.coreOn = true) : s.loseCore.start.step = 0 ∧ s.loseCore.crypt.dramKey = 0 := by
  unfold State.loseCore
  rw [if_pos (by simp [hcore])]
  exact ⟨rfl, rfl⟩

theorem State.coreOn_of_seq {s : State} {n : Nat} (h : s.rd R.KEEPER_STATUS_SEQ_STATE = n) (h₂ : n ≠ 2) (h₃ : n ≠ 3) : s.coreOn = false := by
  simp [State.coreOn, h, h₂, h₃]

theorem State.coreOn_withKeeper (s : State) (k : Keeper) : State.coreOn { s with keeper := k } = s.coreOn := rfl

theorem State.coreOn_reachOff (s : State) : s.reachOff.coreOn = false := by
  have hseq : s.railsOff.rd R.KEEPER_STATUS_SEQ_STATE = 0 :=
    (Stays.rdN (.setPower .refl .self) R.KEEPER_STATUS_SEQ_STATE 0 rfl).trans
      ((Stays.rdN (.driveFeeds .refl .self) R.KEEPER_STATUS_SEQ_STATE 0 rfl).trans
        ((State.rd_wr_clear (s.wr R.KEEPER_STATUS_SEQ_STATE 0) 0 rfl).trans (State.rd_wr_fits s _ (by decide))))
  have hoff : s.railsOff.coreOn = false := State.coreOn_of_seq hseq (by decide) (by decide)
  have hset (n : Nat) (h : n < 2 ^ R.KEEPER_STATUS_SEQ_STATE.width) (h₂ : n ≠ 2) (h₃ : n ≠ 3) :
      (s.railsOff.wr R.KEEPER_STATUS_SEQ_STATE n).coreOn = false := State.coreOn_of_seq (State.rd_wr_fits _ _ h) h₂ h₃
  have hreach : s.reachOff = if s.railsOff.keeper.abortShutdown && !s.railsOff.keeper.waitStart then
      if 3 ≤ s.railsOff.rd R.KEEPER_STATUS_RETRIES then { s.railsOff.wr R.KEEPER_STATUS_SEQ_STATE 6 with keeper.retryAt := none } else s.railsOff
    else if s.railsOff.keeper.keepAfter && !s.railsOff.keeper.waitStart then s.railsOff
    else { s.railsOff.wr R.KEEPER_STATUS_SEQ_STATE 5 with
           keeper.holdEnd := some (s.railsOff.now + ms (100 * s.railsOff.rd R.KEEPER_CTRL_RESTART_HOLD_100MS)) } := rfl
  rw [hreach]
  split
  · split
    · exact (State.coreOn_withKeeper _ _).trans (hset 6 (by decide) (by decide) (by decide))
    · exact hoff
  · split
    · exact hoff
    · exact (State.coreOn_withKeeper _ _).trans (hset 5 (by decide) (by decide) (by decide))

/-- Cutting from step 1 leaves the core die without supply. -/
theorem State.coreOn_cutFrom_one (s : State) : (s.cutFrom 1).coreOn = false := by
  have hoff (l : List Nat) : (l.foldl (State.commandRail · false) ((s.wr R.KEEPER_STATUS_SEQ_STATE 4).wr R.KEEPER_STATUS_SEQ_STEP 1)).coreOn =
      false := by
    have hrails : Stays .commandRail ((s.wr R.KEEPER_STATUS_SEQ_STATE 4).wr R.KEEPER_STATUS_SEQ_STEP 1)
        (l.foldl (State.commandRail · false) ((s.wr R.KEEPER_STATUS_SEQ_STATE 4).wr R.KEEPER_STATUS_SEQ_STEP 1)) :=
      .foldl (fun _ _ h => .commandRail h .self) .refl
    refine State.coreOn_of_seq (n := 4) ((hrails.rdN _ 0 rfl).trans ?_) (by decide) (by decide)
    exact (State.rd_wr_clear (s.wr R.KEEPER_STATUS_SEQ_STATE 4) 1 rfl).trans (State.rd_wr_fits s _ (by decide))
  unfold State.cutFrom
  dsimp only
  rw [if_neg (by decide)]
  split
  · exact hoff _
  · exact State.coreOn_reachOff _

theorem exec_hardCutCondition (s : State) (temp : Nat) (hkeeper : s.keeperRuns = true) (hcore : s.coreOn = true) (htemp : 125 ≤ temp) :
    ∃ t, exec (.hardCutCondition temp) s = .next t ∧ t.coreOn = false ∧ t.save.active = false ∧ t.start.step = 0 ∧ t.crypt.dramKey = 0 := by
  have hexec : exec (.hardCutCondition temp) s =
      .next ((s.raiseKeeper Ev.POWER_THERMAL_TRIP [(1, 2), (1, temp)]).loseCore.cutFrom 1) :=
    congrArg Host.Outcome.next (if_pos (by simp [hkeeper, hcore, htemp]))
  obtain ⟨hstep, hkey⟩ := State.loseCore_of_on (((Stays.tripRaised s 2 temp).coreOn rfl).trans hcore)
  have hcut (t : State) : Stays .cutFrom t (t.cutFrom 1) := .cutFrom .refl .self
  exact ⟨_, hexec, State.coreOn_cutFrom_one _, ((hcut _).part (·.save.active)).trans (State.save_loseCore _),
    ((hcut _).part (·.start.step)).trans hstep, ((hcut _).part (·.crypt.dramKey)).trans hkey⟩

theorem exec_thermTripRelease (s : State) (temp : Nat) (hkeeper : s.keeperRuns = true) (hcore : s.coreOn = false) (htemp : temp < 70)
    (hdriven : s.keeper.thermDriven = true) :
    ∃ t, exec (.thermTripRelease temp) s = .next t ∧ t.keeper.thermDriven = false ∧ t.keeper.thermAt = none ∧
      AMap.get? t.keeper.outputs 0x11 = some false := by
  have hexec : exec (.thermTripRelease temp) s = .next
      (({ s with keeper.thermDriven := false, keeper.thermAt := none, keeper.outputs := AMap.set s.keeper.outputs 0x11 false } : State).tryPowerUp
        false) :=
    congrArg Host.Outcome.next (if_pos (by simp [hkeeper, hcore, htemp, hdriven]))
  have htry (t : State) : Stays .tryPowerUp t (t.tryPowerUp false) := .tryPowerUp .refl .self
  have hset : AMap.get? (AMap.set s.keeper.outputs 0x11 false) 0x11 = some false := by simp
  exact ⟨_, hexec, (htry _).part (·.keeper.thermDriven), (htry _).part (·.keeper.thermAt),
    (congrArg (AMap.get? · 0x11) ((htry _).part (·.keeper.outputs))).trans hset⟩

theorem exec_thermTripNReleased (s : State) (hkeeper : s.keeperRuns = true) (hdriven : s.keeper.thermDriven = false) :
    ∃ t, exec .thermTripNReleased s = .next t ∧ t.keeper.thermInput = false ∧ (t.input 2).active = false := by
  have hexec : exec .thermTripNReleased s = .next ((({ s with keeper.thermInput := false } : State).setInput 2
      { s.input 2 with active := false }).tryPowerUp false) :=
    congrArg Host.Outcome.next (if_pos (by simp [hkeeper, hdriven]))
  have htry (t : State) : Stays .tryPowerUp t (t.tryPowerUp false) := .tryPowerUp .refl .self
  refine ⟨_, hexec, (htry _).part (·.keeper.thermInput), ?_⟩
  rw [State.input_congr ((htry _).part (·.keeper.inputs)), State.input_setInput]

/-! ### Outputs and clocks -/

theorem exec_outputReadbackMismatch (s : State) (hkeeper : s.keeperRuns = true) (hdriven : AMap.get? s.keeper.outputs 0x12 = some true) :
    ∃ t, exec (.outputReadbackMismatch 0x12 false) s = .next t ∧ t.keeper.feedA.badEn = true ∧ t.feedUsable true = false := by
  have hexec : exec (.outputReadbackMismatch 0x12 false) s =
      .next ({ s.raiseKeeper Ev.POWER_INPUT_STUCK [(1, 0x12), (1, 1)] with keeper.feedA.badEn := true } : State).driveFeeds := by
    refine congrArg Host.Outcome.next ?_
    dsimp only
    rw [hdriven]
    exact (if_neg (by simp)).trans ((if_pos (by simp [hkeeper])).trans (if_pos (by decide)))
  have hbad : ({ s.raiseKeeper Ev.POWER_INPUT_STUCK [(1, 0x12), (1, 1)] with keeper.feedA.badEn := true } : State).driveFeeds.keeper.feedA.badEn =
      true := Stays.part (·.keeper.feedA.badEn) (.driveFeeds .refl .self)
  refine ⟨_, hexec, hbad, ?_⟩
  have husable (t : State) (h : t.keeper.feedA.badEn = true) : t.feedUsable true = false := by
    unfold State.feedUsable State.feed
    rw [if_pos rfl, h, Bool.not_true, Bool.and_false]
  exact husable _ hbad

/-- What a lost clock stops. -/
def State.clockStopped (s : State) (code : Nat) : State :=
  if !s.coreOn then s
  else match code with
    | 0x21 => ((List.range 16).foldl (fun s n => (s.port n).links.foldl (fun s e => s.setLink n e.1 0) s) s).brazeDown
    | 0x22 => s.dropRings.orphanCommands
    | 0x23 => if s.save.active || !s.start.fwDone then s else s.startSave 6 .restart none none none
    | _ => s.setSynced false

theorem State.clockStopped_keeps (s : State) (code : Nat) : (s.clockStopped code).keeper.clocksLost = s.keeper.clocksLost ∧
    (s.clockStopped code).time.onDdrClock = s.time.onDdrClock := by
  have hkeep {W : Scope} {t u : State} (h : Stays W t u) (hclocks : ∀ z s, (W.rest z s).keeper.clocksLost = s.keeper.clocksLost)
      (hddr : ∀ z s, (W.rest z s).time.onDdrClock = s.time.onDdrClock) :
      u.keeper.clocksLost = t.keeper.clocksLost ∧ u.time.onDdrClock = t.time.onDdrClock :=
    ⟨h.part (·.keeper.clocksLost) hclocks, h.part (·.time.onDdrClock) hddr⟩
  unfold State.clockStopped
  split
  · exact ⟨rfl, rfl⟩
  · split
    · have hlinks : Stays .setLink s ((List.range 16).foldl (fun s n => (s.port n).links.foldl (fun s e => s.setLink n e.1 0) s) s) :=
        .foldl (fun _ _ h => .foldl (fun _ _ h => .setLink h .self) h) .refl
      have hdown (t : State) : Stays .brazeDown t t.brazeDown := .brazeDown .refl .self
      obtain ⟨hclocks, hddr⟩ := hkeep hlinks (fun _ _ => rfl) (fun _ _ => rfl)
      obtain ⟨hclocks', hddr'⟩ := hkeep (hdown _) (fun _ _ => rfl) (fun _ _ => rfl)
      exact ⟨hclocks'.trans hclocks, hddr'.trans hddr⟩
    · have hdropped : Stays .dropRings s s.dropRings := .dropRings .refl .self
      have horphans : Stays .orphanCommands s.dropRings s.dropRings.orphanCommands := .orphanCommands .refl .self
      obtain ⟨hclocks, hddr⟩ := hkeep hdropped (fun _ _ => rfl) (fun _ _ => rfl)
      obtain ⟨hclocks', hddr'⟩ := hkeep horphans (fun _ _ => rfl) (fun _ _ => rfl)
      exact ⟨hclocks'.trans hclocks, hddr'.trans hddr⟩
    · exact hkeep (W := .startSave) (.unless .refl (fun h => .startSave h .self)) (fun _ _ => rfl) (fun _ _ => rfl)
    · exact hkeep (W := .setSynced) (.setSynced .refl .self) (fun _ _ => rfl) (fun _ _ => rfl)

/-- A lost clock as the log and the time unit show it. -/
def State.clockLost (s : State) (code : Nat) : State :=
  let s := ({ s with keeper.clocksLost := s.keeper.clocksLost ++ [code] }).raiseKeeper Ev.POWER_INPUT_STUCK [(1, code), (1, 3)]
  if code = 0x24 then { s with time.onDdrClock := true } else s

theorem State.clockLost_leaves (s : State) (code : Nat) : (s.clockLost code).keeper.clocksLost = s.keeper.clocksLost ++ [code] ∧
    (code = 0x24 → (s.clockLost code).time.onDdrClock = true) := by
  have hraised (t : State) : Stays .raiseKeeper t (t.raiseKeeper Ev.POWER_INPUT_STUCK [(1, code), (1, 3)]) := .raiseKeeper .refl .self
  have hclocks := (hraised { s with keeper.clocksLost := s.keeper.clocksLost ++ [code] }).part (·.keeper.clocksLost)
  unfold State.clockLost
  dsimp only
  split
  · exact ⟨hclocks, fun _ => rfl⟩
  next h => exact ⟨hclocks, fun hcode => absurd hcode h⟩

theorem exec_refclkLost (s : State) (code : Nat) (hkeeper : s.keeperRuns = true) (hlow : 0x21 ≤ code) (hhigh : code ≤ 0x24)
    (hnew : s.keeper.clocksLost.contains code = false) :
    ∃ t, exec (.refclkLost code) s = .next t ∧ t.keeper.clocksLost = s.keeper.clocksLost ++ [code] ∧
      (code = 0x24 → t.time.onDdrClock = true) := by
  have hexec : exec (.refclkLost code) s = .next ((s.clockLost code).clockStopped code) :=
    congrArg Host.Outcome.next (if_pos (by rw [hnew]; simp [hkeeper, hlow, hhigh]))
  obtain ⟨hclocks, hddr⟩ := s.clockLost_leaves code
  obtain ⟨hclocks', hddr'⟩ := (s.clockLost code).clockStopped_keeps code
  exact ⟨_, hexec, hclocks'.trans hclocks, fun h => hddr'.trans (hddr h)⟩

theorem exec_refclkRegained (s : State) (code : Nat) (hkeeper : s.keeperRuns = true) (hlost : s.keeper.clocksLost.contains code = true) :
    ∃ t, exec (.refclkRegained code) s = .next t ∧ t.keeper.clocksLost = s.keeper.clocksLost.filter (· != code) ∧
      (code = 0x24 → t.time.onDdrClock = false) := by
  have hguard : (s.keeperRuns && s.keeper.clocksLost.contains code) = true := by rw [hkeeper, hlost]; rfl
  by_cases hddr : code = 0x24
  · exact ⟨_, congrArg Host.Outcome.next ((if_pos hguard).trans (if_pos hddr)), rfl, fun _ => rfl⟩
  · refine ⟨_, congrArg Host.Outcome.next ((if_pos hguard).trans (if_neg hddr)), ?_, fun h => absurd h hddr⟩
    split
    · exact Stays.part (·.keeper.clocksLost) (.brazeRetrain .refl .self)
    · rfl

theorem exec_mgmtBusHeldLow (s : State) (hkeeper : s.keeperRuns = true) (hbus : s.keeper.mboxI3c = false) :
    ∃ t, exec .mgmtBusHeldLow s = .next t ∧ t.out = s.out ++ [.mgmtBusReleased] ∧ t.regs = s.regs :=
  ⟨_, congrArg Host.Outcome.next (if_pos (by simp [hkeeper, hbus])), rfl, rfl⟩

/-- Settles O18: each row's own writes, with what the event log, a save and power-up leave of the inputs and outputs. -/
theorem sidebandInputsAndClocks : Obligations.SidebandInputsAndClocks := by
  unfold Obligations.SidebandInputsAndClocks
  exact ⟨exec_resetNAssert, exec_thermTripNAssert, exec_junctionOvertemp, exec_hardCutCondition, exec_thermTripRelease,
    exec_thermTripNReleased, exec_inputStuckTimer, exec_inputStuckTimer_pps, exec_inputUnmask, exec_outputReadbackMismatch, exec_refclkLost,
    exec_refclkRegained, exec_mgmtBusHeldLow⟩

end

end Sys2Proof.Machine


/-! Frames of the time unit -/

namespace Sys2Proof.Machine

open Sys2Proof

section

set_option Elab.async false

def Scope.flagWindow : Scope := .of (fun z s => { s with meter.current := z.meter.current }) []

theorem Stays.flagWindow {V : Scope} {s₀ s : State} {f : Nat} (h : Stays V s₀ s) (hv : Scope.flagWindow.Within V) : Stays V s₀
    (s.flagWindow f) :=
  .upd h hv

def Scope.judgeSync : Scope := .of (fun z s => { s with
    regs := z.regs, time.holdover := z.time.holdover, time.goodSince := z.time.goodSince, hub := z.hub, rings := z.rings,
    msix := z.msix, keeper.flash.ram := z.keeper.flash.ram, keeper.flash.flood := z.keeper.flash.flood,
    keeper.flash.counters := z.keeper.flash.counters, out := z.out }) [.setSynced]

theorem Stays.judgeSync {V : Scope} {s₀ s : State} (h : Stays V s₀ s) (hv : Scope.judgeSync.Within V) : Stays V s₀ (s.judgeSync) :=
  .ite (.ite (.setSynced (.upd h hv) (hv.sub 0)) (.upd h hv)) (.ite (.setSynced (.upd h hv) (hv.sub 0)) (.upd h hv))

def Scope.growUncertainty : Scope := .of (fun z s => { s with
    regs := z.regs, time.holdover := z.time.holdover, time.goodSince := z.time.goodSince, hub := z.hub, rings := z.rings,
    msix := z.msix, keeper.flash.ram := z.keeper.flash.ram, keeper.flash.flood := z.keeper.flash.flood,
    keeper.flash.counters := z.keeper.flash.counters, out := z.out }) [.judgeSync, .reg R.DOMAIN_TIME_UNCERT_UNCERTAINTY_NS]

theorem Stays.growUncertainty {V : Scope} {s₀ s : State} (h : Stays V s₀ s) (hv : Scope.growUncertainty.Within V) : Stays V s₀
    (s.growUncertainty) :=
  .ite (.judgeSync h (hv.sub 0)) (.judgeSync (.wr h (hv.sub 1)) (hv.sub 0))

def Scope.announceTime : Scope := .of (fun z s => { s with out := z.out }) [.send]

theorem Stays.announceTime {V : Scope} {s₀ s : State} (h : Stays V s₀ s) (hv : Scope.announceTime.Within V) : Stays V s₀
    (s.announceTime) :=
  .ite (.send h (hv.sub 0)) h

def Scope.sample : Scope := .of (fun z s => { s with meter.current := z.meter.current, meter.settling := z.meter.settling })
  [.charge]

theorem Stays.sample {V : Scope} {s₀ s : State} {account : Nat} {i : Nat} {n : Nat} (h : Stays V s₀ s) (hv : Scope.sample.Within V)
    : Stays V s₀ (s.sample account i n) :=
  .charge h (hv.sub 0)

def Scope.sampleResidency : Scope := .of (fun z s => { s with meter.current := z.meter.current, meter.settling := z.meter.settling
  }) [.sample]

theorem Stays.sampleResidency {V : Scope} {s₀ s : State} (h : Stays V s₀ s) (hv : Scope.sampleResidency.Within V) : Stays V s₀
    (s.sampleResidency) :=
  .ite h (.upd (.foldl (fun _ _ h => .sample h (hv.sub 0)) (.foldl (fun _ _ h => .sample h (hv.sub 0)) (.foldl (fun _ _ h => .ite
    (.sample h (hv.sub 0)) h) h))) hv)

def Scope.meterStep : Scope := .of (fun z s => { s with
    regs := z.regs, hub := z.hub, rings := z.rings, msix := z.msix, keeper.flash.ram := z.keeper.flash.ram,
    keeper.flash.flood := z.keeper.flash.flood, keeper.flash.counters := z.keeper.flash.counters, eng.ops := z.eng.ops,
    meter.accounts := z.meter.accounts, meter.current := z.meter.current, meter.settling := z.meter.settling,
    meter.last := z.meter.last, meter.held := z.meter.held, meter.aggregates := z.meter.aggregates,
    meter.seqs := z.meter.seqs, domain.counter := z.domain.counter, domain.nextMsg := z.domain.nextMsg,
    domain.requests := z.domain.requests, out := z.out }) [.flagWindow, .raise, .closeWindow]

theorem Stays.meterStep {V : Scope} {s₀ s : State} {forward : Bool} (h : Stays V s₀ s) (hv : Scope.meterStep.Within V) : Stays V s₀
    (s.meterStep forward) :=
  .when (.raise (.flagWindow h (hv.sub 0)) (hv.sub 1)) (fun h => .flagWindow (.closeWindow h (hv.sub 2)) (hv.sub 0))

def Scope.stepTime : Scope := .of (fun z s => { s with
    regs := z.regs, time.tai := z.time.tai, time.second := z.time.second, time.stepped := z.time.stepped, hub := z.hub,
    rings := z.rings, msix := z.msix, keeper.flash.ram := z.keeper.flash.ram, keeper.flash.flood := z.keeper.flash.flood,
    keeper.flash.counters := z.keeper.flash.counters, eng.ops := z.eng.ops, meter.accounts := z.meter.accounts,
    meter.current := z.meter.current, meter.settling := z.meter.settling, meter.last := z.meter.last,
    meter.held := z.meter.held, meter.aggregates := z.meter.aggregates, meter.seqs := z.meter.seqs,
    domain.counter := z.domain.counter, domain.nextMsg := z.domain.nextMsg, domain.requests := z.domain.requests,
    out := z.out }) [.reg R.DOMAIN_TIME_STEPS, .raise, .meterStep]

theorem Stays.stepTime {V : Scope} {s₀ s : State} {tai : Nat} (h : Stays V s₀ s) (hv : Scope.stepTime.Within V) : Stays V s₀
    (s.stepTime tai) :=
  .meterStep (.raise (.bump (.upd h hv) (hv.sub 0)) (hv.sub 1)) (hv.sub 2)

def Scope.correct : Scope := .of (fun z s => { s with
    regs := z.regs, time.tai := z.time.tai, time.second := z.time.second, time.holdover := z.time.holdover,
    time.stepped := z.time.stepped, time.goodSince := z.time.goodSince, time.lastSync := z.time.lastSync, hub := z.hub,
    rings := z.rings, msix := z.msix, keeper.flash.ram := z.keeper.flash.ram, keeper.flash.flood := z.keeper.flash.flood,
    keeper.flash.counters := z.keeper.flash.counters, eng.ops := z.eng.ops, meter.accounts := z.meter.accounts,
    meter.current := z.meter.current, meter.settling := z.meter.settling, meter.last := z.meter.last,
    meter.held := z.meter.held, meter.aggregates := z.meter.aggregates, meter.seqs := z.meter.seqs,
    domain.counter := z.domain.counter, domain.nextMsg := z.domain.nextMsg, domain.requests := z.domain.requests,
    out := z.out }) [.reg R.DOMAIN_TIME_OFFSET_OFFSET_NS, .reg R.DOMAIN_TIME_UNCERT_UNCERTAINTY_NS, .stepTime, .judgeSync]

theorem Stays.correct {V : Scope} {s₀ s : State} {ahead : Bool} {n : Nat} {uncertainty : Nat} (h : Stays V s₀ s) (hv :
    Scope.correct.Within V) : Stays V s₀ (s.correct ahead n uncertainty) :=
  .judgeSync (.upd (.iteOn (.wr (.wr h (hv.sub 0)) (hv.sub 1)) (fun h => .stepTime h (hv.sub 2)) (fun h => .upd h hv)) hv) (hv.sub 3)

end

end Sys2Proof.Machine


/-! The time unit and the metering windows that it closes (R324, R325, R329, R350, R351, R489). -/

namespace Sys2Proof.Machine

open Sys2Proof

section

set_option Elab.async false

/-! ### Corrections of TAI -/

/-- The measured offset and its uncertainty. -/
def State.offsetMeasured (s : State) (ahead : Bool) (n uncertainty : Nat) : State :=
  (s.wr R.DOMAIN_TIME_OFFSET_OFFSET_NS (signed32 ahead n)).wr R.DOMAIN_TIME_UNCERT_UNCERTAINTY_NS (min uncertainty (2 ^ 32 - 1))

/-- TAI, moved by `k`. -/
def State.taiMoved (s : State) (ahead : Bool) (k : Nat) : Nat := if ahead then s.time.tai - k else s.time.tai + k

/-- The local clock once it has taken the correction `n`. -/
def State.clockMoved (s : State) (ahead : Bool) (n k : Nat) : State :=
  if !s.time.stepped || decide (us (s.rd R.DOMAIN_TIME_LIMITS_STEP_US) < n) then s.stepTime (s.taiMoved ahead n)
  else { s with time.tai := s.taiMoved ahead k }

/-- The correction before the clock judges its synchronisation. -/
def State.clockCorrected (s : State) (ahead : Bool) (n uncertainty : Nat) : State :=
  let u := (s.offsetMeasured ahead n uncertainty).clockMoved ahead n (min n ((s.now - s.time.lastSync.getD s.now) / 10000))
  { u with time.lastSync := some u.now }

theorem State.correct_eq (s : State) (ahead : Bool) (n uncertainty : Nat) :
    s.correct ahead n uncertainty = (s.clockCorrected ahead n uncertainty).judgeSync := rfl

theorem signed32_lt (ahead : Bool) (n : Nat) : signed32 ahead n < 2 ^ R.DOMAIN_TIME_OFFSET_OFFSET_NS.width := by
  unfold signed32
  split
  · exact Nat.mod_lt _ (by decide)
  · exact Nat.mod_lt _ (by decide)

theorem Stays.offsetMeasured (s : State) (ahead : Bool) (n uncertainty : Nat) : Stays .correct s (s.offsetMeasured ahead n uncertainty) := by
  have hv : Scope.correct.Within .correct := .self
  exact .wr (.wr .refl (hv.sub 0)) (hv.sub 1)

theorem State.time_offsetMeasured (s : State) (ahead : Bool) (n uncertainty : Nat) : (s.offsetMeasured ahead n uncertainty).time = s.time := by
  simp [State.offsetMeasured]

theorem Stays.clockMoved (s : State) (ahead : Bool) (n k : Nat) : Stays .stepTime s (s.clockMoved ahead n k) :=
  .ite (.stepTime .refl .self) (.upd .refl .self)

theorem State.tai_stepTime (s : State) (tai : Nat) : (s.stepTime tai).time.tai = tai := by
  have hbump (t : State) : (t.bump R.DOMAIN_TIME_STEPS 1).time = t.time := by simp
  have hraise (t : State) : Stays .raise t (t.raise Ev.DOMAIN_TIME_STEP []) := .raise .refl .self
  unfold State.stepTime
  exact (Stays.part (·.time.tai) (.meterStep .refl .self)).trans (((hraise _).part (·.time.tai)).trans (congrArg (·.tai) (hbump _)))

/-- A clock that has not stepped, or that is further out than STEP_US, steps by the whole offset. -/
theorem State.tai_clockMoved {s : State} (ahead : Bool) (n k : Nat)
    (h : s.time.stepped = false ∨ us (s.rd R.DOMAIN_TIME_LIMITS_STEP_US) < n) : (s.clockMoved ahead n k).time.tai = s.taiMoved ahead n := by
  have hsteps : (!s.time.stepped || decide (us (s.rd R.DOMAIN_TIME_LIMITS_STEP_US) < n)) = true := by
    rcases h with h | h
    · simp [h]
    · simp [h]
  unfold State.clockMoved
  rw [if_pos hsteps, State.tai_stepTime]

/-- A correction leaves the measured offset, its own time, and a step where the clock steps. -/
theorem State.correct_leaves (s : State) (ahead : Bool) (n uncertainty : Nat) :
    (s.correct ahead n uncertainty).rd R.DOMAIN_TIME_OFFSET_OFFSET_NS = signed32 ahead n ∧
      (s.correct ahead n uncertainty).time.lastSync = some s.now ∧
      (s.time.stepped = false ∨ us (s.rd R.DOMAIN_TIME_LIMITS_STEP_US) < n → (s.correct ahead n uncertainty).time.tai = s.taiMoved ahead n) := by
  have hmeasured := Stays.offsetMeasured s ahead n uncertainty
  have hmoved := Stays.clockMoved (s.offsetMeasured ahead n uncertainty) ahead n (min n ((s.now - s.time.lastSync.getD s.now) / 10000))
  have hjudged : Stays .judgeSync (s.clockCorrected ahead n uncertainty) (s.clockCorrected ahead n uncertainty).judgeSync := .judgeSync .refl .self
  have hoffset : (s.offsetMeasured ahead n uncertainty).rd R.DOMAIN_TIME_OFFSET_OFFSET_NS = signed32 ahead n :=
    (State.rd_wr_clear _ _ rfl).trans (State.rd_wr_fits s _ (signed32_lt ahead n))
  rw [State.correct_eq]
  refine ⟨?_, ?_, fun h => ?_⟩
  · exact (hjudged.rdN _ 0 rfl).trans ((hmoved.rdN _ 0 rfl).trans hoffset)
  · exact (hjudged.part (·.time.lastSync)).trans (congrArg some ((hmoved.part (·.now)).trans (hmeasured.part (·.now))))
  · have hlimit : (s.offsetMeasured ahead n uncertainty).rd R.DOMAIN_TIME_LIMITS_STEP_US = s.rd R.DOMAIN_TIME_LIMITS_STEP_US :=
      hmeasured.rdN _ 0 rfl
    have htime := s.time_offsetMeasured ahead n uncertainty
    have hstep := State.tai_clockMoved (s := s.offsetMeasured ahead n uncertainty) ahead n
      (min n ((s.now - s.time.lastSync.getD s.now) / 10000)) (by rw [htime, hlimit]; exact h)
    refine (hjudged.part (·.time.tai)).trans (hstep.trans ?_)
    unfold State.taiMoved
    rw [htime]

/-- The state with a PTP message's TAI to UTC offset and its announced leap. -/
def State.utcAnnounced (s : State) (utc : Nat) (leap : Bool) : State :=
  (s.wr R.DOMAIN_TIME_STATUS_TAI_UTC_S utc).flag R.DOMAIN_TIME_STATUS_LEAP_PENDING leap

theorem exec_ptpMessage (s : State) (domain offset uncertainty utc : Nat) (ahead leap : Bool) (hcore : s.coreOn = true)
    (hsave : s.save.active = false) (hdomain : domain = s.rd R.DOMAIN_TIME_CTRL_PTP_DOMAIN) (hpps : s.rd R.DOMAIN_TIME_CTRL_SOURCE ≠ 1)
    (hfree : s.rd R.DOMAIN_TIME_CTRL_SOURCE ≠ 2) :
    ∃ t, exec (.ptpMessage domain ahead offset uncertainty utc leap) s = .next t ∧
      t.rd R.DOMAIN_TIME_STATUS_TAI_UTC_S = utc % 2 ^ R.DOMAIN_TIME_STATUS_TAI_UTC_S.width ∧
      t.rd R.DOMAIN_TIME_OFFSET_OFFSET_NS = signed32 ahead offset ∧ t.time.lastSync = some s.now ∧
      ((s.time.stepped = false ∨ us (s.rd R.DOMAIN_TIME_LIMITS_STEP_US) < offset) →
        t.time.tai = (if ahead then s.time.tai - offset else s.time.tai + offset)) := by
  have hexec : exec (.ptpMessage domain ahead offset uncertainty utc leap) s = .next ((s.utcAnnounced utc leap).correct ahead offset uncertainty) :=
    congrArg Host.Outcome.next ((if_neg (by simp [hcore, hsave, ← hdomain, hfree])).trans (if_neg hpps))
  obtain ⟨hoffset, hsync, htai⟩ := (s.utcAnnounced utc leap).correct_leaves ahead offset uncertainty
  have htime : (s.utcAnnounced utc leap).time = s.time := by simp [State.utcAnnounced]
  have hlimit : (s.utcAnnounced utc leap).rd R.DOMAIN_TIME_LIMITS_STEP_US = s.rd R.DOMAIN_TIME_LIMITS_STEP_US :=
    (State.rd_wr_clear _ _ rfl).trans (State.rd_wr_clear s utc rfl)
  have hutc : (s.utcAnnounced utc leap).rd R.DOMAIN_TIME_STATUS_TAI_UTC_S = utc % 2 ^ R.DOMAIN_TIME_STATUS_TAI_UTC_S.width :=
    (State.rd_wr_clear _ _ rfl).trans (State.rd_wr_self s _ utc)
  have hnow : (s.utcAnnounced utc leap).now = s.now := congrArg (·.count) htime
  unfold State.taiMoved at htai
  rw [htime, hlimit] at htai
  exact ⟨_, hexec, (Stays.rdN (.correct .refl .self) R.DOMAIN_TIME_STATUS_TAI_UTC_S 0 rfl).trans hutc, hoffset, hsync.trans (congrArg some hnow), htai⟩

theorem exec_ppsInEdge (s : State) (uncertainty : Nat) (hcore : s.coreOn = true) (hsave : s.save.active = false)
    (hsource : s.rd R.DOMAIN_TIME_CTRL_SOURCE = 1) (hact : (s.acceptInput 6 1 (ms 900)).1 = true) :
    ∃ t, exec (.ppsInEdge uncertainty) s = .next t ∧ t.time.lastPps = some s.now ∧ t.time.lastSync = some s.now := by
  have haccept := Stays.acceptedInput s 6 1 (ms 900)
  have hnow : (s.acceptInput 6 1 (ms 900)).2.now = s.now := haccept.part (·.now)
  have hexec : exec (.ppsInEdge uncertainty) s = .next (if (s.acceptInput 6 1 (ms 900)).2.time.tai % sec 1 < ms 500 then
      ({ (s.acceptInput 6 1 (ms 900)).2 with time.lastPps := some (s.acceptInput 6 1 (ms 900)).2.now } : State).correct true
        ((s.acceptInput 6 1 (ms 900)).2.time.tai % sec 1) uncertainty
      else ({ (s.acceptInput 6 1 (ms 900)).2 with time.lastPps := some (s.acceptInput 6 1 (ms 900)).2.now } : State).correct false
        (sec 1 - (s.acceptInput 6 1 (ms 900)).2.time.tai % sec 1) uncertainty) := by
    refine congrArg Host.Outcome.next ((if_neg (by simp [hcore, hsave, hsource])).trans ?_)
    dsimp only
    rw [hact]
    rfl
  generalize (s.acceptInput 6 1 (ms 900)).2 = u at hexec hnow
  have hcorrect (ahead : Bool) (n : Nat) :
      (({ u with time.lastPps := some u.now } : State).correct ahead n uncertainty).time.lastPps = some s.now ∧
        (({ u with time.lastPps := some u.now } : State).correct ahead n uncertainty).time.lastSync = some s.now := by
    have hstays : Stays .correct ({ u with time.lastPps := some u.now } : State)
      (({ u with time.lastPps := some u.now } : State).correct ahead n uncertainty) := .correct .refl .self
    obtain ⟨-, hsync, -⟩ := State.correct_leaves { u with time.lastPps := some u.now } ahead n uncertainty
    exact ⟨(hstays.part (·.time.lastPps)).trans (congrArg some hnow), hsync.trans (congrArg some hnow)⟩
  refine ⟨_, hexec, ?_⟩
  split
  · exact hcorrect _ _
  · exact hcorrect _ _

theorem exec_taiSecond (s : State) (hcore : s.coreOn = true) (hsave : s.save.active = false) (hnew : s.taiSeconds ≠ s.time.second) :
    ∃ t, exec .taiSecond s = .next t ∧ t.time.second = s.taiSeconds ∧
      t.time.pulseEnd = some (s.now + (ms 100 - min (ms 100) (s.time.tai % sec 1))) := by
  have hexec : exec .taiSecond s = .next (({ s with time.second := s.taiSeconds, time.pulseEnd := some (s.now + (ms 100 - min (ms 100) (s.time.tai %
      sec 1))) } : State).growUncertainty.meterSync.closeDue.sampleResidency.announceTime) :=
    congrArg Host.Outcome.next (if_neg (by simp [hcore, hsave, hnew]))
  generalize hu : ({ s with time.second := s.taiSeconds, time.pulseEnd := some (s.now + (ms 100 - min (ms 100) (s.time.tai % sec 1))) } : State) = u
    at hexec
  have hgrow : Stays .growUncertainty u u.growUncertainty := .growUncertainty .refl .self
  have hsync (t : State) : Stays .meterSync t t.meterSync := .meterSync .refl .self
  have hclose (t : State) : Stays .closeDue t t.closeDue := .closeDue .refl .self
  have hsample (t : State) : Stays .sampleResidency t t.sampleResidency := .sampleResidency .refl .self
  have hannounce (t : State) : Stays .announceTime t t.announceTime := .announceTime .refl .self
  refine ⟨_, hexec, ?_, ?_⟩
  · exact ((hannounce _).part (·.time.second)).trans (((hsample _).part (·.time.second)).trans (((hclose _).part (·.time.second)).trans
      (((hsync _).part (·.time.second)).trans ((hgrow.part (·.time.second)).trans (hu ▸ rfl)))))
  · exact ((hannounce _).part (·.time.pulseEnd)).trans (((hsample _).part (·.time.pulseEnd)).trans (((hclose _).part (·.time.pulseEnd)).trans
      (((hsync _).part (·.time.pulseEnd)).trans ((hgrow.part (·.time.pulseEnd)).trans (hu ▸ rfl)))))

theorem exec_ptpPpsOutFall (s : State) (hcore : s.coreOn = true) (hdue : due s.now s.time.pulseEnd = true) :
    exec .ptpPpsOutFall s = .next { s with time.pulseEnd := none } :=
  congrArg Host.Outcome.next (if_pos (by simp [hcore, hdue]))

/-! ### Metering windows -/

theorem State.meterSync_settling {s : State} (h : s.meter.settling = none) : s.meterSync.rd R.METER_STATUS_SETTLING = 0 := by
  have hflag (t : State) (ht : t.meter.settling = none) : (t.flag R.METER_STATUS_SETTLING t.meter.settling.isSome).rd R.METER_STATUS_SETTLING = 0 := by
    rw [ht]
    exact State.rd_flag_self _ _ _ (by decide)
  unfold State.meterSync
  dsimp only
  split
  · exact hflag s h
  · have hraised : Stays .raise (s.flag R.METER_STATUS_UNSYNCED !s.on R.DOMAIN_TIME_STATUS_SYNCED)
        ((s.flag R.METER_STATUS_UNSYNCED !s.on R.DOMAIN_TIME_STATUS_SYNCED).raise Ev.METER_TIME_UNSYNCED []) := .raise .refl .self
    refine hflag _ ((hraised.part (·.meter.settling)).trans ?_)
    simpa using h

/-- Late operations change a window's charges, not its number. -/
theorem Window.id_foldl_addLate (l : List Op) (w : Window) : (l.foldl Window.addLate w).id = w.id := by
  induction l generalizing w with
  | nil => rfl
  | cons o l ih => exact ih (w.addLate o)

theorem State.last_settled (s : State) (w : Window) : (s.settled w).meter.last = some w := by
  have hexport (t : State) (l : AMap Charges) : Stays .exportAccount t (l.foldl (fun s e => s.exportAccount w e.1 e.2) t) :=
    .foldl (fun _ _ h => .exportAccount h .self) .refl
  have hfree (t : State) : Stays .freeAccounts t t.freeAccounts := .freeAccounts .refl .self
  unfold State.settled
  exact ((hfree _).part (·.meter.last)).trans ((hexport _ _).part (·.meter.last))

/-- A window that settles is no longer the one that settles, and is the last one. -/
theorem State.settleWindow_leaves {s : State} {w : Window} (hsettling : s.meter.settling = some w) :
    s.settleWindow.meter.settling = none ∧ s.settleWindow.rd R.METER_STATUS_SETTLING = 0 ∧
      s.settleWindow.meter.last.map (·.id) = some w.id := by
  have hbump (t : State) (n : Nat) (h : t.meter.settling = none) : (t.bump R.METER_LATE_OPS n).meter.settling = none := by simpa using h
  have hsettled (t : State) (v : Window) (h : t.meter.settling = none) (hid : v.id = w.id) :
      (t.settled v).meterSync.meter.settling = none ∧ (t.settled v).meterSync.rd R.METER_STATUS_SETTLING = 0 ∧
        (t.settled v).meterSync.meter.last.map (·.id) = some w.id := by
    have hsync : Stays .meterSync (t.settled v) (t.settled v).meterSync := .meterSync .refl .self
    have hnone : (t.settled v).meter.settling = none := (Stays.part (·.meter.settling) (.settled .refl .self)).trans h
    refine ⟨(hsync.part (·.meter.settling)).trans hnone, State.meterSync_settling hnone, ?_⟩
    rw [hsync.part (·.meter.last), State.last_settled]
    exact congrArg some hid
  unfold State.settleWindow
  rw [hsettling]
  exact hsettled _ _ (hbump _ _ rfl) (Window.id_foldl_addLate _ w)

theorem exec_settleLimit (s : State) (w : Window) (hsettling : s.meter.settling = some w) (hcore : s.coreOn = true)
    (hsave : s.save.active = false) (hdue : due s.now (w.ended.map (· + sec (s.rd R.METER_CTRL_SETTLE_S))) = true) :
    ∃ t, exec .settleLimit s = .next t ∧ t.meter.settling = none ∧ t.rd R.METER_STATUS_SETTLING = 0 ∧
      t.meter.last.map (·.id) = some w.id := by
  have hexec : exec .settleLimit s = .next s.settleWindow := by
    refine congrArg Host.Outcome.next ?_
    rw [hsettling]
    exact if_pos (by simp [hcore, hsave, hdue])
  exact ⟨_, hexec, State.settleWindow_leaves hsettling⟩

theorem exec_aggWaitTimer (s : State) (tenant start n : Nat) (a : Aggregate)
    (hfind : s.meter.aggregates.find? (fun a => a.tenant == tenant && a.start == start) = some a) (hring : s.sinkRing = some n)
    (hcore : s.coreOn = true) (hsave : s.save.active = false) (hdue : s.aggregateDue start = true) :
    ∃ t, exec (.aggWaitTimer tenant start) s = .next t ∧ t.meter.aggregates = s.meter.aggregates.erase a := by
  have hexec : exec (.aggWaitTimer tenant start) s =
      .next (({ s with meter.aggregates := s.meter.aggregates.erase a } : State).exportRecord n (s.aggregateRecord a false)) := by
    refine congrArg Host.Outcome.next ?_
    rw [hfind, hring]
    exact if_pos (by simp [hcore, hsave, hdue])
  exact ⟨_, hexec, Stays.part (·.meter.aggregates) (.exportRecord .refl .self)⟩

/-- Settles O22: a correction's writes come before the judgement of the clock, and a window settles before what it exports. -/
theorem timeUnit : Obligations.TimeUnit := by
  unfold Obligations.TimeUnit
  exact ⟨exec_ptpMessage, exec_ppsInEdge, exec_taiSecond, exec_ptpPpsOutFall, exec_settleLimit, exec_aggWaitTimer⟩

end

end Sys2Proof.Machine


/-! Frames of the pace -/

namespace Sys2Proof.Machine

open Sys2Proof

section

set_option Elab.async false

def Scope.awaitPace : Scope := .of (fun z s => { s with ports.port := z.ports.port }) [.setPort]

theorem Stays.awaitPace {V : Scope} {s₀ s : State} {n : Nat} (h : Stays V s₀ s) (hv : Scope.awaitPace.Within V) : Stays V s₀
    (s.awaitPace n) :=
  .ite (.setPort h (hv.sub 0)) (.setPort h (hv.sub 0))

def Scope.lowerWaits : Scope := .of (fun z s => { s with ports.port := z.ports.port }) []

theorem Stays.lowerWaits {V : Scope} {s₀ s : State} (h : Stays V s₀ s) (hv : Scope.lowerWaits.Within V) : Stays V s₀ (s.lowerWaits)
    :=
  .upd h hv

def Scope.portChanged : Scope := .of (fun z s => { s with
    regs := z.regs, hub := z.hub, rings := z.rings, msix := z.msix, keeper.flash.ram := z.keeper.flash.ram,
    keeper.flash.flood := z.keeper.flash.flood, keeper.flash.counters := z.keeper.flash.counters, out := z.out,
    ports.port := z.ports.port }) [.setLink, .setPort, .awaitPace, .reg R.PORT_STATUS_LANES_UP, .reg R.PORT_STATUS_REVERSED, .reg
      R.PORT_STATUS_POLARITY, .lowerWaits]

theorem Stays.portChanged {V : Scope} {s₀ s : State} {n : Nat} {en : Nat} {rate : Nat} (h : Stays V s₀ s) (hv :
    Scope.portChanged.Within V) : Stays V s₀ (s.portChanged n en rate) :=
  .ite (.foldl (fun _ _ h => .setLink h (hv.sub 0)) (.awaitPace (.setPort h (hv.sub 1)) (hv.sub 2))) (.ite (.lowerWaits (.setPort
    (.wrN (.wrN (.wrN (.foldl (fun _ _ h => .setLink h (hv.sub 0)) h) (hv.sub 3)) (hv.sub 4)) (hv.sub 5)) (hv.sub 1)) (hv.sub 6))
    (.ite (.awaitPace h (hv.sub 2)) (.lowerWaits h (hv.sub 6))))

def Scope.paceNoted : Scope := .of (fun z s => { s with
    pace.fullFor := z.pace.fullFor, pace.short := z.pace.short }) []

/-- The count of full periods and the shortage, whatever they become. -/
theorem Stays.paceNoted {V : Scope} {s₀ s : State} {fullFor : Nat} {short : Bool} (h : Stays V s₀ s) (hv : Scope.paceNoted.Within V) :
    Stays V s₀ { s with pace.fullFor := fullFor, pace.short := short } :=
  .upd h hv

def Scope.throttleViews : Scope := .of (fun z s => { s with
    regs := z.regs, hub := z.hub, rings := z.rings, msix := z.msix, keeper.flash.ram := z.keeper.flash.ram,
    keeper.flash.flood := z.keeper.flash.flood, keeper.flash.counters := z.keeper.flash.counters, out := z.out,
    pace.fullFor := z.pace.fullFor, pace.short := z.pace.short }) [.reg R.PACE_ADMIT_FRACTION, .reg R.PACE_STATUS_THROTTLE,
    .reg R.PACE_THROTTLE_PERIODS, .raise, .occur, .paceNoted]

theorem Stays.throttleViews {V : Scope} {s₀ s : State} (h : Stays V s₀ s) (hv : Scope.throttleViews.Within V) : Stays V s₀ s.throttleViews := by
  have hfraction (f : Nat) (b : Bool) : Stays V s₀ ((s.wr R.PACE_ADMIT_FRACTION f).flag R.PACE_STATUS_THROTTLE b) :=
    .flag (.wr h (hv.sub 0)) (hv.sub 1)
  refine .ite ?_ ?_
  · exact .unless (.paceNoted (.bump (hfraction _ _) (hv.sub 2)) (hv.sub 5))
      (fun h => .raise (.paceNoted h (hv.sub 5)) (hv.sub 3))
  · refine .when (hfraction _ _) (fun h => .ite (.paceNoted h (hv.sub 5)) ?_)
    exact .when (.paceNoted h (hv.sub 5)) (fun h => .occur h (hv.sub 4))

def Scope.ceilingViews : Scope := .of (fun z s => { s with
    regs := z.regs, hub := z.hub, rings := z.rings, msix := z.msix, keeper.flash.ram := z.keeper.flash.ram,
    keeper.flash.flood := z.keeper.flash.flood, keeper.flash.counters := z.keeper.flash.counters, out := z.out,
    pace.ceiling := z.pace.ceiling }) [.reg R.PACE_STATUS_AT_CEILING, .raise]

theorem Stays.ceilingViews {V : Scope} {s₀ s : State} (h : Stays V s₀ s) (hv : Scope.ceilingViews.Within V) : Stays V s₀
    (s.ceilingViews) :=
  .when (.upd (.flag h (hv.sub 0)) hv) (fun h => .raise h (hv.sub 1))

def Scope.avsSend : Scope := .of (fun z s => { s with
    regs := z.regs, hub := z.hub, rings := z.rings, msix := z.msix, keeper.vddMv := z.keeper.vddMv,
    keeper.flash.ram := z.keeper.flash.ram, keeper.flash.flood := z.keeper.flash.flood,
    keeper.flash.counters := z.keeper.flash.counters, out := z.out, pace.avsFails := z.pace.avsFails,
    pace.retryAt := z.pace.retryAt }) [.reg R.PACE_STATUS_VDD_MV, .reg R.PACE_STATUS_AVS_OK, .send, .raiseKeeper]

theorem Stays.avsSend {V : Scope} {s₀ s : State} {v : Nat} {answered : Bool} (h : Stays V s₀ s) (hv : Scope.avsSend.Within V) :
    Stays V s₀ (s.avsSend v answered) :=
  .ite (.send (.wr (.wr (.upd h hv) (hv.sub 0)) (hv.sub 1)) (hv.sub 2)) (.ite (.raiseKeeper (.wr (.upd (.upd h hv) hv) (hv.sub 1))
    (hv.sub 3)) (.upd h hv))

def Scope.stepVoltage : Scope := .of (fun z s => { s with
    regs := z.regs, hub := z.hub, rings := z.rings, msix := z.msix, keeper.vddMv := z.keeper.vddMv,
    keeper.flash.ram := z.keeper.flash.ram, keeper.flash.flood := z.keeper.flash.flood,
    keeper.flash.counters := z.keeper.flash.counters, out := z.out, pace.above := z.pace.above,
    pace.avsFails := z.pace.avsFails, pace.retryAt := z.pace.retryAt }) [.avsSend]

theorem Stays.stepVoltage {V : Scope} {s₀ s : State} {answered : Bool} (h : Stays V s₀ s) (hv : Scope.stepVoltage.Within V) : Stays
    V s₀ (s.stepVoltage answered) :=
  .ite (.upd h hv) (.avsSend (.upd h hv) (hv.sub 0))

def Scope.checkMonitors : Scope := .of (fun z s => { s with
    regs := z.regs, hub := z.hub, rings := z.rings, msix := z.msix, keeper.flash.ram := z.keeper.flash.ram,
    keeper.flash.flood := z.keeper.flash.flood, keeper.flash.counters := z.keeper.flash.counters, out := z.out,
    pace.few := z.pace.few }) [.raiseKeeper]

theorem Stays.checkMonitors {V : Scope} {s₀ s : State} (h : Stays V s₀ s) (hv : Scope.checkMonitors.Within V) : Stays V s₀
    (s.checkMonitors) :=
  .ite (.raiseKeeper (.upd h hv) (hv.sub 0)) (.upd h hv)

end

end Sys2Proof.Machine


/-! Pace monitors, the voltage loop and the ports (R22, R24, R25, R28, R190, R473). -/

namespace Sys2Proof.Machine

open Sys2Proof

section

set_option Elab.async false

/-! ### Monitors and the voltage loop -/

theorem exec_paceMonitorSample (s : State) (n mhz : Nat) (hcore : s.coreOn = true) (hn : n < 64) (hisland : s.islandOn n = true) :
    ∃ t, exec (.paceMonitorSample n mhz) s = .next t ∧ t.rdN R.PACE_MON_RATE_MHZ n = min 65535 mhz ∧ AMap.has t.pace.monitors n = true := by
  have hstored : (s.wrN R.PACE_MON_RATE_MHZ n (min 65535 mhz)).rdN R.PACE_MON_RATE_MHZ n = min 65535 mhz :=
    (State.rdN_wrN_self s _ n _).trans (Nat.mod_eq_of_lt (Nat.lt_of_le_of_lt (Nat.min_le_left _ _) (by decide)))
  have hviews (t : State) (m : AMap Monitor) (v : Monitor) (h : t.rdN R.PACE_MON_RATE_MHZ n = min 65535 mhz) :
      ({ t with pace.monitors := AMap.set m n v } : State).paceViews.rdN R.PACE_MON_RATE_MHZ n = min 65535 mhz ∧
        AMap.has ({ t with pace.monitors := AMap.set m n v } : State).paceViews.pace.monitors n = true := by
    have hstays : Stays .paceViews ({ t with pace.monitors := AMap.set m n v } : State)
      ({ t with pace.monitors := AMap.set m n v } : State).paceViews := .paceViews .refl .self
    refine ⟨(hstays.rdN _ n rfl).trans h, ?_⟩
    rw [hstays.part (·.pace.monitors)]
    exact AMap.has_set_self m n v
  have hraise (t : State) (h : t.rdN R.PACE_MON_RATE_MHZ n = min 65535 mhz ∧ AMap.has t.pace.monitors n = true) :
      (t.raise Ev.FIRMWARE_PACE_MONITOR_FAULT []).rdN R.PACE_MON_RATE_MHZ n = min 65535 mhz ∧
        AMap.has (t.raise Ev.FIRMWARE_PACE_MONITOR_FAULT []).pace.monitors n = true := by
    have hstays : Stays .raise t (t.raise Ev.FIRMWARE_PACE_MONITOR_FAULT []) := .raise .refl .self
    rw [hstays.part (·.pace.monitors)]
    exact ⟨(hstays.rdN _ n rfl).trans h.1, h.2⟩
  refine ⟨_, congrArg Host.Outcome.next (if_neg (by simp [hcore, hisland]; omega)), ?_⟩
  extract_lets s₁ old pace s₂ g group m2 bad new pace' s₃
  have h₃ := hviews s₂ s₂.pace.monitors new hstored
  split
  · exact hraise _ h₃
  · exact h₃

/-- The voltage loop asks for a new step and is answered. -/
theorem State.stepVoltage_answered {s : State} (hretry : s.pace.retryAt = none) :
    (s.stepVoltage true).rd R.PACE_STATUS_AVS_OK = 1 ∧ (s.stepVoltage true).pace.avsFails = 0 ∧
      (s.stepVoltage true).rd R.PACE_STATUS_VDD_MV = (s.stepVoltage true).keeper.vddMv % 2 ^ R.PACE_STATUS_VDD_MV.width := by
  have hsend (t : State) (v : Nat) : (t.avsSend v true).rd R.PACE_STATUS_AVS_OK = 1 ∧ (t.avsSend v true).pace.avsFails = 0 ∧
      (t.avsSend v true).rd R.PACE_STATUS_VDD_MV = (t.avsSend v true).keeper.vddMv % 2 ^ R.PACE_STATUS_VDD_MV.width := by
    have havs : t.avsSend v true =
        (({ t with keeper.vddMv := v, pace.avsFails := 0 }.wr R.PACE_STATUS_VDD_MV v).wr R.PACE_STATUS_AVS_OK 1).send (.avsVoltage v) := rfl
    rw [havs]
    refine ⟨State.rd_wr_fits _ _ (by decide), by simp, ?_⟩
    refine (State.rd_wr_clear (f := R.PACE_STATUS_AVS_OK) ({ t with keeper.vddMv := v, pace.avsFails := 0 }.wr R.PACE_STATUS_VDD_MV v) 1 rfl).trans
      ((State.rd_wr_self _ _ v).trans ?_)
    simp
  have hstep : s.stepVoltage true = ({ s with pace.above := s.loopSetting.2 } : State).avsSend s.loopSetting.1 true :=
    if_neg (by simp [hretry])
  rw [hstep]
  exact hsend _ _

theorem State.paceCtrl_congr {s t : State} (hheld : t.pace.held = s.pace.held) (hvmax : t.rd R.PACE_CTRL_VMAX_MV = s.rd R.PACE_CTRL_VMAX_MV)
    (hmargin : t.rd R.PACE_CTRL_MARGIN_PCT = s.rd R.PACE_CTRL_MARGIN_PCT) (hpaced : t.rd R.PACE_CTRL_PACED_PCT = s.rd R.PACE_CTRL_PACED_PCT)
    (hrate : t.portRate = s.portRate) : t.paceCtrl = s.paceCtrl := by
  unfold State.paceCtrl
  rw [hheld, hvmax, hmargin, hpaced, hrate]

/-- The views of the monitors leave what the target rests on. -/
theorem State.targetMhz_paceViews (s : State) : s.paceViews.targetMhz = s.targetMhz := by
  have hviews : Stays .paceViews s s.paceViews := .paceViews .refl .self
  have hrate : s.paceViews.portRate = s.portRate := by
    have hport (n : Nat) : (if s.paceViews.rdN R.PORT_CTRL_ENABLE n = 1 then s.paceViews.rdN R.PORT_CTRL_RATE_GBPS n else 0) =
        if s.rdN R.PORT_CTRL_ENABLE n = 1 then s.rdN R.PORT_CTRL_RATE_GBPS n else 0 := by
      rw [hviews.rdN R.PORT_CTRL_ENABLE n rfl, hviews.rdN R.PORT_CTRL_RATE_GBPS n rfl]
    unfold State.portRate
    simp only [hport]
  have hctrl := State.paceCtrl_congr (hviews.part (·.pace.held)) (hviews.rdN R.PACE_CTRL_VMAX_MV 0 rfl) (hviews.rdN R.PACE_CTRL_MARGIN_PCT 0 rfl)
    (hviews.rdN R.PACE_CTRL_PACED_PCT 0 rfl) hrate
  have hpower : s.paceViews.rd R.LIFE_STATE_POWER = s.rd R.LIFE_STATE_POWER := hviews.rdN _ 0 rfl
  unfold State.targetMhz State.requiredMhz
  rw [hctrl, hpower]

theorem exec_loopPeriod (s : State) (hkeeper : s.keeperRuns = true) (hcore : s.coreOn = true) (hretry : s.pace.retryAt = none) :
    ∃ t, exec (.loopPeriod true) s = .next t ∧ t.rd R.PACE_STATUS_AVS_OK = 1 ∧ t.pace.avsFails = 0 ∧
      t.rd R.PACE_STATUS_VDD_MV = t.keeper.vddMv % 2 ^ R.PACE_STATUS_VDD_MV.width ∧
      t.rd R.PACE_REQUIRED_TARGET_MHZ = s.targetMhz % 2 ^ R.PACE_REQUIRED_TARGET_MHZ.width := by
  have hexec : exec (.loopPeriod true) s = .next (s.paceViews.deriveTarget.checkMonitors.stepVoltage true).ceilingViews.throttleViews :=
    congrArg Host.Outcome.next (if_neg (by simp [hkeeper, hcore]))
  have hviews : Stays .paceViews s s.paceViews := .paceViews .refl .self
  have hderive : Stays .deriveTarget s.paceViews s.paceViews.deriveTarget := .deriveTarget .refl .self
  have hcheck (t : State) : Stays .checkMonitors t t.checkMonitors := .checkMonitors .refl .self
  have hstep (t : State) : Stays .stepVoltage t (t.stepVoltage true) := .stepVoltage .refl .self
  have hceiling (t : State) : Stays .ceilingViews t t.ceilingViews := .ceilingViews .refl .self
  have hthrottle (t : State) : Stays .throttleViews t t.throttleViews := .throttleViews .refl .self
  have hretry' : s.paceViews.deriveTarget.checkMonitors.pace.retryAt = none :=
    ((hcheck _).part (·.pace.retryAt)).trans ((hderive.part (·.pace.retryAt)).trans ((hviews.part (·.pace.retryAt)).trans hretry))
  obtain ⟨hok, hfails, hvdd⟩ := State.stepVoltage_answered hretry'
  have htarget : s.paceViews.deriveTarget.rd R.PACE_REQUIRED_TARGET_MHZ = s.targetMhz % 2 ^ R.PACE_REQUIRED_TARGET_MHZ.width :=
    (State.rd_wr_self _ _ _).trans (congrArg (· % 2 ^ R.PACE_REQUIRED_TARGET_MHZ.width) s.targetMhz_paceViews)
  refine ⟨_, hexec, ?_, ?_, ?_, ?_⟩
  · exact ((hthrottle _).rdN _ 0 rfl).trans (((hceiling _).rdN _ 0 rfl).trans hok)
  · exact ((hthrottle _).part (·.pace.avsFails)).trans (((hceiling _).part (·.pace.avsFails)).trans hfails)
  · rw [(hthrottle _).part (·.keeper.vddMv), (hceiling _).part (·.keeper.vddMv)]
    exact ((hthrottle _).rdN _ 0 rfl).trans (((hceiling _).rdN _ 0 rfl).trans hvdd)
  · exact ((hthrottle _).rdN _ 0 rfl).trans (((hceiling _).rdN _ 0 rfl).trans (((hstep _).rdN _ 0 rfl).trans (((hcheck _).rdN _ 0 rfl).trans htarget)))

theorem exec_avsRetry (s : State) (hkeeper : s.keeperRuns = true) (hdue : due s.now s.pace.retryAt = true) :
    ∃ t, exec (.avsRetry true) s = .next t ∧ t.pace.retryAt = none ∧ t.pace.avsFails = 0 ∧ t.rd R.PACE_STATUS_AVS_OK = 1 ∧
      t.out = s.out ++ [.avsVoltage s.keeper.vddMv] :=
  ⟨_, congrArg Host.Outcome.next ((if_neg (by simp [hkeeper, hdue])).trans (if_pos rfl)), rfl, rfl, State.rd_wr_fits _ _ (by decide), rfl⟩

/-! ### Links of a port -/

theorem State.port_setPort (s : State) (n : Nat) (p : Port) : (s.setPort n p).port n = p := by
  simp [State.port, State.setPort]

theorem State.port_congr {s t : State} (h : t.ports.port = s.ports.port) (n : Nat) : t.port n = s.port n := by
  unfold State.port
  rw [h]

theorem State.port_setLink_of_ne {s : State} {n sub link : Nat} (h : (s.port n).link sub ≠ link) :
    (s.setLink n sub link).port n = { s.port n with links := AMap.set (s.port n).links sub link } := by
  have hview (t : State) : Stays .linkView t (t.linkView n) := .linkView .refl .self
  have hraise (t : State) : Stays .raise t (t.raise Ev.PORT_LINK_CHANGE [(1, n), (1, sub), (1, link)]) := .raise .refl .self
  unfold State.setLink
  rw [if_neg h]
  exact (State.port_congr (((hraise _).part (·.ports.port)).trans ((hview _).part (·.ports.port))) n).trans (s.port_setPort n _)

/-- A sub-port's link takes the value that it is given. -/
theorem State.link_setLink (s : State) (n sub link : Nat) : ((s.setLink n sub link).port n).link sub = link := by
  by_cases h : (s.port n).link sub = link
  · unfold State.setLink
    rw [if_pos h]
    exact h
  · rw [State.port_setLink_of_ne h]
    simp [Port.link]

theorem State.link_setLink_ne (s : State) {n sub k : Nat} (link : Nat) (hne : sub ≠ k) :
    ((s.setLink n sub link).port n).link k = (s.port n).link k := by
  by_cases h : (s.port n).link sub = link
  · unfold State.setLink
    rw [if_pos h]
  · rw [State.port_setLink_of_ne h]
    simp [Port.link, AMap.get?_set_ne _ _ hne]

theorem State.breakout_setLink (s : State) (n sub link : Nat) : ((s.setLink n sub link).port n).breakout = (s.port n).breakout := by
  by_cases h : (s.port n).link sub = link
  · unfold State.setLink
    rw [if_pos h]
  · rw [State.port_setLink_of_ne h]

/-- Sub-ports set to one link state, one after another. -/
def State.setLinks (s : State) (n link : Nat) (subs : List Nat) : State := subs.foldl (fun s sub => s.setLink n sub link) s

theorem State.link_setLinks (subs : List Nat) (s : State) {n link k : Nat} (h : k ∈ subs ∨ (s.port n).link k = link) :
    ((s.setLinks n link subs).port n).link k = link := by
  induction subs generalizing s with
  | nil => exact h.resolve_left (by simp)
  | cons sub subs ih =>
    refine ih (s.setLink n sub link) ?_
    by_cases hsub : sub = k
    · exact .inr (hsub ▸ s.link_setLink n sub link)
    · rcases h with hmem | hlink
      · exact .inl ((List.mem_cons.mp hmem).resolve_left (Ne.symm hsub))
      · exact .inr ((s.link_setLink_ne link hsub).trans hlink)

theorem State.breakout_setLinks (subs : List Nat) (s : State) (n link : Nat) :
    ((s.setLinks n link subs).port n).breakout = (s.port n).breakout := by
  induction subs generalizing s with
  | nil => rfl
  | cons sub subs ih => exact (ih (s.setLink n sub link)).trans (s.breakout_setLink n sub link)

theorem Stays.setLinks (s : State) (n link : Nat) (subs : List Nat) : Stays .setLink s (s.setLinks n link subs) :=
  .foldl (fun _ _ h => .setLink h .self) .refl

/-! ### The port's control register -/

/-- The fields of PORT_CTRL as a write stores them. -/
def State.portCtrlStored (s : State) (n v : Nat) : State :=
  let put (s : State) (f : Fld) : State := s.wrN f n (Fld.fixed f 0 (v / 2 ^ f.lo % 2 ^ f.width))
  put (put (put (put (put s R.PORT_CTRL_ENABLE) R.PORT_CTRL_BREAKOUT) R.PORT_CTRL_MEDIA) R.PORT_CTRL_FEC_LL) R.PORT_CTRL_RATE_GBPS

theorem State.enable_portCtrlStored (s : State) (n v : Nat) : (s.portCtrlStored n v).rdN R.PORT_CTRL_ENABLE n = v / 2 ^ 31 % 2 :=
  (State.rdN_wrN_clearOf _ n n _ rfl).trans ((State.rdN_wrN_clearOf _ n n _ rfl).trans ((State.rdN_wrN_clearOf _ n n _ rfl).trans
    ((State.rdN_wrN_clearOf _ n n _ rfl).trans ((State.rdN_wrN_self s _ n _).trans (Nat.mod_eq_of_lt (Nat.mod_lt _ (by decide)))))))

theorem exec_portCtrlWrite (s : State) (n v : Nat) (hcore : s.coreOn = true) (hn : n < 16) (hsave : s.save.active = false) :
    exec (.portCtrlWrite n v) s =
      .next ((s.portCtrlStored n v).portChanged n (s.rdN R.PORT_CTRL_ENABLE n) (s.rdN R.PORT_CTRL_RATE_GBPS n)) := by
  have hidle : ¬ (s.portCtrlStored n v).save.active = true := by simpa [State.portCtrlStored] using hsave
  exact congrArg Host.Outcome.next ((if_pos (by simp [hcore, hn, hsave])).trans (if_neg hidle))

/-- A port that waits for the core's pace keeps its links and its lanes. -/
theorem State.awaitPace_keeps (s : State) (n : Nat) : ((s.awaitPace n).port n).links = (s.port n).links ∧
    ((s.awaitPace n).port n).breakout = (s.port n).breakout := by
  unfold State.awaitPace
  dsimp only
  split
  · rw [State.port_setPort]
    exact ⟨rfl, rfl⟩
  · rw [State.port_setPort]
    exact ⟨rfl, rfl⟩

theorem exec_portCtrlWrite_enables (s : State) (n v : Nat) (hcore : s.coreOn = true) (hn : n < 16) (hsave : s.save.active = false)
    (hoff : s.rdN R.PORT_CTRL_ENABLE n = 0) (hv : v / 2 ^ 31 % 2 = 1) :
    ∃ t, exec (.portCtrlWrite n v) s = .next t ∧ t.rdN R.PORT_CTRL_ENABLE n = 1 ∧ (t.port n).link 0 = 1 ∧
      (t.port n).breakout = t.rdN R.PORT_CTRL_BREAKOUT n := by
  have henable : (s.portCtrlStored n v).rdN R.PORT_CTRL_ENABLE n = 1 := (s.enable_portCtrlStored n v).trans hv
  have hexec := exec_portCtrlWrite s n v hcore hn hsave
  generalize s.portCtrlStored n v = u at hexec henable
  rw [hoff] at hexec
  have hchanged : ∃ w, u.portChanged n 0 (s.rdN R.PORT_CTRL_RATE_GBPS n) = w.setLinks n 1 (List.range (subPorts (w.port n).breakout)) ∧
      Stays .portChanged u w ∧ (w.port n).breakout = u.rdN R.PORT_CTRL_BREAKOUT n := by
    have hv : Scope.portChanged.Within .portChanged := .self
    have hset (p : Port) : Stays .portChanged u ((u.setPort n p).awaitPace n) := .awaitPace (.setPort .refl (hv.sub 1)) (hv.sub 2)
    refine ⟨_, if_pos ⟨rfl, henable⟩, hset _, ?_⟩
    rw [(State.awaitPace_keeps _ n).2, State.port_setPort]
  obtain ⟨w, hlinks, hstays, hbreakout⟩ := hchanged
  rw [hlinks] at hexec
  have hsub : 0 ∈ List.range (subPorts (w.port n).breakout) := by
    refine List.mem_range.mpr ?_
    unfold subPorts
    split
    · decide
    · split <;> decide
  have hset := Stays.setLinks w n 1 (List.range (subPorts (w.port n).breakout))
  refine ⟨_, hexec, ?_, State.link_setLinks _ w (.inl hsub), ?_⟩
  · exact (hset.rdN _ n rfl).trans ((hstays.rdN _ n rfl).trans henable)
  · rw [State.breakout_setLinks]
    exact hbreakout.trans ((hset.rdN R.PORT_CTRL_BREAKOUT n rfl).trans (hstays.rdN R.PORT_CTRL_BREAKOUT n rfl)).symm

/-- Lower waits leave a port's links and the end of its own wait. -/
theorem State.lowerWaits_keeps (s : State) (n : Nat) : (s.lowerWaits.port n).links = (s.port n).links ∧
    (s.lowerWaits.port n).opensAt = (s.port n).opensAt := by
  have hmap (f : Port → Port) (m : AMap Port) : AMap.get? (m.map (fun e => (e.1, f e.2))) n = (AMap.get? m n).map f := by
    induction m with
    | nil => rfl
    | cons e m ih =>
      show (if e.1 = n then some (f e.2) else AMap.get? (m.map fun e => (e.1, f e.2)) n) = (if e.1 = n then some e.2 else AMap.get? m n).map f
      split
      · rfl
      · exact ih
  unfold State.lowerWaits State.port
  dsimp only
  rw [hmap (fun p => { p with target := min p.target s.targetMhz })]
  cases AMap.get? s.ports.port n with
  | none => exact ⟨rfl, rfl⟩
  | some p => exact ⟨rfl, rfl⟩

/-- A port whose links are down: no lanes, no wait and nothing to report. -/
def State.portSilenced (s : State) (n : Nat) : State :=
  let s := (s.wrN R.PORT_STATUS_LANES_UP n 0).wrN R.PORT_STATUS_REVERSED n 0
  ((s.wrN R.PORT_STATUS_POLARITY n 0).setPort n { s.port n with opensAt := none, unreported := [] }).lowerWaits

theorem State.portChanged_off {s : State} {n : Nat} (rate : Nat) (h : s.rdN R.PORT_CTRL_ENABLE n = 0) :
    s.portChanged n 1 rate = (s.setLinks n 0 (List.range 4)).portSilenced n := by
  have hon : ¬ ((1 : Nat) = 0 ∧ s.rdN R.PORT_CTRL_ENABLE n = 1) := fun hon => absurd hon.1 (by decide)
  unfold State.portChanged
  rw [if_neg hon, if_pos ⟨rfl, h⟩]
  rfl

theorem State.portSilenced_leaves (s : State) (n : Nat) : (s.portSilenced n).rdN R.PORT_CTRL_ENABLE n = s.rdN R.PORT_CTRL_ENABLE n ∧
    ((s.portSilenced n).port n).links = (s.port n).links ∧ ((s.portSilenced n).port n).opensAt = none ∧
    (s.portSilenced n).rdN R.PORT_STATUS_LANES_UP n = 0 := by
  have hlower (t : State) : Stays .lowerWaits t t.lowerWaits := .lowerWaits .refl .self
  have hport : ((s.wrN R.PORT_STATUS_LANES_UP n 0).wrN R.PORT_STATUS_REVERSED n 0).port n = s.port n := State.port_congr (by simp) n
  unfold State.portSilenced
  refine ⟨?_, ?_, ?_, ?_⟩
  · refine ((hlower _).rdN _ n rfl).trans ?_
    exact (State.rdN_wrN_clearOf _ n n 0 rfl).trans ((State.rdN_wrN_clearOf _ n n 0 rfl).trans (State.rdN_wrN_clearOf s n n 0 rfl))
  · rw [(State.lowerWaits_keeps _ n).1, State.port_setPort, hport]
  · rw [(State.lowerWaits_keeps _ n).2, State.port_setPort]
  · refine ((hlower _).rdN _ n rfl).trans ?_
    exact (State.rdN_wrN_clearOf _ n n 0 rfl).trans ((State.rdN_wrN_clearOf _ n n 0 rfl).trans (State.rdN_wrN_self s _ n 0))

theorem exec_portCtrlWrite_disables (s : State) (n v : Nat) (hcore : s.coreOn = true) (hn : n < 16) (hsave : s.save.active = false)
    (hon : s.rdN R.PORT_CTRL_ENABLE n = 1) (hv : v / 2 ^ 31 % 2 = 0) :
    ∃ t, exec (.portCtrlWrite n v) s = .next t ∧ t.rdN R.PORT_CTRL_ENABLE n = 0 ∧ (t.port n).link 0 = 0 ∧ (t.port n).opensAt = none ∧
      t.rdN R.PORT_STATUS_LANES_UP n = 0 := by
  have henable : (s.portCtrlStored n v).rdN R.PORT_CTRL_ENABLE n = 0 := (s.enable_portCtrlStored n v).trans hv
  have hexec := exec_portCtrlWrite s n v hcore hn hsave
  rw [hon, State.portChanged_off _ henable] at hexec
  obtain ⟨hctrl, hlinks, hopens, hlanes⟩ := ((s.portCtrlStored n v).setLinks n 0 (List.range 4)).portSilenced_leaves n
  have hset := Stays.setLinks (s.portCtrlStored n v) n 0 (List.range 4)
  have hlink := State.link_setLinks (List.range 4) (s.portCtrlStored n v) (n := n) (link := 0) (k := 0) (.inl (by decide))
  refine ⟨_, hexec, hctrl.trans ((hset.rdN _ n rfl).trans henable), ?_, hopens, hlanes⟩
  unfold Port.link at hlink ⊢
  rw [hlinks]
  exact hlink

/-! ### Link changes -/

/-- The lanes of a link as its port reports them. -/
def State.lanesReported (s : State) (n lanes : Nat) (reversed : Bool) (polarity : Nat) : State :=
  ((s.wrN R.PORT_STATUS_LANES_UP n lanes).wrN R.PORT_STATUS_REVERSED n (if reversed then 1 else 0)).wrN R.PORT_STATUS_POLARITY n polarity

theorem State.port_lanesReported (s : State) (n lanes : Nat) (reversed : Bool) (polarity : Nat) :
    (s.lanesReported n lanes reversed polarity).port n = s.port n := State.port_congr (by simp [State.lanesReported]) n

theorem exec_linkStateChange (s : State) (n sub link lanes polarity : Nat) (reversed : Bool) (hcore : s.coreOn = true) (hn : n < 16)
    (hon : s.rdN R.PORT_CTRL_ENABLE n ≠ 0) (hsub : sub < subPorts (s.port n).breakout) (hlink : link ≤ 2) :
    exec (.linkStateChange n sub link lanes reversed polarity) s = .next (if s.inGap then
      (s.lanesReported n lanes reversed polarity).setPort n { (s.lanesReported n lanes reversed polarity).port n with
        unreported := ((s.lanesReported n lanes reversed polarity).port n).unreported.filter (fun e => e.1 != sub) ++ [(sub, link)] }
      else (s.lanesReported n lanes reversed polarity).setLink n sub link) := by
  have hgap : (s.lanesReported n lanes reversed polarity).inGap = s.inGap := by simp [State.lanesReported, State.inGap]
  rw [← hgap]
  exact congrArg Host.Outcome.next (if_neg (by simp [hcore, hon]; omega))

theorem exec_linkStateChange_reported (s : State) (n sub link lanes polarity : Nat) (reversed : Bool) (hcore : s.coreOn = true) (hn : n < 16)
    (hon : s.rdN R.PORT_CTRL_ENABLE n ≠ 0) (hsub : sub < subPorts (s.port n).breakout) (hlink : link ≤ 2) (hgap : s.inGap = false) :
    ∃ t, exec (.linkStateChange n sub link lanes reversed polarity) s = .next t ∧ (t.port n).link sub = link ∧
      t.rdN R.PORT_STATUS_LANES_UP n = lanes % 2 ^ R.PORT_STATUS_LANES_UP.width ∧
      t.rdN R.PORT_STATUS_REVERSED n = (if reversed then 1 else 0) := by
  have hset : Stays .setLink (s.lanesReported n lanes reversed polarity) ((s.lanesReported n lanes reversed polarity).setLink n sub link) :=
    .setLink .refl .self
  have hbit : (if reversed then 1 else 0) < 2 ^ R.PORT_STATUS_REVERSED.width := by cases reversed <;> decide
  refine ⟨_, (exec_linkStateChange s n sub link lanes polarity reversed hcore hn hon hsub hlink).trans
    (congrArg Host.Outcome.next (if_neg (by simp [hgap]))), State.link_setLink _ n sub link, ?_, ?_⟩
  · exact (hset.rdN _ n rfl).trans ((State.rdN_wrN_clearOf _ n n _ rfl).trans ((State.rdN_wrN_clearOf _ n n _ rfl).trans (State.rdN_wrN_self s _ n lanes)))
  · exact (hset.rdN _ n rfl).trans ((State.rdN_wrN_clearOf _ n n _ rfl).trans ((State.rdN_wrN_self _ _ n _).trans (Nat.mod_eq_of_lt hbit)))

theorem exec_linkStateChange_gap (s : State) (n sub link lanes polarity : Nat) (reversed : Bool) (hcore : s.coreOn = true) (hn : n < 16)
    (hon : s.rdN R.PORT_CTRL_ENABLE n ≠ 0) (hsub : sub < subPorts (s.port n).breakout) (hlink : link ≤ 2) (hgap : s.inGap = true) :
    ∃ t, exec (.linkStateChange n sub link lanes reversed polarity) s = .next t ∧ (t.port n).links = (s.port n).links ∧
      (sub, link) ∈ (t.port n).unreported := by
  refine ⟨_, (exec_linkStateChange s n sub link lanes polarity reversed hcore hn hon hsub hlink).trans
    (congrArg Host.Outcome.next (if_pos hgap)), ?_⟩
  rw [State.port_setPort, State.port_lanesReported]
  exact ⟨rfl, List.mem_append_right _ List.mem_cons_self⟩

/-- Settles O23: the loop's registers outlast the views that follow, and a port's links are set one sub-port at a time. -/
theorem paceAndPorts : Obligations.PaceAndPorts := by
  unfold Obligations.PaceAndPorts
  exact ⟨exec_paceMonitorSample, exec_loopPeriod, exec_avsRetry, exec_portCtrlWrite_enables, exec_portCtrlWrite_disables,
    exec_linkStateChange_reported, exec_linkStateChange_gap⟩

end

end Sys2Proof.Machine


/-! The durability unit: the budget, the stage, the gather buffer, write-back and the dirty map (R136 to R138, R140, R144, R147, R503). -/

namespace Sys2Proof.Machine

open Sys2Proof

section

set_option Elab.async false

/-! ### The budget and the stage -/

theorem exec_budgetRecomputation (s : State) (mv : Nat) (hcore : s.coreOn = true) (htables : s.start.tablesDone = true)
    (hsave : s.save.active = false) (hdue : s.dur.nextBudget ≤ s.now) :
    ∃ t, exec (.budgetRecomputation mv) s = .next t ∧ t.dur.nextBudget = s.now + sec 10 ∧
      t.rd R.DUR_BUDGET_BUDGET_GIB = (s.readBank mv).budgetFor (s.readBank mv).eUsable % 2 ^ R.DUR_BUDGET_BUDGET_GIB.width := by
  have hexec : exec (.budgetRecomputation mv) s = .next (s.readBank mv).recomputeBudget :=
    congrArg Host.Outcome.next (if_pos (by simp [hcore, htables, hsave, hdue]))
  have hread : Stays .readBank s (s.readBank mv) := .readBank .refl .self
  have hsave' : (s.readBank mv).save.active = false := (hread.part (·.save.active)).trans hsave
  have hnow : (s.readBank mv).now = s.now := hread.part (·.now)
  generalize s.readBank mv = u at hexec hsave' hnow
  have hviews : Stays .budgetViews u u.budgetViews := .budgetViews .refl .self
  have hevents (t : State) (old new input : Nat) : Stays .budgetEvents t (t.budgetEvents old new input) := .budgetEvents .refl .self
  have hcompare (t : State) : Stays .compareD t t.compareD := .compareD .refl .self
  have hrecompute : ∃ old input prev, u.recomputeBudget =
      ({ (u.budgetViews.wr R.DUR_BUDGET_BUDGET_GIB (u.budgetFor u.eUsable)).budgetEvents old (u.budgetFor u.eUsable) input with
         dur.prevInputs := prev
         dur.nextBudget := ((u.budgetViews.wr R.DUR_BUDGET_BUDGET_GIB (u.budgetFor u.eUsable)).budgetEvents old (u.budgetFor u.eUsable) input).now +
           sec 10 } : State).compareD := ⟨_, _, _, if_neg (by simp [hsave'])⟩
  obtain ⟨old, input, prev, hrecompute⟩ := hrecompute
  rw [hrecompute] at hexec
  refine ⟨_, hexec, ?_, ?_⟩
  · refine ((hcompare _).part (·.dur.nextBudget)).trans (congrArg (· + sec 10) ?_)
    refine ((hevents _ _ _ _).part (·.now)).trans ?_
    exact (Stays.part (V := .reg R.DUR_BUDGET_BUDGET_GIB) (·.now) (.wr .refl .self)).trans ((hviews.part (·.now)).trans hnow)
  · exact ((hcompare _).rdN _ 0 rfl).trans (((hevents _ _ _ _).rdN R.DUR_BUDGET_BUDGET_GIB 0 rfl).trans (State.rd_wr_self _ _ _))

/-- A stage whose condition has been met for 1 ms falls by one where the next one has not. -/
theorem State.fallTo_succ {s : State} {k : Nat} (hbudget : s.on R.DUR_STATUS_OVER_BUDGET = false)
    (hsettled : due s.now ((AMap.get? s.dur.below (k + 1)).map (· + ms 1)) = true)
    (hnext : 0 < k → due s.now ((AMap.get? s.dur.below k).map (· + ms 1)) = false) : s.fallTo (k + 1) = k := by
  have hfall (j : Nat) : s.fallTo (j + 1) = if due s.now ((AMap.get? s.dur.below (j + 1)).map (· + ms 1)) then s.fallTo j else j + 1 := by
    have hdue : (!s.on R.DUR_STATUS_OVER_BUDGET && match AMap.get? s.dur.below (j + 1) with
        | some t => decide (t + ms 1 ≤ s.now)
        | none => false) = due s.now ((AMap.get? s.dur.below (j + 1)).map (· + ms 1)) := by
      rw [hbudget]
      cases AMap.get? s.dur.below (j + 1) <;> rfl
    rw [State.fallTo, ← hdue] <;> rfl
  rw [hfall, if_pos hsettled]
  cases k with
  | zero => rfl
  | succ j => rw [hfall, if_neg (by simp [hnext (Nat.succ_pos j)])]

theorem State.stage_setStage {s : State} {k : Nat} (h : s.stage ≠ k) (hk : k < 2 ^ R.DUR_STATUS_STAGE.width) : (s.setStage k).stage = k := by
  have hcount (t : State) : Stays .countThrottle t t.countThrottle := .countThrottle .refl .self
  have hraise (t : State) : Stays .raise t (t.raise Ev.DURABILITY_STAGE_CHANGE [(1, k)]) := .raise .refl .self
  have hstatus (t : State) : Stays .sendStatus t t.sendStatus := .sendStatus .refl .self
  have hset : ((s.wr R.DUR_STATUS_STAGE k).countThrottle).rdN R.DUR_STATUS_STAGE 0 = k :=
    ((hcount _).rdN _ 0 rfl).trans (State.rd_wr_fits s _ hk)
  unfold State.setStage
  rw [if_neg h]
  exact ((hstatus _).rdN R.DUR_STATUS_STAGE 0 rfl).trans (((hraise _).rdN _ 0 rfl).trans hset)

theorem exec_stageFallTimer (s : State) (k : Nat) (hcore : s.coreOn = true) (hsave : s.save.active = false) (hstage : s.stage = k + 1)
    (hk : k < 4) (hbudget : s.on R.DUR_STATUS_OVER_BUDGET = false)
    (hsettled : due s.now ((AMap.get? s.dur.below (k + 1)).map (· + ms 1)) = true)
    (hnext : 0 < k → due s.now ((AMap.get? s.dur.below k).map (· + ms 1)) = false) :
    ∃ t, exec .stageFallTimer s = .next t ∧ t.stage = k := by
  have hexec : exec .stageFallTimer s = .next (s.setStage (s.fallTo s.stage)) :=
    congrArg Host.Outcome.next (if_pos (by simp [hcore, hsave]))
  rw [hstage, State.fallTo_succ hbudget hsettled hnext] at hexec
  exact ⟨_, hexec, State.stage_setStage (by omega) (Nat.lt_of_lt_of_le hk (by decide))⟩

/-! ### The gather buffer -/

/-- No entry of the gather buffer has the number `k`, nor will a later one. -/
def State.EntryGone (s : State) (k : Nat) : Prop := k < s.eng.nextEntry ∧ ∀ g ∈ s.eng.gather, g.id ≠ k

theorem State.EntryGone.kept {W : Scope} {s t : State} {k : Nat} (h : s.EntryGone k) (hstays : Stays W s t)
    (hgather : ∀ z s, (W.rest z s).eng.gather = s.eng.gather := by exact fun _ _ => rfl)
    (hnext : ∀ z s, (W.rest z s).eng.nextEntry = s.eng.nextEntry := by exact fun _ _ => rfl) : t.EntryGone k := by
  obtain ⟨hlt, hne⟩ := h
  unfold State.EntryGone
  rw [hstays.part (·.eng.nextEntry) hnext, hstays.part (·.eng.gather) hgather]
  exact ⟨hlt, hne⟩

theorem State.EntryGone.updOp {s : State} {k id : Nat} {f : Op → Op} (h : s.EntryGone k) : (s.updOp id f).EntryGone k :=
  h.kept (.updOp .refl .self)

/-- A new entry takes the next number. -/
theorem State.EntryGone.added {s : State} {k : Nat} (h : s.EntryGone k) (g : Gather) (hg : g.id = s.eng.nextEntry) (a b c : Nat) :
    (({ s with eng.gather := s.eng.gather ++ [g], eng.nextEntry := s.eng.nextEntry + 1 } : State).markRun a b c).EntryGone k := by
  obtain ⟨hlt, hne⟩ := h
  have hadded : ({ s with eng.gather := s.eng.gather ++ [g], eng.nextEntry := s.eng.nextEntry + 1 } : State).EntryGone k := by
    refine ⟨Nat.lt_succ_of_lt hlt, fun x hx => ?_⟩
    rcases List.mem_append.mp hx with hold | hnew
    · exact hne x hold
    · rw [List.mem_singleton.mp hnew, hg]
      exact Nat.ne_of_gt hlt
  exact hadded.kept (.markRun .refl .self)

theorem State.EntryGone.foldlPair {α : Type} {k : Nat} (l : List α) (f : State × Nat → α → State × Nat)
    (hf : ∀ x a, x.1.EntryGone k → (f x a).1.EntryGone k) (x : State × Nat) (h : x.1.EntryGone k) : (l.foldl f x).1.EntryGone k := by
  induction l generalizing x with
  | nil => exact h
  | cons a l ih => exact ih (f x a) (hf x a h)

/-- The mirroring of data before it is placed. -/
def Scope.placedMirror : Scope := .of (fun z s => { Scope.mirrorData.rest z s with eng.ops := z.eng.ops }) [.mirrorData, .updOp]

theorem State.EntryGone.placeData {s : State} {k id seq off : Nat} {data : List Byte} {atomic : Bool} (h : s.EntryGone k) :
    (s.placeData id seq off data atomic).EntryGone k := by
  unfold State.placeData
  split
  · exact h
  · refine State.EntryGone.updOp (State.EntryGone.foldlPair _ _ (fun x p hx => hx.added _ rfl _ _ _) _ ?_)
    have hv : Scope.placedMirror.Within .placedMirror := .self
    exact h.kept (W := .placedMirror) (.when (.iteSnd (.mirrorData .refl (hv.sub 0)) .refl) (fun h => .updOp h (hv.sub 1)))

theorem State.EntryGone.placeHeld {s : State} {k id : Nat} (fuel : Nat) (h : s.EntryGone k) : (s.placeHeld id fuel).EntryGone k := by
  induction fuel generalizing s with
  | zero => exact h
  | succ fuel ih =>
    unfold State.placeHeld
    split
    · exact h
    · split
      · exact h
      · split
        · exact ih h.updOp.placeData
        · exact h

theorem State.EntryGone.ite {s t : State} {k : Nat} {c : Prop} [Decidable c] (hs : s.EntryGone k) (ht : t.EntryGone k) :
    (if c then s else t).EntryGone k := by
  split
  · exact hs
  · exact ht

theorem State.EntryGone.runAtomic {s : State} {k : Nat} (o : Op) (m : Nat) (h : s.EntryGone k) : (s.runAtomic o m).EntryGone k := by
  have hbump : (s.bump R.NEAR_ATOMICS 1).EntryGone k := h.kept (W := .reg R.NEAR_ATOMICS) (.bump .refl .self)
  unfold State.runAtomic
  dsimp only
  refine .ite (State.EntryGone.updOp (hbump.kept (.fresh .refl .self))) ?_
  split
  · exact hbump.updOp
  · refine State.EntryGone.placeData ?_
    split
    · exact hbump.updOp
    · exact hbump.updOp

/-- An operation that goes on takes new numbers alone for its entries. -/
theorem State.EntryGone.advanceOp {s : State} {k : Nat} (id : Nat) (h : s.EntryGone k) : (s.advanceOp id).EntryGone k := by
  have hbypass : (s.bump R.NEAR_BYPASS_READS 1).EntryGone k := h.kept (W := .reg R.NEAR_BYPASS_READS) (.bump .refl .self)
  have hlines (ls : List Nat) : (s.issueLines id ls).EntryGone k := h.kept (.issueLines .refl .self)
  unfold State.advanceOp
  dsimp only
  split
  · exact h
  next o _ =>
    refine .ite h (.ite (h.kept (.endOp .refl .self)) (.ite ?_ (.ite ?_ (.ite ?_ h.updOp))))
    · refine .ite (.ite h.updOp ?_) (.ite h (.ite h.updOp (.ite (hlines _) ?_)))
      · exact State.EntryGone.kept (.ite hbypass.updOp h) (.serveTile .refl .self)
      · exact (hbypass.kept (.consult .refl .self)).updOp
    · split
      · exact h
      · refine .ite h (.ite ?_ (.ite (h.runAtomic o _) h))
        split
        · exact .ite ((hlines _).runAtomic _ _) (hlines _)
        · exact hlines _
    · exact .ite h (State.EntryGone.placeHeld _ (.ite h (.ite h.updOp.placeData h.updOp)))

theorem State.EntryGone.advanceAll {s : State} {k : Nat} (h : s.EntryGone k) : s.advanceAll.EntryGone k := by
  unfold State.advanceAll
  generalize s.eng.ops.map (·.id) = ids
  induction ids generalizing s with
  | nil => exact h
  | cons id ids ih => exact ih (h.advanceOp id)

/-- An applied entry leaves the buffer. -/
theorem State.entryGone_applyEntry {s : State} {g : Gather} (h : g.id < s.eng.nextEntry) : (s.applyEntry g).EntryGone g.id := by
  have hnext : (s.applyEntry g).eng.nextEntry = s.eng.nextEntry := Stays.part (·.eng.nextEntry) (.applyEntry .refl .self)
  refine ⟨hnext ▸ h, fun x hx => ?_⟩
  obtain ⟨-, hid⟩ := List.mem_filter.mp hx
  exact bne_iff_ne.mp hid

theorem exec_gatherApply (s : State) (entry : Nat) (g : Gather) (hfind : s.eng.gather.find? (fun g => g.id == entry) = some g)
    (hcore : s.coreOn = true) (happlies : s.entryApplies g = true) (hlt : entry < s.eng.nextEntry) :
    ∃ t, exec (.gatherApply entry) s = .next t ∧ t.eng.gather.all (fun h => h.id != entry) = true := by
  have hexec : exec (.gatherApply entry) s = .next (s.applyEntry g).advanceAll.nearViews := by
    refine congrArg Host.Outcome.next ?_
    rw [hfind]
    exact if_pos (by simp [hcore, happlies])
  have hfound := List.find?_some hfind
  have hid : g.id = entry := eq_of_beq hfound
  obtain ⟨-, hne⟩ := ((State.entryGone_applyEntry (hid ▸ hlt)).advanceAll).kept (.nearViews .refl .self)
  exact ⟨_, hexec, List.all_eq_true.mpr (fun x hx => bne_iff_ne.mpr (hid ▸ hne x hx))⟩

/-! ### Write-back and the dirty map -/

/-- A page that is read for write-back is marked as such. -/
theorem State.dirty_snapshotPage (s : State) (page : Nat) (p : DirtyPage) :
    ∃ m q, q.reading = true ∧ (s.snapshotPage page p).dur.dirty = AMap.set m page q := by
  unfold State.snapshotPage
  generalize (pageChunks page).foldl State.cleanLine s = u
  extract_lets v again q dur
  have hq : q.reading = true := rfl
  clear_value q
  exact ⟨u.dur.dirty, q, hq, rfl⟩

theorem exec_writeBackIssue (s : State) (tagOk : Bool) (page : Nat) (p : DirtyPage) (hcore : s.coreOn = true) (htables : s.start.tablesDone = true)
    (hstep : s.save.active = true → s.save.step = 5) (holdest : s.oldestPage = some (page, p)) (hfloor : s.floorBars programBytes = false)
    (htag : tagOk = true ∧ s.tagOf page = p.tag ∨ s.pageMarks page ≠ []) :
    ∃ t, exec (.writeBackIssue tagOk) s = .next t ∧ (AMap.get? t.dur.dirty page).map (·.reading) = some true := by
  have hguard : ¬ (!s.coreOn || !s.start.tablesDone || (s.save.active && s.save.step != 5)) = true := by
    rw [hcore, htables]
    cases hactive : s.save.active with
    | false => simp
    | true => simp [hstep hactive]
  have hmatch : ¬ ((!tagOk || s.tagOf page != p.tag) && (s.pageMarks page).isEmpty) = true := by
    rcases htag with ⟨hok, heq⟩ | hmarks
    · simp [hok, heq]
    · simp [hmarks]
  have hexec : exec (.writeBackIssue tagOk) s = .next (s.snapshotPage page p).nearViews := by
    refine congrArg Host.Outcome.next ((if_neg hguard).trans ?_)
    rw [holdest]
    exact (if_neg (by simp [hfloor])).trans (if_neg hmatch)
  have hdirty : (s.snapshotPage page p).nearViews.dur.dirty = (s.snapshotPage page p).dur.dirty := Stays.part (·.dur.dirty) (.nearViews .refl .self)
  refine ⟨_, hexec, ?_⟩
  obtain ⟨m, q, hq, hset⟩ := s.dirty_snapshotPage page p
  rw [hdirty, hset, AMap.get?_set_self]
  exact congrArg some hq

theorem exec_dirtyMapClear (s : State) (unit t : Nat) (hmap : AMap.get? s.dur.map unit = some ⟨some t⟩) (hcore : s.coreOn = true)
    (hdue : t + sec 10 ≤ s.now) : exec (.dirtyMapClear unit) s = .next { s with dur.map := AMap.del s.dur.map unit } := by
  refine congrArg Host.Outcome.next ?_
  rw [hmap]
  exact if_pos (by simp [hcore, hdue])

/-- Settles O26: the budget and the stage outlast the comparison with D, and no entry takes an old number. -/
theorem durabilityUnit : Obligations.DurabilityUnit := by
  unfold Obligations.DurabilityUnit
  exact ⟨exec_budgetRecomputation, exec_stageFallTimer, exec_gatherApply, exec_writeBackIssue, exec_dirtyMapClear⟩

end

end Sys2Proof.Machine


/-! Frames of DRAM and its integrity -/

namespace Sys2Proof.Machine

open Sys2Proof

section

set_option Elab.async false

def Scope.startYield : Scope := .of (fun z s => { s with
    regs := z.regs, hub := z.hub, rings := z.rings, msix := z.msix, keeper.outputs := z.keeper.outputs,
    keeper.flash.ram := z.keeper.flash.ram, keeper.flash.flood := z.keeper.flash.flood,
    keeper.flash.counters := z.keeper.flash.counters, keeper.indFault := z.keeper.indFault, twin.yield := z.twin.yield,
    twin.homeSince := z.twin.homeSince, out := z.out, ports.port := z.ports.port }) [.raise, .twinViews]

theorem Stays.startYield {V : Scope} {s₀ s : State} {cause : Nat} {cmd : Option Nat} {tag : Nat} (h : Stays V s₀ s) (hv :
    Scope.startYield.Within V) : Stays V s₀ (s.startYield cause cmd tag).2 :=
  .iteSnd (.twinViews (.ite (.raise (.upd h hv) (hv.sub 0)) (.upd h hv)) (hv.sub 1)) (.ite (.raise h (hv.sub 0)) h)

def Scope.setDramChannel : Scope := .of (fun z s => { s with dram.channels := z.dram.channels }) []

theorem Stays.setDramChannel {V : Scope} {s₀ s : State} {n : Nat} {c : DramChannel} (h : Stays V s₀ s) (hv :
    Scope.setDramChannel.Within V) : Stays V s₀ (s.setDramChannel n c) :=
  .upd h hv

def Scope.startRepair : Scope := .of (fun z s => { s with
    regs := z.regs, hub := z.hub, rings := z.rings, msix := z.msix, keeper.flash.ram := z.keeper.flash.ram,
    keeper.flash.flood := z.keeper.flash.flood, keeper.flash.counters := z.keeper.flash.counters, out := z.out,
    dram.channels := z.dram.channels, dram.repairing := z.dram.repairing }) [.raise, .setDramChannel, .reg R.DRAM_CH_STATUS_PPR_LEFT]

theorem Stays.startRepair {V : Scope} {s₀ s : State} {k : Nat} (h : Stays V s₀ s) (hv : Scope.startRepair.Within V) : Stays V s₀
    (s.startRepair k) := by
  unfold State.startRepair
  dsimp only
  split
  · exact h
  · exact .ite h (.ite (.raise h (hv.sub 0)) (.upd (.wrN (.setDramChannel h (hv.sub 1)) (hv.sub 2)) hv))

def Scope.rowWorn : Scope := .of (fun z s => { s with
    regs := z.regs, hub := z.hub, rings := z.rings, msix := z.msix, keeper.flash.ram := z.keeper.flash.ram,
    keeper.flash.flood := z.keeper.flash.flood, keeper.flash.counters := z.keeper.flash.counters, out := z.out,
    dram.channels := z.dram.channels, dram.repairing := z.dram.repairing }) [.startRepair]

theorem Stays.rowWorn {V : Scope} {s₀ s : State} {k : Nat} (h : Stays V s₀ s) (hv : Scope.rowWorn.Within V) : Stays V s₀ (s.rowWorn
    k) :=
  .ite (.startRepair h (hv.sub 0)) h

def Scope.dropFills : Scope := .of (fun z s => { s with
    regs := z.regs, eng.ops := z.eng.ops, near.ways := z.near.ways, near.lru := z.near.lru, near.victims := z.near.victims,
    near.misses := z.near.misses, mem := z.mem, flash.lost := z.flash.lost, flash.relocate := z.flash.relocate,
    flash.journal := z.flash.journal, flash.codewords := z.flash.codewords, flash.logSeq := z.flash.logSeq }) [.mergeImage, .wakeLine,
      .nextFill]

theorem Stays.dropFills {V : Scope} {s₀ s : State} (h : Stays V s₀ s) (hv : Scope.dropFills.Within V) : Stays V s₀ (s.dropFills) :=
    by
  unfold State.dropFills
  refine .foldl (fun _ _ h => ?_) h
  refine .nextFill ?_ (hv.sub 2)
  refine .wakeLine ?_ (hv.sub 1)
  refine .upd ?_ hv
  split
  · exact .foldl (fun _ _ h => .mergeImage h (hv.sub 0)) h
  · exact h

def Scope.mergeGather : Scope := .of (fun z s => { s with
    eng.gather := z.eng.gather, mem.image := z.mem.image, mem.imagePoison := z.mem.imagePoison, flash.lost := z.flash.lost,
    flash.relocate := z.flash.relocate, flash.journal := z.flash.journal, flash.codewords := z.flash.codewords,
    flash.logSeq := z.flash.logSeq }) [.mergeEntry]

theorem Stays.mergeGather {V : Scope} {s₀ s : State} (h : Stays V s₀ s) (hv : Scope.mergeGather.Within V) : Stays V s₀
    (s.mergeGather) :=
  .upd (.foldl (fun _ _ h => .mergeEntry h (hv.sub 0)) h) hv

def Scope.selfTestYield : Scope := .of (fun z s => { s with
    regs := z.regs, hub := z.hub, rings := z.rings, msix := z.msix, keeper.outputs := z.keeper.outputs,
    keeper.flash.ram := z.keeper.flash.ram, keeper.flash.flood := z.keeper.flash.flood,
    keeper.flash.counters := z.keeper.flash.counters, keeper.indFault := z.keeper.indFault, twin.yield := z.twin.yield,
    twin.homeSince := z.twin.homeSince, out := z.out, ports.port := z.ports.port }) [.startYield]

theorem Stays.selfTestYield {V : Scope} {s₀ s : State} (h : Stays V s₀ s) (hv : Scope.selfTestYield.Within V) : Stays V s₀
    (s.selfTestYield) :=
  .startYield h (hv.sub 0)

def Scope.dramOut : Scope := .of (fun z s => { s with
    regs := z.regs, hub := z.hub, rings := z.rings, msix := z.msix, keeper.outputs := z.keeper.outputs,
    keeper.flash.ram := z.keeper.flash.ram, keeper.flash.flood := z.keeper.flash.flood,
    keeper.flash.counters := z.keeper.flash.counters, keeper.indFault := z.keeper.indFault, eng.ops := z.eng.ops,
    eng.gather := z.eng.gather, eng.nextEntry := z.eng.nextEntry, near.ways := z.near.ways, near.lru := z.near.lru,
    near.victims := z.near.victims, near.misses := z.near.misses, dur.dirty := z.dur.dirty, dur.peaks := z.dur.peaks,
    dur.below := z.dur.below, dur.map := z.dur.map, dur.throttleFrom := z.dur.throttleFrom, twin.sent := z.twin.sent,
    twin.unacked := z.twin.unacked, twin.cut := z.twin.cut, twin.frame := z.twin.frame, twin.frameAt := z.twin.frameAt,
    twin.txSeq := z.twin.txSeq, twin.replayBuf := z.twin.replayBuf, twin.credit := z.twin.credit,
    twin.diverged := z.twin.diverged, twin.assayOpen := z.twin.assayOpen, twin.assayMine := z.twin.assayMine,
    twin.recent := z.twin.recent, twin.yield := z.twin.yield, twin.homeSince := z.twin.homeSince,
    shelf.tiles := z.shelf.tiles, mem := z.mem, domain.counter := z.domain.counter, domain.nextMsg := z.domain.nextMsg,
    domain.requests := z.domain.requests, out := z.out, ports.port := z.ports.port, flash.lost := z.flash.lost,
    flash.relocate := z.flash.relocate, flash.journal := z.flash.journal, flash.codewords := z.flash.codewords,
    flash.logSeq := z.flash.logSeq, free := z.free }) [.endOp, .reg R.DRAM_CH_STATUS_STATE, .reg R.DRAM_CH_STATUS_OUT_CAUSE, .reg
      R.DRAM_STATUS_IN_SERVICE, .reg R.DRAM_CAPACITY_TOTAL_GIB, .paceViews, .raise, .mergeGather, .dropFills, .selfTestYield,
      .advanceAll]

theorem Stays.dramOut {V : Scope} {s₀ s : State} {n : Nat} {cause : Nat} (h : Stays V s₀ s) (hv : Scope.dramOut.Within V) : Stays V
    s₀ (s.dramOut n cause) :=
  .ite h (.advanceAll (.when (.dropFills (.mergeGather (.foldl (fun _ _ h => .endOp h (hv.sub 0)) (.raise (.paceViews (.wr (.wr (.wrN
    (.wrN h (hv.sub 1)) (hv.sub 2)) (hv.sub 3)) (hv.sub 4)) (hv.sub 5)) (hv.sub 6))) (hv.sub 7)) (hv.sub 8)) (fun h =>
    .selfTestYield h (hv.sub 9))) (hv.sub 10))

def Scope.dramCe : Scope := .of (fun z s => { s with
    regs := z.regs, hub := z.hub, rings := z.rings, msix := z.msix, keeper.flash.ram := z.keeper.flash.ram,
    keeper.flash.flood := z.keeper.flash.flood, keeper.flash.counters := z.keeper.flash.counters, out := z.out,
    dram.channels := z.dram.channels, dram.rows := z.dram.rows, dram.repairing := z.dram.repairing }) [.reg R.DRAM_CE, .reg
      R.DRAM_CH_CE_COUNT, .rowWorn]

theorem Stays.dramCe {V : Scope} {s₀ s : State} {a : Nat} (h : Stays V s₀ s) (hv : Scope.dramCe.Within V) : Stays V s₀ (s.dramCe a)
    :=
  .iteOn (.bumpSat (.bump h (hv.sub 0)) (hv.sub 1)) (fun h => .rowWorn (.upd h hv) (hv.sub 2)) (fun h => .upd h hv)

end

end Sys2Proof.Machine


/-! DRAM refresh, sensors, parity and repair, fills, scrubbing, table reloads and the repair of poison (R206, R253, R255 to R257, R259, R287,
R294, R297). -/

namespace Sys2Proof.Machine

open Sys2Proof

section

set_option Elab.async false

/-! ### Refresh and sensors -/

theorem exec_refreshDue (s : State) (ch bank : Nat) (c : DramChannel) (hch : s.dramChannel ch = some c) (hcore : s.coreOn = true)
    (hstate : s.rdN R.DRAM_CH_STATUS_STATE ch = 2)
    (hdue : (AMap.get? s.dram.refreshed (ch * 256 + bank % 256)).getD 0 + s.refreshInterval c ≤ s.now) :
    exec (.refreshDue ch bank) s = .next { s with dram.refreshed := AMap.set s.dram.refreshed (ch * 256 + bank % 256) s.now } := by
  refine congrArg Host.Outcome.next ?_
  dsimp only
  rw [hch]
  exact if_pos (by simp [hcore, hstate, hdue])

/-- Refresh is throttled from THROTTLE_C on, and until 3 degrees below it. -/
def State.throttles (s : State) (c : DramChannel) (temp : Nat) : Bool :=
  decide (s.rd R.DRAM_REFRESH_THROTTLE_C ≤ temp) || (c.throttled && decide (s.rd R.DRAM_REFRESH_THROTTLE_C < temp + 3))

/-- A channel's reading below its limit. -/
def State.sensorRead (s : State) (ch temp : Nat) (c : DramChannel) : State :=
  let throttled := s.throttles c temp
  let s := s.wrN R.DRAM_CH_STATUS_TEMP_C ch (min 255 temp)
  let s := s.setDramChannel ch { c with hot := decide (85 < temp), throttled, answered := s.now, silent := false }
  if throttled && !c.throttled then s.raise Ev.DRAM_THERMAL [] else s

theorem State.sensorRead_leaves (s : State) (ch : Nat) {temp : Nat} (c : DramChannel) (htemp : temp < 105) :
    (s.sensorRead ch temp c).rdN R.DRAM_CH_STATUS_TEMP_C ch = temp ∧
      ((s.sensorRead ch temp c).dramChannel ch).map (fun x => (x.hot, x.answered, x.silent)) = some (decide (85 < temp), s.now, false) := by
  have hread : (s.wrN R.DRAM_CH_STATUS_TEMP_C ch (min 255 temp)).rdN R.DRAM_CH_STATUS_TEMP_C ch = temp := by
    rw [Nat.min_eq_right (by omega)]
    exact (State.rdN_wrN_self s _ ch temp).trans (Nat.mod_eq_of_lt (Nat.lt_trans htemp (by decide)))
  have hnow : (s.wrN R.DRAM_CH_STATUS_TEMP_C ch (min 255 temp)).now = s.now := by simp [State.now]
  have hraise (t : State) : Stays .raise t (t.raise Ev.DRAM_THERMAL []) := .raise .refl .self
  unfold State.sensorRead
  dsimp only
  generalize s.wrN R.DRAM_CH_STATUS_TEMP_C ch (min 255 temp) = u at hread hnow
  have hchannel (c' : DramChannel) : AMap.get? (u.setDramChannel ch c').dram.channels ch = some c' := AMap.get?_set_self _ ch c'
  unfold State.dramChannel
  split
  · rw [(hraise _).part (·.dram.channels), hchannel, hnow]
    exact ⟨((hraise _).rdN _ ch rfl).trans hread, rfl⟩
  · rw [hchannel, hnow]
    exact ⟨hread, rfl⟩

theorem exec_dramSensorRead (s : State) (ch temp : Nat) (c : DramChannel) (hch : s.dramChannel ch = some c) (hcore : s.coreOn = true)
    (_ : ch < 24) (hstate : s.rdN R.DRAM_CH_STATUS_STATE ch = 2) (htemp : temp < 105) :
    ∃ t, exec (.dramSensorRead ch (some temp)) s = .next t ∧ t.rdN R.DRAM_CH_STATUS_TEMP_C ch = temp ∧
      (t.dramChannel ch).map (fun x => (x.hot, x.answered, x.silent)) = some (decide (85 < temp), s.now, false) := by
  have hexec : exec (.dramSensorRead ch (some temp)) s = .next (s.sensorRead ch temp c) := by
    refine congrArg Host.Outcome.next ?_
    rw [hch]
    exact (if_neg (by simp [hcore, hstate])).trans (if_neg (by omega))
  exact ⟨_, hexec, s.sensorRead_leaves ch c htemp⟩

/-! ### A channel goes out of service -/

/-- A channel out of service, before its operations end. -/
def State.channelCut (s : State) (n cause : Nat) : State :=
  let s := (s.wrN R.DRAM_CH_STATUS_STATE n 3).wrN R.DRAM_CH_STATUS_OUT_CAUSE n cause
  let left := s.rd R.DRAM_STATUS_IN_SERVICE - 1
  (s.wr R.DRAM_STATUS_IN_SERVICE left).wr R.DRAM_CAPACITY_TOTAL_GIB (left * s.dram.gib)

theorem State.channelCut_leaves (s : State) (n : Nat) {cause : Nat} (hcause : cause < 2 ^ R.DRAM_CH_STATUS_OUT_CAUSE.width) :
    (s.channelCut n cause).rdN R.DRAM_CH_STATUS_STATE n = 3 ∧ (s.channelCut n cause).rdN R.DRAM_CH_STATUS_OUT_CAUSE n = cause ∧
      (s.channelCut n cause).rd R.DRAM_STATUS_IN_SERVICE = (s.rd R.DRAM_STATUS_IN_SERVICE - 1) % 2 ^ R.DRAM_STATUS_IN_SERVICE.width := by
  have hleft : ((s.wrN R.DRAM_CH_STATUS_STATE n 3).wrN R.DRAM_CH_STATUS_OUT_CAUSE n cause).rd R.DRAM_STATUS_IN_SERVICE =
      s.rd R.DRAM_STATUS_IN_SERVICE := (State.rdN_wrN_clearOf _ n 0 cause rfl).trans (State.rdN_wrN_clearOf s n 0 3 rfl)
  refine ⟨?_, ?_, ?_⟩
  · exact (State.rdN_wrN_clearOf _ 0 n _ rfl).trans ((State.rdN_wrN_clearOf _ 0 n _ rfl).trans ((State.rdN_wrN_clearOf _ n n cause rfl).trans
      ((State.rdN_wrN_self s _ n 3).trans rfl)))
  · exact (State.rdN_wrN_clearOf _ 0 n _ rfl).trans ((State.rdN_wrN_clearOf _ 0 n _ rfl).trans
      ((State.rdN_wrN_self _ _ n cause).trans (Nat.mod_eq_of_lt hcause)))
  · refine (State.rdN_wrN_clearOf _ 0 0 _ rfl).trans ((State.rd_wr_self _ _ _).trans ?_)
    rw [hleft]

/-- What the loss of a channel does once its registers are written. -/
def Scope.channelLost : Scope := .of Scope.dramOut.rest [.endOp, .paceViews, .raise, .mergeGather, .dropFills, .selfTestYield, .advanceAll]

theorem Stays.channelLost {s : State} {n : Nat} (cause : Nat) (h : s.rdN R.DRAM_CH_STATUS_STATE n = 2) :
    Stays .channelLost (s.channelCut n cause) (s.dramOut n cause) := by
  have hv : Scope.channelLost.Within .channelLost := .self
  have hcut : Stays .channelLost (s.channelCut n cause) (((((s.wrN R.DRAM_CH_STATUS_STATE n 3).wrN R.DRAM_CH_STATUS_OUT_CAUSE n cause).wr
      R.DRAM_STATUS_IN_SERVICE (((s.wrN R.DRAM_CH_STATUS_STATE n 3).wrN R.DRAM_CH_STATUS_OUT_CAUSE n cause).rd R.DRAM_STATUS_IN_SERVICE - 1)).wr
      R.DRAM_CAPACITY_TOTAL_GIB ((((s.wrN R.DRAM_CH_STATUS_STATE n 3).wrN R.DRAM_CH_STATUS_OUT_CAUSE n cause).rd R.DRAM_STATUS_IN_SERVICE - 1) *
        ((s.wrN R.DRAM_CH_STATUS_STATE n 3).wrN R.DRAM_CH_STATUS_OUT_CAUSE n cause).dram.gib))) := .refl
  unfold State.dramOut
  rw [if_neg (by simp [h])]
  exact .advanceAll (.when (.dropFills (.mergeGather (.foldl (fun _ _ h => .endOp h (hv.sub 0)) (.raise (.paceViews hcut (hv.sub 1)) (hv.sub 2)))
    (hv.sub 3)) (hv.sub 4)) (fun h => .selfTestYield h (hv.sub 5))) (hv.sub 6)

theorem exec_caParityError (s : State) (ch retries : Nat) (hcore : s.coreOn = true) (hretries : 3 ≤ retries) (_ : ch < 24)
    (hstate : s.rdN R.DRAM_CH_STATUS_STATE ch = 2) :
    ∃ t, exec (.caParityError ch retries) s = .next t ∧ t.rdN R.DRAM_CH_STATUS_STATE ch = 3 ∧ t.rdN R.DRAM_CH_STATUS_OUT_CAUSE ch = 8 ∧
      t.rd R.DRAM_STATUS_IN_SERVICE = (s.rd R.DRAM_STATUS_IN_SERVICE - 1) % 2 ^ R.DRAM_STATUS_IN_SERVICE.width := by
  have hexec : exec (.caParityError ch retries) s = .next (s.dramOut ch 8) := congrArg Host.Outcome.next (if_pos (by simp [hcore, hretries]))
  obtain ⟨hcut, hcause, hservice⟩ := s.channelCut_leaves ch (cause := 8) (by decide)
  have hlost := Stays.channelLost 8 hstate
  exact ⟨_, hexec, (hlost.rdN _ ch rfl).trans hcut, (hlost.rdN _ ch rfl).trans hcause, (hlost.rdN _ 0 rfl).trans hservice⟩

theorem exec_spprComplete (s : State) (ch rank bank row : Nat) (hcore : s.coreOn = true)
    (hrepairs : s.dram.repairing.contains (rowKey ch rank bank row) = true) :
    ∃ t, exec (.spprComplete ch rank bank row) s = .next t ∧ t.dram.repairing = s.dram.repairing.filter (· != rowKey ch rank bank row) ∧
      t.rd R.DRAM_PPR = (s.rd R.DRAM_PPR + 1) % 2 ^ R.DRAM_PPR.width := by
  have hadvance (t : State) : Stays .advanceAll t t.advanceAll := .advanceAll .refl .self
  have hraise (t : State) : Stays .raise t (t.raise Ev.DRAM_PPR_APPLIED []) := .raise .refl .self
  have hbump (t : State) : Stays (.reg R.DRAM_PPR) t (t.bump R.DRAM_PPR 1) := .bump .refl .self
  refine ⟨_, congrArg Host.Outcome.next (if_pos (by rw [hcore, hrepairs]; rfl)), ?_, ?_⟩
  · exact ((hadvance _).part (·.dram.repairing)).trans (((hraise _).part (·.dram.repairing)).trans ((hbump _).part (·.dram.repairing)))
  · exact ((hadvance _).rdN _ 0 rfl).trans (((hraise _).rdN _ 0 rfl).trans (State.rd_wr_self _ _ _))

/-! ### Fills -/

theorem State.advanceAll_of_idle {s : State} (h : s.eng.ops = []) : s.advanceAll = s := by
  unfold State.advanceAll
  rw [h]
  rfl

theorem State.nextFill_of_idle {s : State} (b : Nat) (h : s.eng.ops = []) : s.nextFill b = s := by
  unfold State.nextFill
  rw [h]
  rfl

/-- An installed fill stands in the way that waited for it, and its miss is over. -/
theorem State.installFill_leaves {s : State} {bank w : Nat} {m : Miss} (hmiss : AMap.get? s.near.misses bank = some m) (hway : m.way = some w)
    (hidle : s.eng.ops = []) : (s.installFill bank false).eng.ops = [] ∧ AMap.get? (s.installFill bank false).near.misses bank = none ∧
      ((s.installFill bank false).wayLine w).map (fun x => (x.line, x.state, x.data)) =
        some (m.line, if m.merged.isEmpty then .clean else .dirty, m.merged.foldl (fun d p => d.set p.1 p.2) (s.dramLine m.line)) := by
  unfold State.installFill
  rw [hmiss]
  dsimp only
  rw [hway]
  refine ⟨?_, AMap.get?_del_self _ bank, ?_⟩
  · exact (congrArg (List.map _) hidle).trans rfl
  · exact congrArg (Option.map _) (AMap.get?_set_self _ w _)

theorem exec_nearFillComplete (s : State) (bank w : Nat) (m : Miss) (hmiss : AMap.get? s.near.misses bank = some m) (hway : m.way = some w)
    (hcore : s.coreOn = true) (hsave : s.save.active = false) (hbusy : s.bankBusy (m.line * 64) = false)
    (hgone : s.channelGone (m.line * 64) = false) (haged : s.behindAged m = false) (hidle : s.eng.ops = []) :
    ∃ t, exec (.nearFillComplete bank false) s = .next t ∧ AMap.get? t.near.misses bank = none ∧
      (t.wayLine w).map (fun x => (x.line, x.state, x.data)) = some (m.line, if m.merged.isEmpty then .clean else .dirty,
        m.merged.foldl (fun d p => d.set p.1 p.2) (s.dramLine m.line)) := by
  have hexec : exec (.nearFillComplete bank false) s = .next ((s.installFill bank false).nextFill bank).advanceAll.nearViews := by
    refine congrArg Host.Outcome.next ?_
    rw [hmiss]
    exact if_neg (by simp [hcore, hsave, hbusy, hgone, haged])
  obtain ⟨hidle', hnone, hline⟩ := State.installFill_leaves hmiss hway hidle
  rw [State.nextFill_of_idle bank hidle', State.advanceAll_of_idle hidle'] at hexec
  generalize s.installFill bank false = u at hexec hnone hline
  have hviews : Stays .nearViews u u.nearViews := .nearViews .refl .self
  have hmisses : u.nearViews.near.misses = u.near.misses := hviews.part (·.near.misses)
  have hways : u.nearViews.wayLine w = u.wayLine w := congrArg (AMap.get? · w) (hviews.part (·.near.ways))
  rw [← hmisses] at hnone
  rw [← hways] at hline
  exact ⟨_, hexec, hnone, hline⟩

theorem exec_dramRequestAged (s : State) (bank : Nat) (m : Miss) (hmiss : AMap.get? s.near.misses bank = some m) (hcore : s.coreOn = true)
    (hdue : m.since + us (s.rd R.DRAM_AGE_AGE_US) ≤ s.now) :
    exec (.dramRequestAged bank) s = .next { s with near.misses := AMap.set s.near.misses bank { m with aged := true } } := by
  refine congrArg Host.Outcome.next ?_
  rw [hmiss]
  exact if_pos (by simp [hcore, hdue])

/-! ### Scrubbing, reloads and repairs -/

theorem State.scrubProgress_dram (s : State) {pct : Nat} (h : pct < 100) : s.scrubProgress 0 pct = s.wr R.INTEG_SCRUB_STATUS_DRAM_PCT pct :=
  (if_pos rfl).trans (if_neg (by omega))

theorem exec_scrub_clean (s : State) (pct : Nat) (ue : Bool) (hcore : s.coreOn = true) (hsave : s.save.active = false)
    (hpower : s.rd R.LIFE_STATE_POWER ≠ 2) (hpct : pct < 100) :
    exec (.scrub 0 pct none ue) s = .next (s.wr R.INTEG_SCRUB_STATUS_DRAM_PCT pct) := by
  refine congrArg Host.Outcome.next ((if_neg (by simp [hcore, hsave, hpower])).trans ?_)
  exact s.scrubProgress_dram hpct

/-- A corrected error of DRAM counts. -/
theorem State.ce_dramCe (s : State) (a : Nat) : (s.dramCe a).rd R.DRAM_CE = (s.rd R.DRAM_CE + 1) % 2 ^ R.DRAM_CE.width := by
  have hworn (t : State) (k : Nat) : Stays .rowWorn t (t.rowWorn k) := .rowWorn .refl .self
  have hcounted : ((s.bump R.DRAM_CE 1).bumpSat R.DRAM_CH_CE_COUNT (s.channelOf a) 1).rd R.DRAM_CE = (s.rd R.DRAM_CE + 1) % 2 ^ R.DRAM_CE.width :=
    (State.rdN_wrN_clearOf _ _ 0 _ rfl).trans (State.rd_wr_self s _ _)
  unfold State.dramCe
  generalize (s.bump R.DRAM_CE 1).bumpSat R.DRAM_CH_CE_COUNT (s.channelOf a) 1 = u at hcounted
  extract_lets k s₁ ts
  clear_value ts
  split
  · exact ((hworn _ _).rdN _ 0 rfl).trans hcounted
  · exact hcounted

theorem exec_scrub_ce (s : State) (pct a : Nat) (hcore : s.coreOn = true) (hsave : s.save.active = false)
    (hpower : s.rd R.LIFE_STATE_POWER ≠ 2) (hpct : pct < 100) :
    ∃ t, exec (.scrub 0 pct (some (.dram a)) false) s = .next t ∧ t.rd R.DRAM_CE = (s.rd R.DRAM_CE + 1) % 2 ^ R.DRAM_CE.width ∧
      t.rd R.INTEG_SCRUB_STATUS_DRAM_PCT = pct := by
  have hexec : exec (.scrub 0 pct (some (.dram a)) false) s = .next ((s.wr R.INTEG_SCRUB_STATUS_DRAM_PCT pct).dramCe a).advanceAll := by
    refine congrArg Host.Outcome.next ((if_neg (by simp [hcore, hsave, hpower])).trans ?_)
    dsimp only
    rw [s.scrubProgress_dram hpct]
    exact (if_neg (by simp [hsave, hpower])).trans rfl
  have hadvance (t : State) : Stays .advanceAll t t.advanceAll := .advanceAll .refl .self
  have hcount : (s.wr R.INTEG_SCRUB_STATUS_DRAM_PCT pct).rd R.DRAM_CE = s.rd R.DRAM_CE := State.rd_wr_clear s pct rfl
  have hprogress : (s.wr R.INTEG_SCRUB_STATUS_DRAM_PCT pct).rd R.INTEG_SCRUB_STATUS_DRAM_PCT = pct :=
    State.rd_wr_fits s _ (Nat.lt_trans hpct (by decide))
  generalize s.wr R.INTEG_SCRUB_STATUS_DRAM_PCT pct = u at hexec hcount hprogress
  refine ⟨_, hexec, ?_, ?_⟩
  · exact ((hadvance _).rdN _ 0 rfl).trans ((State.ce_dramCe u a).trans (congrArg (fun n => (n + 1) % 2 ^ R.DRAM_CE.width) hcount))
  · exact ((hadvance _).rdN _ 0 rfl).trans ((Stays.rdN (.dramCe .refl .self) R.INTEG_SCRUB_STATUS_DRAM_PCT 0 rfl).trans hprogress)

theorem exec_tableReloadComplete (s : State) (kind entry : Nat) (ok : Bool) (hcore : s.coreOn = true)
    (hreloads : s.integ.reloading.contains (kind, entry) = true) :
    ∃ t, exec (.tableReloadComplete kind entry ok) s = .next t ∧ t.integ.reloading = s.integ.reloading.filter (· != (kind, entry)) ∧
      t.integ.failed = s.integ.failed ++ (if ok then [] else [(kind, entry)]) := by
  have hguard : ¬ (!s.coreOn || !s.integ.reloading.contains (kind, entry)) = true := by rw [hcore, hreloads]; decide
  have hmove (t : State) : Stays .moveWaiters t t.moveWaiters := .moveWaiters .refl .self
  have hraise (t : State) : Stays .raise t (t.raise Ev.INTEGRITY_SRAM_UE []) := .raise .refl .self
  cases ok with
  | true =>
    exact ⟨_, congrArg Host.Outcome.next ((if_neg hguard).trans (if_pos rfl)), (hmove _).part (·.integ.reloading),
      ((hmove _).part (·.integ.failed)).trans (List.append_nil _).symm⟩
  | false =>
    exact ⟨_, congrArg Host.Outcome.next ((if_neg hguard).trans (if_neg (by decide))),
      ((hmove _).part (·.integ.reloading)).trans ((hraise _).part (·.integ.reloading)),
      ((hmove _).part (·.integ.failed)).trans ((hraise _).part (·.integ.failed))⟩

/-- DRAM takes the image's chunk again, and the chunk loses its mark. -/
def State.chunkRepaired (s : State) (l : Nat) (d : List Byte) : State :=
  let s := { s with integ.fixing := s.integ.fixing.filter (· != l) }
  let s := if AMap.has s.dur.dirty (l / 64) then s else { s with mem.dram := Mem.writeN s.mem.dram (l * 64) d }
  { s with mem.dramPoison := AMap.del s.mem.dramPoison l }.setMark l false

theorem State.setMark_unmarked (s : State) (l : Nat) (h : AMap.has s.mem.dramPoison l = false) :
    AMap.has (s.setMark l false).mem.dramPoison l = false := by
  unfold State.setMark
  dsimp only
  split
  · split
    · split
      · exact AMap.has_del_self _ l
      · exact h
    · exact h
  · split
    · exact h
    · exact AMap.has_del_self _ l

theorem State.chunkRepaired_leaves (s : State) (l : Nat) (d : List Byte) : (s.chunkRepaired l d).integ.fixing.contains l = false ∧
    AMap.has (s.chunkRepaired l d).mem.dramPoison l = false := by
  have hmark (t : State) : Stays .setMark t (t.setMark l false) := .setMark .refl .self
  have hfixing : (s.integ.fixing.filter (· != l)).contains l = false := by simp
  unfold State.chunkRepaired
  refine ⟨?_, State.setMark_unmarked _ l (AMap.has_del_self _ l)⟩
  rw [(hmark _).part (·.integ.fixing)]
  split
  · exact hfixing
  · exact hfixing

theorem exec_poisonRepairComplete (s : State) (l : Nat) (d : List Byte) (hcore : s.coreOn = true) (hfixing : s.integ.fixing.contains l = true)
    (hchunk : s.flashChunk l = some d) (hpoison : AMap.has s.mem.dramPoison l = true) :
    ∃ t, exec (.poisonRepairComplete l true) s = .next t ∧ t.integ.fixing.contains l = false ∧
      (s.eng.ops = [] → AMap.has t.mem.dramPoison l = false) := by
  have hchunk' : ({ s with integ.fixing := s.integ.fixing.filter (· != l) } : State).flashChunk l = some d := hchunk
  have hexec : exec (.poisonRepairComplete l true) s = .next (s.chunkRepaired l d).advanceAll := by
    refine congrArg Host.Outcome.next ((if_neg (by rw [hcore, hfixing]; decide)).trans ?_)
    refine congrArg State.advanceAll ?_
    rw [hchunk']
    exact (if_neg (by simp [hpoison])).trans rfl
  obtain ⟨hfixed, hunmarked⟩ := s.chunkRepaired_leaves l d
  have hadvance : Stays .advanceAll (s.chunkRepaired l d) (s.chunkRepaired l d).advanceAll := .advanceAll .refl .self
  refine ⟨_, hexec, ?_, fun hidle => ?_⟩
  · rw [hadvance.part (·.integ.fixing)]
    exact hfixed
  · have hmark (t : State) : Stays .setMark t (t.setMark l false) := .setMark .refl .self
    have hidle' : (s.chunkRepaired l d).eng.ops = [] := by
      unfold State.chunkRepaired
      rw [(hmark _).part (·.eng.ops)]
      split
      · exact hidle
      · exact hidle
    rw [State.advanceAll_of_idle hidle']
    exact hunmarked

/-- Settles O29: a channel's registers outlast its loss, and with no operation under way a fill wakes nothing. -/
theorem dramAndIntegrity : Obligations.DramAndIntegrity := by
  unfold Obligations.DramAndIntegrity
  exact ⟨exec_refreshDue, exec_dramSensorRead, exec_caParityError, exec_spprComplete, exec_nearFillComplete, exec_dramRequestAged,
    exec_scrub_clean, exec_scrub_ce, exec_tableReloadComplete, exec_poisonRepairComplete⟩

end

end Sys2Proof.Machine


namespace Sys2Proof.Machine

open Sys2Proof

/-! ### Two lock ranges under one number

The range that covers a repeated CACHE_LOCK is found by a walk over the list, and the range that it settles by its number: where the list
holds the number twice, the two differ. -/

/-- CACHE_LOCK, fetched and next to be accepted. -/
def cacheLockCmd : Cmd := ⟨1, 0, 0, 0x0501, 7, false, false, .fetched, 0, 0, 0, [], false, none, (0, 0, 0)⟩

/-- An unpaired H9 that serves, with CACHE_LOCK in flight; lock number 5 stands for a range of the SHELF region 2, no tile of which is
staged, and then for one of the WRITABLE region 1. -/
def doubleLockState : State :=
  { ((State.reset.wr R.KEEPER_STATUS_SEQ_STATE 2).wr R.LIFE_STATE_LIFECYCLE 2).wr R.NEAR_CTRL_ENABLE 1 with
    keeper.powered := true
    twin.holder := true
    start := { State.reset.start with presented := true, admitted := true, step := 11, tablesDone := true }
    cmds := [cacheLockCmd]
    nextCmd := 2
    prot.regions := [(1, ⟨.active, 0, 0x200000, 0x200000, true, false, false, false, true, 0, 5, 0, 0⟩),
      (2, ⟨.active, 0x200000, 0x200000, 0x200000, false, false, true, false, true, 0, 5, 0, 0⟩)]
    prot.extents := [⟨0, 1, 1, false, 0, 0⟩, ⟨1, 1, 2, true, 0, 0⟩]
    shelf.objects := [(0, ⟨.ready, 0, true, 5, 0x20000, 4, 9, [], [], [], true⟩)]
    near.locks := [(5, ⟨2, 0, 128⟩), (5, ⟨1, 0, 128⟩)] }

/-- The WRITABLE region of that state. -/
def lockedRegion : Region := ⟨.active, 0, 0x200000, 0x200000, true, false, false, false, true, 0, 5, 0, 0⟩

theorem doubleLockState_accepts : Accepts doubleLockState ⟨0, 0⟩ 0x0501 cacheLockCmd := by decide +kernel

theorem doubleLockState_region : doubleLockState.region? 1 = some lockedRegion := by decide +kernel

theorem doubleLockState_verdict : doubleLockState.lockVerdict 1 0 128 = .ok (5, true, 128) := rfl

/-- How the command stands after CACHE_LOCK of 128 bytes of region 1. -/
def lockOutcome (s : State) : Option (CmdPhase × Nat × Nat × Nat) :=
  match exec (.cacheLock ⟨0, 0⟩ 1 0 128) s with
  | .next t => (t.cmds.find? (fun d => d.id == 1)).map (fun d => (d.phase, d.status, d.detail, d.result))
  | _ => none

theorem lockOutcome_doubleLock : lockOutcome doubleLockState ≠ some (.ended, St.DONE, 0, 5) := by decide +kernel

/-- Refutes O30: a lock number that stands twice in the list names a range of a SHELF region with a missing tile, so that the command
waits for the tile and does not end (clause 1). -/
theorem not_nearCacheRows : ¬ Obligations.NearCacheRows := by
  unfold Obligations.NearCacheRows
  rintro ⟨hlock, -⟩
  obtain ⟨t, ht, hended, -⟩ := hlock doubleLockState ⟨0, 0⟩ cacheLockCmd 1 0 128 5 128 true lockedRegion doubleLockState_accepts rfl
    doubleLockState_region rfl doubleLockState_verdict
  have hafter := lockOutcome_doubleLock
  rw [lockOutcome, ht] at hafter
  exact hafter hended

end Sys2Proof.Machine
